-- ==== Sys2Proof/Word.lean ====
section
/-! DEFINITION. The word types of the block and their plainest arithmetic (spec/00_scope.md R13, "Numbers, units and byte order"). -/

namespace Sys2Proof

/-- One byte. -/
abbrev Byte := BitVec 8
/-- A 32-bit register or memory word. -/
abbrev Word := BitVec 32
/-- A 16-bit field. -/
abbrev Half := BitVec 16
/-- A 64-bit address, key identifier or value. -/
abbrev Long := BitVec 64

end Sys2Proof
end

