-- ==== Sys2Proof/Syntax.lean ====
section
/-! DEFINITION. The commands of the block: one constructor per row of spec/opcode_table.json, with the operands the
rules of that row name.  Outside data (what a host read, a card, a drive or a physical check delivers) is an operand. -/

namespace Sys2Proof

/-- The two sides of a mailbox (03 R87, R88). -/
inductive Side where
  | sender | receiver
  deriving DecidableEq, Repr

/-- A mailbox: CMD or EVT of a function, or an internal one (03 R87). -/
inductive MbxId where
  | cmd (f : Fin 64)
  | evt (f : Fin 64)
  | internal (i : Fin 16)
  deriving DecidableEq, Repr

/-- Privilege level of an access (19 R528). -/
inductive Level where
  | user | supervisor | machine
  deriving DecidableEq, Repr

/-- A bus master that firmware code runs on: custody cores 0-3, Cobbler 4 (03 R98: numbers 65-69). -/
abbrev CoreNo := Fin 5

/-- How a direct-memory read ends early (03 R75). -/
inductive EarlyEnd where
  | timeout | unsupported | aborted | poisoned
  deriving DecidableEq, Repr

/-- A space of a function that the host reaches: one of its BARs, or its configuration space (01 R35; 03 R71, R81). -/
inductive HostSpace where
  | bar0 | bar2 | bar4 | config
  deriving DecidableEq, Repr

/-- A host access: its space, offset and size in bytes, with the data of a write, or none for a read (03 R83). -/
structure HostAccess where
  space : HostSpace
  offset : Nat
  size : Nat
  data : Option Long
  deriving DecidableEq, Repr

/-- The header of a Cetrix command block as firmware finds it (04 R102), the function that posted it, and what the
reads brought: `headerRead` is false when the header read ended early, `bodyRead` counts the body bytes received, and `early`
says how a read that ended early ended (03 R75).  `elapsed` is the time in microseconds from the take of the notice to the
response (04 R107). -/
structure CmdHdr where
  fn : Fin 64
  addr : Long
  headerRead : Bool
  magic : Half
  major : Byte
  minor : Byte
  flags : Half
  tag : Word
  reqLen : Word
  respAddr : Long
  respCap : Word
  session : Word
  timeout : Word
  reservedZero : Bool
  bodyRead : Nat
  elapsed : Word
  early : EarlyEnd := .timeout
  deriving DecidableEq, Repr

/-- The 32 attribute bytes of a slot, which are also the template (05 R161). -/
structure Attr where
  type : Byte
  count : Byte
  owner : Half
  usage : Word
  check : Byte
  exportability : Byte
  mode : Byte
  keyUsage : Half
  keyVersion : Half
  state : Byte
  salt : Half
  generation : Half
  matLen : Half
  rsv : BitVec 80
  deriving DecidableEq, Repr

/-- A firmware image as read (02 R53): the bytes received, and how a read ended early, if one did (R75). -/
structure Image where
  data : List Byte
  early : Option EarlyEnd
  deriving DecidableEq, Repr

/-- What QUORUM_PRESENT finds at its source (04 R152, R153; 16 R481): a card's X.509 certificate with its signature over the
challenge, the bytes of a share file's 16 blocks, no card, or a card removed. -/
inductive Credential where
  | card (cert sig : List Byte)
  | file (blocks : List Byte)
  | absent
  | removed
  deriving DecidableEq, Repr

/-- The PORT_CONFIG record (08 R287, 09 R301). -/
structure PortRecord where
  flags : Byte
  code : Byte
  rsv2Zero : Bool
  alpha : Half
  beta : Half
  vlo : Word
  vhi : Word
  lead : Word
  gate : Word
  agate : Word
  acqN : Byte
  rsv25 : Byte
  tmoUs : Half
  holdMs : Half
  rsv30Zero : Bool
  deriving DecidableEq, Repr

/-- What firmware reads from an initialised card (15 R447-R449): the blocks of the two header copies, the 1,024 blocks of the journal,
and the data of each run whose INTENT has no later COMMIT or VOID, in the order of their sequences. -/
structure CardScan where
  headers : List Byte
  journal : List Byte
  runs : List (List Byte)
  deriving DecidableEq, Repr

/-- How a card transfer of CARD_READ or CARD_WRITE ends (15 R443, R446, R449): all blocks with their data, short with the
bytes confirmed, the card removed, or removed in its busy phase, or at the command's timeout. -/
inductive CardIo where
  | done (data : List Byte)
  | short (confirmed : Nat)
  | removed
  | goneInBusy
  | timeout
  deriving DecidableEq, Repr

/-- How an APDU exchange with a contact card ends (15 R451-R454): with its response, the card removed, a failure of R454, or no ATR. -/
inductive ApduIo where
  | done (response : List Byte)
  | removed
  | failed
  | absent
  deriving DecidableEq, Repr

/-- How a badge poll ends (14 R432). -/
inductive PollIo where
  | found (typeB : Bool) (uid : List Byte)
  | absent
  | fieldPresent
  deriving DecidableEq, Repr

/-- How a cut ends on a core (07 R242-R246): its check passes, or it mismatches (in GHASH or in the datapaths).  `read` holds the
bytes that its reads of host memory brought: the AAD first, then the source, whose IV and tag for GCM_DEC are part of it. -/
inductive CutEnd where
  | pass (read : List Byte)
  | mismatch (ghash : Bool)
  deriving DecidableEq, Repr

/-- The header of a received Sole frame (08 R262): flags, sequence and body length; and the CRC at its end, which a SECTOR
frame brings with SECTOR_FRAME_END. -/
structure FrameHdr where
  flags : Byte
  seq : Half
  bodyLen : Word
  crc : Word := 0
  deriving DecidableEq, Repr

/-- The command word of a PKE operation other than its OP (10 R339), and the master that writes it. -/
structure PkeCmd where
  master : CoreNo
  level : Level
  set : BitVec 3
  inline : Bool
  prehash : Bool
  kout : Bool
  ch : Fin 4
  rsv : Half
  deriving DecidableEq, Repr

/-- How a PKE computation went as the engine's checks see it (10 R331): whether the self-check passes, and the iterations of
MLDSA_SIGN and the time it took, which no rule fixes. -/
structure PkeDone where
  checkOk : Bool
  iter : Nat
  pclk : Word
  deriving DecidableEq, Repr

/-- The command word of a digest channel operation other than its OP (11 R360), and the level of the writer. -/
structure DigCmd where
  writer : CoreNo
  level : Level
  alg : Byte
  verify : Bool
  kout : Bool
  ch : Fin 4
  meas : Bool
  midx : Fin 32
  ksrc : BitVec 2
  rsv : Byte
  deriving DecidableEq, Repr

/-- How a Stitch or ECC error meets the frame write of an exception entry (19 R538, R539): on the frame at SP, on the
words of the escalation. -/
structure EntryEnv where
  frameErr : Bool
  escalationErr : Bool
  deriving DecidableEq, Repr

/-- The fields of an Awl instruction word other than OP (18 R501), and what its accesses bring from outside: the data
of an outbound-window read, whether that read ended early, and a Stitch or ECC error met (19 R532, order 3:
on the fetch, on the access; `true` for ECC), and on the frame write of an exception that the instruction raises. -/
structure AwlIn where
  am : BitVec 3
  sz : BitVec 2
  mod : BitVec 3
  d16 : Half
  hostData : Long
  hostEarly : Bool
  early : EarlyEnd := .timeout
  fetchErr : Option Bool
  accessErr : Option Bool
  entry : EntryEnv
  deriving DecidableEq, Repr

/-- A Welt frame as a lane receives it (16 R460; 08 R262): header flags and sequence, the frame counter of a protected frame, which the
receiver keeps, the body, and the CRC. -/
structure WeltRx where
  lane : Fin 2
  flags : Byte
  seq : Half
  counter : Long
  body : List Byte
  crc : Word
  deriving DecidableEq, Repr

/-- A HELLO frame's body (16 R460), and whether its sender is CARRYING (R473), which no field of the body states. -/
structure Hello where
  version : Byte
  device : Half
  epoch : Word
  dkId : Long
  pairId : Long
  random : BitVec 256
  carrying : Bool
  deriving DecidableEq, Repr

/-- One mirror record (16 R465), by kind. -/
inductive MirrorRec where
  | keyLoad (handle : Word) (blob : List Byte)
  | keyUnload (handle : Word)
  | lease (slot : Fin 32768) (top : Word)
  | ringCfg (ring : Fin 16384) (fn : Fin 64) (vector : BitVec 5) (size : BitVec 5) (tenant : BitVec 10) (irq : Bool)
      (desc cmpl shd : Long) (destroyed : Bool)
  | window (fn : Fin 64) (win : Fin 8) (base limit : Long)
  | counts (ring : Fin 16384) (p f c : Word)
  | context (ring : Fin 16384) (count : Word) (entry : List Byte)
  | staged (ring : Fin 16384) (count : Word) (header tag : List Byte) (deferrals : Nat)
  | portCfg (port : Fin 16) (data : List Byte)
  | logHead (seq : Word) (head : BitVec 128)
  deriving DecidableEq, Repr

/-- Where a register write comes from (03 R88, 13 R410 ...): the host through BAR0 of a function, or a core. -/
inductive RegWriter where
  | host (f : Fin 64)
  | core (c : CoreNo) (level : Level)
  deriving DecidableEq, Repr

/-- The commands of the block, in the order of spec/opcode_table.json; each docstring is the row's mnemonic and rule. -/
inductive Instr where
  /-- PWRGD_FALL (R41). -/
  | pwrgdFall
  /-- PWRGD_RISE (R43). -/
  | pwrgdRise
  /-- PERST_N_ASSERT (R41). -/
  | perstAssert
  /-- PERST_N_RELEASE (R42). -/
  | perstRelease (late : Bool)
  /-- INSOLE_SUPPLY_SWITCH (R38). -/
  | insoleSupplySwitch (toVbat : Bool)
  /-- INSOLE_EMPTY_RESTART (R39). -/
  | insoleEmptyRestart
  /-- MAIN_RESET_END (R43). -/
  | mainResetEnd
  /-- RNG_READY (R367). -/
  | rngReady (katM katK : Bool)
  /-- PUF_RECONSTRUCTION_DONE (R44). -/
  | pufReconstructionDone (ok : Bool)
  /-- LOADER_LIVE (R43). -/
  | loaderLive
  /-- RNG_BOOT_TIMEOUT (R368). -/
  | rngBootTimeout
  /-- LDR_GO (R55). -/
  | ldrGo (f : Fin 64) (v : Word)
  /-- IMAGE_READ_TIMEOUT (R55). -/
  | imageReadTimeout
  /-- IMAGE_VERIFY_DONE (R55). -/
  | imageVerifyDone (img : Image)
  /-- MBX_MSG_LO_WRITE (R90). -/
  | mbxMsgLoWrite (m : MbxId) (side : Side) (v : Word)
  /-- MBX_MSG_HI_WRITE (R90). -/
  | mbxMsgHiWrite (m : MbxId) (side : Side) (v : Word)
  /-- MBX_MSG_HI_READ (R90). -/
  | mbxMsgHiRead (m : MbxId) (side : Side)
  /-- MBX_TIMEOUT (R90). -/
  | mbxTimeout (m : MbxId)
  /-- MBX_DBELL_WRITE (R95). -/
  | mbxDbellWrite (m : MbxId) (side : Side) (v : Word)
  /-- MBX_DBCLR_WRITE (R88). -/
  | mbxDbclrWrite (m : MbxId) (side : Side) (v : Word)
  /-- MBX_LOCK_READ (R98). -/
  | mbxLockRead (m : MbxId) (requester : Fin 70)
  /-- MBX_LOCK_WRITE (R98). -/
  | mbxLockWrite (m : MbxId) (requester : Fin 70) (v : Word)
  /-- MBX_HROUTE_WRITE (R101). -/
  | mbxHrouteWrite (f : Fin 64) (level : Level) (v : Word)
  /-- EVT_NOTICE_POST (R112). -/
  | evtNoticePost (f : Fin 64)
  /-- FUNCTION_LEVEL_RESET (R79). -/
  | functionLevelReset (f : Fin 64)
  /-- FLR_COMPLETE (R212). -/
  | flrComplete (f : Fin 64)
  /-- HOT_RESET (R78). -/
  | hotReset
  /-- D3HOT_TO_D0 (R78). -/
  | d3hotToD0 (f : Fin 64)
  /-- NUMVFS_WRITE (R73). -/
  | numVfsWrite (v : Half)
  /-- POISONED_WRITE (R76). -/
  | poisonedWrite (f : Fin 64)
  /-- BAR_BAD_ACCESS (R83). -/
  | barBadAccess (f : Fin 64) (x : HostAccess)
  /-- IDE_KM_KEY_PROG (R77). -/
  | ideKmKeyProg (stream : Fin 9) (sub : Fin 3) (dir : Fin 2) (key : List Byte)
  /-- UNDEFINED_OPCODE (R114). -/
  | undefinedOpcode (h : CmdHdr) (opcode : Half)
  /-- COMMAND_TIMEOUT (R117). -/
  | commandTimeout (f : Fin 64) (tag : Word) (elapsed : Word)
  /-- SESSION_OPEN (R120). -/
  | sessionOpen (h : CmdHdr) (role : Byte) (rsv : Byte) (tenant : Half) (seq : Word) (sigLen : Word) (sig : List Byte)
  /-- SESSION_CLOSE (R123). -/
  | sessionClose (h : CmdHdr)
  /-- QUORUM_BEGIN (R150). -/
  | quorumBegin (h : CmdHdr) (purpose : Half) (window : Half) (rsv : Word) (digest : BitVec 384)
  /-- QUORUM_PRESENT (R153). -/
  | quorumPresent (h : CmdHdr) (qid : Word) (source : Byte) (index : Byte) (rsv : Half) (file : Word) (cred : Credential)
  /-- QUORUM_END (R154). -/
  | quorumEnd (h : CmdHdr) (qid : Word) (rsv : Word)
  /-- QUORUM_WINDOW_END (R154). -/
  | quorumWindowEnd
  /-- TICKET_EXPIRY (R154). -/
  | ticketExpiry
  /-- KEY_GENERATE (R132). -/
  | keyGenerate (h : CmdHdr) (t : Attr)
  /-- KEY_IMPORT (R131). -/
  | keyImport (h : CmdHdr) (wrap : Word) (format : Byte) (rsv : BitVec 24) (t : Attr) (wrappedLen : Word) (rsv2 : Word) (wrapped : List Byte)
  /-- KEY_EXPORT (R132). -/
  | keyExport (h : CmdHdr) (handle : Word) (wrap : Word) (format : Byte) (rsv : BitVec 56)
  /-- KEY_LOAD (R160). -/
  | keyLoad (h : CmdHdr) (slot : Half) (rsv : Half) (blobLen : Word) (blob : List Byte)
  /-- KEY_UNLOAD (R177). -/
  | keyUnload (h : CmdHdr) (handle : Word) (rsv : Word)
  /-- KEY_DERIVE (R131). -/
  | keyDerive (h : CmdHdr) (base : Word) (func : Byte) (rsv : Byte) (ctxLen : Half) (t : Attr) (ctx : List Byte)
  /-- KEY_DESTROY (R132). -/
  | keyDestroy (h : CmdHdr) (handle : Word) (rsv : Word) (keyId : Long)
  /-- KEY_ATTEST (R131). -/
  | keyAttest (h : CmdHdr) (handle : Word) (alg : Byte) (rsv : BitVec 24) (nonce : BitVec 256)
  /-- KEY_INFO (R131). -/
  | keyInfo (h : CmdHdr) (handle : Word) (rsv : Word)
  /-- PAY_BLOCK_IMPORT (R134). -/
  | payBlockImport (h : CmdHdr) (kbpk : Word) (len : Word) (block : List Byte)
  /-- PAY_BLOCK_EXPORT (R134). -/
  | payBlockExport (h : CmdHdr) (handle : Word) (kbpk : Word) (optLen : Half) (rsv : BitVec 48) (opt : List Byte)
  /-- PAY_PIN_TRANSLATE (R135). -/
  | payPinTranslate (h : CmdHdr) (inH : Word) (outH : Word) (inMode : Byte) (outMode : Byte) (rsv : BitVec 48) (inKsn : BitVec 96) (outKsn : BitVec 96) (pan : BitVec 128) (pin : BitVec 128)
  /-- SIGN (R137). -/
  | sign (h : CmdHdr) (handle : Word) (input : Byte) (rsv : BitVec 24) (len : Word) (rsv2 : Word) (data : List Byte)
  /-- VERIFY (R137). -/
  | verify (h : CmdHdr) (handle : Word) (input : Byte) (rsv : BitVec 24) (len : Word) (sigLen : Word) (data : List Byte) (sig : List Byte)
  /-- SEAL (R137). -/
  | seal (h : CmdHdr) (handle : Word) (aadLen : Half) (rsv : Half) (dataLen : Word) (rsv2 : Word) (aad : List Byte) (data : List Byte)
  /-- UNSEAL (R137). -/
  | unseal (h : CmdHdr) (handle : Word) (aadLen : Half) (rsv : Half) (sealedLen : Word) (rsv2 : Word) (aad : List Byte) (sealed : List Byte)
  /-- AGREE (R137). -/
  | agree (h : CmdHdr) (handle : Word) (peerLen : Word) (t : Attr) (peer : List Byte)
  /-- ENCAPS (R137). -/
  | encaps (h : CmdHdr) (handle : Word) (rsv : Word) (t : Attr)
  /-- DECAPS (R137). -/
  | decaps (h : CmdHdr) (handle : Word) (ctLen : Word) (t : Attr) (ct : List Byte)
  /-- RING_CREATE (R184). -/
  | ringCreate (h : CmdHdr) (ring : Half) (fn : Byte) (vector : Byte) (tenant : Half) (size : Byte) (flags : Byte) (desc : Long) (cmpl : Long) (shd : Long)
  /-- RING_DESTROY (R213). -/
  | ringDestroy (h : CmdHdr) (ring : Half) (rsv : BitVec 48)
  /-- RING_WINDOW (R187). -/
  | ringWindow (h : CmdHdr) (fn : Byte) (win : Byte) (rsv : BitVec 48) (base : Long) (limit : Long)
  /-- RING_STATUS (R587). -/
  | ringStatus (h : CmdHdr) (ring : Half) (rsv : BitVec 48)
  /-- PORT_CONFIG (R287). -/
  | portConfig (h : CmdHdr) (port : Byte) (rsv : BitVec 24) (recLen : Word) (r : PortRecord)
  /-- PORT_STATUS (R289). -/
  | portStatus (h : CmdHdr) (port : Byte) (rsv : BitVec 56)
  /-- VOLUME_BIND (R282). -/
  | volumeBind (h : CmdHdr) (port : Byte) (rsv : BitVec 24) (volume : Word) (keyId : Long) (handle : Word) (rsv2 : Word)
  /-- PORT_HOLD (R288). -/
  | portHold (h : CmdHdr) (port : Byte) (rsv : BitVec 56)
  /-- PORT_RELEASE (R288). -/
  | portRelease (h : CmdHdr) (port : Byte) (rsv : BitVec 56)
  /-- ALARM_TABLE_SET (R141). -/
  | alarmTableSet (h : CmdHdr) (qid : Word) (rsv : Word) (table : List Byte)
  /-- ALARM_TABLE_GET (R140). -/
  | alarmTableGet (h : CmdHdr)
  /-- LOG_EXPORT (R407). -/
  | logExport (h : CmdHdr) (first : Word) (max : Word)
  /-- LOG_RELEASE (R141). -/
  | logRelease (h : CmdHdr) (seq : Word) (rsv : Word)
  /-- LOG_STATUS (R409). -/
  | logStatus (h : CmdHdr)
  /-- RANDOM_GET (R142). -/
  | randomGet (h : CmdHdr) (len : Word) (rsv : Word)
  /-- RNG_STATUS (R381). -/
  | rngStatus (h : CmdHdr)
  /-- RNG_AUDIT_ENTER (R378). -/
  | rngAuditEnter (h : CmdHdr) (qid : Word) (rsv : Word)
  /-- RNG_AUDIT_EXIT (R380). -/
  | rngAuditExit (h : CmdHdr)
  /-- CARD_STATUS (R456). -/
  | cardStatus (h : CmdHdr) (kind : Byte) (index : Byte) (rsv : BitVec 48)
  /-- CARD_READ (R447). -/
  | cardRead (h : CmdHdr) (port : Byte) (rsv : BitVec 24) (first : Word) (count : Word) (rsv2 : Word) (io : CardIo)
  /-- CARD_WRITE (R449). -/
  | cardWrite (h : CmdHdr) (port : Byte) (rsv : BitVec 24) (first : Word) (count : Word) (rsv2 : Word) (data : List Byte) (io : CardIo)
  /-- ICC_APDU (R451). -/
  | iccApdu (h : CmdHdr) (slot : Byte) (rsv : BitVec 24) (len : Word) (apdu : List Byte) (io : ApduIo)
  /-- BADGE_POLL (R432). -/
  | badgePoll (h : CmdHdr) (io : PollIo)
  /-- TAG_POST (R429). -/
  | tagPost (h : CmdHdr) (page : Byte) (count : Byte) (rsv : BitVec 48) (data : List Byte)
  /-- TAG_READ_NOTES (R429). -/
  | tagReadNotes (h : CmdHdr) (first : Byte) (count : Byte) (rsv : BitVec 48)
  /-- TAG_SET_AUDIT_KEY (R418). -/
  | tagSetAuditKey (h : CmdHdr) (len : Word) (rsv : Word) (blob : List Byte)
  /-- DOMAIN_JOIN (R479). -/
  | domainJoin (h : CmdHdr) (qid : Word) (mLen : Word) (dLen : Word) (rsv : Word) (m : List Byte) (d : List Byte)
  /-- EPOCH_FLOOR (R49). -/
  | epochFloor (h : CmdHdr) (device : Half) (rsv : Half) (floor : Word) (sigLen : Word) (rsv2 : Word) (sig : List Byte)
  /-- PAIR_BIND (R463). -/
  | pairBind (h : CmdHdr) (qid : Word) (partner : Half) (rsv : Half)
  /-- PAIR_STATUS (R482). -/
  | pairStatus (h : CmdHdr)
  /-- PAIR_HANDOVER (R474). -/
  | pairHandover (h : CmdHdr) (dir : Byte) (rsv : BitVec 56)
  /-- DEVICE_INFO (R148). -/
  | deviceInfo (h : CmdHdr)
  /-- ATTEST_GET (R145). -/
  | attestGet (h : CmdHdr) (alg : Byte) (rsv : BitVec 24) (mask : Word) (nonce : BitVec 256)
  /-- MEAS_READ (R145). -/
  | measRead (h : CmdHdr) (index : Byte) (rsv : BitVec 56)
  /-- EXT_LOAD (R564). -/
  | extLoad (h : CmdHdr) (qid : Word) (len : Word) (p : List Byte)
  /-- EXT_UNLOAD (R564). -/
  | extUnload (h : CmdHdr) (moduleId : Word) (rsv : Word)
  /-- FW_STAGE (R494). -/
  | fwStage (h : CmdHdr) (addr : Long) (len : Word) (rsv : Word)
  /-- FW_STAGE_VERIFY_DONE (R494). -/
  | fwStageVerifyDone (img : Image) (elapsed : Word)
  /-- FLOOR_RAISE (R62). -/
  | floorRaise (h : CmdHdr) (qid : Word) (which : Byte) (value : Byte) (rsv : Half)
  /-- PHASE_ADVANCE (R59). -/
  | phaseAdvance (h : CmdHdr) (target : Byte) (rsv : BitVec 56)
  /-- SHELF_DOWN (R67). -/
  | shelfDown (h : CmdHdr) (shadows : List (Fin 16384 × Long))
  /-- SHELF_DOWN_COMPLETE (R67). -/
  | shelfDownComplete (elapsed : Word)
  /-- SENSOR_READ (R485). -/
  | sensorRead (h : CmdHdr) (index : Half) (rsv : BitVec 48)
  /-- EVENT_READ (R492). -/
  | eventRead (h : CmdHdr) (first : Word) (max : Word)
  /-- MGT_CONFIG (R487). -/
  | mgtConfig (h : CmdHdr) (map : Long) (addr : Byte) (rsv : BitVec 24) (chainLen : Word) (chain : List Byte)
  /-- DOORBELL_WRITE (R190). -/
  | doorbellWrite (f : Fin 64) (ring : Fin 16384) (v : Long)
  /-- TAIL_SHADOW_READ (R192). -/
  | tailShadowRead (ring : Fin 16384) (v : Long)
  /-- DESCRIPTOR_FETCH (R193). -/
  | descriptorFetch (ring : Fin 16384)
  /-- DESCRIPTOR_ARRIVAL (R202). -/
  | descriptorArrival (ring : Fin 16384) (data : List Byte)
  /-- DESCRIPTOR_READ_EARLY_END (R586). -/
  | descriptorReadEarlyEnd (ring : Fin 16384) (data : List Byte) (e : EarlyEnd)
  /-- ADMIT (R203). -/
  | admission (ring : Fin 16384) (n : Word)
  /-- KEY_STAGE (R204). -/
  | keyStage (ring : Fin 16384) (n : Word)
  /-- CUT_STAGE (R230). -/
  | cutStage (ring : Fin 16384) (n : Word)
  /-- CUT_WRITE_BACK (R232). -/
  | cutWriteBack (core : Fin 16) (e : CutEnd)
  /-- DMA_READ_EARLY_END (R75). -/
  | dmaReadEarlyEnd (ring : Fin 16384) (n : Word) (received : Word) (e : EarlyEnd)
  /-- TAG_STAGE (R222). -/
  | tagStage (ring : Fin 16384) (n : Word) (ghashOk : Bool) (read : List Byte)
  /-- RELEASE_STAGE (R206). -/
  | releaseStage (ring : Fin 16384) (n : Word)
  /-- SECTOR_STAGED (R278). -/
  | sectorStaged (port : Fin 16) (ring : Fin 16384) (n : Word)
  /-- COMPLETION_WRITE (R210). -/
  | completionWrite (ring : Fin 16384)
  /-- RING_MSIX_SEND (R200). -/
  | ringMsixSend (f : Fin 64) (vector : Fin 32)
  /-- RING_CTL_CREATE (R217). -/
  | ringCtlCreate (level : Level)
  /-- RING_CTL_DESTROY (R213). -/
  | ringCtlDestroy (level : Level)
  /-- RING_ABORT_ALL (R214). -/
  | ringAbortAll (level : Level)
  /-- SHELF_DOWN_TIMEOUT (R214). -/
  | shelfDownTimeout
  /-- CLK_CTRL_WRITE (R255). -/
  | clkCtrlWrite (writer : CoreNo) (level : Level) (v : Word)
  /-- CPH_KAT_RUN (R249). -/
  | cphKatRun (core : Fin 16) (level : Level)
  /-- CPH_KAT_DONE (R249). -/
  | cphKatDone (core : Fin 16) (pass : Bool)
  /-- MASKING_RESEED (R369). -/
  | maskingReseed (core : Fin 16)
  /-- MASKING_STOP (R370). -/
  | maskingStop (core : Fin 16)
  /-- BLOCK_LOCK_ACQUIRED (R273). -/
  | blockLockAcquired (port : Fin 16)
  /-- BLOCK_LOCK_LOST (R261). -/
  | blockLockLost (port : Fin 16)
  /-- CAPS (R273). -/
  | caps (port : Fin 16) (fh : FrameHdr) (version : Byte) (flags : Byte) (mask : Byte) (rsv : BitVec 32) (identity : BitVec 128)
  /-- GEOMETRY (R274). -/
  | geometry (port : Fin 16) (fh : FrameHdr) (tpp : Long) (pitch : Word) (spp : Word) (offs : Word) (code : Byte) (rsv : BitVec 48)
  /-- LOOP_ECHO (R275). -/
  | loopEcho (port : Fin 16) (fh : FrameHdr) (token : Word) (turnaroundNs : Half) (rsv : BitVec 40) (count : Nat)
  /-- TRAINING_ANSWER_TIMEOUT (R274). -/
  | trainingAnswerTimeout (port : Fin 16)
  /-- RETRAIN_TIMER (R274). -/
  | retrainTimer (port : Fin 16)
  /-- SOL_RETRAIN (R290). -/
  | solRetrain (port : Fin 16) (level : Level)
  /-- POS (R296). -/
  | pos (port : Fin 16) (fh : FrameHdr) (fine : BitVec 48) (pass : Half) (ackSeq : Half) (flags : Byte) (rsv : Byte) (skipMask : Word) (tRx : BitVec 48) (tUpd : BitVec 48)
  /-- SECTOR (R281). -/
  | sector (port : Fin 16) (fh : FrameHdr) (format : Half) (codeWord : Half) (keyId : Long) (iv : BitVec 96) (addr : Long)
  /-- SECTOR_FRAME_END (R283). -/
  | sectorFrameEnd (port : Fin 16) (data : List Byte) (excess : Nat)
  /-- HOLD_RESUME (R270). -/
  | holdResume (port : Fin 16) (fh : FrameHdr) (kind : Byte) (reason : Byte) (rsv : Half)
  /-- IDLE (R266). -/
  | idle (port : Fin 16) (fh : FrameHdr)
  /-- BAD_FRAME (R264). -/
  | badFrame (port : Fin 16) (type : Byte) (fh : FrameHdr) (data : List Byte) (excess : Nat)
  /-- IDLE_SEND_TIMER (R266). -/
  | idleSendTimer (port : Fin 16)
  /-- CREDIT_SEND (R271). -/
  | creditSend (port : Fin 16)
  /-- WINDOW_OPEN (R308). -/
  | windowOpen (port : Fin 16) (t : BitVec 48)
  /-- STAMP_TIMEOUT (R298). -/
  | stampTimeout (port : Fin 16) (tie : Bool)
  /-- HOLD_LIMIT (R312). -/
  | holdLimit (port : Fin 16)
  /-- PKE_CMD_BAD_OP (R325). -/
  | pkeCmdBadOp (n : Fin 4) (op : Byte) (k : PkeCmd)
  /-- RSA_PRIV (R318). -/
  | rsaPriv (n : Fin 4) (k : PkeCmd)
  /-- RSA_PUB (R318). -/
  | rsaPub (n : Fin 4) (k : PkeCmd)
  /-- EC_KEYGEN (R318). -/
  | ecKeygen (n : Fin 4) (k : PkeCmd)
  /-- ECDSA_SIGN (R318). -/
  | ecdsaSign (n : Fin 4) (k : PkeCmd)
  /-- ECDSA_VERIFY (R318). -/
  | ecdsaVerify (n : Fin 4) (k : PkeCmd)
  /-- ECDH (R318). -/
  | ecdh (n : Fin 4) (k : PkeCmd)
  /-- CV_KEYGEN (R318). -/
  | cvKeygen (n : Fin 4) (k : PkeCmd)
  /-- ED_SIGN (R318). -/
  | edSign (n : Fin 4) (k : PkeCmd)
  /-- ED_VERIFY (R318). -/
  | edVerify (n : Fin 4) (k : PkeCmd)
  /-- X25519 (R318). -/
  | x25519 (n : Fin 4) (k : PkeCmd)
  /-- MLKEM_KEYGEN (R318). -/
  | mlkemKeygen (n : Fin 4) (k : PkeCmd)
  /-- MLKEM_ENCAPS (R318). -/
  | mlkemEncaps (n : Fin 4) (k : PkeCmd)
  /-- MLKEM_DECAPS (R318). -/
  | mlkemDecaps (n : Fin 4) (k : PkeCmd)
  /-- MLDSA_KEYGEN (R318). -/
  | mldsaKeygen (n : Fin 4) (k : PkeCmd)
  /-- MLDSA_SIGN (R318). -/
  | mldsaSign (n : Fin 4) (k : PkeCmd)
  /-- MLDSA_VERIFY (R318). -/
  | mldsaVerify (n : Fin 4) (k : PkeCmd)
  /-- CHECK_KEY (R321). -/
  | checkKey (n : Fin 4) (k : PkeCmd)
  /-- PKE_WAIT_END (R324). -/
  | pkeWaitEnd (n : Fin 4)
  /-- PKE_VALIDATION_END (R327). -/
  | pkeValidationEnd (n : Fin 4)
  /-- PKE_OP_DONE (R331). -/
  | pkeOpDone (n : Fin 4) (d : PkeDone)
  /-- PKE_ABORT (R334). -/
  | pkeAbort (n : Fin 4) (master : CoreNo) (level : Level) (v : Word)
  /-- PKE_CLEAR (R335). -/
  | pkeClear (n : Fin 4) (master : CoreNo) (level : Level) (v : Word)
  /-- PKE_CLEAR_DONE (R334). -/
  | pkeClearDone (n : Fin 4)
  /-- PKE_KAT_RUN (R333). -/
  | pkeKatRun (n : Fin 4) (level : Level)
  /-- PKE_KAT_DONE (R333). -/
  | pkeKatDone (n : Fin 4) (pass : Bool)
  /-- DIG_INIT (R350). -/
  | digInit (m : CoreNo) (k : DigCmd)
  /-- DIG_UPDATE (R350). -/
  | digUpdate (m : CoreNo) (k : DigCmd)
  /-- DIG_FINAL (R350). -/
  | digFinal (m : CoreNo) (k : DigCmd)
  /-- DIG_SAVE (R354). -/
  | digSave (m : CoreNo) (k : DigCmd)
  /-- DIG_RESTORE (R355). -/
  | digRestore (m : CoreNo) (k : DigCmd)
  /-- DIG_EXTEND (R357). -/
  | digExtend (m : CoreNo) (k : DigCmd)
  /-- DIG_ABORT (R350). -/
  | digAbort (m : CoreNo) (k : DigCmd)
  /-- DIGEST_SEGMENT_END (R347). -/
  | digestSegmentEnd (unit : Fin 4) (mismatch : Bool) (rerunFails : Bool)
  /-- DIGEST_OP_DONE (R360). -/
  | digestOpDone (m : CoreNo) (unit : Fin 4)
  /-- DIG_KAT_RUN (R359). -/
  | digKatRun (unit : Fin 4) (level : Level)
  /-- DIG_KAT_DONE (R359). -/
  | digKatDone (pass : Bool)
  /-- MEAS_WORD0_READ (R357). -/
  | measWord0Read (n : Fin 32)
  /-- SOURCE_HEALTH_FAIL (R365). -/
  | sourceHealthFail (src : Fin 28) (run same : Nat)
  /-- SOURCE_RETEST_START (R365). -/
  | sourceRetestStart (src : Fin 28)
  /-- SOURCE_RETEST_END (R365). -/
  | sourceRetestEnd (src : Fin 28) (run same : Nat)
  /-- CONDITIONED_BLOCK (R375). -/
  | conditionedBlock (classM tie : Bool)
  /-- DRBG_INSTANTIATE (R372). -/
  | drbgInstantiate (i : Fin 32)
  /-- DRBG_BACKGROUND_RESEED (R373). -/
  | drbgBackgroundReseed (i : Fin 32)
  /-- RNG_REQ (R377). -/
  | rngReq (c : CoreNo) (writer : CoreNo) (level : Level) (v : Word)
  /-- RNG_WAIT_LIMIT (R377). -/
  | rngWaitLimit (c : CoreNo)
  /-- RNG_DATA_READ (R382). -/
  | rngDataRead (c : CoreNo)
  /-- AUDIT_SET (R378). -/
  | auditSet (level : Level)
  /-- AUDIT_CLEAR (R380). -/
  | auditClear (level : Level)
  /-- RNG_RAWSEL_WRITE (R379). -/
  | rngRawselWrite (c : CoreNo) (level : Level) (v : Word)
  /-- RNG_RAW_READ (R379). -/
  | rngRawRead (c : CoreNo) (level : Level)
  /-- ALARM_ASSERT (R390). -/
  | alarmAssert (tick : List (Fin 57 × Word))
  /-- ALARM_ASSERT_DARK (R399). -/
  | alarmAssertDark (src : Fin 57) (detail : Word)
  /-- MAIN_RESET_ASSERT (R391). -/
  | mainResetAssert
  /-- HALT_LIFT (R392). -/
  | haltLift
  /-- LOG_COMMIT (R403). -/
  | logCommit
  /-- COALESCE_WINDOW_END (R404). -/
  | coalesceWindowEnd (src : Fin 57)
  /-- ALM_RAISE (R383). -/
  | almRaise (writer : CoreNo) (level : Level) (v : Word)
  /-- ALM_RESP_WRITE (R395). -/
  | almRespWrite (level : Level) (k : Fin 16) (v : Word)
  /-- ALM_LOG_EXP_WRITE (R408). -/
  | almLogExpWrite (level : Level) (v : Word)
  /-- ALM_LOG_REL_WRITE (R408). -/
  | almLogRelWrite (level : Level) (v : Word)
  /-- ALM_LOG_DATA_READ (R408). -/
  | almLogDataRead (w : Fin 8)
  /-- TAMP_STEP (R387). -/
  | tampStep (loop : Fin 4) (level : Bool) (detail : Word)
  /-- INS_FLOOR_WRITE (R415). -/
  | insFloorWrite (level : Level) (v : Word)
  /-- INS_IKCTL_GEN (R416). -/
  | insIkctlGen (level : Level)
  /-- IK_STORED (R416). -/
  | ikStored
  /-- INSOLE_SEED_DELIVERY (R417). -/
  | insoleSeedDelivery
  /-- INS_AUDCTL_LOAD (R418). -/
  | insAudctlLoad (level : Level)
  /-- INS_AUDCTL_CLEAR (R418). -/
  | insAudctlClear (level : Level)
  /-- INS_TAG_SEL_WRITE (R430). -/
  | insTagSelWrite (level : Level) (v : Word)
  /-- INS_TAG_COMMIT (R429). -/
  | insTagCommit (level : Level)
  /-- TAG_HOST_WAIT_EXPIRY (R430). -/
  | tagHostWaitExpiry (tie : Bool)
  /-- BUDGET_REFILL (R412). -/
  | budgetRefill
  /-- FIELD_DETECTED (R421). -/
  | fieldDetected
  /-- FIELD_LOST (R421). -/
  | fieldLost
  /-- SESSION_INACTIVITY (R422). -/
  | sessionInactivity (tie : Bool)
  /-- REQA (R419). -/
  | reqa
  /-- WUPA (R419). -/
  | wupa
  /-- ANTICOLLISION (R419). -/
  | anticollision
  /-- ISO_SELECT (R420). -/
  | isoSelect (uid : Word)
  /-- HLTA (R419). -/
  | hlta
  /-- RATS (R422). -/
  | rats
  /-- PPS (R419). -/
  | pps (dsi : BitVec 2) (dri : BitVec 2)
  /-- R_BLOCK (R419). -/
  | rBlock (nak : Bool) (blockNo : Bool)
  /-- S_DESELECT (R422). -/
  | sDeselect
  /-- SELECT (R423). -/
  | select (aid : List Byte)
  /-- READ_PAGE (R423). -/
  | readPage (cla : Byte) (page : Byte) (data : List Byte) (leOk : Bool)
  /-- AUTH_1 (R425). -/
  | auth1 (data : List Byte) (leOk : Bool)
  /-- AUTH_2 (R425). -/
  | auth2 (data : List Byte) (leOk : Bool)
  /-- WRITE_NOTES (R429). -/
  | writeNotes (page : Byte) (data : List Byte) (leOk : Bool) (collapse : Option Bool)
  /-- READ_LOG (R423). -/
  | readLog (data : List Byte) (leOk : Bool)
  /-- GET_STATUS (R423). -/
  | getStatus (data : List Byte) (leOk : Bool)
  /-- UNSUPPORTED_APDU (R424). -/
  | unsupportedApdu (cla : Byte) (ins : Byte)
  /-- AUTH_BLOCK_END (R427). -/
  | authBlockEnd
  /-- CLS_POLL (R432). -/
  | clsPoll (level : Level)
  /-- CLS_ABORT (R433). -/
  | clsAbort (level : Level)
  /-- CLS_XCHG (R433). -/
  | clsXchg (level : Level)
  /-- POLL_ROUND (R432). -/
  | pollRound (typeA : Option (List Byte)) (typeB : Option (List Byte)) (fieldSeen : Bool)
  /-- POLL_TIMEOUT (R432). -/
  | pollTimeout
  /-- BADGE_EXCHANGE_END (R433). -/
  | badgeExchangeEnd (answer : Option (List Byte))
  /-- SD_CARD_INSERTED (R439). -/
  | sdCardInserted (p : Fin 4)
  /-- SD_SETTLE_END (R439). -/
  | sdSettleEnd (p : Fin 4)
  /-- SD_INIT_DONE (R439). -/
  | sdInitDone (p : Fin 4) (why : BitVec 4) (cSize : Nat) (modes : BitVec 7) (v18 : Bool) (cmd23 : Bool) (passes : List (BitVec 40)) (wp : Bool) (scan : CardScan)
  /-- SD_CARD_REMOVED (R445). -/
  | sdCardRemoved (p : Fin 4)
  /-- SD_READ (R441). -/
  | sdRead (p : Fin 4) (level : Level)
  /-- SD_WRITE (R441). -/
  | sdWrite (p : Fin 4) (level : Level)
  /-- SD_ABORT (R458). -/
  | sdAbort (p : Fin 4) (level : Level)
  /-- SD_RETUNE (R440). -/
  | sdRetune (p : Fin 4) (level : Level) (passes : List (BitVec 40))
  /-- SD_POWER_OFF (R445). -/
  | sdPowerOff (p : Fin 4) (level : Level)
  /-- SD_POWER_ON (R439). -/
  | sdPowerOn (p : Fin 4) (level : Level)
  /-- SD_BUSY_END (R442). -/
  | sdBusyEnd (p : Fin 4)
  /-- SD_BUSY_TIMEOUT (R442). -/
  | sdBusyTimeout (p : Fin 4)
  /-- SD_RESPONSE_TIMEOUT (R443). -/
  | sdResponseTimeout (p : Fin 4)
  /-- SD_TRANSFER_END (R441). -/
  | sdTransferEnd (p : Fin 4) (data : List Byte) (crcOk : Bool)
  /-- ICC_CARD_REMOVED (R453). -/
  | iccCardRemoved (s : Fin 2) (tie : Bool)
  /-- ICC_ACTIVATE (R452). -/
  | iccActivate (s : Fin 2) (level : Level)
  /-- ICC_DEACTIVATE (R453). -/
  | iccDeactivate (s : Fin 2) (level : Level)
  /-- ICC_XCHG (R451). -/
  | iccXchg (s : Fin 2) (level : Level)
  /-- ATR_RECEIVED (R452). -/
  | atrReceived (s : Fin 2) (atr : List Byte) (ppsOk : Bool)
  /-- ATR_TIMEOUT (R452). -/
  | atrTimeout (s : Fin 2)
  /-- ICC_WWT_EXCEEDED (R454). -/
  | iccWwtExceeded (s : Fin 2)
  /-- ICC_CLOCK_STOP (R455). -/
  | iccClockStop (s : Fin 2)
  /-- WELT_LANE_LOCK (R459). -/
  | weltLaneLock (l : Fin 2)
  /-- WELT_LANE_LOSS (R459). -/
  | weltLaneLoss (l : Fin 2)
  /-- HELLO (R461). -/
  | hello (fr : WeltRx) (carrying : Bool)
  /-- WELT_SESSION_KEY_READY (R461). -/
  | weltSessionKeyReady
  /-- CONFIRM (R461). -/
  | confirm (fr : WeltRx)
  /-- HEARTBEAT (R468). -/
  | heartbeat (fr : WeltRx)
  /-- MIRROR (R465). -/
  | mirror (fr : WeltRx) (seq : Word) (r : MirrorRec)
  /-- ACK (R465). -/
  | ack (fr : WeltRx)
  /-- DEPART (R474). -/
  | depart (fr : WeltRx)
  /-- BIND (R463). -/
  | bind (fr : WeltRx) (elapsed : Word)
  /-- WELT_IDLE (R460). -/
  | weltIdle
  /-- WELT_BAD_FRAME (R462). -/
  | weltBadFrame (type : Byte) (fr : WeltRx)
  /-- WELT_HEARTBEAT_SEND (R468). -/
  | weltHeartbeatSend
  /-- HOST_WORD_WRITE (R468). -/
  | hostWordWrite (word : Long)
  /-- PARTNER_WORD_READ (R468). -/
  | partnerWordRead (word : Long) (scan : List (Fin 16384 × List Bool))
  /-- WELT_HEARTBEAT_TIMEOUT (R468). -/
  | weltHeartbeatTimeout (tie : Bool) (scan : List (Fin 16384 × List Bool))
  /-- PARTNER_WORD_STALE (R470). -/
  | partnerWordStale (scan : List (Fin 16384 × List Bool)) (us : Word) (tie : Bool)
  /-- MIRROR_RESEND (R465). -/
  | mirrorResend (seq : Word)
  /-- SENSOR_REFRESH (R486). -/
  | sensorRefresh (readings : List (BitVec 32))
  /-- PWR_WDOG_WRITE (R489). -/
  | pwrWdogWrite (c : Fin 4) (writer : CoreNo) (v : Word)
  /-- WATCHDOG_EXPIRY (R489). -/
  | watchdogExpiry (c : Fin 4) (tie : Bool)
  /-- CORE_RESTART_RELEASE (R489). -/
  | coreRestartRelease (c : Fin 4)
  /-- COBBLER_RESTART (R490). -/
  | cobblerRestart
  /-- KAT_SCHEDULE (R491). -/
  | katSchedule (unit : Fin 24)
  /-- QUIET_POINT (R495). -/
  | quietPoint (elapsed : Word)
  /-- SMBUS_SCL_TIMEOUT (R577). -/
  | smbusSclTimeout
  /-- SET_ENDPOINT_ID (R493). -/
  | setEndpointId (eid : Byte)
  /-- GET_ENDPOINT_ID (R493). -/
  | getEndpointId
  /-- GET_MCTP_VERSION (R493). -/
  | getMctpVersion (msgType : Byte)
  /-- GET_MESSAGE_TYPE_SUPPORT (R493). -/
  | getMessageTypeSupport
  /-- GETPDR (R493). -/
  | getPdr (record : Word)
  /-- GETSENSORREADING (R493). -/
  | getSensorReading (sensor : Half)
  /-- SETNUMERICSENSORENABLE (R493). -/
  | setNumericSensorEnable (sensor : Half) (opState : Byte) (events : Byte)
  /-- GETSTATESENSORREADINGS (R493). -/
  | getStateSensorReadings (sensor : Half)
  /-- GET_VERSION (R493). -/
  | getVersion
  /-- GET_CAPABILITIES (R493). -/
  | getCapabilities (version : Byte)
  /-- NEGOTIATE_ALGORITHMS (R493). -/
  | negotiateAlgorithms (p384 : Bool) (sha384 : Bool)
  /-- GET_DIGESTS (R493). -/
  | getDigests
  /-- GET_CERTIFICATE (R493). -/
  | getCertificate (slot : Byte) (offset : Half) (len : Half)
  /-- CHALLENGE (R493). -/
  | challenge (slot : Byte) (nonce : BitVec 256)
  /-- GET_MEASUREMENTS (R493). -/
  | getMeasurements (index : Byte) (signed : Bool) (nonce : BitVec 256)
  /-- KEY_EXCHANGE (R493). -/
  | keyExchange (slot : Byte) (random : BitVec 256) (doe : Bool)
  /-- FINISH (R493). -/
  | finish (hmacOk : Bool)
  /-- END_SESSION (R493). -/
  | endSession
  /-- VENDOR_RAW_SAMPLES (R493). -/
  | vendorRawSamples (words : Nat)
  /-- KEY_CMD_LOAD (R182). -/
  | keyCmdLoad (c : Fin 4) (w : RegWriter) (any : Bool) (slot : Fin 32768)
  /-- KEY_CMD_IMPORT (R182). -/
  | keyCmdImport (c : Fin 4) (w : RegWriter) (any : Bool) (kw : Bool) (slot : Fin 32768)
  /-- KEY_CMD_EXPORT (R182). -/
  | keyCmdExport (c : Fin 4) (w : RegWriter) (kw : Bool)
  /-- KEY_CMD_BLOB (R182). -/
  | keyCmdBlob (c : Fin 4) (w : RegWriter)
  /-- KEY_CMD_GENERATE (R182). -/
  | keyCmdGenerate (c : Fin 4) (w : RegWriter) (any : Bool) (slot : Fin 32768)
  /-- KEY_CMD_UNLOAD (R182). -/
  | keyCmdUnload (c : Fin 4) (w : RegWriter)
  /-- KEY_CMD_QUERY (R182). -/
  | keyCmdQuery (c : Fin 4) (w : RegWriter)
  /-- KEY_BLOB_IN_WRITE (R182). -/
  | keyBlobInWrite (c : Fin 4) (w : RegWriter) (v : Word)
  /-- KEY_BLOB_OUT_READ (R182). -/
  | keyBlobOutRead (c : Fin 4) (w : RegWriter)
  /-- KEY_CHANNEL_DONE (R182). -/
  | keyChannelDone (c : Fin 4)
  /-- KEY_ZERO_ALL (R178). -/
  | keyZeroAll (level : Level)
  /-- ZEROISATION_DONE (R178). -/
  | zeroisationDone
  /-- RUN_ZEROISE (R177). -/
  | runZeroise (slot : Fin 32768)
  /-- MPU_FENCE_GO (R549). -/
  | mpuFenceGo (m : Fin 13) (level : Level)
  /-- MPU_FENCE_DONE (R549). -/
  | mpuFenceDone (m : Fin 13)
  /-- MPU_FAULT_CLEAR (R552). -/
  | mpuFaultClear (m : Fin 13) (level : Level)
  /-- DMA_MPU_FAULT (R551). -/
  | dmaMpuFault (m : Fin 13) (addr : Word) (size : Nat) (write : Bool)
  /-- INTERRUPT (R533). -/
  | interrupt (c : CoreNo) (line : Fin 16) (e : EntryEnv)
  /-- NMI (R544). -/
  | nmi (c : CoreNo) (e : EntryEnv)
  /-- LOCKSTEP_MISMATCH (R527). -/
  | lockstepMismatch (c : CoreNo)
  /-- RESERVATION_EXPIRY (R517). -/
  | reservationExpiry (c : CoreNo)
  /-- WRITE_BUFFER_DRAIN (R519). -/
  | writeBufferDrain (c : CoreNo) (err : Option Bool)
  /-- NOP (R507). -/
  | nop (c : CoreNo) (i : AwlIn)
  /-- LD (R507). -/
  | ld (c : CoreNo) (i : AwlIn)
  /-- LDU (R507). -/
  | ldu (c : CoreNo) (i : AwlIn)
  /-- ST (R507). -/
  | st (c : CoreNo) (i : AwlIn)
  /-- LDA (R507). -/
  | lda (c : CoreNo) (i : AwlIn)
  /-- STA (R507). -/
  | sta (c : CoreNo) (i : AwlIn)
  /-- MOV (R507). -/
  | mov (c : CoreNo) (i : AwlIn)
  /-- LDH (R507). -/
  | ldh (c : CoreNo) (i : AwlIn)
  /-- ADD (R508). -/
  | add (c : CoreNo) (i : AwlIn)
  /-- ADC (R508). -/
  | adc (c : CoreNo) (i : AwlIn)
  /-- SUB (R508). -/
  | sub (c : CoreNo) (i : AwlIn)
  /-- SBC (R508). -/
  | sbc (c : CoreNo) (i : AwlIn)
  /-- CMP (R508). -/
  | cmp (c : CoreNo) (i : AwlIn)
  /-- AND (R507). -/
  | and (c : CoreNo) (i : AwlIn)
  /-- OR (R507). -/
  | or (c : CoreNo) (i : AwlIn)
  /-- XOR (R507). -/
  | xor (c : CoreNo) (i : AwlIn)
  /-- SHL (R508). -/
  | shl (c : CoreNo) (i : AwlIn)
  /-- SHR (R508). -/
  | shr (c : CoreNo) (i : AwlIn)
  /-- ASR (R508). -/
  | asr (c : CoreNo) (i : AwlIn)
  /-- ROL (R508). -/
  | rol (c : CoreNo) (i : AwlIn)
  /-- TST (R507). -/
  | tst (c : CoreNo) (i : AwlIn)
  /-- LEA (R507). -/
  | lea (c : CoreNo) (i : AwlIn)
  /-- MUL (R508). -/
  | mul (c : CoreNo) (i : AwlIn)
  /-- MULH (R507). -/
  | mulh (c : CoreNo) (i : AwlIn)
  /-- EXT (R507). -/
  | ext (c : CoreNo) (i : AwlIn)
  /-- PUSH (R507). -/
  | push (c : CoreNo) (i : AwlIn)
  /-- POP (R507). -/
  | pop (c : CoreNo) (i : AwlIn)
  /-- DIVU (R509). -/
  | divu (c : CoreNo) (i : AwlIn)
  /-- DIVS (R509). -/
  | divs (c : CoreNo) (i : AwlIn)
  /-- MPY (R510). -/
  | mpy (c : CoreNo) (i : AwlIn)
  /-- MAC (R510). -/
  | mac (c : CoreNo) (i : AwlIn)
  /-- MSU (R510). -/
  | msu (c : CoreNo) (i : AwlIn)
  /-- ADDA (R511). -/
  | adda (c : CoreNo) (i : AwlIn)
  /-- SUBA (R511). -/
  | suba (c : CoreNo) (i : AwlIn)
  /-- RND (R512). -/
  | rnd (c : CoreNo) (i : AwlIn)
  /-- SATA (R511). -/
  | sata (c : CoreNo) (i : AwlIn)
  /-- NRM (R513). -/
  | nrm (c : CoreNo) (i : AwlIn)
  /-- ABS (R511). -/
  | abs (c : CoreNo) (i : AwlIn)
  /-- NEG (R511). -/
  | neg (c : CoreNo) (i : AwlIn)
  /-- CLRA (R507). -/
  | clra (c : CoreNo) (i : AwlIn)
  /-- LDF (R507). -/
  | ldf (c : CoreNo) (i : AwlIn)
  /-- ASLA (R511). -/
  | asla (c : CoreNo) (i : AwlIn)
  /-- ASRA (R512). -/
  | asra (c : CoreNo) (i : AwlIn)
  /-- MOVA (R511). -/
  | mova (c : CoreNo) (i : AwlIn)
  /-- CMPA (R507). -/
  | cmpa (c : CoreNo) (i : AwlIn)
  /-- BRA (R514). -/
  | bra (c : CoreNo) (i : AwlIn)
  /-- BEQ (R514). -/
  | beq (c : CoreNo) (i : AwlIn)
  /-- BNE (R514). -/
  | bne (c : CoreNo) (i : AwlIn)
  /-- BLT (R514). -/
  | blt (c : CoreNo) (i : AwlIn)
  /-- BGE (R514). -/
  | bge (c : CoreNo) (i : AwlIn)
  /-- BGT (R514). -/
  | bgt (c : CoreNo) (i : AwlIn)
  /-- BLE (R514). -/
  | ble (c : CoreNo) (i : AwlIn)
  /-- BLO (R514). -/
  | blo (c : CoreNo) (i : AwlIn)
  /-- BHS (R514). -/
  | bhs (c : CoreNo) (i : AwlIn)
  /-- BHI (R514). -/
  | bhi (c : CoreNo) (i : AwlIn)
  /-- BLS (R514). -/
  | bls (c : CoreNo) (i : AwlIn)
  /-- BMI (R514). -/
  | bmi (c : CoreNo) (i : AwlIn)
  /-- BPL (R514). -/
  | bpl (c : CoreNo) (i : AwlIn)
  /-- BVS (R514). -/
  | bvs (c : CoreNo) (i : AwlIn)
  /-- BVC (R514). -/
  | bvc (c : CoreNo) (i : AwlIn)
  /-- BSV (R514). -/
  | bsv (c : CoreNo) (i : AwlIn)
  /-- CALL (R507). -/
  | call (c : CoreNo) (i : AwlIn)
  /-- RET (R507). -/
  | ret (c : CoreNo) (i : AwlIn)
  /-- RTE (R540). -/
  | rte (c : CoreNo) (i : AwlIn)
  /-- TRAP (R507). -/
  | trap (c : CoreNo) (i : AwlIn)
  /-- TAS (R516). -/
  | tas (c : CoreNo) (i : AwlIn)
  /-- LDRS (R517). -/
  | ldrs (c : CoreNo) (i : AwlIn)
  /-- STCD (R517). -/
  | stcd (c : CoreNo) (i : AwlIn)
  /-- MBAR (R519). -/
  | mbar (c : CoreNo) (i : AwlIn)
  /-- IBAR (R520). -/
  | ibar (c : CoreNo) (i : AwlIn)
  /-- MFS (R521). -/
  | mfs (c : CoreNo) (i : AwlIn)
  /-- MTS (R521). -/
  | mts (c : CoreNo) (i : AwlIn)
  /-- WAIT (R523). -/
  | wait (c : CoreNo) (i : AwlIn)
  /-- USER_DECODE (R559). -/
  | userDecode (c : CoreNo) (n : Fin 16) (i : AwlIn)
  /-- RESERVED_OPCODE (R505). -/
  | reservedOpcode (c : CoreNo) (op : Byte) (i : AwlIn)
  /-- REGISTER_WRITE (R14). -/
  | registerWrite (w : RegWriter) (addr : Word) (v : Word)
  /-- LINK_L0 (R42). -/
  | linkL0
  /-- FW_READY (R43). -/
  | fwReady
  /-- D0_TO_D3HOT (R93). -/
  | d0ToD3hot (f : Fin 64)
  /-- MEMORY_SPACE_ENABLE_WRITE (R93). -/
  | memorySpaceEnableWrite (f : Fin 64) (v : Bool)
  /-- MSIX_VECTOR_UNMASK (R95). -/
  | msixVectorUnmask (f : Fin 64) (vector : Fin 32)
  /-- ALARM_SOURCE_DEASSERT (R392). -/
  | alarmSourceDeassert (src : Fin 57)
  /-- PKE_LOAD_DONE (R325). -/
  | pkeLoadDone (n : Fin 4)
  /-- FIELD_HOLD_END (R430). -/
  | fieldHoldEnd
  /-- SECTOR_FRAME_SENT (R309). -/
  | sectorFrameSent (port : Fin 16)
  /-- ICC_CARD_INSERTED (R452). -/
  | iccCardInserted (s : Fin 2)
  /-- ICC_EXCHANGE_END (R451). -/
  | iccExchangeEnd (s : Fin 2) (response : Option (List Byte))
  /-- SD_CFG_WRITE (R458). -/
  | sdCfgWrite (p : Fin 4) (level : Level) (v : Word)
  /-- ICC_CFG_WRITE (R458). -/
  | iccCfgWrite (s : Fin 2) (level : Level) (v : Word)
  /-- DIG_EN_WRITE (R348). -/
  | digEnWrite (level : Level) (v : Word)
  /-- PWR_UNIT_EN_WRITE (R488). -/
  | pwrUnitEnWrite (writer : CoreNo) (map : Long)
  /-- WLT_CFG_WRITE (R484). -/
  | wltCfgWrite (level : Level) (v : Word)
  deriving DecidableEq, Repr

end Sys2Proof
end

