-- ==== Sys2Proof/Config.lean ====
section
/-! DEFINITION. What the spec leaves open or names by standard only: uninterpreted functions and free values.
No constant here has a body, so nothing can be proved about a value of it (log entries 3 and 4). -/

namespace Sys2Proof

/-- The cryptographic functions that the spec names by their standards (00_scope.md, references; log entry 3). -/
inductive Prim where
  /-- What an engine makes of a key of a type: public keys, signatures, ciphertexts, shared secrets (10 R318). -/
  | publicKey (type : Nat) | signature (type : Nat) | encapsulate (type : Nat) | sharedSecret (type : Nat)
  /-- HMAC-SHA-512 of (d, e ‖ ρ) extended to the length of an ECDSA nonce (10 R322; log entry 110). -/
  | nonce (set : Nat)
  /-- The RSA encoding of a digest for a key type, and the check of one (10 R318; log entry 104). -/
  | rsaEncode (type : Nat)
  /-- An operator certificate (04 R152): its chain to the operator root on [root digest, certificate]; its subject key identifier; a
  signature over a challenge under it on [certificate, challenge, signature]. -/
  | certChain | certSubject | certVerify
  /-- The first certificate of a chain carries a public key, on [public key, chain] (17 R487). -/
  | certCarries
  /-- A module of extension code, whose form the spec does not give: its signature and its version (log entry 45). -/
  | extSigned | extVersion
  /-- Fixed constants of the silicon: PUF values. -/
  | puf
  /-- Verification of a signature of a key type on [public key, message, signature] (10 R318). -/
  | verify (type : Nat)
  /-- SHA-384 of a public key of a key set that the boot ROM holds (02 R583): the production set or the field set, of a type. -/
  | keySet (production : Bool) (type : Nat)
  deriving DecidableEq, Repr

/-- Byte `i` of the output of `p` on the byte strings `ins` (log entry 3). -/
opaque Config.prim (p : Prim) (ins : List (List Byte)) (i : Nat) : Byte

/-- The verdict of `p` on the byte strings `ins` (log entry 3). -/
opaque Config.verdict (p : Prim) (ins : List (List Byte)) : Bool

/-- A random draw or an unstated value number `n`, byte `i` (log entry 4). -/
opaque Config.freeByte (n i : Nat) : Byte

/-- An unstated natural number, number `n` (log entry 4). -/
opaque Config.freeNat (n : Nat) : Nat

/-- How a table entry of code 7 behaves: the spec defines the codes 0 to 6 only (13 R389; log entry 4). -/
opaque Config.reservedCode : Fin 7

/-- Where the Device Serial Number and SR-IOV capabilities stand in configuration space, which the spec does not say (log entry
91). -/
opaque Config.serialCap : Nat
opaque Config.sriovCap : Nat

/-- What firmware fixes for its derivations and signatures and the spec does not give: the SHA-2 function of SP 800-108 with HMAC, by
its code less 1, and the label; the key usage of an AES DUKPT working key for a usage word; the hash of a message that a key type signs, by
its code less 1 (log entries 99, 104, 116). -/
opaque Config.kdfHash : Fin 4
opaque Config.kdfLabel : List Byte
opaque Config.dukptUsage (usage : Nat) : Nat
opaque Config.messageHash (type : Nat) : Fin 7

/-- The key identifier of a pair key, the same on both members, which the spec does not give (log entry 120). -/
opaque Config.pairKeyId (key : List Byte) : BitVec 64

/-- The transcript that an SPDM exchange of a kind signs, of its parts: what DSP0274 fixes and the spec does not repeat (log entry 115). -/
opaque Config.spdmTranscript (kind : Nat) (parts : List (List (BitVec 8))) : List (BitVec 8)

/-- Where firmware keeps its buffer in custody SRAM, which the spec does not say (log entry 86). -/
opaque Config.fwBuffer : Nat

/-- The contents of the boot ROM (01 R31), which the spec does not list (log entry 4). -/
opaque Config.romByte (a : Nat) : Byte

/-- The host address that an address of the outbound window reaches (01 R31): a translation set by firmware through means the
spec does not give (log entry 4). -/
opaque Config.outbound (a : Nat) : Long

/-- The first `n` output bytes of `p` on `ins`. -/
def Config.out (p : Prim) (ins : List (List Byte)) (n : Nat) : List Byte :=
  (List.range n).map (Config.prim p ins)

end Sys2Proof
end

