-- ==== Sys2Proof/Machine/State.lean ====
section
/-! DEFINITION. The state of the block: every register, FIFO, buffer, counter, mode and pin the spec gives it, as plain
data, with the queue of waiting commands, and the state right after a main-domain reset.  INVENTORY.md lists each piece
with the rule that names it. -/

namespace Sys2Proof.Machine

/-- Why the block stops.  No rule of the spec stops the block, so there is no fault. -/
inductive Fault where
  deriving DecidableEq, Repr

/-- Why a command has no meaning. -/
inductive Refusal where
  /-- Raised by `exec` for a command whose meaning the model does not hold.  Safe: nothing follows from it. -/
  | notModelled (mnemonic : String)
  deriving DecidableEq, Repr

/-- An indexed family of values in one canonical form: keys strictly rising, and no entry equal to the default that an
unlisted key reads as.  Memories are banks of bytes. -/
abbrev Bank (α : Type) := List (Nat × α)

/-- The bank whose keys `0 … n - 1` hold `f k`, in canonical form for the default `d`. -/
def Bank.tab {α : Type} [DecidableEq α] (d : α) (n : Nat) (f : Nat → α) : Bank α :=
  (List.range n).filterMap fun k => if f k = d then none else some (k, f k)

/-! ### Memories (01 R31, R32) -/

/-- The memories of the block.  Custody SRAM and the Sole staging buffers are one byte memory by device address; the
tightly coupled memories and decode-table RAMs are per core. -/
structure Mem where
  sram : Bank Byte := []
  itcm : Bank (Bank Byte) := []
  dtcm : Bank (Bank Byte) := []
  deriving DecidableEq, Repr

/-- A frame sent on a Sole lane (08 R262). -/
structure SoleFrame where
  type : Byte
  flags : Byte
  seq : Half
  body : List Byte
  crc : Word
  deriving DecidableEq, Repr

/-- What the management subsystem answers a requester (17 R493). -/
inductive MgtReply where
  /-- Accepted, with nothing further that the spec gives. -/
  | ok
  | endpoint (eid : Byte)
  | version (v : Byte)
  | types (t : List Byte)
  /-- The record with this handle, in the form of DSP0248. -/
  | pdr (record : Word)
  | sensor (value : Word)
  /-- The sensor is not enabled. -/
  | sensorOff
  | state (v : Nat)
  | digests (slots : Byte) (digest : List Byte)
  | certificate (portion : List Byte)
  | signed (message signature : List Byte)
  | measurements (blocks : List (Nat × List Byte)) (signature : List Byte)
  | samples (words : List Word)
  | error (code : Byte)
  deriving DecidableEq, Repr

/-- What the device has put out towards the host, and the value the last register read returned (the model's own
fields). -/
structure Out where
  /-- Bytes written to host memory. -/
  hostMem : Bank Byte := []
  /-- MSI-X messages sent: function and vector, newest first; each is also a write of the vector's data at its address. -/
  msi : List (Nat × Nat) := []
  /-- Frames sent on Sole lanes with their port, newest first. -/
  frames : List (Nat × SoleFrame) := []
  readData : Word := 0
  /-- The high word of the last 8-byte read. -/
  readHigh : Word := 0
  /-- The last reply of the management subsystem. -/
  reply : Option MgtReply := none
  deriving DecidableEq, Repr

/-! ### Pins, boot and loader (02) -/

/-- LDR_STATUS.STATE (R51). -/
inductive LdrState where
  | init | ready | loading | running | down | failed | retired
  deriving DecidableEq, Repr

/-- LDR_STATUS.PHASE (R51, R59). -/
inductive Phase where
  | start | recovery | service | test
  deriving DecidableEq, Repr

/-- LDR_STATUS.LIFECYCLE (R51, R60). -/
inductive Lifecycle where
  | manufacture | test | field | retired
  deriving DecidableEq, Repr

/-- Pins, the fuses that the loader reports, and what outlasts a main-domain reset outside the Insole domain. -/
structure Pins where
  pwrgd : Bool := false
  /-- PERST_N is asserted (low). -/
  perst : Bool := true
  linkL0 : Bool := false
  lifecycle : Lifecycle := .field
  fwFloor : Nat := 0
  cobFloor : Nat := 0
  extFloor : Nat := 0
  deriving DecidableEq, Repr

/-- The boot sequence and the loader page (R43, R51). -/
structure Boot where
  /-- A main-domain reset is in force (R41). -/
  inReset : Bool := true
  /-- The shelf is dark in the sense of R399. -/
  dark : Bool := true
  /-- The reset in force was caused by PERST_N, and ends with it (R43). -/
  perstReset : Bool := false
  /-- PERST_N was released later than 3 ms after PWRGD: the loader page waits for L0 (R42). -/
  perstLate : Bool := false
  state : LdrState := .init
  phase : Phase := .start
  rngReady : Bool := false
  pufOk : Bool := false
  pufAttempts : Nat := 0
  step2 : Bool := false
  step7 : Bool := false
  imgLo : Word := 0
  imgHi : Word := 0
  imgLen : BitVec 23 := 0
  code : Byte := 0
  seg : Byte := 0
  tries : Byte := 0
  epoch : Word := 0
  pendMax : BitVec 3 := 0
  pendCode6 : Bool := false
  unannounced : Bool := false
  vbatLost : Bool := false
  pendCount : Byte := 0
  pendSrc : BitVec 64 := 0
  /-- LDR_ID_0-11: SHA-384 of the PUF identity (R584). -/
  id : List Byte := List.replicate 48 0
  /-- Versions now running (R53, R62). -/
  fwVer : Byte := 0
  cobVer : Byte := 0
  /-- SHELF_DOWN has been accepted (R67). -/
  shelfDown : Bool := false
  /-- The shutdown record of this boot has been registered (R67, R70). -/
  shutdownRecord : Bool := false
  /-- The per-boot custody SRAM key is present (R43 step 7, R389). -/
  sramKey : Bool := false
  deriving DecidableEq, Repr

/-! ### PCI Express endpoint and mailboxes (03) -/

/-- The addresses of the three BARs of a function (R81): each is written above its size only. -/
structure Bars where
  bar0 : Long := 0
  bar2 : Long := 0
  bar4 : Long := 0
  deriving DecidableEq, Repr

/-- What the endpoint holds for a function (R78, R79, R81, R93, R95). -/
structure PcieFn where
  d3hot : Bool := false
  memEnable : Bool := false
  flr : Bool := false
  /-- MSI-X vector masks and pending bits (Base 5.0; log entry 7). -/
  mask : Word := 0xFFFFFFFF
  pend : Word := 0
  /-- Address and data of the 32 entries of the MSI-X table (01 R35). -/
  msixAddr : Bank Long := []
  msixData : Bank Word := []
  bars : Bars := {}
  deriving DecidableEq, Repr

/-- The endpoint (R71-R83). -/
structure Pcie where
  fns : Bank PcieFn := []
  numVfs : BitVec 6 := 0
  vfEnable : Bool := false
  /-- The VF BARs of the SR-IOV capability (R81). -/
  vfBars : Bars := {}
  /-- AER (R75, R76): poisoned TLPs received, completion timeouts, and Unsupported Request and Completer Abort
  completions received. -/
  aerPoisoned : Nat := 0
  aerTimeout : Nat := 0
  aerUnsupported : Nat := 0
  aerAborted : Nat := 0
  deriving DecidableEq, Repr

/-- A mailbox (R89). -/
structure Mailbox where
  lo : Word := 0
  hi : Word := 0
  full : Bool := false
  tmo : Bool := false
  overrun : Bool := false
  rxdown : Bool := false
  dbell : Word := 0
  dbmask : Word := 0xFFFFFFFF
  lock : BitVec 7 := 0
  tmoCfg : BitVec 20 := 10000
  deriving DecidableEq, Repr

/-- MBX_HROUTE_f (R99). -/
structure HRoute where
  core : BitVec 2 := 0
  en : Bool := false
  deriving DecidableEq, Repr

/-- MBX_IROUTE_i (R99). -/
structure IRoute where
  sender : BitVec 7 := 0
  receiver : BitVec 7 := 0
  deriving DecidableEq, Repr

/-- The status page of a function (R86). -/
structure StatusPage where
  fwReady : Bool := false
  phase : BitVec 2 := 0
  pair : BitVec 2 := 0
  dbDrop : Word := 0
  badAcc : Word := 0
  evtLost : Word := 0
  deriving DecidableEq, Repr

/-- The mailbox block: CMD mailboxes at keys 0-63, EVT at 64-127, internal ones at 128-143. -/
structure Mbx where
  box : Bank Mailbox := []
  hroute : Bank HRoute := []
  iroute : Bank IRoute := []
  page : Bank StatusPage := []
  deriving DecidableEq, Repr

/-! ### Cetrix firmware (04, 05, 16, 20) -/

/-- A session (04 R120-R122). -/
structure Session where
  fn : BitVec 6
  admin : Bool
  tenant : BitVec 10
  check : BitVec 20
  deriving DecidableEq, Repr

/-- The quorum that is open, gathering or, with `ticket`, met (04 R149-R155). -/
structure Quorum where
  qid : Word
  session : Word
  purpose : Half
  digest : BitVec 384
  m : Nat
  n : Nat
  challenge : List Byte
  operators : List Long
  failures : Nat
  ticket : Bool
  deriving DecidableEq, Repr

/-- What a command that has not answered waits for. -/
inductive WaitWhy where
  /-- An earlier command of its session, or one that names the same slot (R119). -/
  | order
  /-- Output of a DRBG instance, after a reseed with `fresh` (12 R373-R378). -/
  | rng (inst : Nat) (fresh : Bool)
  /-- A cipher core (07 R250-R253, R257). -/
  | cipher
  /-- The zeroisation of a run, and the partner's acknowledgement of its record (05 R177). -/
  | run (slot : Nat) (ack : Option Word)
  /-- A public-key engine (10 R325), or a counter lease of a slot (05 R172). -/
  | engine
  | lease (slot : Nat)
  /-- A card port (kind 0) or contact slot (kind 1) in use (15 R450). -/
  | card (kind index : Nat)
  /-- The completion of a ring's fetched jobs, and the acknowledgement of its record (06 R213). -/
  | drain (ring : Nat) (ack : Option Word)
  /-- A field hold on a tag page (14 R430); `n` pages have been read. -/
  | tag
  /-- The partner's BIND (16 R463). -/
  | bind
  /-- The verification of a staged image (17 R494). -/
  | stage
  /-- The shutdown (02 R67). -/
  | shelf
  /-- The partner's acknowledgement of a mirror record (16 R465). -/
  | ack (seq : Word)
  deriving DecidableEq, Repr

/-- A command that has been taken and has not answered (R112, R117-R119): the command with its header, the session, the
slots it names, what it waits for, whether it answers nothing (R80), bytes of its response already made, and whether it has passed
its quorum check (R155). -/
structure Waiting where
  cmd : Instr
  opc : Half
  hdr : CmdHdr
  slots : List Nat
  why : WaitWhy
  silent : Bool := false
  data : List Byte := []
  ticketed : Bool := false
  deriving DecidableEq, Repr

/-- An extension module or decode package in force (20 R564). -/
structure Module where
  id : Word
  decode : Bool
  version : Byte
  /-- The opcodes of a decode package, and the package as firmware keeps it in custody SRAM (20 R564). -/
  ops : List Byte := []
  package : List Byte := []
  deriving DecidableEq, Repr

/-- A membership blob that firmware has verified (16 R476): its fields, and the domain root keys. -/
structure Membership where
  device : Half
  m : Byte
  n : Byte
  recM : Byte
  recN : Byte
  issue : Word
  operatorRoot : List Byte
  rootEc : List Byte
  rootDsa : List Byte
  deriving DecidableEq, Repr

/-! ### Public-key operations (10) -/

/-- The latched PKE_CMD of the operation in progress (R339). -/
structure PkeJob where
  op : Byte
  set : BitVec 3
  inline : Bool
  prehash : Bool
  kout : Bool
  ch : Fin 4
  deriving DecidableEq, Repr

/-- An operation that firmware runs again from the start on an engine, with the registers it wrote (R332, R336); `avoid` is the engine
that failed it. -/
structure PkeWork where
  job : PkeJob
  key : Word
  tenant : Half
  src : Word
  srcLen : BitVec 21
  dst : Word
  dstCap : BitVec 14
  master : CoreNo
  irqDest : BitVec 3
  irqEn : Bool
  avoid : Option Nat
  deriving DecidableEq, Repr

/-! ### Firmware -/

/-- What custody firmware keeps (04). -/
structure Fw where
  /-- Sessions by index (R121). -/
  sessions : Bank (Option Session) := []
  /-- Highest accepted sequence plus 1 by tenant (R125). -/
  tenantSeq : Bank Nat := []
  quorum : Option Quorum := none
  /-- Commands that wait, in the order taken. -/
  waiting : List Waiting := []
  /-- Notices that arose and wait for the EVT mailbox, by function (R112). -/
  notices : Bank (List Long) := []
  /-- The domain membership, once loaded (05 R160; 16 R477). -/
  membership : Option Membership := none
  /-- A DOMAIN_JOIN has succeeded in this boot (16 R479). -/
  joined : Bool := false
  modules : List Module := []
  /-- Public-key operations to run again from the start (10 R332, R336). -/
  pkeAgain : List PkeWork := []
  /-- Opcodes loaded in this boot (20 R564). -/
  loadedOps : List Byte := []
  nextModule : Word := 1
  /-- The command that goes on now answers nothing (R80); false between commands. -/
  mute : Bool := false
  /-- The command that runs now has passed its quorum check (04 R155); false between commands. -/
  ticketed : Bool := false
  deriving DecidableEq, Repr

/-! ### Key store (05) -/

/-- An occupied run, held at its head slot: attributes, material of the whole run, key identifier, invocation counter
(R161-R171), the marked-empty flag and the references of R177. -/
structure KeyRun where
  attr : Attr
  material : List Byte
  keyId : Long
  counter : Word
  marked : Bool
  refs : Nat
  /-- It came from a blob (04 R125). -/
  loaded : Bool := false
  deriving DecidableEq, Repr

/-- A latched KEY_CMD; its ANY and SLOT fields stand in the channel (R182).  `unload` holds, once its run has been marked, the head
slot and generation whose zeroisation it waits for. -/
inductive KeyOp where
  | load
  | import (kw : Bool)
  | exportBlob (kw : Bool)
  | blob
  | generate
  | unload (marked : Option (Nat × Half))
  | query
  deriving DecidableEq, Repr

/-- The key-store channel of a custody core (R182).  `attr` is KEY_ATTR_0-7. -/
structure KeyChan where
  op : Option KeyOp := none
  any : Bool := false
  slot : BitVec 15 := 0
  arg : Word := 0
  len : Word := 0
  blobIn : List Word := []
  blobOut : List Word := []
  status : Half := 0
  done : Bool := false
  busy : Bool := false
  field : BitVec 14 := 0
  handleOut : Word := 0
  wrap : Word := 0
  attr : Bank Word := []
  deriving DecidableEq, Repr

/-- The key store (R182).  Slots are held as runs by head slot. -/
structure Keys where
  runs : Bank (Option KeyRun) := []
  gens : Bank (BitVec 9) := []
  /-- Handle salt (R166), S0 and Q (R170). -/
  salt : Word := 0
  s0 : Half := 0
  q : Half := 0
  saltsIssued : Nat := 0
  /-- Next creation sequence value, 0x10000 once all are used (R169). -/
  creation : Nat := 0
  chans : Bank KeyChan := []
  ready : Bool := false
  zeroising : Bool := false
  integrity : Bool := false
  zeroAll : Bool := false
  deriving DecidableEq, Repr

/-! ### Job rings and the job pipeline (06) -/

/-- A ring pair (R217). -/
structure Ring where
  fn : BitVec 6 := 0
  vector : BitVec 5 := 0
  size : BitVec 5 := 0
  tenant : BitVec 10 := 0
  irqEn : Bool := false
  desc : Long := 0
  cmpl : Long := 0
  shd : Long := 0
  /-- 0 NONE, 1 ACTIVE, 2 STOPPED, 3 DRAINING, 4 CARRIED. -/
  state : BitVec 3 := 0
  fetchErr : Bool := false
  p : Word := 0
  f : Word := 0
  c : Word := 0
  dbBad : Word := 0
  /-- Descriptors of a read that has been issued and has not arrived (R193). -/
  issued : Nat := 0
  /-- Descriptors between C and F that the member which goes on with a ring reads once more, the last ones before F (16 R471). -/
  reread : Nat := 0
  deriving DecidableEq, Repr

/-- A 64-byte descriptor (R194). -/
structure Desc where
  opcode : Byte
  format : Byte
  port : Byte
  code : Byte
  handle : Word
  len : Word
  aadLen : Half
  rsv : Half
  src : Long
  dst : Long
  cap : Word
  tag : Word
  paramA : Long
  paramB : List Byte
  deriving DecidableEq, Repr

/-- A secret as two Boolean shares, whose XOR it is (07 R238, R241). -/
structure Shares where
  a : List Byte := []
  b : List Byte := []
  deriving DecidableEq, Repr

/-- An entry of the context memory (07 R237): job reference, opcode, check mode, cuts completed, key references, chaining
block, GHASH accumulator or K2, H or the encrypted tweak, AAD bytes absorbed, work completed, IV octets. -/
structure Context where
  ref : Word
  opcode : Byte
  inverse : Bool
  cuts : Half := 0
  key : BitVec 24
  tweakKey : BitVec 24 := 0
  chain : List Byte := List.replicate 16 0
  acc : Shares := {}
  h : Shares := {}
  aad : Long := 0
  done : Long := 0
  iv : List Byte := List.replicate 12 0
  deriving DecidableEq, Repr

/-- Where a job stands in the pipeline (R22): waiting for the named stage, parked in a port's read table (R207), in the
ready set of the Clicker, dealt to a core, in the digest units, staged for a port, or a token in the collector. -/
inductive JobAt where
  | admission | key | parked | cut | ready
  | onCore (c : Nat)
  | digest | tag | release
  | staged | sent
  | token
  deriving DecidableEq, Repr

/-- A job in flight (R22-R24, R204, R226, R230, R237). -/
structure Job where
  desc : Desc
  pos : JobAt
  status : Half := 0
  detail : Word := 0
  /-- STAGE of R199. -/
  stage : BitVec 4 := 0
  /-- Slots the job holds references to (R177). -/
  slots : List Nat := []
  inverse : Bool := false
  iv : BitVec 96 := 0
  cuts : Nat := 0
  cutsDone : Nat := 0
  /-- The job's context entry, while one is allocated, and the entry at the starting boundary of the last cut (07 R237, R246). -/
  ctx : Option Context := none
  ctxStart : Option Context := none
  /-- Bytes of the release buffer the job holds (R196). -/
  buf : Nat := 0
  /-- The sector a SOLE_READ received, and the tag that came with the source of a GCM_DEC. -/
  input : List Byte := []
  tag : List Byte := []
  /-- Output bytes not yet written to the destination. -/
  out : List Byte := []
  outLen : Word := 0
  /-- Order in which the cut became ready, and the time in µs (R234). -/
  readySeq : Nat := 0
  readyUs : Nat := 0
  /-- The cut goes ahead of every other ready cut (R246). -/
  redeal : Bool := false
  /-- The core that ran the job's last cut, the bytes that cut wrote to host memory, and the output held before it (R244,
  R246). -/
  lastCore : Nat := 0
  lastOut : Nat := 0
  heldOut : List Byte := []
  /-- Slot handle bound to the frame's key identifier (R207). -/
  frameHandle : Option Word := none
  /-- A read whose frame has ended with a good CRC, and whether its check passed (R283). -/
  frameEnd : Option Bool := none
  /-- Order of entry into the port's read table (R207). -/
  parkSeq : Nat := 0
  /-- `iv` is the whole IV of a mirrored record (16 R471). -/
  fixed : Bool := false
  /-- Run by a survivor for its partner's ring (R215). -/
  carried : Bool := false
  deriving DecidableEq, Repr

/-- The ring engine and the pipeline (R217, R186, R196, R209). -/
structure Rings where
  sel : BitVec 14 := 0
  ring : Bank Ring := []
  /-- RING_PAGE_k: function in [5:0], EN in [6]. -/
  page : Bank (BitVec 7) := []
  wsel : BitVec 9 := 0
  /-- Window bounds, by RING_WSEL: function + 64 × window. -/
  wbase : Bank Long := []
  wlim : Bank Long := []
  /-- Functions that have had a RING_WINDOW (R113). -/
  windowed : BitVec 64 := 0
  /-- Jobs in flight, by ring × 2^32 + count. -/
  jobs : Bank (Option Job) := []
  /-- Numbers given to jobs as they become ready or park. -/
  seq : Nat := 0
  collHw : Nat := 0
  abortAll : Bool := false
  /-- Rings whose descriptor read was under way when the abort of all rings was ordered (R214). -/
  abortReads : List Nat := []
  /-- Vectors with completions to report: function × 32 + vector (R200). -/
  irqDue : List Nat := []
  deriving DecidableEq, Repr

/-! ### Cipher cluster (07) -/

/-- A datapath of a cipher core (R241): the key and its expanded schedule, and an XTS tweak key with its schedule, each in two
shares; whether the schedule is that of the inverse cipher. -/
structure Datapath where
  key : Shares := {}
  sched : Shares := {}
  tweakKey : Shares := {}
  tweakSched : Shares := {}
  inverse : Bool := false
  deriving DecidableEq, Repr

/-- A cipher core (R259 CPH_; R241). -/
structure CphCore where
  /-- The job whose cut the core runs: its key in `Rings.jobs`. -/
  work : Option Nat := none
  quar : Bool := false
  qcount : BitVec 2 := 0
  check : Bool := false
  cls : Bool := false
  opcode : Byte := 0
  cuts : Word := 0
  blocks : Word := 0
  stepA : BitVec 4 := 0
  stepB : BitVec 4 := 0
  katRun : Bool := false
  katDone : Bool := false
  katPass : Bool := false
  /-- The last deal to this core was made under step 1 of R234. -/
  lastAged : Bool := false
  /-- The job of the cut has ended meanwhile: the cut runs to completion and its results go nowhere (R236, R258). -/
  orphan : Option Job := none
  dpA : Datapath := {}
  dpB : Datapath := {}
  deriving DecidableEq, Repr

/-- The Clicker (R259 CLK_). -/
structure Cipher where
  coreEn : Half := 0xFFFF
  half : Bool := false
  age : Half := 256
  ctxHw : Nat := 0
  mismTotal : Half := 0
  lastCore : BitVec 4 := 0
  lastGhash : Bool := false
  /-- Times in µs of the mismatches of the last second (R247). -/
  mismTimes : List Nat := []
  aged : Word := 0
  cores : Bank CphCore := []
  deriving DecidableEq, Repr

/-! ### Sole ports and the Last (08, 09) -/

/-- An entry of a port's volume table (08 R282, R290). -/
structure VolEntry where
  keyId : Long := 0
  vol : BitVec 24 := 0
  valid : Bool := false
  handle : Word := 0
  deriving DecidableEq, Repr

/-- Whether a port has trained (08 R273, R274, R286). -/
inductive Trained where
  | no | training | failed | yes
  deriving DecidableEq, Repr

/-- The step of training in progress (08 R273): the answers to CAPS, GEOMETRY, and LOOP `k` of 16. -/
inductive TrainAt where
  | caps | geometry | loop (k : Nat)
  deriving DecidableEq, Repr

/-- An entry of a port's write schedule (09 R307): the job, its sector address, its staging granules (first and number)
and whether all of them are written, its deferral count, whether it has been sent, and the sequence of the SECTOR frame
that waits for its acknowledgement. -/
structure SchedEntry where
  job : Nat
  addr : Long
  granule : Option (Nat × Nat) := none
  staged : Bool := false
  deferrals : Nat := 0
  sent : Bool := false
  seq : Option Half := none
  deriving DecidableEq, Repr

/-- A tracker (09 R293): p0 is in 2^-16 ticks. -/
structure Tracker where
  /-- 0 IDLE, 1 ACQUIRE, 2 TRACK. -/
  state : BitVec 2 := 0
  p0 : Nat := 0
  pass0 : Half := 0
  v : Nat := 0
  t0 : BitVec 48 := 0
  rej : BitVec 2 := 0
  /-- Consecutive stamps accepted in ACQUIRE (R295). -/
  stamps : Nat := 0
  /-- The cycle of the last update (R306). -/
  updAt : BitVec 48 := 0
  acqs : Byte := 0
  missed : Half := 0
  resid : Word := 0
  accept : Word := 0
  reject : Word := 0
  tmoCnt : Word := 0
  clamp : Word := 0
  defer : Word := 0
  skipTx : Word := 0
  deriving DecidableEq, Repr

/-- The SECTOR frame in progress (08 R264, R281): its header and sector header, the read job it is attributed to, whether it is
discarded, and whether it raises the credit limit when it has been consumed (R271). -/
structure RxFrame where
  fh : FrameHdr
  hdr : List Byte
  code : BitVec 2
  job : Option Nat
  discard : Bool
  raises : Bool
  deriving DecidableEq, Repr

/-- A Sole port (08 R290, 09 R314). -/
structure Port where
  en : Bool := false
  dual : Bool := false
  /-- SOL_CFG.ROLE as written: 1 ACTIVE. -/
  role : Bool := false
  /-- Host hold (R288). -/
  hold : Bool := false
  xcode : BitVec 2 := 0
  xany : Bool := true
  lock : Bool := false
  trained : Trained := .no
  step : TrainAt := .caps
  /-- Requests of the step already sent (R274). -/
  attempt : Nat := 0
  /-- Training attempts since PORT_CONFIG (R289). -/
  attempts : Word := 0
  code : BitVec 2 := 0
  /-- The drive's payload code mask, from CAPS (R274). -/
  mask : BitVec 3 := 0
  drvActive : Bool := false
  /-- The drive holds (R270). -/
  drvHold : Bool := false
  /-- The reason of the hold that stands, and of the last HOLD sent (R270). -/
  holding : Option (BitVec 2) := none
  holdWhy : BitVec 2 := 0
  tpp : Long := 0
  pitch : Word := 0
  spp : Word := 0
  offs : Word := 0
  delay : Half := 0
  rtt : Half := 0
  /-- Smallest corrected round trip of the training in progress (R275). -/
  rttMin : Option Half := none
  /-- Token of the LOOP frame that waits for its echo, and every token sent (R274). -/
  token : Word := 0
  tokens : List Word := []
  txSeq : Half := 0
  rxSeq : Half := 0
  /-- After TRAIN_DONE, while the drive's frame with sequence 0 has not come: the sequence its frames continue with (R263). -/
  rxOld : Option Half := none
  /-- Limit last sent, limit raised, and SECTOR frames received since training (R271). -/
  credit : Word := 0
  raised : Word := 0
  received : Word := 0
  err : BitVec 12 := 0
  crc : Word := 0
  unmatched : Word := 0
  excess : Word := 0
  resync : Word := 0
  skips : Word := 0
  sentCnt : Word := 0
  vsel : Byte := 0
  vols : Bank VolEntry := []
  sched : List SchedEntry := []
  /-- The transmit lane carries a SECTOR frame (R308, R309). -/
  laneBusy : Bool := false
  /-- The SECTOR frame in progress (R281). -/
  frame : Option RxFrame := none
  /-- The hold limit has been reached and the port cannot yet send (R312). -/
  holdOver : Bool := false
  alpha : Half := 0x2000
  beta : Half := 0x0222
  vlo : Word := 0x4000
  vhi : Word := 0x40000
  lead : Word := 0
  gate : Word := 0
  agate : Word := 0
  tmoUs : BitVec 10 := 0
  holdMs : Half := 0
  acqN : BitVec 7 := 0
  trk : Tracker := {}
  /-- The furthest point that the prediction, brought forward by the lead time of R305, has reached in TRACK: a pass and a
position from its start in 2^-16 ticks.  Every window point at or below it has opened or been passed (R306). -/
  reach : Option (Half × Int) := none
  deriving DecidableEq, Repr

/-- The sixteen ports and the device time (R291; LST_TIME). -/
structure Sole where
  port : Bank Port := []
  time : BitVec 48 := 0
  timeHi : Half := 0
  deriving DecidableEq, Repr

/-! ### Public-key engines (10) -/

/-- Why an engine is in STATE CLEAR (R334-R336). -/
inductive PkeClearing where
  | no | abort | halt | clear
  deriving DecidableEq, Repr

/-- The scratch memory of an engine, which no bus master can address (R315, R316): the slot key's type and material, the random draws of
the run, and the secret result. -/
structure PkeScratch where
  type : Byte := 0
  key : List Byte := []
  drawn : List Byte := []
  secret : List Byte := []
  deriving DecidableEq, Repr

/-- An engine's registers, operand memory and scratch (R339, R315). -/
structure PkeEngine where
  job : Option PkeJob := none
  key : Word := 0
  tenant : Half := 0
  src : Word := 0
  srcLen : BitVec 21 := 0
  dst : Word := 0
  dstCap : BitVec 14 := 0
  state : BitVec 3 := 0
  done : Bool := false
  owner : BitVec 7 := 0
  reruns : BitVec 2 := 0
  qcount : BitVec 2 := 0
  result : Half := 0
  detail : Word := 0
  outLen : BitVec 14 := 0
  abortGo : Bool := false
  clearGo : Bool := false
  clearing : PkeClearing := .no
  irqDest : BitVec 3 := 0
  irqEn : Bool := false
  irqPend : Bool := false
  iter : BitVec 10 := 0
  time : Word := 0
  katRun : Bool := false
  katDone : Bool := false
  katPass : Bool := false
  /-- The slot the operation holds a reference to (R177, R337). -/
  slot : Option Nat := none
  mem : Bank Byte := []
  /-- The input that the DMA has brought, a streamed message whole (R317). -/
  input : List Byte := []
  scratch : PkeScratch := {}
  /-- Bytes of the public output already at the destination, once the computation has passed (R317). -/
  copied : Option Nat := none
  deriving DecidableEq, Repr

/-! ### Digest engine and measurement registers (11) -/

/-- An open digest context (R349-R355).  The data absorbed is held whole; `base` is the state a RESTORE brought. -/
structure DigCtx where
  alg : Byte
  owner : Half
  ksrc : BitVec 2
  keyed : Bool
  key : List Byte
  custom : List Byte
  base : Option (List Byte)
  data : List Byte
  count : Long
  /-- One of the two shares of a keyed state, whose other share is its XOR with the state (R342). -/
  mask : List Byte := []
  deriving DecidableEq, Repr

/-- What a digest unit works on: a channel operation or a ring job (R346, R347). -/
inductive DigWork where
  | chan (m : Nat)
  | ring (r : Nat) (n : Word)
  deriving DecidableEq, Repr

/-- A digest unit (R360 DIG_UNIT_c). -/
structure DigUnit where
  work : Option DigWork := none
  quar : Bool := false
  qcount : Nat := 0
  deriving DecidableEq, Repr

/-- A firmware channel (R360).  `op` is the operation in progress: its OP code and command word. -/
structure DigChan where
  key : Word := 0
  tenant : Half := 0
  src : Word := 0
  len : BitVec 24 := 0
  dst : Word := 0
  outLen : BitVec 24 := 0
  done : Bool := false
  unit : BitVec 2 := 0
  result : Half := 0
  detail : Word := 0
  vlen : BitVec 7 := 0
  ctx : Option DigCtx := none
  op : Option (Byte × DigCmd) := none
  waiting : Bool := false
  /-- The slot a keyed INIT in progress holds a reference to (R358). -/
  slot : Option Nat := none
  ctxIn : List Word := []
  ctxOut : List Word := []
  irqEn : Bool := false
  irqPend : Bool := false
  exp : Bank Byte := []
  deriving DecidableEq, Repr

/-- A measurement register (R357). -/
structure MeasReg where
  value : List Byte := List.replicate 64 0
  alg : Byte := 0
  count : Half := 0
  deriving DecidableEq, Repr

/-- The digest units, channels and measurement registers (R360). -/
structure Dig where
  chans : Bank DigChan := []
  units : Bank DigUnit := []
  /-- Work ready for a unit, in the order it became ready (R347). -/
  ready : List DigWork := []
  en : BitVec 4 := 0xF
  mism : Word := 0
  seals : Nat := 0
  katUnit : BitVec 2 := 0
  katRun : Bool := false
  katDone : Bool := false
  katPass : Bool := false
  meas : Bank MeasReg := []
  measLatch : List Byte := List.replicate 64 0
  deriving DecidableEq, Repr

/-! ### Random number generation (12) -/

/-- A request waiting for a class K block with FRESH (R373, R375): of a core's channel, of a firmware command, or of a
public-key engine. -/
inductive RngClaim where
  | chan (c : Nat)
  | cmd (fn : Nat) (tag : Word)
  | pke (n : Nat)
  deriving DecidableEq, Repr

/-- A request on a channel: instance, FRESH, NOWAIT and words (R382). -/
structure RngRequest where
  inst : Nat
  fresh : Bool
  words : Nat
  deriving DecidableEq, Repr

/-- The request channel of a core (R382). -/
structure RngChan where
  status : Half := 0
  waiting : Option RngRequest := none
  data : List Word := []
  wlim : BitVec 20 := 100000
  deriving DecidableEq, Repr

/-- A DRBG instance: CTR_DRBG with AES-256 (R371, R382 RNG_INST_i). -/
structure DrbgInst where
  seeded : Bool := false
  count : Nat := 0
  key : List Byte := []
  v : List Byte := []
  /-- A background reseed of R373 is due and waits for a block. -/
  due : Bool := false
  deriving DecidableEq, Repr

/-- The masking generator of a cipher core: AES-256 in counter mode (07 R252; R369, R370). -/
structure MaskGen where
  seeded : Bool := false
  stopped : Bool := false
  fromK : Bool := false
  due : Bool := false
  key : List Byte := []
  ctr : List Byte := []
  deriving DecidableEq, Repr

/-- What a conditioner has absorbed towards its current block: the samples, one to a byte, and their claimed entropy in quarters of a
bit (R361, R362). -/
structure Conditioner where
  input : List Byte := []
  claimed : Nat := 0
  deriving DecidableEq, Repr

/-- The random number block (R382). -/
structure Rng where
  ready : Bool := false
  audit : Bool := false
  mDegraded : Bool := false
  kLow : Bool := false
  /-- The start-up tests have ended (R367 step 2). -/
  tested : Bool := false
  /-- Sources failed now (R365). -/
  failed : BitVec 28 := 0
  /-- RNG_SRC_FAIL: a failure has happened (W1C). -/
  srcFail : BitVec 28 := 0
  /-- A retest of the source runs (R365). -/
  retesting : BitVec 28 := 0
  /-- Failed retests by source in this boot. -/
  retests : Bank Nat := []
  failures : Word := 0
  kBlocks : Long := 0
  /-- Entries of alarm source 48 since reset (R381). -/
  entries48 : Word := 0
  /-- The seed buffer: class K blocks, oldest first, at most 8 (R362). -/
  buffer : List (List Byte) := []
  /-- What the class M and class K conditioners have absorbed towards their current blocks (R362, R363). -/
  condM : Conditioner := {}
  condK : Conditioner := {}
  /-- The known-answer test of a class's conditioner, or for class K of CTR_DRBG, has failed in this boot (R367, R368). -/
  katFailM : Bool := false
  katFailK : Bool := false
  freshQueue : List RngClaim := []
  chans : Bank RngChan := []
  insts : Bank DrbgInst := []
  gens : Bank MaskGen := []
  rawSel : BitVec 5 := 0
  /-- 32-sample words in the raw FIFO, oldest first (R379). -/
  raw : List Word := []
  /-- Samples in the FIFO beyond its whole words. -/
  rawPart : Nat := 0
  gap : Bool := false
  deriving DecidableEq, Repr

/-! ### Alarm controller and tamper log (13) -/

/-- An entry of the tamper log before it is committed: bytes 0-5 and 8-15 of R401. -/
structure LogItem where
  stamp : BitVec 48
  src : Byte
  resp : Byte
  flags : Byte
  count : Byte
  detail : Word
  deriving DecidableEq, Repr

/-- A committed entry: its extended sequence number (R400) and chain value (R402). -/
structure LogEntry where
  item : LogItem
  seq : Word
  chain : BitVec 128
  deriving DecidableEq, Repr

/-- The coalescing window of a source (R404): open or not, timed in ICLK on VBAT or in ACLK, and the assertions counted in
it with the last one's detail word, response byte and flags. -/
structure CoalWin where
  isOpen : Bool := false
  vbat : Bool := false
  count : Nat := 0
  detail : Word := 0
  resp : Byte := 0
  flags : Byte := 0
  deriving DecidableEq, Repr

/-- The default response table (R394). -/
def defaultCode (src : Nat) : BitVec 3 :=
  if src = 39 then 6
  else if src ∈ [32, 37, 38, 40, 49, 50, 51, 52, 53] then 5
  else if src = 54 then 2
  else if src ∈ [3, 13, 23, 35, 43, 44, 45, 46, 48, 55, 56] then 1
  else if src < 57 then 4
  else 0

/-- The alarm controller's main-domain registers (R410). -/
structure Alarm where
  /-- ALM_RESP_k: the table in force, by source. -/
  resp : Bank (BitVec 3) := Bank.tab 0 64 defaultCode
  /-- ALM_STATE: sources asserted now. -/
  asserted : BitVec 64 := 0
  pend : BitVec 64 := 0
  ien : BitVec 64 := 0x01FFFFFFFFFFFFFF
  /-- Sources handed over pending with code 1: they raise the interrupt while their PEND bit stands (02 R46). -/
  handed : BitVec 64 := 0
  route : BitVec 3 := 0
  halt : Bool := false
  zero : Bool := false
  /-- ALM_ACT.RESET: a reset is decided and waits for R391. -/
  resetDecided : Bool := false
  /-- The decided reset is that of a code-4 response, which no zeroisation holds back (R390, R397). -/
  resetNow : Bool := false
  govern : BitVec 3 := 0
  /-- A code-6 response is in progress: the insole key is zeroised at step 6 of R390. -/
  zeroInsole : Bool := false
  raiseDet : Word := 0
  stitch : Word := 0
  logSel : Word := 0
  /-- ALM_LOG_STAT.BACKUP. -/
  backup : Bool := false
  deriving DecidableEq, Repr

/-- The alarm controller's part in the Insole domain (R395, R399-R408). -/
structure Log where
  entries : List LogEntry := []
  /-- Entries registered and not yet committed, in order (R403). -/
  queue : List LogItem := []
  /-- Entries of `queue` that a main-domain reset waits for (R391). -/
  owed : Nat := 0
  next : Word := 0
  head : BitVec 128 := 0
  exp : Word := 0
  expValid : Bool := false
  readMax : Word := 0
  readValid : Bool := false
  /-- Which of the eight words of an entry have been read, by extended sequence (R408). -/
  readWords : Bank Byte := []
  /-- ALM_OVF_s (R405). -/
  ovf : Bank Half := []
  /-- Overflow summaries that did not fit at a release (R406). -/
  sumPending : Bool := false
  kept : Bank (BitVec 3) := Bank.tab 0 64 defaultCode
  windows : Bank CoalWin := []
  pendMax : BitVec 3 := 0
  pendCode6 : Bool := false
  pendCount : Byte := 0
  pendMask : BitVec 64 := 0
  /-- An entry with BACKUP has been committed since the end of the previous boot (R410). -/
  backupSince : Bool := false
  deriving DecidableEq, Repr

/-! ### Insole domain, tag memory and contactless port (14) -/

/-- The Insole items of R413 but for the log, and the Insole registers of R435. -/
structure Insole where
  /-- The domain runs from VBAT (R38). -/
  onVbat : Bool := false
  rtc : BitVec 48 := 0
  rtcHi : Half := 0
  epoch : Word := 0
  trusted : Bool := false
  ik : Option (List Byte) := none
  auditKey : Option (List Byte) := none
  auditId : Long := 0
  drbg : List Byte := []
  seeded : Bool := false
  /-- Clock C3 is too high, too low or short of a phase now: sources 3, 13 and 23 (R414). -/
  c3Out : BitVec 3 := 0
  vbatMv : Half := 3000
  /-- Transmit budget in 0.001 mA·s: a refill step is 3.6 mA·s per hour over 32,768 ICLK (R412). -/
  budget : Int := 18000
  failCount : BitVec 2 := 0
  blocked : Bool := false
  failTotal : Half := 0
  /-- The Insole domain has restarted empty since the last boot (R413: VBAT_LOST for the next boot). -/
  vbatLost : Bool := true
  /-- The levels driven on TAMP_OUT_n (13 R387). -/
  tampOut : BitVec 4 := 0
  /-- An unannounced power loss is recorded since the last boot (R423). -/
  unannounced : Bool := false
  deriving DecidableEq, Repr

/-- Main-domain registers of the Insole block (R435). -/
structure InsReg where
  ikGen : Bool := false
  ikBusy : Bool := false
  audHdl : Word := 0
  audDone : Bool := false
  audStatus : Half := 0
  tagSel : BitVec 7 := 0
  latched : Bool := false
  result : BitVec 2 := 0
  version : Half := 0
  latch : Bank Byte := []
  /-- Instance 10 has delivered its seed in this boot (R417). -/
  seedDelivered : Bool := false
  staging : Bank Byte := []
  /-- A host latch (`false`) or commit (`true`) waits for a field hold (R430). -/
  hostWait : Option Bool := none
  deriving DecidableEq, Repr

/-- A page of tag memory: its data, and its pointer word, which names the version and the buffer that holds the data (R429).  Page
`n` starts in buffer `n`, for which `none` stands. -/
structure TagPage where
  data : List Byte := List.replicate 64 0
  version : Half := 0
  buffer : Option (Fin 130) := none
  deriving DecidableEq, Repr

/-- Where the ISO/IEC 14443-3 activation of the listen port stands (R419, R422). -/
inductive Iso3 where
  | idle | ready | active | halted
  deriving DecidableEq, Repr

/-- The listen mode of the contactless port (R419-R427), in the Insole domain with the tag memory. -/
structure Listen where
  field : Bool := false
  susp : Bool := false
  uid : Word := 0
  iso : Iso3 := .idle
  session : Bool := false
  dsi : BitVec 2 := 0
  dri : BitVec 2 := 0
  selected : Bool := false
  secured : Bool := false
  /-- RndB of the AUTH_1 just answered (R425). -/
  pendingRndB : Option (List Byte) := none
  rndB : List Byte := []
  ks : List Byte := []
  ctrIn : Nat := 0
  ctrOut : Nat := 0
  /-- The page a field frame holds (R430). -/
  held : Option (BitVec 7) := none
  /-- Block number of the half-duplex block protocol. -/
  blockNo : Bool := false
  /-- The last answer sent to the reader. -/
  answer : List Byte := []
  pages : Bank TagPage := []
  /-- The spare buffers of the host side and of the field side, by number, and the bytes staged in the field side's (R429). -/
  spareHost : Fin 130 := 128
  spareField : Fin 130 := 129
  fieldStaging : List Byte := []
  deriving DecidableEq, Repr

/-- Poll mode and the CLS_ registers (R432, R436). -/
inductive PollMode where
  | off | polling | badge
  deriving DecidableEq, Repr

/-- The poll-mode registers (R436). -/
structure Cls where
  mode : PollMode := .off
  exchanging : Bool := false
  typeA : Bool := true
  typeB : Bool := true
  maxRate : BitVec 2 := 0
  status : Half := 0
  pollTmo : BitVec 14 := 1000
  uid : List Byte := []
  uidTypeB : Bool := false
  tx : List Word := []
  rx : List Word := []
  txLen : Word := 0
  rxLen : Word := 0
  irqDest : BitVec 3 := 0
  irqEn : Bool := false
  irqPend : Bool := false
  fieldOn : Bool := false
  deriving DecidableEq, Repr
/-! ### Card ports and contact slots (15) -/

/-- SD_STATE_p.STATE (R458). -/
inductive SdSt where
  | disabled | empty | settle | init | ready | xfer | busy | removing | failed
  deriving DecidableEq, Repr

/-- A transfer that an SD port runs (R441-R443): whether it writes, the first block, the count, the buffer address, the
bytes confirmed, the rereads made after a CRC error, and whether the card has been power-cycled for it. -/
structure SdRun where
  write : Bool
  lba : Word
  count : Half
  addr : Word
  confirmed : Nat := 0
  rereads : Nat := 0
  cycled : Bool := false
  /-- The busy that the port waits for is that of CMD12, after a write's last block (R441, R442). -/
  stopping : Bool := false
  deriving DecidableEq, Repr

/-- A journal record (R448). -/
structure JRec where
  seq : Word
  kind : Byte
  first : Word
  count : Word
  digest : List Byte
  deriving DecidableEq, Repr

/-- An SD port (R458) with what firmware keeps of its card (R447-R449). -/
structure SdPort where
  en : Bool := false
  maxMode : BitVec 3 := 1
  state : SdSt := .disabled
  det : Bool := false
  wp : Bool := false
  v18 : Bool := false
  mode : BitVec 3 := 0
  cap : BitVec 2 := 0
  tap : BitVec 6 := 0
  why : BitVec 4 := 0
  /-- SD_PWREN_p is asserted; the on-chip discharge of the port's I/O rail is applied (R439, R445). -/
  power : Bool := false
  discharge : Bool := true
  /-- What the card supports: its modes by their codes (R437, R440), and CMD23 (R441). -/
  modes : BitVec 7 := 0
  cmd23 : Bool := false
  /-- Time in µs of the last tuning (R440). -/
  tunedUs : Nat := 0
  run : Option SdRun := none
  lba : Word := 0
  count : Half := 0
  addr : Word := 0
  status : Half := 0
  done : Bool := false
  xfer : Word := 0
  busyTmo : BitVec 13 := 0
  irqDest : BitVec 3 := 0
  irqEn : Bool := false
  irqPend : Bool := false
  foreign : Bool := false
  blocks : Word := 0
  generation : Word := 0
  lastSeq : Word := 0
  /-- Live VOID runs: first data block and count. -/
  voids : List (Word × Word) := []
  /-- The records in the 1,024 slots of the journal, and the slot that the next record takes (R447-R449). -/
  journal : Bank (Option JRec) := []
  slot : Nat := 0
  deriving DecidableEq, Repr

/-- ICC_STATE_s.STATE (R458). -/
inductive IccSt where
  | disabled | empty | present | activating | active | clockStopped | deactivating | failed
  deriving DecidableEq, Repr

/-- A contact slot (R451-R455, R458). -/
structure IccSlot where
  en : Bool := false
  cstopEn : Bool := true
  fmax : BitVec 4 := 8
  state : IccSt := .disabled
  pres : Bool := false
  classB : Bool := false
  t1 : Bool := false
  fi : BitVec 4 := 0
  di : BitVec 4 := 0
  clkKhz : Half := 0
  /-- The clock-stop indicator of the ATR: 0 no stop, 1 low, 2 high, 3 either level (R455); and whether the stopped clock is high. -/
  stop : BitVec 2 := 0
  clkHigh : Bool := false
  /-- ICC_VCCEN_s is asserted. -/
  power : Bool := false
  /-- The operation in progress: ACTIVATE (`false`) or XCHG (`true`). -/
  run : Option Bool := none
  txAddr : Word := 0
  txLen : Word := 0
  rxAddr : Word := 0
  rxCap : Word := 0
  rxLen : Word := 0
  status : Half := 0
  done : Bool := false
  atr : List Byte := []
  irqDest : BitVec 3 := 0
  irqEn : Bool := false
  irqPend : Bool := false
  deriving DecidableEq, Repr

/-- The four SD ports and the two contact slots. -/
structure Cards where
  sd : Bank SdPort := []
  icc : Bank IccSlot := []
  deriving DecidableEq, Repr


/-! ### Pair (16) -/

/-- WLT_STATE.STATE (16 R484). -/
inductive PairState where
  | unpaired | linking | resync | paired | degraded | carrying | given | fenced
  deriving DecidableEq, Repr

/-- What waits for an ACK of the partner under a mirror sequence: a mirror record, or a DEPART with its reason (16 R465, R474). -/
inductive MirrorItem where
  | record (r : MirrorRec)
  | depart (reason : Byte)
  deriving DecidableEq, Repr

/-- A mirror record that waits for its ACK (16 R465). -/
structure MirrorWait where
  seq : Word
  item : MirrorItem
  /-- The lane it was last sent on. -/
  lane : Nat
  /-- The counter lease the record grants: the key of a load, and the top. -/
  lease : Option (Nat × Nat) := none
  deriving DecidableEq, Repr

/-- A ring of the partner as mirrored (R465 kinds 4-7). -/
structure PartnerRing where
  fn : BitVec 6
  vector : BitVec 5
  size : BitVec 5
  tenant : BitVec 10
  irqEn : Bool
  desc : Long
  cmpl : Long
  shd : Long
  p : Word := 0
  f : Word := 0
  c : Word := 0
  /-- Clicker contexts and staged sectors by descriptor count: entry bytes; header, tag and deferral count. -/
  contexts : Bank (List Byte) := []
  staged : Bank (List Byte × List Byte × Nat) := []
  deriving DecidableEq, Repr

/-- The Welt link and the pair (16 R459-R484). -/
structure Welt where
  en : Bool := false
  lanes : BitVec 2 := 0
  state : PairState := .unpaired
  partner : Half := 0
  partnerEpoch : Word := 0
  /-- The random value of the HELLO sent and the partner's HELLO (R461). -/
  random : List Byte := []
  hello : Option Hello := none
  /-- The session key register (R461). -/
  sessionKey : Option (List Byte) := none
  confirmed : Bool := false
  txCounter : Long := 0
  /-- Last counter accepted from the partner plus 1. -/
  rxNext : Nat := 0
  mirrorSeq : Word := 0
  /-- Sequence of the next frame sent (R460; 08 R262). -/
  txSeq : Half := 0
  /-- Last mirror sequence received. -/
  mirrorSeen : Word := 0
  waiting : List MirrorWait := []
  hw : Half := 0
  /-- Own count last written, partner's count last read, whether each word exists. -/
  hb : Word := 0
  phb : Word := 0
  ownWord : Bool := false
  partnerWord : Bool := false
  partnerDeparted : Bool := false
  departSeen : Bool := false
  phbAge : BitVec 20 := 0
  whbAge : BitVec 20 := 0
  err : BitVec 7 := 0
  crcFail : Word := 0
  tagFail : Word := 0
  takeovers : Word := 0
  tkTime : Word := 0
  /-- Alias table: the partner's handle and the own handle of the same key (R464). -/
  aliases : List (Word × Word) := []
  /-- Acknowledged lease tops of own slots, plus 1 (R172, R465). -/
  leases : Bank Nat := []
  /-- DMA windows of the partner's functions: base and limit by function + 64 × window (R465 kind 4). -/
  partnerWindows : Bank (Long × Long) := []
  /-- Lease tops of the partner's slots. -/
  partnerLeases : Bank Nat := []
  rings : Bank (Option PartnerRing) := []
  partnerPorts : Bank (List Byte) := []
  partnerLog : Option (Word × BitVec 128) := none
  /-- The own host word is the 8 bytes after the tail shadow of this ring (R468); rings carried and rings given. -/
  carried : List Nat := []
  /-- Records the partner sent about this member's own rings while it carried them (R474). -/
  back : Bank (Option PartnerRing) := []
  /-- The partner's PAIR_BIND has arrived (R463). -/
  bindSeen : Bool := false
  /-- A handover waits for the partner's acknowledgement (R474). -/
  handover : Option Bool := none
  deriving DecidableEq, Repr

/-! ### Cobbler (17) -/

/-- An event-log entry (R492). -/
structure Event where
  seq : Word
  time : Long
  unit : Half
  cls : Byte
  coalesced : Bool
  count : Word
  detail : Word
  deriving DecidableEq, Repr

/-- A domain-level fault record (00 R5): the device number and class, the time at which its 1 ms window opened, the count. -/
structure DomainFault where
  device : Half
  cls : Byte
  time : Nat
  count : Word
  deriving DecidableEq, Repr

/-- An SPDM session (R493): the transport it runs over (DOE or MCTP), and whether FINISH has been accepted. -/
structure SpdmSession where
  doe : Bool
  finished : Bool := false
  deriving DecidableEq, Repr

/-- What the SPDM responder has agreed with its requester (R493). -/
structure Spdm where
  version : Bool := false
  caps : Bool := false
  algs : Bool := false
  session : Option SpdmSession := none
  deriving DecidableEq, Repr

/-- The Cobbler (R485-R497). -/
structure Cob where
  /-- Entries held, oldest first (R492). -/
  events : List Event := []
  evtNext : Word := 0
  /-- The domain-level records, the last of each device and class (00 R5). -/
  faults : List DomainFault := []
  /-- Time in µs from the reference of 02 R43. -/
  clockUs : Nat := 0
  /-- PWR_SENS_n, and the least and greatest reading since reset (R485). -/
  sens : Bank Word := []
  sensMin : Bank Word := []
  sensMax : Bank Word := []
  /-- The sensors have been read since reset. -/
  sampled : Bool := false
  hot : BitVec 3 := 0
  tj : Half := 0
  /-- PWR_UNIT_EN (R487). -/
  unitEn : Long := 0x7FFFFFFFF
  /-- Time in µs of the last PWR_WDOG_c write (R489). -/
  pets : Bank Nat := []
  /-- Management port: MGT_CFG, endpoint identifier and certificate chain (R487, R493). -/
  smbus : BitVec 7 := 0x20
  mgtEn : Bool := false
  mgtAlert : Bool := false
  eid : Byte := 0
  chain : List Byte := []
  spdm : Spdm := {}
  /-- PLDM sensors whose enable state is other than enabled, with event-generation bits (R493). -/
  pldm : Bank (Byte × Byte) := []
  /-- An image staged by FW_STAGE, once verified, waits for the quiet point (R495). -/
  staged : Option Image := none
  /-- The image whose segments the Cobbler keeps (R489). -/
  image : Option Image := none
  deriving DecidableEq, Repr

/-! ### Awl cores (18-20) -/

/-- A store in a core's write buffer (R519). -/
structure WbEntry where
  addr : Nat
  data : List Byte
  deriving DecidableEq, Repr

/-- The settings of an MPU: MPU_BASE, MPU_LAST and MPU_PERM by region (R554). -/
structure MpuSet where
  base : Bank Word := []
  last : Bank Word := []
  perm : Bank Word := []
  deriving DecidableEq, Repr

/-- An Awl core (R499, R521, R536, R544). -/
structure Core where
  /-- Held in reset (17 R489). -/
  inReset : Bool := true
  /-- Quarantined until the next main-domain reset (17 R490). -/
  quar : Bool := false
  /-- Halted after a failed escalation, or frozen by a lockstep mismatch (R527, R539). -/
  halted : Bool := false
  /-- MGT_CORE_c.RESET (17 R497). -/
  hold : Bool := false
  /-- In WAIT (R523). -/
  waiting : Bool := false
  a : BitVec 40 := 0
  x : Word := 0
  y : Word := 0
  spU : Word := 0
  spS : Word := 0
  spM : Word := 0x0009FFF0
  dp : Word := 0
  pc : Word := 0x00040000
  /-- The instruction TCM as instruction fetch sees it: stores show only after IBAR (R520). -/
  code : Bank Byte := []
  /-- ST but for RSV (R499). -/
  st : Word := 0x00003E00
  /-- The reserved 64-byte granule; ST.RSV is 1 while there is one (R517). -/
  resv : Option Nat := none
  /-- CYCLE, and CYCLE_HI as latched by a read of CYCLE_LO (R521). -/
  cycle : Long := 0
  cycleHi : Word := 0
  stkLoU : Word := 0
  stkHiU : Word := 0
  stkLoS : Word := 0
  stkHiS : Word := 0
  stkLoM : Word := 0x00080000
  stkHiM : Word := 0x000A0000
  ien : Half := 0
  ilvlLo : Word := 0x11111111
  ilvlHi : Word := 0x11111111
  oberr : Bool := false
  /-- The write buffer, oldest first (R519). -/
  wb : List WbEntry := []
  /-- An NMI is pending; the NMI-in-service and double-fault latches (R538, R544). -/
  nmi : Bool := false
  nmiSvc : Bool := false
  dfault : Bool := false
  /-- Releases since the main-domain reset, and the seal key of this one (R535). -/
  releases : Half := 0
  sealKey : List Byte := []
  /-- CYCLE at the privileged-return faults of the last 1 ms (R542). -/
  retFaults : List Nat := []
  /-- Times in µs of the restarts of the last 1 s (17 R490). -/
  restarts : List Nat := []
  /-- Decode-table RAM, by offset from 0x0003_0000, and as the decoder sees it since the last IBAR (R555). -/
  table : Bank Byte := []
  decode : Bank Byte := []
  /-- MPU settings in force since the last MBAR (R548). -/
  rules : MpuSet := {}
  deriving DecidableEq, Repr

/-- A memory access as an MPU sees it (R546). -/
structure Access where
  addr : Nat
  size : Nat
  /-- 0 read, 1 write, 2 fetch. -/
  kind : BitVec 2
  deriving DecidableEq, Repr

/-- An MPU (R545, R554): settings as written, those in force for a DMA master, the fault record, and the access at which
a DMA master has stopped (R551). -/
structure Mpu where
  written : MpuSet := {}
  rules : MpuSet := {}
  fault : Bool := false
  kind : BitVec 2 := 0
  level : BitVec 2 := 0
  region : BitVec 4 := 0
  noRegion : Bool := false
  outside : Bool := false
  count : Half := 0
  faddr : Word := 0
  go : Bool := false
  stopped : Option Access := none
  deriving DecidableEq, Repr


/-! ### The whole block -/

/-- The state of the block, with the queue of commands that wait, first in first out. -/
structure State where
  pending : List Instr := []
  /-- Number of free values drawn so far (log entry 4). -/
  freeCount : Nat := 0
  out : Out := {}
  mem : Mem := {}
  pins : Pins := {}
  boot : Boot := {}
  pcie : Pcie := {}
  mbx : Mbx := {}
  fw : Fw := {}
  keys : Keys := {}
  rings : Rings := {}
  cipher : Cipher := {}
  sole : Sole := {}
  pke : Bank PkeEngine := []
  dig : Dig := {}
  rng : Rng := {}
  alarm : Alarm := {}
  log : Log := { queue := [{ stamp := 0, src := 0x80, resp := 0, flags := 0, count := 1, detail := 0 }] }
  insole : Insole := {}
  ins : InsReg := {}
  listen : Listen := {}
  cls : Cls := {}
  cards : Cards := {}
  welt : Welt := {}
  cob : Cob := {}
  cores : Bank Core := []
  mpus : Bank Mpu := []
  deriving DecidableEq, Repr

/-- The block right after a main-domain reset has been asserted, with the Insole domain as an empty restart leaves it (02
R41, 14 R413; the reset tables of each chapter; log entry 5). -/
def State.reset : State := {}

end Sys2Proof.Machine
end

