-- ==== Sys2Proof/Machine/Ops.lean ====
section
/-! DEFINITION. The named operations that the meanings share: banks, bytes, changes of one part of the state, free values,
host memory, custody SRAM, MSI-X messages and the status codes. -/

namespace Sys2Proof.Machine

/-! ### Banks -/

/-- The value at key `k`; an unlisted key reads as `d`. -/
def Bank.get {α : Type} (d : α) : Bank α → Nat → α
  | [], _ => d
  | (k', v) :: t, k => if k' = k then v else Bank.get d t k

/-- The bank with `v` at key `k`, kept in canonical form. -/
def Bank.set {α : Type} [DecidableEq α] (d : α) (k : Nat) (v : α) : Bank α → Bank α
  | [] => if v = d then [] else [(k, v)]
  | (k', v') :: t =>
    if k' < k then (k', v') :: Bank.set d k v t
    else if k' = k then (if v = d then t else (k, v) :: t)
    else (if v = d then (k', v') :: t else (k, v) :: (k', v') :: t)

/-- The bank with the value at `k` changed by `f`. -/
def Bank.upd {α : Type} [DecidableEq α] (d : α) (k : Nat) (f : α → α) (b : Bank α) : Bank α :=
  Bank.set d k (f (Bank.get d b k)) b

/-- The canonical form: keys strictly rising, no entry equal to the default. -/
abbrev Bank.wf {α : Type} (d : α) (b : Bank α) : Prop :=
  (b.map Prod.fst).Pairwise (· < ·) ∧ ∀ p ∈ b, p.2 ≠ d

/-- Write bytes to consecutive keys from `a` (a memory write). -/
def Bank.writeBytes : Bank Byte → Nat → List Byte → Bank Byte
  | m, _, [] => m
  | m, a, x :: xs => Bank.writeBytes (Bank.set 0 a x m) (a + 1) xs

/-- The `n` bytes at consecutive keys from `a` (a memory read). -/
def Bank.readBytes (m : Bank Byte) (a n : Nat) : List Byte :=
  (List.range n).map fun i => Bank.get 0 m (a + i)

/-- The canonical form of the memory: of custody SRAM, of the instruction and data memories, and of each core's. -/
abbrev Mem.wf (m : Mem) : Prop :=
  Bank.wf 0 m.sram ∧ (Bank.wf [] m.itcm ∧ ∀ p ∈ m.itcm, Bank.wf 0 p.2) ∧ Bank.wf [] m.dtcm ∧ ∀ p ∈ m.dtcm, Bank.wf 0 p.2

/-! ### Bytes and counters -/

/-- The `n` little-endian bytes of `x` (00 R13). -/
def leBytes (n x : Nat) : List Byte :=
  (List.range n).map fun i => BitVec.ofNat 8 (x / 256 ^ i)

/-- The value of little-endian bytes. -/
def ofLe : List Byte → Nat
  | [] => 0
  | x :: xs => x.toNat + 256 * ofLe xs

/-- The `n` big-endian bytes of `x`. -/
def beBytes (n x : Nat) : List Byte := (leBytes n x).reverse

/-- Bytes `i … i + n - 1` of a list, zero beyond its end. -/
def sliceBytes (l : List Byte) (i n : Nat) : List Byte :=
  (List.range n).map fun j => l.getD (i + j) 0

/-- A list of bytes padded with zeros or cut to length `n`. -/
def padTo (n : Nat) (l : List Byte) : List Byte := sliceBytes l 0 n

/-- Word `w` of a byte string, little-endian. -/
def wordOf (l : List Byte) (w : Nat) : Word := BitVec.ofNat 32 (ofLe (sliceBytes l (4 * w) 4))

/-- The 32-bit words of a byte string, the last zero-padded. -/
def wordsOf (l : List Byte) : List Word := (List.range ((l.length + 3) / 4)).map (wordOf l)

/-- The bytes of a list of words. -/
def bytesOf (ws : List Word) : List Byte := ws.flatMap fun w => leBytes 4 w.toNat

/-- A counter that adds `n` and saturates at its largest value. -/
def satAdd {w : Nat} (x : BitVec w) (n : Nat) : BitVec w := BitVec.ofNat w (min (x.toNat + n) (2 ^ w - 1))

/-- Bit `i` of a bit vector set or cleared. -/
def setBit {w : Nat} (x : BitVec w) (i : Nat) (b : Bool) : BitVec w :=
  if b then x ||| BitVec.ofNat w (2 ^ i) else x &&& ~~~(BitVec.ofNat w (2 ^ i))

/-- The number of ones among bits `lo … lo + n - 1`. -/
def popRange {w : Nat} (x : BitVec w) (lo n : Nat) : Nat :=
  ((List.range n).filter fun i => x.getLsbD (lo + i)).length

/-- One bit as a natural number. -/
def bit (b : Bool) : Nat := if b then 1 else 0

/-- `x` rounded up to a multiple of `m`. -/
def ceilTo (m x : Nat) : Nat := (x + m - 1) / m * m

/-! ### CRC-32C (08 R262) -/

/-- One bit of the reflected polynomial 0x1EDC_6F41. -/
def crcStep (c : Word) : Word := if c.getLsbD 0 then (c >>> 1) ^^^ 0x82F63B78 else c >>> 1

/-- One byte. -/
def crcByte (c : Word) (b : Byte) : Word :=
  crcStep (crcStep (crcStep (crcStep (crcStep (crcStep (crcStep (crcStep (c ^^^ b.setWidth 32))))))))

/-- The CRC-32C of RFC 3720: initial value and final XOR 0xFFFF_FFFF. -/
def crc32c (l : List Byte) : Word := ~~~ (l.foldl crcByte 0xFFFFFFFF)

/-- The 8 header bytes of a frame (08 R262). -/
def frameHead (type flags : Byte) (seq : Half) (len : Nat) : List Byte :=
  [type, flags] ++ leBytes 2 seq.toNat ++ leBytes 4 len

/-- A frame with its CRC. -/
def mkFrame (type flags : Byte) (seq : Half) (body : List Byte) : SoleFrame :=
  { type := type, flags := flags, seq := seq, body := body, crc := crc32c (frameHead type flags seq body.length ++ body) }

/-! ### Changes of one part of the state -/

/-- The state with its `pending` changed by `g`. -/
def State.withPending (g : List Instr → List Instr) (s : State) : State := { s with pending := g s.pending }

/-- The state with its `freeCount` changed by `g`. -/
def State.withFreeCount (g : Nat → Nat) (s : State) : State := { s with freeCount := g s.freeCount }

/-- The state with its `out` changed by `g`. -/
def State.withOut (g : Out → Out) (s : State) : State := { s with out := g s.out }

/-- The state with its `mem` changed by `g`. -/
def State.withMem (g : Mem → Mem) (s : State) : State := { s with mem := g s.mem }

/-- The state with its `pins` changed by `g`. -/
def State.withPins (g : Pins → Pins) (s : State) : State := { s with pins := g s.pins }

/-- The state with its `boot` changed by `g`. -/
def State.withBoot (g : Boot → Boot) (s : State) : State := { s with boot := g s.boot }

/-- The state with its `pcie` changed by `g`. -/
def State.withPcie (g : Pcie → Pcie) (s : State) : State := { s with pcie := g s.pcie }

/-- The state with its `mbx` changed by `g`. -/
def State.withMbx (g : Mbx → Mbx) (s : State) : State := { s with mbx := g s.mbx }

/-- The state with its `fw` changed by `g`. -/
def State.withFw (g : Fw → Fw) (s : State) : State := { s with fw := g s.fw }

/-- The state with its `keys` changed by `g`. -/
def State.withKeys (g : Keys → Keys) (s : State) : State := { s with keys := g s.keys }

/-- The state with its `rings` changed by `g`. -/
def State.withRings (g : Rings → Rings) (s : State) : State := { s with rings := g s.rings }

/-- The state with its `cipher` changed by `g`. -/
def State.withCipher (g : Cipher → Cipher) (s : State) : State := { s with cipher := g s.cipher }

/-- The state with its `sole` changed by `g`. -/
def State.withSole (g : Sole → Sole) (s : State) : State := { s with sole := g s.sole }

/-- The state with its `pke` changed by `g`. -/
def State.withPke (g : Bank PkeEngine → Bank PkeEngine) (s : State) : State := { s with pke := g s.pke }

/-- The state with its `dig` changed by `g`. -/
def State.withDig (g : Dig → Dig) (s : State) : State := { s with dig := g s.dig }

/-- The state with its `rng` changed by `g`. -/
def State.withRng (g : Rng → Rng) (s : State) : State := { s with rng := g s.rng }

/-- The state with its `alarm` changed by `g`. -/
def State.withAlarm (g : Alarm → Alarm) (s : State) : State := { s with alarm := g s.alarm }

/-- The state with its `log` changed by `g`. -/
def State.withLog (g : Log → Log) (s : State) : State := { s with log := g s.log }

/-- The state with its `insole` changed by `g`. -/
def State.withInsole (g : Insole → Insole) (s : State) : State := { s with insole := g s.insole }

/-- The state with its `ins` changed by `g`. -/
def State.withIns (g : InsReg → InsReg) (s : State) : State := { s with ins := g s.ins }

/-- The state with its `listen` changed by `g`. -/
def State.withListen (g : Listen → Listen) (s : State) : State := { s with listen := g s.listen }

/-- The state with its `cls` changed by `g`. -/
def State.withCls (g : Cls → Cls) (s : State) : State := { s with cls := g s.cls }

/-- The state with its `cards` changed by `g`. -/
def State.withCards (g : Cards → Cards) (s : State) : State := { s with cards := g s.cards }

/-- The state with its `welt` changed by `g`. -/
def State.withWelt (g : Welt → Welt) (s : State) : State := { s with welt := g s.welt }

/-- The state with its `cob` changed by `g`. -/
def State.withCob (g : Cob → Cob) (s : State) : State := { s with cob := g s.cob }

/-- The state with its `cores` changed by `g`. -/
def State.withCores (g : Bank Core → Bank Core) (s : State) : State := { s with cores := g s.cores }

/-- The state with its `mpus` changed by `g`. -/
def State.withMpus (g : Bank Mpu → Bank Mpu) (s : State) : State := { s with mpus := g s.mpus }

/-! ### Free values (log entry 4) -/

/-- Take the next free value, of `n` bytes, and give it to `k`. -/
def State.draw (n : Nat) (k : List Byte → State → State) (s : State) : State :=
  k ((List.range n).map (Config.freeByte s.freeCount)) { s with freeCount := s.freeCount + 1 }

/-! ### Status codes (04 R127) -/

def Status.ok : Half := 0x0000
def Status.badOpcode : Half := 0x0101
def Status.badFormat : Half := 0x0102
def Status.lengthRange : Half := 0x0104
def Status.lengthShort : Half := 0x0105
def Status.lengthLong : Half := 0x0106
def Status.window : Half := 0x0107
def Status.align : Half := 0x0108
def Status.keyHandle : Half := 0x0201
def Status.keyStale : Half := 0x0202
def Status.keyUsage : Half := 0x0203
def Status.keyOwner : Half := 0x0204
def Status.nonceExhausted : Half := 0x0205
def Status.epochUnset : Half := 0x0206
def Status.authFail : Half := 0x0301
def Status.verifyFail : Half := 0x0302
def Status.inputInvalid : Half := 0x0303
def Status.notReady : Half := 0x0401
def Status.busy : Half := 0x0402
def Status.phase : Half := 0x0403
def Status.quorum : Half := 0x0404
def Status.aborted : Half := 0x0405
def Status.timeout : Half := 0x0406
def Status.entropy : Half := 0x0407
def Status.portHold : Half := 0x0501
def Status.windowMissed : Half := 0x0502
def Status.mediaFrame : Half := 0x0503
def Status.cardAbsent : Half := 0x0601
def Status.cardRemoved : Half := 0x0602
def Status.cardGoneInBusy : Half := 0x0603
def Status.unrecoverable : Half := 0x0F00

/-! ### Strings -/

/-- The ASCII bytes of a string. -/
def ascii (t : String) : List Byte := t.toList.map fun c => BitVec.ofNat 8 c.toNat

/-! ### Outside memories -/

/-- Write bytes to host memory (01 R18). -/
def State.hostWrite (a : Long) (bs : List Byte) (s : State) : State :=
  s.withOut fun o => { o with hostMem := Bank.writeBytes o.hostMem a.toNat bs }

/-- The value a register read returns (the model's own output). -/
def State.setRead (v : Word) (s : State) : State := s.withOut fun o => { o with readData := v }

/-! ### Custody SRAM and staging (01 R31; 13 R389) -/

/-- A range lies within custody SRAM, 0x1000_0000-0x107F_FFFF. -/
def inSram (a len : Nat) : Bool := decide (0x10000000 ≤ a ∧ a + len ≤ 0x10800000)

/-- The bytes of custody SRAM from address `a`.  Without the per-boot key the contents are unreadable (13 R389): what is
read is a free value. -/
def State.sramRead (s : State) (a n : Nat) : List Byte :=
  if s.boot.sramKey then Bank.readBytes s.mem.sram a n
  else (List.range n).map fun i => Config.freeByte s.freeCount (a + i)

/-- A reservation in a granule that the range [a, a + n) touches is lost (18 R517). -/
def Core.loseResv (a n : Nat) (k : Core) : Core :=
  match k.resv with
  | some g => if 64 * g < a + n ∧ a < 64 * g + 64 then { k with resv := none } else k
  | none => k

/-- A store to [a, a + n) by a master other than core `own` ends the reservations it touches (18 R517). -/
def State.breakResv (own : Option Nat) (a n : Nat) (s : State) : State :=
  s.withCores fun b => (List.range 5).foldl (fun b c =>
    if own = some c then b else Bank.upd {} c (Core.loseResv a n) b) b

/-- Write bytes to custody SRAM or a staging buffer, as core `own` or as another master. -/
def State.sramStore (own : Option Nat) (a : Nat) (bs : List Byte) (s : State) : State :=
  (s.withMem fun m => { m with sram := Bank.writeBytes m.sram a bs }).breakResv own a bs.length

/-- Write bytes to custody SRAM as a master other than a core. -/
def State.sramWrite (a : Nat) (bs : List Byte) (s : State) : State := s.sramStore none a bs

/-! ### MSI-X (03 R95) -/

/-- Send the message of a vector: a write of its data at its address (Base 5.0). -/
def State.msiSend (f v : Nat) (s : State) : State :=
  let x := Bank.get {} s.pcie.fns f
  (s.withOut fun o => { o with msi := (f, v) :: o.msi }).hostWrite (Bank.get 0 x.msixAddr v)
    (leBytes 4 (Bank.get 0 x.msixData v).toNat)

/-- Signal a vector of a function: a message when the vector is unmasked, else its pending bit. -/
def State.msix (f v : Nat) (s : State) : State :=
  if (Bank.get {} s.pcie.fns f).mask.getLsbD v then
    s.withPcie fun p => { p with fns := Bank.upd {} f (fun x => { x with pend := setBit x.pend v true }) p.fns }
  else s.msiSend f v

/-! ### Reads that end early (03 R75) -/

/-- AER's record of a direct-memory read that ended early; a poisoned completion is a poisoned TLP received. -/
def Pcie.early (e : EarlyEnd) (p : Pcie) : Pcie :=
  match e with
  | .timeout => { p with aerTimeout := p.aerTimeout + 1 }
  | .unsupported => { p with aerUnsupported := p.aerUnsupported + 1 }
  | .aborted => { p with aerAborted := p.aerAborted + 1 }
  | .poisoned => { p with aerPoisoned := p.aerPoisoned + 1 }

/-! ### Event log (17 R492; 00 R5) -/

/-- Record a fault in the management event log: one record of a unit and class is kept in each 1 ms window, with its count;
when the log is full the oldest entry goes. -/
def Cob.record (unit cls : Nat) (detail : Word) (c : Cob) : Cob :=
  let u : Half := BitVec.ofNat 16 unit
  let k : Byte := BitVec.ofNat 8 cls
  if c.events.any (fun e => e.unit = u ∧ e.cls = k ∧ c.clockUs < e.time.toNat + 1000) then
    { c with events := c.events.map fun e =>
        if e.unit = u ∧ e.cls = k ∧ c.clockUs < e.time.toNat + 1000 then
          { e with coalesced := true, count := satAdd e.count 1, detail := detail }
        else e }
  else
    let e : Event := { seq := c.evtNext, time := BitVec.ofNat 64 c.clockUs, unit := u, cls := k, coalesced := false,
                       count := 1, detail := detail }
    { c with events := (if c.events.length < 4096 then c.events else c.events.drop 1) ++ [e], evtNext := c.evtNext + 1 }

/-- Record a fault at domain level (00 R5): one record of a device and class is kept in each 1 ms window, with its count. -/
def Cob.recordDomain (device : Option Half) (cls : Nat) (c : Cob) : Cob :=
  match device with
  | none => c
  | some d =>
    let k : Byte := BitVec.ofNat 8 cls
    let rest := c.faults.filter fun e => !decide (e.device = d ∧ e.cls = k)
    match c.faults.find? fun e => decide (e.device = d ∧ e.cls = k ∧ c.clockUs < e.time + 1000) with
    | some e => { c with faults := rest ++ [{ e with count := satAdd e.count 1 }] }
    | none => { c with faults := rest ++ [{ device := d, cls := k, time := c.clockUs, count := 1 }] }

/-- Record a fault in the management event log, which runs from boot step 10 (17 R492), and at domain level under the device number of
the membership (00 R5). -/
def State.event (unit cls : Nat) (detail : Word) (s : State) : State :=
  if s.boot.state = .running ∨ s.boot.state = .down then
    s.withCob fun c => (c.record unit cls detail).recordDomain (s.fw.membership.map Membership.device) cls
  else s

/-- An event-log record whose detail word the spec does not state: a free value (log entry 4). -/
def State.eventFree (unit cls : Nat) (s : State) : State :=
  s.draw 4 fun d t => t.event unit cls (BitVec.ofNat 32 (ofLe d))

/-- The next state of an outcome, or `s` where there is none. -/
def nextOr (s : State) : Host.Outcome State Fault Refusal → State
  | .next t => t
  | _ => s

/-! ### Unit enables (17 R487) -/

/-- Unit `i` of the map of R487 is enabled. -/
def State.unitOn (s : State) (i : Nat) : Bool := s.cob.unitEn.getLsbD i

/-- Cipher cores enabled in CLK_CTRL and in the unit map (07 R259, 17 R487). -/
def State.cipherOn (s : State) : Half := s.cipher.coreEn &&& s.cob.unitEn.setWidth 16

/-- Digest units enabled in DIG_EN and in the unit map (11 R360, 17 R487). -/
def State.digOn (s : State) : BitVec 4 := s.dig.en &&& (s.cob.unitEn >>> 20).setWidth 4

end Sys2Proof.Machine
end

