-- ==== Sys2Proof/Machine/Hash.lean ====
section
/-! DEFINITION. The hash functions of the digest units (11 R341): SHA-2 (FIPS 180-4), SHA-3 and SHAKE (FIPS 202), HMAC (FIPS 198-1) and
KMAC (SP 800-185), each as a chain of blocks: its opening state of 200 bytes, the absorption of whole blocks, and the end. -/

namespace Sys2Proof.Machine

/-! ### Byte strings as blocks -/

/-- XOR of two byte strings, as long as the shorter. -/
def xorB (a b : List Byte) : List Byte := List.zipWith (fun x y => x ^^^ y) a b

/-- The value of big-endian bytes. -/
def ofBe (l : List Byte) : Nat := ofLe l.reverse

/-- A byte string cut into pieces of `n`, the last shorter. -/
def pieces (n : Nat) (l : List Byte) : List (List Byte) := (List.range ((l.length + n - 1) / n)).map fun i => (l.drop (n * i)).take n

/-! ### SHA-2 -/

/-- The round constants of SHA-512, four to a row, entry 0 lowest; SHA-256 has the upper halves of the first 64. -/
def sha2Rows : List Nat :=
  [0xe9b5dba58189dbbcb5c0fbcfec4d3b2f7137449123ef65cd428a2f98d728ae22,
   0xab1c5ed5da6d8118923f82a4af194f9b59f111f1b605d0193956c25bf348b538,
   0x550c7dc3d5ffb4e2243185be4ee4b28c12835b0145706fbed807aa98a3030242,
   0xc19bf174cf6926949bdc06a725c7123580deb1fe3b1696b172be5d74f27b896f,
   0x240ca1cc77ac9c650fc19dc68b8cd5b5efbe4786384f25e3e49b69c19ef14ad2,
   0x76f988da831153b55cb0a9dcbd41fbd44a7484aa6ea6e4832de92c6f592b0275,
   0xbf597fc7beef0ee4b00327c898fb213fa831c66d2db43210983e5152ee66dfab,
   0x142929670a0e6e7006ca6351e003826fd5a79147930aa725c6e00bf33da88fc2,
   0x53380d139d95b3df4d2c6dfc5ac42aed2e1b21385c26c92627b70a8546d22ffc,
   0x92722c851482353b81c2c92e47edaee6766a0abb3c77b2a8650a73548baf63de,
   0xc76c51a30654be30c24b8b70d0f89791a81a664bbc423001a2bfe8a14cf10364,
   0x106aa07032bbd1b8f40e35855771202ad69906245565a910d192e819d6ef5218,
   0x34b0bcb5e19b48a82748774cdf8eeb991e376c085141ab5319a4c116b8d2d0c8,
   0x682e6ff3d6b2b8a35b9cca4f7763e3734ed8aa4ae3418acb391c0cb3c5c95a63,
   0x8cc702081a6439ec84c87814a1f0ab7278a5636f43172f60748f82ee5defb2fc,
   0xc67178f2e372532bbef9a3f7b2c67915a4506cebde82bde990befffa23631e28,
   0xf57d4f7fee6ed178eada7dd6cde0eb1ed186b8c721c0c207ca273eceea26619c,
   0x1b710b35131c471b113f9804bef90dae0a637dc5a2c898a606f067aa72176fba,
   0x431d67c49c100d4c3c9ebe0a15c9bebc32caab7b40c7249328db77f523047d84,
   0x6c44198c4a4758175fcb6fab3ad6faec597f299cfc657e2a4cc5d4becb3e42b6]

/-- Opening values of SHA-512 and of SHA-384.  SHA-256 has the upper halves of the first, SHA-224 the lower halves of the second. -/
def sha512Iv : List Nat :=
  [
   0x6a09e667f3bcc908, 0xbb67ae8584caa73b, 0x3c6ef372fe94f82b, 0xa54ff53a5f1d36f1, 0x510e527fade682d1,
   0x9b05688c2b3e6c1f, 0x1f83d9abfb41bd6b, 0x5be0cd19137e2179]
def sha384Iv : List Nat :=
  [
   0xcbbb9d5dc1059ed8, 0x629a292a367cd507, 0x9159015a3070dd17, 0x152fecd8f70e5939, 0x67332667ffc00b31,
   0x8eb44a8768581511, 0xdb0c2e0d64f98fa7, 0x47b5481dbefa4fa4]

/-- A SHA-2 function: word size in bits, opening value, output bytes. -/
structure Sha2 where
  w : Nat
  iv : List Nat
  out : Nat

/-- The SHA-2 function of an algorithm code (R341). -/
def sha2Of (alg : Nat) : Sha2 :=
  match alg with
  | 1 => { w := 32, iv := sha384Iv.map (· % 2 ^ 32), out := 28 }
  | 2 => { w := 32, iv := sha512Iv.map (· / 2 ^ 32), out := 32 }
  | 3 => { w := 64, iv := sha384Iv, out := 48 }
  | _ => { w := 64, iv := sha512Iv, out := 64 }

/-- Bytes of a block: 16 words. -/
def Sha2.block (p : Sha2) : Nat := 2 * p.w

def rotr (w n x : Nat) : Nat := (x / 2 ^ n ||| x * 2 ^ (w - n)) % 2 ^ w

/-- The functions of FIPS 180-4 on words: two rotations and a third rotation or a shift. -/
def Sha2.big0 (p : Sha2) (x : Nat) : Nat :=
  let (a, b, c) := if p.w = 32 then (2, 13, 22) else (28, 34, 39)
  rotr p.w a x ^^^ rotr p.w b x ^^^ rotr p.w c x
def Sha2.big1 (p : Sha2) (x : Nat) : Nat :=
  let (a, b, c) := if p.w = 32 then (6, 11, 25) else (14, 18, 41)
  rotr p.w a x ^^^ rotr p.w b x ^^^ rotr p.w c x
def Sha2.small0 (p : Sha2) (x : Nat) : Nat :=
  let (a, b, c) := if p.w = 32 then (7, 18, 3) else (1, 8, 7)
  rotr p.w a x ^^^ rotr p.w b x ^^^ x / 2 ^ c
def Sha2.small1 (p : Sha2) (x : Nat) : Nat :=
  let (a, b, c) := if p.w = 32 then (17, 19, 10) else (19, 61, 6)
  rotr p.w a x ^^^ rotr p.w b x ^^^ x / 2 ^ c

/-- Round constant `i`. -/
def Sha2.k (p : Sha2) (i : Nat) : Nat :=
  let c := sha2Rows.getD (i / 4) 0 / 2 ^ (64 * (i % 4)) % 2 ^ 64
  if p.w = 32 then c / 2 ^ 32 else c

/-- One round: the eight working variables, and the window of the last 16 schedule words, oldest first. -/
def Sha2.round (p : Sha2) (v : List Nat × List Nat) (i : Nat) : List Nat × List Nat :=
  match v.1 with
  | [a, b, c, d, e, f, g, h] =>
    let m := 2 ^ p.w
    let w := v.2.headD 0
    let t1 := h + p.big1 e + (e &&& f ^^^ (m - 1 - e) &&& g) + p.k i + w
    let t2 := p.big0 a + (a &&& b ^^^ a &&& c ^^^ b &&& c)
    let next := (p.small1 (v.2.getD 14 0) + v.2.getD 9 0 + p.small0 (v.2.getD 1 0) + w) % m
    ([(t1 + t2) % m, a, b, c, (d + t1) % m, e, f, g], v.2.drop 1 ++ [next])
  | l => (l, v.2)

/-- The compression function on a block. -/
def Sha2.compress (p : Sha2) (st : List Nat) (block : List Byte) : List Nat :=
  let w := (pieces (p.w / 8) block).map ofBe
  let v := (List.range (if p.w = 32 then 64 else 80)).foldl p.round (st, w)
  List.zipWith (fun x y => (x + y) % 2 ^ p.w) st v.1

/-- A chaining value as bytes, and back. -/
def Sha2.bytes (p : Sha2) (st : List Nat) : List Byte := st.flatMap (beBytes (p.w / 8))
def Sha2.words (p : Sha2) (b : List Byte) : List Nat := (pieces (p.w / 8) (b.take p.w)).map ofBe

def Sha2.absorb (p : Sha2) (st : List Nat) (blocks : List Byte) : List Nat := (pieces p.block blocks).foldl p.compress st

/-- The end of a message of `count` bytes, of which the last, `tail`, has not been absorbed. -/
def Sha2.finish (p : Sha2) (st : List Nat) (tail : List Byte) (count : Nat) : List Byte :=
  let l := p.w / 4
  let pad := padTo (ceilTo p.block (tail.length + 1 + l) - l) (tail ++ [0x80]) ++ beBytes l (8 * count)
  (p.bytes (p.absorb st pad)).take p.out

/-! ### Keccak -/

def keccakRc : List Nat :=
  [
   0x1, 0x8082, 0x800000000000808a, 0x8000000080008000, 0x808b, 0x80000001, 0x8000000080008081, 0x8000000000008009,
   0x8a, 0x88, 0x80008009, 0x8000000a, 0x8000808b, 0x800000000000008b, 0x8000000000008089, 0x8000000000008003,
   0x8000000000008002, 0x8000000000000080, 0x800a, 0x800000008000000a, 0x8000000080008081, 0x8000000000008080,
   0x80000001, 0x8000000080008008]
/-- Rotation of lane x + 5 y. -/
def keccakRot : List Nat := [0, 1, 62, 28, 27, 36, 44, 6, 55, 20, 3, 10, 43, 25, 39, 41, 45, 15, 21, 8, 18, 2, 61, 56, 14]

def rotl64 (n x : Nat) : Nat := (x * 2 ^ n ||| x / 2 ^ (64 - n)) % 2 ^ 64

/-- One round of Keccak-f[1600] on 25 lanes. -/
def keccakRound (a : List Nat) (rc : Nat) : List Nat :=
  let at' (l : List Nat) (x y : Nat) := l.getD (x % 5 + 5 * (y % 5)) 0
  let c := (List.range 5).map fun x => at' a x 0 ^^^ at' a x 1 ^^^ at' a x 2 ^^^ at' a x 3 ^^^ at' a x 4
  let d := (List.range 5).map fun x => c.getD ((x + 4) % 5) 0 ^^^ rotl64 1 (c.getD ((x + 1) % 5) 0)
  let t := (List.range 25).map fun i => rotl64 (keccakRot.getD i 0) (a.getD i 0 ^^^ d.getD (i % 5) 0)
  -- lane (x, y) of the permuted state comes from lane (x + 3 y, x)
  let b := (List.range 25).map fun i => at' t (i % 5 + 3 * (i / 5)) (i % 5)
  let e := (List.range 25).map fun i =>
    at' b (i % 5) (i / 5) ^^^ ((2 ^ 64 - 1 - at' b (i % 5 + 1) (i / 5)) &&& at' b (i % 5 + 2) (i / 5))
  e.set 0 (e.headD 0 ^^^ rc)

def keccakF (a : List Nat) : List Nat := keccakRc.foldl keccakRound a

/-- A state as bytes, and back. -/
def keccakBytes (a : List Nat) : List Byte := a.flatMap (leBytes 8)
def keccakLanes (b : List Byte) : List Nat := (List.range 25).map fun i => ofLe (sliceBytes b (8 * i) 8)

/-- Absorb whole blocks of `rate` bytes. -/
def keccakAbsorb (rate : Nat) (a : List Nat) (blocks : List Byte) : List Nat :=
  (pieces rate blocks).foldl (fun a b => keccakF (List.zipWith (· ^^^ ·) a (keccakLanes b))) a

/-- `n` output bytes after a tail, with a domain suffix. -/
def keccakFinish (rate : Nat) (suffix : Byte) (a : List Nat) (tail : List Byte) (n : Nat) : List Byte :=
  let pad := padTo (ceilTo rate (tail.length + 1)) (tail ++ [suffix])
  let last := pad.length - 1
  let a1 := keccakAbsorb rate a (pad.set last (pad.getD last 0 ^^^ 0x80))
  ((List.range ((n + rate - 1) / rate)).foldl (fun (p : List Byte × List Nat) _ =>
    (p.1 ++ (keccakBytes p.2).take rate, keccakF p.2)) ([], a1)).1.take n

/-- The least number of bytes, one at least, that hold `x`. -/
def byteLen (x : Nat) : Nat := x.log2 / 8 + 1
/-- Encodings of SP 800-185. -/
def leftEncode (x : Nat) : List Byte := [BitVec.ofNat 8 (byteLen x)] ++ beBytes (byteLen x) x
def rightEncode (x : Nat) : List Byte := beBytes (byteLen x) x ++ [BitVec.ofNat 8 (byteLen x)]
def encodeString (b : List Byte) : List Byte := leftEncode (8 * b.length) ++ b
def bytepad (w : Nat) (b : List Byte) : List Byte := let l := leftEncode w ++ b; padTo (ceilTo w l.length) l

/-! ### The algorithms by their codes (R341) -/

/-- Rate of a Keccak algorithm in bytes, and its domain suffix. -/
def keccakRate (alg : Nat) : Nat :=
  match alg with
  | 6 => 104 | 7 => 72 | 8 => 168 | 0x18 => 168 | _ => 136
def keccakSuffix (alg : Nat) : Byte := if alg ≤ 7 then 0x06 else if alg ≤ 9 then 0x1F else 0x04

def algKeccak (alg : Nat) : Bool := decide ((5 ≤ alg ∧ alg ≤ 9) ∨ 0x18 ≤ alg)
def algHmac (alg : Nat) : Bool := decide (0x11 ≤ alg ∧ alg ≤ 0x14)

/-- Block length or rate. -/
def algBlock (alg : Nat) : Nat := if algKeccak alg then keccakRate alg else (sha2Of (alg % 16)).block

/-- The opening state of 200 bytes (11 R354): a SHA-2 chaining value in bytes 0-63, HMAC's outer one in 64-127, or the Keccak state. -/
def chainInit (alg : Nat) (key custom : List Byte) : List Byte :=
  let p := sha2Of (alg % 16)
  if algKeccak alg then
    let rate := keccakRate alg
    let head := if 0x18 ≤ alg then bytepad rate (encodeString (ascii "KMAC") ++ encodeString custom) ++ bytepad rate (encodeString key) else []
    keccakBytes (keccakAbsorb rate (List.replicate 25 0) head)
  else if algHmac alg then
    let k := padTo p.block (if p.block < key.length then p.finish (p.absorb p.iv (key.take (key.length / p.block * p.block)))
      (key.drop (key.length / p.block * p.block)) key.length else key)
    let pad (x : Byte) := p.bytes (p.compress p.iv (k.map (· ^^^ x)))
    padTo 200 (padTo 64 (pad 0x36) ++ padTo 64 (pad 0x5C))
  else padTo 200 (p.bytes p.iv)

/-- The state after whole blocks. -/
def chainAbsorb (alg : Nat) (st blocks : List Byte) : List Byte :=
  if algKeccak alg then keccakBytes (keccakAbsorb (keccakRate alg) (keccakLanes st) blocks)
  else
    let p := sha2Of (alg % 16)
    padTo 64 (p.bytes (p.absorb (p.words st) blocks)) ++ st.drop 64

/-- The output of `n` bytes of a message of `count` bytes whose last bytes, `tail`, have not been absorbed. -/
def chainFinish (alg : Nat) (st tail : List Byte) (count n : Nat) : List Byte :=
  let p := sha2Of (alg % 16)
  if algKeccak alg then
    keccakFinish (keccakRate alg) (keccakSuffix alg) (keccakLanes st) (tail ++ if 0x18 ≤ alg then rightEncode (8 * n) else []) n
  else if algHmac alg then
    p.finish (p.words (st.drop 64)) (p.finish (p.words st) tail (p.block + count)) (p.block + p.out)
  else p.finish (p.words st) tail count

/-- The output of `data` from an opening state. -/
def chainRun (alg : Nat) (st data : List Byte) (before n : Nat) : List Byte :=
  let whole := data.length / algBlock alg * algBlock alg
  chainFinish alg (chainAbsorb alg st (data.take whole)) (data.drop whole) (before + data.length) n

/-- A digest or MAC algorithm by its code, on a key and a customisation string where it has them. -/
def hashOf (alg : Nat) (key custom data : List Byte) (n : Nat) : List Byte := chainRun alg (chainInit alg key custom) data 0 n

/-- SHA-256, SHA-384 and the digest and MAC algorithms by their code (R341). -/
def digestOf (alg : Nat) (data : List Byte) (n : Nat) : List Byte := hashOf alg [] [] data n
def sha256 (data : List Byte) : List Byte := digestOf 2 data 32
def sha384 (data : List Byte) : List Byte := digestOf 3 data 48
def sha512 (data : List Byte) : List Byte := digestOf 4 data 64
/-- HMAC or KMAC of `data` under `key`, with KMAC's customisation string and its output length. -/
def macOf (alg : Nat) (key custom data : List Byte) (n : Nat) : List Byte := hashOf alg key custom data n
/-- KMAC256 with `n` output bytes. -/
def kmac256 (key data custom : List Byte) (n : Nat) : List Byte := macOf 0x19 key custom data n

end Sys2Proof.Machine
end

