-- ==== Sys2Proof/Machine/LogOps.lean ====
section
/-! DEFINITION. The tamper log (13 R400-R409): registering, coalescing, committing, overflow, release and export. -/

namespace Sys2Proof.Machine

/-- Flag bits of an entry (R401). -/
abbrev flBACKUP : Byte := 1
abbrev flPENDING : Byte := 2
abbrev flCOALESCED : Byte := 4
abbrev flOVERFLOW : Byte := 8

/-- Slots taken by committed and registered entries. -/
def Log.used (l : Log) : Nat := l.entries.length + l.queue.length

/-- FULL (R405): alarm entries and summaries may use 2,040 slots (log entry 22). -/
def Log.full (l : Log) : Bool := decide (2040 ≤ l.used)

/-- Register an entry for commit (R403). -/
def Log.push (it : LogItem) (l : Log) : Log := { l with queue := l.queue ++ [it] }

/-- Count in ALM_OVF_s (R405). -/
def Log.overflow (src n : Nat) (l : Log) : Log := { l with ovf := Bank.upd 0 src (fun x => satAdd x n) l.ovf }

/-- The response byte (R401): the source's own code and the most severe code of the tick. -/
def respByte (own most : BitVec 3) : Byte := BitVec.ofNat 8 (own.toNat + 8 * most.toNat)

/-- An alarm entry covering `n` assertions, or the overflow counter when the log is full or a summary is pending (R405,
R406). -/
def Log.alarmEntry (src n : Nat) (stamp : BitVec 48) (resp flags : Byte) (detail : Word) (l : Log) : Log :=
  if l.full || l.sumPending then l.overflow src n
  else l.push { stamp := stamp, src := BitVec.ofNat 8 src, resp := resp, flags := flags,
                count := BitVec.ofNat 8 (min n 255), detail := detail }

/-- Register one assertion of a source (R404): the first commits an entry and opens a window, further ones are counted. -/
def Log.assert (src : Nat) (vbat : Bool) (stamp : BitVec 48) (resp flags : Byte) (detail : Word) (l : Log) : Log :=
  let w := Bank.get {} l.windows src
  if w.isOpen then
    { l with windows := Bank.set {} src { w with count := w.count + 1, detail := detail, resp := resp, flags := flags } l.windows }
  else if l.full || l.sumPending then l.overflow src 1
  else { l.alarmEntry src 1 stamp resp flags detail with
         windows := Bank.set {} src { isOpen := true, vbat := vbat, count := 0, detail := 0, resp := 0, flags := 0 } l.windows }

/-- A window opened again under the given timing, or closed. -/
def CoalWin.reopened (r : Option Bool) : CoalWin :=
  match r with
  | some v => { isOpen := true, vbat := v }
  | none => {}

/-- The end of a source's window (R404 step 3): with a non-zero count, a COALESCED entry that opens a new window; a count that
only an overflow counter takes opens none (R405). -/
def Log.windowEnd (src : Nat) (reopen : Option Bool) (stamp : BitVec 48) (l : Log) : Log :=
  let w := Bank.get {} l.windows src
  if !w.isOpen then l
  else if w.count = 0 then { l with windows := Bank.set {} src {} l.windows }
  else
    let l1 := l.alarmEntry src w.count stamp w.resp (w.flags ||| flCOALESCED) w.detail
    { l1 with windows := Bank.set {} src (CoalWin.reopened (if l.full || l.sumPending then none else reopen)) l1.windows }

/-- Register a record 0x81-0x84 (R401): response byte 0, count 1; with no slot free it is counted in ALM_OVF_57 (R405). -/
def Log.record (code : Byte) (stamp : BitVec 48) (detail : Word) (l : Log) : Log :=
  if 2048 ≤ l.used then l.overflow 57 1
  else l.push { stamp := stamp, src := code, resp := 0, flags := 0, count := 1, detail := detail }

/-- Bytes 0 to 15 of an entry with its sequence (R401). -/
def LogItem.bytes (it : LogItem) (seq : Word) : List Byte :=
  leBytes 6 it.stamp.toNat ++ leBytes 2 seq.toNat ++ [it.src, it.resp, it.flags, it.count] ++ leBytes 4 it.detail.toNat

/-- The chain value of an entry after `prev` (R402). -/
def chainValue (prev : BitVec 128) (it : LogItem) (seq : Word) : BitVec 128 :=
  BitVec.ofNat 128 (ofLe ((sha256 (leBytes 16 prev.toNat ++ it.bytes seq)).take 16))

/-- The 32 bytes of a committed entry. -/
def LogEntry.bytes (e : LogEntry) : List Byte := e.item.bytes e.seq ++ leBytes 16 e.chain.toNat

/-- Commit an entry: it takes the next sequence number and the next chain value (R400, R402). -/
def Log.append (it : LogItem) (l : Log) : Log :=
  let c := chainValue l.head it l.next
  { l with entries := l.entries ++ [{ item := it, seq := l.next, chain := c }], next := l.next + 1, head := c }

/-- Commit the first registered entry (R403). -/
def Log.commit (l : Log) (dark : Bool) : Log :=
  match l.queue with
  | [] => l
  | it :: rest =>
    { ({ l with queue := rest }).append it with
      owed := l.owed - 1
      backupSince := l.backupSince || (dark && it.flags.getLsbD 0) }

/-- Commit every registered entry, in order (R403). -/
def Log.commitAll (dark : Bool) (l : Log) : Log := (List.range l.queue.length).foldl (fun (a : Log) _ => a.commit dark) l

/-- Commit the shutdown record (02 R67 step 5) behind the entries registered before it, where a slot is free; whether it was. -/
def Log.shutdown (stamp : BitVec 48) (epoch : Word) (l : Log) : Log × Bool :=
  ((l.record 0x81 stamp epoch).commitAll false, decide (l.used < 2048))

/-- Commit the overflow summaries that fit, in ascending counter order (R406).  `free` gives the response bytes, which the
spec does not state (log entry 23). -/
def Log.summaries (stamp : BitVec 48) (free : List Byte) (l : Log) : Log :=
  let l1 := (List.range 58).foldl (fun (a : Log) s =>
    let n := Bank.get 0 a.ovf s
    if n = 0 ∨ a.full then a
    else { a.append { stamp := stamp, src := if s = 57 then 0x80 else BitVec.ofNat 8 s, resp := free.getD s 0,
                      flags := flOVERFLOW, count := BitVec.ofNat 8 (min n.toNat 255), detail := n.setWidth 32 } with
           ovf := Bank.set 0 s 0 a.ovf }) l
  { l1 with sumPending := decide (l1.ovf ≠ []) }

/-- Free every exported entry at or below `v` (R408), and commit the summaries when slots came free (R406). -/
def Log.release (v : Word) (stamp : BitVec 48) (free : List Byte) (l : Log) : Log :=
  if !l.expValid then l
  else
    let lim := min v.toNat l.exp.toNat
    let kept := l.entries.filter fun (e : LogEntry) => decide (lim < e.seq.toNat)
    if kept.length = l.entries.length then l
    else
      let l1 := { l with entries := kept }
      if l1.ovf = [] then l1 else l1.summaries stamp free

/-- Oldest held sequence, or the next one when none is held (R409). -/
def Log.first (l : Log) : Word :=
  match l.entries with
  | [] => l.next
  | e :: _ => e.seq

/-- A held entry by its sequence. -/
def Log.find (l : Log) (seq : Word) : Option LogEntry := l.entries.find? fun e => decide (e.seq = seq)

/-- Read word `w` of the selected entry: after all eight, READMAX takes its sequence if higher (R408). -/
def Log.readWord (l : Log) (seq : Word) (w : Nat) : Log :=
  match l.find seq with
  | none => l
  | some _ =>
    let m := setBit (Bank.get 0 l.readWords seq.toNat) w true
    if m = 0xFF then
      { l with readWords := Bank.set 0 seq.toNat m l.readWords
               readMax := if l.readValid ∧ seq.toNat ≤ l.readMax.toNat then l.readMax else seq
               readValid := true }
    else { l with readWords := Bank.set 0 seq.toNat m l.readWords }

/-- A write of ALM_LOG_EXP (R408). -/
def Log.setExp (v : Word) (l : Log) : Log :=
  if l.readValid ∧ v.toNat ≤ l.readMax.toNat ∧ (l.expValid = true → l.exp.toNat ≤ v.toNat) then
    { l with exp := v, expValid := true }
  else l

/-- The entries an export returns from sequence `first`, at most `n` (R407). -/
def Log.entriesFrom (l : Log) (first : Word) (n : Nat) : List LogEntry :=
  (l.entries.filter fun e => decide (first.toNat ≤ e.seq.toNat)).take n

/-- The 32-byte record of LOG_STATUS (R409); `backup` is ALM_LOG_STAT.BACKUP. -/
def Log.statusRecord (l : Log) (backup : Bool) : List Byte :=
  leBytes 2 l.entries.length
    ++ [BitVec.ofNat 8 (bit l.full + 2 * bit (decide (l.ovf ≠ []) || l.sumPending) + 4 * bit backup + 8 * bit (!l.expValid)), 0]
    ++ leBytes 4 l.first.toNat ++ leBytes 4 l.next.toNat
    ++ leBytes 4 (if l.expValid then l.exp else 0).toNat ++ leBytes 16 l.head.toNat

/-- The Insole part of the alarm controller after an empty restart (R400, R413): the first entry to be committed is the
log-start record. -/
def Log.restart (stamp : BitVec 48) : Log :=
  { queue := [{ stamp := stamp, src := 0x80, resp := 0, flags := 0, count := 1, detail := 0 }] }

end Sys2Proof.Machine
end

