-- ==== Sys2Proof/Machine/Aes.lean ====
section
/-! DEFINITION. AES (FIPS 197) and the modes of 07 R218 and 00 R9: GHASH and GCM (SP 800-38D), CTR, CBC, XTS (IEEE 1619), CMAC (SP
800-38B), CCM (SP 800-38C), KW and KWP (SP 800-38F, RFC 3394, RFC 5649), the counter-mode generators (SP 800-90A) and the key
derivations built on CMAC (SP 800-108).  A block is 16 bytes, byte 0 first (07 R223). -/

namespace Sys2Proof.Machine

/-! ### FIPS 197 -/

/-- SBOX and its inverse: 32 entries to a row, entry 0 lowest. -/
def sboxRows : List Nat :=
  [0xc072a49cafa2d4adf04759fa7dc982ca76abd7fe2b670130c56f6bf27b777c63,
   0x75b227ebe28012079a059618c323c7041531d871f1e5a534ccf73f362693fdb7,
   0xcf584c4a39becb6a5bb1fc20ed00d153842fe329b3d63b52a05a6e1b1a2c8309,
   0xd2f3ff1021dab6bcf5389d928f40a351a89f3c507f02f94585334d43fbaaefd0,
   0xdb0b5ede14b8ee4688902a22dc4f816073195d643d7ea7c41744975fec130ccd,
   0x08ae7a65eaf4566ca94ed58d6d37c8e779e4959162acd3c25c2406490a3a32e0,
   0x9e1dc186b95735610ef6034866b53e708a8bbd4b1f74dde8c6b4a61c2e2578ba,
   0x16bb54b00f2d99416842e6bf0d89a18cdf2855cee9871e9b948ed9691198f8e1]
def invSboxRows : List Nat :=
  [0xcbe9dec444438e3487ff2f9b8239e37cfbd7f3819ea340bf38a53630d56a0952,
   0x25d18b6d49a25b76b224d92866a12e084ec3fa420b954cee3d23c2a632947b54,
   0x849d8da75746155edab9edfd5048706c92b6655dcc5ca4d41698688664f6f872,
   0x6b8a130103bdafc1020f3fca8f1e2cd00645b3b80558e4f70ad3bc8c00abd890,
   0x6edf751ce837f9e28535ade72274ac9673e6b4f0cecff297eadc674f4111913a,
   0xf45acd78fec0db9a2079d2c64b3e56fc1bbe18aa0e62b76f89c5291d711af147,
   0xef9cc9939f7ae52d0d4ab519a97f51605fec8027591012b131c7078833a8dd1f,
   0x7d0c2155631469e126d677ba7e042b17619953833cbbebc8b0f52aae4d3be0a0]

def tableByte (rows : List Nat) (b : Byte) : Byte := BitVec.ofNat 8 (rows.getD (b.toNat / 32) 0 >>> (8 * (b.toNat % 32)))

/-- SUBBYTES, SHIFTROWS and MIXCOLUMNS, and their inverses by table, distance and coefficients. -/
def subBytes (rows : List Nat) (x : List Byte) : List Byte := x.map (tableByte rows)
def shiftRows (d : Nat) (x : List Byte) : List Byte := (List.range 16).map fun i => x.getD ((i + d * (i % 4)) % 16) 0

/-- Multiplication in GF(2^8). -/
def xtime (b : Byte) : Byte := (b <<< 1) ^^^ (if b.getLsbD 7 then 0x1B else 0)
def gfMul (a b : Byte) : Byte :=
  ((List.range 8).foldl (fun (p : Byte × Byte) i => (if b.getLsbD i then p.1 ^^^ p.2 else p.1, xtime p.2)) (0, a)).1

def mixColumns (m x : List Byte) : List Byte :=
  (List.range 16).map fun i => (List.range 4).foldl (fun (z : Byte) j =>
    z ^^^ gfMul (x.getD (i / 4 * 4 + j) 0) (m.getD ((j + 4 - i % 4) % 4) 0)) 0

/-- Round constant `j`, counted from 1. -/
def roundConst : Nat → Byte
  | 0 => 0x8D
  | j + 1 => xtime (roundConst j)

/-- Word `i` of the key expansion, from word `i - 1` and word `i - nk`. -/
def scheduleWord (nk i : Nat) (prev back : List Byte) : List Byte :=
  xorB back (if i % nk = 0 then xorB (subBytes sboxRows (prev.drop 1 ++ prev.take 1)) [roundConst (i / nk), 0, 0, 0]
    else if 6 < nk ∧ i % nk = 4 then subBytes sboxRows prev
    else prev)

/-- The round keys of a 16-, 24- or 32-byte key, one after the other. -/
def keySchedule (key : List Byte) : List Byte :=
  let nk := key.length / 4
  ((List.range (3 * nk + 28)).foldl (fun (ws : List (List Byte)) i =>
    ws ++ [scheduleWord nk (nk + i) (ws.getD (nk + i - 1) []) (ws.getD i [])]) (pieces 4 key)).flatten

def roundKey (w : List Byte) (r : Nat) : List Byte := sliceBytes w (16 * r) 16

/-- CIPHER and INVCIPHER under a schedule. -/
def aesEnc (w x : List Byte) : List Byte :=
  let n := w.length / 16 - 1
  let y := (List.range (n - 1)).foldl (fun y r =>
    xorB (mixColumns [2, 3, 1, 1] (shiftRows 4 (subBytes sboxRows y))) (roundKey w (r + 1))) (xorB x (roundKey w 0))
  xorB (shiftRows 4 (subBytes sboxRows y)) (roundKey w n)
def aesDec (w x : List Byte) : List Byte :=
  let n := w.length / 16 - 1
  let y := (List.range (n - 1)).foldl (fun y r =>
    mixColumns [14, 11, 13, 9] (xorB (subBytes invSboxRows (shiftRows 12 y)) (roundKey w (n - 1 - r)))) (xorB x (roundKey w n))
  xorB (subBytes invSboxRows (shiftRows 12 y)) (roundKey w 0)

/-- The block cipher under a key. -/
def aes (key x : List Byte) : List Byte := aesEnc (keySchedule key) x

/-! ### Counter modes, GHASH and GCM -/

/-- The standard incrementing function over the last `n` bytes (SP 800-38A and inc32; 07 R224, R225). -/
def incBlock (n : Nat) (b : List Byte) : List Byte := b.take (16 - n) ++ beBytes n (ofBe (b.drop (16 - n)) + 1)

/-- Key stream of the block function `e` on `data` from a counter block: the output and the next counter block. -/
def ctrRun (e : List Byte → List Byte) (n : Nat) (ctr data : List Byte) : List Byte × List Byte :=
  (pieces 16 data).foldl (fun p b => (p.1 ++ xorB b (e p.2), incBlock n p.2)) ([], ctr)

/-- Multiplication in the field of GCM. -/
def ghashMul (x h : List Byte) : List Byte :=
  let xn := ofBe x
  beBytes 16 ((List.range 128).foldl (fun (p : Nat × Nat) i =>
    (if xn.testBit (127 - i) then p.1 ^^^ p.2 else p.1, p.2 / 2 ^^^ (if p.2 % 2 = 1 then 0xE1 * 2 ^ 120 else 0))) (0, ofBe h)).1

/-- GHASH of data padded to whole blocks, from an accumulator. -/
def ghash (h acc data : List Byte) : List Byte :=
  (pieces 16 data).foldl (fun y b => ghashMul (xorB y (padTo 16 b)) h) acc

/-- J0 of a 96-bit IV (07 R225). -/
def gcmJ0 (iv : List Byte) : List Byte := iv ++ [0, 0, 0, 1]

/-- The tag: GHASH over the lengths block, masked with E(K, J0). -/
def gcmTag (e : List Byte → List Byte) (iv acc h : List Byte) (aadLen len : Nat) : List Byte :=
  xorB (ghash h acc (beBytes 8 (8 * aadLen) ++ beBytes 8 (8 * len))) (e (gcmJ0 iv))

/-- GCM encryption whole: ciphertext and tag. -/
def gcmSeal (key iv aad data : List Byte) : List Byte × List Byte :=
  let e := aes key
  let h := e (List.replicate 16 0)
  let c := (ctrRun e 4 (incBlock 4 (gcmJ0 iv)) data).1
  (c, gcmTag e iv (ghash h (ghash h (List.replicate 16 0) aad) c) h aad.length data.length)

/-- GCM decryption whole: the data where the tag agrees. -/
def gcmOpen (key iv aad cipher tag : List Byte) : Option (List Byte) :=
  let e := aes key
  let h := e (List.replicate 16 0)
  if gcmTag e iv (ghash h (ghash h (List.replicate 16 0) aad) cipher) h aad.length cipher.length = tag then
    some (ctrRun e 4 (incBlock 4 (gcmJ0 iv)) cipher).1
  else none

/-! ### CBC, XTS, CMAC -/

/-- CBC over whole blocks: output and the last ciphertext block. -/
def cbcEnc (e : List Byte → List Byte) (iv data : List Byte) : List Byte × List Byte :=
  (pieces 16 data).foldl (fun p b => let c := e (xorB b p.2); (p.1 ++ c, c)) ([], iv)
def cbcDec (d : List Byte → List Byte) (iv data : List Byte) : List Byte × List Byte :=
  (pieces 16 data).foldl (fun p b => (p.1 ++ xorB (d b) p.2, b)) ([], iv)

/-- Multiplication of a tweak by α (IEEE 1619): byte 0 lowest. -/
def timesAlpha (t : List Byte) : List Byte :=
  let n := ofLe t
  leBytes 16 (2 * n ^^^ (if 2 ^ 127 ≤ n then 0x87 else 0))

/-- XTS over whole blocks from a tweak: output and the next tweak. -/
def xtsRun (f : List Byte → List Byte) (t data : List Byte) : List Byte × List Byte :=
  (pieces 16 data).foldl (fun p b => (p.1 ++ xorB (f (xorB b p.2)) p.2, timesAlpha p.2)) ([], t)

/-- Doubling of CMAC subkeys (SP 800-38B): byte 0 highest. -/
def doubleBe (b : List Byte) : List Byte :=
  let n := ofBe b
  beBytes 16 (2 * n ^^^ (if 2 ^ 127 ≤ n then 0x87 else 0))
def cmacK1 (e : List Byte → List Byte) : List Byte := doubleBe (e (List.replicate 16 0))
def cmacK2 (e : List Byte → List Byte) : List Byte := doubleBe (cmacK1 e)

/-- The chaining of CMAC over data; `last` closes the message with K1, or K2 and padding. -/
def cmacRun (e : List Byte → List Byte) (chain data : List Byte) (last : Bool) : List Byte :=
  let k := (data.length + 15) / 16 - 1
  let body (l : List Byte) := (pieces 16 l).foldl (fun y b => e (xorB y b)) chain
  if !last then body data
  else
    let tail := data.drop (16 * k)
    let block := if tail.length = 16 then xorB tail (cmacK1 e) else xorB (padTo 16 (tail ++ [0x80])) (cmacK2 e)
    e (xorB (body (data.take (16 * k))) block)

/-- AES-CMAC of a whole message. -/
def cmac (key data : List Byte) : List Byte := cmacRun (aes key) (List.replicate 16 0) data true

/-! ### CCM (SP 800-38C) -/

/-- Ciphertext and tag of `t` bytes, for a nonce of 13 bytes or fewer and associated data shorter than 65,280 bytes. -/
def ccmSeal (key nonce aad data : List Byte) (t : Nat) : List Byte × List Byte :=
  let e := aes key
  let q := 15 - nonce.length
  let flags : Byte := BitVec.ofNat 8 (64 * bit (decide (aad ≠ [])) + 8 * ((t - 2) / 2) + (q - 1))
  let b0 := [flags] ++ nonce ++ beBytes q data.length
  let a := if aad = [] then [] else padTo (ceilTo 16 (2 + aad.length)) (beBytes 2 aad.length ++ aad)
  let mac := (cbcEnc e (List.replicate 16 0) (b0 ++ a ++ padTo (ceilTo 16 data.length) data)).2
  let ctr0 := [BitVec.ofNat 8 (q - 1)] ++ nonce ++ beBytes q 0
  ((ctrRun e q (incBlock q ctr0) data).1, (xorB mac (e ctr0)).take t)

/-- The data of a CCM message where its tag agrees. -/
def ccmOpen (key nonce aad cipher tag : List Byte) : Option (List Byte) :=
  let q := 15 - nonce.length
  let ctr0 := [BitVec.ofNat 8 (q - 1)] ++ nonce ++ beBytes q 0
  let data := (ctrRun (aes key) q (incBlock q ctr0) cipher).1
  if (ccmSeal key nonce aad data tag.length).2 = tag then some data else none

/-! ### KW and KWP -/

/-- One block operation of a wrap, number `t` from 1 (SP 800-38F): the register A and the semiblocks after it. -/
def kwStep (e : List Byte → List Byte) (n : Nat) (p : List Byte × List (List Byte)) (t : Nat) : List Byte × List (List Byte) :=
  let i := (t - 1) % n
  let b := e (p.1 ++ p.2.getD i [])
  (xorB (b.take 8) (beBytes 8 t), p.2.set i (b.drop 8))

/-- One block operation of an unwrap, number `t`. -/
def kwUnstep (d : List Byte → List Byte) (n : Nat) (p : List Byte × List (List Byte)) (t : Nat) : List Byte × List (List Byte) :=
  let i := (t - 1) % n
  let b := d (xorB p.1 (beBytes 8 t) ++ p.2.getD i [])
  (b.take 8, p.2.set i (b.drop 8))

/-- Block operations `done + 1 … done + k` of the `6 n` of a wrap, or of an unwrap, which counts down. -/
def kwOpsRun (enc : Bool) (f : List Byte → List Byte) (a data : List Byte) (done k : Nat) : List Byte × List Byte :=
  let r := pieces 8 data
  let n := r.length
  let ts := (List.range k).map fun j => if enc then done + j + 1 else 6 * n - done - j
  let p := ts.foldl (if enc then kwStep f n else kwUnstep f n) (a, r)
  (p.1, p.2.flatten)

/-- The initial value of KW, and the alternative initial value of KWP for a message length. -/
def kwIv : List Byte := List.replicate 8 0xA6
def kwpIv (len : Nat) : List Byte := [0xA6, 0x59, 0x59, 0xA6] ++ beBytes 4 len

/-- KW and KWP wrapping whole. -/
def kwWrap (key data : List Byte) : List Byte :=
  let p := kwOpsRun true (aes key) kwIv data 0 (6 * (data.length / 8))
  p.1 ++ p.2
def kwpWrap (key data : List Byte) : List Byte :=
  let q := padTo (ceilTo 8 data.length) data
  if q.length = 8 then aes key (kwpIv data.length ++ q)
  else
    let p := kwOpsRun true (aes key) (kwpIv data.length) q 0 (6 * (q.length / 8))
    p.1 ++ p.2

/-- The integrity check of an unwrapped KWP: prefix, length within the last semiblock, padding zero (07 R222). -/
def kwpCheck (a data : List Byte) : Option (List Byte) :=
  let m := ofBe (a.drop 4)
  if a.take 4 = [0xA6, 0x59, 0x59, 0xA6] ∧ data.length < m + 8 ∧ m ≤ data.length ∧ (data.drop m).all (fun b => decide (b = 0)) = true then
    some (data.take m)
  else none

/-- KW and KWP unwrapping whole, where the integrity check passes. -/
def kwUnwrap (key c : List Byte) : Option (List Byte) :=
  let w := keySchedule key
  let p := kwOpsRun false (aesDec w) (c.take 8) (c.drop 8) 0 (6 * (c.length / 8 - 1))
  if p.1 = kwIv then some p.2 else none
def kwpUnwrap (key c : List Byte) : Option (List Byte) :=
  let w := keySchedule key
  if c.length = 16 then
    let b := aesDec w c
    kwpCheck (b.take 8) (b.drop 8)
  else
    let p := kwOpsRun false (aesDec w) (c.take 8) (c.drop 8) 0 (6 * (c.length / 8 - 1))
    kwpCheck p.1 p.2

/-! ### CTR_DRBG (SP 800-90A; 12 R371) -/

/-- The update function without derivation function: key and V. -/
def drbgUpdate (k v seed : List Byte) : List Byte × List Byte :=
  let w := keySchedule k
  let v1 := incBlock 16 v
  let v2 := incBlock 16 v1
  let v3 := incBlock 16 v2
  let t := xorB (aesEnc w v1 ++ aesEnc w v2 ++ aesEnc w v3) seed
  (t.take 32, t.drop 32)

/-- Generate `n` bytes, and the key and V afterwards. -/
def drbgGenerate (k v : List Byte) (n : Nat) : List Byte × List Byte × List Byte :=
  let w := keySchedule k
  let p := (List.range ((n + 15) / 16)).foldl (fun (p : List Byte × List Byte) _ =>
    let v := incBlock 16 p.2; (p.1 ++ aesEnc w v, v)) ([], v)
  (p.1.take n, drbgUpdate k p.2 (List.replicate 48 0))

end Sys2Proof.Machine
end

