-- ==== Sys2Proof/Machine/KeyOps.lean ====
section
/-! DEFINITION. The key store's shared operations (05): types and attributes, handles, placement, loading, creation,
references and zeroisation. -/

namespace Sys2Proof.Machine

/-- A refused key-store operation: status, detail word, and the byte offset of the first failing field in the blob or the
template. -/
structure KeyErr where
  status : Half
  detail : Word := 0
  field : Nat := 0
  deriving DecidableEq, Repr

/-- The first check of a list that fails, in order. -/
def firstFail {ε : Type} : List (Bool × ε) → Option ε
  | [] => none
  | (bad, e) :: t => if bad then some e else firstFail t

/-! ### Types, usage and attributes (R161-R165) -/

/-- Usage bits (R164). -/
abbrev uENCRYPT := 0
abbrev uDECRYPT := 1
abbrev uMACGEN := 2
abbrev uMACVERIFY := 3
abbrev uWRAP := 4
abbrev uUNWRAP := 5
abbrev uKBPK := 6
abbrev uDERIVE := 7
abbrev uSIGN := 8
abbrev uVERIFY := 9
abbrev uAGREE := 10
abbrev uENCAPS := 11
abbrev uDECAPS := 12
abbrev uPIN := 13
abbrev uDUKPT := 14
abbrev uSESSION := 15
abbrev uTRUSTED := 16

/-- Usage words of the reserved slots that something checks: WRAP and UNWRAP, DERIVE, SIGN, DECAPS (05 R164; log entry 94). -/
abbrev wrapUsage : Word := 0x30
abbrev deriveUsage : Word := 0x80
abbrev signUsage : Word := 0x100
abbrev decapsUsage : Word := 0x1000

def isAes (t : Byte) : Bool := decide (t = 1 ∨ t = 2 ∨ t = 3)
def isHmac (t : Byte) : Bool := decide (t = 8)
def isEcPriv (t : Byte) : Bool := decide (t = 0x10 ∨ t = 0x11 ∨ t = 0x12)
def isEcPub (t : Byte) : Bool := decide (t = 0x18 ∨ t = 0x19 ∨ t = 0x1A)
def isRsaPriv (t : Byte) : Bool := decide (0x20 ≤ t.toNat ∧ t.toNat ≤ 0x23)
def isRsaPub (t : Byte) : Bool := decide (0x28 ≤ t.toNat ∧ t.toNat ≤ 0x2B)
def isKemPriv (t : Byte) : Bool := decide (0x30 ≤ t.toNat ∧ t.toNat ≤ 0x32)
def isKemPub (t : Byte) : Bool := decide (0x38 ≤ t.toNat ∧ t.toNat ≤ 0x3A)
def isDsaPriv (t : Byte) : Bool := decide (0x40 ≤ t.toNat ∧ t.toNat ≤ 0x42)
def isDsaPub (t : Byte) : Bool := decide (0x48 ≤ t.toNat ∧ t.toNat ≤ 0x4A)

/-- Material bytes and slots of a type (R162); the material of an HMAC key is its own length field. -/
def typeInfo (t : Byte) : Option (Nat × Nat) :=
  match t.toNat with
  | 0x01 => some (16, 1) | 0x02 => some (24, 1) | 0x03 => some (32, 1)
  | 0x08 => some (0, 1)
  | 0x10 => some (96, 2) | 0x11 => some (144, 3) | 0x12 => some (198, 4)
  | 0x14 => some (64, 1) | 0x15 => some (32, 1)
  | 0x18 => some (64, 1) | 0x19 => some (96, 2) | 0x1A => some (132, 3)
  | 0x1C => some (32, 1) | 0x1D => some (32, 1)
  | 0x20 => some (900, 15) | 0x21 => some (1348, 22) | 0x22 => some (1796, 29) | 0x23 => some (3588, 57)
  | 0x28 => some (260, 5) | 0x29 => some (388, 7) | 0x2A => some (516, 9) | 0x2B => some (1028, 17)
  | 0x30 => some (64, 1) | 0x31 => some (64, 1) | 0x32 => some (64, 1)
  | 0x38 => some (800, 13) | 0x39 => some (1184, 19) | 0x3A => some (1568, 25)
  | 0x40 => some (32, 1) | 0x41 => some (32, 1) | 0x42 => some (32, 1)
  | 0x48 => some (1312, 21) | 0x49 => some (1952, 31) | 0x4A => some (2592, 41)
  | _ => none

/-- Material length of a key with attributes `a`. -/
def matLenOf (a : Attr) : Nat :=
  if isHmac a.type then a.matLen.toNat else ((typeInfo a.type).getD (0, 0)).1

/-- Slots of a type. -/
def slotsOf (t : Byte) : Nat := ((typeInfo t).getD (0, 1)).2

/-- The usage bits permitted for a type (R164). -/
def usageMask (t : Byte) : Word :=
  if isAes t then 0x160FF
  else if isHmac t then 0x8C
  else if isEcPriv t then 0x500
  else if t = 0x14 then 0x100
  else if t = 0x15 then 0x400
  else if t = 0x19 then 0x8200
  else if isEcPub t then 0x200
  else if t = 0x1C then 0x200
  else if isRsaPriv t then 0x100
  else if isRsaPub t then 0x200
  else if isKemPub t then 0x800
  else if isKemPriv t then 0x1000
  else if isDsaPriv t then 0x100
  else if t = 0x49 then 0x8200
  else if isDsaPub t then 0x200
  else 0

/-- ASCII: a 7-bit code (R161 says no more; DEDUCED, log entry 95). -/
def asciiByte (b : Byte) : Bool := decide (b.toNat < 0x80)
def asciiHalf (h : Half) : Bool := asciiByte (h.setWidth 8) && asciiByte ((h >>> 8).setWidth 8)

/-- The offset of the first invalid field of a template or of a blob's attributes (R161-R165), in ascending order.
`reserved` is for class-1 and class-2 blobs, which carry AES-256 with owner 0xFFFF. -/
def attrBadField (a : Attr) (reserved : Bool) : Option Nat :=
  firstFail [
    ((typeInfo a.type).isNone, 0),
    (reserved && !decide (a.type = 3), 0),
    (!decide (a.count = 0), 1),
    (if reserved then !decide (a.owner = 0xFFFF) else !decide (a.owner.toNat ≤ 1023), 2),
    (decide (a.usage = 0), 4),
    (!decide (a.usage &&& ~~~(usageMask a.type) = 0), 4),
    (a.usage.getLsbD uTRUSTED && !a.usage.getLsbD uWRAP && !a.usage.getLsbD uKBPK, 4),
    (isEcPriv a.type && a.usage.getLsbD uSIGN && a.usage.getLsbD uAGREE, 4),
    (if isAes a.type then !decide (a.check.toNat ≤ 1) else !decide (a.check = 0), 8),
    (!decide (a.exportability.toNat ≤ 2), 9),
    (!(decide (a.mode = 0) || asciiByte a.mode), 10),
    (!(decide (a.keyUsage = 0) || asciiHalf a.keyUsage), 11),
    (!(decide (a.keyVersion = 0) || asciiHalf a.keyVersion), 13),
    (!decide (a.state = 0), 15),
    (!decide (a.salt = 0), 16),
    (!decide (a.generation = 0), 18),
    (if isHmac a.type then !decide (16 ≤ a.matLen.toNat ∧ a.matLen.toNat ≤ 64) else !decide (a.matLen = 0), 20),
    (!decide (a.rsv = 0), 22)]

/-- The 32 attribute bytes (R161). -/
def attrBytes (a : Attr) : List Byte :=
  [a.type, a.count] ++ leBytes 2 a.owner.toNat ++ leBytes 4 a.usage.toNat ++ [a.check, a.exportability, a.mode]
    ++ leBytes 2 a.keyUsage.toNat ++ leBytes 2 a.keyVersion.toNat ++ [a.state] ++ leBytes 2 a.salt.toNat
    ++ leBytes 2 a.generation.toNat ++ leBytes 2 a.matLen.toNat ++ leBytes 10 a.rsv.toNat

/-- The attributes that 32 bytes hold. -/
def attrOfBytes (l : List Byte) : Attr :=
  let f (i n : Nat) : Nat := ofLe (sliceBytes l i n)
  { type := l.getD 0 0, count := l.getD 1 0, owner := BitVec.ofNat 16 (f 2 2), usage := BitVec.ofNat 32 (f 4 4),
    check := l.getD 8 0, exportability := l.getD 9 0, mode := l.getD 10 0, keyUsage := BitVec.ofNat 16 (f 11 2),
    keyVersion := BitVec.ofNat 16 (f 13 2), state := l.getD 15 0, salt := BitVec.ofNat 16 (f 16 2),
    generation := BitVec.ofNat 16 (f 18 2), matLen := BitVec.ofNat 16 (f 20 2), rsv := BitVec.ofNat 80 (f 22 10) }

/-- EXHAUSTED (R161). -/
def attrExhausted (a : Attr) : Bool := a.state.getLsbD 0

/-! ### Handles (R166-R168) -/

/-- One step of the CRC-8 of R166: a byte into the register. -/
def crc8Byte (c b : Byte) : Byte :=
  (List.range 8).foldl (fun x _ => if x.getLsbD 7 then (x <<< 1) ^^^ 0x07 else x <<< 1) (c ^^^ b)

/-- CRC-8, polynomial x^8 + x^2 + x + 1, initial value 0 (R166). -/
def crc8 (l : List Byte) : Byte := l.foldl crc8Byte 0

/-- The check byte of handle bits [23:0] under the boot's salt (R166). -/
def checkByte (low : Nat) (salt : Word) : Byte := crc8 (leBytes 3 low ++ leBytes 4 salt.toNat)

def handleSlot (h : Word) : Nat := h.toNat % 32768
def handleGen (h : Word) : Nat := h.toNat / 32768 % 512
def handleCheck (h : Word) : Byte := BitVec.ofNat 8 (h.toNat / 16777216)

/-- The handle of slot `n` at generation `g`. -/
def mkHandle (k : Keys) (n : Nat) (g : BitVec 9) : Word :=
  let low := g.toNat * 32768 + n
  BitVec.ofNat 32 ((checkByte low k.salt).toNat * 16777216 + low)

/-- The run headed by slot `n`, if it is occupied and not marked empty (R163, R177). -/
def Keys.present (k : Keys) (n : Nat) : Option KeyRun :=
  match Bank.get none k.runs n with
  | some r => if r.marked then none else some r
  | none => none

/-- Checks 1 to 4 of R168.  `owner` is none where every owner passes; `usage` is the requested usage bit. -/
def Keys.lookup (k : Keys) (h : Word) (owner : Option Half) (usage : Option Nat) : Except KeyErr KeyRun :=
  if handleCheck h ≠ checkByte (h.toNat % 16777216) k.salt then .error { status := Status.keyHandle, detail := h }
  else match k.present (handleSlot h) with
    | none => .error { status := Status.keyHandle, detail := h }
    | some r =>
      if r.attr.generation.toNat ≠ handleGen h then .error { status := Status.keyStale, detail := h }
      else if owner.any (fun o => o ≠ r.attr.owner) then .error { status := Status.keyOwner, detail := h }
      else if usage.any (fun u => !r.attr.usage.getLsbD u) then .error { status := Status.keyUsage, detail := h }
      else .ok r

/-- Checks 5 and 6 of R168 for a nonce-bearing use. -/
def nonceCheck (trusted : Bool) (h : Word) (r : KeyRun) : Option KeyErr :=
  if !trusted then some { status := Status.epochUnset }
  else if attrExhausted r.attr then some { status := Status.nonceExhausted, detail := h }
  else none

/-- The owner that a PKE_TENANT, DIG_TENANT or session compares: 0xFFFF passes every slot (10 R319). -/
def ownerOf (tenant : Half) : Option Half := if tenant = 0xFFFF then none else some tenant

/-! ### Placement (R160, R163) -/

/-- The lowest start of `n` free slots from `pos`, given the occupied runs by rising head. -/
def freeFrom (n : Nat) : List (Nat × Nat) → Nat → Option Nat
  | [], pos => if pos + n ≤ 32768 then some pos else none
  | (h, c) :: t, pos =>
    if h + c ≤ pos then freeFrom n t pos
    else if pos + n ≤ h then some pos
    else freeFrom n t (h + c)

/-- The attribute area of slot `n` (R163): a head's attributes; in a continuation type 0x7F and the head's number; zeros in a free
slot. -/
def Keys.attrArea (k : Keys) (n : Nat) : List Byte :=
  match k.runs.find? fun p => decide (p.1 ≤ n ∧ n < p.1 + ((p.2.map fun r => slotsOf r.attr.type).getD 0)) with
  | some (h, some r) => if h = n then attrBytes r.attr else padTo 32 ([0x7F, 0] ++ leBytes 2 h)
  | _ => padTo 32 []

/-- The occupied runs: head and slot count, marked ones included (R177). -/
def Keys.occupied (k : Keys) : List (Nat × Nat) :=
  k.runs.filterMap fun p => p.2.map fun r => (p.1, slotsOf r.attr.type)

/-- Whether slots `n … n + c - 1` are all free. -/
def Keys.isFree (k : Keys) (n c : Nat) : Bool := k.occupied.all fun p => decide (p.1 + p.2 ≤ n ∨ n + c ≤ p.1)

/-- The INPUT_INVALID of a slot field (R160). -/
def slotErr : KeyErr := { status := Status.inputInvalid, detail := 0x00010040 }

/-- Where a key of class `cls` and `c` slots goes; `slot` is none for the field 0xFFFF or ANY (R160). -/
def Keys.place (k : Keys) (cls : Nat) (c : Nat) (slot : Option Nat) : Except KeyErr Nat :=
  if cls = 0 then
    match slot with
    | none =>
      match freeFrom c k.occupied 64 with
      | some n => .ok n
      | none => .error slotErr
    | some n => if 64 ≤ n ∧ n + c ≤ 32768 ∧ k.isFree n c then .ok n else .error slotErr
  else
    let want := cls + 1
    if (slot = none ∨ slot = some want) ∧ k.isFree want 1 then .ok want else .error slotErr

/-- A second SESSION key of the tenant (R165). -/
def Keys.sessionTaken (k : Keys) (a : Attr) : Bool :=
  a.usage.getLsbD uSESSION &&
    k.runs.any fun p => match p.2 with
      | some r => !r.marked && decide (r.attr.owner = a.owner) && r.attr.usage.getLsbD uSESSION
      | none => false

/-- The slot needs a salt of R170. -/
def needsSalt (a : Attr) : Bool := isAes a.type && a.usage.getLsbD uENCRYPT

/-- No salt is left for a slot that needs one (R170). -/
def Keys.saltGone (k : Keys) (a : Attr) : Option KeyErr :=
  if needsSalt a && decide (65536 ≤ k.saltsIssued) then
    some { status := Status.nonceExhausted, detail := 0xFFFFFFFF }
  else none

/-- Change the run at head slot `n`. -/
def Keys.updRun (k : Keys) (n : Nat) (f : KeyRun → KeyRun) : Keys :=
  { k with runs := Bank.upd none n (Option.map f) k.runs }

/-- Fill the run at head slot `n`: the generation advances, the device fields are set, the invocation counter starts at 0
(R161, R166, R170, R171). -/
def Keys.install (k : Keys) (n : Nat) (a : Attr) (material : List Byte) (keyId : Long) : Keys :=
  let g := Bank.get 0 k.gens n + 1
  let salted := needsSalt a
  let a' : Attr := { a with
    count := BitVec.ofNat 8 (slotsOf a.type), state := 0,
    salt := if salted then k.s0 + BitVec.ofNat 16 k.saltsIssued * k.q else 0,
    generation := g.setWidth 16, matLen := BitVec.ofNat 16 material.length }
  { k with
    runs := Bank.set none n (some { attr := a', material := material, keyId := keyId, counter := 0, marked := false,
                                    refs := 0 }) k.runs
    gens := Bank.set 0 n g k.gens
    saltsIssued := if salted then k.saltsIssued + 1 else k.saltsIssued }

/-- The handle of the key now in head slot `n`. -/
def Keys.handleOf (k : Keys) (n : Nat) : Word := mkHandle k n (Bank.get 0 k.gens n)

/-! ### Blobs (R173, R174) -/

/-- An attribute error: `base` is the place of the attributes in the template or the blob. -/
def attrErr (base f : Nat) : KeyErr := { status := Status.inputInvalid, field := base + f }

/-- Material length against the type (R174 check 5). -/
def matErr (base : Nat) (a : Attr) (m : List Byte) : Option KeyErr :=
  if m.length = matLenOf a then none else some (attrErr base (if isHmac a.type then 20 else 0))

/-- Where the attributes of a blob stand: P begins at byte 24, and they follow its first 16 bytes (R173; log entry 31). -/
abbrev blobAttr := 40

/-- Class and key identifier of a blob (R173). -/
def blobCls (b : List Byte) : Byte := b.getD 5 0
def blobId (b : List Byte) : Long := BitVec.ofNat 64 (ofLe (sliceBytes b 8 8))

/-- The header checks 1 and 2 of R174. -/
def blobHeadErr (b : List Byte) : Option KeyErr :=
  let w := ofLe (sliceBytes b 16 4)
  firstFail [
    (!decide (sliceBytes b 0 4 = ascii "CXKB"), { status := Status.badFormat, field := 0 }),
    (!decide (b.getD 4 0 = 1), { status := Status.badFormat, field := 4 }),
    (!decide ((blobCls b).toNat ≤ 2), { status := Status.badFormat, field := 5 }),
    (!decide (sliceBytes b 6 2 = [0, 0]), { status := Status.badFormat, field := 6 }),
    (!decide (sliceBytes b 20 4 = [0, 0, 0, 0]), { status := Status.badFormat, field := 20 }),
    (!decide (w % 8 = 0 ∧ 56 ≤ w ∧ w + 24 = b.length), { status := Status.lengthRange, field := 16 })]

/-- What a blob wraps under the key `kek`, where check 4 of R174 passes: attributes and material. -/
def blobOpen (kek b : List Byte) : Option (Attr × List Byte) :=
  match kwpUnwrap kek (b.drop 24) with
  | some p => if p.take 16 = b.take 16 then some (attrOfBytes (p.drop 16), p.drop 48) else none
  | none => none

/-- Checks 5 and 6 of R174 on what a blob of a class wraps, and its load into a slot. -/
def Keys.loadPlain (k : Keys) (cls : Byte) (keyId : Long) (slot : Option Nat) (a : Attr) (m : List Byte) : Except KeyErr (Nat × Keys) :=
  match attrBadField a (decide (cls ≠ 0)) with
  | some f => .error (attrErr blobAttr f)
  | none =>
    match matErr blobAttr a m with
    | some e => .error e
    | none =>
      if decide (cls = 0) && k.sessionTaken a then .error (attrErr blobAttr 4)
      else match k.place cls.toNat (slotsOf a.type) slot with
        | .error e => .error e
        | .ok n =>
          match k.saltGone a with
          | some e => .error e
          | none => .ok (n, (k.install n a m keyId).updRun n fun r => { r with loaded := true })

/-- Load a blob under the checks of R174; a blob that fails any check loads nothing.  Answers the head slot. -/
def Keys.loadBlob (k : Keys) (b : List Byte) (slot : Option Nat) : Except KeyErr (Nat × Keys) :=
  match blobHeadErr b with
  | some e => .error e
  | none =>
    match k.present (if blobCls b = 0 then 2 else 1) with
    | none => .error { status := Status.notReady, detail := 2 }
    | some kek =>
      match blobOpen kek.material b with
      | none => .error { status := Status.authFail }
      | some (a, m) => k.loadPlain (blobCls b) (blobId b) slot a m

/-! ### Creation of keys (R169) -/

/-- What a creation needs: a trusted epoch and a loaded membership, which supplies the device number. -/
structure CreateEnv where
  trusted : Bool
  device : Option Half
  epoch : Word

/-- The refusals of R169 that come before anything is created. -/
def Keys.createErr (k : Keys) (e : CreateEnv) : Option KeyErr :=
  firstFail [
    (!e.trusted, { status := Status.epochUnset }),
    (e.device.isNone, { status := Status.notReady, detail := 2 }),
    (decide (65536 ≤ k.creation), { status := Status.nonceExhausted, detail := 0xFFFFFFFF })]

/-- The next key identifier (R169). -/
def Keys.nextId (k : Keys) (e : CreateEnv) : Long :=
  BitVec.ofNat 64 ((e.device.getD 0).toNat * 2 ^ 48 + e.epoch.toNat * 2 ^ 16 + k.creation)

/-- The checks of a template against the store: R161-R165, the second SESSION key, placement and salts; none when the key
may be created, with its slot. -/
def Keys.templateSlot (k : Keys) (a : Attr) (slot : Option Nat) : Except KeyErr Nat :=
  match attrBadField a false with
  | some f => .error (attrErr 0 f)
  | none =>
    if k.sessionTaken a then .error (attrErr 0 4)
    else match k.place 0 (slotsOf a.type) slot with
      | .error e => .error e
      | .ok n =>
        match k.saltGone a with
        | some e => .error e
        | none => .ok n

/-- Create a key from a template and material: a fresh key identifier and a slot (R169, R182 GENERATE and IMPORT). -/
def Keys.create (k : Keys) (e : CreateEnv) (a : Attr) (material : List Byte) (slot : Option Nat) :
    Except KeyErr (Nat × Keys) :=
  match k.createErr e with
  | some x => .error x
  | none =>
    match k.templateSlot a slot with
    | .error x => .error x
    | .ok n =>
      match matErr 0 a material with
      | some x => .error x
      | none => .ok (n, { k.install n a material (k.nextId e) with creation := k.creation + 1 })

/-- The class-0 blob of a run under the wrapping key `dk`, or the class-1 or -2 blob (R173). -/
def blobOf (cls : Byte) (r : KeyRun) (kek : List Byte) : List Byte :=
  let head := ascii "CXKB" ++ [1, cls, 0, 0] ++ leBytes 8 r.keyId.toNat
  let attr : Attr := { r.attr with count := 0, state := 0, salt := 0, generation := 0,
                                   matLen := if isHmac r.attr.type then r.attr.matLen else 0 }
  let p := head ++ attrBytes attr ++ r.material
  let w := ceilTo 8 p.length + 8
  head ++ leBytes 4 w ++ [0, 0, 0, 0] ++ kwpWrap kek p

/-! ### References, unloading and zeroisation (R171, R177, R178) -/

/-- A job or engine operation takes a reference. -/
def Keys.addRef (k : Keys) (n : Nat) : Keys := k.updRun n fun r => { r with refs := r.refs + 1 }

/-- A reference is released. -/
def Keys.dropRef (k : Keys) (n : Nat) : Keys := k.updRun n fun r => { r with refs := r.refs - 1 }

/-- Mark the run empty at once (R177 step 1). -/
def Keys.mark (k : Keys) (n : Nat) : Keys := k.updRun n fun r => { r with marked := true }

/-- Zeroise the run: it becomes free (R177 step 3). -/
def Keys.free (k : Keys) (n : Nat) : Keys := { k with runs := Bank.set none n none k.runs }

/-- Reserve one invocation counter value of the run (R171). -/
def Keys.reserve (k : Keys) (n : Nat) : Keys :=
  k.updRun n fun r =>
    if r.counter = 0xFFFFFFFF then { r with attr := { r.attr with state := r.attr.state ||| 1 } }
    else { r with counter := r.counter + 1 }

/-- Occupied slots, runs and reserved slots included (R182 KEY_INUSE). -/
def Keys.inUse (k : Keys) : Nat := (k.occupied.map Prod.snd).sum

/-- Whole-store zeroisation starts: every slot is written, and the generation counters with an alarm (R178). -/
def Keys.startZero (k : Keys) (gens : Bool) : Keys :=
  { k with runs := [], gens := if gens then [] else k.gens, zeroising := true }

/-- Whole-store zeroisation ends. -/
def Keys.endZero (k : Keys) : Keys := { k with zeroising := false, zeroAll := false }

end Sys2Proof.Machine
end

