-- ==== Sys2Proof/Machine/RingOps.lean ====
section
/-! DEFINITION. Shared operations of the job rings and the pipeline (06): keys of jobs, tokens, completion entries, the
release of what a job holds, aborts and abandonment. -/

namespace Sys2Proof.Machine

/-- The key of job `n` of ring `r` in `Rings.jobs`. -/
def jobKey (r : Nat) (n : Word) : Nat := r * 2 ^ 32 + n.toNat
def jobRing (k : Nat) : Nat := k / 2 ^ 32
def jobNum (k : Nat) : Word := BitVec.ofNat 32 (k % 2 ^ 32)

def Rings.job (rs : Rings) (k : Nat) : Option Job := Bank.get none rs.jobs k
def Rings.get (rs : Rings) (r : Nat) : Ring := Bank.get {} rs.ring r
def Rings.updRing (rs : Rings) (r : Nat) (f : Ring → Ring) : Rings := { rs with ring := Bank.upd {} r f rs.ring }
def Rings.setJob (rs : Rings) (k : Nat) (j : Option Job) : Rings := { rs with jobs := Bank.set none k j rs.jobs }
def Rings.updJob (rs : Rings) (k : Nat) (f : Job → Job) : Rings :=
  { rs with jobs := Bank.upd none k (Option.map f) rs.jobs }

/-- The jobs in flight, by key. -/
def Rings.list (rs : Rings) : List (Nat × Job) := rs.jobs.filterMap fun p => p.2.map fun j => (p.1, j)

/-- Jobs of ring `r` in flight (R217 INFLIGHT). -/
def Rings.inflight (rs : Rings) (r : Nat) : Nat := (rs.list.filter fun p => jobRing p.1 = r).length

/-- The bytes of the release buffer in use (R196). -/
def Rings.bufUsed (rs : Rings) : Nat := (rs.list.map fun p => p.2.buf).sum

/-- Context entries allocated (R237). -/
def Rings.ctxUsed (rs : Rings) : Nat := (rs.list.filter fun p => p.2.ctx.isSome).length

/-- Tokens held in the collector buffer (R209). -/
def Rings.tokens (rs : Rings) : Nat := (rs.list.filter fun p => decide (p.2.pos = .token)).length

/-- The most tokens held since reset, after a change (R217 COLL_HW). -/
def Rings.noteHw (rs : Rings) : Rings := { rs with collHw := max rs.collHw rs.tokens }

/-! ### Windows (R186) -/

/-- A range of `len` bytes lies wholly within one of the function's windows `w`, base and limit by number; a range of length 0
always does.  Before any RING_WINDOW (`given` false) the PF has the whole address space and a VF nothing (04 R113). -/
def inWindows (given : Bool) (w : Nat → Long × Long) (f : Nat) (a : Long) (len : Nat) : Bool :=
  len = 0 ||
    (decide (a.toNat + len ≤ 2 ^ 64) &&
      (if given then (List.range 8).any fun k => decide ((w k).1.toNat ≤ a.toNat ∧ a.toNat + len ≤ (w k).2.toNat)
      else decide (f = 0)))

/-- Window `k` of function `f`. -/
def Rings.window (rs : Rings) (f k : Nat) : Long × Long := (Bank.get 0 rs.wbase (f + 64 * k), Bank.get 0 rs.wlim (f + 64 * k))

/-- A range lies within the DMA window of a function. -/
def Rings.inWindow (rs : Rings) (f : Nat) (a : Long) (len : Nat) : Bool :=
  inWindows (rs.windowed.getLsbD f) (rs.window f) f a len

/-! ### Ending a job -/

/-- Digest work on job `k` is taken off the units and the ready list. -/
def Dig.dropJob (d : Dig) (k : Nat) : Dig :=
  let w : DigWork := .ring (jobRing k) (jobNum k)
  { d with
    ready := d.ready.filter fun x => decide (x ≠ w)
    units := (List.range 4).foldl (fun b u =>
      Bank.upd {} u (fun x => if x.work = some w then { x with work := none } else x) b) d.units }

/-- Job `k` leaves the write schedule of its port, and its staging granules become free (08 R278, 09 R307). -/
def Sole.dropJob (k port : Nat) (x : Sole) : Sole :=
  { x with port := Bank.upd {} port (fun p => { p with sched := p.sched.filter fun e => decide (e.job ≠ k) }) x.port }

/-- Release what job `j` at key `k` holds: key references, its schedule entry and its digest unit.  A cut of it on a core runs to
completion, and its results go nowhere (R177, R237; 07 R236, R258). -/
def State.releaseJob (k : Nat) (j : Job) (s : State) : State :=
  let s1 := (s.withKeys fun ks => j.slots.foldl Keys.dropRef ks).withSole (Sole.dropJob k j.desc.port.toNat)
  match j.pos with
  | .onCore c => s1.withCipher fun x => { x with cores := Bank.upd {} c (fun y => { y with work := none, orphan := some j }) x.cores }
  | .digest => s1.withDig fun d => d.dropJob k
  | _ => s1

/-- Job `k` becomes a token in the collector with the given outcome (R209); `outLen` is 0 for a failed job (R197). -/
def State.tokenise (k : Nat) (status : Half) (detail : Word) (stage : BitVec 4) (outLen : Word) (s : State) : State :=
  match s.rings.job k with
  | none => s
  | some j =>
    if j.pos = .token then s
    else (s.releaseJob k j).withRings fun rs =>
      (rs.setJob k (some { j with
        pos := .token, status := status, detail := detail, stage := stage, slots := [], ctx := none, ctxStart := none, buf := 0, out := [], heldOut := [],
        outLen := if status = 0 then outLen else 0 })).noteHw

/-- Job `k` fails at a stage (R22-R24). -/
def State.failJob (k : Nat) (status : Half) (detail : Word) (stage : BitVec 4) (s : State) : State :=
  s.tokenise k status detail stage 0

/-- Job `k` is abandoned: it vanishes without a completion (R212). -/
def State.abandonJob (k : Nat) (s : State) : State :=
  match s.rings.job k with
  | none => s
  | some j => (s.releaseJob k j).withRings fun rs => rs.setJob k none

/-! ### Completion entries (R197, R198, R210, R211) -/

/-- The 16 bytes of the completion entry of descriptor count `n` on a ring of size code `z`. -/
def completionBytes (z : Nat) (n : Word) (j : Job) : List Byte :=
  leBytes 2 j.status.toNat ++ leBytes 2 (bit (!n.getLsbD z) + 2 * j.stage.toNat) ++ leBytes 4 j.detail.toNat
    ++ leBytes 4 j.desc.tag.toNat ++ leBytes 4 j.outLen.toNat

/-- The function that doorbell page `k` is assigned to (R217 RING_PAGE_k). -/
def Rings.pageFn (rs : Rings) (k : Nat) : Option (BitVec 6) :=
  let v := Bank.get 0 rs.page k
  if v.getLsbD 6 then some (v.setWidth 6) else none

/-- Assign doorbell page `k` to a function, or to none. -/
def Rings.setPage (k : Nat) (f : Option (BitVec 6)) (rs : Rings) : Rings :=
  { rs with page := Bank.set 0 k (match f with | some x => x.setWidth 7 ||| 0x40 | none => 0) rs.page }

/-- A ring whose last job is done while it drains becomes free, and its doorbell page with the last ring in it (R185,
R213). -/
def Rings.freeIfDrained (rs : Rings) (r : Nat) : Rings :=
  let g := rs.get r
  if g.state = 3 ∧ g.c = g.f then
    let rs1 := rs.updRing r fun x => { x with state := 0, fetchErr := false }
    if rs1.ring.any fun p => decide (p.1 / 512 = r / 512 ∧ p.2.state ≠ 0) then rs1
    else rs1.setPage (r / 512) none
  else rs

/-- The order to abort all rings ends when no descriptor of a read under way at the order is awaited and every aborted job's entry is
written (R214, R217 RING_ABORT). -/
def Rings.endAbort (rs : Rings) : Rings :=
  { rs with abortAll := rs.abortAll && (!decide (rs.abortReads = []) || rs.list.any fun p =>
      decide (p.2.pos = .token ∧ p.2.status = Status.aborted ∧ p.2.detail = 1)) }

/-- The descriptor read of ring `r` is no longer under way. -/
def Rings.endRead (r : Nat) (rs : Rings) : Rings :=
  ({ rs.updRing r (fun x => { x with issued := 0 }) with abortReads := rs.abortReads.filter fun x => decide (x ≠ r) }).endAbort

/-- Write the completion entry of the next descriptor of ring `r`, when its token is in the collector; C advances and the
ring's vector is due. -/
def State.complete (r : Nat) (s : State) : State :=
  let g := s.rings.get r
  match s.rings.job (jobKey r g.c) with
  | none => s
  | some j =>
    if j.pos = .token then
      let a := g.cmpl + BitVec.ofNat 64 (g.c.toNat % 2 ^ g.size.toNat * 16)
      (s.hostWrite a (completionBytes g.size.toNat g.c j)).withRings fun rs =>
        let rs1 := rs.setJob (jobKey r g.c) none
        let rs2 := rs1.updRing r fun x => { x with c := x.c + 1 }
        let v := g.fn.toNat * 32 + g.vector.toNat
        let rs3 := if g.irqEn && !rs2.irqDue.contains v then { rs2 with irqDue := rs2.irqDue ++ [v] } else rs2
        (rs3.freeIfDrained r).endAbort
    else s

/-- Write every completion of ring `r` that is writable, in descriptor order. -/
def State.completeAll (r : Nat) (s : State) : State :=
  (List.range (s.rings.inflight r)).foldl (fun t _ => t.complete r) s

/-- Every open job of every ring that `p` selects becomes a token with the given status at COMPLETE, and the entries are
written in descriptor order (R214). -/
def State.abortJobs (p : Nat → Bool) (status : Half) (detail : Word) (s : State) : State :=
  let ks := (s.rings.list.map Prod.fst).filter fun k => p (jobRing k)
  let s1 := ks.foldl (fun t k => t.failJob k status detail 8) s
  ((ks.map jobRing).eraseDups).foldl (fun t r => t.completeAll r) s1

end Sys2Proof.Machine
end

