-- ==== Sys2Proof/Machine/AlarmOps.lean ====
section
/-! DEFINITION. The alarm response as one shared operation (13 R389-R399), the assertion of a main-domain reset (02 R41,
R70), and what a halt and a zeroisation do to each unit. -/

namespace Sys2Proof.Machine

/-- The behaviour of a code: 7 is not defined (R389) and acts as one of the codes 0 to 6 (log entry 4). -/
def effCode (c : BitVec 3) : Nat := if c = 7 then Config.reservedCode.val else c.toNat

/-- The nominal period of clock Cc in ps, and the thresholds of its frequency detectors in kHz, whole kilohertz below the one and above the
other (R386). -/
def clockTable (c : Nat) : Nat × Nat × Nat :=
  match c with
  | 0 => (10000, 112500, 87500)
  | 1 => (20000, 56250, 43750)
  | 2 => (6400, 175781, 136719)
  | 3 => (30517578, 40, 25)
  | 4 => (1000, 1125000, 875000)
  | 5 => (625, 1800000, 1400000)
  | 6 => (1250, 900000, 700000)
  | 7 => (1250, 900000, 700000)
  | 8 => (2482, 453186, 352479)
  | _ => (2500, 450000, 350000)

/-- A two's complement field of 16 bits. -/
def signed16 (n : Nat) : Int := (BitVec.ofNat 16 n).toInt

/-- The detail word is one that a monitor outside its limits can give (R383, R386): a measured value is a whole number of its unit, so
one at a limit can stand for a value just past it (DEDUCED, log entry 130).  The internal sources give no measured value. -/
def sourceMet (src : Nat) (detail : Word) : Bool :=
  let n := detail.toNat
  let lo := n % 65536
  if src < 10 then decide ((clockTable src).2.1 ≤ n)
  else if src < 20 then decide (n ≤ (clockTable (src - 10)).2.2)
  else if src < 30 then decide (n ≤ (clockTable (src - 20)).1 * 35 / 100)
  else match src with
    | 30 => decide (810 ≤ n)
    | 31 => decide (n ≤ 690)
    | 32 => decide (lo ≤ 630 ∨ 870 ≤ lo) && decide (65536 ≤ n)
    | 33 => decide (1980 ≤ n)
    | 34 => decide (n ≤ 1620)
    | 35 => decide (n ≤ 2200)
    | 36 => decide (118 * 8 ≤ signed16 lo)
    | 37 => decide (signed16 lo ≤ -35 * 8)
    | 38 => decide (1 ≤ n ∧ n < 65536)
    | 39 => decide (1 ≤ n % 256 ∧ 1 ≤ n / 256 ∧ n / 256 ≤ 3)
    | 40 => decide (n % 256 < 96 ∧ 1 ≤ n / 256)
    | 50 | 51 | 52 | 53 => decide (1 ≤ n ∧ n < 8)
    | _ => true

/-- The sources live on VBAT (R383, R399). -/
def liveSource (src : Nat) : Bool := [3, 13, 23, 35, 36, 37, 38, 39, 50, 51, 52, 53].contains src

/-! ### Halt and clear engines (R389; 07 R251, 10 R336, 11 R359) -/

/-- Every datapath is cleared; discarded cuts return to the ready set and rerun from their starting contexts (07 R251). -/
def State.haltCipher (s : State) : State :=
  (s.withRings fun rs =>
    { rs with jobs := rs.jobs.map fun p => (p.1, p.2.map fun j =>
        match j.pos with | .onCore _ => { j with pos := .ready } | _ => j) }).withCipher fun c =>
    { c with cores := (List.range 16).foldl (fun b i => Bank.upd {} i (fun x =>
      { x with work := none, orphan := none, dpA := {}, dpB := {} }) b) c.cores }

/-- Every engine at work clears as 10 R334 states. -/
def PkeEngine.halt (e : PkeEngine) : PkeEngine :=
  if e.state = 1 ∨ e.state = 2 ∨ e.state = 3 ∨ e.state = 4 then
    { e with state := 5, clearing := .halt, scratch := {}, input := [], copied := none }
  else e

def State.haltPke (s : State) : State :=
  s.withPke fun b => (List.range 4).foldl (fun b i => Bank.upd {} i PkeEngine.halt b) b

/-- The halt of code 3 and above.  A digest unit reruns its segment from the last checked block (11 R359), which changes
nothing that the model holds. -/
def State.haltEngines (s : State) : State := s.haltCipher.haltPke

/-! ### Zeroisation (R389; 05 R178) -/

/-- Zeroise keys and SRAM: the key store, the SRAM key, the Clicker context memory, DRBG and masking states, PKE scratch
and operand memory, and the digest context stores. -/
def State.zeroiseStart (s : State) : State :=
  let s1 := s.withKeys (Keys.startZero · true)
  let s2 := s1.withBoot fun b => { b with sramKey := false }
  let s3 := s2.withRings fun rs => { rs with jobs := rs.jobs.map fun p => (p.1, p.2.map fun j =>
    { j with ctx := none, ctxStart := none }) }
  let s4 := s3.withRng fun r => { r with insts := [], gens := [] }
  let s5 := s4.withPke fun b => (List.range 4).foldl (fun b i =>
    Bank.upd {} i (fun (e : PkeEngine) => { e with mem := [], slot := none, scratch := {}, input := [] }) b) b
  s5.withDig fun d => { d with chans := (List.range 5).foldl (fun b i =>
    Bank.upd {} i (fun (c : DigChan) => { c with ctx := none, ctxOut := [], slot := none }) b) d.chans }

/-! ### Taking a main-domain reset (02 R41; R391, R397) -/

/-- Close every window timed in ACLK; a live source whose COALESCED entry is registered opens a new window under the VBAT
timing (R391, R404). -/
def Log.closeWindows (stamp : BitVec 48) (l : Log) : Log :=
  (List.range 57).foldl (fun (a : Log) src =>
    if (Bank.get {} a.windows src).vbat then a
    else a.windowEnd src (if liveSource src then some true else none) stamp) l

/-- What a main-domain reset leaves: everything of the main domain at its reset value; the queue, the outputs, the pins and
fuses, and the Insole domain with its log, tag memory and listen session as they were (02 R65, 14 R413). -/
def State.mainReset (s : State) : State :=
  { State.reset with
    pending := s.pending, freeCount := s.freeCount, out := s.out, pins := s.pins, log := s.log, insole := s.insole,
    listen := s.listen }

/-- The assertion of a main-domain reset: windows close, an unannounced loss is recorded unless a shutdown record stands or
no boot has raised its epoch (02 R70; log entry 24), and the main domain takes its reset values. -/
def State.assertReset (s : State) : State :=
  let lost := s.boot.step2 && !s.boot.shutdownRecord
  let s1 := s.withLog (Log.closeWindows s.insole.rtc)
  let s2 := if lost then (s1.withLog (Log.record 0x82 s.insole.rtc s.boot.epoch)).withInsole fun i => { i with unannounced := true }
            else s1
  let s3 := s2.withLog fun l => { l with owed := l.queue.length, backupSince := if s.boot.dark then l.backupSince else false }
  s3.mainReset

/-! ### The response on main power (R389, R390, R396) -/

/-- The sources whose internal assertions last one tick (log entry 25). -/
def pulseSource (src : Nat) : Bool := [41, 42, 43, 44, 45, 46, 47, 54, 55, 56].contains src

/-- The code in force for a source. -/
def Alarm.code (a : Alarm) (src : Nat) : BitVec 3 := Bank.get 0 a.resp src

/-- The code applied for one assertion: at least 4 for the Cobbler's firmware-raised alarm with detail 0x43 (R383 source
56), otherwise the code in force. -/
def Alarm.applied (a : Alarm) (p : Nat × Word × Bool) : BitVec 3 :=
  if p.2.2 ∧ effCode (a.code p.1) < 4 then 4 else a.code p.1

/-- The most severe code of a tick. -/
def mostSevere (codes : List (BitVec 3)) : BitVec 3 :=
  codes.foldl (fun m c => if effCode m < effCode c then c else m) 0

/-- Insert a source into a list kept in ascending source order (R396). -/
def insertSource (p : Nat × Word × Bool) : List (Nat × Word × Bool) → List (Nat × Word × Bool)
  | [] => [p]
  | q :: t => if p.1 ≤ q.1 then p :: q :: t else q :: insertSource p t

/-- A tick of assertions in ascending source order. -/
def sortTick (l : List (Nat × Word × Bool)) : List (Nat × Word × Bool) := l.foldr insertSource []

/-- Drive the NMI of every custody core that is out of reset (R393). -/
def State.nmiAll (s : State) : State :=
  s.withCores fun b => (List.range 4).foldl (fun b i =>
    Bank.upd {} i (fun (c : Core) => if c.inReset then c else { c with nmi := true }) b) b

/-- Failed Stitch checks behind the assertions of source 41 in a tick: a DMA master's transfer and its retry, or one access
of a core or the Cobbler, by the master number of the detail word (R383, R388; log entry 26). -/
def stitchFailures (tick : List (Nat × Word × Bool)) : Nat :=
  (tick.map fun p => if p.1 = 41 then (if 65 ≤ p.2.1.toNat % 128 ∧ p.2.1.toNat % 128 ≤ 69 then 1 else 2) else 0).sum

/-- The four PUF reconstructions of this boot have failed: only PERST_N or PWRGD leaves this state (02 R44). -/
def Boot.pufFailed (b : Boot) : Bool := decide (b.state = .failed) && !b.pufOk && decide (4 ≤ b.pufAttempts)

/-- What an uncorrectable key-slot error leaves in KEY_STATUS (05 R179, R182), and code 6 in the Insole domain, from the assertion of
its source (05 R178). -/
def State.tickKeys (tick : List (Nat × Word × Bool)) (code6 : Bool) (s : State) : State :=
  let s1 := if tick.any fun p => decide (p.1 = 47) then s.withKeys fun k => { k with integrity := true } else s
  if code6 then s1.withInsole fun i => { i with ik := none } else s1

/-- The place of a source of clock C3 in `c3Out`. -/
def c3Place (src : Nat) : Option Nat := if src = 3 then some 0 else if src = 13 then some 1 else if src = 23 then some 2 else none

/-- Clock C3 leaves its limits, or is back inside them, by a source (14 R414). -/
def State.c3Set (src : Nat) (v : Bool) (s : State) : State :=
  match c3Place src with
  | some i => s.withInsole fun x => { x with c3Out := setBit x.c3Out i v }
  | none => s

/-- One tick of assertions on main power: entries, pending bits, the union of the actions (R389, R390, R396).  Each element
is a source, its detail word and whether at least code 4 applies.  `withhold` withholds the main-domain reset, and after four
failed PUF reconstructions none is decided any more (02 R44). -/
def State.tickMain (tick : List (Nat × Word × Bool)) (withhold : Bool) (s : State) : State :=
  let codes := tick.map s.alarm.applied
  let most := mostSevere codes
  let m := effCode most
  let s1 := s.withLog fun l => (sortTick tick).foldl (fun (a : Log) p =>
    a.assert p.1 false s.insole.rtc (respByte (s.alarm.code p.1) most) 0 p.2.1) l
  let s2 := s1.withAlarm fun a =>
    { a with
      asserted := tick.foldl (fun b p => if pulseSource p.1 then b else setBit b p.1 true) a.asserted
      pend := tick.foldl (fun b p =>
        if effCode (s.alarm.code p.1) = 1 ∨ effCode (s.alarm.code p.1) = 2 then setBit b p.1 true else b) a.pend
      govern := most
      halt := a.halt || decide (3 ≤ m)
      zero := a.zero || decide (5 ≤ m)
      resetDecided := a.resetDecided || (decide (4 ≤ m) && !withhold && !s.boot.pufFailed)
      resetNow := a.resetNow || (decide (m = 4) && !withhold && !s.boot.pufFailed)
      zeroInsole := a.zeroInsole || decide (m = 6) }
  let s3 := if tick.any fun p => decide (effCode (s.alarm.applied p) = 2) then s2.nmiAll else s2
  let s4 := if 3 ≤ m then s3.haltEngines else s3
  let s5 := if 5 ≤ m then s4.zeroiseStart else s4
  let s6 := (s5.tickKeys tick (decide (m = 6))).withAlarm fun a => { a with stitch := satAdd a.stitch (stitchFailures tick) }
  s6.withRng fun r => { r with entries48 := satAdd r.entries48 (tick.filter fun p => p.1 = 48).length }

/-- The most severe kept code of the live sources of a tick (R396, R399). -/
def State.darkMost (tick : List (Nat × Word × Bool)) (s : State) : BitVec 3 :=
  mostSevere ((tick.filter fun p => liveSource p.1).map fun p => Bank.get 0 s.log.kept p.1)

/-- One assertion while the shelf is dark, under the kept table, in a tick whose most severe code is `most` (R396, R399). -/
def State.assertDark (src : Nat) (detail : Word) (most : BitVec 3) (s : State) : State :=
  if !liveSource src then s
  else
    let code := Bank.get 0 s.log.kept src
    let m := effCode code
    let pending := decide (1 ≤ m ∧ m ≤ 5)
    let s1 := s.withLog fun l =>
      let l1 := l.assert src true s.insole.rtc (respByte code most) (flBACKUP ||| (if pending then flPENDING else 0)) detail
      if pending then
        { l1 with
          pendMax := if effCode l1.pendMax < m then code else l1.pendMax
          pendCount := satAdd l1.pendCount 1
          pendMask := setBit l1.pendMask src true }
      else if m = 6 then { l1 with pendCode6 := true }
      else l1
    if m = 6 then s1.withInsole fun i => { i with ik := none } else s1

/-- Assertions registered in one tick: the response on main power, or the backup rules while the shelf is dark (R397,
R399). -/
def State.alarmTick (tick : List (Nat × Word × Bool)) (s : State) : State :=
  if s.boot.dark then (sortTick tick).foldl (fun t p => t.assertDark p.1 p.2.1 (s.darkMost tick)) s
  else if tick = [] then s
  else s.tickMain tick false

/-- Clock C3 is outside its limits from the assertions of a tick on (14 R414). -/
def State.c3Tick (tick : List (Nat × Word × Bool)) (s : State) : State := tick.foldl (fun t p => t.c3Set p.1 true) s

/-- An alarm source asserted by the device itself. -/
def State.raise (src : Nat) (detail : Word) (s : State) : State :=
  s.alarmTick [(src, detail, false)]

/-- A source is no longer asserted. -/
def State.deassert (src : Nat) (s : State) : State :=
  (s.withAlarm fun a => { a with asserted := setBit a.asserted src false }).c3Set src false

end Sys2Proof.Machine
end

