-- ==== Sys2Proof/Machine/Mailbox.lean ====
section
/-! DEFINITION. Meanings of the mailboxes' commands (03 R86-R101). -/

namespace Sys2Proof.Machine

/-- The key of a mailbox in `Mbx.box`. -/
def mbxKey : MbxId → Nat
  | .cmd f => f.val
  | .evt f => 64 + f.val
  | .internal i => 128 + i.val

def Mbx.get (m : Mbx) (k : Nat) : Mailbox := Bank.get {} m.box k
def Mbx.route (m : Mbx) (f : Nat) : HRoute := Bank.get {} m.hroute f
def Mbx.iroutes (m : Mbx) (i : Nat) : IRoute := Bank.get {} m.iroute i
def Mbx.updPage (m : Mbx) (f : Nat) (g : StatusPage → StatusPage) : Mbx := { m with page := Bank.upd {} f g m.page }

/-- The mailbox signals (R95). -/
def Mailbox.signals (b : Mailbox) : Bool := decide (b.dbell &&& ~~~b.dbmask ≠ 0)

/-- Change a mailbox; an EVT mailbox whose condition becomes true sends one MSI-X message on vector 0 (R95). -/
def State.updBox (k : Nat) (g : Mailbox → Mailbox) (s : State) : State :=
  let b := s.mbx.get k
  let s1 := s.withMbx fun m => { m with box := Bank.upd {} k g m.box }
  if 64 ≤ k ∧ k < 128 ∧ b.signals = false ∧ (g b).signals = true then s1.msix (k - 64) 0 else s1

/-- A core's master number 65-69 names a core that is out of reset, not quarantined and not disabled (R93; 17 R489). -/
def coreUp (s : State) (n : BitVec 7) : Bool :=
  decide (65 ≤ n.toNat ∧ n.toNat ≤ 69) && !(Bank.get {} s.cores (n.toNat - 65)).inReset

/-- The receiver side of a mailbox is up (R93). -/
def receiverUp (s : State) : MbxId → Bool
  | .cmd f => decide (s.boot.state = .running) && (s.mbx.route f.val).en
  | .evt f =>
    let p := Bank.get {} s.pcie.fns f.val
    !p.flr && !p.d3hot && p.memEnable
  | .internal i => coreUp s (s.mbx.iroutes i.val).receiver

/-- A sender write of MSG_LO (R90). -/
def Mailbox.writeLo (v : Word) (b : Mailbox) : Mailbox := if b.full then { b with overrun := true } else { b with lo := v }

/-- A sender write of MSG_HI (R90): posts the message, or is refused while the receiver is down. -/
def Mailbox.writeHi (up : Bool) (v : Word) (b : Mailbox) : Mailbox :=
  if b.full then { b with overrun := true }
  else if up then { b with hi := v, full := true, tmo := false, rxdown := false }
  else { b with tmo := true, rxdown := true }

/-- MBX_MSG_LO_WRITE (R88, R90): sender side only. -/
def execMbxMsgLoWrite (m : MbxId) (side : Side) (v : Word) (s : State) : Host.Outcome State Fault Refusal :=
  .next (if side = .sender then s.updBox (mbxKey m) (Mailbox.writeLo v) else s)

/-- MBX_MSG_HI_WRITE (R88, R90): sender side only. -/
def execMbxMsgHiWrite (m : MbxId) (side : Side) (v : Word) (s : State) : Host.Outcome State Fault Refusal :=
  .next (if side = .sender then s.updBox (mbxKey m) (Mailbox.writeHi (receiverUp s m) v) else s)

/-- The message is taken or withdrawn: both registers read 0 (R90). -/
def Mailbox.empty (b : Mailbox) : Mailbox := { b with full := false, lo := 0, hi := 0 }

/-- Firmware's take of a message (R90, R96): of a command notice, firmware clears doorbell bits 1 to 31 with it (log entry
90). -/
def Mailbox.take (m : MbxId) (b : Mailbox) : Mailbox :=
  match m with
  | .cmd _ => { b.empty with dbell := b.dbell &&& 1 }
  | _ => b.empty

/-- MBX_MSG_HI_READ (R90): a receiver read takes the message; a sender read returns it. -/
def execMbxMsgHiRead (m : MbxId) (side : Side) (s : State) : Host.Outcome State Fault Refusal :=
  let b := s.mbx.get (mbxKey m)
  let s1 := s.setRead (if b.full then b.hi else 0)
  .next (if side = .receiver ∧ b.full = true then s1.updBox (mbxKey m) (Mailbox.take m) else s1)

/-- MBX_TIMEOUT (R90, R94): the message is withdrawn; a withdrawn EVT notice is counted. -/
def execMbxTimeout (m : MbxId) (s : State) : Host.Outcome State Fault Refusal :=
  .next (if (s.mbx.get (mbxKey m)).full then
    let s1 := s.updBox (mbxKey m) fun b => { b.empty with tmo := true }
    match m with
    | .evt f => s1.withMbx fun x => x.updPage f.val fun p => { p with evtLost := satAdd p.evtLost 1 }
    | _ => s1
  else s)

/-- MBX_DBELL_WRITE (R88, R95): sender side only. -/
def execMbxDbellWrite (m : MbxId) (side : Side) (v : Word) (s : State) : Host.Outcome State Fault Refusal :=
  .next (if side = .sender then s.updBox (mbxKey m) fun b => { b with dbell := b.dbell ||| v } else s)

/-- MBX_DBCLR_WRITE (R88): receiver side only. -/
def execMbxDbclrWrite (m : MbxId) (side : Side) (v : Word) (s : State) : Host.Outcome State Fault Refusal :=
  .next (if side = .receiver then s.updBox (mbxKey m) fun b => { b with dbell := b.dbell &&& ~~~v } else s)

/-- The number by which requester `r` is known: functions 1-64, cores 65-68, the Cobbler 69 (R98). -/
def requesterNo (r : Fin 70) : BitVec 7 := BitVec.ofNat 7 r.val

/-- MBX_LOCK_READ (R98): a read of a free lock returns 0 and acquires it; otherwise it returns the owner's number. -/
def execMbxLockRead (m : MbxId) (requester : Fin 70) (s : State) : Host.Outcome State Fault Refusal :=
  let b := s.mbx.get (mbxKey m)
  let s1 := s.setRead (b.lock.setWidth 32)
  .next (if b.lock = 0 then s1.updBox (mbxKey m) fun b => { b with lock := requesterNo requester } else s1)

/-- MBX_LOCK_WRITE (R98): the owner's write of its own number frees the lock; any other write is ignored. -/
def execMbxLockWrite (m : MbxId) (requester : Fin 70) (v : Word) (s : State) : Host.Outcome State Fault Refusal :=
  let b := s.mbx.get (mbxKey m)
  .next (if b.lock = requesterNo requester ∧ b.lock ≠ 0 ∧ v.toNat % 128 = b.lock.toNat then
    s.updBox (mbxKey m) fun b => { b with lock := 0 }
  else s)

/-- MBX_HROUTE_WRITE (R99, R101, R96): machine level only; firmware unmasks CMD bit 0 when it sets EN. -/
def execMbxHrouteWrite (f : Fin 64) (level : Level) (v : Word) (s : State) : Host.Outcome State Fault Refusal :=
  .next (if level = .machine then
    let s1 := s.withMbx fun m => { m with hroute := Bank.set {} f.val { core := v.setWidth 2, en := v.getLsbD 8 } m.hroute }
    if v.getLsbD 8 then s1.updBox f.val fun b => { b with dbmask := setBit b.dbmask 0 false } else s1
  else s)

/-- Free every lock that requester `n` owns (R79, R98). -/
def Mbx.releaseLocks (n : BitVec 7) (m : Mbx) : Mbx :=
  { m with box := (List.range 144).foldl (fun b k =>
      Bank.upd {} k (fun x => if x.lock = n then { x with lock := 0 } else x) b) m.box }

/-- The mailbox block after a function-level reset of `f` (R79): locks released, both mailboxes at reset values with CMD
bit 0 unmasked while EN is 1, and the status-page counters cleared. -/
def Mbx.resetFn (f : Nat) (m : Mbx) : Mbx :=
  let m1 := m.releaseLocks (BitVec.ofNat 7 (f + 1))
  let cmd : Mailbox := if (m.route f).en then { dbmask := 0xFFFFFFFE } else {}
  { m1 with
    box := Bank.set {} (64 + f) {} (Bank.set {} f cmd m1.box)
    page := Bank.upd {} f (fun p => { p with dbDrop := 0, badAcc := 0, evtLost := 0 }) m1.page }

/-- Firmware changes every status page and rings EVT doorbell bit 1 (R86, R96). -/
def State.statusPages (g : StatusPage → StatusPage) (s : State) : State :=
  (List.range 64).foldl (fun t f =>
    (t.withMbx fun m => m.updPage f g).updBox (64 + f) fun b => { b with dbell := b.dbell ||| 2 }) s

/-- The two-bit code of a phase (02 R51). -/
def phaseCode : Phase → BitVec 2
  | .start => 0
  | .recovery => 1
  | .service => 2
  | .test => 3

/-- A change of phase, shown on the status pages (02 R59; R86). -/
def State.setPhase (p : Phase) (s : State) : State :=
  (s.withBoot fun b => { b with phase := p }).statusPages fun x => { x with phase := phaseCode p }

end Sys2Proof.Machine
end

