-- ==== Sys2Proof/Machine/CoreOps.lean ====
section
/-! DEFINITION. Shared operations of the Awl cores and the MPUs (18, 19; 17 R489): the status word, release, holding in
reset, interrupt lines, and the check of an access by an MPU. -/

namespace Sys2Proof.Machine

def State.core (s : State) (c : Nat) : Core := Bank.get {} s.cores c
def State.updCore (c : Nat) (g : Core → Core) (s : State) : State := s.withCores (Bank.upd {} c g)
def State.mpu (s : State) (m : Nat) : Mpu := Bank.get {} s.mpus m
def State.updMpu (m : Nat) (g : Mpu → Mpu) (s : State) : State := s.withMpus (Bank.upd {} m g)

/-- The core fetches and runs instructions (R523, R527, R539). -/
def Core.runs (k : Core) : Bool := !k.inReset && !k.halted && !k.waiting

/-! ### The status word (18 R499) -/

abbrev stZ := 0
abbrev stN := 1
abbrev stC := 2
abbrev stV := 3
abbrev stSV := 4
abbrev stSAT := 5
abbrev stFRAC := 6

def Core.flag (k : Core) (i : Nat) : Bool := k.st.getLsbD i
def Core.rnd (k : Core) : Nat := k.st.toNat / 128 % 4
def Core.ipl (k : Core) : Nat := k.st.toNat / 512 % 8
def Core.pl (k : Core) : Nat := k.st.toNat / 4096 % 4

/-- Bits `lo … lo + n - 1` of a word replaced by `v`. -/
def setField (w : Word) (lo n v : Nat) : Word :=
  (w &&& ~~~(BitVec.ofNat 32 ((2 ^ n - 1) * 2 ^ lo))) ||| BitVec.ofNat 32 (v % 2 ^ n * 2 ^ lo)

def Core.setPl (v : Nat) (k : Core) : Core := { k with st := setField k.st 12 2 v }
def Core.setIpl (v : Nat) (k : Core) : Core := { k with st := setField k.st 9 3 v }
def Core.setFlag (i : Nat) (b : Bool) (k : Core) : Core := { k with st := setBit k.st i b }

/-- ST as software reads it: RSV at bit 14 (R499, R517). -/
def Core.stWord (k : Core) : Word := setBit k.st 14 k.resv.isSome

/-- The level of a value of ST.PL (R528). -/
def plOf : Level → Nat
  | .user => 0
  | .supervisor => 1
  | .machine => 3

/-- The level the core runs at.  The value 0b10 never occurs (R499). -/
def Core.level (k : Core) : Level := if k.pl = 0 then .user else if k.pl = 1 then .supervisor else .machine

/-- The stack pointer of a level, and its window (R499, R536). -/
def Core.sp (k : Core) : Level → Word
  | .user => k.spU
  | .supervisor => k.spS
  | .machine => k.spM
def Core.setSp (l : Level) (v : Word) (k : Core) : Core :=
  match l with
  | .user => { k with spU := v }
  | .supervisor => { k with spS := v }
  | .machine => { k with spM := v }
def Core.stkLo (k : Core) : Level → Nat
  | .user => k.stkLoU.toNat
  | .supervisor => k.stkLoS.toNat
  | .machine => k.stkLoM.toNat
def Core.stkHi (k : Core) : Level → Nat
  | .user => k.stkHiU.toNat
  | .supervisor => k.stkHiS.toNat
  | .machine => k.stkHiM.toNat

/-- The double-fault stack counts as part of the machine window while the latch is set (R537). -/
def Core.inDoubleStack (k : Core) (l : Level) (a n : Nat) : Bool :=
  decide (l = .machine) && k.dfault && decide (0x9FF00 ≤ a ∧ a + n ≤ 0xA0000)

/-- The access [a, a + n) lies in the stack window of the level (R506, R536). -/
def Core.inWindow (k : Core) (l : Level) (a n : Nat) : Bool :=
  decide (k.stkLo l ≤ a ∧ a + n ≤ k.stkHi l) || k.inDoubleStack l a n

/-! ### Release and hold (18 R499; 19 R535; 17 R489) -/

/-- The seal key of a release (R535); the device root key is in slot 0. -/
def sealKeyOf (drk : List Byte) (c : Nat) (epoch : Word) (count : Half) : List Byte :=
  kmac256 drk (ascii "CX-SEAL" ++ [BitVec.ofNat 8 c] ++ leBytes 4 epoch.toNat ++ leBytes 2 count.toNat) (ascii "UM7840") 16

/-- The registers of a core as it is released at vector slot 0 (R499, R530): it fetches from its instruction TCM `code` as that stands;
its decode table and its history of restarts stay (R555; 17 R490). -/
def Core.release (c : Nat) (drk : List Byte) (epoch : Word) (nmi : Bool) (code : Bank Byte) (k : Core) : Core :=
  { inReset := false, quar := k.quar, nmi := nmi, releases := k.releases + 1, code := code,
    sealKey := sealKeyOf drk c epoch (k.releases + 1), restarts := k.restarts, table := k.table, decode := k.table }

/-- Release core `c`: its MPU takes its reset values too (R548, R554). -/
def State.releaseCore (c : Nat) (nmi : Bool) (s : State) : State :=
  let drk := ((s.keys.present 0).map KeyRun.material).getD []
  (s.updCore c (Core.release c drk s.boot.epoch nmi (Bank.get [] s.mem.itcm c))).withMpus (Bank.set {} c {})

/-- Core `c` is enabled in the unit map (17 R487): custody core 0 and the Cobbler cannot be disabled. -/
def State.coreOn (s : State) (c : Nat) : Bool := decide (c = 0 ∨ 4 ≤ c) || s.cob.unitEn.getLsbD (23 + c)

/-! ### Device addresses (01 R31, R33) -/

/-- What an address of the device map reaches. -/
inductive Area where
  | rom | table | itcm | dtcm | sram | staging | regs | cobbler | outbound | none
  deriving DecidableEq, Repr

/-- The range of R31 that holds [a, a + n). -/
def areaOf (a n : Nat) : Area :=
  if a + n ≤ 0x20000 then .rom
  else if 0x30000 ≤ a ∧ a + n ≤ 0x32000 then .table
  else if 0x40000 ≤ a ∧ a + n ≤ 0x80000 then .itcm
  else if 0x80000 ≤ a ∧ a + n ≤ 0xA0000 then .dtcm
  else if 0x10000000 ≤ a ∧ a + n ≤ 0x10800000 then .sram
  else if 0x11000000 ≤ a ∧ a + n ≤ 0x11400000 then .staging
  else if 0x20000000 ≤ a ∧ a + n ≤ 0x2F000000 then .regs
  else if 0x2F000000 ≤ a ∧ a + n ≤ 0x30000000 then .cobbler
  else if 0x40000000 ≤ a ∧ a + n ≤ 0x80000000 then .outbound
  else .none

/-! ### The check of an access (19 R528, R529, R546, R547) -/

/-- A region's bits of MPU_PERM. -/
def permBit (lv : Level) (kind : BitVec 2) : Nat := (if lv = .user then 4 else 1) + kind.toNat

/-- Region `r` matches: it is enabled and the whole access lies within it (R546). -/
def MpuSet.hits (x : MpuSet) (a n r : Nat) : Bool :=
  (Bank.get 0 x.perm r).getLsbD 0
    && decide ((Bank.get 0 x.base r).toNat ≤ a ∧ a + n ≤ ((Bank.get 0 x.last r).toNat / 256 + 1) * 256)

/-- The deciding region: the highest-numbered one that matches. -/
def MpuSet.region (x : MpuSet) (a n : Nat) : Option Nat := ((List.range 16).filter (x.hits a n)).getLast?

/-- The machine map of R529, for a core; `cob` is true on the Cobbler. -/
def machineMap (cob : Bool) (ar : Area) (kind : BitVec 2) : Bool :=
  match ar with
  | .rom => decide (kind = 0 ∨ kind = 2)
  | .itcm => true
  | .table | .dtcm | .sram | .staging | .regs | .outbound => decide (kind ≠ 2)
  | .cobbler => cob && decide (kind ≠ 2)
  | .none => false

/-- The supervisor default map of R529. -/
def supervisorMap (cob : Bool) (ar : Area) (kind : BitVec 2) : Bool :=
  match ar with
  | .itcm => decide (kind ≠ 1)
  | .dtcm | .sram | .staging | .regs | .outbound => decide (kind ≠ 2)
  | .cobbler => cob && decide (kind ≠ 2)
  | .rom | .table | .none => false

/-- The default of a DMA master (R547). -/
def dmaDefault (m : Nat) (ar : Area) (kind : BitVec 2) : Bool :=
  if m = 5 then decide (ar = .staging)
  else if m = 12 then decide (ar = .staging ∧ kind = 0)
  else decide (ar = .sram)

/-- How an access is refused: the deciding region, if one matched, and whether the address lies outside R31. -/
structure Refused where
  region : Option Nat
  outside : Bool
  deriving DecidableEq, Repr

/-- The check of a core's access under the settings `x` (R528, R529, R546): none where it is allowed.  `used` is false for
an unused offset in a register block (R33). -/
def coreCheck (cob : Bool) (x : MpuSet) (lv : Level) (used : Bool) (acc : Access) : Option Refused :=
  let ar := areaOf acc.addr acc.size
  let r := x.region acc.addr acc.size
  if ar = .none || (decide (ar = .regs) && !used) || (decide (ar = .cobbler) && (!cob || !used))
      || (decide (ar = .table) && cob) then
    some { region := none, outside := true }
  else if acc.kind = 2 ∧ ar ≠ .itcm ∧ ar ≠ .rom then some { region := r, outside := false }
  else match lv with
    | .machine => if machineMap cob ar acc.kind then none else some { region := none, outside := false }
    | _ =>
      if ar = .rom ∨ ar = .table then some { region := r, outside := false }
      else match r with
        | some n =>
          if (Bank.get 0 x.perm n).getLsbD (permBit lv acc.kind) then none else some { region := r, outside := false }
        | none =>
          if lv = .supervisor ∧ supervisorMap cob ar acc.kind = true then none else some { region := none, outside := false }

/-- Addresses that no DMA master reaches (01 R32, R33): outside every range of R31, the memories of a core, the Cobbler window,
and what `used` says is an unused offset of a register block. -/
def dmaOutside (used : Bool) : Area → Bool
  | .none | .table | .itcm | .dtcm | .cobbler => true
  | .regs => !used
  | .rom | .sram | .staging | .outbound => false

/-- The check of a DMA master's access (01 R33; R547): an address no master reaches, the boot ROM, which is for machine level
only, supervisor permission bits, then the master's default. -/
def dmaCheck (m : Nat) (x : MpuSet) (used : Bool) (acc : Access) : Option Refused :=
  let ar := areaOf acc.addr acc.size
  let r := x.region acc.addr acc.size
  if dmaOutside used ar then some { region := none, outside := true }
  else if ar = .rom then some { region := r, outside := false }
  else match r with
    | some n =>
      if (Bank.get 0 x.perm n).getLsbD (permBit .supervisor acc.kind) then none else some { region := some n, outside := false }
    | none => if dmaDefault m ar acc.kind then none else some { region := none, outside := false }

/-- Record a fault (R550).  The deciding region where none decided is a free value `f` (log entry 4). -/
def Mpu.record (acc : Access) (pl : Nat) (r : Refused) (f : BitVec 4) (u : Mpu) : Mpu :=
  { u with fault := true, kind := acc.kind, level := BitVec.ofNat 2 pl,
           region := match r.region with | some n => BitVec.ofNat 4 n | none => f
           noRegion := r.region.isNone, outside := r.outside, count := satAdd u.count 1,
           faddr := BitVec.ofNat 32 acc.addr }

/-- A DMA master's access is refused: the record, and the master stops at the beat (19 R550, R551). -/
def State.dmaFault (m : Nat) (acc : Access) (r : Refused) (s : State) : State :=
  s.draw 1 fun b t => t.updMpu m fun u => { u.record acc 1 r (BitVec.ofNat 4 (ofLe b)) with stopped := some acc }

/-- The first beat of a transfer of `n` bytes at `a` that the MPU of DMA master `m` refuses.  A beat is 8 bytes, the last one shorter
(DESIGN CHOICE, log entry 113). -/
def State.dmaRefused (s : State) (m : Nat) (write : Bool) (a n : Nat) : Option (Access × Refused) :=
  (List.range ((n + 7) / 8)).findSome? fun i =>
    let acc : Access := { addr := a + 8 * i, size := min 8 (n - 8 * i), kind := if write then 1 else 0 }
    (dmaCheck m (s.mpu m).rules true acc).map fun r => (acc, r)

/-! ### Interrupt lines (19 R543) -/

/-- Line 2 of core `c` (13 R393): a code-1 source, or one handed over pending with code 1 (02 R46), is pending and enabled,
and the route names the core. -/
def alarmLine (s : State) (c : Nat) : Bool :=
  decide (s.alarm.route.toNat = c) && (List.range 57).any fun src =>
    (s.alarm.pend &&& s.alarm.ien).getLsbD src && (decide (effCode (s.alarm.code src) = 1) || s.alarm.handed.getLsbD src)

/-- Line `n` of core `c` is asserted now. -/
def lineUp (s : State) (c n : Nat) : Bool :=
  match n with
  | 0 => decide (c < 4) && (List.range 64).any fun f =>
      decide ((s.mbx.route f).core.toNat = c) && (s.mbx.get f).signals
  | 1 => (List.range 16).any fun i =>
      decide ((s.mbx.iroutes i).receiver.toNat = 65 + c) && (s.mbx.get (128 + i)).signals
  | 2 => alarmLine s c
  | 3 => decide (c < 4) && (List.range 8).any fun i => (s.mpu (5 + i)).fault
  | 4 | 5 | 6 | 7 =>
    let e := Bank.get {} s.pke (n - 4)
    e.irqEn && e.irqPend && decide (e.irqDest.toNat = c)
  | 8 => let x := Bank.get {} s.dig.chans c; x.irqEn && x.irqPend
  | 9 => s.cls.irqEn && s.cls.irqPend && decide (s.cls.irqDest.toNat = c)
  | 10 => (List.range 4).any fun p =>
      let x := Bank.get {} s.cards.sd p; x.irqEn && x.irqPend && decide (x.irqDest.toNat = c)
  | 11 => (List.range 2).any fun p =>
      let x := Bank.get {} s.cards.icc p; x.irqEn && x.irqPend && decide (x.irqDest.toNat = c)
  | _ => false

/-- IPEND (R543). -/
def ipend (s : State) (c : Nat) : Word :=
  (List.range 16).foldl (fun (w : Word) n => setBit w n (lineUp s c n)) 0

/-- The level of a line; 0 behaves as 1 (R543). -/
def Core.lineLevel (k : Core) (n : Nat) : Nat :=
  let w := if n < 8 then k.ilvlLo else k.ilvlHi
  let l := w.toNat / 2 ^ (4 * (n % 8)) % 8
  if l = 0 then 1 else l

/-- The enabled line of highest level above IPL; at equal levels the lower number (R532). -/
def bestLine (s : State) (c : Nat) : Option Nat :=
  let k := s.core c
  let up := (List.range 16).filter fun n => k.ien.getLsbD n && lineUp s c n && decide (k.ipl < k.lineLevel n)
  up.foldl (fun (b : Option Nat) n =>
    match b with
    | none => some n
    | some m => if k.lineLevel m < k.lineLevel n then some n else b) none

end Sys2Proof.Machine
end

