-- ==== Sys2Proof/Machine/Curve.lean ====
section
/-! DEFINITION. The arithmetic of the public-key engines (10 R318-R328): RSA, ECDSA and ECDH on the NIST curves (FIPS 186-5, SP
800-186), Ed25519 (RFC 8032) and X25519 (RFC 7748), on numbers.  Big integers and coordinates are little-endian (10 R317). -/

namespace Sys2Proof.Machine

/-! ### Modular arithmetic -/

/-- `b ^ e mod m`, the bits of the exponent from the highest. -/
def powMod (m b e : Nat) : Nat :=
  (List.range (e.log2 + 1)).foldr (fun i r => if e.testBit i then r * r % m * b % m else r * r % m) (1 % m)

/-- The inverse modulo a prime. -/
def invMod (p a : Nat) : Nat := powMod p (a % p) (p - 2)

def subMod (p a b : Nat) : Nat := (a % p + (p - b % p)) % p

/-- The modulus length in bits: the least `n` with `m < 2 ^ n`. -/
def bitLen (m : Nat) : Nat := if m = 0 then 0 else m.log2 + 1

/-! ### RSA (material: n ‖ e ‖ p ‖ q ‖ dp ‖ dq ‖ qinv; 05 R162) -/

/-- A private key of `k` modulus bytes, or the public n and e. -/
structure RsaKey where
  n : Nat
  e : Nat
  p : Nat := 0
  q : Nat := 0
  dp : Nat := 0
  dq : Nat := 0
  qinv : Nat := 0

def rsaKey (k : Nat) (m : List Byte) : RsaKey :=
  let at' (o n : Nat) := ofLe (sliceBytes m o n)
  let h := k / 2
  { n := at' 0 k, e := at' k 4, p := at' (k + 4) h, q := at' (k + 4 + h) h, dp := at' (k + 4 + 2 * h) h,
    dq := at' (k + 4 + 3 * h) h, qinv := at' (k + 4 + 4 * h) h }

/-- x^d mod n by the two prime factors (R323). -/
def RsaKey.priv (r : RsaKey) (x : Nat) : Nat :=
  let m1 := powMod r.p x r.dp
  let m2 := powMod r.q x r.dq
  m2 + r.qinv * subMod r.p m1 m2 % r.p * r.q

/-- CHECK_KEY on an RSA key (R321).  The value that must survive is 2 (DESIGN CHOICE, log entry 112). -/
def RsaKey.sound (r : RsaKey) : Bool :=
  decide (r.n = r.p * r.q ∧ 1 < r.p ∧ 1 < r.q ∧ r.e * r.dp % (r.p - 1) = 1 % (r.p - 1) ∧ r.e * r.dq % (r.q - 1) = 1 % (r.q - 1)
    ∧ r.q * r.qinv % r.p = 1)
    && decide (powMod r.n (r.priv 2) r.e = 2)

/-! ### The NIST prime curves: y² = x³ - 3x + b -/

structure Curve where
  p : Nat
  b : Nat
  n : Nat
  gx : Nat
  gy : Nat
  /-- Field length in bytes. -/
  f : Nat

def p256 : Curve :=
  { p := 0xFFFFFFFF00000001000000000000000000000000FFFFFFFFFFFFFFFFFFFFFFFF
    b := 0x5AC635D8AA3A93E7B3EBBD55769886BC651D06B0CC53B0F63BCE3C3E27D2604B
    n := 0xFFFFFFFF00000000FFFFFFFFFFFFFFFFBCE6FAADA7179E84F3B9CAC2FC632551
    gx := 0x6B17D1F2E12C4247F8BCE6E563A440F277037D812DEB33A0F4A13945D898C296
    gy := 0x4FE342E2FE1A7F9B8EE7EB4A7C0F9E162BCE33576B315ECECBB6406837BF51F5
    f := 32 }

def p384 : Curve :=
  { p := 0xFFFFFFFFFFFFFFFFFFFFFFFFFFFFFFFFFFFFFFFFFFFFFFFFFFFFFFFFFFFFFFFEFFFFFFFF0000000000000000FFFFFFFF
    b := 0xB3312FA7E23EE7E4988E056BE3F82D19181D9C6EFE8141120314088F5013875AC656398D8A2ED19D2A85C8EDD3EC2AEF
    n := 0xFFFFFFFFFFFFFFFFFFFFFFFFFFFFFFFFFFFFFFFFFFFFFFFFC7634D81F4372DDF581A0DB248B0A77AECEC196ACCC52973
    gx := 0xAA87CA22BE8B05378EB1C71EF320AD746E1D3B628BA79B9859F741E082542A385502F25DBF55296C3A545E3872760AB7
    gy := 0x3617DE4A96262C6F5D9E98BF9292DC29F8F41DBD289A147CE9DA3113B5F0B8C00A60B1CE1D7E819D7A431D7C90EA0E5F
    f := 48 }

def p521 : Curve :=
  { p := 2 ^ 521 - 1
    b := 0x0051953EB9618E1C9A1F929A21A0B68540EEA2DA725B99B315F3B8B489918EF109E156193951EC7E937B1652C0BD3BB1BF073573DF883D2C34F1EF451FD46B503F00
    n := 0x01FFFFFFFFFFFFFFFFFFFFFFFFFFFFFFFFFFFFFFFFFFFFFFFFFFFFFFFFFFFFFFFFFA51868783BF2F966B7FCC0148F709A5D03BB5C9B8899C47AEBB6FB71E91386409
    gx := 0x00C6858E06B70404E9CD9E3ECB662395B4429C648139053FB521F828AF606B4D3DBAA14B5E77EFE75928FE1DC127A2FFA8DE3348B3C1856A429BF97E7E31C2E5BD66
    gy := 0x011839296A789A3BC0045C8A5FB42C7D1BD998F54449579B446817AFBD17273E662C97EE72995EF42640C550B9013FAD0761353C7086A272C24088BE94769FD16650
    f := 66 }

/-- The curve of a parameter set (R318). -/
def curveOf (set : Nat) : Curve := if set = 0 then p256 else if set = 1 then p384 else p521

/-- A point, or none at infinity. -/
abbrev Point := Option (Nat × Nat)

def Curve.onCurve (c : Curve) (x y : Nat) : Bool := decide (y * y % c.p = (x * x * x + (c.p - 3) * x + c.b) % c.p)

def Curve.add (c : Curve) (a b : Point) : Point :=
  match a, b with
  | none, q => q
  | q, none => q
  | some (x1, y1), some (x2, y2) =>
    let go (l : Nat) : Point :=
      let x := subMod c.p (subMod c.p (l * l) x1) x2
      some (x, subMod c.p (l * subMod c.p x1 x % c.p) y1)
    if x1 = x2 then
      if (y1 + y2) % c.p = 0 then none
      else go ((3 * x1 * x1 + (c.p - 3)) * invMod c.p (2 * y1) % c.p)
    else go (subMod c.p y2 y1 * invMod c.p (subMod c.p x2 x1) % c.p)

/-- `k` times a point. -/
def Curve.mul (c : Curve) (k : Nat) (q : Point) : Point :=
  (List.range (bitLen k)).foldr (fun i r => let d := c.add r r; if k.testBit i then c.add d q else d) none

def Curve.g (c : Curve) : Point := some (c.gx, c.gy)

/-- X ‖ Y; infinity is encoded as zeros (R328 code 0x0203). -/
def Curve.bytes (c : Curve) (q : Point) : List Byte :=
  match q with
  | none => List.replicate (2 * c.f) 0
  | some (x, y) => leBytes c.f x ++ leBytes c.f y

def Curve.pointOf (c : Curve) (b : List Byte) : Nat × Nat := (ofLe (sliceBytes b 0 c.f), ofLe (sliceBytes b c.f c.f))

/-- The private key d ‖ X ‖ Y of a scalar (05 R162). -/
def Curve.privateKey (c : Curve) (d : Nat) : List Byte := leBytes c.f d ++ c.bytes (c.mul d c.g)

/-- The scalar of `bitLen n + 64` random bits (R322; 05 R156). -/
def Curve.scalar (c : Curve) (r : List Byte) : Nat := ofLe r % 2 ^ (bitLen c.n + 64) % (c.n - 1) + 1

/-- Bytes that hold `bitLen n + 64` bits. -/
def Curve.scalarLen (c : Curve) : Nat := (bitLen c.n + 64 + 7) / 8

/-- The signature r ‖ s of the representative `e` with nonce `k`. -/
def Curve.sign (c : Curve) (d k e : Nat) : List Byte :=
  let r := ((c.mul k c.g).getD (0, 0)).1 % c.n
  leBytes c.f r ++ leBytes c.f (invMod c.n k * (e + r * d) % c.n)

/-- Whether (r, s) signs the representative `e`. -/
def Curve.verify (c : Curve) (x y e r s : Nat) : Bool :=
  let w := invMod c.n s
  match c.add (c.mul (e * w % c.n) c.g) (c.mul (r * w % c.n) (some (x, y))) with
  | none => false
  | some (x1, _) => decide (x1 % c.n = r)

/-- The representative of a digest: its leftmost bits, as many as the order has (R318, FIPS 186-5). -/
def Curve.representative (c : Curve) (digest : List Byte) : Nat :=
  let n := 8 * digest.length
  if bitLen c.n < n then ofBe digest / 2 ^ (n - bitLen c.n) else ofBe digest

/-- The representative of a digest as an engine takes it: f bytes, little-endian. -/
def Curve.eBytes (c : Curve) (digest : List Byte) : List Byte := leBytes c.f (c.representative digest)

/-- The first failed check of a point: codes 0x0201 to 0x0204 (R328). -/
def Curve.pointFail (c : Curve) (x y : Nat) : Option Half :=
  firstFail [
    (decide (c.p ≤ x), 0x0201),
    (decide (c.p ≤ y), 0x0202),
    (decide (x = 0 ∧ y = 0), 0x0203),
    (!c.onCurve x y, 0x0204)]

/-- An ECDSA P-384 signature r ‖ s of a message's SHA-384, under the public key X ‖ Y (02 R55). -/
def verifyP384 (pub msg sig : List Byte) : Bool :=
  let q := p384.pointOf pub
  let r := ofLe (sliceBytes sig 0 48)
  let s := ofLe (sliceBytes sig 48 48)
  (p384.pointFail q.1 q.2).isNone && decide (0 < r ∧ r < p384.n ∧ 0 < s ∧ s < p384.n)
    && p384.verify q.1 q.2 (p384.representative (sha384 msg)) r s

/-- CHECK_KEY on an EC private key (R321). -/
def Curve.keyOk (c : Curve) (m : List Byte) : Bool :=
  let d := ofLe (sliceBytes m 0 c.f)
  decide (1 ≤ d ∧ d < c.n) && decide (sliceBytes m c.f (2 * c.f) = c.bytes (c.mul d c.g))

/-! ### Curve25519 -/

def p25519 : Nat := 2 ^ 255 - 19
/-- The order of the base point. -/
def l25519 : Nat := 2 ^ 252 + 27742317777372353535851937790883648493
def edD : Nat := 37095705934669439343138083508754565189542113879843219016388785533085940283555
def edBase : Nat × Nat :=
  (15112221349535400772501151409588531511454012693041857206046113283949847762202,
   46316835694926478169428394003475163141307993866256225615783033603165251855960)

def edAdd (a b : Nat × Nat) : Nat × Nat :=
  let p := p25519
  let t := edD * a.1 % p * b.1 % p * a.2 % p * b.2 % p
  ((a.1 * b.2 + b.1 * a.2) % p * invMod p (1 + t) % p, (a.2 * b.2 + a.1 * b.1) % p * invMod p (subMod p 1 t) % p)

def edMul (k : Nat) (q : Nat × Nat) : Nat × Nat :=
  (List.range (bitLen k)).foldr (fun i r => let d := edAdd r r; if k.testBit i then edAdd d q else d) (0, 1)

/-- The 32 bytes of a point: y, and the parity of x in the top bit. -/
def edBytes (q : Nat × Nat) : List Byte := leBytes 32 (q.2 + q.1 % 2 * 2 ^ 255)

/-- A root of x² = (y² - 1) / (d y² + 1), where there is one. -/
def edRoot (y : Nat) : Option Nat :=
  let p := p25519
  let x2 := subMod p (y * y) 1 * invMod p (edD * y % p * y + 1) % p
  let x := powMod p x2 ((p + 3) / 8)
  let x' := if x * x % p = x2 then x else x * powMod p 2 ((p - 1) / 4) % p
  if x' * x' % p = x2 then some x' else none

/-- Why an encoded point fails to decode, as the three codes name it: y ≥ p, no x, x = 0 with the sign bit; or the point. -/
def edDecode (b : List Byte) : Except Nat (Nat × Nat) :=
  let v := ofLe (padTo 32 b)
  let y := v % 2 ^ 255
  let sign := v / 2 ^ 255
  if p25519 ≤ y then .error 0
  else match edRoot y with
    | none => .error 1
    | some x =>
      if x = 0 ∧ sign = 1 then .error 2
      else .ok (if x % 2 = sign then x else p25519 - x, y)

/-- The secret scalar of a seed, and the prefix of its nonces (RFC 8032). -/
def edSecret (seed : List Byte) : Nat × List Byte :=
  let h := sha512 seed
  let a := ofLe (h.take 32)
  (a % 2 ^ 254 / 8 * 8 + 2 ^ 254, h.drop 32)

/-- The public key of a seed. -/
def edPublic (seed : List Byte) : List Byte := edBytes (edMul (edSecret seed).1 edBase)

/-- The signature R ‖ S of a message. -/
def edSign (seed pub msg : List Byte) : List Byte :=
  let k := edSecret seed
  let r := ofLe (sha512 (k.2 ++ msg)) % l25519
  let rb := edBytes (edMul r edBase)
  let h := ofLe (sha512 (rb ++ pub ++ msg)) % l25519
  rb ++ leBytes 32 ((r + h * k.1) % l25519)

/-- The verification equation of RFC 8032 with the cofactor 8 (DESIGN CHOICE between its two forms, log entry 110). -/
def edVerify (pub rb msg : List Byte) (a r : Nat × Nat) (s : Nat) : Bool :=
  let h := ofLe (sha512 (rb ++ pub ++ msg)) % l25519
  decide (edMul 8 (edMul s edBase) = edMul 8 (edAdd r (edMul h a)))

/-- One step of the ladder of RFC 7748: (x2, z2, x3, z3) for a bit of the scalar. -/
def ladderStep (x1 : Nat) (bit : Bool) (v : Nat × Nat × Nat × Nat) : Nat × Nat × Nat × Nat :=
  let p := p25519
  let (x2, z2, x3, z3) := if bit then (v.2.2.1, v.2.2.2, v.1, v.2.1) else v
  let a := (x2 + z2) % p
  let aa := a * a % p
  let b := subMod p x2 z2
  let bb := b * b % p
  let e := subMod p aa bb
  let da := subMod p x3 z3 * a % p
  let cb := (x3 + z3) % p * b % p
  let x5 := (da + cb) % p * ((da + cb) % p) % p
  let z5 := x1 * (subMod p da cb * subMod p da cb % p) % p
  let x4 := aa * bb % p
  let z4 := e * ((aa + 121665 * e) % p) % p
  if bit then (x5, z5, x4, z4) else (x4, z4, x5, z5)

/-- X25519 of a scalar and a u-coordinate, both 32 bytes; the top bit of u is masked (R326, RFC 7748). -/
def x25519 (k u : List Byte) : List Byte :=
  let n := ofLe (padTo 32 k) % 2 ^ 254 / 8 * 8 + 2 ^ 254
  let x1 := ofLe (padTo 32 u) % 2 ^ 255 % p25519
  let v := (List.range 255).foldr (fun i v => ladderStep x1 (n.testBit i) v) (1, 0, x1, 1)
  leBytes 32 (v.1 * invMod p25519 v.2.1 % p25519)

/-- The public key of an X25519 private key. -/
def x25519Public (k : List Byte) : List Byte := x25519 k (leBytes 32 9)

/-! ### ML-KEM: the modulus check on an encapsulation key (FIPS 203) -/

/-- Every 12-bit coefficient of the first 384 × k bytes lies below 3,329. -/
def kemModulusOk (k : Nat) (ek : List Byte) : Bool :=
  (List.range (128 * k)).all fun i =>
    let v := ofLe (sliceBytes ek (3 * i) 3)
    decide (v % 4096 < 3329 ∧ v / 4096 < 3329)

end Sys2Proof.Machine
end

