-- ==== Sys2Proof/Machine/Rng.lean ====
section
/-! DEFINITION. The random number block (12): health, reseeds, requests, audit mode and raw samples. -/

namespace Sys2Proof.Machine

/-- The cutoffs of the repetition count test and of the adaptive proportion test for a source (R364). -/
def repetitionCutoff (src : Nat) : Nat := if 8 ≤ src ∧ src ≤ 23 then 81 else 41
def proportionCutoff (src : Nat) : Nat := if 8 ≤ src ∧ src ≤ 23 then 921 else 800

/-- A source fails a health test: `run` identical samples in a row, or `same` samples of a window of 1,024 equal to its first
(R364). -/
def healthFails (src run same : Nat) : Bool := decide (repetitionCutoff src ≤ run ∨ proportionCutoff src ≤ same)

/-- The sources that count as failed: class M has no healthy one after a failed known-answer test (R365, R368). -/
def Rng.bad (r : Rng) : BitVec 28 := if r.katFailM then r.failed ||| 0xF else r.failed

/-- The outcome of the known-answer tests; a failed one is never repeated (R367, R368). -/
def Rng.tests (katM katK : Bool) (r : Rng) : Rng :=
  if r.tested then r else { r with katFailM := !katM, katFailK := !katK }

/-- Healthy sources among `n` from source `lo` (R365). -/
def Rng.okCount (r : Rng) (lo n : Nat) : Nat := n - popRange r.bad lo n

/-- Healthy class K types (R366). -/
def Rng.kTypes (r : Rng) : Nat :=
  bit (decide (2 ≤ r.okCount 4 4)) + bit (decide (8 ≤ r.okCount 8 16)) + bit (decide (2 ≤ r.okCount 24 4))

/-- Class K is available while at least two of its types are healthy (R366), and never after a failed known-answer test (R368). -/
def Rng.kAvail (r : Rng) : Bool := !r.katFailK && decide (2 ≤ r.kTypes)

/-- Class M is available while at least one of sources 0-3 is healthy (R366). -/
def Rng.mAvail (r : Rng) : Bool := decide (1 ≤ r.okCount 0 4)

/-- RNG_SRC_OK: nothing before the start-up tests have ended (R367, R382). -/
def Rng.srcOk (r : Rng) : BitVec 28 := if r.tested then ~~~r.bad else 0

/-- Sources failed beyond retest (R365). -/
def Rng.beyond (r : Rng) (src : Nat) : Bool := decide (16 ≤ Bank.get 0 r.retests src)

def Rng.inst (r : Rng) (i : Nat) : DrbgInst := Bank.get {} r.insts i
def Rng.gen (r : Rng) (c : Nat) : MaskGen := Bank.get {} r.gens c
def Rng.chan (r : Rng) (c : Nat) : RngChan := Bank.get {} r.chans c
def Rng.updInst (r : Rng) (i : Nat) (f : DrbgInst → DrbgInst) : Rng := { r with insts := Bank.upd {} i f r.insts }
def Rng.updGen (r : Rng) (c : Nat) (f : MaskGen → MaskGen) : Rng := { r with gens := Bank.upd {} c f r.gens }
def Rng.updChan (r : Rng) (c : Nat) (f : RngChan → RngChan) : Rng := { r with chans := Bank.upd {} c f r.chans }

/-- Masking generator `c` supplies its core: seeded, not stopped, and not in audit mode (R370, R378). -/
def Rng.genRuns (r : Rng) (c : Nat) : Bool := !r.audit && (r.gen c).seeded && !(r.gen c).stopped

/-- An instance serves a request without FRESH (R372, R374, R376, R378). -/
def Rng.serves (r : Rng) (i : Nat) : Bool :=
  r.ready && !r.audit && (r.inst i).seeded && decide ((r.inst i).count < 2 ^ 20)

/-- A request with FRESH can be served when a class K block is handed to it (R373). -/
def Rng.freshServes (r : Rng) (i : Nat) : Bool := r.ready && !r.audit && r.kAvail && (r.inst i).seeded

/-- One request of an instance, after a reseed when `fresh` (R373). -/
def DrbgInst.request (fresh : Bool) (x : DrbgInst) : DrbgInst :=
  let n := (if fresh then 0 else x.count) + 1
  { x with count := n, due := (!fresh && x.due) || decide (65536 ≤ n) }

/-- A block from the seed buffer, and the buffer without it (R375). -/
def Rng.block (r : Rng) : List Byte := r.buffer.headD []
def Rng.takeBlock (r : Rng) : Rng := { r with buffer := r.buffer.drop 1 }

/-- CTR_DRBG under a 48-byte input: instantiation with its personalisation string, and a reseed (SP 800-90A; R372, R373). -/
def DrbgInst.instantiate (block personal : List Byte) : DrbgInst :=
  let p := drbgUpdate (List.replicate 32 0) (List.replicate 16 0) (xorB block personal)
  { seeded := true, key := p.1, v := p.2 }
def DrbgInst.reseed (block : List Byte) (x : DrbgInst) : DrbgInst :=
  let p := drbgUpdate x.key x.v block
  { x with count := 0, due := false, key := p.1, v := p.2 }

/-- `n` bytes of an instance, and the instance afterwards. -/
def DrbgInst.generate (n : Nat) (x : DrbgInst) : List Byte × DrbgInst :=
  let p := drbgGenerate x.key x.v n
  (p.1, { x with key := p.2.1, v := p.2.2 })

/-- One request of `n` bytes to instance `i`, after a reseed from the next block when `fresh` (R373). -/
def Rng.drawFrom (i : Nat) (fresh : Bool) (n : Nat) (r : Rng) : List Byte × Rng :=
  let r0 := if fresh then r.takeBlock.updInst i (DrbgInst.reseed r.block) else r
  let p := (r0.inst i).generate n
  (p.1, r0.updInst i fun _ => p.2.request fresh)

/-- `n` bytes of instance `i` in requests of at most 16,384 bytes (R373). -/
def Rng.drawMany (i n : Nat) (r : Rng) : List Byte × Rng :=
  (List.range ((n + 16383) / 16384)).foldl (fun (p : List Byte × Rng) k =>
    let q := p.2.drawFrom i false (min 16384 (n - 16384 * k))
    (p.1 ++ q.1, q.2)) ([], r)

/-- Give the bytes of a request to `k`. -/
def State.instDraw (i : Nat) (fresh : Bool) (n : Nat) (k : List Byte → State → State) (s : State) : State :=
  let p := s.rng.drawFrom i fresh n
  k p.1 (s.withRng fun _ => p.2)

/-- A draw of firmware that no command waits for, from the instance of its own core (R371): of core 0, and free bytes where that
instance does not serve (DESIGN CHOICE of both, log entry 134). -/
def State.fwDraw (fresh : Bool) (n : Nat) (k : List Byte → State → State) (s : State) : State :=
  if (if fresh then s.rng.freshServes 0 && decide (s.rng.buffer ≠ []) else s.rng.serves 0) then s.instDraw 0 fresh n k else s.draw n k

/-- The next `n` bytes of masking generator `c`, and the block after them (07 R252; R369). -/
def Rng.mask (c n : Nat) (r : Rng) : List Byte × Rng :=
  let g := r.gen c
  let p := ctrRun (aes g.key) 16 g.ctr (List.replicate (ceilTo 16 n) 0)
  (p.1.take n, r.updGen c fun x => { x with ctr := p.2 })

/-- Serve the request of channel `c`: its words become available (R382). -/
def State.rngServe (c : Nat) (q : RngRequest) (s : State) : State :=
  s.instDraw q.inst q.fresh (4 * q.words) fun bs t =>
    t.withRng fun r => r.updChan c fun x => { x with waiting := none, status := Status.ok, data := wordsOf bs }

/-- End the request of channel `c` without output. -/
def Rng.endRequest (r : Rng) (c : Nat) (st : Half) : Rng :=
  { r.updChan c (fun x => { x with waiting := none, status := st, data := [] }) with
    freshQueue := r.freshQueue.filter fun q => decide (q ≠ .chan c) }

/-- Serve every waiting request without FRESH that its instance now serves, lower channel first. -/
def State.rngServeWaiting (s : State) : State :=
  (List.range 5).foldl (fun t c =>
    match (t.rng.chan c).waiting with
    | some q => if !q.fresh && t.rng.serves q.inst then t.rngServe c q else t
    | none => t) s

/-- Class availability after a change of source health: source 48, K_LOW and the seed buffer (R376), M_DEGRADED (R369). -/
def State.rngHealth (kBefore : Bool) (s : State) : State :=
  let s1 := s.withRng fun r => { r with mDegraded := r.ready && !r.mAvail }
  if !s1.rng.tested then s1
  else if kBefore && !s1.rng.kAvail then
    (s1.withRng fun r => { r with kLow := true, buffer := [] }).raise 48 (BitVec.ofNat 32 s1.rng.kTypes)
  else if !kBefore && s1.rng.kAvail then
    (s1.withRng fun r => { r with kLow := false }).deassert 48
  else s1

/-- A conditioner discards what it has absorbed towards its current block (R363); sources 0-3 are those of class M. -/
def Rng.dropInput (classM : Bool) (r : Rng) : Rng := if classM then { r with condM := {} } else { r with condK := {} }

/-- The samples of 200 ns from the healthy sources of a class, and their claimed entropy in quarters of a bit (R361). -/
def Rng.roundSamples (classM : Bool) (r : Rng) : Nat :=
  if classM then 5 * r.okCount 0 4 else 2 * r.okCount 4 4 + r.okCount 8 16 + 2 * r.okCount 24 4
def Rng.roundClaim (classM : Bool) (r : Rng) : Nat :=
  if classM then 10 * r.okCount 0 4 else 4 * r.okCount 4 4 + r.okCount 8 16 + 4 * r.okCount 24 4

/-- The conditioner of a class. -/
def Rng.cond (classM : Bool) (r : Rng) : Conditioner := if classM then r.condM else r.condK

/-- Absorb samples, up to the 768 bits of a block (R362). -/
def Rng.absorb (classM : Bool) (samples : List Byte) (claim : Nat) (r : Rng) : Rng :=
  let add (c : Conditioner) : Conditioner := if 3072 ≤ c.claimed then c else { input := c.input ++ samples.map (· &&& 1), claimed := c.claimed + claim }
  if classM then { r with condM := add r.condM } else { r with condK := add r.condK }

/-- Samples as bytes, the earliest in bit 0 (DESIGN CHOICE, log entry 129). -/
def packSamples (l : List Byte) : List Byte :=
  (pieces 8 l).map fun p => BitVec.ofNat 8 (p.foldr (fun b n => b.toNat + 2 * n) 0)

/-- The rounds of samples that take a claim of entropy to the 768 bits of a block (R362). -/
def Rng.roundsLeft (classM : Bool) (claimed : Nat) (r : Rng) : Nat :=
  let q := r.roundClaim classM
  if q = 0 then 0 else (3072 - claimed + (q - 1)) / q

/-- The conditioner of a class ends a block: the SHA-384 of the samples absorbed, once they carry 768 bits (R362). -/
def State.condition (classM : Bool) (k : List Byte → State → State) (s : State) : State :=
  let c := s.rng.cond classM
  let n := s.rng.roundsLeft classM c.claimed
  s.draw (n * s.rng.roundSamples classM) fun bs t =>
    k (sha384 (packSamples (c.input ++ bs.map (· &&& 1)))) (t.withRng fun r => r.dropInput classM)

/-- SOURCE_HEALTH_FAIL (R363-R365): `run` and `same` are the counts of the two tests at the sample. -/
def execSourceHealthFail (src : Fin 28) (run same : Nat) (s : State) : Host.Outcome State Fault Refusal :=
  .next (if healthFails src.val run same then
    (((s.withRng fun r =>
      { r.dropInput (decide (src.val < 4)) with
        failed := setBit r.failed src.val true, srcFail := setBit r.srcFail src.val true,
        failures := satAdd r.failures 1 }).eventFree (0x20 + src.val) 6)).rngHealth s.rng.kAvail
  else s)

/-- SOURCE_RETEST_START (R365): a failed source that is not beyond retest. -/
def execSourceRetestStart (src : Fin 28) (s : State) : Host.Outcome State Fault Refusal :=
  .next (if s.rng.failed.getLsbD src.val && !s.rng.beyond src.val then
    s.withRng fun r => { r with retesting := setBit r.retesting src.val true }
  else s)

/-- SOURCE_RETEST_END (R364, R365): `run` and `same` are the highest counts of the two tests in the 1,024 samples. -/
def execSourceRetestEnd (src : Fin 28) (run same : Nat) (s : State) : Host.Outcome State Fault Refusal :=
  .next (if !s.rng.retesting.getLsbD src.val then s
  else if !healthFails src.val run same then
    ((s.withRng fun r => { r with retesting := setBit r.retesting src.val false, failed := setBit r.failed src.val false }).eventFree
      (0x20 + src.val) 7).rngHealth s.rng.kAvail
  else s.withRng fun r => { r with retesting := setBit r.retesting src.val false,
                                   retests := Bank.upd 0 src.val (· + 1) r.retests })

/-- A masking generator with a 384-bit seed: key and counter (R369). -/
def MaskGen.ofSeed (fromK : Bool) (seed : List Byte) : MaskGen :=
  { seeded := true, stopped := false, fromK := fromK, due := false, key := padTo 32 seed, ctr := padTo 16 (seed.drop 32) }

/-- The end of the start-up (R367, R368): READY with a seed in every masking generator and two class K blocks, whose samples are
free, or source 48. -/
def State.rngStart (s : State) : State :=
  let s1 := s.withRng fun r => { r with tested := true }
  if s1.rng.kAvail then
    if s1.rng.audit then s1
    else
      let m := s1.rng.mAvail
      let sizeM := s1.rng.roundsLeft m 0 * s1.rng.roundSamples m
      let sizeK := s1.rng.roundsLeft false 0 * s1.rng.roundSamples false
      s1.draw (16 * sizeM + 2 * sizeK) fun bs t => (t.withRng fun r =>
        let block (n : Nat) := sha384 (packSamples (if n < 16 then sliceBytes bs (sizeM * n) sizeM
          else sliceBytes bs (16 * sizeM + sizeK * (n - 16)) sizeK))
        { r with ready := true, mDegraded := !r.mAvail, kBlocks := r.kBlocks + (if m then 2 else 18), buffer := [block 16, block 17]
                 gens := (List.range 16).foldl (fun b c => Bank.set {} c (MaskGen.ofSeed (!r.mAvail) (block c)) b) r.gens }).withBoot
        fun b => { b with rngReady := true }
  else if s1.rng.kLow then s1
  else (s1.withRng fun r => { r with kLow := true, buffer := [] }).raise 48 (BitVec.ofNat 32 s1.rng.kTypes)

/-- The lowest masking generator whose reseed is due (R369, R375). -/
def Rng.dueGen (r : Rng) : Option Nat := (List.range 16).find? fun c => (r.gen c).due

/-- The personalisation string of an instance (R372). -/
def personalisation (s : State) (i : Nat) : List Byte :=
  sha384 (ascii "CX-DRBG" ++ [BitVec.ofNat 8 i] ++ leBytes 4 s.boot.epoch.toNat ++ s.boot.id)

/-- DRBG_INSTANTIATE (R372, R375): from one class K block, the lower instance first. -/
def execDrbgInstantiate (i : Fin 32) (s : State) : Host.Outcome State Fault Refusal :=
  .next (if s.rng.ready && !s.rng.audit && s.rng.kAvail && decide (s.rng.buffer ≠ []) && !(s.rng.inst i.val).seeded
      && (List.range i.val).all (fun j => (s.rng.inst j).seeded) then
    (s.withRng fun r => r.takeBlock.updInst i.val fun _ => DrbgInst.instantiate r.block (personalisation s i.val)).rngServeWaiting
  else s)

/-- The instance whose due reseed takes the next block: none before FRESH requests and instantiations; then the lowest one at its
limit, then the lowest other one (R375). -/
def Rng.dueInst (r : Rng) : Option Nat :=
  if !r.ready || r.audit || !r.kAvail || r.buffer = [] || r.freshQueue ≠ [] || (List.range 32).any (fun i => !(r.inst i).seeded) then none
  else match (List.range 32).find? fun i => (r.inst i).due && decide (2 ^ 20 ≤ (r.inst i).count) with
    | some i => some i
    | none => (List.range 32).find? fun i => (r.inst i).due

/-- The reseeds that are due, while blocks last: a reseed sets the count to 0 (R373-R375). -/
def State.reseedDue : Nat → State → State
  | 0, s => s
  | n + 1, s =>
    match s.rng.dueInst with
    | some i => ((s.withRng fun r => r.takeBlock.updInst i (DrbgInst.reseed r.block)).rngServeWaiting).reseedDue n
    | none => s

/-- DRBG_BACKGROUND_RESEED (R373-R375): a reseed falls due, and takes a block in its turn. -/
def execDrbgBackgroundReseed (i : Fin 32) (s : State) : Host.Outcome State Fault Refusal :=
  .next (if (s.rng.inst i.val).seeded then
    (s.withRng fun r => r.updInst i.val fun x => { x with due := true }).reseedDue 8
  else s)

/-- MASKING_RESEED (R369, R370): from class M; from the next class K block while class M is unavailable; not made while
both are unavailable. -/
def execMaskingReseed (core : Fin 16) (s : State) : Host.Outcome State Fault Refusal :=
  .next (if s.rng.audit || !s.rng.tested then s
  else if s.rng.mAvail then
    s.condition true fun b t => t.withRng fun r => r.updGen core.val fun _ => MaskGen.ofSeed false b
  else if s.rng.kAvail then s.withRng fun r => r.updGen core.val fun g => { g with due := true }
  else s)

/-- MASKING_STOP (R370): a generator stops while both classes are unavailable. -/
def execMaskingStop (core : Fin 16) (s : State) : Host.Outcome State Fault Refusal :=
  .next (if !s.rng.mAvail && !s.rng.kAvail && (s.rng.gen core.val).seeded then
    s.withRng fun r => r.updGen core.val fun g => { g with stopped := true }
  else s)

/-- The instances that channel `c` may name (R371, R382). -/
def instAllowed (c i : Nat) : Bool := if c = 4 then i = 4 else (i = c || i = 11 || decide (12 ≤ i ∧ i ≤ 31))

/-- A request as a write of RNG_REQ spells it (R382). -/
def rngRequestOf (v : Word) : RngRequest :=
  { inst := v.toNat % 32, fresh := v.getLsbD 5, words := v.toNat / 2 ^ 16 % 2 ^ 13 }

/-- An accepted request: served at once, refused under NOWAIT, or waiting (R373, R376, R377). -/
def State.rngRequest (c : Nat) (q : RngRequest) (nowait : Bool) (s : State) : State :=
  if !q.fresh && s.rng.serves q.inst then s.rngServe c q
  else if q.fresh && s.rng.freshServes q.inst && decide (s.rng.buffer ≠ []) && s.rng.freshQueue.isEmpty then
    s.rngServe c q
  else if nowait then s.withRng fun r => r.endRequest c Status.notReady
  else s.withRng fun r =>
    { r.updChan c (fun x => { x with waiting := some q }) with
      freshQueue := if q.fresh then r.freshQueue ++ [.chan c] else r.freshQueue }

/-- RNG_REQ (R377, R382): a write by the channel's own master at machine or supervisor level while the channel is IDLE. -/
def execRngReq (c writer : CoreNo) (level : Level) (v : Word) (s : State) : Host.Outcome State Fault Refusal :=
  let x := s.rng.chan c.val
  let q := rngRequestOf v
  .next (if writer ≠ c ∨ level = .user ∨ x.waiting.isSome = true ∨ x.data ≠ [] then s
  else if !instAllowed c.val q.inst then s.withRng fun r => r.endRequest c.val Status.badFormat
  else if q.words = 0 ∨ 4096 < q.words then s.withRng fun r => r.endRequest c.val Status.lengthRange
  else s.rngRequest c.val q (v.getLsbD 6))

/-- RNG_WAIT_LIMIT (R377). -/
def execRngWaitLimit (c : CoreNo) (s : State) : Host.Outcome State Fault Refusal :=
  .next (match (s.rng.chan c.val).waiting with
    | none => s
    | some q =>
      let limit := decide (2 ^ 20 ≤ (s.rng.inst q.inst).count)
      s.withRng fun r => r.endRequest c.val (if (q.fresh || limit) && !r.kAvail then Status.entropy else Status.timeout))

/-- RNG_DATA_READ (R382): the next word, zeroised once read; 0 when none is left. -/
def execRngDataRead (c : CoreNo) (s : State) : Host.Outcome State Fault Refusal :=
  .next ((s.setRead ((s.rng.chan c.val).data.headD 0)).withRng fun r => r.updChan c.val fun x => { x with data := x.data.tail })

/-- AUDIT_SET (R378): machine level only; the seed buffer is discarded. -/
def execAuditSet (level : Level) (s : State) : Host.Outcome State Fault Refusal :=
  .next (if level = .machine then
    s.withRng fun r => if r.audit then r else { r with audit := true, buffer := [], condM := {}, condK := {}, raw := [], rawPart := 0, gap := false }
  else s)

/-- The exit from audit mode (R380): every instance uninstantiated, an empty seed buffer, every masking generator due. -/
def Rng.auditExit (r : Rng) : Rng :=
  if !r.audit then r
  else { r with audit := false, buffer := [], insts := [], raw := [], rawPart := 0, gap := false,
                gens := (List.range 16).foldl (fun b c =>
                  Bank.set {} c { seeded := false, stopped := false, fromK := false, due := true } b) r.gens }

/-- AUDIT_CLEAR (R380): machine level only. -/
def execAuditClear (level : Level) (s : State) : Host.Outcome State Fault Refusal :=
  .next (if level = .machine then s.withRng Rng.auditExit else s)

/-- Machine-level firmware and the Cobbler reach the raw-sample registers (R379). -/
def rawAllowed (c : CoreNo) (level : Level) : Bool := decide (c.val = 4 ∨ level = .machine)

/-- RNG_RAWSEL_WRITE (R379): a write empties the FIFO and clears GAP. -/
def execRngRawselWrite (c : CoreNo) (level : Level) (v : Word) (s : State) : Host.Outcome State Fault Refusal :=
  .next (if rawAllowed c level && decide (v.toNat % 32 ≤ 27) then
    s.withRng fun r => { r with rawSel := v.setWidth 5, raw := [], rawPart := 0, gap := false }
  else s)

/-- RNG_RAW_READ (R379, R382): 32 samples, or 0 outside audit mode or with fewer in the FIFO. -/
def execRngRawRead (c : CoreNo) (level : Level) (s : State) : Host.Outcome State Fault Refusal :=
  .next (if rawAllowed c level && s.rng.audit then
    (s.setRead (s.rng.raw.headD 0)).withRng fun r => { r with raw := r.raw.tail }
  else s.setRead 0)

/-- Raw samples that arrive as time passes in audit mode: a free number of free samples, the FIFO holding 1,024 (R379). -/
def State.rawFill (s : State) : State :=
  if !s.rng.audit then s
  else
    let n := 32 * s.rng.raw.length + s.rng.rawPart + Config.freeNat s.freeCount
    s.draw 128 fun bs t => t.withRng fun r =>
      { r with raw := (r.raw ++ (wordsOf bs).drop r.raw.length).take (min n 1024 / 32), rawPart := min n 1024 % 32,
               gap := r.gap || decide (1024 < n) }

/-- The samples of 200 ns that the conditioners absorb as time passes, from healthy sources of their class only and not in audit mode
(R362, R378). -/
def State.absorb (s : State) : State :=
  let m := s.rng.roundSamples true
  let k := s.rng.roundSamples false
  if !s.rng.tested || s.rng.audit then s
  else s.draw (m + k) fun bs t => t.withRng fun r =>
    (r.absorb true (bs.take m) (r.roundClaim true)).absorb false (bs.drop m) (r.roundClaim false)

/-- The 64-byte record of RNG_STATUS (R381). -/
def Rng.record (r : Rng) : List Byte :=
  let mask (p : Nat → Bool) (n : Nat) : Nat := ((List.range n).map fun i => if p i then 2 ^ i else 0).sum
  [BitVec.ofNat 8 (bit r.ready + 2 * bit r.audit + 4 * bit r.mDegraded + 8 * bit r.kLow),
   BitVec.ofNat 8 (if r.tested then r.okCount 0 4 else 0), BitVec.ofNat 8 (if r.tested then r.kTypes else 0), 0]
    ++ leBytes 4 r.srcOk.toNat ++ leBytes 4 (mask r.beyond 28) ++ leBytes 4 r.failures.toNat ++ leBytes 8 r.kBlocks.toNat
    ++ leBytes 4 (mask (fun i => decide (2 ^ 20 ≤ (r.inst i).count)) 32)
    ++ leBytes 4 (mask (fun i => !(r.inst i).seeded) 32) ++ leBytes 4 r.entries48.toNat ++ List.replicate 28 0

end Sys2Proof.Machine
end

