-- ==== Sys2Proof/Machine/KeyChannel.lean ====
section
/-! DEFINITION. The key-store channels of the custody cores (05 R181, R182), whole-store and run zeroisation. -/

namespace Sys2Proof.Machine

/-- What a creation of a key needs from the block (05 R169). -/
def State.createEnv (s : State) : CreateEnv :=
  { trusted := s.insole.trusted, device := s.fw.membership.map Membership.device, epoch := s.boot.epoch }

def Keys.chan (k : Keys) (c : Nat) : KeyChan := Bank.get {} k.chans c
def Keys.updChan (k : Keys) (c : Nat) (f : KeyChan → KeyChan) : Keys := { k with chans := Bank.upd {} c f k.chans }

/-- Only custody core `c`, at machine or supervisor level, reaches channel `c` (R181). -/
def keyWriter (c : Fin 4) : RegWriter → Bool
  | .host _ => false
  | .core m level => decide (m.val = c.val ∧ level ≠ .user)

/-- A write of KEY_CMD: ignored from another master or while BUSY; otherwise the operation is latched with ANY and SLOT, and DONE
cleared (R181, R182). -/
def State.keyCmd (c : Fin 4) (w : RegWriter) (op : KeyOp) (any : Bool) (slot : Nat) (s : State) : State :=
  if keyWriter c w && !(s.keys.chan c.val).busy then
    s.withKeys fun k => k.updChan c.val fun x =>
      { x with op := some op, any := any, slot := BitVec.ofNat 15 slot, busy := true, done := false, field := 0, blobIn := [],
               blobOut := [] }
  else s

/-- KEY_CMD_LOAD (R182). -/
def execKeyCmdLoad (c : Fin 4) (w : RegWriter) (any : Bool) (slot : Fin 32768) (s : State) : Host.Outcome State Fault Refusal :=
  .next (s.keyCmd c w .load any slot.val)

/-- KEY_CMD_IMPORT (R182). -/
def execKeyCmdImport (c : Fin 4) (w : RegWriter) (any kw : Bool) (slot : Fin 32768) (s : State) :
    Host.Outcome State Fault Refusal := .next (s.keyCmd c w (.import kw) any slot.val)

/-- KEY_CMD_EXPORT (R182). -/
def execKeyCmdExport (c : Fin 4) (w : RegWriter) (kw : Bool) (s : State) : Host.Outcome State Fault Refusal :=
  .next (s.keyCmd c w (.exportBlob kw) false 0)

/-- KEY_CMD_BLOB (R182). -/
def execKeyCmdBlob (c : Fin 4) (w : RegWriter) (s : State) : Host.Outcome State Fault Refusal :=
  .next (s.keyCmd c w .blob false 0)

/-- KEY_CMD_GENERATE (R182). -/
def execKeyCmdGenerate (c : Fin 4) (w : RegWriter) (any : Bool) (slot : Fin 32768) (s : State) :
    Host.Outcome State Fault Refusal := .next (s.keyCmd c w .generate any slot.val)

/-- KEY_CMD_UNLOAD (R182). -/
def execKeyCmdUnload (c : Fin 4) (w : RegWriter) (s : State) : Host.Outcome State Fault Refusal :=
  .next (s.keyCmd c w (.unload none) false 0)

/-- KEY_CMD_QUERY (R182). -/
def execKeyCmdQuery (c : Fin 4) (w : RegWriter) (s : State) : Host.Outcome State Fault Refusal :=
  .next (s.keyCmd c w .query false 0)

/-- KEY_BLOB_IN_WRITE (R182): the next four input bytes; writes beyond LEN are ignored. -/
def execKeyBlobInWrite (c : Fin 4) (w : RegWriter) (v : Word) (s : State) : Host.Outcome State Fault Refusal :=
  let x := s.keys.chan c.val
  .next (if keyWriter c w && decide (4 * x.blobIn.length < x.len.toNat) then
    s.withKeys fun k => k.updChan c.val fun y => { y with blobIn := y.blobIn ++ [v] }
  else s)

/-- KEY_BLOB_OUT_READ (R182): the next four output bytes, 0 when empty; the host has no path to the register. -/
def execKeyBlobOutRead (c : Fin 4) (w : RegWriter) (s : State) : Host.Outcome State Fault Refusal :=
  .next (match w with
  | .core _ _ =>
    (s.setRead ((s.keys.chan c.val).blobOut.headD 0)).withKeys fun k => k.updChan c.val fun y => { y with blobOut := y.blobOut.tail }
  | .host _ => s)

/-- End a channel operation: status, FIELD, issued handle. -/
def Keys.endChan (k : Keys) (c : Nat) (st : Half) (field : Nat) (handle : Option Word) : Keys :=
  k.updChan c fun x => { x with op := none, busy := false, done := true, status := st, field := BitVec.ofNat 14 field,
                                handleOut := handle.getD x.handleOut }

/-- End a channel operation with a key-store error: FIELD is the failing field of the blob or template (log entry 31). -/
def Keys.endChanErr (k : Keys) (c : Nat) (e : KeyErr) : Keys := k.endChan c e.status e.field none

/-- The slot that a channel operation names: none with ANY (R182). -/
def KeyChan.place (x : KeyChan) : Option Nat := if x.any then none else some x.slot.toNat

/-- The LEN input bytes of a channel (R182). -/
def KeyChan.input (x : KeyChan) : List Byte := (bytesOf x.blobIn).take x.len.toNat

/-- Whether a wrapping key may wrap a key of the given exportability (R161, R182 KEY_WRAP). -/
def exportAllowed (exportability : Byte) (trusted : Bool) : Bool :=
  decide (exportability = 2) || (decide (exportability = 1) && trusted)

/-- The template in KEY_ATTR_0-7. -/
def KeyChan.template (x : KeyChan) : Attr := attrOfBytes (bytesOf ((List.range 8).map (Bank.get 0 x.attr)))

/-- Create a key from the channel's template, as GENERATE does, and report in KEY_RESULT and KEY_HANDLE_OUT (R182; 10
R320). -/
def State.keyChanCreate (c : Nat) (a : Attr) (material : List Byte) (slot : Option Nat) (s : State) : State :=
  match s.keys.create s.createEnv a material slot with
  | .error e => s.withKeys fun k => k.endChanErr c e
  | .ok (n, k') => s.withKeys fun _ => k'.endChan c Status.ok 0 (some (k'.handleOf n))

/-- Deliver material into a named reserved slot: firmware's derivations of R156 in START, TEST and RECOVERY.  The key
identifier of a reserved slot is not stated: a free value (log entry 4). -/
def State.keyChanReserved (c slot : Nat) (a : Attr) (material : List Byte) (s : State) : State :=
  if a.owner = 0xFFFF ∧ s.keys.isFree slot (slotsOf a.type) = true ∧ slot + slotsOf a.type ≤ 64 then
    s.draw 8 fun b t => t.withKeys fun k =>
      let k' := k.install slot a material (BitVec.ofNat 64 (ofLe b))
      k'.endChan c Status.ok 0 (some (k'.handleOf slot))
  else s.withKeys fun k => k.endChanErr c slotErr

/-- A wrapping key by KEY_WRAP: an AES key with the usage asked (R182). -/
def Keys.wrapKey (k : Keys) (h : Word) (owner : Option Half) (usage : Nat) : Except KeyErr KeyRun :=
  match k.lookup h owner (some usage) with
  | .error e => .error e
  | .ok r => if isAes r.attr.type then .ok r else .error { status := Status.keyUsage, detail := h }

/-- Types whose private or secret material the device makes itself (10 R318, R321). -/
def makes (t : Byte) : Bool :=
  isAes t || isHmac t || isEcPriv t || decide (t = 0x14 ∨ t = 0x15) || isKemPriv t || isDsaPriv t

/-- Random or derived bytes that a new key of a template takes (10 R322). -/
def makeLen (a : Attr) : Nat :=
  if isEcPriv a.type then (curveOf (a.type.toNat % 8)).scalarLen else if a.type = 0x14 then 32 else matLenOf a

/-- Material of a new key from those bytes: themselves for AES, HMAC and the seed types, the private key with its public part
otherwise (05 R162; 10 R322). -/
def madeMaterial (a : Attr) (r : List Byte) : List Byte :=
  if isEcPriv a.type then let c := curveOf (a.type.toNat % 8); c.privateKey (c.scalar r)
  else if a.type = 0x14 then padTo 32 r ++ edPublic (padTo 32 r)
  else padTo (matLenOf a) r

/-- GENERATE: material from the core's class K instance under a fresh seed (12 R373), as the type makes it; a channel waits while the
instance does not serve.  Types that the device does not make are refused at the type (log entry 32). -/
def State.keyChanGenerate (c : Nat) (s : State) : State :=
  let x := s.keys.chan c
  let a := x.template
  match s.keys.createErr s.createEnv with
  | some e => s.withKeys fun k => k.endChanErr c e
  | none =>
    match s.keys.templateSlot a x.place with
    | .error e => s.withKeys fun k => k.endChanErr c e
    | .ok _ =>
      if !makes a.type then s.withKeys fun k => k.endChanErr c (attrErr 0 0)
      else if s.rng.freshServes c && decide (s.rng.buffer ≠ []) then
        s.instDraw c true (makeLen a) fun m t => t.keyChanCreate c a (madeMaterial a m) x.place
      else s

/-- Report the output of EXPORT or BLOB (R182). -/
def Keys.chanOutput (k : Keys) (c : Nat) (out : List Byte) : Keys :=
  (k.endChan c Status.ok 0 none).updChan c fun y => { y with blobOut := wordsOf out, len := BitVec.ofNat 32 out.length }

/-- IMPORT: the wrapped key under KEY_WRAP, with the template of KEY_ATTR (R182; R161). -/
def State.keyChanImport (c : Nat) (kw : Bool) (s : State) : State :=
  let x := s.keys.chan c
  match s.keys.wrapKey x.wrap none uUNWRAP with
  | .error e => s.withKeys fun k => k.endChanErr c e
  | .ok w =>
    match s.keys.templateSlot x.template x.place with
    | .error e => s.withKeys fun k => k.endChanErr c e
    | .ok _ =>
      match (if kw then kwUnwrap w.material x.input else kwpUnwrap w.material x.input) with
      | none => s.withKeys fun k => k.endChan c Status.authFail 0 none
      | some m => s.keyChanCreate c x.template m x.place

/-- EXPORT of the key of KEY_ARG under KEY_WRAP (R182; R161). -/
def State.keyChanExport (c : Nat) (kw : Bool) (s : State) : State :=
  let x := s.keys.chan c
  match s.keys.lookup x.arg none none with
  | .error e => s.withKeys fun k => k.endChanErr c e
  | .ok r =>
    match s.keys.wrapKey x.wrap none uWRAP with
    | .error e => s.withKeys fun k => k.endChanErr c e
    | .ok w =>
      if exportAllowed r.attr.exportability (w.attr.usage.getLsbD uTRUSTED) then
        s.withKeys fun k => k.chanOutput c (if kw then kwWrap w.material r.material else kwpWrap w.material r.material)
      else s.withKeys fun k => k.endChan c Status.keyUsage 0 none

/-- BLOB: the class-0 blob of KEY_ARG (R182). -/
def State.keyChanBlob (c : Nat) (s : State) : State :=
  match s.keys.lookup (s.keys.chan c).arg none none with
  | .error e => s.withKeys fun k => k.endChanErr c e
  | .ok r =>
    match s.keys.present 2 with
    | none => s.withKeys fun k => k.endChan c Status.notReady 0 none
    | some dk => s.withKeys fun k => k.chanOutput c (blobOf 0 r dk.material)

/-- UNLOAD ends once the run it marked has been zeroised, by itself or by another command (R177). -/
def State.keyChanUnloaded (c n : Nat) (gen : Half) (s : State) : State :=
  match Bank.get none s.keys.runs n with
  | some r =>
    if r.attr.generation = gen then
      (if r.refs = 0 then s.withKeys fun k => (k.free n).endChan c Status.ok 0 none else s)
    else s.withKeys fun k => k.endChan c Status.ok 0 none
  | none => s.withKeys fun k => k.endChan c Status.ok 0 none

/-- UNLOAD: the handle passes R168 and its run is marked empty; it answers once the run is zeroised (R177). -/
def State.keyChanUnload (c : Nat) (s : State) : State :=
  let h := (s.keys.chan c).arg
  let n := handleSlot h
  match s.keys.lookup h none none with
  | .error e => s.withKeys fun k => k.endChanErr c e
  | .ok r => (s.withKeys fun k => (k.mark n).updChan c fun x =>
      { x with op := some (.unload (some (n, r.attr.generation))) }).keyChanUnloaded c n r.attr.generation

/-- QUERY: the next invocation counter value and the attributes (R182). -/
def State.keyChanQuery (c : Nat) (s : State) : State :=
  match s.keys.lookup (s.keys.chan c).arg none none with
  | .error e => s.withKeys fun k => k.endChanErr c e
  | .ok r => s.withKeys fun k => (k.endChan c Status.ok 0 none).updChan c fun y =>
      { y with len := r.counter, attr := (List.range 8).foldl (fun b i => Bank.set 0 i (wordOf (attrBytes r.attr) i) b) y.attr }

/-- LOAD of the blob in the input FIFO (R174, R182). -/
def State.keyChanLoad (c : Nat) (s : State) : State :=
  match s.keys.loadBlob (s.keys.chan c).input (s.keys.chan c).place with
  | .error e => s.withKeys fun k => k.endChanErr c e
  | .ok (n, k') => s.withKeys fun _ => k'.endChan c Status.ok 0 (some (k'.handleOf n))

/-- The effect of a latched channel operation (R182). -/
def State.keyChanRun (c : Nat) (op : KeyOp) (s : State) : State :=
  match op with
  | .load => s.keyChanLoad c
  | .import kw => s.keyChanImport c kw
  | .exportBlob kw => s.keyChanExport c kw
  | .blob => s.keyChanBlob c
  | .generate => s.keyChanGenerate c
  | .unload none => s.keyChanUnload c
  | .unload (some (n, gen)) => s.keyChanUnloaded c n gen
  | .query => s.keyChanQuery c

/-- LOAD and IMPORT take effect once LEN input bytes are in (R182). -/
def KeyChan.ready (x : KeyChan) : Bool :=
  match x.op with
  | some .load | some (.import _) => decide (x.len.toNat ≤ 4 * x.blobIn.length)
  | _ => true

/-- KEY_CHANNEL_DONE (R182): the operation takes effect. -/
def execKeyChannelDone (c : Fin 4) (s : State) : Host.Outcome State Fault Refusal :=
  let x := s.keys.chan c.val
  .next (match x.op with
    | none => s
    | some op => if x.ready then s.keyChanRun c.val op else s)

/-- KEY_ZERO_ALL (R178, R181): machine level only. -/
def execKeyZeroAll (level : Level) (s : State) : Host.Outcome State Fault Refusal :=
  .next (if level = .machine then s.withKeys fun k => { k.startZero false with zeroAll := true } else s)

/-- ZEROISATION_DONE (R178, R390 step 6): the store is clear; a code-6 response zeroises the insole key. -/
def execZeroisationDone (s : State) : Host.Outcome State Fault Refusal :=
  let s1 := (s.withKeys Keys.endZero).withAlarm fun a => { a with zero := false, zeroInsole := false }
  .next (if s.alarm.zeroInsole then s1.withInsole fun i => { i with ik := none } else s1)

end Sys2Proof.Machine
end

