-- ==== Sys2Proof/Machine/Pke.lean ====
section
/-! DEFINITION. Meanings of the public-key engines' commands (10). -/

namespace Sys2Proof.Machine

/-! ### The operations of R318 -/

def pkeOps : List Nat := [0x01, 0x02, 0x10, 0x11, 0x12, 0x13, 0x20, 0x21, 0x22, 0x23, 0x30, 0x31, 0x32, 0x38, 0x39, 0x3A, 0x40]
/-- Operations whose public key may be inline. -/
def pkeInline (op : Nat) : Bool := [0x02, 0x12, 0x22, 0x3A].contains op
/-- Operations with a secret result for a key slot. -/
def pkeSlotResult (op : Nat) : Bool := [0x10, 0x13, 0x20, 0x23, 0x30, 0x31, 0x32, 0x38].contains op
/-- Key generation: no handle is named (R319). -/
def pkeKeygen (op : Nat) : Bool := [0x10, 0x20, 0x30, 0x38].contains op
/-- Verification operations draw no randomness (R322, R324). -/
def pkeVerify (op : Nat) : Bool := [0x02, 0x12, 0x22, 0x3A].contains op

/-- The parameter sets defined for an operation's family (R318); Ed25519 and X25519 operations and have set 0 only (log
entry 33). -/
def pkeSets (op : Nat) : Nat :=
  if op = 0x01 ∨ op = 0x02 ∨ op = 0x40 then 4
  else if op = 0x20 then 2
  else if op = 0x21 ∨ op = 0x22 ∨ op = 0x23 then 1
  else 3

def rsaLen (set : Nat) : Nat := [256, 384, 512, 1024].getD set 0
def ecLen (set : Nat) : Nat := [32, 48, 66].getD set 0
def kemEk (set : Nat) : Nat := [800, 1184, 1568].getD set 0
def kemCt (set : Nat) : Nat := [768, 1088, 1568].getD set 0
def dsaPk (set : Nat) : Nat := [1312, 1952, 2592].getD set 0
def dsaSig (set : Nat) : Nat := [2420, 3309, 4627].getD set 0

/-- The fixed part of the input, and whether a message M of up to 1,048,576 bytes follows (R318). -/
def pkeInput (j : PkeJob) : Nat × Bool :=
  let set := j.set.toNat
  match j.op.toNat with
  | 0x01 => (rsaLen set, false)
  | 0x02 => (rsaLen set + (if j.inline then rsaLen set + 4 else 0), false)
  | 0x11 => (ecLen set, false)
  | 0x12 => (3 * ecLen set + (if j.inline then 2 * ecLen set else 0), false)
  | 0x13 => (2 * ecLen set, false)
  | 0x21 => (0, true)
  | 0x22 => (64 + (if j.inline then 32 else 0), true)
  | 0x23 => (32, false)
  | 0x32 => (kemCt set, false)
  | 0x39 => if j.prehash then (64, false) else (0, true)
  | 0x3A => (dsaSig set + (if j.inline then dsaPk set else 0) + (if j.prehash then 64 else 0), !j.prehash)
  | _ => (0, false)

/-- SRCLEN is as R318 gives for the operation, SET and flags (R325 check 4). -/
def pkeLenOk (j : PkeJob) (len : Nat) : Bool :=
  let p := pkeInput j
  if p.2 then decide (p.1 ≤ len ∧ len ≤ p.1 + 1048576) else decide (len = p.1)

/-- Public output bytes (R318). -/
def pkeOutLen (j : PkeJob) : Nat :=
  let set := j.set.toNat
  match j.op.toNat with
  | 0x01 => rsaLen set | 0x02 => rsaLen set
  | 0x10 => 2 * ecLen set | 0x11 => 2 * ecLen set
  | 0x20 => 32 | 0x21 => 64
  | 0x30 => kemEk set | 0x31 => kemCt set
  | 0x38 => dsaPk set | 0x39 => dsaSig set
  | _ => 0

/-- Operations with a public input to validate (R326). -/
def pkeValidated (j : PkeJob) : Bool := [0x01, 0x02, 0x12, 0x13, 0x22, 0x23, 0x31].contains j.op.toNat

/-- The usage bit an operation checks (R318). -/
def pkeUsage (op : Nat) : Option Nat :=
  if op = 0x01 ∨ op = 0x11 ∨ op = 0x21 ∨ op = 0x39 then some uSIGN
  else if op = 0x02 ∨ op = 0x12 ∨ op = 0x22 ∨ op = 0x3A then some uVERIFY
  else if op = 0x13 ∨ op = 0x23 then some uAGREE
  else if op = 0x31 then some uENCAPS
  else if op = 0x32 then some uDECAPS
  else none

/-- The key's type belongs to the operation's family and its parameter set is SET (R319). -/
def pkeTypeOk (op set : Nat) (t : Byte) : Bool :=
  let n := t.toNat
  match op with
  | 0x01 => n = 0x20 + set
  | 0x02 => n = 0x28 + set
  | 0x11 => n = 0x10 + set
  | 0x12 => n = 0x18 + set
  | 0x13 => n = 0x10 + set
  | 0x21 => n = 0x14
  | 0x22 => n = 0x1C
  | 0x23 => n = 0x15
  | 0x31 => n = 0x38 + set
  | 0x32 => n = 0x30 + set
  | 0x39 => n = 0x40 + set
  | 0x3A => n = 0x48 + set
  | 0x40 => n = 0x20 + set || (n = 0x10 + set && decide (set < 3)) || (n = 0x14 && decide (set = 0))
  | _ => false

/-- The operation names a handle: not key generation, and not with the key inline (R319). -/
def pkeNamesKey (j : PkeJob) : Bool := !pkeKeygen j.op.toNat && !j.inline

/-! ### Acceptance (R325) -/

def State.engine (s : State) (n : Nat) : PkeEngine := Bank.get {} s.pke n
def State.updEngine (n : Nat) (f : PkeEngine → PkeEngine) (s : State) : State := s.withPke (Bank.upd {} n f)

/-- The checks 1 to 7 of R325 in order; none when all pass, with the key's run. -/
def pkeCheck (s : State) (e : PkeEngine) (j : PkeJob) (rsv : Half) : Option (Half × Word) :=
  let op := j.op.toNat
  let out := pkeOutLen j
  match firstFail [
    (!pkeOps.contains op, (Status.badOpcode, (0 : Word))),
    (!decide (rsv = 0) || !decide (j.set.toNat < pkeSets op) || (j.prehash && !decide (op = 0x39 ∨ op = 0x3A))
      || (j.inline && !pkeInline op) || (j.kout != pkeSlotResult op)
      || (!pkeNamesKey j && !decide (e.key = 0)), (Status.badFormat, 0)),
    (!decide (e.src.toNat % 8 = 0) || (!decide (e.dst.toNat % 8 = 0) && !(decide (e.dstCap = 0) && decide (out = 0))),
      (Status.align, 0)),
    (!pkeLenOk j e.srcLen.toNat, (Status.lengthRange, 0)),
    (decide (e.dstCap.toNat < out), (Status.window, BitVec.ofNat 32 out)),
    ((!decide (e.srcLen = 0) && !inSram e.src.toNat e.srcLen.toNat) || (!decide (out = 0) && !inSram e.dst.toNat out), (Status.window, 0x80000000))] with
  | some x => some x
  | none =>
    if pkeNamesKey j then
      match s.keys.lookup e.key (ownerOf e.tenant) (pkeUsage op) with
      | .error k => some (k.status, k.detail)
      | .ok r => if pkeTypeOk op j.set.toNat r.attr.type then none else some (Status.keyUsage, e.key)
    else none

/-- Whether an operation waits in STATE WAIT: before the RNG is ready, in audit mode, and for its draw (R324); a fresh seed
takes a class K block in order of arrival (12 R373, R375). -/
def pkeWaits (s : State) (n : Nat) (op : Nat) (machine : Bool) : Bool :=
  let r := s.rng
  if r.audit then true
  else if pkeVerify op then !(r.ready || machine)
  else if pkeKeygen op then
    !(r.freshServes (5 + n) && decide (r.buffer ≠ []) && (r.freshQueue.isEmpty || decide (r.freshQueue.head? = some (.pke n))))
  else !r.serves (5 + n)

/-- The random bytes that one run of an operation draws, in one request to the engine's instance: those that R322 names, then those
of the blinding of R323 (DESIGN CHOICE of one request, and of 32 bytes for masked polynomial shares, log entry 111). -/
def pkeDrawLen (op set : Nat) (type : Byte) : Nat :=
  let f := ecLen set
  match op with
  | 0x01 => rsaLen set + 16
  | 0x10 => (curveOf set).scalarLen
  | 0x11 => 32 + 8 + f
  | 0x13 => 8 + f
  | 0x20 => 32
  | 0x21 => 40
  | 0x23 => 40
  | 0x30 => 64
  | 0x31 => 32
  | 0x32 => 32
  | 0x38 => 32
  | 0x39 => 64
  | 0x40 => if isRsaPriv type then rsaLen set + 16 else if isEcPriv type then 8 + f else 40
  | _ => 0

/-- The type of the key that the operation holds a reference to. -/
def State.pkeType (s : State) (n : Nat) : Byte :=
  (((s.engine n).slot.bind (Bank.get none s.keys.runs)).map fun r => r.attr.type).getD 0

/-- The operation waits; one that needs a fresh seed queues for a class K block (R324; 12 R375). -/
def State.pkeHold (n op : Nat) (s : State) : State :=
  (if pkeKeygen op then s.withRng fun r =>
      { r with freshQueue := if r.freshQueue.contains (.pke n) then r.freshQueue else r.freshQueue ++ [.pke n] }
   else s).updEngine n fun e => { e with state := 1 }

/-- A run of the operation begins with its draw, after a reseed for a key generation (R322, R332), and loads its input. -/
def State.pkeBegin (n : Nat) (j : PkeJob) (s : State) : State :=
  let op := j.op.toNat
  let m := pkeDrawLen op j.set.toNat (s.pkeType n)
  if m = 0 then s.updEngine n fun e => { e with state := 2, scratch := {} }
  else (s.withRng fun r => { r with freshQueue := r.freshQueue.filter fun q => decide (q ≠ .pke n) }).instDraw (5 + n) (pkeKeygen op) m
    fun b t => t.updEngine n fun e => { e with state := 2, scratch := { drawn := b } }

/-- Begin a run, or wait for its draw. -/
def State.pkeRun (n : Nat) (j : PkeJob) (machine : Bool) (s : State) : State :=
  if pkeWaits s n j.op.toNat machine then s.pkeHold n j.op.toNat else s.pkeBegin n j

/-- PKE_TIME of an operation whose length in PCLK no command states: a free value (R339; log entry 4). -/
def State.pkeTimed (n : Nat) (s : State) : State :=
  s.draw 4 fun b t => t.updEngine n fun e => { e with time := BitVec.ofNat 32 (ofLe b) }

/-- The engine ends its operation: status, detail, output length, DONE and the interrupt (R325, R338); scratch is zeroised (R316) and
the key reference released. -/
def State.pkeEnd (n : Nat) (st : Half) (detail : Word) (outLen : Nat) (state : BitVec 3) (s : State) : State :=
  let e := s.engine n
  let s1 := match e.slot with | some k => s.withKeys fun ks => ks.dropRef k | none => s
  s1.updEngine n fun e => { e with
    job := none, slot := none, scratch := {}, input := [], copied := none, state := if state = 0 ∧ s.unitOn (16 + n) = false then 7 else state, done := true,
    irqPend := true, result := st, detail := detail, outLen := BitVec.ofNat 14 outLen }

/-- A key-store channel named by KOUT completes with the engine's status and fills no slot (R320). -/
def State.pkeChanFail (j : PkeJob) (st : Half) (s : State) : State :=
  if j.kout then s.withKeys fun k => k.endChan j.ch.val st 0 none else s

/-- The latched PKE_CMD. -/
def pkeJobOf (op : Byte) (k : PkeCmd) : PkeJob :=
  { op := op, set := k.set, inline := k.inline, prehash := k.prehash, kout := k.kout, ch := k.ch }

/-- A write of PKE_CMD is acted on: DONE is cleared, the writing master is the owner, the operation is latched (R325). -/
def PkeEngine.latch (op : Byte) (k : PkeCmd) (e : PkeEngine) : PkeEngine :=
  { e with done := false, owner := BitVec.ofNat 7 (65 + k.master.val), reruns := 0, job := some (pkeJobOf op k) }

/-- The checks have passed (R325, R324, R337): the operation holds a reference to its key, and runs or waits. -/
def State.pkeStart (n : Nat) (op : Byte) (k : PkeCmd) (s : State) : State :=
  let j := pkeJobOf op k
  let slot := if pkeNamesKey j then some (handleSlot (s.engine n).key) else none
  let s1 := match slot with | some x => s.withKeys fun ks => ks.addRef x | none => s
  (s1.updEngine n fun e => { e.latch op k with slot := slot }).pkeRun n j (decide (k.level = Level.machine))

/-- The write of PKE_CMD (R325): acted on only from machine or supervisor level in STATE IDLE. -/
def State.pkeCmd (n : Nat) (op : Byte) (k : PkeCmd) (s : State) : State :=
  let e := s.engine n
  if e.state ≠ 0 ∨ k.level = .user then s
  else match pkeCheck s e (pkeJobOf op k) k.rsv with
    | some (st, d) => (((s.updEngine n (PkeEngine.latch op k)).pkeChanFail (pkeJobOf op k) st).pkeEnd n st d 0 0).pkeTimed n
    | none => s.pkeStart n op k

/-- PKE_CMD_BAD_OP (R325 check 1). -/
def execPkeCmdBadOp (n : Fin 4) (op : Byte) (k : PkeCmd) (s : State) : Host.Outcome State Fault Refusal :=
  .next (s.pkeCmd n.val op k)
/-- RSA_PRIV (R318). -/
def execRsaPriv (n : Fin 4) (k : PkeCmd) (s : State) : Host.Outcome State Fault Refusal := .next (s.pkeCmd n.val 0x01 k)
/-- RSA_PUB (R318). -/
def execRsaPub (n : Fin 4) (k : PkeCmd) (s : State) : Host.Outcome State Fault Refusal := .next (s.pkeCmd n.val 0x02 k)
/-- EC_KEYGEN (R318). -/
def execEcKeygen (n : Fin 4) (k : PkeCmd) (s : State) : Host.Outcome State Fault Refusal := .next (s.pkeCmd n.val 0x10 k)
/-- ECDSA_SIGN (R318). -/
def execEcdsaSign (n : Fin 4) (k : PkeCmd) (s : State) : Host.Outcome State Fault Refusal := .next (s.pkeCmd n.val 0x11 k)
/-- ECDSA_VERIFY (R318). -/
def execEcdsaVerify (n : Fin 4) (k : PkeCmd) (s : State) : Host.Outcome State Fault Refusal := .next (s.pkeCmd n.val 0x12 k)
/-- ECDH (R318). -/
def execEcdh (n : Fin 4) (k : PkeCmd) (s : State) : Host.Outcome State Fault Refusal := .next (s.pkeCmd n.val 0x13 k)
/-- CV_KEYGEN (R318). -/
def execCvKeygen (n : Fin 4) (k : PkeCmd) (s : State) : Host.Outcome State Fault Refusal := .next (s.pkeCmd n.val 0x20 k)
/-- ED_SIGN (R318). -/
def execEdSign (n : Fin 4) (k : PkeCmd) (s : State) : Host.Outcome State Fault Refusal := .next (s.pkeCmd n.val 0x21 k)
/-- ED_VERIFY (R318). -/
def execEdVerify (n : Fin 4) (k : PkeCmd) (s : State) : Host.Outcome State Fault Refusal := .next (s.pkeCmd n.val 0x22 k)
/-- X25519 (R318). -/
def execX25519 (n : Fin 4) (k : PkeCmd) (s : State) : Host.Outcome State Fault Refusal := .next (s.pkeCmd n.val 0x23 k)
/-- MLKEM_KEYGEN (R318). -/
def execMlkemKeygen (n : Fin 4) (k : PkeCmd) (s : State) : Host.Outcome State Fault Refusal := .next (s.pkeCmd n.val 0x30 k)
/-- MLKEM_ENCAPS (R318). -/
def execMlkemEncaps (n : Fin 4) (k : PkeCmd) (s : State) : Host.Outcome State Fault Refusal := .next (s.pkeCmd n.val 0x31 k)
/-- MLKEM_DECAPS (R318). -/
def execMlkemDecaps (n : Fin 4) (k : PkeCmd) (s : State) : Host.Outcome State Fault Refusal := .next (s.pkeCmd n.val 0x32 k)
/-- MLDSA_KEYGEN (R318). -/
def execMldsaKeygen (n : Fin 4) (k : PkeCmd) (s : State) : Host.Outcome State Fault Refusal := .next (s.pkeCmd n.val 0x38 k)
/-- MLDSA_SIGN (R318). -/
def execMldsaSign (n : Fin 4) (k : PkeCmd) (s : State) : Host.Outcome State Fault Refusal := .next (s.pkeCmd n.val 0x39 k)
/-- MLDSA_VERIFY (R318). -/
def execMldsaVerify (n : Fin 4) (k : PkeCmd) (s : State) : Host.Outcome State Fault Refusal := .next (s.pkeCmd n.val 0x3A k)
/-- CHECK_KEY (R321). -/
def execCheckKey (n : Fin 4) (k : PkeCmd) (s : State) : Host.Outcome State Fault Refusal := .next (s.pkeCmd n.val 0x40 k)

/-! ### The course of an operation (R325-R333) -/

/-- Engine `n` works: not in audit mode, and its DMA not stopped by its MPU (R324; 19 R551). -/
def State.pkeMoves (s : State) (n : Nat) : Bool := !s.rng.audit && (s.mpu (6 + n)).stopped.isNone

/-- PKE_WAIT_END (R324): what the operation waited for has come. -/
def execPkeWaitEnd (n : Fin 4) (s : State) : Host.Outcome State Fault Refusal :=
  let e := s.engine n.val
  .next (match e.job with
    | some j => if e.state = 1 ∧ pkeWaits s n.val j.op.toNat false = false then s.pkeBegin n.val j else s
    | none => s)

/-- The input region after an input: the fixed part stays, a longer message streams through the rest (R317). -/
def pkeRegion (fixed : Nat) (input : List Byte) (mem : Bank Byte) : Bank Byte :=
  (pieces (0x2000 - fixed) (input.drop fixed)).foldl (fun m c => Bank.writeBytes m fixed c) (Bank.writeBytes mem 0 (input.take fixed))

/-- The input is in the engine, and the key's run with it (R315-R317). -/
def State.pkeLoad (n : Nat) (j : PkeJob) (s : State) : State :=
  let e := s.engine n
  let input := s.sramRead e.src.toNat e.srcLen.toNat
  let run := e.slot.bind (Bank.get none s.keys.runs)
  s.updEngine n fun e =>
    { e with
      input := input, mem := pkeRegion (pkeInput j).1 input e.mem
      scratch := { e.scratch with type := s.pkeType n, key := (run.map KeyRun.material).getD [] }
      state := if pkeValidated j then 3 else 4 }

/-- PKE_LOAD_DONE (R317, R325): the DMA has brought the input, or its MPU has stopped it at a beat. -/
def execPkeLoadDone (n : Fin 4) (s : State) : Host.Outcome State Fault Refusal :=
  let e := s.engine n.val
  .next (match e.job with
    | some j =>
      if e.state = 2 ∧ s.pkeMoves n.val = true then
        match s.dmaRefused (6 + n.val) false e.src.toNat e.srcLen.toNat with
        | some (acc, r) => s.dmaFault (6 + n.val) acc r
        | none => s.pkeLoad n.val j
      else s
    | none => s)

/-! ### The inputs and the results (R318, R326-R328) -/

/-- Bytes of the inline public key ahead of the other fields (R318). -/
def pkeKeyLen (j : PkeJob) : Nat :=
  let set := j.set.toNat
  if !j.inline then 0
  else match j.op.toNat with
    | 0x02 => rsaLen set + 4
    | 0x12 => 2 * ecLen set
    | 0x22 => 32
    | 0x3A => dsaPk set
    | _ => 0

/-- The operation's key, inline or from the slot, and the fields after it. -/
def PkeEngine.keyBytes (e : PkeEngine) (j : PkeJob) : List Byte := if j.inline then e.input.take (pkeKeyLen j) else e.scratch.key
def PkeEngine.body (e : PkeEngine) (j : PkeJob) : List Byte := e.input.drop (pkeKeyLen j)

/-- The first failed check of an RSA modulus and exponent of `k` bytes: codes 0x0101 to 0x0103.  A modulus whose top byte is 0 has
another length than SET's (DEDUCED, log entry 114). -/
def rsaKeyFail (k : Nat) (r : RsaKey) : Option Half :=
  firstFail [
    (decide (r.n < 2 ^ (8 * (k - 1))), 0x0101),
    (decide (r.n % 2 = 0 ∨ r.n < 2 ^ (8 * k - 1)), 0x0102),
    (decide (r.e % 2 = 0 ∨ r.e < 65537), 0x0103)]

/-- Codes 0x0104 and 0x0105. -/
def rsaInputFail (x n : Nat) : Option Half := firstFail [(decide (x = 0), 0x0104), (decide (n ≤ x), 0x0105)]

/-- The fields of a P-curve verification after its key: e, r, s. -/
def ecdsaFields (f : Nat) (b : List Byte) : Nat × Nat × Nat :=
  (ofLe (sliceBytes b 0 f), ofLe (sliceBytes b f f), ofLe (sliceBytes b (2 * f) f))

/-- The first failed check of the validation of an operation's public inputs, in the order of the codes (R326-R328). -/
def pkeFailed (j : PkeJob) (key body : List Byte) : Option Half :=
  let set := j.set.toNat
  let k := rsaLen set
  let c := curveOf set
  match j.op.toNat with
  | 0x01 => rsaInputFail (ofLe (body.take k)) (rsaKey k key).n
  | 0x02 => match rsaKeyFail k (rsaKey k key) with
    | some x => some x
    | none => rsaInputFail (ofLe (body.take k)) (rsaKey k key).n
  | 0x12 =>
    let q := c.pointOf key
    let (_, r, s) := ecdsaFields c.f body
    match c.pointFail q.1 q.2 with
    | some x => some x
    | none => firstFail [(decide (r = 0), 0x0205), (decide (c.n ≤ r), 0x0206), (decide (s = 0), 0x0207), (decide (c.n ≤ s), 0x0208)]
  | 0x13 => let q := c.pointOf body; c.pointFail q.1 q.2
  | 0x22 =>
    match edDecode key with
    | .error i => some (0x0301 + BitVec.ofNat 16 i)
    | .ok _ => match edDecode (body.take 32) with
      | .error i => some (if i = 0 then 0x0304 else 0x0305)
      | .ok _ => if l25519 ≤ ofLe (sliceBytes body 32 32) then some 0x0306 else none
  | 0x31 => if kemModulusOk (set + 2) key then none else some 0x0401
  | _ => none

/-- What a computation gives: its status and detail, its public output and its secret result (R318). -/
structure PkeResult where
  status : Half := Status.ok
  detail : Word := 0
  out : List Byte := []
  secret : List Byte := []

/-- A verification's outcome. -/
def pkeVerdict (ok : Bool) : PkeResult := if ok then {} else { status := Status.verifyFail }

/-- A failed check of an input or a key, as the detail word names it (R327). -/
def checkFail (code : Half) : PkeResult := { status := Status.inputInvalid, detail := 0x20000 + code.setWidth 32 }

/-- The private key of an EC, Ed25519 or X25519 type from random bytes, in the layout of 05 R162, and its public key (R318, R322). -/
def curveKeyOf (c : Curve) (r : List Byte) : List Byte × List Byte := let m := c.privateKey (c.scalar r); (m, m.drop c.f)

/-- The hedged nonce of ECDSA (R322): HMAC-SHA-512 and its extension are uninterpreted, their output is a little-endian number (DESIGN
CHOICE, log entry 110). -/
def ecdsaNonce (set : Nat) (d e rho : List Byte) : Nat :=
  let c := curveOf set
  c.scalar (Config.out (.nonce set) [d, e ++ rho] c.scalarLen)

/-- CHECK_KEY (R321): the code of a failed test. -/
def checkKeyFail (t : Byte) (m : List Byte) : Option Half :=
  if isRsaPriv t then (if (rsaKey (rsaLen (t.toNat % 8)) m).sound then none else some 0x0106)
  else if isEcPriv t then (if (curveOf (t.toNat % 8)).keyOk m then none else some 0x0209)
  else if sliceBytes m 32 32 = edPublic (sliceBytes m 0 32) then none else some 0x0307

/-- The result of an operation on its key, its input and its draw (R318, R322).  The algorithms of FIPS 203 and FIPS 204 are
uninterpreted (log entry 3). -/
def pkeCompute (j : PkeJob) (t : Byte) (key body drawn : List Byte) : PkeResult :=
  let set := j.set.toNat
  let k := rsaLen set
  let c := curveOf set
  match j.op.toNat with
  | 0x01 => { out := leBytes k ((rsaKey k key).priv (ofLe (body.take k))) }
  | 0x02 => { out := leBytes k (powMod (rsaKey k key).n (ofLe (body.take k)) (rsaKey k key).e) }
  | 0x10 => let p := curveKeyOf c drawn; { out := p.2, secret := p.1 }
  | 0x11 =>
    let d := key.take c.f
    { out := c.sign (ofLe d) (ecdsaNonce set d (body.take c.f) (drawn.take 32)) (ofLe (body.take c.f)) }
  | 0x12 =>
    let q := c.pointOf key
    let (e, r, s) := ecdsaFields c.f body
    pkeVerdict (c.verify q.1 q.2 e r s)
  | 0x13 => { secret := leBytes c.f ((c.mul (ofLe (key.take c.f)) (some (c.pointOf body))).getD (0, 0)).1 }
  | 0x20 =>
    if set = 0 then { out := edPublic drawn, secret := drawn ++ edPublic drawn }
    else { out := x25519Public drawn, secret := drawn }
  | 0x21 => { out := edSign (sliceBytes key 0 32) (sliceBytes key 32 32) body }
  | 0x22 =>
    match edDecode key, edDecode (body.take 32) with
    | .ok a, .ok r => pkeVerdict (edVerify key (body.take 32) (body.drop 64) a r (ofLe (sliceBytes body 32 32)))
    | _, _ => pkeVerdict false
  | 0x23 =>
    let z := x25519 key body
    if z.all (fun b => decide (b = 0)) then checkFail 0x0310 else { secret := z }
  | 0x30 => { out := Config.out (.publicKey (0x30 + set)) [drawn] (kemEk set), secret := drawn }
  | 0x31 => { out := Config.out (.encapsulate (0x38 + set)) [key, drawn] (kemCt set),
              secret := Config.out (.sharedSecret (0x38 + set)) [key, drawn] 32 }
  | 0x32 => { secret := Config.out (.sharedSecret (0x30 + set)) [key, body] 32 }
  | 0x38 => { out := Config.out (.publicKey (0x40 + set)) [drawn] (dsaPk set), secret := drawn }
  | 0x39 => { out := Config.out (.signature (0x40 + set)) [key, [BitVec.ofNat 8 (bit j.prehash)], body, drawn.take 32] (dsaSig set) }
  | 0x3A => pkeVerdict (Config.verdict (.verify (0x48 + set))
      [key, [BitVec.ofNat 8 (bit j.prehash)], body.drop (dsaSig set), body.take (dsaSig set)])
  | 0x40 => match checkKeyFail t key with | some x => checkFail x | none => {}
  | _ => {}

/-- The result of engine `n`'s operation. -/
def PkeEngine.compute (e : PkeEngine) (j : PkeJob) : PkeResult :=
  pkeCompute j e.scratch.type (e.keyBytes j) (e.body j) e.scratch.drawn

/-! ### Operations that firmware runs again (R25, R332, R336) -/

/-- Engine `n` is enabled and not quarantined. -/
def State.engineUp (s : State) (n : Nat) : Bool := s.unitOn (16 + n) && decide ((s.engine n).state.toNat ≤ 5)

/-- Engine `n` can take an operation of firmware: in service and idle, no halt. -/
def State.engineIdle (s : State) (n : Nat) : Bool := s.engineUp n && decide ((s.engine n).state = 0) && !s.alarm.halt

/-- Firmware keeps the operation of engine `n`, to run it again on an engine other than `avoid`. -/
def State.pkeKeep (n : Nat) (avoid : Option Nat) (s : State) : State :=
  let e := s.engine n
  match e.job with
  | none => s
  | some j => s.withFw fun f => { f with pkeAgain := f.pkeAgain ++ [{
      job := j, key := e.key, tenant := e.tenant, src := e.src, srcLen := e.srcLen, dst := e.dst, dstCap := e.dstCap
      master := Fin.ofNat 5 (e.owner.toNat - 65), irqDest := e.irqDest, irqEn := e.irqEn, avoid := avoid }] }

/-- The PKE_CMD write of a kept operation, by its owner. -/
def PkeWork.cmd (w : PkeWork) : PkeCmd :=
  { master := w.master, level := .machine, set := w.job.set, inline := w.job.inline, prehash := w.job.prehash, kout := w.job.kout,
    ch := w.job.ch, rsv := 0 }

/-- Firmware writes the first kept operation that may run there to engine `n`, when that is idle. -/
def State.pkeTake (n : Nat) (s : State) : State :=
  if !s.engineIdle n then s
  else match s.fw.pkeAgain.find? fun w => decide (w.avoid ≠ some n) with
    | none => s
    | some w =>
      ((s.withFw fun f => { f with pkeAgain := f.pkeAgain.erase w }).updEngine n fun e =>
        { e with key := w.key, tenant := w.tenant, src := w.src, srcLen := w.srcLen, dst := w.dst, dstCap := w.dstCap,
                 irqDest := w.irqDest, irqEn := w.irqEn }).pkeCmd n w.job.op w.cmd

/-- Firmware hands its kept operations to the idle engines, the lowest first (R332, R333, R336; log entry 35). -/
def State.pkeReissue (s : State) : State := (List.range 4).foldl (fun t n => t.pkeTake n) s

/-! ### The end of an operation -/

/-- The validation ends (R327): the operation fails with the first failed check, or goes on to compute. -/
def State.pkeValidate (n : Nat) (j : PkeJob) (s : State) : State :=
  let e := s.engine n
  match pkeFailed j (e.keyBytes j) (e.body j) with
  | some c => ((s.pkeChanFail j Status.inputInvalid).pkeEnd n Status.inputInvalid (checkFail c).detail 0 0).pkeTimed n
  | none => s.updEngine n fun e => { e with state := 4 }

/-- PKE_VALIDATION_END (R326, R327). -/
def execPkeValidationEnd (n : Fin 4) (s : State) : Host.Outcome State Fault Refusal :=
  let e := s.engine n.val
  .next (match e.job with
    | some j => if e.state = 3 ∧ s.rng.audit = false then (s.pkeValidate n.val j).pkeReissue else s
    | none => s)

/-- The material of a slot result: the private key of a key generation, or the one-step derivation from the shared secret
(R320). -/
def pkeMaterial (j : PkeJob) (a : Attr) (secret : List Byte) : List Byte :=
  if pkeKeygen j.op.toNat then secret
  else kmac256 (List.replicate 32 0) (secret ++ attrBytes a) (ascii "KDF") (matLenOf a)

/-- Deliver a slot result through key-store channel CH as a GENERATE would (R320): a derived key needs an AES or HMAC
template. -/
def State.pkeDeliver (j : PkeJob) (secret : List Byte) (s : State) : State :=
  let x := s.keys.chan j.ch.val
  let a := x.template
  if !pkeKeygen j.op.toNat && !(isAes a.type || isHmac a.type) then
    s.withKeys fun k => k.endChanErr j.ch.val (attrErr 0 0)
  else s.keyChanCreate j.ch.val a (pkeMaterial j a secret) x.place

/-- The output DMA goes on from byte `m` of the public output (R317): it stops at a beat that its MPU refuses; after the last byte the
slot result is delivered and the operation ends. -/
def State.pkeCopy (n m : Nat) (j : PkeJob) (checked : Bool) (s : State) : State :=
  let e := s.engine n
  let len := pkeOutLen j
  let out := Bank.readBytes e.mem 0x2000 len
  match (if checked then s.dmaRefused (6 + n) true (e.dst.toNat + m) (len - m) else none) with
  | some (acc, r) =>
    let d := acc.addr - e.dst.toNat
    ((s.sramWrite (e.dst.toNat + m) (sliceBytes out m (d - m))).updEngine n fun e => { e with copied := some d }).dmaFault (6 + n) acc r
  | none =>
    let s1 := if len = m then s else s.sramWrite (e.dst.toNat + m) (out.drop m)
    (if j.kout then s1.pkeDeliver j e.scratch.secret else s1).pkeEnd n Status.ok 0 len 0

/-- A passed operation ends (R318, R331): its status, or its public output at the destination and its slot result in the key store. -/
def State.pkeFinish (n : Nat) (j : PkeJob) (d : PkeDone) (checked : Bool) (s : State) : State :=
  let r := (s.engine n).compute j
  let s0 := s.updEngine n fun e => { e with time := d.pclk, iter := if j.op = 0x39 then BitVec.ofNat 10 d.iter else e.iter }
  if r.status ≠ Status.ok then (s0.pkeChanFail j r.status).pkeEnd n r.status r.detail 0 0
  else (s0.updEngine n fun e =>
    { e with mem := Bank.writeBytes e.mem 0x2000 (padTo (pkeOutLen j) r.out), scratch := { e.scratch with secret := r.secret }
             copied := some 0 }).pkeCopy n 0 j checked

/-- The self-check of a run has failed (R332): a rerun from the start with fresh blinding, up to two; then source 45, quarantine, and
firmware's reissue on another engine. -/
def State.pkeFail (n : Nat) (j : PkeJob) (d : PkeDone) (s : State) : State :=
  if (s.engine n).reruns.toNat < 2 then
    ((s.updEngine n fun e => { e with reruns := e.reruns + 1, scratch := {}, input := [] }).pkeRun n j true).eventFree (0x10 + n) 1
  else
    let s1 := ((s.pkeKeep n (some n)).pkeChanFail j Status.aborted).pkeEnd n Status.aborted 0x45 0 6
    let s2 := s1.updEngine n fun e => { e with qcount := satAdd e.qcount 1, time := d.pclk }
    (s2.event (0x10 + n) 2 2).raise 45 (BitVec.ofNat 32 n)

/-- PKE_OP_DONE (R329, R331, R332): a passed check gives the result, a failed one a rerun or the quarantine; 1,000 iterations of
MLDSA_SIGN count as a failure.  While the output DMA has been stopped, it goes on. -/
def execPkeOpDone (n : Fin 4) (d : PkeDone) (s : State) : Host.Outcome State Fault Refusal :=
  let e := s.engine n.val
  .next (match e.job with
    | none => s
    | some j =>
      if e.state ≠ 4 ∨ s.pkeMoves n.val = false then s
      else match e.copied with
        | some m => (s.pkeCopy n.val m j true).pkeReissue
        | none =>
          if d.checkOk && !(decide (j.op = 0x39) && decide (1000 ≤ d.iter)) then (s.pkeFinish n.val j d true).pkeReissue
          else (s.pkeFail n.val j d).pkeReissue)

/-! ### Abort, clear and known-answer test (R333-R335) -/

/-- The state starts clearing (R334, R335); scratch is zeroised. -/
def PkeEngine.startClear (why : PkeClearing) (e : PkeEngine) : PkeEngine :=
  { e with state := 5, clearing := why, abortGo := e.abortGo || decide (why = .abort), clearGo := e.clearGo || decide (why = .clear)
           scratch := {}, input := [], copied := none }

/-- PKE_ABORT (R334): by the owner or by the Cobbler, while an operation is in progress. -/
def execPkeAbort (n : Fin 4) (master : CoreNo) (level : Level) (v : Word) (s : State) : Host.Outcome State Fault Refusal :=
  let e := s.engine n.val
  .next (if v.getLsbD 0 = true ∧ level ≠ .user ∧ (e.owner.toNat = 65 + master.val ∨ master.val = 4)
      ∧ e.state ≠ 0 ∧ e.state ≠ 6 ∧ e.state ≠ 7 then
    s.updEngine n.val (PkeEngine.startClear .abort)
  else s)

/-- PKE_CLEAR (R335): while STATE is IDLE. -/
def execPkeClear (n : Fin 4) (master : CoreNo) (level : Level) (v : Word) (s : State) : Host.Outcome State Fault Refusal :=
  .next (if v.getLsbD 0 = true ∧ level ≠ .user ∧ master.val ≤ 4 ∧ (s.engine n.val).state = 0 then
    s.updEngine n.val (PkeEngine.startClear .clear)
  else s)

/-- PKE_CLEAR_DONE (R334 steps 3 and 4, R335, R336): operand memory is zero; after an abort or a halt the operation ends with ABORTED,
and firmware keeps one that a halt has ended. -/
def execPkeClearDone (n : Fin 4) (s : State) : Host.Outcome State Fault Refusal :=
  let e := s.engine n.val
  .next (if e.state ≠ 5 then s
  else
    let s0 := if e.clearing = .halt then s.pkeKeep n.val none else s
    let s1 := s0.updEngine n.val fun e => { e with mem := [], clearing := .no, abortGo := false, clearGo := false, state := 0 }
    if e.clearing = .clear then s1.pkeReissue
    else
      let s2 := s1.withRng fun r => { r with freshQueue := r.freshQueue.filter fun q => decide (q ≠ .pke n.val) }
      (((match e.job with
        | some j => s2.pkeChanFail j Status.aborted
        | none => s2).pkeEnd n.val Status.aborted 0 0 0).pkeTimed n.val).pkeReissue)

/-- PKE_KAT_RUN (R333, R339): when QUARANTINED with QCOUNT below 3; its blinding is one request to the engine's instance. -/
def execPkeKatRun (n : Fin 4) (level : Level) (s : State) : Host.Outcome State Fault Refusal :=
  let e := s.engine n.val
  .next (if level ≠ .user ∧ e.state = 6 ∧ e.qcount.toNat < 3 then
    let t := if s.rng.serves (5 + n.val) then s.instDraw (5 + n.val) false 32 fun _ u => u else s
    t.updEngine n.val fun e => { e with katRun := true }
  else s)

/-- PKE_KAT_DONE (R333): a pass returns the engine to service. -/
def execPkeKatDone (n : Fin 4) (pass : Bool) (s : State) : Host.Outcome State Fault Refusal :=
  .next (if (s.engine n.val).katRun then
    (s.updEngine n.val fun e => { e with katRun := false, katDone := true, katPass := pass,
                                         
                                         state := if pass ∧ e.state = 6 then (if s.unitOn (16 + n.val) then 0 else 7) else e.state }).pkeReissue
  else s)

/-! ### Operations of firmware inside a host command (01 R19; R315-R324) -/

/-- What firmware asks of an engine: an operation, its flags and key, its input, and the template of a slot result. -/
structure FwOp where
  op : Byte
  set : Nat := 0
  inline : Bool := false
  prehash : Bool := false
  key : Word := 0
  tenant : Half := 0xFFFF
  input : List Byte := []
  template : Option Attr := none

/-- Firmware's input buffer in custody SRAM, and its output buffer 2 MiB above; where they stand is not stated (log entry 86). -/
def fwIn : Nat := 0x10000000 + 8 * (Config.fwBuffer % 0x40000)
def fwOut : Nat := fwIn + 0x200000

/-- The PKE_CMD write of custody core `c`. -/
def FwOp.cmd (q : FwOp) (c : Nat) : PkeCmd :=
  { master := Fin.ofNat 5 c, level := .machine, set := BitVec.ofNat 3 q.set, inline := q.inline, prehash := q.prehash,
    kout := q.template.isSome, ch := Fin.ofNat 4 c, rsv := 0 }

/-- Firmware on core `c` places the input in custody SRAM, prepares its key-store channel, writes the registers of engine `n`, and takes
the completion (R318-R331).  The iterations and the time are free values (log entry 4). -/
def State.fwEngine (n c : Nat) (q : FwOp) (s : State) : State :=
  let j := pkeJobOf q.op (q.cmd c)
  let s1 := if q.input = [] then s else s.sramWrite fwIn q.input
  let s2 := match q.template with
    | some a => s1.withKeys fun k => k.updChan c fun x => { x with
        any := true, attr := (List.range 8).foldl (fun b i => Bank.set 0 i (wordOf (attrBytes a) i) b) x.attr }
    | none => s1
  let s3 := (s2.updEngine n fun e => { e with
    key := q.key, tenant := q.tenant, src := BitVec.ofNat 32 fwIn, srcLen := BitVec.ofNat 21 q.input.length
    dst := BitVec.ofNat 32 fwOut, dstCap := BitVec.ofNat 14 (pkeOutLen j), irqDest := BitVec.ofNat 3 c }).pkeCmd n q.op (q.cmd c)
  let s4 := if (s3.engine n).state = 2 then s3.pkeLoad n j else s3
  let s5 := if (s4.engine n).state = 3 then s4.pkeValidate n j else s4
  let s6 := if (s5.engine n).state = 4 then s5.draw 8 (fun b t =>
      t.pkeFinish n j { checkOk := true, iter := ofLe (b.take 2) % 999 + 1, pclk := wordOf b 1 } false) else s5
  s6.updEngine n fun e => { e with irqPend := false }

/-- The public output that the last operation of engine `n` left in firmware's buffer. -/
def State.fwOutput (s : State) (n : Nat) : List Byte := s.sramRead fwOut (s.engine n).outLen.toNat

end Sys2Proof.Machine
end

