-- ==== Sys2Proof/Machine/WeltOps.lean ====
section
/-! DEFINITION. Shared operations of the pair (16): mirror records that wait for their acknowledgement, counter leases, and
the state predicates other chapters use. -/

namespace Sys2Proof.Machine

/-- The code of a pair state (16 R484). -/
def pairCode : PairState → Nat
  | .unpaired => 0 | .linking => 1 | .resync => 2 | .paired => 3 | .degraded => 4 | .carrying => 5 | .given => 6 | .fenced => 7

/-- Mirror records are sent (16 R465) while the pair is PAIRED; in RESYNC the rules for DEGRADED apply (R467). -/
def Welt.mirroring (w : Welt) : Bool := decide (w.state = .paired)

/-- The device number, from the loaded membership (07 R228), and the number in use, 0 without one. -/
def Fw.device (f : Fw) : Option Half := f.membership.map Membership.device
def State.devNo (s : State) : Half := s.fw.device.getD 0

/-! ### Frames (16 R460) -/

/-- Send a frame on lane `l` when it is up; Welt lanes appear as ports 16 and 17 (log entry 40). -/
def State.weltFrame (l : Nat) (type : Byte) (body : List Byte) (s : State) : State :=
  if s.welt.lanes.getLsbD l then
    (s.withOut fun o => { o with frames := (16 + l, mkFrame type 0 s.welt.txSeq body) :: o.frames }).withWelt
      fun w => { w with txSeq := if type = 0x2F then w.txSeq else w.txSeq + 1 }
  else s

/-- Send a frame on both lanes. -/
def State.weltBoth (type : Byte) (body : List Byte) (s : State) : State := (s.weltFrame 0 type body).weltFrame 1 type body

/-- The IV of a protected frame: device number in [95:80], frame counter in [63:0], stored as 12 octets. -/
def weltIv (dev : Half) (n : Long) : List Byte := leBytes 12 (dev.toNat * 2 ^ 80 + n.toNat)

/-- Send a protected frame on lane `l`: ciphertext and tag under the session key, the header as AAD. -/
def State.weltSealed (l : Nat) (type : Byte) (plain : List Byte) (s : State) : State :=
  match s.welt.sessionKey with
  | none => s
  | some k =>
    if s.welt.lanes.getLsbD l then
      let head := frameHead type 0 s.welt.txSeq (plain.length + 16)
      let x := gcmSeal k (weltIv s.devNo s.welt.txCounter) head plain
      (s.weltFrame l type (x.1 ++ x.2)).withWelt fun w => { w with txCounter := w.txCounter + 1 }
    else s

/-- The lowest lane that is up. -/
def Welt.lane (w : Welt) : Nat := if w.lanes.getLsbD 0 then 0 else 1

/-! ### Mirror records (16 R465) -/

/-- Bytes of a mirror record. -/
def recordSize : MirrorRec → Nat
  | .keyLoad _ b => 16 + b.length
  | .keyUnload _ => 8
  | .lease .. | .counts .. => 16
  | .ringCfg .. | .window .. | .staged .. => 64
  | .context .. => 136
  | .portCfg .. => 80
  | .logHead .. => 24

/-- Put a record into a MIRROR frame, of at least 16 bytes (R460), or a DEPART, on a lane.  The layout of a record inside the frame
is not stated: free bytes (log entry 96). -/
def State.putItem (l : Nat) (it : MirrorItem) (s : State) : State :=
  match it with
  | .depart reason => s.weltSealed l 0x26 (reason :: List.replicate 7 0)
  | .record r => s.draw (max 16 (recordSize r)) fun bs t => t.weltSealed l 0x24 bs

/-- Send a record or a DEPART; it waits for its ACK. -/
def State.sendItem (it : MirrorItem) (lease : Option (Nat × Nat)) (s : State) : State :=
  let q := s.welt.waiting ++ [{ seq := s.welt.mirrorSeq, item := it, lane := s.welt.lane, lease := lease }]
  (s.withWelt fun w => { w with waiting := q, mirrorSeq := w.mirrorSeq + 1, hw := BitVec.ofNat 16 (max w.hw.toNat q.length) }).putItem
    s.welt.lane it

/-- Send a mirror record, in any state of the pair. -/
def State.sendRecord (r : MirrorRec) (s : State) : State := s.sendItem (.record r) none

/-- Send a mirror record while the pair mirrors. -/
def State.mirror (r : MirrorRec) (s : State) : State := if s.welt.mirroring then s.sendRecord r else s

/-- The record of a ring's counts, and of its configuration. -/
def Rings.countsRec (rs : Rings) (r : Nat) : MirrorRec :=
  let g := rs.get r
  .counts (Fin.ofNat _ r) g.p g.f g.c
def Rings.configRec (rs : Rings) (r : Nat) (destroyed : Bool) : MirrorRec :=
  let g := rs.get r
  .ringCfg (Fin.ofNat _ r) g.fn.toFin g.vector g.size g.tenant g.irqEn g.desc g.cmpl g.shd destroyed

/-- The class-0 blob of a run, under DK (05 R173): while slot 2 holds none, the wrapping key is empty (DESIGN CHOICE, log entry 100). -/
def Keys.dkBlob (k : Keys) (r : KeyRun) : List Byte := blobOf 0 r (((k.present 2).map KeyRun.material).getD [])

/-- The record of the key in head slot `n`: own handle and class-0 blob (R464). -/
def Keys.loadRec (k : Keys) (n : Nat) (r : KeyRun) : MirrorRec := .keyLoad (k.handleOf n) (k.dkBlob r)

/-- The 128 bytes of a context entry (07 R237). -/
def Context.bytes (x : Context) : List Byte :=
  leBytes 4 x.ref.toNat ++ [x.opcode, BitVec.ofNat 8 (bit x.inverse)] ++ leBytes 2 x.cuts.toNat ++ leBytes 4 x.key.toNat
    ++ leBytes 4 x.tweakKey.toNat ++ padTo 16 x.chain ++ padTo 16 x.acc.a ++ padTo 16 x.acc.b ++ padTo 16 x.h.a ++ padTo 16 x.h.b
    ++ leBytes 8 x.aad.toNat ++ leBytes 8 x.done.toNat ++ padTo 12 x.iv ++ [0, 0, 0, 0]

/-- The record of a job's context. -/
def contextRecord (k : Nat) (x : Context) : MirrorRec := .context (Fin.ofNat _ (jobRing k)) (jobNum k) x.bytes

/-- The counts of a ring have changed. -/
def State.mirrorCounts (r : Nat) (s : State) : State := s.mirror (s.rings.countsRec r)

/-- The entry that a mirrored record of kind 6 holds. -/
def contextOf (l : List Byte) : Context :=
  let f (i n : Nat) : Nat := ofLe (sliceBytes l i n)
  { ref := BitVec.ofNat 32 (f 0 4), opcode := l.getD 4 0, inverse := decide (l.getD 5 0 = 1), cuts := BitVec.ofNat 16 (f 6 2),
    key := BitVec.ofNat 24 (f 8 4), tweakKey := BitVec.ofNat 24 (f 12 4), chain := sliceBytes l 16 16,
    acc := { a := sliceBytes l 32 16, b := sliceBytes l 48 16 }, h := { a := sliceBytes l 64 16, b := sliceBytes l 80 16 },
    aad := BitVec.ofNat 64 (f 96 8), done := BitVec.ofNat 64 (f 104 8), iv := sliceBytes l 112 12 }

/-! ### Leases (05 R172, 16 R465) -/

/-- The lease key of the key in head slot `n`: leases belong to one load (05 R172). -/
def leaseKey (n : Nat) (r : KeyRun) : Nat := n + 32768 * r.attr.generation.toNat

/-- A reservation from the run may proceed now (05 R172, 16 R465): inside the acknowledged lease while mirroring. -/
def Welt.leaseOk (w : Welt) (n : Nat) (r : KeyRun) : Bool :=
  !w.mirroring || decide (r.counter.toNat < Bank.get 0 w.leases (leaseKey n r))

/-- The next lease is due: half of the current one is used and no grant waits for its ACK (R465).  In RESYNC too, so that the partner
holds a top above every counter value reserved when the pair is PAIRED (05 R172). -/
def Welt.leaseDue (w : Welt) (n : Nat) (r : KeyRun) : Bool :=
  decide (w.state = .paired ∨ w.state = .resync) && decide (Bank.get 0 w.leases (leaseKey n r) ≤ r.counter.toNat + 2048)
    && !w.waiting.any fun m => decide (m.lease.map Prod.fst = some (leaseKey n r))

/-- Grant the next lease of a run: 4,096 values past the acknowledged top, or past the counter where reservations made outside the
PAIRED state have passed that top (R465). -/
def State.leaseGrant (n : Nat) (r : KeyRun) (s : State) : State :=
  let top := max (Bank.get 0 s.welt.leases (leaseKey n r)) r.counter.toNat + 4096
  s.sendItem (.record (.lease (Fin.ofNat _ n) (BitVec.ofNat 32 (min top 0xFFFFFFFF)))) (some (leaseKey n r, top))

/-- Send the next lease of a run when it is due. -/
def State.leaseSend (n : Nat) (s : State) : State :=
  match Bank.get none s.keys.runs n with
  | none => s
  | some r => if s.welt.leaseDue n r then s.leaseGrant n r else s

/-- Fetching has stopped on this member's own rings: FENCED, or GIVEN after a handover (R469, R474). -/
def Welt.ringsStopped (w : Welt) : Bool := decide (w.state = .fenced ∨ w.state = .given)

/-- What a mirrored record brings to the job at a ring and count (16 R471): of a ring carried for the partner, or of an own
ring taken back. -/
def Welt.record (w : Welt) (carried : Bool) (ring : Nat) : Option PartnerRing :=
  Bank.get none (if carried then w.rings else w.back) ring

/-- The staged-sector record of a job. -/
def Welt.stagedRec (w : Welt) (carried : Bool) (ring : Nat) (n : Word) : Option (List Byte × List Byte × Nat) :=
  match w.record carried ring with
  | some p => (p.staged.find? fun e => decide (e.1 = n.toNat)).map Prod.snd
  | none => none

/-- The context that a mirrored record brings to a job, and its entry as firmware holds it. -/
def Welt.contextRec (w : Welt) (carried : Bool) (ring : Nat) (n : Word) : Option Context :=
  match w.record carried ring with
  | some p => (p.contexts.find? fun e => decide (e.1 = n.toNat)).map fun e => contextOf e.2
  | none => none

/-- The windows of the function of a carried ring are the mirrored ones (R465 kind 4; DEDUCED, log entry 97). -/
def Welt.inWindow (w : Welt) (f : Nat) (a : Long) (len : Nat) : Bool :=
  inWindows ((List.range 8).any fun k => decide (Bank.get (0, 0) w.partnerWindows (f + 64 * k) ≠ (0, 0)))
    (fun k => Bank.get (0, 0) w.partnerWindows (f + 64 * k)) f a len

/-- The IV of a mirrored record: bytes 12-23 of a sector header, or bytes 112-123 of a context entry (08 R276, 07 R237). -/
def Welt.recordedIv (w : Welt) (carried : Bool) (ring : Nat) (n : Word) (o : Byte) : Option (BitVec 96) :=
  if o = 0x20 then (w.stagedRec carried ring n).map fun e => BitVec.ofNat 96 (ofLe (sliceBytes e.1 12 12))
  else match w.record carried ring with
    | some p => (p.contexts.find? fun e => decide (e.1 = n.toNat)).map fun e => BitVec.ofNat 96 (ofLe (sliceBytes e.2 112 12))
    | none => none

end Sys2Proof.Machine
end

