-- ==== Sys2Proof/Machine/Alarm.lean ====
section
/-! DEFINITION. Meanings of the alarm controller's and tamper log's commands (13). -/

namespace Sys2Proof.Machine

/-- ALARM_ASSERT (R383, R390, R396): the assertions of one tick, applied on main power, or under R399 while the shelf is dark. -/
def execAlarmAssert (tick : List (Fin 57 × Word)) (s : State) : Host.Outcome State Fault Refusal :=
  let l := (tick.filter fun p => sourceMet p.1.val p.2).map fun p => (p.1.val, p.2, false)
  .next ((s.c3Tick l).alarmTick l)

/-- ALARM_ASSERT_DARK (R399). -/
def execAlarmAssertDark (src : Fin 57) (detail : Word) (s : State) : Host.Outcome State Fault Refusal :=
  .next (if s.boot.dark && sourceMet src.val detail then (s.c3Set src.val true).assertDark src.val detail (Bank.get 0 s.log.kept src.val) else s)

/-- The device is a member of a bound pair (16). -/
def State.paired (s : State) : Bool := !decide (s.welt.state = .unpaired ∨ s.welt.state = .linking)

/-- MAIN_RESET_ASSERT (R391): the decided reset is asserted; an unpaired device with its link in L0 has written
UNRECOVERABLE completions (06 R214).  The reset of codes 5 and 6 comes after the zeroisation, that of code 4 does not wait (R390,
R397). -/
def execMainResetAssert (s : State) : Host.Outcome State Fault Refusal :=
  .next (if s.alarm.resetDecided && !s.boot.inReset && (s.alarm.resetNow || !s.alarm.zero) then
    (if s.paired || !s.pins.linkL0 then s else s.abortJobs (fun _ => true) Status.unrecoverable 0).assertReset
  else s)

/-- Every halted engine has cleared (R392). -/
def haltCleared (s : State) : Bool := (List.range 4).all fun n => decide ((Bank.get {} s.pke n).clearing ≠ .halt)

/-- A source whose code in force is 3 is asserted (R392). -/
def code3Asserted (s : State) : Bool :=
  (List.range 57).any fun n => s.alarm.asserted.getLsbD n && decide (effCode (s.alarm.code n) = 3)

/-- HALT_LIFT (R392): a code-3 halt; one that a decided reset ends does not lift (R397).  Firmware reruns the engines' operations (10
R336). -/
def execHaltLift (s : State) : Host.Outcome State Fault Refusal :=
  .next (if haltCleared s && !code3Asserted s && !s.alarm.resetDecided then
    (s.withAlarm fun a => { a with halt := false }).pkeReissue else s)

/-- Mirror the chain head of the tamper log with its extended sequence (16 R465 kind 9). -/
def State.mirrorHead (s : State) : State := s.mirror (.logHead (s.log.next - 1) s.log.head)

/-- LOG_COMMIT (R403; 16 R465 kind 9): the first registered entry is committed. -/
def execLogCommit (s : State) : Host.Outcome State Fault Refusal :=
  .next (if s.log.queue.isEmpty then s else (s.withLog fun l => l.commit s.boot.dark).mirrorHead)

/-- COALESCE_WINDOW_END (R404 step 3). -/
def execCoalesceWindowEnd (src : Fin 57) (s : State) : Host.Outcome State Fault Refusal :=
  .next (s.withLog (Log.windowEnd src.val (some s.boot.dark) s.insole.rtc))

/-- ALM_RAISE (R383 source 56, R410): GO asserts source 56 with the detail of ALM_RAISE_DET; machine level only. -/
def execAlmRaise (writer : CoreNo) (level : Level) (v : Word) (s : State) : Host.Outcome State Fault Refusal :=
  .next (if level = .machine ∧ v.getLsbD 0 = true then
    s.alarmTick [(56, s.alarm.raiseDet, decide (writer.val = 4 ∧ s.alarm.raiseDet = 0x43))]
  else s)

/-- The code that field `j` of an ALM_RESP word holds (R410). -/
def respField (v : Word) (j : Nat) : BitVec 3 := (v >>> (8 * j)).setWidth 3

/-- Write the four codes of ALM_RESP_k to a table; the reserved sources 57-63 are ignored (R395). -/
def setResp (k : Nat) (v : Word) (b : Bank (BitVec 3)) : Bank (BitVec 3) :=
  (List.range 4).foldl (fun b j => if 4 * k + j < 57 then Bank.set 0 (4 * k + j) (respField v j) b else b) b

/-- ALM_RESP_WRITE (R395): machine level only; the kept table takes the copy. -/
def execAlmRespWrite (level : Level) (k : Fin 16) (v : Word) (s : State) : Host.Outcome State Fault Refusal :=
  .next (if level = .machine then
    (s.withAlarm fun a => { a with resp := setResp k.val v a.resp }).withLog fun l => { l with kept := setResp k.val v l.kept }
  else s)

/-- ALM_LOG_EXP_WRITE (R408): machine level only. -/
def execAlmLogExpWrite (level : Level) (v : Word) (s : State) : Host.Outcome State Fault Refusal :=
  .next (if level = .machine then s.withLog (Log.setExp v) else s)

/-- The release of R408 with the summaries of R406. -/
def State.logRelease (v : Word) (s : State) : State :=
  s.draw 58 fun free t => t.withLog (Log.release v t.insole.rtc free)

/-- ALM_LOG_REL_WRITE (R408): machine level only. -/
def execAlmLogRelWrite (level : Level) (v : Word) (s : State) : Host.Outcome State Fault Refusal :=
  .next (if level = .machine then s.logRelease v else s)

/-- ALM_LOG_DATA_READ (R408): the word of the selected entry, 0 when it is not held. -/
def execAlmLogDataRead (w : Fin 8) (s : State) : Host.Outcome State Fault Refusal :=
  .next ((s.setRead (match s.log.find s.alarm.logSel with
      | some e => wordOf e.bytes w.val
      | none => 0)).withLog fun l => l.readWord s.alarm.logSel w.val)

/-- TAMP_STEP (R387): TAMP_OUT_n takes a new pseudo-random level; a filtered TAMP_IN_n that has another `level` 8 µs later asserts
source 50 + n, with the kind of fault as detail. -/
def execTampStep (loop : Fin 4) (level : Bool) (detail : Word) (s : State) : Host.Outcome State Fault Refusal :=
  .next (s.draw 1 fun r t =>
    let out := (r.getD 0 0).getLsbD 0
    let u := t.withInsole fun i => { i with tampOut := setBit i.tampOut loop.val out }
    if level ≠ out then u.alarmTick [(50 + loop.val, detail, false)] else u)

/-- ALARM_SOURCE_DEASSERT (R392): the source is no longer asserted. -/
def execAlarmSourceDeassert (src : Fin 57) (s : State) : Host.Outcome State Fault Refusal :=
  .next (s.deassert src.val)

end Sys2Proof.Machine
end

