-- ==== Sys2Proof/Machine/Digest.lean ====
section
/-! DEFINITION. Meanings of the digest channels' and measurement registers' commands (11). -/

namespace Sys2Proof.Machine

/-! ### Algorithms (R341) -/

def digDefined (a : Byte) : Bool :=
  let n := a.toNat
  decide ((1 ≤ n ∧ n ≤ 9) ∨ (0x11 ≤ n ∧ n ≤ 0x14) ∨ n = 0x18 ∨ n = 0x19)
def digKeyed (a : Byte) : Bool := decide (0x11 ≤ a.toNat)
def digKmac (a : Byte) : Bool := decide (a = 0x18 ∨ a = 0x19)
/-- Output length is as requested: SHAKE and KMAC on channels. -/
def digXof (a : Byte) : Bool := decide (a = 8 ∨ a = 9) || digKmac a

/-- Output bytes of a fixed-length algorithm; KMAC's on rings. -/
def digOut (a : Byte) : Nat :=
  match a.toNat with
  | 1 => 28 | 2 => 32 | 3 => 48 | 4 => 64 | 5 => 32 | 6 => 48 | 7 => 64
  | 0x11 => 28 | 0x12 => 32 | 0x13 => 48 | 0x14 => 64
  | 0x18 => 32 | 0x19 => 64
  | _ => 0

/-- Block or rate in bytes. -/
def digBlock (a : Byte) : Nat := if digDefined a then algBlock a.toNat else 1

/-! ### Units and dealing (R347) -/

def Dig.unitAt (d : Dig) (u : Nat) : DigUnit := Bank.get {} d.units u
def Dig.updUnit (d : Dig) (u : Nat) (f : DigUnit → DigUnit) : Dig := { d with units := Bank.upd {} u f d.units }
def Dig.chan (d : Dig) (m : Nat) : DigChan := Bank.get {} d.chans m
def Dig.updChan (d : Dig) (m : Nat) (f : DigChan → DigChan) : Dig := { d with chans := Bank.upd {} m f d.chans }

/-- Work for the next offer: channels first, lowest first, then the ring job ready longest (R347); ring jobs wait before
RNG_READY (R348). -/
def Dig.nextWork (rngReady : Bool) (d : Dig) : Option DigWork :=
  match (List.range 5).find? fun m => d.ready.contains (.chan m) with
  | some m => some (.chan m)
  | none => if rngReady then d.ready.head? else none

/-- A free unit that is enabled and not quarantined. -/
def Dig.unitFree (d : Dig) (on : BitVec 4) (u : Nat) : Bool :=
  (d.unitAt u).work.isNone && !(d.unitAt u).quar && on.getLsbD u

/-- Every free unit takes work, lower unit first; nothing is dealt in audit mode (R348). -/
def Dig.deal (audit rngReady : Bool) (on : BitVec 4) (d : Dig) : Dig :=
  if audit then d
  else (List.range 4).foldl (fun (d : Dig) u =>
    if d.unitFree on u then
      match d.nextWork rngReady with
      | some w => { d.updUnit u (fun x => { x with work := some w }) with ready := d.ready.filter fun x => decide (x ≠ w) }
      | none => d
    else d) d

def State.digDeal (s : State) : State := s.withDig (Dig.deal s.rng.audit s.rng.ready s.digOn)

/-! ### Channel operations (R349, R350) -/

/-- OP codes (R350). -/
abbrev dINIT : Byte := 1
abbrev dUPDATE : Byte := 2
abbrev dFINAL : Byte := 3
abbrev dSAVE : Byte := 4
abbrev dRESTORE : Byte := 5
abbrev dEXTEND : Byte := 6
abbrev dABORT : Byte := 7

/-- The usage of a keyed INIT (R349 check 7). -/
def digUsage (k : DigCmd) : Nat := if k.verify then uMACVERIFY else if k.kout then uDERIVE else uMACGEN

/-- The bytes FINAL outputs: as requested for SHAKE, KMAC and KOUT, otherwise the algorithm's length (R341, R352). -/
def digFinalLen (x : DigChan) (a : Byte) (kout : Bool) : Nat :=
  if digXof a || (kout && !decide (x.outLen = 0)) then x.outLen.toNat else digOut a

/-- OUTLEN outside R341 for the algorithm, or non-zero for a fixed-length one (R349 check 4; with KOUT it is the material
length, R352, log entry 34). -/
def digOutBad (x : DigChan) (a : Byte) (kout : Bool) : Bool :=
  if digXof a then !decide (1 ≤ x.outLen.toNat ∧ x.outLen.toNat ≤ 65536)
  else if kout then !decide (x.outLen.toNat ≤ digOut a)
  else !decide (x.outLen = 0)

/-- Whether an algorithm may extend register `n` (R357; R349 check 9). -/
def measBad (d : Dig) (n : Nat) (a : Byte) : Bool :=
  let l := (Bank.get {} d.meas n).alg
  !decide (2 ≤ a.toNat ∧ a.toNat ≤ 7) || (!decide (l = 0) && !decide (l = a))

/-- The checks of R349 in order, and NOT_READY when no unit is enabled (R348). -/
def digCheck (s : State) (x : DigChan) (op : Byte) (k : DigCmd) : Option (Half × Word) :=
  let c := x.ctx
  let ca := (c.map DigCtx.alg).getD 0
  let ck := (c.map DigCtx.ksrc).getD 0
  let reads := decide (op = dUPDATE ∨ op = dFINAL ∨ op = dEXTEND) || (decide (op = dINIT) && digKmac k.alg)
  let writes := decide (op = dFINAL) && !k.verify && !k.kout && !k.meas
  match firstFail [
    (!decide (1 ≤ op.toNat ∧ op.toNat ≤ 7), (Status.badOpcode, (0 : Word))),
    (!decide (k.rsv = 0)
      || (decide (op = dINIT ∨ op = dEXTEND) && !digDefined k.alg)
      || decide (2 ≤ bit k.verify + bit k.kout + bit k.meas)
      || (!decide (k.ksrc = 0) && (!decide (k.level = .machine) || !k.kout))
      || (decide (op = dINIT ∨ op = dRESTORE) && c.isSome)
      || (decide (op = dUPDATE ∨ op = dFINAL ∨ op = dSAVE) && c.isNone)
      || (!decide (ck = 0) && (decide (op = dSAVE) || (decide (op = dFINAL) && !k.kout))), (Status.badFormat, 0)),
    ((k.kout || !decide (k.ksrc = 0)) && decide (s.boot.phase = .service), (Status.phase, 0)),
    ((decide (op = dUPDATE) && !decide (x.len.toNat % digBlock ca = 0))
      || (decide (op = dINIT) && digKmac k.alg && !decide (x.len.toNat ≤ 256))
      || (decide (op = dFINAL) && digOutBad x ca k.kout)
      || (decide (op = dFINAL) && k.verify && (decide (x.vlen = 0) || decide (64 < x.vlen.toNat) || decide (digFinalLen x ca false < x.vlen.toNat)))
      || (decide (op = dEXTEND) && !decide (x.len.toNat = digOut k.alg)), (Status.lengthRange, 0)),
    ((reads && !decide (x.len = 0) && !inSram x.src.toNat x.len.toNat) || (writes && !inSram x.dst.toNat (digFinalLen x ca false)),
      (Status.window, 0x80000000)),
    (decide (op = dSAVE ∧ 2 ^ 32 ≤ s.dig.seals), (Status.nonceExhausted, 0))] with
  | some e => some e
  | none =>
    let key : Option (Half × Word) :=
      if op = dINIT ∧ digKeyed k.alg = true ∧ k.ksrc = 0 then
        match s.keys.lookup x.key (ownerOf x.tenant) (some (digUsage k)) with
        | .error e => some (e.status, e.detail)
        | .ok r => if isHmac r.attr.type then none else some (Status.keyUsage, x.key)
      else none
    match key with
    | some e => some e
    | none =>
      firstFail [
        (decide (k.ksrc = 2) && s.insole.ik.isNone, (Status.notReady, 2)),
        ((decide (op = dEXTEND) && measBad s.dig k.midx.val k.alg) || (decide (op = dFINAL) && k.meas && measBad s.dig k.midx.val ca),
          (Status.inputInvalid, 0)),
        (decide (s.digOn = 0) && !decide (op = dABORT), (Status.notReady, 4))]

/-- A channel operation ends: DONE, the interrupt, status and detail (R360). -/
def State.digEnd (m : Nat) (st : Half) (detail : Word) (s : State) : State :=
  let x := s.dig.chan m
  let s1 := match x.slot with | some n => s.withKeys fun k => k.dropRef n | none => s
  s1.withDig fun d =>
    { d.updChan m (fun x => { x with op := none, waiting := false, slot := none, done := true, irqPend := true,
                                     result := st, detail := detail }) with
      ready := d.ready.filter fun w => decide (w ≠ .chan m) }

/-- The operation is keyed: its state is refreshed from class K instance 9 (R342). -/
def digIsKeyed (x : DigChan) (op : Byte) (k : DigCmd) : Bool :=
  (decide (op = dINIT) && digKeyed k.alg) || (x.ctx.map DigCtx.keyed).getD false || decide (op = dRESTORE)

/-- The operation waits: audit mode, or a keyed operation before RNG_READY or while instance 9 does not serve (R342, R348). -/
def digWaits (s : State) (x : DigChan) (op : Byte) (k : DigCmd) : Bool :=
  s.rng.audit || (digIsKeyed x op k && !s.rng.serves 9)

/-- One request of 200 bytes for the shares of a keyed state (R342; DESIGN CHOICE of the amount, log entry 118). -/
def State.digMask (k : List Byte → State → State) (s : State) : State := s.instDraw 9 false 200 k

/-- A write of DIG_CMD is acted on: DONE is cleared, and the context input is emptied but for a RESTORE (R349, R355). -/
def DigChan.accept (op : Byte) (x : DigChan) : DigChan := { x with done := false, ctxIn := if op = dRESTORE then x.ctxIn else [] }

/-- The checks have passed (R347-R349, R358): the operation holds a reference to the key of a keyed INIT, and waits or is
ready for a unit. -/
def State.digStart (m : Nat) (op : Byte) (k : DigCmd) (s : State) : State :=
  let x := s.dig.chan m
  let s1 := s.withDig fun d => d.updChan m (DigChan.accept op)
  let slot := if op = dINIT ∧ digKeyed k.alg = true ∧ k.ksrc = 0 then some (handleSlot x.key) else none
  let s2 := match slot with | some n => s1.withKeys fun ks => ks.addRef n | none => s1
  let w := digWaits s x op k
  (s2.withDig fun d =>
    { d.updChan m (fun y => { y with op := some (op, k), waiting := w, slot := slot }) with
      ready := if w then d.ready else d.ready ++ [.chan m] }).digDeal

/-- The write of DIG_CMD (R349): ignored from another master, from user level, and while the channel is BUSY or WAIT. -/
def State.digCmd (m : Nat) (op : Byte) (k : DigCmd) (s : State) : State :=
  let x := s.dig.chan m
  let s1 := s.withDig fun d => d.updChan m (DigChan.accept op)
  if k.writer.val ≠ m ∨ k.level = .user ∨ x.op.isSome = true then s
  else match digCheck s x op k with
    | some (st, dt) => (s1.withDig fun d => d.updChan m fun y => { y with ctxIn := [] }).digEnd m st dt
    | none =>
      if op = dABORT then
        (s1.withDig fun d => d.updChan m fun y => { y with ctx := none, ctxOut := [], ctxIn := [] }).digEnd m Status.aborted 0
      else s.digStart m op k

/-- DIG_INIT (R350). -/
def execDigInit (m : CoreNo) (k : DigCmd) (s : State) : Host.Outcome State Fault Refusal := .next (s.digCmd m.val dINIT k)
/-- DIG_UPDATE (R350). -/
def execDigUpdate (m : CoreNo) (k : DigCmd) (s : State) : Host.Outcome State Fault Refusal := .next (s.digCmd m.val dUPDATE k)
/-- DIG_FINAL (R350). -/
def execDigFinal (m : CoreNo) (k : DigCmd) (s : State) : Host.Outcome State Fault Refusal := .next (s.digCmd m.val dFINAL k)
/-- DIG_SAVE (R354). -/
def execDigSave (m : CoreNo) (k : DigCmd) (s : State) : Host.Outcome State Fault Refusal := .next (s.digCmd m.val dSAVE k)
/-- DIG_RESTORE (R355). -/
def execDigRestore (m : CoreNo) (k : DigCmd) (s : State) : Host.Outcome State Fault Refusal :=
  .next (s.digCmd m.val dRESTORE k)
/-- DIG_EXTEND (R357). -/
def execDigExtend (m : CoreNo) (k : DigCmd) (s : State) : Host.Outcome State Fault Refusal := .next (s.digCmd m.val dEXTEND k)
/-- DIG_ABORT (R350). -/
def execDigAbort (m : CoreNo) (k : DigCmd) (s : State) : Host.Outcome State Fault Refusal := .next (s.digCmd m.val dABORT k)

/-! ### Effects (R350-R357) -/

/-- new := H(old ‖ d) in the register's first bytes; the first extension locks the algorithm (R357). -/
def MeasReg.extend (a : Byte) (d : List Byte) (m : MeasReg) : MeasReg :=
  let h := digOut a
  { value := padTo 64 (digestOf a.toNat (m.value.take h ++ d) h), alg := a, count := satAdd m.count 1 }

def Dig.extend (n : Nat) (a : Byte) (v : List Byte) (d : Dig) : Dig := { d with meas := Bank.upd {} n (MeasReg.extend a v) d.meas }

/-- The opening state of a context: the one a RESTORE brought, or the algorithm's. -/
def DigCtx.opening (c : DigCtx) : List Byte := c.base.getD (chainInit c.alg.toNat c.key c.custom)

/-- The output of a context after the last bytes (R341). -/
def DigCtx.output (c : DigCtx) (last : List Byte) (n : Nat) : List Byte :=
  chainRun c.alg.toNat c.opening (c.data ++ last) (c.count.toNat - c.data.length) n

/-- The 200 state bytes of a context, which holds whole blocks between operations (R354; DEDUCED that a chaining value's words stand as
FIPS 180-4 writes them, log entry 118). -/
def DigCtx.state (c : DigCtx) : List Byte := chainAbsorb c.alg.toNat c.opening c.data

/-- Bytes 0 to 23 of a saved context. -/
def DigCtx.head (c : DigCtx) (counter : Nat) : List Byte :=
  [0x43, 0x44, 1, c.alg, BitVec.ofNat 8 (bit c.keyed), 0] ++ leBytes 2 c.owner.toNat ++ leBytes 8 c.count.toNat
    ++ leBytes 4 counter ++ [0, 0, 0, 0]

/-- Exclusive-or of two byte strings of one length. -/
def xorBytes (a b : List Byte) : List Byte := List.zipWith (· ^^^ ·) a b

/-- The per-boot context-sealing key, slot 9 (05 R158). -/
def Keys.sealKey (k : Keys) : List Byte := ((k.present 9).map KeyRun.material).getD []

/-- The 240 bytes of a saved context (R354).  The first seal of a boot takes the value 0 of the seal counter (DEDUCED: the counter starts at
0, and 2^32 seals fill its four bytes; log entry 118). -/
def digSaved (k9 : List Byte) (c : DigCtx) (counter : Nat) : List Byte :=
  let h := c.head (if c.keyed then counter else 0)
  let st := if c.keyed then xorBytes c.state (kmac256 k9 h (ascii "CX-CTXE") 200) else c.state
  h ++ st ++ (if c.keyed then (kmac256 k9 (h ++ st) (ascii "CX-CTXA") 32).take 16 else List.replicate 16 0)

/-- RESTORE (R355): the checks in order, then the context with the saved state. -/
def digRestored (k9 : List Byte) (x : DigChan) : Except (Half × Word) DigCtx :=
  let b := bytesOf (x.ctxIn.take 60)
  let alg := b.getD 3 0
  let keyed := (b.getD 4 0).getLsbD 0
  let owner : Half := BitVec.ofNat 16 (ofLe (sliceBytes b 6 2))
  let counter := ofLe (sliceBytes b 16 4)
  if x.ctxIn.length < 60 then .error (Status.lengthShort, BitVec.ofNat 32 x.ctxIn.length)
  else if sliceBytes b 0 3 ≠ [0x43, 0x44, 1] ∨ digDefined alg = false ∨ 2 ≤ (b.getD 4 0).toNat ∨ keyed ≠ digKeyed alg
      ∨ b.getD 5 0 ≠ 0 ∨ ofLe (sliceBytes b 20 4) ≠ 0 ∨ (keyed = false ∧ (counter ≠ 0 ∨ ofLe (sliceBytes b 224 16) ≠ 0)) then
    .error (Status.badFormat, 0)
  else if keyed && decide ((kmac256 k9 (sliceBytes b 0 224) (ascii "CX-CTXA") 32).take 16 ≠ sliceBytes b 224 16) then
    .error (Status.authFail, 0)
  else if owner ≠ x.tenant ∧ x.tenant ≠ 0xFFFF then .error (Status.keyOwner, 0)
  else
    let h := sliceBytes b 0 24
    let st := sliceBytes b 24 200
    .ok { alg := alg, owner := owner, ksrc := 0, keyed := keyed, key := [], custom := [],
          base := some (if keyed then xorBytes st (kmac256 k9 h (ascii "CX-CTXE") 200) else st), data := [],
          count := BitVec.ofNat 64 (ofLe (sliceBytes b 8 8)) }

/-- FINAL (R350, R352, R356): verify, deliver to a slot, extend a register, or write the output; the context closes. -/
def State.digFinish (m : Nat) (x : DigChan) (c : DigCtx) (k : DigCmd) (s : State) : State :=
  let out := c.output (s.sramRead x.src.toNat x.len.toNat) (digFinalLen x c.alg k.kout)
  let s1 := s.withDig fun d => d.updChan m fun y => { y with ctx := none }
  if k.verify then
    let eq := decide (out.take x.vlen.toNat = (List.range x.vlen.toNat).map (Bank.get 0 x.exp))
    (s1.withDig fun d => d.updChan m fun y => { y with exp := [] }).digEnd m (if eq then Status.ok else Status.authFail) 0
  else if k.kout then
    let kc := s1.keys.chan k.ch.val
    let a := kc.template
    let s2 :=
      if out.length ≠ matLenOf a then s1.withKeys fun ks => ks.endChan k.ch.val Status.inputInvalid 0 none
      else if !kc.any && decide (kc.slot.toNat < 64) then s1.keyChanReserved k.ch.val kc.slot.toNat a out
      else s1.keyChanCreate k.ch.val a out kc.place
    s2.digEnd m Status.ok 0
  else if k.meas then (s1.withDig (Dig.extend k.midx.val c.alg out)).digEnd m Status.ok 0
  else match s.dmaRefused 10 true x.dst.toNat out.length with
    | some (acc, r) => (s.sramWrite x.dst.toNat (out.take (acc.addr - x.dst.toNat))).dmaFault 10 acc r
    | none => (s1.sramWrite x.dst.toNat out).digEnd m Status.ok 0

/-- The key of a keyed INIT (R351): the slot named, DRK, or DRK ‖ IK. -/
def State.digKey (s : State) (x : DigChan) (k : DigCmd) : List Byte :=
  let mat (n : Nat) := ((Bank.get none s.keys.runs n).map KeyRun.material).getD []
  if k.ksrc = 0 then mat (handleSlot x.key)
  else if k.ksrc = 1 then mat 0
  else mat 0 ++ s.insole.ik.getD []

/-- The effect of a channel operation (R350). -/
def State.digRun (m : Nat) (op : Byte) (k : DigCmd) (s : State) : State :=
  let x := s.dig.chan m
  if op = dINIT then
    let c : DigCtx := { alg := k.alg, owner := x.tenant, ksrc := k.ksrc, keyed := digKeyed k.alg,
                        key := if digKeyed k.alg then s.digKey x k else [],
                        custom := if digKmac k.alg then s.sramRead x.src.toNat x.len.toNat else [],
                        base := none, data := [], count := 0 }
    (s.withDig fun d => d.updChan m fun y => { y with ctx := some c }).digEnd m Status.ok 0
  else if op = dEXTEND then
    (s.withDig (Dig.extend k.midx.val k.alg (s.sramRead x.src.toNat x.len.toNat))).digEnd m Status.ok 0
  else if op = dRESTORE then
    match digRestored s.keys.sealKey x with
    | .error (st, dt) => (s.withDig fun d => d.updChan m fun y => { y with ctx := none, ctxIn := [] }).digEnd m st dt
    | .ok c => (s.withDig fun d => d.updChan m fun y => { y with ctx := some c, ctxIn := [] }).digEnd m Status.ok 0
  else match x.ctx with
    | none => s.digEnd m Status.badFormat 0
    | some c =>
      if op = dUPDATE then
        (s.withDig fun d => d.updChan m fun y =>
          { y with ctx := some { c with data := c.data ++ s.sramRead x.src.toNat x.len.toNat,
                                        count := c.count + x.len.setWidth 64 } }).digEnd m Status.ok 0
      else if op = dFINAL then s.digFinish m x c k
      else
        (s.withDig fun d =>
          { d.updChan m (fun y => { y with ctxOut := wordsOf (digSaved s.keys.sealKey c d.seals) }) with
            seals := if c.keyed then d.seals + 1 else d.seals }).digEnd m Status.ok 0

/-- The range of custody SRAM that an operation reads through the digest DMA (R350; 19 R545). -/
def digReads (x : DigChan) (op : Byte) (k : DigCmd) : Nat :=
  if op = dUPDATE ∨ op = dFINAL ∨ op = dEXTEND ∨ (op = dINIT ∧ digKmac k.alg = true) then x.len.toNat else 0

/-- The operation runs on its unit: the DMA's reads under its MPU, the refresh of a keyed state, the effect (R342, R350). -/
def State.digOp (m : Nat) (x : DigChan) (op : Byte) (k : DigCmd) (unit : Nat) (s : State) : State :=
  match s.dmaRefused 10 false x.src.toNat (digReads x op k) with
  | some (acc, r) => s.dmaFault 10 acc r
  | none =>
    let go (t : State) : State :=
      let u := t.digRun m op k
      if (u.dig.chan m).op.isSome then u
      else (u.withDig fun d => (d.updUnit unit fun y => { y with work := none }).updChan m fun y =>
        { y with unit := BitVec.ofNat 2 unit }).digDeal
    if digIsKeyed x op k then
      s.digMask fun b t => (go t).withDig fun d => d.updChan m fun y => { y with ctx := y.ctx.map fun c => { c with mask := b } }
    else go s

/-- DIGEST_OP_DONE (R360): the unit that works on the channel's operation ends it; an operation that waited is taken up once
nothing holds it. -/
def execDigestOpDone (m : CoreNo) (unit : Fin 4) (s : State) : Host.Outcome State Fault Refusal :=
  let x := s.dig.chan m.val
  .next (match x.op with
    | none => s
    | some (op, k) =>
      if digWaits s x op k then s
      else if (s.dig.unitAt unit.val).work = some (.chan m.val) then
        (if (s.mpu 10).stopped.isSome then s else s.digOp m.val x op k unit.val)
      else if x.waiting then
        (s.withDig fun d => { d.updChan m.val (fun y => { y with waiting := false }) with ready := d.ready ++ [.chan m.val] }).digDeal
      else s)

/-- DIGEST_SEGMENT_END (R347, R359): the unit offers its context; a mismatch whose rerun fails quarantines the unit and the
context moves ahead of other segments. -/
def execDigestSegmentEnd (unit : Fin 4) (mismatch rerunFails : Bool) (s : State) : Host.Outcome State Fault Refusal :=
  let u := unit.val
  let w := (s.dig.unitAt u).work
  let counted := s.withDig fun d => { d with mism := satAdd d.mism 1 }
  .next (if mismatch && rerunFails then
    let s1 := counted.withDig fun d =>
      { d.updUnit u (fun x => { x with work := none, quar := true, qcount := min (x.qcount + 1) 3 }) with
        ready := w.toList ++ d.ready }
    ((s1.event (0x14 + u) 2 3).raise 46 (BitVec.ofNat 32 u)).digDeal
  else if mismatch then counted.eventFree (0x14 + u) 1
  else (s.withDig fun d => { d.updUnit u (fun x => { x with work := none }) with ready := d.ready ++ w.toList }).digDeal)

/-- DIG_KAT_RUN (R359, R360): when the unit is quarantined with QCOUNT below 3. -/
def execDigKatRun (unit : Fin 4) (level : Level) (s : State) : Host.Outcome State Fault Refusal :=
  let u := s.dig.unitAt unit.val
  .next (if level ≠ .user ∧ u.quar = true ∧ u.qcount < 3 then
    s.withDig fun d => { d with katUnit := BitVec.ofNat 2 unit.val, katRun := true }
  else s)

/-- DIG_KAT_DONE (R359): a pass returns the unit to service. -/
def execDigKatDone (pass : Bool) (s : State) : Host.Outcome State Fault Refusal :=
  .next (if s.dig.katRun then
    (s.withDig fun d =>
      let d1 := { d with katRun := false, katDone := true, katPass := pass }
      if pass then d1.updUnit d.katUnit.toNat fun u => { u with quar := false } else d1).digDeal
  else s)

/-- MEAS_WORD0_READ (R357, R360): a read of word 0 latches the whole value. -/
def execMeasWord0Read (n : Fin 32) (s : State) : Host.Outcome State Fault Refusal :=
  let v := (Bank.get {} s.dig.meas n.val).value
  .next ((s.withDig fun d => { d with measLatch := v }).setRead (wordOf v 0))

/-- DIG_EN_WRITE (R348, R360): machine level only. -/
def execDigEnWrite (level : Level) (v : Word) (s : State) : Host.Outcome State Fault Refusal :=
  .next (if level = .machine then (s.withDig fun d => { d with en := v.setWidth 4 }).digDeal else s)

end Sys2Proof.Machine
end

