-- ==== Sys2Proof/Machine/Insole.lean ====
section
/-! DEFINITION. Meanings of the Insole domain's commands (14 R411-R418, R429-R431), and its shared operations. -/

namespace Sys2Proof.Machine

/-! ### The epoch (02 R47, R49; R415) -/

/-- A floor applied under R49: in one step the counter becomes max(counter, floor) + 1, the boot epoch, and trusted.  It is
ignored while the epoch is trusted, when the counter is 0xFFFF_FFFF, and when the floor is 0xFFFF_FFFF (R415). -/
def State.applyFloor (f : Word) (s : State) : State :=
  if s.insole.trusted = true ∨ s.insole.epoch = 0xFFFFFFFF ∨ f = 0xFFFFFFFF then s
  else
    let e : Word := BitVec.ofNat 32 (max s.insole.epoch.toNat f.toNat + 1)
    (s.withInsole fun i => { i with epoch := e, trusted := true }).withBoot fun b => { b with epoch := e }

/-- INS_FLOOR_WRITE (R415): machine level only. -/
def execInsFloorWrite (level : Level) (v : Word) (s : State) : Host.Outcome State Fault Refusal :=
  .next (if level = .machine then s.applyFloor v else s)

/-! ### Insole key and Insole DRBG (R416, R417) -/

/-- GEN is accepted in START and RECOVERY (R416). -/
def State.ikGen (s : State) : State :=
  if s.boot.phase = .start ∨ s.boot.phase = .recovery then s.withIns fun r => { r with ikGen := true, ikBusy := true } else s

/-- INS_IKCTL_GEN (R416): machine level only. -/
def execInsIkctlGen (level : Level) (s : State) : Host.Outcome State Fault Refusal :=
  .next (if level = .machine then s.ikGen else s)

/-- A fresh draw on the Insole seed path, instance 10, can be made now (R416, 12 R371). -/
def ikDrawReady (s : State) : Bool := s.rng.freshServes 10 && decide (s.rng.buffer ≠ [])

/-- The new insole key replaces the old one: 32 bytes with a fresh reseed (R416). -/
def State.ikStore (s : State) : State :=
  s.instDraw 10 true 32 fun k t =>
    (t.withInsole fun i => { i with ik := some k }).withIns fun r => { r with ikGen := false, ikBusy := false }

/-- IK_STORED (R416). -/
def execIkStored (s : State) : Host.Outcome State Fault Refusal :=
  .next (if s.ins.ikBusy && ikDrawReady s then s.ikStore else s)

/-- INSOLE_SEED_DELIVERY (R417, 12 R372): once per boot, S := SHA-256(0x00 ‖ S ‖ seed). -/
def execInsoleSeedDelivery (s : State) : Host.Outcome State Fault Refusal :=
  .next (if s.rng.serves 10 && !s.ins.seedDelivered then
    s.instDraw 10 false 48 fun seed t =>
      (t.withInsole fun i => { i with drbg := sha256 ([0] ++ i.drbg ++ seed), seeded := true }).withIns fun r =>
        { r with seedDelivered := true }
  else s)

/-- A 16-byte draw from the Insole DRBG (R417). -/
def Insole.drbgOut (i : Insole) : List Byte := (sha256 ([1] ++ i.drbg)).take 16
def Insole.drbgNext (i : Insole) : Insole := { i with drbg := sha256 ([2] ++ i.drbg) }

/-! ### Audit key (R418) -/

/-- The end of a Secured session: its keys are discarded and the state returns to Open (R418, R424). -/
def Listen.unsecure (l : Listen) : Listen := { l with secured := false, ks := [], rndB := [], ctrIn := 0, ctrOut := 0 }

/-- Take the audit key from the slot that INS_AUDHDL names; a Secured session in progress ends (R418). -/
def State.audLoad (s : State) : State :=
  match s.keys.lookup s.ins.audHdl none none with
  | .error e => s.withIns fun r => { r with audDone := true, audStatus := e.status }
  | .ok k =>
    ((s.withInsole fun i => { i with auditKey := some k.material, auditId := k.keyId }).withListen Listen.unsecure).withIns
      fun r => { r with audDone := true, audStatus := Status.ok }

/-- INS_AUDCTL_LOAD (R418): machine level only. -/
def execInsAudctlLoad (level : Level) (s : State) : Host.Outcome State Fault Refusal :=
  .next (if level = .machine then s.audLoad else s)

/-- INS_AUDCTL_CLEAR (R418): machine level only. -/
def execInsAudctlClear (level : Level) (s : State) : Host.Outcome State Fault Refusal :=
  .next (if level = .machine then
    (s.withInsole fun i => { i with auditKey := none, auditId := 0 }).withIns fun r => { r with audDone := true, audStatus := Status.ok }
  else s)

/-! ### Tag memory (R429, R430) -/

def Listen.page (l : Listen) (n : Nat) : TagPage := Bank.get {} l.pages n
def Listen.setPage (l : Listen) (n : Nat) (p : TagPage) : Listen := { l with pages := Bank.set {} n p l.pages }

/-- The buffer that page `n` names. -/
def Listen.bufferNo (l : Listen) (n : Nat) : Fin 130 := (l.page n).buffer.getD (Fin.ofNat 130 n)

/-- A commit: the page takes the new data in the buffer that held them, and the version plus 1 (R429 step 2). -/
def TagPage.commit (b : Fin 130) (d : List Byte) (p : TagPage) : TagPage :=
  { data := padTo 64 d, version := p.version + 1, buffer := some b }

/-- A host commit: the page's old buffer becomes the host side's spare buffer (R429 step 3). -/
def Listen.commitHost (l : Listen) (n : Nat) (d : List Byte) : Listen :=
  { l.setPage n ((l.page n).commit l.spareHost d) with spareHost := l.bufferNo n }

/-- A field commit: the page's old buffer becomes the field side's spare buffer (R429 step 3). -/
def Listen.commitField (l : Listen) (n : Nat) (d : List Byte) : Listen :=
  { l.setPage n ((l.page n).commit l.spareField d) with spareField := l.bufferNo n, fieldStaging := [] }

/-- The bytes of a page, from the host's side: canonical bank of a buffer. -/
def bufferOf (d : List Byte) : Bank Byte := Bank.writeBytes [] 0 d

/-- The latch of the selected page (R430, R435). -/
def State.tagLatch (s : State) : State :=
  let p := s.listen.page s.ins.tagSel.toNat
  s.withIns fun r => { r with latched := true, latch := bufferOf p.data, version := p.version, result := 0, hostWait := none }

/-- The host's commit of its staging buffer: refused on pages 96-127; the page's old buffer becomes the host's spare buffer
(R429, R435). -/
def State.tagCommit (s : State) : State :=
  let n := s.ins.tagSel.toNat
  if 96 ≤ n then s.withIns fun r => { r with result := 2, hostWait := none }
  else
    let p := s.listen.page n
    (s.withListen fun l => l.commitHost n (Bank.readBytes s.ins.staging 0 64)).withIns fun r =>
      { r with staging := bufferOf p.data, version := p.version + 1, result := 0, hostWait := none }

/-- A field frame holds page `n` (R430). -/
def State.pageHeld (s : State) (n : Nat) : Bool := (s.listen.held.map BitVec.toNat) == some n

/-- INS_TAG_SEL_WRITE (R430): machine level only; the latch waits while a field frame holds the page. -/
def execInsTagSelWrite (level : Level) (v : Word) (s : State) : Host.Outcome State Fault Refusal :=
  .next (if level = .machine then
    let s1 := s.withIns fun r => { r with tagSel := v.setWidth 7, latched := false }
    if s1.pageHeld s1.ins.tagSel.toNat then s1.withIns fun r => { r with hostWait := some false } else s1.tagLatch
  else s)

/-- INS_TAG_COMMIT (R429, R430): machine level only; the commit waits while a field frame holds the page. -/
def execInsTagCommit (level : Level) (s : State) : Host.Outcome State Fault Refusal :=
  .next (if level = .machine then
    (if s.pageHeld s.ins.tagSel.toNat then s.withIns fun r => { r with hostWait := some true } else s.tagCommit)
  else s)

/-- The host access that waits goes ahead (R430). -/
def State.tagProceed (s : State) : State :=
  match s.ins.hostWait with
  | none => s
  | some false => s.tagLatch
  | some true => s.tagCommit

/-- A host wait of 66 ICLK ends with RESULT BUSY (R430). -/
def State.tagBusy (s : State) : State :=
  s.withIns fun r => if r.hostWait.isSome then { r with hostWait := none, result := 1 } else r

/-! ### Transmit budget (R412) -/

/-- BUDGET_REFILL (R412): one step of 0.001 mA·s, up to 18 mA·s. -/
def execBudgetRefill (s : State) : Host.Outcome State Fault Refusal :=
  .next (s.withInsole fun i => { i with budget := min 18000 (i.budget + 1) })

/-- The charge of a response frame on VBAT: its duration on air is not stated, so it is a free amount; the budget falls no
lower than -18 mA·s (log entry 4). -/
def State.chargeFrame (s : State) : State :=
  if s.insole.onVbat then
    s.draw 0 fun _ t => t.withInsole fun i => { i with budget := max (-18000) (i.budget - Config.freeNat s.freeCount) }
  else s

end Sys2Proof.Machine
end

