-- ==== Sys2Proof/Machine/Boot.lean ====
section
/-! DEFINITION. Meanings of the pins', boot sequence's and loader's commands (02). -/

namespace Sys2Proof.Machine

/-! ### Pins and supplies (R38-R42) -/

/-- PWRGD_FALL (R41, R70): a main-domain reset; the link goes. -/
def execPwrgdFall (s : State) : Host.Outcome State Fault Refusal :=
  .next (if s.pins.pwrgd then s.assertReset.withPins fun p => { p with pwrgd := false, linkL0 := false } else s)

/-- PWRGD_RISE (R43). -/
def execPwrgdRise (s : State) : Host.Outcome State Fault Refusal := .next (s.withPins fun p => { p with pwrgd := true })

/-- PERST_N_ASSERT (R41, R70): a main-domain reset, which lasts until PERST_N is released; the link goes. -/
def execPerstAssert (s : State) : Host.Outcome State Fault Refusal :=
  .next (if s.pins.perst then s
  else (s.assertReset.withPins fun p => { p with perst := true, linkL0 := false }).withBoot fun b =>
    { b with perstReset := s.pins.pwrgd })

/-- PERST_N_RELEASE (R42): `late` when it is later than 3 ms after PWRGD rises, which a release that ends a reset is not. -/
def execPerstRelease (late : Bool) (s : State) : Host.Outcome State Fault Refusal :=
  .next ((s.withPins fun p => { p with perst := false }).withBoot fun b =>
    { b with perstLate := if s.pins.perst then late && !b.perstReset else b.perstLate })

/-- INSOLE_SUPPLY_SWITCH (R38): no reset and no loss of state. -/
def execInsoleSupplySwitch (toVbat : Bool) (s : State) : Host.Outcome State Fault Refusal :=
  .next (s.withInsole fun i => { i with onVbat := toVbat })

/-- INSOLE_EMPTY_RESTART (R39; 14 R413): every item of the Insole domain takes its value after an empty restart; the DRBG
state is filled from the noise source. -/
def execInsoleEmptyRestart (s : State) : Host.Outcome State Fault Refusal :=
  .next (s.draw 32 fun noise t =>
    ((t.withInsole fun i => { onVbat := i.onVbat, vbatMv := i.vbatMv, c3Out := i.c3Out, drbg := noise }).withLog fun _ =>
      Log.restart 0).withListen fun _ => {})

/-! ### The boot sequence (R43, R46, R47) -/

/-- Step 2: the epoch counter is incremented when it is trusted and not at its end (R47). -/
def Insole.bootEpoch (i : Insole) : Insole :=
  if i.epoch = 0xFFFFFFFF then { i with trusted := false }
  else if i.trusted then { i with epoch := i.epoch + 1 }
  else i

/-- MAIN_RESET_END (R43 steps 1, 2 and 4; R46, R47; 13 R391, R393): with PWRGD high, a PERST_N reset released, and every
entry the reset waits for committed.  The hand-over record is taken and empties. -/
def execMainResetEnd (s : State) : Host.Outcome State Fault Refusal :=
  .next (if s.boot.inReset && s.pins.pwrgd && !(s.boot.perstReset && s.pins.perst) && decide (s.log.owed = 0) then
    let i := s.insole.bootEpoch
    let s1 := s.withBoot fun b =>
      { b with inReset := false, dark := false, perstReset := false, step2 := true, epoch := i.epoch, pendMax := s.log.pendMax,
               pendCode6 := s.log.pendCode6, unannounced := s.insole.unannounced, vbatLost := s.insole.vbatLost,
               pendCount := s.log.pendCount, pendSrc := s.log.pendMask }
    let s2 := s1.withInsole fun _ => { i with unannounced := false, vbatLost := false }
    let s3 := s2.withAlarm fun a => { a with
      pend := a.pend ||| s.log.pendMask, backup := s.log.backupSince
      handed := if effCode s.log.pendMax = 1 then s.log.pendMask else 0 }
    let s4 := s3.withLog fun l => { l with pendMax := 0, pendCode6 := false, pendCount := 0, pendMask := 0, backupSince := false }
    (s4.withKeys fun k => { k with ready := true }).withCob fun c => { c with clockUs := 0 }
  else s)

/-- RNG_READY (R43 step 5; 12 R367, R368), once in a boot. -/
def execRngReady (katM katK : Bool) (s : State) : Host.Outcome State Fault Refusal :=
  .next (if s.boot.inReset || s.rng.ready then s else (s.withRng (Rng.tests katM katK)).rngStart)

/-- The attributes of the device root key in slot 0: a device-internal type with owner 0xFFFF (05 R158, R162).  DESIGN CHOICE
(log entry 94): the spec gives a reserved slot no usage word and slot 0 no type; the model gives 0 and 0x80. -/
def rootAttr : Attr :=
  { type := 0x80, count := 0, owner := 0xFFFF, usage := 0, check := 0, exportability := 0, mode := 0, keyUsage := 0,
    keyVersion := 0, state := 0, salt := 0, generation := 0, matLen := 0, rsv := 0 }

/-- PUF_RECONSTRUCTION_DONE (R44, R584): the device root key is in slot 0 and the identity is readable; the fourth failure
asserts source 49 without its reset and fails the boot. -/
def execPufReconstructionDone (ok : Bool) (s : State) : Host.Outcome State Fault Refusal :=
  .next (if s.boot.inReset || s.boot.pufOk || decide (4 ≤ s.boot.pufAttempts) then s
  else if ok then
    (s.withBoot fun b => { b with pufAttempts := b.pufAttempts + 1, pufOk := true,
                                  id := sha384 (Config.out .puf [ascii "identity"] 48) }).withKeys fun k =>
      k.install 0 rootAttr (Config.out .puf [ascii "root"] 32) 0
  else
    let s1 := s.withBoot fun b => { b with pufAttempts := b.pufAttempts + 1 }
    if s1.boot.pufAttempts = 4 then
      (s1.tickMain [(49, 0xFF, false)] true).withBoot fun b => { b with state := .failed }
    else s1)

/-- The lifecycle code (R51). -/
def lifecycleCode : Lifecycle → Nat
  | .manufacture => 0
  | .test => 1
  | .field => 2
  | .retired => 3

/-- The 16-byte record measured into MEAS_00 (R57). -/
def meas0Record (p : Pins) : List Byte :=
  leBytes 4 1 ++ [BitVec.ofNat 8 (lifecycleCode p.lifecycle), BitVec.ofNat 8 p.fwFloor, BitVec.ofNat 8 p.cobFloor,
    BitVec.ofNat 8 p.extFloor] ++ List.replicate 8 0

/-- The steps before step 8 are done, and the boot has not gone past it (R43). -/
def State.bootReady (s : State) : Bool :=
  !s.boot.inReset && decide (s.boot.state = .init) && s.boot.rngReady && s.boot.pufOk && !s.pins.perst

/-- Steps 7 and 8 of R43 (R60): the custody SRAM key, handle salt and salt sequence are drawn, MEAS_00 is extended, and the
loader page goes live. -/
def State.goLive (s : State) : State :=
  s.draw 8 fun r t =>
    let s1 := t.withKeys fun k =>
      { k with salt := BitVec.ofNat 32 (ofLe (sliceBytes r 0 4)), s0 := BitVec.ofNat 16 (ofLe (sliceBytes r 4 2)),
               q := BitVec.ofNat 16 (ofLe (sliceBytes r 6 2)) ||| 1 }
    let s2 := s1.withDig (Dig.extend 0 3 (sha384 (meas0Record s.pins)))
    s2.withBoot fun b => { b with step7 := true, sramKey := true,
                                  state := if s.pins.lifecycle = .retired then .retired else .ready }

/-- LOADER_LIVE (R43 steps 7 and 8): after a late release of PERST_N the page waits for L0 (R42). -/
def execLoaderLive (s : State) : Host.Outcome State Fault Refusal :=
  .next (if s.bootReady && (!s.boot.perstLate || s.pins.linkL0) then s.goLive else s)

/-- LINK_L0 (R42): the PCI Express link reaches L0; a loader page that waits for it goes live. -/
def execLinkL0 (s : State) : Host.Outcome State Fault Refusal :=
  .next (if s.pins.pwrgd && !s.pins.perst then
    let t := s.withPins fun p => { p with linkL0 := true }
    if t.bootReady && t.boot.perstLate then t.goLive else t
  else s)

/-- RNG_BOOT_TIMEOUT (12 R368): READY still 0 at 100 ms. -/
def execRngBootTimeout (s : State) : Host.Outcome State Fault Refusal :=
  .next (if !s.boot.inReset && !s.boot.rngReady && decide (s.boot.state = .init) then
    s.withBoot fun b => { b with state := .failed } else s)

/-! ### Loader (R51-R58) -/

/-- A refused load: CODE, SEG and TRIES, and STATE returns to READY (R51, R55). -/
def State.refuseImage (code seg : Nat) (s : State) : State :=
  s.withBoot fun b => { b with state := .ready, code := BitVec.ofNat 8 code, seg := BitVec.ofNat 8 seg, tries := satAdd b.tries 1 }

/-- The image address (R51). -/
def Boot.imgAddr (b : Boot) : Nat := b.imgHi.toNat * 2 ^ 32 + b.imgLo.toNat

/-- LDR_GO (R51, R52, R55): from the PF's loader page with STATE = READY; codes 0x10 and 0x11 are decided before anything is
read. -/
def execLdrGo (f : Fin 64) (v : Word) (s : State) : Host.Outcome State Fault Refusal :=
  .next (if f.val = 0 ∧ v.getLsbD 0 = true ∧ s.boot.state = .ready then
    if s.boot.imgLen = 0 ∨ 0x400000 < s.boot.imgLen.toNat then s.refuseImage 0x10 0
    else if 2 ^ 64 < s.boot.imgAddr + s.boot.imgLen.toNat then s.refuseImage 0x11 0
    else s.withBoot fun b => { b with state := .loading }
  else s)

/-- IMAGE_READ_TIMEOUT (R55 code 0x13). -/
def execImageReadTimeout (s : State) : Host.Outcome State Fault Refusal :=
  .next (if s.boot.state = .loading then s.refuseImage 0x13 0 else s)

end Sys2Proof.Machine

/-! ### The image's bytes (R53, R54) -/

namespace Sys2Proof
open Machine

/-- One entry of an image's segment table with the segment's bytes (R54). -/
structure Segment where
  offset : Nat
  load : Nat
  len : Nat
  target : Nat
  reservedZero : Bool
  digest : List Byte
  data : List Byte
  deriving DecidableEq, Repr

/-- The little-endian field of `n` bytes at an offset of an image (R53). -/
def Image.field (g : Image) (off n : Nat) : Nat := ofLe (sliceBytes g.data off n)

/-- The bytes of an image from `off` to `off + n`. -/
def Image.part (g : Image) (off n : Nat) : List Byte := sliceBytes g.data off n

/-- Entry `i` of the segment table. -/
def Image.seg (g : Image) (i : Nat) : Segment :=
  let o := 32 + 48 * i
  { offset := g.field o 4, load := g.field (o + 4) 4, len := g.field (o + 8) 4, target := g.field (o + 12) 1,
    reservedZero := decide (g.field (o + 13) 3 = 0), digest := g.part (o + 16) 32,
    data := g.part (g.field o 4) (g.field (o + 8) 4) }

def Image.segCount (g : Image) : Nat := g.field 10 2

/-- The segments in table order. -/
def Image.segs (g : Image) : List Segment := (List.range (min g.segCount 16)).map g.seg

def Image.fwVer (g : Image) : Byte := BitVec.ofNat 8 (g.field 8 1)
def Image.cobVer (g : Image) : Byte := BitVec.ofNat 8 (g.field 9 1)
/-- The build identifier, opaque to the device. -/
def Image.build (g : Image) : List Byte := g.part 16 16
def Image.manifest (g : Image) : List Byte := g.part 0 2848
def Image.ecdsaKey (g : Image) : List Byte := g.part 800 96
def Image.mldsaKey (g : Image) : List Byte := g.part 896 1952
def Image.ecdsaSig (g : Image) : List Byte := g.part 2848 96
def Image.mldsaSig (g : Image) : List Byte := g.part 2944 3309

/-- Every reserved byte is 0: those of the header and of the used entries; unused entries are all zero. -/
def Image.reservedZero (g : Image) : Bool :=
  (g.part 6253 147).all (fun b => decide (b = 0)) && g.segs.all Segment.reservedZero
    && (g.part (32 + 48 * min g.segCount 16) (768 - 48 * min g.segCount 16)).all fun b => decide (b = 0)

end Sys2Proof

namespace Sys2Proof.Machine

/-- The magic 'CXIM' as a little-endian word. -/
abbrev imageMagic : Nat := 0x4D495843

/-- The load range of a segment lies in the range of its target (R54). -/
def segRangeOk (g : Segment) : Bool :=
  let a := g.load
  let e := a + g.len
  let itcm := decide (0x40000 ≤ a ∧ e ≤ 0x80000)
  let dtcm := decide (0x80000 ≤ a ∧ e ≤ 0xA0000)
  match g.target with
  | 0 => itcm
  | 1 => dtcm
  | 2 => decide (0x10000000 ≤ a ∧ e ≤ 0x10800000)
  | 3 => itcm || dtcm
  | _ => false

/-- A fault in one segment-table entry (R55 code 0x21). -/
def segBad (len : Nat) (g : Segment) : Bool :=
  decide (g.offset % 256 ≠ 0) || decide (g.offset < 6400) || decide (len < g.offset + g.len)
    || decide (g.load % 16 ≠ 0) || decide (g.len % 16 ≠ 0) || decide (g.len = 0) || decide (3 < g.target)
    || !segRangeOk g

/-- Two segments of one target overlap (R55 code 0x21). -/
def segOverlap (a b : Segment) : Bool :=
  decide (a.target = b.target ∧ a.load < b.load + b.len ∧ b.load < a.load + a.len)

/-- Some pair of a list overlaps. -/
def anyOverlap : List Segment → Bool
  | [] => false
  | a :: t => t.any (segOverlap a) || anyOverlap t

/-- Table index plus 1 of the first segment with a property, or 0. -/
def firstSeg (p : Segment → Bool) (l : List Segment) : Nat :=
  match l.findIdx? p with
  | some i => i + 1
  | none => 0

/-- The key set of a lifecycle state (R583): production or field signing keys; none in RETIRED. -/
def keySetOf : Lifecycle → Option Bool
  | .manufacture | .test => some true
  | .field => some false
  | .retired => none

/-- The SHA-384 of each public key of an image is that of the lifecycle state's key set (R583). -/
def signerOk (l : Lifecycle) (g : Image) : Bool :=
  match keySetOf l with
  | none => false
  | some p =>
    decide (sha384 g.ecdsaKey = Config.out (.keySet p 0x11) [] 48 ∧ sha384 g.mldsaKey = Config.out (.keySet p 0x41) [] 48)

/-- The verdict of the verification of an image's signature: ECDSA P-384 over SHA-384, or ML-DSA-65, which is uninterpreted (R55; log
entry 3). -/
def verifySig (type : Nat) (key msg sig : List Byte) : Bool :=
  if type = 0x11 then verifyP384 key msg sig else Config.verdict (.verify type) [key, msg, sig]

/-- The SHA-256 of a segment's bytes differs from its entry's. -/
def Segment.digestBad (g : Segment) : Bool := decide (sha256 g.data ≠ g.digest)

/-- The first failing check of R55 for an image of `len` bytes: code and SEG; none when it is accepted. -/
def imageCheck (p : Pins) (len : Nat) (fwFloor cobFloor : Nat) (g : Image) : Option (Nat × Nat) :=
  firstFail [
    (g.early.isSome || decide (g.data.length < len), (0x12, 0)),
    (!decide (g.field 0 4 = imageMagic ∧ g.field 4 2 = 1 ∧ g.field 12 4 = len ∧ g.fwVer.toNat ≤ 64 ∧ g.cobVer.toNat ≤ 64)
      || !g.reservedZero, (0x20, 0)),
    (!decide (1 ≤ g.segCount ∧ g.segCount ≤ 16), (0x21, 0)),
    (g.segs.any (segBad len), (0x21, firstSeg (segBad len) g.segs)),
    (anyOverlap g.segs, (0x21, 0)),
    (!decide (g.field 6 2 / 256 = 1), (0x22, 0)),
    (!signerOk p.lifecycle g, (0x30, 0)),
    (!verifySig 0x11 g.ecdsaKey g.manifest g.ecdsaSig, (0x31, 0)),
    (!verifySig 0x41 g.mldsaKey g.manifest g.mldsaSig, (0x32, 0)),
    (g.segs.any Segment.digestBad, (0x33, firstSeg Segment.digestBad g.segs)),
    (decide (g.fwVer.toNat < fwFloor), (0x40, 0)),
    (decide (g.cobVer.toNat < cobFloor), (0x41, 0))]

/-- Write bytes into the instruction or data memory of core `c` (R54; 01 R31, R32). -/
def Mem.tcmWrite (c a : Nat) (bs : List Byte) (m : Mem) : Mem :=
  if a < 0x80000 then { m with itcm := Bank.upd [] c (fun b => Bank.writeBytes b a bs) m.itcm }
  else { m with dtcm := Bank.upd [] c (fun b => Bank.writeBytes b a bs) m.dtcm }

/-- Copy a segment to its target (R54, R58). -/
def Mem.place (g : Segment) (m : Mem) : Mem :=
  match g.target with
  | 2 => { m with sram := Bank.writeBytes m.sram g.load g.data }
  | 3 => m.tcmWrite 4 g.load g.data
  | _ => (List.range 4).foldl (fun m c => m.tcmWrite c g.load g.data) m

/-- LDR_PENDING as a word (R51). -/
def Boot.pendingWord (b : Boot) : Word :=
  BitVec.ofNat 32 (b.pendMax.toNat + 8 * bit b.pendCode6 + 16 * bit b.unannounced + 32 * bit b.vbatLost + 256 * b.pendCount.toNat)

/-- LDR_STATUS (R51). -/
def ldrStatus (s : State) : Word :=
  let st := match s.boot.state with
    | .init => 0 | .ready => 1 | .loading => 2 | .running => 3 | .down => 4 | .failed => 5 | .retired => 6
  BitVec.ofNat 32 (st + 16 * (phaseCode s.boot.phase).toNat + 64 * lifecycleCode s.pins.lifecycle
    + 256 * bit (s.boot.step2 && s.insole.trusted) + 512 * bit (s.boot.step2 && s.insole.ik.isSome)
    + 1024 * bit s.boot.rngReady + 2048 * bit s.boot.pufOk)

/-- Extend the boot measurement registers with an accepted image (R57). -/
def measureImage (s : State) (g : Image) (d : Dig) : Dig :=
  let d1 := d.extend 1 3 (sha384 g.manifest)
  let d2 := g.segs.foldl (fun d x => d.extend 2 2 x.digest) d1
  d2.extend 3 3 (sha384 (leBytes 4 s.boot.pendingWord.toNat ++ leBytes 4 ((ldrStatus s).toNat / 256 % 4)))

/-- Release every core at its reset vector; a pending code of 2 is delivered as the NMI of the custody cores (R46, R58). -/
def State.releaseCores (s : State) : State :=
  (List.range 5).foldl (fun t c =>
    t.releaseCore c (decide (c < 4) && ((t.core c).nmi || decide (effCode s.boot.pendMax = 2)))) s

/-- A read of the image that ended early is recorded in AER (03 R75). -/
def State.earlyImage (g : Image) (s : State) : State :=
  match g.early with
  | some e => s.withPcie (Pcie.early e)
  | none => s

/-- IMAGE_VERIFY_DONE (R55-R58): the image is refused with a code, or measured, placed and started. -/
def execImageVerifyDone (img : Image) (s : State) : Host.Outcome State Fault Refusal :=
  .next (if s.boot.state ≠ .loading then s
  else
    let s0 := s.earlyImage img
    match imageCheck s.pins s.boot.imgLen.toNat s.pins.fwFloor s.pins.cobFloor img with
    | some (code, seg) => s0.refuseImage code seg
    | none =>
      let s1 := s0.withDig (measureImage s img)
      let s2 := s1.withMem fun m => img.segs.foldl (fun m g => m.place g) m
      let s3 := s2.withBoot fun b => { b with state := .running, code := 1, seg := 0, fwVer := img.fwVer, cobVer := img.cobVer }
      (s3.withCob fun c => { c with image := some img }).releaseCores)

/-! ### Firmware ready (R43 step 11; 05 R156-R158) -/

/-- Attributes of a reserved slot of the given type and usage (05 R158, R159; DESIGN CHOICE of the usage, log entry 94). -/
def reservedAttr (t : Byte) (u : Word := 0) : Attr := { rootAttr with type := t, usage := u }

/-- The keys that firmware derives and draws in START: DWK while IK is present, the attestation keys, the join key, and the
context-sealing key (05 R156-R158). -/
def State.fillReserved (s : State) : State :=
  let mat (n : Nat) := ((s.keys.present n).map KeyRun.material).getD []
  let drk := mat 0
  let km (x : String) (n : Nat) := kmac256 drk (ascii x) (ascii "UM7840") n
  s.fwDraw true 32 fun sk t => t.withKeys fun k =>
    let k1 := match s.insole.ik with
      | some ik => k.install 1 (reservedAttr 3 wrapUsage) (kmac256 (drk ++ ik) (ascii "CX-DWK") (ascii "UM7840") 32) 0
      | none => k
    let k2 := k1.install 4 (reservedAttr 0x11 signUsage) (p384.privateKey (p384.scalar (km "CX-ATT-P384" 56))) 0
    let k3 := k2.install 7 (reservedAttr 0x41 signUsage) (km "CX-ATT-MLDSA65" 32) 0
    let k4 := k3.install 8 (reservedAttr 0x32 decapsUsage) (km "CX-JOIN-MLKEM1024" 64) 0
    k4.install 9 (reservedAttr 3) sk 0

/-- FW_READY (R43 step 11): firmware reports readiness; without an insole key the phase becomes RECOVERY (R59). -/
def execFwReady (s : State) : Host.Outcome State Fault Refusal :=
  .next (if s.boot.state = .running then
    let s1 := s.fillReserved
    let s2 := if s.insole.ik.isNone && decide (s.boot.phase = .start) then s1.setPhase .recovery else s1
    s2.statusPages fun p => { p with fwReady := true }
  else s)

end Sys2Proof.Machine
end

