-- ==== Sys2Proof/Machine/Cards.lean ====
section
/-! DEFINITION. Meanings of the SD ports' and contact slots' commands (15). -/

namespace Sys2Proof.Machine

/-- A disabled SD port or contact slot is power-gated and loses its state; its detect inputs stay (17 R488). -/
def SdPort.gate (x : SdPort) : SdPort := { det := x.det, wp := x.wp }
def IccSlot.gate (x : IccSlot) : IccSlot := { pres := x.pres }

def State.sdPort (s : State) (p : Nat) : SdPort := Bank.get {} s.cards.sd p

/-- Change an SD port; one that the unit map disables is gated once no transfer runs (17 R487, R488). -/
def State.updSd (p : Nat) (g : SdPort → SdPort) (s : State) : State :=
  let f (x : SdPort) : SdPort := if s.unitOn (27 + p) || (g x).run.isSome then g x else (g x).gate
  s.withCards fun c => { c with sd := Bank.upd {} p f c.sd }

def State.iccSlot (s : State) (n : Nat) : IccSlot := Bank.get {} s.cards.icc n

/-- Change a contact slot; one that the unit map disables is gated once no operation runs (17 R487, R488). -/
def State.updIcc (n : Nat) (g : IccSlot → IccSlot) (s : State) : State :=
  let f (x : IccSlot) : IccSlot := if s.unitOn (31 + n) || (g x).run.isSome then g x else (g x).gate
  s.withCards fun c => { c with icc := Bank.upd {} n f c.icc }

/-! ### The card DMA (01 R33; 19 R545-R552) -/

/-- The card DMA writes bytes to custody SRAM, and then `k`; a beat that its MPU refuses stops the DMA, and the operation waits. -/
def State.cardIn (a : Nat) (bs : List Byte) (k : State → State) (s : State) : State :=
  if (s.mpu 11).stopped.isSome then s
  else match s.dmaRefused 11 true a bs.length with
    | some (acc, r) => (s.sramWrite a (bs.take (acc.addr - a))).dmaFault 11 acc r
    | none => k (s.sramWrite a bs)

/-- The card DMA reads `n` bytes of custody SRAM, and then `k`. -/
def State.cardOut (a n : Nat) (k : State → State) (s : State) : State :=
  if (s.mpu 11).stopped.isSome then s
  else match s.dmaRefused 11 false a n with
    | some (acc, r) => s.dmaFault 11 acc r
    | none => k s

/-! ### The journalled card format (R447-R449) -/

/-- A header copy is good: magic, version and CRC-32C. -/
def headerGood (b : List Byte) : Bool :=
  decide (sliceBytes b 0 4 = ascii "CXCD" ∧ b.getD 4 0 = 1 ∧ ofLe (sliceBytes b 508 4) = (crc32c (sliceBytes b 0 508)).toNat)

/-- A header of `blocks` data-area blocks and a generation. -/
def headerBytes (blocks generation : Word) : List Byte :=
  let b := ascii "CXCD" ++ [1, 0, 0, 0] ++ leBytes 4 blocks.toNat ++ leBytes 4 generation.toNat ++ List.replicate 492 0
  b ++ leBytes 4 (crc32c b).toNat

/-- A journal record as a block (R448). -/
def JRec.bytes (r : JRec) : List Byte :=
  let b := ascii "CXJR" ++ leBytes 4 r.seq.toNat ++ [r.kind, 0, 0, 0] ++ leBytes 4 r.first.toNat ++ leBytes 4 r.count.toNat
    ++ List.replicate 12 0 ++ padTo 32 r.digest ++ List.replicate 444 0
  b ++ leBytes 4 (crc32c b).toNat

/-- The record that a block holds; one that fails its CRC or its magic was never written. -/
def JRec.ofBytes (b : List Byte) : Option JRec :=
  if sliceBytes b 0 4 = ascii "CXJR" ∧ ofLe (sliceBytes b 508 4) = (crc32c (sliceBytes b 0 508)).toNat then
    some { seq := BitVec.ofNat 32 (ofLe (sliceBytes b 4 4)), kind := b.getD 8 0, first := BitVec.ofNat 32 (ofLe (sliceBytes b 12 4))
           count := BitVec.ofNat 32 (ofLe (sliceBytes b 16 4)), digest := sliceBytes b 32 32 }
  else none

/-- The record is of a kind and of a run. -/
def JRec.is (kind : Byte) (first count : Word) (r : JRec) : Bool := decide (r.kind = kind ∧ r.first = first ∧ r.count = count)

/-- Insert a record in the order of sequences. -/
def insertRec (r : JRec) : List JRec → List JRec
  | [] => [r]
  | q :: t => if r.seq.toNat ≤ q.seq.toNat then r :: q :: t else q :: insertRec r t

/-- A committed run covers void runs, which stop being void (R449). -/
def dropVoids (first count : Word) (v : List (Word × Word)) : List (Word × Word) :=
  v.filter fun r => !decide (first.toNat ≤ r.1.toNat ∧ r.1.toNat + r.2.toNat ≤ first.toNat + count.toNat)

/-- The void runs after a record. -/
def voidsAfter (v : List (Word × Word)) (r : JRec) : List (Word × Word) :=
  if r.kind = 3 then v.filter (fun q => !decide (q = (r.first, r.count))) ++ [(r.first, r.count)]
  else if r.kind = 2 then dropVoids r.first r.count v
  else v

/-- The INTENT records without a later matching COMMIT or VOID, in a list in the order of sequences. -/
def openIntents : List JRec → List JRec
  | [] => []
  | r :: t =>
    if r.kind = 1 && !t.any (fun q => q.is 2 r.first r.count || q.is 3 r.first r.count) then r :: openIntents t else openIntents t

/-- Write the next record into the journal's ring.  A slot that holds the record of a live VOID run is not reused before that record has
been written again at the head (R449; DEDUCED, log entry 125). -/
def SdPort.append (kind : Byte) (first count : Word) (digest : List Byte) : Nat → SdPort → SdPort
  | 0, x => x
  | k + 1, x =>
    let put (r : JRec) (x : SdPort) : SdPort :=
      let q := { r with seq := x.lastSeq + 1 }
      { x with journal := Bank.set none x.slot (some q) x.journal, slot := (x.slot + 1) % 1024, lastSeq := q.seq, voids := voidsAfter x.voids q }
    let fresh := put { seq := 0, kind := kind, first := first, count := count, digest := digest } x
    match Bank.get none x.journal x.slot with
    | some r => if r.kind = 3 && x.voids.contains (r.first, r.count) then (put r x).append kind first count digest k else fresh
    | none => fresh

/-- Write a record: at most 512 VOID runs are live (R449). -/
def SdPort.record (kind : Byte) (first count : Word) (digest : List Byte) (x : SdPort) : SdPort :=
  x.append kind first count digest 1024

/-- Firmware's repair of one INTENT, with the data read from its run (R449). -/
def SdPort.repair (x : SdPort) (r : JRec × List Byte) : SdPort :=
  if sha256 r.2 = r.1.digest then x.record 2 r.1.first r.1.count r.1.digest
  else x.record 3 r.1.first r.1.count (List.replicate 32 0)

/-- What the scan of a card of `cardBlocks` blocks gives (R447-R449).  A write-protected card is not repaired. -/
def SdPort.scanned (cardBlocks : Nat) (c : CardScan) (x : SdPort) : SdPort :=
  let h := [sliceBytes c.headers 0 512, sliceBytes c.headers 512 512].find? headerGood
  match h with
  | none => { x with foreign := true, blocks := BitVec.ofNat 32 (cardBlocks - 1026) }
  | some b =>
    let slots := (List.range 1024).map fun i => (i, JRec.ofBytes (sliceBytes c.journal (512 * i) 512))
    let recs := (slots.filterMap Prod.snd).foldr insertRec []
    let last : Word := match recs.getLast? with | some r => r.seq | none => 0
    let head := match slots.find? fun p => p.2.any fun r => decide (r.seq = last) with | some p => (p.1 + 1) % 1024 | none => 0
    let y := { x with
      foreign := false, blocks := BitVec.ofNat 32 (ofLe (sliceBytes b 8 4)), generation := BitVec.ofNat 32 (ofLe (sliceBytes b 12 4))
      lastSeq := last, voids := recs.foldl voidsAfter [], slot := head
      journal := slots.foldl (fun j p => Bank.set none p.1 p.2 j) [] }
    if y.wp then y else ((openIntents recs).zip (c.runs ++ List.replicate 1024 [])).foldl SdPort.repair y

/-! ### SD ports -/

/-- The running command ends: DONE becomes 1 (R458). -/
def SdPort.finish (st : Half) (x : SdPort) : SdPort :=
  { x with run := none, status := st, done := true, irqPend := true }

/-- What a removal gives the running command (R446). -/
def SdPort.removalStatus (x : SdPort) : Half :=
  match x.run with
  | some r => if r.write ∧ x.state = .busy then Status.cardGoneInBusy else Status.cardRemoved
  | none => Status.ok

/-- The removal sequence of R445: the port goes dark, and its I/O rail is discharged until the next insertion. -/
def SdPort.dark (x : SdPort) : SdPort :=
  let y := if x.run.isSome then x.finish x.removalStatus else x
  { y with state := if x.en then .empty else .disabled, power := false, discharge := true, v18 := false, mode := 0, cap := 0, tap := 0
           why := 0, modes := 0, cmd23 := false, tunedUs := 0, foreign := false, blocks := 0, generation := 0, lastSeq := 0, voids := []
           journal := [], slot := 0 }

/-- SD_CARD_INSERTED (R439 step 1). -/
def execSdCardInserted (p : Fin 4) (s : State) : Host.Outcome State Fault Refusal :=
  .next (s.updSd p.val fun x =>
    if x.det then x
    else { x with det := true, irqPend := true, state := if x.en then .settle else x.state })

/-- The port is powered and initialises its card (R439 step 2): 3.3 V, the I/O discharge released. -/
def SdPort.powerUp (x : SdPort) : SdPort := { x with state := .init, power := true, discharge := false, v18 := false }

/-- SD_SETTLE_END (R439 step 2): the supply is switched on and initialisation starts. -/
def execSdSettleEnd (p : Fin 4) (s : State) : Host.Outcome State Fault Refusal :=
  .next (s.updSd p.val fun x => if x.state = .settle ∧ x.det = true then x.powerUp else x)

/-- The longest run of passing taps: its first tap and its length; of equal runs the first (R440). -/
def longestRun (m : BitVec 40) : Nat × Nat :=
  let r := (List.range 40).foldl (fun (b : (Nat × Nat) × Nat) i =>
    let n := if m.getLsbD i then b.2 + 1 else 0
    (if b.1.2 < n then (i + 1 - n, n) else b.1, n)) ((0, 0), 0)
  r.1

/-- The centre of a run of taps: of an even run the lower of the two (DESIGN CHOICE, log entry 126). -/
def tapOf (r : Nat × Nat) : BitVec 6 := BitVec.ofNat 6 (r.1 + (r.2 - 1) / 2)

/-- The mode and tap that CMD6 and tuning reach, from the modes allowed in falling order and the taps that pass at each tuning: a run
shorter than 4 taps drops one mode (R437, R440). -/
def settleMode : List Nat → List (BitVec 40) → Nat × BitVec 6
  | [], _ => (0, 0)
  | m :: ms, ps =>
    if m < 5 then (m, 0)
    else if 4 ≤ (longestRun (ps.headD 0)).2 then (m, tapOf (longestRun (ps.headD 0)))
    else settleMode ms ps.tail

/-- The modes up to `top` that the card and the signalling level allow, highest first; SDR 12 and default speed are every card's (R440). -/
def modesFrom (top : Nat) (low : Bool) (card : BitVec 7) : List Nat :=
  ((if low then [6, 5, 4, 3] else [1]).filter fun m => decide (m ≤ top) && card.getLsbD m) ++ [if low then 2 else 0]

/-- Tune again in the mode in use, or in a lower one (R440). -/
def SdPort.retune (now : Nat) (passes : List (BitVec 40)) (x : SdPort) : SdPort :=
  if x.mode.toNat < 5 then x
  else
    let m := settleMode (modesFrom x.mode.toNat true x.modes) passes
    { x with mode := BitVec.ofNat 3 m.1, tap := m.2, tunedUs := now }

/-- The port tunes by itself: which taps pass is the card's, free values (log entry 49). -/
def State.sdTune (p : Nat) (s : State) : State :=
  if (s.sdPort p).mode.toNat < 5 then s
  else s.draw 10 fun b t =>
    t.updSd p (SdPort.retune t.cob.clockUs [BitVec.ofNat 40 (ofLe (b.take 5)), BitVec.ofNat 40 (ofLe (b.drop 5))])

/-- A transfer that ends before its count: LENGTH_SHORT, the port FAILED with its reason (R443). -/
def SdPort.fail (why : BitVec 4) (x : SdPort) : SdPort :=
  let y := match x.run with
    | some r => { x.finish Status.lengthShort with xfer := BitVec.ofNat 32 r.confirmed }
    | none => x
  { y with state := .failed, why := why }

/-- SD_INIT_DONE (R438-R440): the card is refused with a reason, or the port is READY and firmware scans the card; a transfer that was
interrupted for a power cycle restarts, with no insertion between (R443, R449).  `modes` and `v18` are what CMD6 and the 1.8 V switch answer, `cSize` the C_SIZE of its CSD. -/
def execSdInitDone (p : Fin 4) (why : BitVec 4) (cSize : Nat) (modes : BitVec 7) (v18 cmd23 : Bool) (passes : List (BitVec 40))
    (wp : Bool) (scan : CardScan) (s : State) : Host.Outcome State Fault Refusal :=
  .next (s.updSd p.val fun x =>
    if x.state ≠ .init then x
    else if why ≠ 0 then x.fail why
    else
      let low := v18 && decide (2 ≤ x.maxMode.toNat)
      let m := settleMode (modesFrom x.maxMode.toNat low modes) passes
      let y := { x with mode := BitVec.ofNat 3 m.1, tap := m.2, v18 := low, wp := wp, modes := modes, cmd23 := cmd23
                        tunedUs := s.cob.clockUs, cap := if 65375 < cSize then 2 else 1, why := 0 }
      if x.run.isSome then { y with state := .xfer } else { y.scanned (1024 * (cSize + 1)) scan with state := .ready })

/-- SD_CARD_REMOVED (R445, R446). -/
def execSdCardRemoved (p : Fin 4) (s : State) : Host.Outcome State Fault Refusal :=
  .next (s.updSd p.val fun x => if x.det then { x.dark with det := false, irqPend := true } else x)

/-- A READ or WRITE of SD_CMD_p: machine level only, ignored while a command is active (R458). -/
def SdPort.start (write : Bool) (level : Level) (x : SdPort) : SdPort :=
  if level ≠ .machine ∨ x.run.isSome then x
  else if x.count = 0 then { x.finish Status.lengthRange with xfer := 0 }
  else if x.state ≠ .ready then { x.finish Status.cardAbsent with xfer := 0 }
  else { x with run := some { write := write, lba := x.lba, count := x.count, addr := x.addr }, done := false, xfer := 0,
                state := .xfer }

/-- Before a transfer the port tunes when its last tuning is more than 1 s old (R440). -/
def State.sdFresh (p : Nat) (s : State) : State := if (s.sdPort p).tunedUs + 1000000 < s.cob.clockUs then s.sdTune p else s

/-- Start a transfer. -/
def State.sdStart (p : Nat) (write : Bool) (level : Level) (s : State) : State :=
  let x := s.sdPort p
  (if level = .machine ∧ x.run = none ∧ x.count ≠ 0 ∧ x.state = .ready then s.sdFresh p else s).updSd p (SdPort.start write level)

/-- SD_READ (R441, R458). -/
def execSdRead (p : Fin 4) (level : Level) (s : State) : Host.Outcome State Fault Refusal := .next (s.sdStart p.val false level)
/-- SD_WRITE (R441, R458). -/
def execSdWrite (p : Fin 4) (level : Level) (s : State) : Host.Outcome State Fault Refusal := .next (s.sdStart p.val true level)

/-- SD_ABORT (R458): the running command ends with ABORTED. -/
def execSdAbort (p : Fin 4) (level : Level) (s : State) : Host.Outcome State Fault Refusal :=
  .next (s.updSd p.val fun x =>
    if level = .machine ∧ x.run.isSome then { x.finish Status.aborted with state := .ready } else x)

/-- SD_RETUNE (R440): the tap at the centre of the longest run, or a lower mode. -/
def execSdRetune (p : Fin 4) (level : Level) (passes : List (BitVec 40)) (s : State) : Host.Outcome State Fault Refusal :=
  .next (s.updSd p.val fun x =>
    if level = .machine ∧ x.run = none ∧ x.state = .ready then (x.retune s.cob.clockUs passes).finish Status.ok else x)

/-- SD_POWER_OFF (R445): the removal sequence. -/
def execSdPowerOff (p : Fin 4) (level : Level) (s : State) : Host.Outcome State Fault Refusal :=
  .next (s.updSd p.val fun x => if level = .machine ∧ x.run = none then x.dark else x)

/-- SD_POWER_ON (R439 from step 2). -/
def execSdPowerOn (p : Fin 4) (level : Level) (s : State) : Host.Outcome State Fault Refusal :=
  .next (s.updSd p.val fun x =>
    if level = .machine ∧ x.run = none ∧ x.en = true ∧ x.det = true ∧ (x.state = .empty ∨ x.state = .failed) then x.powerUp
    else x)

/-- A busy has ended (R441, R442): a block of a write is confirmed, and after the last one CMD12 has a busy of its own where the card
does not support CMD23; then the command ends. -/
def SdPort.busyEnd (x : SdPort) : SdPort :=
  match x.run with
  | some r =>
    if x.state ≠ .busy then x
    else
      let total := 512 * r.count.toNat
      let done := if r.stopping then r.confirmed else r.confirmed + 512
      if done < total then { x with state := .xfer, run := some { r with confirmed := done } }
      else if !r.stopping && !x.cmd23 then { x with run := some { r with confirmed := done, stopping := true } }
      else { x.finish Status.ok with state := .ready, xfer := BitVec.ofNat 32 total }
  | none => x

/-- SD_BUSY_END (R442): DAT0 is sampled high. -/
def execSdBusyEnd (p : Fin 4) (s : State) : Host.Outcome State Fault Refusal := .next (s.updSd p.val SdPort.busyEnd)

/-- A card fault (R443): the first time the card is power-cycled and the transfer restarts from its first unconfirmed block;
then the port fails with the reason. -/
def State.sdFault (p : Nat) (why : BitVec 4) (s : State) : State :=
  match (s.sdPort p).run with
  | some r =>
    if r.cycled then (s.updSd p (SdPort.fail why)).eventFree (0x60 + p) 1
    else (s.updSd p fun x => { x.powerUp with run := some { r with cycled := true } }).eventFree (0x60 + p) 1
  | none => s

/-- SD_BUSY_TIMEOUT (R442, R443). -/
def execSdBusyTimeout (p : Fin 4) (s : State) : Host.Outcome State Fault Refusal :=
  .next (if (s.sdPort p.val).state = .busy then s.sdFault p.val 5 else s)
/-- SD_RESPONSE_TIMEOUT (R443). -/
def execSdResponseTimeout (p : Fin 4) (s : State) : Host.Outcome State Fault Refusal :=
  .next (if (s.sdPort p.val).state = .xfer then s.sdFault p.val 1 else s)

/-- A persistent CRC error ends the transfer: WHY 1 or 5, which of them the spec does not say (R443; a free value, log entry 4). -/
def State.sdBadCrc (p : Nat) (s : State) : State :=
  s.draw 1 fun b t => t.updSd p (SdPort.fail (if (b.headD 0).getLsbD 0 then 1 else 5))

/-- SD_TRANSFER_END (R441-R443): a read's data, from its first block on, reach custody SRAM, or the block with a bad CRC is read again,
after retuning, up to two times; a block of a write has been sent and the card is busy.  The card DMA moves the bytes. -/
def execSdTransferEnd (p : Fin 4) (data : List Byte) (crcOk : Bool) (s : State) : Host.Outcome State Fault Refusal :=
  .next (match (s.sdPort p.val).run with
    | none => s
    | some r =>
      if (s.sdPort p.val).state ≠ .xfer then s
      else if r.write then
        s.cardOut (r.addr.toNat + r.confirmed) 512 fun t => t.updSd p.val fun x => { x with state := .busy }
      else
        let n := if crcOk then 512 * r.count.toNat else data.length / 512 * 512
        s.cardIn r.addr.toNat (padTo n data) fun t =>
          if crcOk then t.updSd p.val fun x => { x.finish Status.ok with state := .ready, xfer := BitVec.ofNat 32 n }
          else
            let reads := if n = r.confirmed then r.rereads else 0
            let u := t.updSd p.val fun x => { x with run := some { r with rereads := reads + 1, confirmed := n } }
            if reads < 2 then (u.sdTune p.val).eventFree (0x60 + p.val) 1 else u.sdBadCrc p.val)

/-- SD_CFG_WRITE (R458): MAXMODE but for 7; EN = 0 runs the removal sequence, EN = 1 starts from the detect level. -/
def execSdCfgWrite (p : Fin 4) (level : Level) (v : Word) (s : State) : Host.Outcome State Fault Refusal :=
  .next (if level ≠ .machine then s
  else s.updSd p.val fun x =>
    let m : BitVec 3 := (v >>> 1).setWidth 3
    let y := { x with maxMode := if m = 7 then x.maxMode else m, en := v.getLsbD 0 }
    if x.en = v.getLsbD 0 then y
    else if v.getLsbD 0 then { y with state := if x.det then .settle else .empty }
    else y.dark)

/-! ### Contact slots -/

def IccSlot.finish (st : Half) (x : IccSlot) : IccSlot :=
  { x with run := none, status := st, done := true, irqPend := true }

/-- The deactivation of R453, leaving the slot in `dest`; a command in progress gives `st`. -/
def IccSlot.deactivate (dest : IccSt) (st : Half) (x : IccSlot) : IccSlot :=
  let y := if x.run.isSome then x.finish st else x
  { y with state := dest, power := false, classB := false, t1 := false, fi := 0, di := 0, clkKhz := 0, stop := 0, clkHigh := false
           atr := [] }

/-- ICC_CARD_INSERTED (R452). -/
def execIccCardInserted (n : Fin 2) (s : State) : Host.Outcome State Fault Refusal :=
  .next (s.updIcc n.val fun x =>
    if x.pres then x else { x with pres := true, irqPend := true, state := if x.en then .present else x.state })

/-- ICC_CARD_REMOVED (R453, R457): with `tie` the last ATR or response character was received in the same cycle; it has been taken, and
the command gives CARD_REMOVED all the same. -/
def execIccCardRemoved (n : Fin 2) (tie : Bool) (s : State) : Host.Outcome State Fault Refusal :=
  .next (s.updIcc n.val fun x =>
    if x.pres then
      let y := if tie then { x with status := Status.cardRemoved } else x
      { y.deactivate (if x.en then .empty else .disabled) Status.cardRemoved with pres := false, irqPend := true }
    else x)

/-- ICC_ACTIVATE (R452, R458): class C first. -/
def execIccActivate (n : Fin 2) (level : Level) (s : State) : Host.Outcome State Fault Refusal :=
  .next (s.updIcc n.val fun x =>
    if level ≠ .machine ∨ x.run.isSome then x
    else if x.state = .present ∨ x.state = .failed then
      { x with state := .activating, power := true, classB := false, run := some false, done := false, clkKhz := 4000 }
    else if x.state = .active ∨ x.state = .clockStopped then x.finish Status.ok
    else x.finish Status.cardAbsent)

/-- ICC_DEACTIVATE (R452, R453). -/
def execIccDeactivate (n : Fin 2) (level : Level) (s : State) : Host.Outcome State Fault Refusal :=
  .next (s.updIcc n.val fun x =>
    if level = .machine ∧ x.run = none ∧ (x.state = .active ∨ x.state = .clockStopped ∨ x.state = .failed) then
      (x.deactivate .present Status.ok).finish Status.ok
    else x)

/-- The APDU lengths a protocol allows (R451). -/
def apduLenOk (t1 : Bool) (n : Nat) : Bool := decide (4 ≤ n ∧ n ≤ if t1 then 65544 else 261)

/-- ICC_XCHG (R451, R458): the card DMA reads the command APDU. -/
def execIccXchg (n : Fin 2) (level : Level) (s : State) : Host.Outcome State Fault Refusal :=
  let x := s.iccSlot n.val
  .next (if level ≠ .machine ∨ x.run.isSome then s
  else if x.state ≠ .active ∧ x.state ≠ .clockStopped then s.updIcc n.val (IccSlot.finish Status.cardAbsent)
  else if !apduLenOk x.t1 x.txLen.toNat then s.updIcc n.val (IccSlot.finish Status.inputInvalid)
  else (s.updIcc n.val fun x => { x with state := .active, clkHigh := false, run := some true, done := false, rxLen := 0 }).cardOut
    x.txAddr.toNat x.txLen.toNat id)

/-- The slot tries class B, or fails when it has (R452). -/
def IccSlot.noAtr (x : IccSlot) : IccSlot :=
  if x.classB then x.deactivate .failed Status.cardAbsent else { x with classB := true }

/-! ### The answer to reset (R452, R455; ISO/IEC 7816-3, log entry 127) -/

/-- What an ATR says: TA1, the first protocol offered, the protocol and the implicit flag of a specific mode, and the first TA for T = 15,
with its class and clock-stop indicators. -/
structure Atr where
  ta1 : Option Byte := none
  proto : Nat := 0
  specific : Option Byte := none
  global : Option Byte := none

/-- The interface bytes of group `i` on, with the presence bits `y` and the protocol `p` that the TD before named. -/
def atrGroups : Nat → Nat → Nat → Option Nat → List Byte → Atr → Atr
  | 0, _, _, _, _, a => a
  | k + 1, i, y, p, l, a =>
    let ta := if y % 2 = 1 then l.head? else none
    let l1 := l.drop (y % 2 + y / 2 % 2 + y / 4 % 2)
    let a1 := if i = 1 then { a with ta1 := ta } else if i = 2 then { a with specific := ta } else a
    let a2 := if p = some 15 ∧ a1.global.isNone = true then { a1 with global := ta } else a1
    if y / 8 % 2 = 0 then a2
    else match l1 with
      | td :: l2 =>
        atrGroups k (i + 1) (td.toNat / 16) (some (td.toNat % 16)) l2 (if i = 1 then { a2 with proto := td.toNat % 16 } else a2)
      | [] => a2

/-- Read an ATR: TS, then T0 with the presence bits of the first group. -/
def atrOf (b : List Byte) : Atr := atrGroups 32 1 ((b.getD 1 0).toNat / 16) none (b.drop 2) {}

/-- The card's greatest clock in kHz, by its FI code. -/
def fmaxOf (fi : Nat) : Nat :=
  match fi with
  | 1 => 5000 | 2 => 6000 | 3 => 8000 | 4 => 12000 | 5 => 16000 | 6 => 20000 | 9 => 5000 | 10 => 7500 | 11 => 10000 | 12 => 15000
  | 13 => 20000 | _ => 4000

/-- ATR_RECEIVED (R451, R452): the slot is active, at the Fi and Di of TA1 once the PPS for them has succeeded, or at the defaults; it
repeats at class B when the ATR offers no class C; a protocol other than T=0 and T=1 is no usable answer (log entry 127). -/
def execAtrReceived (n : Fin 2) (atr : List Byte) (ppsOk : Bool) (s : State) : Host.Outcome State Fault Refusal :=
  .next (s.updIcc n.val fun x =>
    let a := atrOf atr
    let proto := match a.specific with | some b => b.toNat % 16 | none => a.proto
    let classC := a.global.any fun b => b.getLsbD 2
    let own := match a.specific with | some b => !b.getLsbD 4 | none => ppsOk
    let f := match a.ta1 with | some b => if own then b.toNat / 16 else 1 | none => 1
    let d := match a.ta1 with | some b => if own then b.toNat % 16 else 1 | none => 1
    if x.state ≠ .activating then x
    else if (!x.classB && !classC) || decide (1 < proto) then x.noAtr
    else { x.finish Status.ok with
      state := .active, atr := atr.take 33, t1 := decide (proto = 1), fi := BitVec.ofNat 4 f, di := BitVec.ofNat 4 d
      stop := match a.global with | some b => (b >>> 6).setWidth 2 | none => 0
      clkKhz := BitVec.ofNat 16 (min (fmaxOf f) (1000 * x.fmax.toNat)) })

/-- ATR_TIMEOUT (R452). -/
def execAtrTimeout (n : Fin 2) (s : State) : Host.Outcome State Fault Refusal :=
  .next (s.updIcc n.val fun x => if x.state = .activating then x.noAtr else x)

/-- A failure of R454: the slot deactivates, the command gives CARD_REMOVED, and the event is logged. -/
def State.iccFail (n : Nat) (s : State) : State :=
  if (s.iccSlot n).run = some true then
    (s.updIcc n (IccSlot.deactivate .present Status.cardRemoved)).eventFree (0x64 + n) 1
  else s

/-- ICC_WWT_EXCEEDED (R454). -/
def execIccWwtExceeded (n : Fin 2) (s : State) : Host.Outcome State Fault Refusal := .next (s.iccFail n.val)

/-- ICC_EXCHANGE_END (R451, R454): the card DMA writes the response to its buffer, or the exchange has failed. -/
def execIccExchangeEnd (n : Fin 2) (response : Option (List Byte)) (s : State) : Host.Outcome State Fault Refusal :=
  let x := s.iccSlot n.val
  .next (match response with
    | none => s.iccFail n.val
    | some r =>
      if x.run = some true then
        let d := r.take x.rxCap.toNat
        s.cardIn x.rxAddr.toNat d fun t => t.updIcc n.val fun x =>
          { x.finish Status.ok with rxLen := BitVec.ofNat 32 d.length }
      else s)

/-- ICC_CLOCK_STOP (R455): low when the card allows both levels, else at the level it names. -/
def execIccClockStop (n : Fin 2) (s : State) : Host.Outcome State Fault Refusal :=
  .next (s.updIcc n.val fun x =>
    if x.state = .active ∧ x.run = none ∧ x.cstopEn = true ∧ x.stop ≠ 0 then
      { x with state := .clockStopped, clkHigh := decide (x.stop = 2) } else x)

/-- ICC_CFG_WRITE (R458): FMAX_MHZ of 1 to 8 only. -/
def execIccCfgWrite (n : Fin 2) (level : Level) (v : Word) (s : State) : Host.Outcome State Fault Refusal :=
  .next (if level ≠ .machine then s
  else s.updIcc n.val fun x =>
    let f : BitVec 4 := (v >>> 2).setWidth 4
    let y := { x with cstopEn := v.getLsbD 1, fmax := if 1 ≤ f.toNat ∧ f.toNat ≤ 8 then f else x.fmax, en := v.getLsbD 0 }
    if x.en = v.getLsbD 0 then y
    else if v.getLsbD 0 then { y with state := if x.pres then .present else .empty }
    else y.deactivate .disabled Status.cardRemoved)

end Sys2Proof.Machine
end

