-- ==== Sys2Proof/Machine/SoleOps.lean ====
section
/-! DEFINITION. Shared operations of the Sole ports and the Last (08, 09): frames, port states, holds, predictions and
windows. -/

namespace Sys2Proof.Machine

def Sole.get (x : Sole) (n : Nat) : Port := Bank.get {} x.port n
def Sole.upd (n : Nat) (f : Port → Port) (x : Sole) : Sole := { x with port := Bank.upd {} n f x.port }
def State.updPort (n : Nat) (f : Port → Port) (s : State) : State := s.withSole (Sole.upd n f)

/-! ### Roles and states (08 R284, R286) -/

/-- The port's role is ACTIVE: always, unless it is dual-homed in a pair (R284) or the member is FENCED (16 R469). -/
def portActive (s : State) (p : Port) : Bool :=
  !decide (s.welt.state = .fenced) && (!p.dual || decide (s.welt.state = .unpaired ∨ s.welt.state = .linking) || p.role)

/-- SOL_STATE.STATE (R286, R290). -/
def portState (s : State) (p : Port) : Nat :=
  if !p.en then 0
  else if p.hold then 7
  else if !p.lock then 1
  else match p.trained with
    | .no => 2
    | .training => 2
    | .failed => 3
    | .yes =>
      if !portActive s p then 4
      else if p.trk.state ≠ 2 ∨ p.drvHold = true then 6
      else 5

/-- The port can send sectors (R286). -/
def canSend (s : State) (n : Nat) : Bool := decide (portState s (s.sole.get n) = 5)

/-! ### Frames (R262, R263) -/

/-- Send a frame; its sequence advances except for IDLE (R263).  Nothing leaves without lock. -/
def State.sendFrame (n : Nat) (type : Byte) (rewrite : Bool) (body : List Byte) (s : State) : State :=
  let p := s.sole.get n
  if !p.lock then s
  else
    let f := mkFrame type (BitVec.ofNat 8 (bit (portActive s p) + 2 * bit rewrite)) p.txSeq body
    let s1 := s.withOut fun o => { o with frames := (n, f) :: o.frames }
    if type = 0x0F then s1 else s1.updPort n fun p => { p with txSeq := p.txSeq + 1 }

/-- A HOLD frame with its reason (R270). -/
def State.sendHold (n : Nat) (why : BitVec 2) (s : State) : State :=
  (s.sendFrame n 0x04 false [0, why.setWidth 8, 0, 0]).updPort n fun p => { p with holding := some why, holdWhy := why }

/-- A RESUME frame with the reason of the hold that ends (R270). -/
def State.sendResume (n : Nat) (why : BitVec 2) (s : State) : State :=
  (s.sendFrame n 0x04 false [1, why.setWidth 8, 0, 0]).updPort n fun p => { p with holding := none }

/-- The reason of the hold that the port is in: host, training, drive, tracker (R270, R286, R288, 09 R300). -/
def holdReason (s : State) (p : Port) : Option (BitVec 2) :=
  if !p.en || !p.lock then none
  else if p.hold then some 0
  else if p.trained = .yes then
    if p.drvHold then some 2
    else if portActive s p && decide (p.trk.state ≠ 2) then some 1
    else none
  else some 3

/-- A HOLD frame that the spec asks for whatever other hold stands: at training, and in answer to a drive (R270, R273). -/
def State.announceHold (n : Nat) (why : BitVec 2) (s : State) : State :=
  let t := s.sendHold n why
  t.updPort n fun p => { p with holding := holdReason t p }

/-- HOLD when the port enters a hold, also for a new reason, and RESUME when it leaves it (R270, 09 R300).  A port that can
send again ends the effect of its hold limit (09 R312). -/
def State.settleHold (n : Nat) (s : State) : State :=
  let p := s.sole.get n
  let s1 := match holdReason s p, p.holding with
    | none, none => s
    | none, some w => if p.lock then s.sendResume n w else s.updPort n fun p => { p with holding := none }
    | some w, h => if h = some w then s else s.sendHold n w
  if canSend s1 n then s1.updPort n fun p => { p with holdOver := false } else s1

/-- A LINKCTL frame (R272). -/
def State.linkctl (n : Nat) (sub : Byte) (fields : List Byte) (s : State) : State :=
  s.sendFrame n 0x06 false ([sub, 0, 0, 0] ++ fields)

/-- A change of role since the port was `was` ACTIVE is announced at once (R284). -/
def State.roleFrame (n : Nat) (was : Bool) (s : State) : State :=
  let now := portActive s (s.sole.get n)
  if was = now then s else s.linkctl n 5 [BitVec.ofNat 8 (bit now), 0, 0, 0]

/-- The end of the host's hold (R288): RESUME, and HOLD again where another hold stands. -/
def State.endHostHold (n : Nat) (s : State) : State :=
  ((s.updPort n fun p => { p with hold := false }).sendResume n 0).settleHold n

/-- The staged writes of a port that the host holds, or that is disabled, complete with PORT_HOLD, but for those whose frame has
been sent (06 R206; R286, R288). -/
def State.holdWrites (n detail : Nat) (s : State) : State :=
  ((s.sole.get n).sched.filter fun e => e.granule.isSome && e.seq.isNone).foldl (fun (t : State) e =>
    t.failJob e.job Status.portHold (BitVec.ofNat 32 detail) 7) s

/-! ### The Last: prediction and windows (09 R294, R305-R307) -/

/-- `x` modulo `m`, not negative. -/
def imod (x : Int) (m : Nat) : Nat := (x % (m : Int)).toNat

/-- The ticks of a pass in 2^-16 ticks. -/
def Port.turn (p : Port) : Nat := p.tpp.toNat * 2 ^ 16

/-- The prediction at `t`, in 2^-16 ticks from the start of pass `pass0` (R294). -/
def predAbs (p0 v : Nat) (t0 t : BitVec 48) : Nat := p0 + v * (t - t0).toNat

/-- The prediction at `t`: pass and fine position (R294). -/
def Port.predict (p : Port) (t : BitVec 48) : Half × Nat :=
  let a := predAbs p.trk.p0 p.trk.v p.trk.t0 t
  (p.trk.pass0 + BitVec.ofNat 16 (a / p.turn), a % p.turn)

/-- The in-pass slot of a sector address (R305). -/
def Port.slot (p : Port) (addr : Long) : Nat := addr.toNat % 2 ^ 40 % p.spp.toNat

/-- The window point of slot `k` (R305). -/
def Port.point (p : Port) (k : Nat) : Nat :=
  imod (((p.offs.toNat + k * p.pitch.toNat : Nat) : Int) * 2 ^ 16 - (p.lead.toNat * 2 ^ 16 : Nat)
    - (p.trk.v * (9 + p.delay.toNat) : Nat)) p.turn

/-- The predicted time of the next window of a sector address, counted from `now` (R291, R307). -/
def Port.windowIn (p : Port) (now : BitVec 48) (addr : Long) : Option Nat :=
  if p.trk.state = 2 ∧ 0 < p.trk.v ∧ 0 < p.spp.toNat ∧ 0 < p.tpp.toNat then
    let d := imod ((p.point (p.slot addr) : Int) - p.trk.p0) p.turn
    let e := p.trk.v * (now - p.trk.t0).toNat
    let j := if e < d then 0 else (e - d) / p.turn + 1
    some ((d + j * p.turn + p.trk.v - 1) / p.trk.v - (now - p.trk.t0).toNat)
  else none

/-- The earliest predicted window among scheduled entries (R314 LST_NEXT). -/
def Port.nextWindow (p : Port) (now : BitVec 48) : Option Nat :=
  p.sched.foldl (fun m e => match m, p.windowIn now e.addr with
    | none, w => w
    | some a, none => some a
    | some a, some b => some (min a b)) none

/-- G and GA in force (R301): 0 selects the defaults that depend on the pitch. -/
def Port.gateG (p : Port) : Nat := if p.gate = 0 then max 1 (p.pitch.toNat / 50) else p.gate.toNat
def Port.gateGA (p : Port) : Nat := if p.agate = 0 then max p.gateG (p.pitch.toNat / 4) else p.agate.toNat
def Port.acqCount (p : Port) : Nat := if p.acqN = 0 then 16 else p.acqN.toNat

/-- The signed value of a 16-bit difference. -/
def sdiff16 (a b : Half) : Int := (a - b).toInt

/-- The prediction at `t` brought forward by v × (9 + DELAY), in 2^-16 ticks from the start of pass `pass0`: a window opens
when it reaches start - L, for the term is that of R305. -/
def Port.leadAt (p : Port) (t : BitVec 48) : Int :=
  (predAbs p.trk.p0 p.trk.v p.trk.t0 t + p.trk.v * (9 + p.delay.toNat) : Nat)

/-- The furthest point reached so far, from the start of pass `pass0` (R306). -/
def Port.reached (p : Port) : Option Int := p.reach.map fun r => r.2 + sdiff16 r.1 p.trk.pass0 * p.turn

/-- The furthest point reached once `x` has been reached. -/
def Port.reachTo (x : Int) (p : Port) : Port :=
  { p with reach := some (p.trk.pass0, match p.reached with | some r => max r x | none => x) }

/-- The furthest point reached before the cycle `t`: the cycles since the last update all lie in TRACK (R306). -/
def Port.reachedBefore (p : Port) (t : BitVec 48) : Int :=
  let r := p.reached.getD (p.leadAt t)
  if t = p.trk.updAt then r else max r (p.leadAt (t - 1))

/-- The window point of slot `k`, start - L, is reached at `t`, having never been reached in this pass before (R306). -/
def Port.crosses (p : Port) (k : Nat) (t : BitVec 48) : Bool :=
  let f : Int := ((p.offs.toNat + k * p.pitch.toNat : Nat) : Int) * 2 ^ 16 - (p.lead.toNat * 2 ^ 16 : Nat)
  let m : Int := p.turn
  decide ((p.reachedBefore t - f) / m < (p.leadAt t - f) / m)

/-! ### Staging (08 R278) -/

/-- Granules of 64 bytes of a sector (R278). -/
def granules (code : Nat) : Nat := match code with | 0 => 65 | 1 => 257 | _ => 1025
/-- Payload and sector length of a payload code (R277). -/
def payloadLen (code : Nat) : Nat := match code with | 0 => 4096 | 1 => 16384 | _ => 65536
def sectorLen (code : Nat) : Nat := payloadLen code + 48

/-- The runs of granules in use, by first granule. -/
def Port.granRuns (p : Port) : List (Nat × Nat) := p.sched.filterMap SchedEntry.granule

/-- Whether granules `g … g + n - 1` are free. -/
def Port.granFree (p : Port) (g n : Nat) : Bool :=
  decide (g + n ≤ 4096) && p.granRuns.all fun r => decide (r.1 + r.2 ≤ g ∨ g + n ≤ r.1)

/-- The lowest free run of `n` granules: at the start or right after a run in use (R278; log entry 8). -/
def Port.granFind (p : Port) (n : Nat) : Option Nat :=
  ((0 :: p.granRuns.map fun r => r.1 + r.2).filter fun g => p.granFree g n).foldl
    (fun m g => match m with | none => some g | some a => some (min a g)) none

/-- Granules in use (SOL_STAGE). -/
def Port.granUsed (p : Port) : Nat := (p.granRuns.map Prod.snd).sum

/-- Address of a granule of port `n` (01 R31). -/
def granAddr (n g : Nat) : Nat := 0x11000000 + n * 0x40000 + 64 * g

/-- Jobs waiting in the read table of port `n` (06 R207). -/
def Rings.parkedOn (rs : Rings) (n : Nat) : List (Nat × Job) :=
  rs.list.filter fun p => decide (p.2.pos = .parked ∧ p.2.desc.port.toNat = n)

/-! ### Deferrals (09 R310), skips (08 R279) and records (16 R465) -/

/-- The configuration of a port as a PORT_CONFIG record has it (R287; 09 R301), and its volume table: what a record of kind 8 brings
the partner. -/
def Port.configBytes (p : Port) : List Byte :=
  padTo 16 [BitVec.ofNat 8 (bit p.en + 2 * bit p.dual), if p.xany then 0xFF else p.xcode.setWidth 8] ++
    padTo 48 (leBytes 2 p.alpha.toNat ++ leBytes 2 p.beta.toNat ++ leBytes 4 p.vlo.toNat ++ leBytes 4 p.vhi.toNat ++ leBytes 4 p.lead.toNat
      ++ leBytes 4 p.gate.toNat ++ leBytes 4 p.agate.toNat ++ [p.acqN.setWidth 8, 0] ++ leBytes 2 p.tmoUs.toNat ++ leBytes 2 p.holdMs.toNat)
def VolEntry.bytes (e : VolEntry) : List Byte := leBytes 8 e.keyId.toNat ++ leBytes 4 e.vol.toNat ++ leBytes 4 e.handle.toNat

/-- The record of a port's configuration or, with an entry, of a change of its volume table. -/
def State.portRec (n : Nat) (v : Option VolEntry) (s : State) : MirrorRec :=
  .portCfg (Fin.ofNat _ n) ((s.sole.get n).configBytes ++ (v.map VolEntry.bytes).getD (List.replicate 16 0))

/-- Change the schedule entry of job `k` on port `n`. -/
def State.updEntry (n k : Nat) (f : SchedEntry → SchedEntry) (s : State) : State :=
  s.updPort n fun p => { p with sched := p.sched.map fun e => if e.job = k then f e else e }

/-- The record of a staged sector: header, tag and deferral count (16 R465 kind 7). -/
def State.stagedRecord (n k : Nat) (j : Job) (s : State) : MirrorRec :=
  let count := ((s.sole.get n).sched.find? fun e => decide (e.job = k)).map SchedEntry.deferrals
  .staged (Fin.ofNat _ (jobRing k)) (jobNum k) (j.out.take 32) (j.out.drop (j.out.length - 16)) (count.getD 0)

/-- The record of a staged sector goes to the partner. -/
def State.mirrorStaged (n k : Nat) (s : State) : State :=
  match s.rings.job k with
  | none => s
  | some j => s.mirror (s.stagedRecord n k j)

/-- Count a deferral of the entry of job `k` on port `n`; the eighth completes the job with WINDOW_MISSED (R310). -/
def State.deferEntry (n k : Nat) (s : State) : State :=
  let s1 := (s.updPort n fun p => { p with trk := { p.trk with defer := satAdd p.trk.defer 1 } }).updEntry n k fun e =>
    { e with deferrals := e.deferrals + 1, seq := none }
  if (s1.sole.get n).sched.any fun e => decide (e.job = k ∧ 8 ≤ e.deferrals) then
    (s1.failJob k Status.windowMissed (BitVec.ofNat 32 n) 7).updPort n fun p =>
      { p with trk := { p.trk with missed := satAdd p.trk.missed 1 } }
  else s1.mirrorStaged n k

end Sys2Proof.Machine
end

