-- ==== Sys2Proof/Machine/Cluster.lean ====
section
/-! DEFINITION. The cipher cluster (07): opcodes and cuts, context entries, datapaths and their checks, dealing, mismatches, and the
AES work of firmware. -/

namespace Sys2Proof.Machine

/-! ### Opcodes (R195) -/

def opSole (o : Byte) : Bool := decide (o = 0x20 ∨ o = 0x21)
def opDigest (o : Byte) : Bool := decide (o = 0x10 ∨ o = 0x11 ∨ o = 0x12)
def opCipher (o : Byte) : Bool := decide (1 ≤ o.toNat ∧ o.toNat ≤ 0x0F) || opSole o
def opDefined (o : Byte) : Bool := opCipher o || opDigest o
/-- Nonce-bearing opcodes: GCM_ENC, SOLE_WRITE. -/
def opNonce (o : Byte) : Bool := decide (o = 0x01 ∨ o = 0x20)
def opXts (o : Byte) : Bool := decide (o = 0x08 ∨ o = 0x09)
def opKw (o : Byte) : Bool := decide (0x0C ≤ o.toNat ∧ o.toNat ≤ 0x0F)
def opCmac (o : Byte) : Bool := decide (o = 0x0A ∨ o = 0x0B)
def opGcm (o : Byte) : Bool := decide (o = 0x01 ∨ o = 0x02) || opSole o

/-- The usage bit checked; none for DIGEST. -/
def opUsage (o : Byte) : Option Nat :=
  match o.toNat with
  | 0x01 => some uENCRYPT | 0x02 => some uDECRYPT | 0x03 => some uENCRYPT | 0x04 => some uDECRYPT
  | 0x05 => some uENCRYPT | 0x06 => some uDECRYPT | 0x07 => some uENCRYPT | 0x08 => some uENCRYPT | 0x09 => some uDECRYPT
  | 0x0A => some uMACGEN | 0x0B => some uMACVERIFY | 0x0C => some uWRAP | 0x0D => some uUNWRAP
  | 0x0E => some uWRAP | 0x0F => some uUNWRAP | 0x11 => some uMACGEN | 0x12 => some uMACVERIFY
  | 0x20 => some uENCRYPT | 0x21 => some uDECRYPT
  | _ => none

/-- The legal payload lengths. -/
def opLenOk (d : Desc) : Bool :=
  let l := d.len.toNat
  match d.opcode.toNat with
  | 0x02 => decide (l ≤ 0x400000)
  | 0x05 => decide (l % 16 = 0 ∧ 16 ≤ l)
  | 0x06 => decide (l % 16 = 0 ∧ 16 ≤ l)
  | 0x07 => decide (l = 16)
  | 0x08 => decide (l % 16 = 0 ∧ 16 ≤ l ∧ l ≤ 0x1000000)
  | 0x09 => decide (l % 16 = 0 ∧ 16 ≤ l ∧ l ≤ 0x1000000)
  | 0x0C => decide (l % 8 = 0 ∧ 16 ≤ l ∧ l ≤ 0x400000)
  | 0x0D => decide (l % 8 = 0 ∧ 24 ≤ l ∧ l ≤ 0x400008)
  | 0x0E => decide (1 ≤ l ∧ l ≤ 0x400000)
  | 0x0F => decide (l % 8 = 0 ∧ 16 ≤ l ∧ l ≤ 0x400008)
  | 0x20 => decide (l = payloadLen d.code.toNat)
  | 0x21 => decide (l = payloadLen d.code.toNat)
  | _ => true

/-- Bytes read from the source. -/
def srcLen (d : Desc) : Nat :=
  if d.opcode = 0x02 then d.len.toNat + 28 else if d.opcode = 0x21 then 0 else d.len.toNat

/-- Bytes written to the destination, as ADMIT tests them. -/
def outLen (d : Desc) : Nat :=
  let l := d.len.toNat
  match d.opcode.toNat with
  | 0x01 => l + 28
  | 0x0A => 16
  | 0x0B => 0
  | 0x0C => l + 8
  | 0x0D => l - 8
  | 0x0E => if l ≤ 8 then 16 else ceilTo 8 l + 8
  | 0x0F => l - 8
  | 0x10 => if digXof d.code then d.paramA.toNat % 2 ^ 32 else digOut d.code
  | 0x11 => digOut d.code
  | 0x12 => 0
  | 0x20 => 0
  | _ => l

/-! ### Cuts (07 R230) -/

/-- The payload bytes of the first cut (07 R230). -/
def firstCut (d : Desc) : Nat :=
  let a := if opSole d.opcode then 32 else if opGcm d.opcode then d.aadLen.toNat else 0
  min d.len.toNat (65536 - ceilTo 16 a)

/-- Block operations of a KW or KWP job (07 R230). -/
def kwOps (d : Desc) : Nat :=
  let l := d.len.toNat
  match d.opcode.toNat with
  | 0x0C => 6 * (l / 8)
  | 0x0D => 6 * (l / 8 - 1)
  | 0x0E => if l ≤ 8 then 1 else 6 * (ceilTo 8 l / 8)
  | _ => if l = 16 then 1 else 6 * (l / 8 - 1)

/-- The number of cuts of a job (07 R230). -/
def cutCount (d : Desc) : Nat :=
  if opKw d.opcode then max 1 ((kwOps d + 4095) / 4096)
  else 1 + (d.len.toNat - firstCut d + 65535) / 65536

/-- The payload bytes of cut `i`, counted from 0. -/
def cutPayload (d : Desc) (i : Nat) : Nat :=
  if i = 0 then firstCut d else min 65536 (d.len.toNat - firstCut d - 65536 * (i - 1))

/-- Bytes of the release buffer a job needs (R196, R231). -/
def bufNeed (d : Desc) : Nat :=
  if d.opcode = 0x02 ∨ d.opcode = 0x21 then d.len.toNat else if opKw d.opcode then d.len.toNat + 8 else 0

/-- Output that leaves towards host memory cut by cut: the modes without a release check (R196). -/
def streams (o : Byte) : Bool := decide (o = 1 ∨ o = 3 ∨ o = 4 ∨ o = 5 ∨ o = 6 ∨ o = 7 ∨ o = 8 ∨ o = 9)

/-- Block operations of KW and KWP completed before cut `i`, and in it (07 R230). -/
def kwDone (i : Nat) : Nat := 4096 * i
def kwCut (d : Desc) (i : Nat) : Nat := min 4096 (kwOps d - kwDone i)

/-- The checked blocks of cut `i`: the payload's, with GCM's hash key, the XTS tweak or CMAC's subkey in the first cut, and the one
block of an empty message of CMAC (07 R243; R259 CPH_BLOCKS). -/
def cutBlocks (d : Desc) (i : Nat) : Nat :=
  let n := (cutPayload d i + 15) / 16
  if opKw d.opcode then kwCut d i
  else if opGcm d.opcode ∨ opXts d.opcode = true then n + bit (decide (i = 0))
  else if opCmac d.opcode then max n (bit (decide (d.len = 0))) + bit (decide (i = 0))
  else n

/-! ### What a cut reads (07 R230, R223; 06 R195) -/

/-- The bytes of host memory, or of the received sector, that a cut brings: AAD, the IV that precedes a ciphertext, payload or the
whole input of a wrap, and the tag that follows it. -/
structure CutIn where
  aad : List Byte
  iv : List Byte
  data : List Byte
  tag : List Byte

/-- The octets of an IV (07 R226). -/
def ivBytes (iv : BitVec 96) : List Byte := leBytes 12 iv.toNat

/-- The 32-byte sector header (08 R276). -/
def sectorHeader (code : Nat) (keyId : Long) (iv : BitVec 96) (addr : Long) : List Byte :=
  [0x53, 0x01] ++ leBytes 2 code ++ leBytes 8 keyId.toNat ++ ivBytes iv ++ leBytes 8 addr.toNat

/-- The payload bytes before cut `i` (07 R230). -/
def cutStart (d : Desc) (i : Nat) : Nat := if i = 0 then 0 else firstCut d + 65536 * (i - 1)

/-- Input bytes that cut `i` reads as data: its payload, or the whole input of a KW or KWP job in its first cut (07 R231). -/
def cutData (d : Desc) (i : Nat) : Nat := if opKw d.opcode then (if i = 0 then d.len.toNat else 0) else cutPayload d i

/-- The input of cut `i` of `n` of a host-memory job from the bytes that its reads brought, AAD first. -/
def hostInput (d : Desc) (i n : Nat) (read : List Byte) : CutIn :=
  let a := if i = 0 then d.aadLen.toNat else 0
  let v := if d.opcode = 0x02 ∧ i = 0 then 12 else 0
  { aad := sliceBytes read 0 a, iv := sliceBytes read a v, data := sliceBytes read (a + v) (cutData d i),
    tag := if d.opcode = 0x02 ∧ n ≤ i + 1 then sliceBytes read (a + v + cutData d i) 16 else [] }

/-- The input of cut `i` of a SOLE_READ from the sector received: header, ciphertext, tag (08 R276). -/
def sectorInput (d : Desc) (i : Nat) (sector : List Byte) : CutIn :=
  { aad := if i = 0 then sector.take 32 else [], iv := if i = 0 then sliceBytes sector 12 12 else [],
    data := sliceBytes sector (32 + cutStart d i) (cutPayload d i), tag := sector.drop (sector.length - 16) }

/-! ### Shares and datapaths (07 R238, R241) -/

/-- The secret that two shares hold, a secret under a mask, and shares renewed under a mask with a new value (07 R238). -/
def Shares.value (x : Shares) : List Byte := xorB x.a x.b
def Shares.ofMask (mask v : List Byte) : Shares := { a := mask.take v.length, b := xorB v mask }
def Shares.renew (mask v : List Byte) (x : Shares) : Shares :=
  let a := xorB (padTo v.length x.a) mask
  { a := a, b := xorB v a }

/-- Round keys in the opposite order: the inverse schedule (07 R241). -/
def turnSchedule (w : List Byte) : List Byte := (pieces 16 w).reverse.flatten

/-- A datapath at the start of a cut: the keys as two shares, and their schedules expanded under 544 bytes of its own masks (07
R241). -/
def Datapath.load (inverse : Bool) (key tweak m : List Byte) : Datapath :=
  let w := keySchedule key
  { key := Shares.ofMask m key, sched := Shares.ofMask (m.drop 32) (if inverse then turnSchedule w else w),
    tweakKey := Shares.ofMask (m.drop 272) tweak,
    tweakSched := if tweak = [] then {} else Shares.ofMask (m.drop 304) (keySchedule tweak), inverse := inverse }

/-- The block cipher of a datapath, in the direction asked, and under the tweak key. -/
def Datapath.block (enc : Bool) (x : Datapath) (b : List Byte) : List Byte :=
  let w := if x.inverse then turnSchedule x.sched.value else x.sched.value
  if enc then aesEnc w b else aesDec w b
def Datapath.tweak (enc : Bool) (x : Datapath) (b : List Byte) : List Byte :=
  if enc then aesEnc x.tweakSched.value b else aesDec x.tweakSched.value b

/-! ### A cut as a function of key, context and input (07 R239) -/

/-- What a cut gives: the context values at its end, and its output, or what a KW or KWP job then holds in the release buffer. -/
structure CutVal where
  chain : List Byte
  acc : List Byte
  h : List Byte
  iv : List Byte
  aad : Nat
  done : Nat
  out : List Byte
  deriving DecidableEq

/-- The values that a context entry holds. -/
def Context.start (x : Context) (n : CutIn) : CutVal :=
  { chain := x.chain, acc := x.acc.value, h := x.h.value, iv := if n.iv = [] then x.iv else n.iv,
    aad := x.aad.toNat + n.aad.length, done := x.done.toNat + n.data.length, out := [] }

def zeroBlock : List Byte := List.replicate 16 0

/-- GCM: H, the hash of the AAD and the first counter block in the first cut; then key stream and GHASH over the ciphertext (SP
800-38D; 07 R225). -/
def gcmCut (e : List Byte → List Byte) (enc first : Bool) (n : CutIn) (v : CutVal) : CutVal :=
  let h := if first then e zeroBlock else v.h
  let acc := if first then ghash h zeroBlock n.aad else v.acc
  let r := ctrRun e 4 (if first then incBlock 4 (gcmJ0 v.iv) else v.chain) n.data
  { v with chain := r.2, h := h, acc := ghash h acc (if enc then r.1 else n.data), out := r.1 }

/-- KW and KWP: the register A and the blocks in the release buffer, from the whole input in the first cut (SP 800-38F, RFC 5649;
07 R231). -/
def kwBlocks (enc dec : List Byte → List Byte) (d : Desc) (i : Nat) (v : CutVal) (held : List Byte) (n : CutIn) : CutVal :=
  let wrap := decide (d.opcode = 0x0C ∨ d.opcode = 0x0E)
  let p : List Byte × List Byte :=
    if i ≠ 0 then (v.chain.take 8, held)
    else if d.opcode = 0x0C then (kwIv, n.data)
    else if d.opcode = 0x0E then (kwpIv d.len.toNat, padTo (ceilTo 8 d.len.toNat) n.data)
    else (n.data.take 8, n.data.drop 8)
  let q : List Byte × List Byte :=
    if kwOps d = 1 then
      let b := (if wrap then enc else dec) (p.1 ++ p.2)
      (b.take 8, b.drop 8)
    else kwOpsRun wrap (if wrap then enc else dec) p.1 p.2 (kwDone i) (kwCut d i)
  { v with chain := padTo 16 q.1, done := kwDone i + kwCut d i, out := if wrap && decide (kwOps d ≤ kwDone (i + 1)) then q.1 ++ q.2 else q.2 }

/-- One cut under the block functions of a datapath (07 R218-R225). -/
def cutBody (enc dec tweak : List Byte → List Byte) (d : Desc) (i n : Nat) (x : Context) (held : List Byte) (inp : CutIn) : CutVal :=
  let v := x.start inp
  let first := decide (i = 0)
  if opGcm d.opcode then gcmCut enc (opNonce d.opcode) first inp v
  else if opKw d.opcode then kwBlocks enc dec d i v held inp
  else if opXts d.opcode then
    let h := if first then tweak d.paramB else v.h
    let r := xtsRun (if d.opcode = 0x08 then enc else dec) (if first then h else v.chain) inp.data
    { v with h := h, chain := r.2, out := r.1 }
  else if opCmac d.opcode then
    { v with acc := if first then cmacK2 enc else v.acc
             chain := cmacRun enc (if first then zeroBlock else v.chain) inp.data (decide (n ≤ i + 1)) }
  else if d.opcode = 0x05 ∨ d.opcode = 0x06 then
    let c := if first then d.paramB else v.chain
    let r := if d.opcode = 0x05 then cbcEnc enc c inp.data else cbcDec dec c inp.data
    { v with chain := r.2, out := r.1 }
  else if d.opcode = 0x07 then { v with out := enc (padTo 16 inp.data) }
  else
    let r := ctrRun enc 16 (if first then d.paramB else v.chain) inp.data
    { v with chain := r.2, out := r.1 }

/-- Datapath B's view of a block operation of datapath A (07 R243): its own operation for DUAL; for INVERSE A's output where B's
opposite operation on it gives A's input back, and its complement where it does not. -/
def checkBlock (inverse : Bool) (a b undo : List Byte → List Byte) (x : List Byte) : List Byte :=
  if inverse then (let y := a x; if undo y = x then y else y.map (~~~ ·)) else b x

/-- A cut through both datapaths (07 R242-R244): what it gives where every final block and both GHASH accumulators agree. -/
def CphCore.cut (c : CphCore) (d : Desc) (i n : Nat) (x : Context) (held : List Byte) (inp : CutIn) : Option CutVal :=
  let a := cutBody (c.dpA.block true) (c.dpA.block false) (c.dpA.tweak true) d i n x held inp
  let b := cutBody
    (checkBlock x.inverse (c.dpA.block true) (c.dpB.block true) (c.dpB.block false))
    (checkBlock x.inverse (c.dpA.block false) (c.dpB.block false) (c.dpB.block true))
    (checkBlock x.inverse (c.dpA.tweak true) (c.dpB.tweak true) (c.dpB.tweak false)) d i n x held inp
  if a = b then some a else none

/-- The entry as it is written back (07 R237, R238): the secrets in shares renewed under 32 bytes of masks. -/
def Context.writeBack (v : CutVal) (m : List Byte) (x : Context) : Context :=
  { x with
    cuts := x.cuts + 1, chain := padTo 16 v.chain, acc := x.acc.renew m v.acc, h := x.h.renew (m.drop 16) v.h,
    aad := BitVec.ofNat 64 v.aad, done := BitVec.ofNat 64 v.done, iv := v.iv }

/-! ### Masking randomness of a core (07 R240, R252) -/

/-- Masks for `n` bytes from the core's generator, after a block whose first two bytes give the next frequency steps of the two
datapaths (DESIGN CHOICE, log entry 98: the steps change with the cuts, for the model keeps no time in clocks). -/
def State.masks (c n : Nat) (k : List Byte → State → State) (s : State) : State :=
  let p := s.rng.mask c (16 + n)
  k (p.1.drop 16) ((s.withRng fun _ => p.2).withCipher fun x => { x with cores := Bank.upd {} c (fun y =>
    { y with stepA := (p.1.getD 0 0).setWidth 4, stepB := (p.1.getD 1 0).setWidth 4 }) x.cores })

/-- A core loads the keys of a cut into both datapaths, whose masks are disjoint parts of the generator's output (07 R241,
R252). -/
def State.loadKeys (c : Nat) (inverse : Bool) (key tweak : List Byte) (s : State) : State :=
  s.masks c 1088 fun m t => t.withCipher fun x => { x with cores := Bank.upd {} c (fun y =>
    { y with dpA := Datapath.load false key tweak m, dpB := Datapath.load inverse key tweak (m.drop 544) }) x.cores }

/-- The material of the key in a slot that a job refers to; a run marked empty keeps it for the job (05 R177). -/
def State.keyAt (s : State) (l : List Nat) (i : Nat) : List Byte :=
  match l[i]? with
  | some n => ((Bank.get none s.keys.runs n).map KeyRun.material).getD []
  | none => []

/-! ### Dealing (07 R230-R236) -/

/-- The job key and job of every ready cut. -/
def Rings.ready (rs : Rings) : List (Nat × Job) := rs.list.filter fun p => decide (p.2.pos = .ready)

/-- The job of a list that comes first in order `lt`. -/
def bestJob (lt : Nat × Job → Nat × Job → Bool) : List (Nat × Job) → Option (Nat × Job)
  | [] => none
  | p :: t => match bestJob lt t with
    | none => some p
    | some q => if lt q p then some q else some p

/-- Order of ready time (07 R234 steps 1 and 3). -/
def readyFirst (a b : Nat × Job) : Bool := decide (a.2.readySeq < b.2.readySeq)

/-- Order of deadline cuts: earliest predicted window, then lower port, then lower descriptor count (07 R234 step 2). -/
def deadlineFirst (s : State) (a b : Nat × Job) : Bool :=
  let w (p : Nat × Job) : Nat :=
    ((s.sole.get p.2.desc.port.toNat).windowIn s.sole.time p.2.desc.paramA).getD (2 ^ 48)
  decide (w a < w b) || (decide (w a = w b) &&
    (decide (a.2.desc.port.toNat < b.2.desc.port.toNat)
      || (decide (a.2.desc.port = b.2.desc.port) && decide ((jobNum a.1).toNat < (jobNum b.1).toNat))))

/-- A normal cut has been ready for longer than AGE_US. -/
def agedCut (s : State) (p : Nat × Job) : Bool :=
  !decide (p.2.desc.opcode = 0x20) && decide (p.2.readyUs + s.cipher.age.toNat < s.cob.clockUs)

/-- The next cut for core `c`: one that a failed check re-deals, else by R234; with it, whether step 1 chose it. -/
def nextCut (s : State) (c : Nat) : Option (Nat × Job × Bool) :=
  let l := s.rings.ready
  match bestJob readyFirst (l.filter fun p => p.2.redeal) with
  | some (k, j) => some (k, j, false)
  | none =>
    match (if (Bank.get {} s.cipher.cores c).lastAged then none else bestJob readyFirst (l.filter (agedCut s))) with
    | some (k, j) => some (k, j, true)
    | none =>
      match bestJob (deadlineFirst s) (l.filter fun p => decide (p.2.desc.opcode = 0x20)) with
      | some (k, j) => some (k, j, false)
      | none =>
        match bestJob readyFirst (l.filter fun p => !decide (p.2.desc.opcode = 0x20)) with
        | some (k, j) => some (k, j, false)
        | none => none

/-- Core `c` takes cuts: enabled, idle, not quarantined, its generator running, no halt (07 R249-R253). -/
def coreTakes (s : State) (c : Nat) : Bool :=
  let x := Bank.get {} s.cipher.cores c
  s.cipherOn.getLsbD c && x.work.isNone && x.orphan.isNone && !x.quar && !x.katRun && s.rng.ready && s.rng.genRuns c && !s.alarm.halt

/-- Deal the next cut to core `c`, which loads the job's keys (07 R234, R241). -/
def State.dealCore (c : Nat) (s : State) : State :=
  if coreTakes s c then
    match nextCut s c with
    | none => s
    | some (k, j, aged) =>
      ((s.withRings fun rs => rs.updJob k fun x => { x with pos := .onCore c, redeal := false }).withCipher fun x =>
        { x with
          aged := if aged then satAdd x.aged 1 else x.aged
          cores := Bank.upd {} c (fun y =>
            { y with work := some k, check := j.inverse, cls := decide (j.desc.opcode = 0x20), opcode := j.desc.opcode,
                     lastAged := aged }) x.cores }).loadKeys c j.inverse (s.keyAt j.slots 0) (s.keyAt j.slots 1)
  else s

/-- A cipher core that the unit map disables loses its state once its cut has ended; its quarantines stay counted (17 R488). -/
def CphCore.gate (on : Bool) (x : CphCore) : CphCore :=
  if on || x.work.isSome || x.orphan.isSome then x else { quar := x.quar, qcount := x.qcount }

/-- Every disabled core is gated, and every core at a boundary is dealt its next cut, the lower-numbered first (07 R235; 17 R488). -/
def State.dealAll (s : State) : State :=
  (List.range 16).foldl (fun t c => t.dealCore c)
    (s.withCipher fun x => { x with cores := (List.range 16).foldl (fun b i => Bank.upd {} i (CphCore.gate (s.unitOn i)) b) x.cores })

/-- The job becomes ready for its next cut (07 R234). -/
def State.makeReady (k : Nat) (redeal : Bool) (s : State) : State :=
  s.withRings fun rs =>
    { rs.updJob k (fun x =>
        if redeal then { x with pos := .ready, redeal := true }
        else { x with pos := .ready, redeal := false, readySeq := rs.seq, readyUs := s.cob.clockUs }) with
      seq := rs.seq + 1 }

/-! ### Mismatch (07 R246-R248) -/

/-- A core's check fails (07 R246-R248): quarantine, counters, the event record, source 44 at the fifth in 1 s.  A cut of another job
on the core counts as not started and returns to the ready set with its ready time. -/
def State.coreMismatch (c : Nat) (ghash : Bool) (s : State) : State :=
  let now := s.cob.clockUs
  let times := s.cipher.mismTimes.filter (fun t => decide (now < t + 1000000)) ++ [now]
  let s0 := match (Bank.get {} s.cipher.cores c).work with
    | some k => s.withRings fun rs => rs.updJob k fun x => { x with pos := .ready }
    | none => s
  let s1 := s0.withCipher fun x =>
    { x with
      mismTotal := satAdd x.mismTotal 1, lastCore := BitVec.ofNat 4 c, lastGhash := ghash, mismTimes := times
      cores := Bank.upd {} c (fun y =>
        { y with quar := true, qcount := BitVec.ofNat 2 (min (y.qcount.toNat + 1) 3), work := none, orphan := none }) x.cores }
  let s2 := s1.event c 2 1
  if 5 ≤ times.length then s2.raise 44 (BitVec.ofNat 32 c) else s2

/-- A cut of core `c` has been written back, or has ended for nothing: the core is at a boundary (R259 CPH_CUTS, CPH_BLOCKS). -/
def State.coreDone (c cuts blocks : Nat) (s : State) : State :=
  s.withCipher fun x => { x with cores := Bank.upd {} c (fun y =>
    { y with work := none, orphan := none, cuts := satAdd y.cuts cuts, blocks := y.blocks + BitVec.ofNat 32 blocks }) x.cores }

/-! ### The finished tag (07 R222, R225, R244) -/

/-- The tag of a GCM job whose cuts are done: GHASH over the lengths, masked with E(K, J0). -/
def Context.gcmTag (key : List Byte) (x : Context) : List Byte :=
  Machine.gcmTag (aes key) x.iv x.acc.value x.h.value x.aad.toNat x.done.toNat

/-! ### Firmware's AES work (07 R233, R257) -/

/-- A job of firmware: normal class, its input in custody SRAM, no ring (R257). -/
def fwDesc (op : Byte) (aadLen len : Nat) (paramB : List Byte) : Desc :=
  { opcode := op, format := 1, port := 0, code := 0, handle := 0, len := BitVec.ofNat 32 len, aadLen := BitVec.ofNat 16 aadLen,
    rsv := 0, src := 0, dst := 0, cap := 0, tag := 0, paramA := 0, paramB := paramB }

/-- The lowest core that takes a cut now. -/
def State.fwCore (s : State) : Option Nat := (List.range 16).find? (coreTakes s)

/-- One cut of a firmware job on core `c`: keys into the datapaths, the check, the write-back with renewed shares, the counters. -/
def State.fwCut (c : Nat) (d : Desc) (n : Nat) (inverse : Bool) (key : List Byte) (aad src : List Byte)
    (p : Option (Context × List Byte) × State) (i : Nat) : Option (Context × List Byte) × State :=
  match p.1 with
  | none => p
  | some (x, out) =>
    let t := p.2.loadKeys c inverse key []
    let off := if opKw d.opcode then 0 else cutStart d i
    let inp : CutIn := { aad := if i = 0 then aad else [], iv := [], data := sliceBytes src off (cutData d i), tag := [] }
    match (Bank.get {} t.cipher.cores c).cut d i n x out inp with
    | none => (none, t.coreMismatch c false)
    | some v =>
      let q := t.rng.mask c 32
      (some (x.writeBack v q.1, if opKw d.opcode then v.out else out ++ v.out), (t.withRng fun _ => q.2).coreDone c 1 (cutBlocks d i))

/-- A job of firmware, from CUT through CIPHER (R257): its context entry and output; none when the check failed. -/
def State.fwJob (c : Nat) (op : Byte) (key : KeyRun) (iv paramB aad src : List Byte) (s : State) :
    Option (Context × List Byte) × State :=
  let d := fwDesc op aad.length src.length paramB
  let inverse := decide (key.attr.check = 1)
  let x : Context := { ref := 0x80000000, opcode := op, inverse := inverse, key := 0, iv := padTo 12 iv }
  let s1 := s.withCipher fun y => { y with
    ctxHw := max y.ctxHw (s.rings.ctxUsed + 1)
    cores := Bank.upd {} c (fun z => { z with check := inverse, cls := false, opcode := op, lastAged := false }) y.cores }
  (List.range (cutCount d)).foldl (State.fwCut c d (cutCount d) inverse key.material aad src) (some (x, []), s1)

/-- The CMAC of firmware's data on core `c`. -/
def State.fwCmac (c : Nat) (key : KeyRun) (data : List Byte) (s : State) : Option (List Byte) × State :=
  let p := s.fwJob c 0x0A key [] zeroBlock [] data
  (p.1.map fun x => x.1.chain, p.2)

/-- One block through AES, or through its inverse, as a job of firmware: ECB_ENC, or CBC_DEC under a zero IV. -/
def State.fwBlock (c : Nat) (enc : Bool) (key : KeyRun) (block : List Byte) (s : State) : Option (List Byte) × State :=
  let p := s.fwJob c (if enc then 0x07 else 0x06) key [] zeroBlock [] block
  (p.1.map Prod.snd, p.2)

/-- The algorithm indicator of an AES key length in a derivation (ANSI X9.24-3, X9.143; PRESUMED, log entry 116). -/
def aesIndicator (n : Nat) : Nat := if n = 16 then 2 else if n = 24 then 3 else 4

/-- The derivation data of AES DUKPT: key usage, algorithm, length in bytes, and the 8 bytes that name the key (X9.24-3). -/
def dukptData (usage alg n : Nat) (name : List Byte) : List Byte :=
  [1, 1] ++ beBytes 2 usage ++ beBytes 2 alg ++ beBytes 2 (8 * n) ++ padTo 8 name

/-- The derivations of AES DUKPT from a base key of `t` bytes to a working key of `n`: the initial key, a key for each bit of the
counter from the highest, the working key (X9.24-3; PRESUMED, log entry 116). -/
def dukptSteps (t : Nat) (ksn : List Byte) (usage alg n : Nat) : List (List Byte × Nat) :=
  let ctr := ofBe (sliceBytes ksn 8 4)
  let bits := ((List.range 32).reverse).filter ctr.testBit
  [(dukptData 0x8001 (aesIndicator t) t (sliceBytes ksn 0 8), t)]
    ++ bits.map (fun i => (dukptData 0x8000 (aesIndicator t) t (sliceBytes ksn 4 4 ++ beBytes 4 (ctr / 2 ^ i * 2 ^ i)), t))
    ++ [(dukptData usage alg n (sliceBytes ksn 4 8), n)]

/-- One derivation: as many blocks as the key needs, numbered in byte 1 of the data. -/
def State.fwDerive (c : Nat) (key : KeyRun) (data : List Byte) (n : Nat) (s : State) : Option (List Byte) × State :=
  let p := (List.range ((n + 15) / 16)).foldl (fun (p : Option (List Byte) × State) i =>
    match p.1 with
    | none => p
    | some l =>
      let q := p.2.fwBlock c true key (data.set 1 (BitVec.ofNat 8 (i + 1)))
      (q.1.map (l ++ ·), q.2)) (some [], s)
  (p.1.map (List.take n), p.2)

/-- The AES DUKPT working key of a KSN, by jobs of firmware (R257). -/
def State.fwDukpt (c : Nat) (bdk : KeyRun) (ksn : List Byte) (usage alg n : Nat) (s : State) : Option (List Byte) × State :=
  (dukptSteps bdk.material.length ksn usage alg n).foldl (fun (p : Option (List Byte) × State) d =>
    match p.1 with
    | none => p
    | some k => p.2.fwDerive c { bdk with material := k } d.1 d.2) (some bdk.material, s)

/-- The input of block `i`, counted from 1, of SP 800-108 counter mode for `n` output bytes: counter and output length in bits as
32-bit big-endian values, around label, a zero byte and context (DESIGN CHOICE of the two widths, log entry 99). -/
def kdfInput (i : Nat) (label context : List Byte) (n : Nat) : List Byte :=
  beBytes 4 i ++ label ++ [0] ++ context ++ beBytes 4 (8 * n)

/-- `n` bytes of SP 800-108 counter mode with CMAC, each block a job of firmware (R257). -/
def State.fwKdf (c : Nat) (key : KeyRun) (label context : List Byte) (n : Nat) (s : State) : Option (List Byte) × State :=
  let p := (List.range ((n + 15) / 16)).foldl (fun (p : Option (List Byte) × State) i =>
    match p.1 with
    | none => p
    | some l =>
      let q := p.2.fwCmac c key (kdfInput (i + 1) label context n)
      (q.1.map (l ++ ·), q.2)) (some [], s)
  (p.1.map (List.take n), p.2)

end Sys2Proof.Machine
end

