-- ==== Sys2Proof/Machine/Pipeline.lean ====
section
/-! DEFINITION. Meanings of the rings' and the pipeline's commands (06; 07 R218-R237). -/

namespace Sys2Proof.Machine

/-! ### FETCH and ADMIT (R194, R202, R203, R343) -/

/-- The descriptor that 64 bytes hold (R194). -/
def descOf (l : List Byte) : Desc :=
  let f (i n : Nat) : Nat := ofLe (sliceBytes l i n)
  { opcode := l.getD 0 0, format := l.getD 1 0, port := l.getD 2 0, code := l.getD 3 0, handle := BitVec.ofNat 32 (f 4 4)
    len := BitVec.ofNat 32 (f 8 4), aadLen := BitVec.ofNat 16 (f 12 2), rsv := BitVec.ofNat 16 (f 14 2)
    src := BitVec.ofNat 64 (f 16 8), dst := BitVec.ofNat 64 (f 24 8), cap := BitVec.ofNat 32 (f 32 4)
    tag := BitVec.ofNat 32 (f 36 4), paramA := BitVec.ofNat 64 (f 40 8), paramB := sliceBytes l 48 16 }

/-- The first `n` descriptors that a read brought. -/
def descsOf (n : Nat) (l : List Byte) : List Desc := (List.range n).map fun i => descOf (sliceBytes l (64 * i) 64)

/-- The checks of FETCH: status and detail of the first that fails. -/
def fetchCheck (d : Desc) : Option (Half × Word) :=
  firstFail [
    (!decide (d.format = 1), (Status.badFormat, 1)),
    (!opDefined d.opcode, (Status.badOpcode, 0)),
    (!opSole d.opcode && !decide (d.port = 0), (Status.badFormat, 2)),
    (!opSole d.opcode && !opDigest d.opcode && !decide (d.code = 0), (Status.badFormat, 3)),
    (decide (d.opcode = 0x10) && !decide (d.handle = 0), (Status.badFormat, 4)),
    (!decide (d.rsv = 0), (Status.badFormat, 14)),
    (opSole d.opcode && !decide (d.port.toNat ≤ 15), (Status.badFormat, 2)),
    (opSole d.opcode && !decide (d.code.toNat ≤ 2), (Status.badFormat, 3)),
    (decide (d.opcode = 0x10) && !decide (1 ≤ d.code.toNat ∧ d.code.toNat ≤ 9), (Status.badFormat, 3)),
    (decide (d.opcode = 0x11 ∨ d.opcode = 0x12) && !(digDefined d.code && digKeyed d.code), (Status.badFormat, 3))]

/-- A window failure of the address field at `off`: bit 31 set. -/
def windowDetail (off : Nat) : Word := BitVec.ofNat 32 (2 ^ 31 + off)

/-- The checks of ADMIT; `win` says whether a range lies in the function's DMA window. -/
def admitCheck (win : Long → Nat → Bool) (d : Desc) : Option (Half × Word) :=
  let noDst := decide (d.opcode = 0x0B ∨ d.opcode = 0x12 ∨ d.opcode = 0x20)
  let xof := decide (d.opcode = 0x10) && digXof d.code
  firstFail [
    (decide (0xFFFFFFF0 < d.len.toNat), (Status.lengthRange, 8)),
    (!opLenOk d, (Status.lengthRange, 8)),
    (decide (d.opcode = 0x10) &&
      (if xof then !decide (1 ≤ d.paramA.toNat ∧ d.paramA.toNat ≤ 65536) else !decide (d.paramA = 0)), (Status.lengthRange, 40)),
    (!decide (d.opcode = 0x01 ∨ d.opcode = 0x02) && !decide (d.aadLen = 0), (Status.lengthRange, 12)),
    (decide (d.opcode = 0x21) && !decide (d.src = 0), (Status.lengthRange, 16)),
    (noDst && !decide (d.dst = 0), (Status.lengthRange, 24)),
    (noDst && !decide (d.cap = 0), (Status.lengthRange, 32)),
    (!win d.src (srcLen d), (Status.window, windowDetail 16)),
    (!win d.paramA d.aadLen.toNat, (Status.window, windowDetail 40)),
    (!win d.dst d.cap.toNat, (Status.window, windowDetail 24)),
    (decide (d.cap.toNat < outLen d), (Status.window, BitVec.ofNat 32 (outLen d)))]

/-! ### Doorbells and fetching (R189-R193, R586) -/

/-- The conditions of R190 on a value for the ring. -/
def Ring.accepts (g : Ring) (v : Long) : Bool :=
  let x : Word := v.setWidth 32
  decide (v.toNat < 2 ^ 32 ∧ (x - g.c).toNat ≤ 2 ^ g.size.toNat ∧ (g.f - g.c).toNat ≤ (x - g.c).toNat)

/-- Count a dropped doorbell on the function's status page (R37, R82). -/
def State.dbDrop (f : Nat) (s : State) : State :=
  s.withMbx fun m => m.updPage f fun p => { p with dbDrop := satAdd p.dbDrop 1 }

/-- DOORBELL_WRITE (R37, R67, R82, R190, R212, R213, R586): a value equal to P changes nothing on an ACTIVE ring. -/
def execDoorbellWrite (f : Fin 64) (ring : Fin 16384) (v : Long) (s : State) : Host.Outcome State Fault Refusal :=
  let r := ring.val
  let g := s.rings.get r
  .next (if (Bank.get {} s.pcie.fns f.val).flr || s.boot.shelfDown then s
  else if s.rings.pageFn (r / 512) ≠ some (BitVec.ofNat 6 f.val) ∨ g.fn.toNat ≠ f.val ∨ g.state = 0 ∨ g.state = 4 then
    s.dbDrop f.val
  else if g.state = 3 ∨ g.accepts v = false then
    s.withRings fun rs => rs.updRing r fun x => { x with dbBad := satAdd x.dbBad 1 }
  else if v.setWidth 32 = g.p ∧ g.state = 1 ∧ g.fetchErr = false then s
  else (s.withRings fun rs => rs.updRing r fun x => { x with p := v.setWidth 32, state := 1, fetchErr := false }).mirrorCounts r)

/-- The more advanced of P and a shadow value that R190 accepts (R192). -/
def Ring.shadow (v : Long) (g : Ring) : Ring :=
  if g.accepts v && decide ((g.p - g.c).toNat < ((v.setWidth 32 : Word) - g.c).toNat) then { g with p := v.setWidth 32 } else g

/-- TAIL_SHADOW_READ (R192): of a ring carried for the partner; at SHELF_DOWN the command itself brings the values. -/
def execTailShadowRead (ring : Fin 16384) (v : Long) (s : State) : Host.Outcome State Fault Refusal :=
  .next (if (s.rings.get ring.val).state = 4 ∧ s.boot.shelfDown = false then
    s.withRings fun rs => rs.updRing ring.val (Ring.shadow v)
  else s)

/-- Descriptors asked for and not yet arrived, over all rings. -/
def Rings.outstanding (rs : Rings) : Nat := (rs.ring.map fun p => p.2.issued).sum

/-- A limit of R188 holds FETCH. -/
def fetchStall (rs : Rings) : Bool :=
  decide (4000 ≤ rs.list.length + rs.outstanding) || (List.range 16).any fun n => decide (64 ≤ (rs.parkedOn n).length)

/-- The count of the next descriptor to read, and how many are to be read: a draining ring reads none beyond F (R193, R213; 16 R471). -/
def Ring.nextFetch (g : Ring) : Word := g.f - BitVec.ofNat 32 g.reread
def Ring.wanted (g : Ring) : Nat :=
  if g.state = 1 ∨ g.state = 4 then (g.p - g.nextFetch).toNat else if g.state = 3 then g.reread else 0

/-- DESCRIPTOR_FETCH (R188, R193): at most 8 descriptors, without a wrap past the end of the ring. -/
def execDescriptorFetch (ring : Fin 16384) (s : State) : Host.Outcome State Fault Refusal :=
  let g := s.rings.get ring.val
  let want := g.wanted
  .next (if want ≠ 0 ∧ g.issued = 0 ∧ fetchStall s.rings = false ∧ s.welt.ringsStopped = false then
    let size := 2 ^ g.size.toNat
    let n := min (min 8 want) (min (size - g.nextFetch.toNat % size) (4000 - s.rings.list.length - s.rings.outstanding))
    s.withRings fun rs => rs.updRing ring.val fun x => { x with issued := n }
  else s)

/-- A descriptor that has arrived becomes a job, or a failed token (R202); F advances.  One whose read was under way at the order to
abort all rings is aborted at once (R214). -/
def State.fetchOne (r : Nat) (s : State) (d : Desc) : State :=
  let g := s.rings.get r
  let k := jobKey r g.nextFetch
  let s1 := s.withRings fun rs =>
    (rs.setJob k (some { desc := d, pos := .admission, carried := decide (g.state = 4) })).updRing r fun x =>
      if x.reread = 0 then { x with f := x.f + 1 } else { x with reread := x.reread - 1 }
  if s.rings.abortReads.contains r then s1.failJob k Status.aborted 1 8
  else match fetchCheck d with
    | some (st, dt) => s1.failJob k st dt 1
    | none => s1

/-- DESCRIPTOR_ARRIVAL (R193, R194, R202): the descriptors of the read that was issued. -/
def execDescriptorArrival (ring : Fin 16384) (data : List Byte) (s : State) : Host.Outcome State Fault Refusal :=
  let r := ring.val
  let n := (s.rings.get r).issued
  .next (if n ≠ 0 then (((descsOf n data).foldl (State.fetchOne r) s).withRings (Rings.endRead r)).mirrorCounts r else s)

/-- DESCRIPTOR_READ_EARLY_END (R75, R586): the whole descriptors go on as jobs; the ring stops with FETCHERR. -/
def execDescriptorReadEarlyEnd (ring : Fin 16384) (data : List Byte) (e : EarlyEnd) (s : State) :
    Host.Outcome State Fault Refusal :=
  let r := ring.val
  let n := (s.rings.get r).issued
  .next (if n ≠ 0 ∧ data.length < 64 * n then
    let s1 := ((descsOf (data.length / 64) data).foldl (State.fetchOne r) s).withRings (Rings.endRead r)
    ((s1.withRings fun rs => rs.updRing r fun x => { x with state := 2, fetchErr := true }).withPcie (Pcie.early e)).mirrorCounts r
  else s)

/-- An earlier SOLE_READ of the ring has not yet passed ADMIT: within one ring, reads enter the read table in descriptor order
(R207). -/
def Rings.readBefore (rs : Rings) (r : Nat) (n : Word) : Bool :=
  let c := (rs.get r).c
  rs.list.any fun p => decide (jobRing p.1 = r ∧ p.2.pos = .admission ∧ p.2.desc.opcode = 0x21
    ∧ (jobNum p.1 - c).toNat < (n - c).toNat)

/-- The DMA window that a job's buffers are tested against: its function's, or of a carried ring the mirrored ones (R186). -/
def State.jobWindow (s : State) (j : Job) (f : Nat) : Long → Nat → Bool :=
  if j.carried then s.welt.inWindow f else s.rings.inWindow f

/-- ADMIT (R203, R207): a SOLE_READ waits in its port's read table afterwards, which holds 64 (R188); on a draining ring it
is aborted (R213). -/
def execAdmission (ring : Fin 16384) (n : Word) (s : State) : Host.Outcome State Fault Refusal :=
  let k := jobKey ring.val n
  .next (match s.rings.job k with
    | none => s
    | some j =>
      if j.pos ≠ .admission then s
      else match admitCheck (s.jobWindow j (s.rings.get ring.val).fn.toNat) j.desc with
        | some (st, dt) => s.failJob k st dt 2
        | none =>
          if j.desc.opcode = 0x21 then
            (if (s.rings.get ring.val).state = 3 then s.failJob k Status.aborted 2 8
            else if 64 ≤ (s.rings.parkedOn j.desc.port.toNat).length ∨ s.rings.readBefore ring.val n = true then s
            else s.withRings fun rs =>
              { rs.updJob k (fun x => { x with pos := .parked, parkSeq := rs.seq }) with seq := rs.seq + 1 })
          else s.withRings fun rs => rs.updJob k fun x => { x with pos := .key })

/-! ### KEY (R204, R219; 05 R168; 16 R464) -/

/-- On a carried ring the handle goes through the alias table (16 R464). -/
def aliasLookup (l : List (Word × Word)) (h : Word) : Except KeyErr Word :=
  match l.find? fun p => decide (handleSlot p.1 = handleSlot h) with
  | none => .error { status := Status.keyHandle, detail := h }
  | some (p, own) =>
    if p = h then .ok own
    else if handleGen p ≠ handleGen h then .error { status := Status.keyStale, detail := h }
    else .error { status := Status.keyHandle, detail := h }

/-- Checks 1 to 4 of R168 on a handle of a job, with the type of R204; the detail is the handle as presented. -/
def State.jobKeyCheck (s : State) (j : Job) (h : Word) (tenant : BitVec 10) : Except KeyErr (Nat × KeyRun) :=
  let own : Except KeyErr Word := if j.carried then aliasLookup s.welt.aliases h else .ok h
  match own with
  | .error e => .error e
  | .ok o =>
    match s.keys.lookup o (some (tenant.setWidth 16)) (opUsage j.desc.opcode) with
    | .error e => .error { e with detail := h }
    | .ok r =>
      if (if opDigest j.desc.opcode then isHmac r.attr.type else isAes r.attr.type) then .ok (handleSlot o, r)
      else .error { status := Status.keyUsage, detail := h }

/-- The IV value of a nonce-bearing use but for the device number (07 R226). -/
def ivBase (salt : Half) (epoch counter : Word) : BitVec 96 :=
  BitVec.ofNat 96 (salt.toNat * 2 ^ 80 + epoch.toNat * 2 ^ 32 + counter.toNat)

/-- KEY passes: the job holds references; a nonce-bearing one has its counter value (R204). -/
def State.keyPass (k : Nat) (slots : List Nat) (inverse : Bool) (iv : BitVec 96) (s : State) : State :=
  (s.withKeys fun ks => slots.foldl Keys.addRef ks).withRings fun rs =>
    rs.updJob k fun x => { x with pos := .cut, slots := slots, inverse := inverse, iv := iv }

/-- The tweak-key handle of an XTS job. -/
def tweakHandle (d : Desc) : Word := d.paramA.setWidth 32

/-- KEY_STAGE (R204, R219; 05 R168, R172).  A job with a mirrored record runs under the recorded IV (16 R471). -/
def execKeyStage (ring : Fin 16384) (n : Word) (s : State) : Host.Outcome State Fault Refusal :=
  let k := jobKey ring.val n
  .next (match s.rings.job k with
    | none => s
    | some j =>
      let t := (s.rings.get ring.val).tenant
      let fail (e : KeyErr) := s.failJob k e.status e.detail 3
      if j.pos ≠ .key then s
      else if j.desc.opcode = 0x10 then s.keyPass k [] false 0
      else if j.desc.opcode = 0x21 ∧ j.frameHandle = none then fail { status := Status.keyHandle }
      else
        let h := if j.desc.opcode = 0x21 then j.frameHandle.getD 0 else j.desc.handle
        match s.jobKeyCheck j h t with
        | .error e => fail e
        | .ok (slot, r) =>
          let inv := decide (r.attr.check = 1)
          if opXts j.desc.opcode then
            match s.jobKeyCheck j (tweakHandle j.desc) t with
            | .error e => fail e
            | .ok (slot2, r2) =>
              if slot = slot2 ∨ r.attr.type ≠ r2.attr.type ∨ r.attr.type = 2 then
                fail { status := Status.keyUsage, detail := tweakHandle j.desc }
              else s.keyPass k [slot, slot2] inv 0
          else if let some iv := (if opNonce j.desc.opcode then s.welt.recordedIv j.carried ring.val n j.desc.opcode else none) then
            (s.withRings fun rs => rs.updJob k fun x => { x with fixed := true }).keyPass k [slot] inv iv
          else if opNonce j.desc.opcode then
            match nonceCheck s.insole.trusted h r with
            | some e => fail e
            | none =>
              let s0 := s.leaseSend slot
              if s.welt.leaseOk slot r then
                (s0.withKeys fun ks => ks.reserve slot).keyPass k [slot] inv (ivBase r.attr.salt s.boot.epoch r.counter)
              else s0
          else s.keyPass k [slot] inv 0)

/-! ### CUT (07 R226-R237) -/

/-- The reference to a slot in a context entry: slot and generation (07 R237). -/
def State.keyRef (s : State) (slots : List Nat) (i : Nat) : BitVec 24 :=
  match slots[i]? with
  | none => 0
  | some n => BitVec.ofNat 24 (n + 32768 * (((Bank.get none s.keys.runs n).map fun r => r.attr.generation.toNat % 512).getD 0))

/-- The entry that CUT allocates to the job with key `k` (07 R237). -/
def State.newContext (s : State) (k : Nat) (j : Job) : Context :=
  { ref := BitVec.ofNat 32 (jobRing k + 16384 * ((jobNum k).toNat % 65536) + 2 ^ 30 * bit (decide (j.desc.opcode = 0x20)))
    opcode := j.desc.opcode, inverse := j.inverse, key := s.keyRef j.slots 0, tweakKey := s.keyRef j.slots 1
    iv := if opNonce j.desc.opcode then ivBytes j.iv else List.replicate 12 0 }

/-- The entry of a job that goes on from its partner's mirrored context: host-bound encryption, CTR, CBC, XTS or CMAC (16 R471);
the key references become those of the own slots. -/
def State.mirroredContext (s : State) (k : Nat) (j : Job) : Option Context :=
  if streams j.desc.opcode || opCmac j.desc.opcode then
    (s.welt.contextRec j.carried (jobRing k) (jobNum k)).map fun x =>
      { x with key := s.keyRef j.slots 0, tweakKey := s.keyRef j.slots 1, inverse := j.inverse }
  else none

/-- Output bytes before cut `i` of a streaming job (R195). -/
def outBefore (d : Desc) (i n : Nat) : Nat :=
  if !streams d.opcode || decide (i = 0) then 0
  else (if d.opcode = 0x01 then 12 else 0) + (if n ≤ i then d.len.toNat else cutStart d i)

/-- The job leaves CUT with its context entry, at the first cut that has not been written back. -/
def State.cutEnter (k : Nat) (j : Job) (s : State) : State :=
  let d := j.desc
  let n := cutCount d
  let x := (s.mirroredContext k j).getD (s.newContext k j)
  let i := min x.cuts.toNat n
  let s1 := s.withRings fun rs => rs.updJob k fun y =>
    { y with cuts := n, cutsDone := i, ctx := some x, buf := bufNeed d, outLen := BitVec.ofNat 32 (outBefore d i n), iv := j.iv
             pos := .tag }
  let s2 := s1.withCipher fun c => { c with ctxHw := max c.ctxHw s1.rings.ctxUsed }
  if i < n then (s2.makeReady k false).dealAll else s2

/-- CUT_STAGE (R196, R205; 07 R226, R230, R231, R237; 09 R307; 11 R344, R346; 16 R471). -/
def execCutStage (ring : Fin 16384) (n : Word) (s : State) : Host.Outcome State Fault Refusal :=
  let k := jobKey ring.val n
  .next (match s.rings.job k with
    | none => s
    | some j =>
      let d := j.desc
      let noUnit := if opDigest d.opcode then decide (s.digOn = 0) else decide (s.cipherOn = 0)
      let noMember := opNonce d.opcode && !j.fixed && s.fw.membership.isNone
      let port := s.sole.get d.port.toNat
      let recDeferrals := if j.fixed then ((s.welt.stagedRec j.carried ring.val n).map fun e => e.2.2).getD 0 else 0
      if j.pos ≠ .cut then s
      else if noUnit || noMember then s.failJob k Status.notReady (BitVec.ofNat 32 (4 * bit noUnit + 2 * bit noMember)) 4
      else if opDigest d.opcode then
        (if 64 ≤ (s.rings.list.filter fun p => decide (p.2.pos = .digest)).length then s
        else ((s.withRings fun rs => rs.updJob k fun x => { x with pos := .digest }).withDig fun g =>
          { g with ready := g.ready ++ [.ring ring.val n] }).digDeal)
      else if 4198400 < s.rings.bufUsed + bufNeed d then s
      else if d.opcode = 0x20 ∧ 128 ≤ port.sched.length then s
      else
        let iv := if opNonce d.opcode && !j.fixed then j.iv ||| BitVec.ofNat 96 (s.devNo.toNat * 2 ^ 64) else j.iv
        (if d.opcode = 0x20 then
          s.updPort d.port.toNat fun p => { p with sched := p.sched ++
            [{ job := k, addr := d.paramA, deferrals := recDeferrals, sent := j.fixed }] } else s).cutEnter k { j with iv := iv })

/-! ### CIPHER: write-back, mismatch (07 R232, R239, R242-R248) -/

/-- What the job holds and has written after cut value `v` (06 R195, R196): a streaming mode writes to the destination; KW and KWP
work in the release buffer; any other output is held. -/
def State.cutOutput (k : Nat) (j : Job) (v : CutVal) (s : State) : State :=
  let o := j.desc.opcode
  let bs := if o = 0x01 ∧ j.cutsDone = 0 then ivBytes j.iv ++ v.out else v.out
  if streams o then
    (s.hostWrite (j.desc.dst + j.outLen.setWidth 64) bs).withRings fun rs =>
      rs.updJob k fun x => { x with outLen := x.outLen + BitVec.ofNat 32 bs.length, lastOut := bs.length }
  else s.withRings fun rs => rs.updJob k fun x => { x with out := if opKw o then bs else x.out ++ bs, lastOut := 0, heldOut := x.out }

/-- The cut of job `k` on core `c` has passed its check with value `v`: its output leaves the core, its context is written back with
renewed shares and mirrored, and the job goes on to its next cut or to TAG. -/
def State.writeBack (c k : Nat) (j : Job) (x : Context) (tag : List Byte) (v : CutVal) (s : State) : State :=
  let p := s.rng.mask c 32
  let y := x.writeBack v p.1
  let s1 := ((s.withRng fun _ => p.2).cutOutput k j v).coreDone c 1 (cutBlocks j.desc j.cutsDone)
  let s2 := s1.withRings fun rs => rs.updJob k fun z =>
    { z with ctx := some y, ctxStart := some x, cutsDone := z.cutsDone + 1, lastCore := c, pos := .tag
             tag := if tag = [] then z.tag else tag }
  let s3 := if j.cuts ≤ j.cutsDone + 1 then s2 else s2.makeReady k false
  s3.mirror (contextRecord k y)

/-- The input of the job's next cut from the bytes `read` of host memory, or from the sector once its frame has ended well (08
R283); none while that is still to come. -/
def Job.cutInput (j : Job) (read : List Byte) : Option CutIn :=
  if j.desc.opcode = 0x21 then (if j.frameEnd = some true then some (sectorInput j.desc j.cutsDone j.input) else none)
  else some (hostInput j.desc j.cutsDone j.cuts read)

/-- CUT_WRITE_BACK (07 R232, R236, R242-R248, R258): the cut of the core passes its check and is written back, or is discarded and
dealt again ahead of every other.  A cut of a job that has ended meanwhile ends for nothing. -/
def execCutWriteBack (core : Fin 16) (e : CutEnd) (s : State) : Host.Outcome State Fault Refusal :=
  let c := core.val
  let y := Bank.get {} s.cipher.cores c
  .next (match y.work with
    | none =>
      if y.orphan.isNone then s
      else match e with
        | .mismatch ghash => (s.coreMismatch c ghash).dealAll
        | .pass _ => (s.coreDone c 0 0).dealAll
    | some k =>
      match s.rings.job k with
      | none => s
      | some j =>
        match e, j.ctx with
        | .mismatch ghash, _ => ((s.coreMismatch c ghash).makeReady k true).dealAll
        | .pass _, none => s
        | .pass read, some x =>
          match j.cutInput read with
          | none => s
          | some inp =>
            match y.cut j.desc j.cutsDone j.cuts x j.out inp with
            | none => ((s.coreMismatch c false).makeReady k true).dealAll
            | some v => (s.writeBack c k j x inp.tag v).dealAll)

/-- DMA_READ_EARLY_END (R75; 07 R258): LENGTH_SHORT at CIPHER with the bytes received; the error goes to AER, and the cut, whose input
ended, with it. -/
def execDmaReadEarlyEnd (ring : Fin 16384) (n received : Word) (e : EarlyEnd) (s : State) :
    Host.Outcome State Fault Refusal :=
  let k := jobKey ring.val n
  .next (match s.rings.job k with
    | none => s
    | some j =>
      let at_ := match j.pos with | .ready => true | .onCore _ => true | .digest => true | _ => false
      if at_ && !decide (j.desc.opcode = 0x21) then
        let s1 := (s.failJob k Status.lengthShort received 5).withPcie (Pcie.early e)
        ((match j.pos with | .onCore c => s1.coreDone c 0 0 | _ => s1).digDeal).dealAll
      else s)

/-! ### TAG and RELEASE (R196, R206, R222; 08 R276, R278) -/

/-- Drop the job's last cut, which runs again from its starting context (07 R244, R246); a job that came to TAG with its partner's
context alone runs again from its first cut. -/
def Job.undoCut (first : Context) (j : Job) : Job :=
  match j.ctxStart with
  | some x =>
    { j with cutsDone := j.cutsDone - 1, ctx := some x, lastOut := 0, heldOut := []
             outLen := j.outLen - BitVec.ofNat 32 j.lastOut, out := if streams j.desc.opcode then j.out else j.heldOut }
  | none => { j with cutsDone := 0, ctx := some first, outLen := 0, out := [] }

/-- TAG has finished with the job: its context entry is freed (07 R237). -/
def State.tagPass (k : Nat) (out : List Byte) (s : State) : State :=
  s.withRings fun rs => rs.updJob k fun x => { x with pos := .release, ctx := none, ctxStart := none, heldOut := [], out := out }

/-- A comparison at TAG, and what is released where it passes (R222). -/
def State.tagCheck (k : Nat) (pass : Bool) (out : List Byte) (s : State) : State :=
  if pass then s.tagPass k out else s.failJob k Status.authFail 0 6

/-- The end of a digest unit's work on a ring job, from the message `read` (11 R343, R344): the digest or MAC goes on to RELEASE, or
is compared in its first 16 bytes. -/
def State.digestTag (k : Nat) (j : Job) (read : List Byte) (s : State) : State :=
  let d := j.desc
  let data := padTo d.len.toNat read
  let n := if d.opcode = 0x12 then digOut d.code else outLen d
  let v := if d.opcode = 0x10 then digestOf d.code.toNat data n else macOf d.code.toNat (s.keyAt j.slots 0) [] data n
  let s0 := if d.opcode = 0x10 then s else s.digMask fun _ t => t
  let s1 := s0.withDig fun x => x.dropJob k
  (if d.opcode = 0x12 then s1.tagCheck k (decide (v.take 16 = d.paramB)) [] else s1.tagPass k v).digDeal

/-- The finished tag of a GCM job, which its last core computes (07 R222, R225, R244; 08 R276): released, compared with the tag
received, or with that of a mirrored record (16 R471). -/
def State.gcmTag (k : Nat) (j : Job) (x : Context) (s : State) : State :=
  let t := x.gcmTag (s.keyAt j.slots 0)
  let s1 := s.withCipher fun y => { y with cores := Bank.upd {} j.lastCore (fun z => { z with blocks := z.blocks + 1 }) y.cores }
  match j.desc.opcode.toNat with
  | 0x01 => s1.tagPass k t
  | 0x20 =>
    let kid := ((j.slots.head?.bind (Bank.get none s.keys.runs)).map KeyRun.keyId).getD 0
    let want := if j.fixed then ((s.welt.stagedRec j.carried (jobRing k) (jobNum k)).map fun e => e.2.1).getD t else t
    s1.tagCheck k (decide (t = want)) (sectorHeader j.desc.code.toNat kid j.iv j.desc.paramA ++ j.out ++ t)
  | _ => s1.tagCheck k (decide (t = j.tag)) j.out

/-- The end of every other cipher job (R222). -/
def State.plainTag (k : Nat) (j : Job) (x : Context) (s : State) : State :=
  match j.desc.opcode.toNat with
  | 0x0A => s.tagPass k x.chain
  | 0x0B => s.tagCheck k (decide (x.chain = j.desc.paramB)) []
  | 0x0D => s.tagCheck k (decide (x.chain.take 8 = kwIv)) j.out
  | 0x0F =>
    match kwpCheck (x.chain.take 8) j.out with
    | some m => s.tagPass k m
    | none => s.tagCheck k false []
  | _ => s.tagPass k j.out

/-- TAG_STAGE (R222; 07 R244; 11 R344): `ghashOk` says whether the two multipliers agree on the finished tag.  It also ends the work
of a digest unit on a ring job, whose message is `read`. -/
def execTagStage (ring : Fin 16384) (n : Word) (ghashOk : Bool) (read : List Byte) (s : State) : Host.Outcome State Fault Refusal :=
  let k := jobKey ring.val n
  .next (match s.rings.job k with
    | none => s
    | some j =>
      match j.pos, j.ctx with
      | .digest, _ =>
        if ((List.range 4).any fun u => decide ((s.dig.unitAt u).work = some (.ring ring.val n)))
            && (decide (j.desc.opcode = 0x10) || s.rng.serves 9) then s.digestTag k j read
        else s
      | .tag, some x =>
        if opGcm j.desc.opcode then
          (if ghashOk then s.gcmTag k j x
          else (((s.coreMismatch j.lastCore true).withRings fun rs => rs.updJob k (Job.undoCut (s.newContext k j))).makeReady k
            true).dealAll)
        else s.plainTag k j x
      | _, _ => s)

/-- RELEASE of a SOLE_WRITE (R206; 08 R278; 09 R312), by the ring-engine DMA, which stops at a beat that its MPU refuses (19 R547, R551). -/
def State.releaseSole (k : Nat) (j : Job) (s : State) : State :=
  let n := j.desc.port.toNat
  let p := s.sole.get n
  if !p.en then s.failJob k Status.portHold (BitVec.ofNat 32 (256 + n)) 7
  else if p.hold || (p.holdOver && !canSend s n) then s.failJob k Status.portHold (BitVec.ofNat 32 n) 7
  else
    let g := granules j.desc.code.toNat
    match p.granFind g with
    | none => s
    | some a =>
      if (s.mpu 5).stopped.isSome then s
      else match s.dmaRefused 5 true (granAddr n a) j.out.length with
        | some (acc, r) =>
          (s.withMem fun m => { m with sram := Bank.writeBytes m.sram (granAddr n a) (j.out.take (acc.addr - granAddr n a)) }).dmaFault 5
            acc r
        | none =>
          ((((s.withMem fun m => { m with sram := Bank.writeBytes m.sram (granAddr n a) j.out }).updEntry n k fun e =>
            { e with granule := some (a, g) }).withRings fun rs => rs.updJob k fun x => { x with pos := .staged }).mirrorStaged n k)

/-- RELEASE_STAGE (R196, R206). -/
def execReleaseStage (ring : Fin 16384) (n : Word) (s : State) : Host.Outcome State Fault Refusal :=
  let k := jobKey ring.val n
  .next (match s.rings.job k with
    | none => s
    | some j =>
      if j.pos ≠ .release then s
      else if j.desc.opcode = 0x20 then s.releaseSole k j
      else
        let total := j.outLen + BitVec.ofNat 32 j.out.length
        (s.hostWrite (j.desc.dst + j.outLen.setWidth 64) j.out).tokenise k Status.ok 0 0 total)

/-- SECTOR_STAGED (08 R278, 09 R308): the last granule of the sector is written. -/
def execSectorStaged (port : Fin 16) (ring : Fin 16384) (n : Word) (s : State) : Host.Outcome State Fault Refusal :=
  .next (s.updEntry port.val (jobKey ring.val n) fun e => if e.granule.isSome then { e with staged := true } else e)

/-! ### COMPLETE and ring control (R200, R210-R217) -/

/-- RING_MSIX_SEND (R200): the message of a vector with completions to report. -/
def execRingMsixSend (f : Fin 64) (vector : Fin 32) (s : State) : Host.Outcome State Fault Refusal :=
  let v := f.val * 32 + vector.val
  .next (if s.rings.irqDue.contains v then
    (s.withRings fun rs => { rs with irqDue := rs.irqDue.filter fun x => decide (x ≠ v) }).msix f.val vector.val
  else s)

/-- CREATE (R183, R217): the ring becomes ACTIVE with P, F and C at 0. -/
def Ring.start (g : Ring) : Ring :=
  { g with state := 1, p := 0, f := 0, c := 0, dbBad := 0, fetchErr := false, issued := 0, reread := 0 }

/-- RING_CTL_CREATE (R217): machine and supervisor level, on a ring in NONE. -/
def execRingCtlCreate (level : Level) (s : State) : Host.Outcome State Fault Refusal :=
  let r := s.rings.sel.toNat
  .next (if level ≠ .user ∧ (s.rings.get r).state = 0 then s.withRings fun rs => rs.updRing r Ring.start else s)

/-- R213: the ring drains; fetching stops, waiting reads complete with ABORTED. -/
def State.destroyRing (r : Nat) (s : State) : State :=
  let g := s.rings.get r
  if g.state = 0 ∨ g.state = 3 then s
  else
    let s1 := s.withRings fun rs => (rs.updRing r fun x => { x with state := 3, fetchErr := false }).endRead r
    let ks := (s1.rings.list.filter fun p => decide (jobRing p.1 = r ∧ p.2.pos = .parked)).map Prod.fst
    (ks.foldl (fun t k => t.failJob k Status.aborted 2 8) s1).withRings fun rs => rs.freeIfDrained r

/-- RING_CTL_DESTROY (R213, R217). -/
def execRingCtlDestroy (level : Level) (s : State) : Host.Outcome State Fault Refusal :=
  .next (if level ≠ .user then s.destroyRing s.rings.sel.toNat else s)

/-- The abort of every open job of every ring (R214). -/
def State.abortAllRings (s : State) : State :=
  let under := (s.rings.ring.filter fun p => decide (p.2.issued ≠ 0)).map Prod.fst
  ((s.withRings fun rs => { rs with abortAll := true, abortReads := under }).abortJobs (fun _ => true) Status.aborted 1).withRings
    Rings.endAbort

end Sys2Proof.Machine
end

