-- ==== Sys2Proof/Machine/Cipher.lean ====
section
/-! DEFINITION. Meanings of the cipher cluster's control commands (07 R249, R250, R255, R259). -/

namespace Sys2Proof.Machine

/-- CLK_CTRL_WRITE (R255, R259): machine level only; a core whose enable is cleared finishes its cut and takes no more. -/
def execClkCtrlWrite (_writer : CoreNo) (level : Level) (v : Word) (s : State) : Host.Outcome State Fault Refusal :=
  .next (if level = .machine then
    (s.withCipher fun c => { c with coreEn := v.setWidth 16, half := v.getLsbD 16 }).dealAll
  else s)

/-- CPH_STATE.STATE (R259). -/
def cphState (s : State) (i : Nat) : Nat :=
  let x := Bank.get {} s.cipher.cores i
  if x.quar then 2 else if x.work.isSome || x.orphan.isSome then 1 else if s.cipherOn.getLsbD i then 0 else 3

/-- CPH_KAT_RUN (R249, R259): machine level, with STATE 2 or 3. -/
def execCphKatRun (core : Fin 16) (level : Level) (s : State) : Host.Outcome State Fault Refusal :=
  .next (if level = .machine ∧ 2 ≤ cphState s core.val then
    s.withCipher fun c => { c with cores := Bank.upd {} core.val (fun x => { x with katRun := true, katDone := false }) c.cores }
  else s)

/-- CPH_KAT_DONE (R249): the test needs masking randomness; a pass returns a core quarantined fewer than three times. -/
def execCphKatDone (core : Fin 16) (pass : Bool) (s : State) : Host.Outcome State Fault Refusal :=
  .next (if (Bank.get {} s.cipher.cores core.val).katRun && s.rng.genRuns core.val then
    (s.withCipher fun c => { c with cores := Bank.upd {} core.val (fun x =>
      { x with katRun := false, katDone := true, katPass := pass,
               quar := x.quar && !(pass && decide (x.qcount.toNat < 3)) }) c.cores }).dealAll
  else s)

end Sys2Proof.Machine
end

