-- ==== Sys2Proof/Machine/Contactless.lean ====
section
/-! DEFINITION. Meanings of the contactless port's commands (14 R419-R428, R432-R436): listen mode with the audit
application, and poll mode. -/

namespace Sys2Proof.Machine

/-! ### Listen mode: ISO/IEC 14443 (R419-R422) -/

/-- The port answers a reader: a field is present, transmission is not suspended and no poll runs (R412, R432). -/
def State.listening (s : State) : Bool := s.listen.field && !s.listen.susp && decide (s.cls.mode = .off)

/-- Send an answer; a frame sent on VBAT is charged to the budget (R412). -/
def State.answer (bs : List Byte) (s : State) : State := (s.withListen fun l => { l with answer := bs }).chargeFrame

/-- The end of a session: keys, RndB and the application state are discarded, the port is in the ISO/IEC 14443-3 IDLE state
(R421, R422). -/
def Listen.endSession (l : Listen) : Listen :=
  { l with iso := .idle, session := false, dsi := 0, dri := 0, selected := false, secured := false, pendingRndB := none,
           rndB := [], ks := [], ctrIn := 0, ctrOut := 0, blockNo := false }

/-- Change the poll-mode unit; a disabled one is gated once no poll or exchange runs (17 R487, R488). -/
def State.updCls (g : Cls → Cls) (s : State) : State :=
  s.withCls fun c => if s.unitOn 33 || decide ((g c).mode = .polling) || (g c).exchanging then g c else {}

/-- End a poll: status, PEND, and the field off unless a badge is active (R432, R436). -/
def Cls.finish (st : Half) (mode : PollMode) (c : Cls) : Cls :=
  { c with mode := mode, exchanging := false, status := st, irqPend := true, fieldOn := decide (mode = .badge) }

/-- FIELD_DETECTED (R412, R419, R421, R432): a fresh UID; on VBAT the device stays silent below 2.4 V or 1 mA·s; a poll
ends with NOT_READY. -/
def execFieldDetected (s : State) : Host.Outcome State Fault Refusal :=
  let silent := s.insole.onVbat && (decide (s.insole.vbatMv.toNat < 2400) || decide (s.insole.budget < 1000))
  let uid : Word := BitVec.ofNat 32 (0x08 + 256 * ofLe (s.insole.drbgOut.take 3))
  let s1 := (s.withInsole Insole.drbgNext).withListen fun l =>
    { l.endSession with field := true, susp := silent, uid := uid, answer := [] }
  .next (if s.cls.mode = .polling then s1.updCls (Cls.finish Status.notReady .off) else s1)

/-- SESSION_INACTIVITY (R422): 66 ICLK of counted silence end the session, unless a frame with good CRC ends in the same cycle
(`tie`; 01 R26). -/
def execSessionInactivity (tie : Bool) (s : State) : Host.Outcome State Fault Refusal :=
  .next (if s.listen.session && !tie then s.withListen Listen.endSession else s)

/-- ATQA 0x0004 and SAK 0x20 (R420). -/
def atqa : List Byte := [0x04, 0x00]
def sakByte : List Byte := [0x20]
/-- ATS (R420). -/
def atsBytes : List Byte := [0x05, 0x78, 0x77, 0x40, 0x00]

/-- A frame of a session other than AUTH_2 discards the RndB of AUTH_1 (R425). -/
def Listen.dropRndB (l : Listen) : Listen := { l with pendingRndB := none }

/-- The port receives a frame other than AUTH_2 (R425); where it does not listen, nothing is received. -/
def State.heard (f : State → State) (s : State) : State := if s.listening then f (s.withListen Listen.dropRndB) else s

/-- REQA (R419): answered from the IDLE state. -/
def execReqa (s : State) : Host.Outcome State Fault Refusal :=
  .next (s.heard fun s => if s.listen.iso = .idle then (s.withListen fun l => { l with iso := .ready }).answer atqa else s)

/-- WUPA (R419): answered from the IDLE and HALT states. -/
def execWupa (s : State) : Host.Outcome State Fault Refusal :=
  .next (s.heard fun s => if s.listen.iso = .idle ∨ s.listen.iso = .halted then
    (s.withListen fun l => { l with iso := .ready }).answer atqa else s)

/-- The UID and its check byte. -/
def uidBytes (u : Word) : List Byte :=
  let b := leBytes 4 u.toNat
  b ++ [b.foldl (· ^^^ ·) 0]

/-- ANTICOLLISION (R419). -/
def execAnticollision (s : State) : Host.Outcome State Fault Refusal :=
  .next (s.heard fun s => if s.listen.iso = .ready then s.answer (uidBytes s.listen.uid) else s)

/-- ISO_SELECT (R420). -/
def execIsoSelect (uid : Word) (s : State) : Host.Outcome State Fault Refusal :=
  .next (s.heard fun s => if s.listen.iso = .ready ∧ uid = s.listen.uid then
    (s.withListen fun l => { l with iso := .active }).answer sakByte else s)

/-- HLTA (R419): the port is halted, without an answer. -/
def execHlta (s : State) : Host.Outcome State Fault Refusal :=
  .next (s.heard fun s => if s.listen.iso = .active ∧ s.listen.session = false then
    s.withListen fun l => { l with iso := .halted } else s)

/-- RATS (R422): the session begins. -/
def execRats (s : State) : Host.Outcome State Fault Refusal :=
  .next (s.heard fun s => if s.listen.iso = .active ∧ s.listen.session = false then
    (s.withListen fun l => { l.endSession with iso := .active, session := true }).answer atsBytes else s)

/-- PPS (R419): the bit rates in each direction. -/
def execPps (dsi dri : BitVec 2) (s : State) : Host.Outcome State Fault Refusal :=
  .next (s.heard fun s => if s.listen.session then (s.withListen fun l => { l with dsi := dsi, dri := dri }).answer [0xD0] else s)

/-- R_BLOCK (R419): with the current block number the last block is sent again; otherwise an R(NAK) gets an R(ACK). -/
def execRBlock (nak blockNo : Bool) (s : State) : Host.Outcome State Fault Refusal :=
  .next (s.heard fun s =>
    if !s.listen.session then s
    else if blockNo = s.listen.blockNo then s.answer s.listen.answer
    else if nak then s.answer [if s.listen.blockNo then 0xA3 else 0xA2]
    else s)

/-- S_DESELECT (R422): the session ends. -/
def execSDeselect (s : State) : Host.Outcome State Fault Refusal :=
  .next (if s.listening && s.listen.session then (s.withListen Listen.endSession).answer [0xC2] else s)

/-! ### The audit application (R423-R427) -/

/-- Answer an APDU in clear: data and status word; the block number toggles. -/
def State.apdu (data : List Byte) (sw : Nat) (s : State) : State :=
  (s.withListen fun l => { l with blockNo := !l.blockNo }).answer (data ++ beBytes 2 sw)

/-- An APDU of the session: nothing outside a session. -/
def State.inSession (f : State → State) (s : State) : State := if s.listening && s.listen.session then f s else s

/-- The nonce of R426: direction byte, message counter, RndB bytes 0-7.  The counter is big-endian like the application's other
integers (DEDUCED, log entry 128). -/
def ccmNonce (dir : Byte) (counter : Nat) (rndB : List Byte) : List Byte := [dir] ++ beBytes 4 counter ++ rndB.take 8

/-- The data of a response under secure messaging: ciphertext and tag, with SW1 SW2 as associated data (R426). -/
def Listen.seal (l : Listen) (data : List Byte) (sw : Nat) : List Byte :=
  let e := ccmSeal l.ks (ccmNonce 1 l.ctrOut l.rndB) (beBytes 2 sw) data 8
  e.1 ++ e.2

/-- The data of a command under secure messaging, of its ciphertext and tag, with the header as associated data, where the check
passes: a message that was not made with the next counter expected does not (R426). -/
def Listen.unseal (l : Listen) (hdr data : List Byte) : Option (List Byte) :=
  let n := data.length - 8
  ccmOpen l.ks (ccmNonce 0 l.ctrIn l.rndB) hdr (data.take n) (data.drop n)

/-- Answer an APDU under secure messaging: ciphertext and tag, the status word in clear (R426); the session ends when the
counter would pass 0xFFFF_FFFF. -/
def State.apduSecured (data : List Byte) (sw : Nat) (s : State) : State :=
  let l := s.listen
  let s1 := (s.apdu (l.seal data sw) sw).withListen fun l => { l with ctrOut := l.ctrOut + 1 }
  if 0xFFFFFFFF ≤ l.ctrOut ∨ 0xFFFFFFFF < l.ctrIn then s1.withListen Listen.endSession else s1

/-- The entry to a command that needs Secured: 69 82 in Open, 69 88 when the secure-messaging check fails; `f` takes the command
data in clear (R424, R426). -/
def State.secured (hdr data : List Byte) (f : List Byte → State → State) (s : State) : State :=
  if !s.listen.secured then s.apdu [] 0x6982
  else match s.listen.unseal hdr data with
    | some d => f d (s.withListen fun l => { l with ctrIn := l.ctrIn + 1 })
    | none => (s.withListen Listen.unsecure).apdu [] 0x6988

/-- The application has been selected, the command data are as long as the command has them, and Le matches (R424). -/
def State.application (lc : Nat) (data : List Byte) (leOk : Bool) (f : State → State) (s : State) : State :=
  s.inSession fun s =>
    let s1 := s.withListen Listen.dropRndB
    if !s1.listen.selected then s1.apdu [] 0x6985
    else if data.length ≠ lc ∨ leOk = false then s1.apdu [] 0x6700
    else f s1

/-- The AID of the audit application. -/
def auditAid : List Byte := [0xF0, 0x55, 0x4D, 0x37, 0x38, 0x34, 0x30]

/-- SELECT (R423, R424): the state becomes Open. -/
def execSelect (aid : List Byte) (s : State) : Host.Outcome State Fault Refusal :=
  .next (s.inSession fun s =>
    let s1 := s.withListen Listen.dropRndB
    if aid = auditAid then (s1.withListen fun l => { l.unsecure with selected := true }).apdu [] 0x9000
    else s1.apdu [] 0x6A82)

/-- A page as READ PAGE returns it: 64 bytes and the version, big-endian (R423). -/
def TagPage.answer (p : TagPage) : List Byte := p.data ++ beBytes 2 p.version.toNat

/-- A frame of READ PAGE or WRITE NOTES in a session holds the page that P1 names from the decoding of P1 on (R430). -/
def State.hold (page : Byte) (s : State) : State :=
  s.inSession fun s => if page.toNat ≤ 127 then s.withListen fun l => { l with held := some (page.setWidth 7) } else s

/-- READ_PAGE (R423, R430): in clear for pages 0-31, under secure messaging for every page; the frame holds the page. -/
def execReadPage (cla page : Byte) (data : List Byte) (leOk : Bool) (s : State) : Host.Outcome State Fault Refusal :=
  let n := page.toNat
  .next (if cla = 0x80 then
    (s.hold page).application 0 data leOk fun s =>
      if 31 < n then s.apdu [] 0x6A86 else s.apdu (s.listen.page n).answer 0x9000
  else if cla = 0x84 then
    (s.hold page).application 8 data leOk fun s => s.secured [cla, 0xB0, page, 0] data fun _ s =>
      if 127 < n then s.apduSecured [] 0x6A86 else s.apduSecured (s.listen.page n).answer 0x9000
  else s.inSession fun s => (s.withListen Listen.dropRndB).apdu [] 0x6E00)

/-- AUTH_1 (R423-R425, R427): RndB from the Insole DRBG. -/
def execAuth1 (data : List Byte) (leOk : Bool) (s : State) : Host.Outcome State Fault Refusal :=
  .next (s.application 0 data leOk fun s =>
    if s.listen.secured then s.apdu [] 0x6985
    else if s.insole.blocked then s.apdu [] 0x6983
    else if s.insole.auditKey.isNone then s.apdu [] 0x6982
    else if !s.insole.seeded then s.apdu [] 0x6985
    else
      let r := s.insole.drbgOut
      ((s.withInsole Insole.drbgNext).withListen fun l => { l with pendingRndB := some r }).apdu r 0x9000)

/-- The count after a failed MAC_A: the third failure blocks (R427). -/
def Insole.authFail (i : Insole) : Insole :=
  let n := min (i.failCount.toNat + 1) 3
  { i with failCount := BitVec.ofNat 2 n, blocked := i.blocked || decide (3 ≤ n), failTotal := satAdd i.failTotal 1 }

/-- A pass of R425: CMAC under the audit key of its byte, two random values and the UID of the current field. -/
def authMac (k : List Byte) (pass : Byte) (a b : List Byte) (uid : Word) : List Byte :=
  cmac k ([pass] ++ a ++ b ++ leBytes 4 uid.toNat)

/-- The session key KS (R425). -/
def authKey (k ra rb : List Byte) : List Byte := cmac k ([0x53] ++ ra ++ rb)

/-- AUTH_2 (R425, R427): directly after AUTH_1, with RndA and MAC_A; a correct MAC_A gives Secured and MAC_B. -/
def execAuth2 (data : List Byte) (leOk : Bool) (s : State) : Host.Outcome State Fault Refusal :=
  .next (s.inSession fun s =>
    let s1 := s.withListen Listen.dropRndB
    if !s1.listen.selected then s1.apdu [] 0x6985
    else if data.length ≠ 32 ∨ leOk = false then s1.apdu [] 0x6700
    else match s.listen.pendingRndB, s.insole.auditKey with
      | none, _ => s1.apdu [] 0x6985
      | _, none => s1.apdu [] 0x6982
      | some rb, some k =>
        let ra := data.take 16
        if data.drop 16 = authMac k 0x41 ra rb s.listen.uid then
          ((s1.withInsole fun i => { i with failCount := 0 }).withListen fun l =>
            { l with secured := true, rndB := rb, ks := authKey k ra rb, ctrIn := 0, ctrOut := 0 }).apdu
            (authMac k 0x42 rb ra s.listen.uid) 0x9000
        else (s1.withInsole Insole.authFail).apdu [] 0x6982)

/-- WRITE_NOTES (R423, R429-R431): pages 96-127, at the expected version.  `collapse` tells whether the field collapses
after receipt, before (`some false`) or after (`some true`) the commit. -/
def execWriteNotes (page : Byte) (data : List Byte) (leOk : Bool) (collapse : Option Bool) (s : State) :
    Host.Outcome State Fault Refusal :=
  let n := page.toNat
  .next ((s.hold page).application 74 data leOk fun s => s.secured [0x84, 0xD0, page, 0] data fun d s =>
    if n < 96 ∨ 127 < n then s.apduSecured [] 0x6A86
    else
      let p := s.listen.page n
      if p.version.toNat ≠ ofBe (d.take 2) then s.apduSecured [] 0x6985
      else
        let st := s.withListen fun l => { l with fieldStaging := d.drop 2 }
        if collapse = some false then st
        else
          let w := st.withListen fun l => l.commitField n l.fieldStaging
          if collapse = some true then w else w.apduSecured (beBytes 2 (p.version + 1).toNat) 0x9000)

/-- READ_LOG (R423, R407): a count and up to four entries. -/
def execReadLog (data : List Byte) (leOk : Bool) (s : State) : Host.Outcome State Fault Refusal :=
  .next (s.application 12 data leOk fun s => s.secured [0x84, 0xB2, 0, 0] data fun d s =>
    let es := s.log.entriesFrom (BitVec.ofNat 32 (ofBe d)) 4
    s.apduSecured ([BitVec.ofNat 8 es.length] ++ es.flatMap LogEntry.bytes) 0x9000)

/-- The GET STATUS data (R423). -/
def statusData (s : State) : List Byte :=
  beBytes 6 s.insole.rtc.toNat ++ beBytes 4 s.insole.epoch.toNat
    ++ [BitVec.ofNat 8 (bit s.insole.trusted + 2 * bit s.insole.ik.isSome + 4 * bit s.log.full + 8 * bit s.insole.unannounced),
        s.log.pendMax.setWidth 8, s.log.pendCount]
    ++ beBytes 4 s.log.first.toNat ++ beBytes 4 s.log.next.toNat ++ leBytes 16 s.log.head.toNat

/-- GET_STATUS (R423). -/
def execGetStatus (data : List Byte) (leOk : Bool) (s : State) : Host.Outcome State Fault Refusal :=
  .next (s.application 8 data leOk fun s => s.secured [0x84, 0xF0, 0, 0] data fun _ s => s.apduSecured (statusData s) 0x9000)

/-- UNSUPPORTED_APDU (R424): 6E 00 for a class, 6D 00 for an instruction that is not supported. -/
def execUnsupportedApdu (cla ins : Byte) (s : State) : Host.Outcome State Fault Refusal :=
  .next (s.inSession fun s => (s.withListen Listen.dropRndB).apdu []
    (if (cla = 0x00 ∧ ins ≠ 0xA4) ∨ cla = 0x80 ∨ cla = 0x84 then 0x6D00 else 0x6E00))

/-- AUTH_BLOCK_END (R427): the count stands at 2. -/
def execAuthBlockEnd (s : State) : Host.Outcome State Fault Refusal :=
  .next (if s.insole.blocked then s.withInsole fun i => { i with blocked := false, failCount := 2 } else s)

/-! ### Poll mode (R432, R433) -/

/-- CLS_POLL (R432; 00 R9): machine level only, and only on main power; a field or a listen session ends the poll at once with
NOT_READY. -/
def execClsPoll (level : Level) (s : State) : Host.Outcome State Fault Refusal :=
  .next (if level ≠ .machine ∨ s.cls.mode ≠ .off ∨ s.unitOn 33 = false ∨ s.pins.pwrgd = false ∨ s.insole.onVbat = true then s
  else if s.listen.field || s.listen.session then s.updCls (Cls.finish Status.notReady .off)
  else s.updCls fun c => { c with mode := .polling, fieldOn := true })

/-- CLS_ABORT (R433, R436): ends the poll or the exchange and turns the field off. -/
def execClsAbort (level : Level) (s : State) : Host.Outcome State Fault Refusal :=
  .next (if level ≠ .machine ∨ s.cls.mode = .off then s
  else if s.cls.mode = .polling ∨ s.cls.exchanging = true then s.updCls (Cls.finish Status.aborted .off)
  else s.updCls fun c => { c with mode := .off, fieldOn := false })

/-- CLS_XCHG (R433, R436): sends CLS_TXLEN bytes from the FIFO to the active badge. -/
def execClsXchg (level : Level) (s : State) : Host.Outcome State Fault Refusal :=
  .next (if level = .machine ∧ s.cls.mode = .badge ∧ s.cls.exchanging = false then
    s.updCls fun c => { c with exchanging := true, rx := [] }
  else s)

/-- A badge is found: its UID, and the field stays on (R432, R433). -/
def Cls.found (typeB : Bool) (uid : List Byte) (c : Cls) : Cls :=
  { c.finish Status.ok .badge with uid := uid, uidTypeB := typeB }

/-- POLL_ROUND (R432): Type A is taken when both types answer; an external field ends the poll. -/
def execPollRound (typeA typeB : Option (List Byte)) (fieldSeen : Bool) (s : State) : Host.Outcome State Fault Refusal :=
  .next (if s.cls.mode ≠ .polling then s
  else if fieldSeen then s.updCls (Cls.finish Status.notReady .off)
  else match (if s.cls.typeA then typeA else none), (if s.cls.typeB then typeB else none) with
    | some u, _ => s.updCls (Cls.found false u)
    | none, some u => s.updCls (Cls.found true u)
    | none, none => s)

/-- POLL_TIMEOUT (R432): no badge within CLS_POLLTMO. -/
def execPollTimeout (s : State) : Host.Outcome State Fault Refusal :=
  .next (if s.cls.mode = .polling then s.updCls (Cls.finish Status.cardAbsent .off) else s)

/-- BADGE_EXCHANGE_END (R433): the answer, or CARD_REMOVED after two retransmissions without one. -/
def execBadgeExchangeEnd (answer : Option (List Byte)) (s : State) : Host.Outcome State Fault Refusal :=
  .next (if !s.cls.exchanging then s
  else match answer with
    | some a => s.updCls fun c => { c.finish Status.ok .badge with tx := [], rx := wordsOf a, rxLen := BitVec.ofNat 32 a.length }
    | none => s.updCls (Cls.finish Status.cardRemoved .badge))

end Sys2Proof.Machine
end

