-- ==== Sys2Proof/Machine/Cobbler.lean ====
section
/-! DEFINITION. Meanings of the Cobbler's commands (17): sensors and throttle, unit enables, core restart and quarantine,
known-answer tests, and the management protocols. -/

namespace Sys2Proof.Machine

/-- The Cobbler runs: it is released and not frozen (R490). -/
def State.cobRuns (s : State) : Bool := !(s.core 4).inReset && !(s.core 4).halted

/-! ### Sensors and throttle (R485, R486) -/

/-- The highest of the diodes 0-7 in m°C, with the first diode that reads it. -/
def hottest (l : List Word) : Int × Nat :=
  ((List.range 8).map fun i => ((l.getD i 0).toInt, i)).foldl (fun b p => if b.1 < p.1 then p else b) ((l.getD 0 0).toInt, 0)

/-- A temperature of m°C in 1/8 °C, as PWR_THERM.TJ gives it (R497). -/
def eighths (mC : Int) : Half := BitVec.ofInt 16 (mC * 8 / 1000)

/-- The lesser and the greater of two signed words. -/
def sMin (a b : Word) : Word := if a.toInt ≤ b.toInt then a else b
def sMax (a b : Word) : Word := if a.toInt ≤ b.toInt then b else a

/-- The nineteen readings with their minima and maxima since reset (R485). -/
def Cob.sample (l : List Word) (c : Cob) : Cob :=
  let idx := List.range 19
  let pick (g : Word → Word → Word) (old : Bank Word) : Bank Word :=
    Bank.tab 0 19 fun i => if c.sampled then g (Bank.get 0 old i) (l.getD i 0) else l.getD i 0
  { c with sens := Bank.tab 0 idx.length fun i => l.getD i 0, sensMin := pick sMin c.sensMin, sensMax := pick sMax c.sensMax,
           sampled := true, hot := BitVec.ofNat 3 (hottest l).2, tj := eighths (hottest l).1 }

/-- SENSOR_REFRESH (R485, R486): at 105 °C the Cobbler sets HALF, at 100 °C it clears it, while it runs; sensor 18 is INS_VBAT. -/
def execSensorRefresh (readings : List (BitVec 32)) (s : State) : Host.Outcome State Fault Refusal :=
  let t := (hottest readings).1
  let s1 := (s.withCob (Cob.sample readings)).withInsole fun i => { i with vbatMv := (readings.getD 18 0).setWidth 16 }
  .next (if s.boot.inReset then s
  else if !s.cobRuns then s1
  else if 105000 ≤ t ∧ s.cipher.half = false then
    (s1.withCipher fun c => { c with half := true }).event 0x1C 4 ((eighths t).setWidth 32)
  else if t ≤ 100000 ∧ s.cipher.half = true then
    (s1.withCipher fun c => { c with half := false }).event 0x1C 5 ((eighths t).setWidth 32)
  else s1)

/-! ### Core restart and quarantine (R489, R490) -/

/-- Custody core `c` can run: neither quarantined nor disabled. -/
def State.coreUsable (s : State) (c : Nat) : Bool := !(s.core c).quar && s.coreOn c

/-- The lowest-numbered core that runs, other than `c` (R489). -/
def State.otherCore (s : State) (c : Nat) : Option Nat :=
  (List.range 4).find? fun d => decide (d ≠ c) && !(s.core d).inReset && !(s.core d).halted

/-- Step 1 of R489: core `c` is held in reset, its locks are released, its routes move and its engines are aborted. -/
def State.holdCore (c : Nat) (s : State) : State :=
  let s1 := s.updCore c fun k => { k with inReset := true, halted := false, waiting := false, wb := [], resv := none }
  let s2 := s1.withMbx (Mbx.releaseLocks (BitVec.ofNat 7 (65 + c)))
  let s3 := match s.otherCore c with
    | some d => s2.withMbx fun m => { m with hroute := (List.range 64).foldl (fun b f =>
        Bank.upd {} f (fun (r : HRoute) => if r.core.toNat = c then { r with core := BitVec.ofNat 2 d } else r) b) m.hroute }
    | none => s2
  let s4 := s3.withFw fun f => { f with pkeAgain := f.pkeAgain.filter fun w => decide (w.master.val ≠ c) }
  s4.withPke fun b => (List.range 4).foldl (fun b i => Bank.upd {} i (fun (e : PkeEngine) =>
    if e.owner.toNat = 65 + c ∧ e.state ≠ 0 ∧ e.state ≠ 6 ∧ e.state ≠ 7 then e.startClear .abort else e) b) b

/-- The Cobbler restarts custody core `c`: the third restart within 1 s quarantines it, and when no core remains the Cobbler
raises source 56 with detail 0x43 (R490). -/
def State.restartCore (c : Nat) (s : State) : State :=
  let now := s.cob.clockUs
  let times := (s.core c).restarts.filter (fun t => decide (now < t + 1000000)) ++ [now]
  let s1 := (s.holdCore c).updCore c fun k => { k with restarts := times, quar := k.quar || decide (3 ≤ times.length) }
  if 3 ≤ times.length then
    let s2 := s1.event (0x18 + c) 2 4
    if (List.range 4).any fun d => s2.coreUsable d then s2
    else s2.alarmTick [(56, 0x43, true)]
  else s1

/-- Core `c` freezes or is wedged: source 43, and the restart of R489; the Cobbler itself waits for the alarm controller
(R490). -/
def State.coreFails (c : Nat) (wedged : Bool) (s : State) : State :=
  let s1 := (s.updCore c fun k => { k with halted := true }).raise 43 (BitVec.ofNat 32 (c + 8 * bit wedged))
  if c < 4 ∧ s1.boot.inReset = false then s1.restartCore c else s1

/-- WATCHDOG_EXPIRY (R489): core `c` has not written PWR_WDOG_c for 10 ms; a write in the same cycle (`tie`) counts (R496). -/
def execWatchdogExpiry (c : Fin 4) (tie : Bool) (s : State) : Host.Outcome State Fault Refusal :=
  .next (if (s.core c.val).inReset || tie then s
  else (s.withCob fun x => { x with clockUs := max x.clockUs (Bank.get 0 x.pets c.val + 10000) }).coreFails c.val true)

/-- LOCKSTEP_MISMATCH (18 R527): the core freezes and is restarted. -/
def execLockstepMismatch (c : CoreNo) (s : State) : Host.Outcome State Fault Refusal :=
  .next (if (s.core c.val).inReset || (s.core c.val).halted then s else s.coreFails c.val false)

/-- PWR_WDOG_WRITE (R489, R497): by core `c` itself. -/
def execPwrWdogWrite (c : Fin 4) (writer : CoreNo) (v : Word) (s : State) : Host.Outcome State Fault Refusal :=
  .next (if writer.val = c.val ∧ v.getLsbD 0 = true then
    s.withCob fun x => { x with pets := Bank.set 0 c.val x.clockUs x.pets }
  else s)

/-- The TCMs of core `c` are reloaded from the kept image (R489 step 2): targets 0 and 1. -/
def Mem.reload (c : Nat) (img : Image) (m : Mem) : Mem :=
  (img.segs.filter fun g => decide (g.target ≤ 1)).foldl
    (fun m g => m.tcmWrite c g.load g.data) m

/-- CORE_RESTART_RELEASE (R489 steps 2 and 3). -/
def execCoreRestartRelease (c : Fin 4) (s : State) : Host.Outcome State Fault Refusal :=
  .next (if (s.core c.val).inReset && !(s.core c.val).hold && s.coreUsable c.val && decide (s.boot.state = .running) then
    let s1 := match s.cob.image with | some img => s.withMem (Mem.reload c.val img) | none => s
    (s1.releaseCore c.val false).eventFree (0x18 + c.val) 3
  else s)

/-- COBBLER_RESTART (R490): the alarm controller restarts the Cobbler; the throttle state and the event log stay. -/
def execCobblerRestart (s : State) : Host.Outcome State Fault Refusal :=
  .next (if (s.core 4).halted then
    (s.withCob fun c => { c with spdm := {}, eid := 0, pldm := [] }).releaseCore 4 false
  else s)

/-! ### Unit enables (R487, R488) -/

/-- An idle engine that is disabled is power-gated; one that is enabled again starts empty (R488). -/
def PkeEngine.gate (on : Bool) (e : PkeEngine) : PkeEngine :=
  if !on && decide (e.state = 0 ∨ e.state = 6) then { state := 7, qcount := e.qcount }
  else if on && decide (e.state = 7) then { state := if e.qcount = 3 then 6 else 0, qcount := e.qcount }
  else e

/-- The map applied to every unit (R487, R488). -/
def State.applyUnits (s : State) : State :=
  let on := s.unitOn
  let s1 := s.withPke fun b => (List.range 4).foldl (fun b i => Bank.upd {} i (PkeEngine.gate (on (16 + i))) b) b
  let s2 := (List.range 2).foldl (fun t i => t.updIcc i id) ((List.range 4).foldl (fun t i => t.updSd i id) s1)
  let s3 := s2.updCls id
  let s4 := s3.withWelt fun w => if on 34 then w else { w with en := false, lanes := 0 }
  let s5 := (List.range 4).foldl (fun t c => if t.coreOn c || (t.core c).inReset then t else t.holdCore c) s4
  s5.pkeReissue.dealAll.digDeal

/-- PWR_UNIT_ON (R488, R497): the units that are powered, among them a disabled one that still finishes its operation. -/
def State.unitsUp (s : State) : Long :=
  let core (i : Nat) : Bool := let x := Bank.get {} s.cipher.cores i; x.work.isSome || x.orphan.isSome
  let busy (i : Nat) : Bool :=
    if i < 16 then core i
    else if i < 20 then decide ((s.engine (i - 16)).state ≠ 7)
    else if i < 24 then (s.dig.unitAt (i - 20)).work.isSome
    else if i < 27 then false
    else if i < 31 then (s.sdPort (i - 27)).run.isSome
    else if i < 33 then (s.iccSlot (i - 31)).run.isSome
    else decide (i = 33) && (decide (s.cls.mode = .polling) || s.cls.exchanging)
  (List.range 35).foldl (fun (w : Long) i => setBit w i (s.unitOn i || busy i)) 0

/-- PWR_UNIT_EN_WRITE (R487, R497): by the Cobbler only. -/
def execPwrUnitEnWrite (writer : CoreNo) (map : Long) (s : State) : Host.Outcome State Fault Refusal :=
  .next (if writer.val = 4 then
    (s.withCob fun c => { c with unitEn := map &&& 0x7FFFFFFFF }).applyUnits
  else s)

/-! ### Known-answer tests (R491) -/

/-- KAT_SCHEDULE (R491): the Cobbler tests a unit quarantined fewer than three times; units 0-15 are cipher cores, 16-19 PKE engines,
20-23 digest units. -/
def execKatSchedule (unit : Fin 24) (s : State) : Host.Outcome State Fault Refusal :=
  let u := unit.val
  if !s.cobRuns then .next s
  else if h : u < 16 then
    let x := Bank.get {} s.cipher.cores u
    if x.quar && decide (x.qcount.toNat < 3) then execCphKatRun ⟨u, h⟩ .machine s else .next s
  else if u < 20 then execPkeKatRun ⟨(u - 16) % 4, Nat.mod_lt _ (by decide)⟩ .machine s
  else execDigKatRun ⟨(u - 20) % 4, Nat.mod_lt _ (by decide)⟩ .machine s

/-! ### Management port (R493, R577) -/

def State.reply (r : MgtReply) (s : State) : State := s.withOut fun o => { o with reply := some r }

/-- A request on the management port is served while the port is enabled (R497 MGT_CFG.EN). -/
def State.onPort (f : State → State) (s : State) : State := if s.cobRuns && s.cob.mgtEn then f s else s

/-- SMBUS_SCL_TIMEOUT (21 R577): the transaction in progress is abandoned; a transaction is one command here, so none is. -/
def execSmbusSclTimeout (s : State) : Host.Outcome State Fault Refusal := .next s

/-- SET_ENDPOINT_ID (R493; DSP0236): identifiers 0x00 and 0xFF are not endpoints. -/
def execSetEndpointId (eid : Byte) (s : State) : Host.Outcome State Fault Refusal :=
  .next (s.onPort fun t =>
    if eid = 0 ∨ eid = 0xFF then t.reply (.error 2)
    else (t.withCob fun c => { c with eid := eid }).reply (.endpoint eid))

/-- GET_ENDPOINT_ID (R493). -/
def execGetEndpointId (s : State) : Host.Outcome State Fault Refusal := .next (s.onPort fun t => t.reply (.endpoint t.cob.eid))

/-- The MCTP message types served: control 0, PLDM 1, SPDM 5 (R493; DSP0239). -/
def mctpTypes : List Byte := [0, 1, 5]

/-- GET_MCTP_VERSION (R493; DSP0236). -/
def execGetMctpVersion (msgType : Byte) (s : State) : Host.Outcome State Fault Refusal :=
  .next (s.onPort fun t => t.reply (if msgType = 0xFF ∨ mctpTypes.contains msgType = true then .ok else .error 0x80))

/-- GET_MESSAGE_TYPE_SUPPORT (R493). -/
def execGetMessageTypeSupport (s : State) : Host.Outcome State Fault Refusal := .next (s.onPort fun t => t.reply (.types mctpTypes))

/-- GETPDR (R493): records of the numeric sensors 0-18 and of the two state sensors 19 (throttle) and 20 (pair). -/
def execGetPdr (record : Word) (s : State) : Host.Outcome State Fault Refusal :=
  .next (s.onPort fun t => t.reply (if record.toNat ≤ 20 then .pdr record else .error 0x80))

/-- GETSENSORREADING (R493, R485). -/
def execGetSensorReading (sensor : Half) (s : State) : Host.Outcome State Fault Refusal :=
  .next (s.onPort fun t => t.reply (
    if 18 < sensor.toNat then .error 0x80
    else if (Bank.get (0, 0) t.cob.pldm sensor.toNat).1 ≠ 0 then .sensorOff
    else .sensor (Bank.get 0 t.cob.sens sensor.toNat)))

/-- SETNUMERICSENSORENABLE (R493). -/
def execSetNumericSensorEnable (sensor : Half) (opState events : Byte) (s : State) : Host.Outcome State Fault Refusal :=
  .next (s.onPort fun t =>
    if 18 < sensor.toNat ∨ 2 < opState.toNat then t.reply (.error 0x80)
    else (t.withCob fun c => { c with pldm := Bank.set (0, 0) sensor.toNat (opState, events) c.pldm }).reply .ok)

/-- GETSTATESENSORREADINGS (R493). -/
def execGetStateSensorReadings (sensor : Half) (s : State) : Host.Outcome State Fault Refusal :=
  .next (s.onPort fun t => t.reply (
    if sensor = 19 then .state (bit t.cipher.half) else if sensor = 20 then .state (pairCode t.welt.state) else .error 0x80))

/-! ### SPDM responder (R493; DSP0274 error codes) -/

abbrev spdmInvalid : MgtReply := .error 0x01
abbrev spdmUnexpected : MgtReply := .error 0x04
abbrev spdmDecrypt : MgtReply := .error 0x06
abbrev spdmVersion : MgtReply := .error 0x41

def State.updSpdm (g : Spdm → Spdm) (s : State) : State := s.withCob fun c => { c with spdm := g c.spdm }
def State.onCob (f : State → State) (s : State) : State := if s.cobRuns then f s else s

/-- GET_VERSION: a fresh negotiation of version 1.2. -/
def execGetVersion (s : State) : Host.Outcome State Fault Refusal :=
  .next (s.onCob fun t => (t.updSpdm fun _ => { version := true }).reply (.version 0x12))

/-- GET_CAPABILITIES. -/
def execGetCapabilities (version : Byte) (s : State) : Host.Outcome State Fault Refusal :=
  .next (s.onCob fun t =>
    if !t.cob.spdm.version then t.reply spdmUnexpected
    else if version ≠ 0x12 then t.reply spdmVersion
    else (t.updSpdm fun x => { x with caps := true }).reply .ok)

/-- NEGOTIATE_ALGORITHMS: ECDSA P-384 with SHA-384. -/
def execNegotiateAlgorithms (p384 sha384 : Bool) (s : State) : Host.Outcome State Fault Refusal :=
  .next (s.onCob fun t =>
    if !t.cob.spdm.caps then t.reply spdmUnexpected
    else if p384 && sha384 then (t.updSpdm fun x => { x with algs := true }).reply .ok
    else t.reply spdmInvalid)

/-- A request that needs the negotiation done. -/
def State.negotiated (f : State → State) (s : State) : State :=
  s.onCob fun t => if t.cob.spdm.algs then f t else t.reply spdmUnexpected

/-- GET_DIGESTS: an empty slot mask before a chain has been supplied. -/
def execGetDigests (s : State) : Host.Outcome State Fault Refusal :=
  .next (s.negotiated fun t =>
    t.reply (if t.cob.chain = [] then .digests 0 [] else .digests 1 (sha384 t.cob.chain)))

/-- A request that names certificate slot 0 with a chain in it. -/
def State.withChain (slot : Byte) (f : State → State) (s : State) : State :=
  s.negotiated fun t => if slot = 0 ∧ t.cob.chain ≠ [] then f t else t.reply spdmInvalid

/-- GET_CERTIFICATE. -/
def execGetCertificate (slot : Byte) (offset len : Half) (s : State) : Host.Outcome State Fault Refusal :=
  .next (s.withChain slot fun t =>
    if offset.toNat < t.cob.chain.length then t.reply (.certificate ((t.cob.chain.drop offset.toNat).take len.toNat))
    else t.reply spdmInvalid)

/-- Answer with a signature under the ECDSA P-384 attestation key, in slot 4, over the transcript of an exchange of a kind, which the spec
leaves to DSP0274 (log entry 115); the Cobbler makes it on the lowest idle engine (10 R318); while none is idle or its instance does not
serve, the answer is the error Busy (DESIGN CHOICE, log entry 115). -/
def State.attest (kind : Nat) (parts : List (List Byte)) (k : List Byte → List Byte → State → State) (s : State) : State :=
  let data := Config.spdmTranscript kind parts
  match (List.range 4).find? fun n => s.engineIdle n && !pkeWaits s n 0x11 true with
  | some n =>
    let t := s.fwEngine n 4 { op := 0x11, set := 1, key := s.keys.handleOf 4, input := p384.eBytes (sha384 data) }
    k data (t.fwOutput n) t
  | none => s.reply (.error 0x03)

/-- CHALLENGE. -/
def execChallenge (slot : Byte) (nonce : BitVec 256) (s : State) : Host.Outcome State Fault Refusal :=
  .next (s.withChain slot fun t =>
    t.attest 0 [leBytes 32 nonce.toNat, t.cob.chain] fun msg sig u => u.reply (.signed msg sig))

/-- Output bytes of a measurement register. -/
def MeasReg.bytes (m : MeasReg) : List Byte := m.value.take (digOut m.alg)

/-- GET_MEASUREMENTS: indices 1-32 are MEAS_00-MEAS_31, 0xFF all of them, 0 their number. -/
def execGetMeasurements (index : Byte) (signed : Bool) (nonce : BitVec 256) (s : State) : Host.Outcome State Fault Refusal :=
  .next (s.negotiated fun t =>
    let one (n : Nat) : Nat × List Byte := (n + 1, (Bank.get {} t.dig.meas n).bytes)
    let blocks : Option (List (Nat × List Byte)) :=
      if index = 0 then some []
      else if index = 0xFF then some ((List.range 32).map one)
      else if index.toNat ≤ 32 then some [one (index.toNat - 1)]
      else none
    match blocks with
    | none => t.reply spdmInvalid
    | some b =>
      if signed then t.attest 1 (leBytes 32 nonce.toNat :: b.map Prod.snd) fun _ sig u => u.reply (.measurements b sig)
      else t.reply (.measurements b []))

/-- KEY_EXCHANGE: a session opens when none stands. -/
def execKeyExchange (slot : Byte) (random : BitVec 256) (doe : Bool) (s : State) : Host.Outcome State Fault Refusal :=
  .next (s.withChain slot fun t =>
    if t.cob.spdm.session.isSome then t.reply (.error 0x0A)
    else
      t.attest 2 [leBytes 32 random.toNat, t.cob.chain] fun msg sig u => (u.updSpdm fun x => { x with session := some { doe := doe } }).reply (.signed msg sig))

/-- FINISH. -/
def execFinish (hmacOk : Bool) (s : State) : Host.Outcome State Fault Refusal :=
  .next (s.onCob fun t =>
    match t.cob.spdm.session with
    | some x =>
      if x.finished then t.reply spdmUnexpected
      else if hmacOk then (t.updSpdm fun y => { y with session := some { x with finished := true } }).reply .ok
      else (t.updSpdm fun y => { y with session := none }).reply spdmDecrypt
    | none => t.reply spdmUnexpected)

/-- END_SESSION. -/
def execEndSession (s : State) : Host.Outcome State Fault Refusal :=
  .next (s.onCob fun t =>
    if t.cob.spdm.session.isSome then (t.updSpdm fun y => { y with session := none }).reply .ok else t.reply spdmUnexpected)

/-- A finished SPDM session stands (03 R83: over DOE). -/
def State.spdmOpen (s : State) : Bool := (s.cob.spdm.session.map SpdmSession.finished).getD false

/-- VENDOR_RAW_SAMPLES (R493; 12 R379): in audit mode, under an SPDM session only. -/
def execVendorRawSamples (words : Nat) (s : State) : Host.Outcome State Fault Refusal :=
  .next (s.onCob fun t =>
    if t.rng.audit && t.spdmOpen then
      (t.withRng fun r => { r with raw := r.raw.drop words }).reply (.samples (t.rng.raw.take words))
    else t.reply spdmUnexpected)

end Sys2Proof.Machine
end

