-- ==== Sys2Proof/Machine/CmdOps.lean ====
section
/-! DEFINITION. What every Cetrix command shares (04): the notice, the checks of R114, sessions, the quorum ticket, the
response and its notice, and the ways a command waits. -/

namespace Sys2Proof.Machine

/-- How a command comes to be run: as its notice is taken, from the queue of its session or slot, or after a wait. -/
inductive Mode where
  | new | queued | resumed
  deriving DecidableEq, Repr

/-- Who may send a command (R128): anyone, an ADMIN session, or a TENANT session or ADMIN. -/
inductive Who where
  | any | admin | tenant
  deriving DecidableEq, Repr

/-- A command as the checks of R114 see it: its opcode and catalogue entry, the padded length of its body, its field checks
in order (status and detail), the body bytes its response needs where that is known, the slots it names, and the quorum
it carries: the identifier and the digest of the body after it (R151). -/
structure Call where
  hdr : CmdHdr
  instr : Instr
  opc : Half
  who : Who := .any
  /-- Permitted in START and TEST, in SERVICE, in RECOVERY. -/
  inStart : Bool := true
  inService : Bool := true
  inRecovery : Bool := true
  bodyLen : Nat := 0
  checks : List (Bool × Half × Word) := []
  need : Nat := 0
  slots : List Nat := []
  quorum : Option (Word × BitVec 384) := none

/-! ### Details of field errors (R127) -/

/-- INPUT_INVALID at a byte offset of the block. -/
def invalidAt (off : Nat) : Half × Word := (Status.inputInvalid, BitVec.ofNat 32 (0x00010000 + off))
def formatAt (off : Nat) : Half × Word := (Status.badFormat, BitVec.ofNat 32 off)
def rangeAt (off : Nat) : Half × Word := (Status.lengthRange, BitVec.ofNat 32 off)
def alignAt (off : Nat) : Half × Word := (Status.align, BitVec.ofNat 32 off)

/-- The detail word that a key-store refusal gives a command: the offset of the field in a blob or a template that stands at `base`
(R127, 05 R161). -/
def keyDetail (base : Nat) (e : KeyErr) : Half × Word :=
  if e.status = Status.inputInvalid ∧ e.detail = 0 then invalidAt (base + e.field)
  else if e.status = Status.badFormat then formatAt (base + e.field)
  else if e.status = Status.lengthRange then rangeAt (base + e.field)
  else (e.status, e.detail)

/-! ### Sessions (R120-R123) -/

/-- A session by its number (R121). -/
def Fw.session (f : Fw) (num : Word) : Option Session :=
  match Bank.get none f.sessions (num.toNat % 4096) with
  | some x => if x.check.toNat = num.toNat / 4096 then some x else none
  | none => none

/-- The number of the session at an index. -/
def sessionNo (i : Nat) (x : Session) : Word := BitVec.ofNat 32 (i + x.check.toNat * 4096)

/-- The session of a command. -/
def Call.session (c : Call) (s : State) : Option Session := s.fw.session c.hdr.session

/-- The owner that a command's session compares with a slot's: none for ADMIN (R168, R128). -/
def Call.owner (c : Call) (s : State) : Option Half :=
  match c.session s with
  | some x => if x.admin then none else some (x.tenant.setWidth 16)
  | none => none

/-! ### Responses and notices (R107-R112) -/

/-- Bytes padded with zeros to a multiple of 8 (R106). -/
def pad8 (l : List Byte) : List Byte := padTo (ceilTo 8 l.length) l

/-- The 28 bytes of the response header before DONE (R107). -/
def respHead (h : CmdHdr) (opc st : Half) (detail session : Word) (len : Nat) : List Byte :=
  leBytes 4 h.tag.toNat ++ leBytes 2 st.toNat ++ leBytes 2 opc.toNat ++ leBytes 4 len ++ leBytes 4 detail.toNat
    ++ leBytes 4 session.toNat ++ leBytes 4 h.elapsed.toNat ++ [0, 0, 0, 0]

/-- A notice for function `f` takes its place in firmware's queue (R112). -/
def State.notice (f : Nat) (n : Long) (s : State) : State :=
  if s.fw.mute then s else s.withFw fun x => { x with notices := Bank.upd [] f (· ++ [n]) x.notices }

/-- Write a response, body first and DONE last, and queue its notice unless NOEVT is set (R107, R108, R110); a command of a
function that has been reset answers nothing (03 R80). -/
def State.respondAs (h : CmdHdr) (opc st : Half) (detail session : Word) (body : List Byte) (s : State) : State :=
  if s.fw.mute then s else
  let b := pad8 body
  let s1 := (s.hostWrite (h.respAddr + 32) b).hostWrite h.respAddr (respHead h opc st detail session (32 + b.length))
  let s2 := s1.hostWrite (h.respAddr + 28) (leBytes 4 (~~~h.tag).toNat)
  if h.flags.getLsbD 1 then s2 else s2.notice h.fn.val h.respAddr

/-- The response of a call. -/
def Call.respond (c : Call) (st : Half) (detail : Word) (body : List Byte) (s : State) : State :=
  s.respondAs c.hdr c.opc st detail c.hdr.session body

def Call.ok (c : Call) (body : List Byte) (s : State) : State := c.respond Status.ok 0 body s
def Call.fail (c : Call) (e : Half × Word) (s : State) : State := c.respond e.1 e.2 [] s

/-- A refusal notice (R110, R111). -/
def State.refusal (h : CmdHdr) (code : Nat) (s : State) : State :=
  s.notice h.fn.val ((h.addr &&& ~~~(63 : Long)) ||| BitVec.ofNat 64 code)

/-! ### The checks of R114 -/

/-- The two-bit code of the phase (R127), with bit 8 once SHELF_DOWN has been accepted (02 R67). -/
def phaseDetail (s : State) : Word :=
  BitVec.ofNat 32 ((match s.boot.phase with | .start => 0 | .recovery => 1 | .service => 2 | .test => 3)
    + 256 * bit s.boot.shelfDown)

/-- Checks 1 to 6: the refusal code of a command whose response cannot be written. -/
def refusalCode (s : State) (h : CmdHdr) : Option Nat :=
  firstFail [
    (!decide (h.addr.toNat % 64 = 0), 0x01),
    (!s.rings.inWindow h.fn.val h.addr 64, 0x02),
    (!h.headerRead, 0x03),
    (!decide (h.magic = 0x5843 ∧ h.major = 1), 0x04),
    (!decide (h.respAddr.toNat % 32 = 0 ∧ 32 ≤ h.respCap.toNat ∧ h.respCap.toNat ≤ 1048576), 0x05),
    (!s.rings.inWindow h.fn.val h.respAddr h.respCap.toNat, 0x02)]

/-- Checks 7 to 9. -/
def headErr (s : State) (h : CmdHdr) : Option (Half × Word) :=
  firstFail [
    (!decide (64 ≤ h.reqLen.toNat ∧ h.reqLen.toNat ≤ 1048576 ∧ h.reqLen.toNat % 8 = 0), rangeAt 12),
    (!s.rings.inWindow h.fn.val h.addr h.reqLen.toNat, (Status.window, 0x8000000C)),
    (!decide (h.minor.toNat ≤ 4), formatAt 3),
    (!decide (h.flags.toNat < 4), formatAt 6),
    (!h.reservedZero, formatAt 36)]

/-- Check 11. -/
def Call.phaseOk (c : Call) (s : State) : Bool :=
  !s.boot.shelfDown &&
    (match s.boot.phase with
    | .start | .test => c.inStart
    | .service => c.inService
    | .recovery => c.inRecovery)

/-- Checks 12 and 13. -/
def Call.roleErr (c : Call) (s : State) : Option (Half × Word) :=
  let x := c.session s
  firstFail [
    (!decide (c.hdr.session = 0) && !(x.map Session.fn).any (fun f => decide (f.toNat = c.hdr.fn.val)), formatAt 28),
    (!decide (c.who = .any) && decide (c.hdr.session = 0), (Status.badOpcode, 2)),
    (decide (c.who = .admin) && !(x.map Session.admin).getD false, (Status.badOpcode, 1))]

/-- The read of the body ended early (R114 check 15). -/
def Call.bodyShort (c : Call) : Bool := decide (c.hdr.bodyRead < c.hdr.reqLen.toNat - 64)

/-- Checks 15 to 18.  The bytes received count the header (DESIGN CHOICE, log entry 102); the zero bytes after a variable-length field
are not tested (DESIGN CHOICE, log entry 101). -/
def Call.bodyErr (c : Call) : Option (Half × Word) :=
  let h := c.hdr
  firstFail ([
    (c.bodyShort, (Status.lengthShort, BitVec.ofNat 32 (64 + h.bodyRead))),
    (!decide (h.reqLen.toNat = 64 + c.bodyLen), formatAt 12)]
    ++ c.checks.map (fun p => (p.1, (p.2.1, p.2.2)))
    ++ [(decide (h.respCap.toNat < 32 + ceilTo 8 c.need), (Status.window, BitVec.ofNat 32 (32 + ceilTo 8 c.need)))])

/-- The places of function `f` that are taken (R112): notices held and commands that wait. -/
def Fw.places (x : Fw) (f : Nat) : Nat :=
  (Bank.get [] x.notices f).length + (x.waiting.filter fun w => decide (w.hdr.fn.val = f)).length

/-! ### Quorum tickets (R155) -/

/-- The detail of QUORUM: operators counted and M (R127). -/
def Fw.quorumDetail (x : Fw) : Word :=
  match x.quorum with
  | some q => BitVec.ofNat 32 (q.operators.length + 256 * q.m)
  | none => 0

/-- The ticket admits a command of opcode `opc` with quorum identifier `qid` and body digest `d`. -/
def Fw.ticketOk (x : Fw) (opc : Half) (qid : Word) (d : BitVec 384) : Bool :=
  match x.quorum with
  | some q => q.ticket && decide (q.qid = qid ∧ q.purpose = opc ∧ q.digest = d)
  | none => false

/-- The digest of a body (R151). -/
def purposeDigest (body : List Byte) : BitVec 384 := BitVec.ofNat 384 (ofLe (sha384 body))

/-! ### Waiting (R119) -/

/-- A command of the same non-zero session, or one that names the same slot, waits. -/
def Call.blocked (c : Call) (s : State) : Bool :=
  s.fw.waiting.any fun w =>
    (!decide (c.hdr.session = 0) && decide (w.hdr.session = c.hdr.session)) || w.slots.any (fun n => c.slots.contains n)

/-- The command waits. -/
def Call.wait (c : Call) (why : WaitWhy) (data : List Byte) (s : State) : State :=
  s.withFw fun x => { x with
    waiting := x.waiting ++ [{ cmd := c.instr, opc := c.opc, hdr := c.hdr, slots := c.slots, why := why, silent := x.mute
                               data := data, ticketed := x.ticketed }] }

/-- A read of a command block that ends early is recorded in AER (03 R75). -/
def State.earlyRead (early : Bool) (e : EarlyEnd) (s : State) : State :=
  if early then s.withPcie (Pcie.early e) else s

/-- The checks from 15 on, the quorum, and the command's own effect. -/
def Call.start (c : Call) (run : Call → State → State) (s : State) : State :=
  match c.bodyErr with
  | some e => c.fail e (s.earlyRead c.bodyShort c.hdr.early)
  | none =>
    match c.quorum with
    | none => run c s
    | some (qid, d) =>
      if s.fw.ticketOk c.opc qid d then run c (s.withFw fun x => { x with quorum := none })
      else c.fail (Status.quorum, s.fw.quorumDetail) s

/-- The quorum check of a command that has another check before it (16 R479): the ticket is consumed once, and a command that waits
afterwards keeps that (R155). -/
def Call.withTicket (c : Call) (qid : Word) (d : BitVec 384) (k : State → State) (s : State) : State :=
  if s.fw.ticketed then k s
  else if s.fw.ticketOk c.opc qid d then
    (k (s.withFw fun x => { x with quorum := none, ticketed := true })).withFw fun x => { x with ticketed := false }
  else c.fail (Status.quorum, s.fw.quorumDetail) s

/-- Firmware takes a notice of function `f` (R112; 17 R495). -/
def State.takes (s : State) (f : Nat) : Bool :=
  decide (s.boot.state = .running) && decide (s.fw.places f < 32) && s.cob.staged.isNone

/-- Run a command from its notice, from the queue, or after its wait (R112, R114, R119).  A notice is taken while firmware
runs, the function has a place free, and no update waits for its quiet point (17 R495). -/
def Call.run (c : Call) (mode : Mode) (run : Call → State → State) (s : State) : State :=
  match mode with
  | .resumed => run c s
  | .queued =>
    (match c.roleErr s with
    | some e => c.fail e s
    | none => c.start run s)
  | .new =>
    if !s.takes c.hdr.fn.val then s
    else match refusalCode s c.hdr with
      | some code =>
        (s.earlyRead (decide (code = 0x03)) c.hdr.early).refusal c.hdr code
      | none =>
        match headErr s c.hdr with
        | some e => c.fail e s
        | none =>
          if !c.phaseOk s then c.fail (Status.phase, phaseDetail s) s
          else match c.roleErr s with
            | some e => c.fail e s
            | none =>
              if 1024 ≤ s.fw.waiting.length then c.fail (Status.busy, 1) s
              else if c.blocked s then c.wait .order [] s
              else c.start run s

/-! ### Random draws of commands (12 R371-R377) -/

/-- The core that runs the commands of a function: the one its CMD mailbox is routed to (03 R99). -/
def Call.core (c : Call) (s : State) : Nat := (s.mbx.route c.hdr.fn.val).core.toNat

/-- Go on once instance `inst` serves, after a reseed when `fresh`; the command waits while it does not, or gives NOT_READY under
NOWAIT (R103, R373, R376). -/
def Call.withGrant (c : Call) (inst : Nat) (fresh : Bool) (k : State → State) (s : State) : State :=
  let claim := RngClaim.cmd c.hdr.fn.val c.hdr.tag
  let mine := s.rng.freshQueue.isEmpty || decide (s.rng.freshQueue.head? = some claim)
  if !fresh && s.rng.serves inst then k s
  else if fresh && s.rng.freshServes inst && decide (s.rng.buffer ≠ []) && mine then
    k (s.withRng fun r => { r with freshQueue := r.freshQueue.filter fun q => decide (q ≠ claim) })
  else if c.hdr.flags.getLsbD 0 then c.fail (Status.notReady, 1) s
  else c.wait (.rng inst fresh) [] (s.withRng fun r =>
    { r with freshQueue := if fresh && !r.freshQueue.contains claim then r.freshQueue ++ [claim] else r.freshQueue })

/-- Draw `n` bytes from instance `inst` (R373). -/
def Call.withRandom (c : Call) (inst : Nat) (fresh : Bool) (n : Nat) (k : List Byte → State → State) (s : State) : State :=
  c.withGrant inst fresh (State.instDraw inst fresh n k) s

/-! ### The cipher cluster for commands (07 R250-R253, R257) -/

/-- Every core that could take a cut waits for the RNG (R253): it is not ready, in audit mode, or the masking generators of all of them
have stopped. -/
def State.clusterStarved (s : State) : Bool :=
  let usable := (List.range 16).filter fun c => s.cipherOn.getLsbD c && !(Bank.get {} s.cipher.cores c).quar
  !s.rng.ready || s.rng.audit || (!usable.isEmpty && usable.all fun c => !s.rng.genRuns c)

/-- A job of this command waits for a core: under NOWAIT a wait for the RNG gives NOT_READY with bit 0 (R103). -/
def Call.waitCluster (c : Call) (s : State) : State :=
  if c.hdr.flags.getLsbD 0 && s.clusterStarved then c.fail (Status.notReady, 1) s else c.wait .cipher [] s

/-- Run AES work on the lowest core that takes a cut (R257): NOT_READY with bit 2 while no core is enabled (06 R205); a wait while no
enabled core takes cuts.  Afterwards the core is dealt its next cut. -/
def Call.withCluster (c : Call) (k : Nat → State → State) (s : State) : State :=
  if s.cipherOn = 0 then c.fail (Status.notReady, 4) s
  else match s.fwCore with
    | some n => (k n s).dealAll
    | none => c.waitCluster s

/-- Check 18 for a size that is known only once the operands have been looked up. -/
def Call.tooBig (c : Call) (n : Nat) : Option (Half × Word) :=
  if c.hdr.respCap.toNat < 32 + ceilTo 8 n then some (Status.window, BitVec.ofNat 32 (32 + ceilTo 8 n)) else none

/-- The answer OK with a body whose size was not known before, or WINDOW. -/
def Call.okSized (c : Call) (body : List Byte) (s : State) : State :=
  match c.tooBig body.length with
  | some e => c.fail e s
  | none => c.ok body s

/-- A refused handle (05 R168). -/
def Call.refuse (c : Call) (e : KeyErr) (s : State) : State := c.fail (e.status, e.detail) s

/-! ### Card ports and slots for commands (15 R438, R450-R453) -/

/-- CARD_ABSENT and CARD_REMOVED name a kind and an index (R127). -/
def cardWord (kind index : Nat) : Word := BitVec.ofNat 32 (16 * kind + index)

/-- Wait for a port or slot in use, or NOT_READY under NOWAIT (15 R450). -/
def Call.cardWait (c : Call) (kind index : Nat) (s : State) : State :=
  if c.hdr.flags.getLsbD 0 then c.fail (Status.notReady, 8) s else c.wait (.card kind index) [] s

/-- The port or slot is in use: a command or an activation runs. -/
def State.cardBusy (s : State) (kind index : Nat) : Bool :=
  if kind = 0 then
    let x := s.sdPort index
    x.run.isSome || decide (x.state = .settle ∨ x.state = .init ∨ x.state = .busy ∨ x.state = .xfer)
  else
    let x := s.iccSlot index
    x.run.isSome || decide (x.state = .activating)

/-- The state of an SD port for a card command: the refusal, if any. -/
def sdErr (s : State) (p : Nat) : Option (Half × Word) :=
  let x := s.sdPort p
  firstFail [
    (!s.unitOn (27 + p), (Status.notReady, 4)),
    (decide (x.state = .disabled ∨ x.state = .empty ∨ x.state = .failed ∨ x.state = .removing), (Status.cardAbsent, cardWord 0 p))]

/-- The card has been removed (15 R445). -/
def State.sdGone (p : Nat) (s : State) : State :=
  s.updSd p fun x => { x.dark with det := false, irqPend := true }

/-- Run on an SD port (15 R438, R450): a refusal, a wait while it is in use, or `k`. -/
def Call.withSd (c : Call) (p : Nat) (k : State → State) (s : State) : State :=
  match sdErr s p with
  | some e => c.fail e s
  | none => if s.cardBusy 0 p then c.cardWait 0 p s else k s

/-- Run on a contact slot (15 R450, R452): firmware activates it at the first command that needs the card, and waits. -/
def Call.withIcc (c : Call) (n : Nat) (k : State → State) (s : State) : State :=
  let x := s.iccSlot n
  if !s.unitOn (31 + n) then c.fail (Status.notReady, 4) s
  else if s.cardBusy 1 n then c.cardWait 1 n s
  else if x.state = .present then
    c.cardWait 1 n (if c.hdr.flags.getLsbD 0 then s else nextOr s (execIccActivate ⟨n % 2, Nat.mod_lt _ (by decide)⟩ .machine s))
  else if x.state ≠ .active ∧ x.state ≠ .clockStopped then c.fail (Status.cardAbsent, cardWord 1 n) s
  else k s

/-- Firmware moves blocks between its buffer and the card through the registers of port `p`, by the card DMA, and goes on; while the DMA's
MPU refuses a beat the operation waits (19 R551). -/
def Call.sdMove (c : Call) (p : Nat) (write : Bool) (lba : Nat) (bs : List Byte) (k : State → State) (s : State) : State :=
  let t := (s.sdFresh p).updSd p fun x =>
    { x with lba := BitVec.ofNat 32 lba, count := BitVec.ofNat 16 (bs.length / 512), addr := BitVec.ofNat 32 fwIn }
  match t.dmaRefused 11 (!write) fwIn bs.length with
  | some (acc, r) => c.wait (.card 0 p) [] ((t.updSd p (SdPort.start write .machine)).dmaFault 11 acc r)
  | none => k ((t.sramWrite fwIn bs).updSd p fun x => { x with status := Status.ok, done := true, xfer := BitVec.ofNat 32 bs.length })

/-- Firmware exchanges an APDU through the registers of slot `n` (15 R458): the command and the response stand in its buffers, which the
card DMA reads and writes; while its MPU refuses a beat the operation waits. -/
def Call.iccMove (c : Call) (n : Nat) (apdu response : List Byte) (k : State → State) (s : State) : State :=
  let t := (s.sramWrite fwIn apdu).updIcc n fun x =>
    { x with txAddr := BitVec.ofNat 32 fwIn, txLen := BitVec.ofNat 32 apdu.length, rxAddr := BitVec.ofNat 32 fwOut, rxCap := 65538 }
  match t.dmaRefused 11 false fwIn apdu.length, t.dmaRefused 11 true fwOut response.length with
  | none, none => k ((t.sramWrite fwOut response).updIcc n fun x =>
      { x with state := .active, clkHigh := false, status := Status.ok, done := true, rxLen := BitVec.ofNat 32 response.length })
  | some (acc, r), _ => c.wait (.card 1 n) [] ((t.updIcc n fun x => { x with run := some true, done := false }).dmaFault 11 acc r)
  | none, some (acc, r) => c.wait (.card 1 n) [] ((t.updIcc n fun x => { x with run := some true, done := false }).dmaFault 11 acc r)

/-- The card of a slot has been removed (15 R453). -/
def State.iccGone (n : Nat) (s : State) : State :=
  s.updIcc n fun y => { y.deactivate .empty Status.cardRemoved with pres := false, irqPend := true }

/-! ### Answers that wait for the partner (16 R465, R466) -/

/-- Answer OK, after the acknowledgement of a mirror record while the pair mirrors. -/
def Call.okMirrored (c : Call) (r : MirrorRec) (body : List Byte) (s : State) : State :=
  if s.welt.mirroring then c.wait (.ack s.welt.mirrorSeq) body (s.sendRecord r) else c.ok body s

/-! ### New-key results (R128, R131) -/

/-- handle, reserved, key identifier, blob length, blob. -/
def newKeyResult (k : Keys) (n : Nat) : List Byte :=
  match k.present n with
  | some r =>
    let b := k.dkBlob r
    leBytes 4 (k.handleOf n).toNat ++ [0, 0, 0, 0] ++ leBytes 8 r.keyId.toNat ++ leBytes 4 b.length ++ b
  | none => []

/-- Bytes of the new-key result of a template: a blob's 24 header bytes, the wrapped length of 16 + 32 + material, and 20
bytes before it. -/
def newKeyLen (a : Attr) : Nat := 20 + 24 + ceilTo 8 (48 + matLenOf a) + 8

/-- Answer for the key now in head slot `n`, whose load is mirrored (16 R464). -/
def Call.keyMade (c : Call) (n : Nat) (body : List Byte) (s : State) : State :=
  match s.keys.present n with
  | some r => c.okMirrored (s.keys.loadRec n r) body s
  | none => c.ok body s

/-! ### Public-key engines for commands (10 R325, 04 R103) -/

/-- The lowest idle engine (log entry 35); in audit mode the engines hold their work (10 R324). -/
def State.engineFree (s : State) : Option Nat := if s.rng.audit then none else (List.range 4).find? s.engineIdle

/-- Some engine is enabled (10 R333, 17 R487). -/
def State.engineOn (s : State) : Bool := (List.range 4).any fun n => s.unitOn (16 + n)

/-- Run on an idle engine: NOT_READY with bit 2 while no engine is enabled; while all are busy or quarantined the command waits,
or gives NOT_READY with bit 3 under NOWAIT, and bit 0 in audit mode (R103). -/
def Call.withEngine (c : Call) (k : Nat → State → State) (s : State) : State :=
  match s.engineFree with
  | some n => k n s
  | none =>
    if !s.engineOn then c.fail (Status.notReady, 4) s
    else if c.hdr.flags.getLsbD 0 then c.fail (Status.notReady, if s.rng.audit then 1 else 8) s
    else c.wait .engine [] s

/-- Run on an idle engine whose instance serves operation `op` (10 R322, R324); a key generation takes the next class K block. -/
def Call.engineGrant (c : Call) (op : Byte) (k : Nat → State → State) (s : State) : State :=
  c.withEngine (fun n t =>
    if pkeVerify op.toNat then k n t
    else c.withGrant (5 + n) (pkeKeygen op.toNat) (fun u => k n (if pkeKeygen op.toNat then u.withRng fun r =>
      { r with freshQueue := .pke n :: r.freshQueue.filter fun q => decide (q ≠ .pke n) } else u)) t) s

/-- Run an operation on an idle engine, and go on with its number (01 R19; 10 R315-R331). -/
def Call.engineOp (c : Call) (q : FwOp) (k : Nat → State → State) (s : State) : State :=
  c.engineGrant q.op (fun n t => k n (t.fwEngine n (c.core t) q)) s

/-- The engine's refusal as the answer (10 R327, R328): a failed check of a value, or the failed verification. -/
def Call.engineFail (c : Call) (n : Nat) (s : State) : State := c.fail ((s.engine n).result, (s.engine n).detail) s

/-- The key that the engine delivered through the core's key-store channel (10 R320), mirrored and answered after `pre`. -/
def Call.engineKey (c : Call) (tmplOff : Nat) (pre : List Byte) (n : Nat) (s : State) : State :=
  let x := s.keys.chan (c.core s)
  if (s.engine n).result ≠ Status.ok then c.engineFail n s
  else if x.status ≠ Status.ok then c.fail (keyDetail tmplOff { status := x.status, field := x.field.toNat }) s
  else
    let slot := handleSlot x.handleOut
    c.keyMade slot (pre ++ newKeyResult s.keys slot) s

/-- The operation that verifies a signature under an inline public key: ECDSA P-384 over the message's SHA-384 (02 R53), or ML-DSA-65. -/
def verifyOp (mldsa : Bool) (pub msg sig : List Byte) : FwOp :=
  if mldsa then { op := 0x3A, set := 1, inline := true, input := padTo 1952 pub ++ padTo 3309 sig ++ msg }
  else { op := 0x12, set := 1, inline := true, input := padTo 96 pub ++ p384.eBytes (sha384 msg) ++ padTo 96 sig }

/-- Verify a signature on an engine, and go on with the verdict. -/
def Call.verified (c : Call) (mldsa : Bool) (pub msg sig : List Byte) (k : Bool → State → State) (s : State) : State :=
  c.engineOp (verifyOp mldsa pub msg sig) (fun n t => k (decide ((t.engine n).result = Status.ok)) t) s

/-- A signature over `data` by the device attestation key: ECDSA P-384 in slots 4-6, or ML-DSA-65 in slot 7 (05 R156). -/
def Call.attested (c : Call) (mldsa : Bool) (data : List Byte) (k : List Byte → State → State) (s : State) : State :=
  c.engineOp
    (if mldsa then { op := 0x39, set := 1, key := s.keys.handleOf 7, input := data }
     else { op := 0x11, set := 1, key := s.keys.handleOf 4, input := p384.eBytes (sha384 data) })
    (fun n t => if (t.engine n).result = Status.ok then k (t.fwOutput n) t else c.engineFail n t) s

/-- Create a key from a template and material, mirror its load, and answer the new-key result after `pre` (R131; 05 R169;
16 R464). -/
def Call.createKey (c : Call) (tmplOff : Nat) (t : Attr) (material : List Byte) (pre : List Byte) (s : State) : State :=
  match s.keys.create s.createEnv t material none with
  | .error e => c.fail (keyDetail tmplOff e) s
  | .ok (n, k) => c.keyMade n (pre ++ newKeyResult k n) (s.withKeys fun _ => k)

/-- What a creation needs, before any draw or derivation (R169, R161-R165): none when it may go on. -/
def createErr (s : State) (tmplOff : Nat) (t : Attr) : Option (Half × Word) :=
  match s.keys.createErr s.createEnv with
  | some e => some (keyDetail tmplOff e)
  | none =>
    match s.keys.templateSlot t none with
    | .error e => some (keyDetail tmplOff e)
    | .ok _ => none

/-- The template check of check 17 (R114). -/
def templateCheck (off : Nat) (t : Attr) : Bool × Half × Word :=
  match attrBadField t false with
  | some f => (true, invalidAt (off + f))
  | none => (false, 0, 0)

/-- A template of a tenant session names that tenant (R128, R168). -/
def ownerMatches (c : Call) (s : State) (t : Attr) : Bool := (c.owner s).all fun o => decide (o = t.owner)

end Sys2Proof.Machine
end

