-- ==== Sys2Proof/Machine/Sessions.lean ====
section
/-! DEFINITION. Sessions and the quorum (04 R120-R126, R149-R155): commands 0x01. -/

namespace Sys2Proof.Machine

/-! ### Sessions -/

/-- Sessions open, by index. -/
def Fw.open (f : Fw) : List (Nat × Session) := f.sessions.filterMap fun p => p.2.map fun x => (p.1, x)

/-- The lowest free session index (R121; log entry 36). -/
def Fw.freeSession (f : Fw) : Nat :=
  ((List.range 4096).find? fun i => (Bank.get none f.sessions i).isNone).getD 0

/-- End the session at an index, and the quorum it began (R123). -/
def Fw.endSession (i : Nat) (f : Fw) : Fw :=
  match Bank.get none f.sessions i with
  | none => f
  | some x =>
    { f with
      sessions := Bank.set none i none f.sessions
      quorum := match f.quorum with
        | some q => if q.session = sessionNo i x then none else some q
        | none => none }

/-- The session key of a tenant: the key with SESSION usage that it owns, loaded as a blob (R125). -/
def Keys.sessionKey (k : Keys) (tenant : Half) : Option KeyRun :=
  k.runs.findSome? fun p => p.2.bind fun r =>
    if !r.marked && decide (r.attr.owner = tenant) && r.attr.usage.getLsbD uSESSION && r.loaded then some r else none

/-- The length of a statement signature by the key's type (R124). -/
def sessionSigLen (r : KeyRun) : Nat := if r.attr.type = 0x19 then 96 else 3309

/-- The 32-byte statement of a tenant (R124). -/
def State.statement (s : State) (fn : Nat) (tenant : Half) (seq : Word) : List Byte :=
  ascii "CXSO" ++ leBytes 2 s.devNo.toNat ++ [BitVec.ofNat 8 fn, 2] ++ leBytes 2 tenant.toNat ++ [0, 0] ++ leBytes 4 s.boot.epoch.toNat
    ++ leBytes 4 seq.toNat ++ List.replicate 12 0

/-- The header, checks and slots of SESSION_OPEN. -/
def callSessionOpen (h : CmdHdr) (role rsv : Byte) (tenant : Half) (seq sigLen : Word) (sig : List Byte) (s : State) : Call :=
  let key := s.keys.sessionKey tenant
  let admin := decide (role = 1)
  { hdr := h, instr := .sessionOpen h role rsv tenant seq sigLen sig, opc := 0x0101, need := 8
    bodyLen := ceilTo 8 (12 + sigLen.toNat)
    checks := [
      (!decide (role = 1 ∨ role = 2) || (admin && !decide (h.fn.val = 0)), invalidAt 64),
      (!decide (rsv = 0), formatAt 65),
      (!admin && !decide (tenant.toNat ≤ 1023), invalidAt 66),
      (!admin && key.any (fun r => !decide (sigLen.toNat = sessionSigLen r)), rangeAt 72)] }

/-- SESSION_OPEN (R120-R126).  A session of index 0 whose check value is 0 would have number 0, and is issued like any other (DESIGN
CHOICE, log entry 105). -/
def bodySessionOpen (h : CmdHdr) (role : Byte) (tenant : Half) (seq : Word) (sig : List Byte) (c : Call) (t : State) : State :=
  let key := t.keys.sessionKey tenant
  let admin := decide (role = 1)
  let old := decide (seq.toNat < Bank.get 0 t.fw.tenantSeq tenant.toNat)
  let opened := t.fw.open
  let own := opened.filter fun p => decide (p.2.fn.toNat = h.fn.val)
  if !admin && !t.insole.trusted then c.fail (Status.epochUnset, 0) t
  else if !admin && key.isNone then c.fail (Status.verifyFail, 0) t
  else
    let checked (k : Bool → State → State) (t : State) : State := match (if admin then none else key) with
      | some r => c.verified (decide (r.attr.type ≠ 0x19)) r.material (t.statement h.fn.val tenant seq) sig k t
      | none => k true t
    checked (fun sigOk t =>
    if !admin && (!sigOk || old) then c.fail (Status.verifyFail, 0) t
    else if 4096 ≤ opened.length ∨ 64 ≤ own.length then c.fail (Status.busy, 2) t
    else c.withRandom (c.core t) false 4 (fun b u =>
      let x : Session := { fn := BitVec.ofNat 6 h.fn.val, admin := admin, tenant := if admin then 0 else tenant.setWidth 10,
                           check := BitVec.ofNat 20 (ofLe b) }
      let i := u.fw.freeSession
      (u.withFw fun f => { f with
        sessions := Bank.set none i (some x) f.sessions
        tenantSeq := if admin then f.tenantSeq else Bank.set 0 tenant.toNat (seq.toNat + 1) f.tenantSeq }).respondAs h
        0x0101 Status.ok 0 (sessionNo i x) (leBytes 4 u.boot.epoch.toNat ++ [0, 0, 0, 0])) t) t

/-- SESSION_OPEN, run in a mode. -/
def cmdSessionOpen (mode : Mode) (h : CmdHdr) (role rsv : Byte) (tenant : Half) (seq sigLen : Word) (sig : List Byte)
    (s : State) : State :=
  (callSessionOpen h role rsv tenant seq sigLen sig s).run mode (bodySessionOpen h role tenant seq sig) s

/-- SESSION_OPEN (R120). -/
def execSessionOpen (h : CmdHdr) (role rsv : Byte) (tenant : Half) (seq sigLen : Word) (sig : List Byte) (s : State) :
    Host.Outcome State Fault Refusal :=
  .next (cmdSessionOpen .new h role rsv tenant seq sigLen sig s)

/-- The header, checks and slots of SESSION_CLOSE. -/
def callSessionClose (h : CmdHdr) : Call :=
  { hdr := h, instr := .sessionClose h, opc := 0x0102, who := .tenant }

/-- SESSION_CLOSE (R123). -/
def bodySessionClose (h : CmdHdr) (c : Call) (t : State) : State :=
  c.ok [] (t.withFw (Fw.endSession (h.session.toNat % 4096)))

/-- SESSION_CLOSE, run in a mode. -/
def cmdSessionClose (mode : Mode) (h : CmdHdr) (s : State) : State :=
  (callSessionClose h).run mode (bodySessionClose h) s

/-- SESSION_CLOSE (R123). -/
def execSessionClose (h : CmdHdr) (s : State) : Host.Outcome State Fault Refusal := .next (cmdSessionClose .new h s)

/-! ### Quorum -/

/-- The opcodes of the commands that take a quorum (R130-R145). -/
def quorumCommand (p : Half) : Bool := decide (p = 0x0701 ∨ p = 0x0803 ∨ p = 0x0A01 ∨ p = 0x0A03 ∨ p = 0x0B04 ∨ p = 0x0B07)

/-- M and N in force (R149; 16 R477). -/
def quorumPolicy (s : State) (b : Membership) : Nat × Nat :=
  if s.boot.phase = .recovery then (b.recM.toNat, b.recN.toNat) else (b.m.toNat, b.n.toNat)

/-- The header, checks and slots of QUORUM_BEGIN. -/
def callQuorumBegin (h : CmdHdr) (purpose window : Half) (rsv : Word) (digest : BitVec 384) : Call :=
  { hdr := h, instr := .quorumBegin h purpose window rsv digest, opc := 0x0103, who := .admin, bodyLen := 56, need := 40
    checks := [
      (!quorumCommand purpose, invalidAt 64),
      (!decide (1 ≤ window.toNat ∧ window.toNat ≤ 1800), invalidAt 66),
      (!decide (rsv = 0), formatAt 68)] }

/-- QUORUM_BEGIN (R150).  The origin of the quorum ID and of the challenge is not stated: free values (log entry 4). -/
def bodyQuorumBegin (h : CmdHdr) (purpose : Half) (digest : BitVec 384) (c : Call) (t : State) : State :=
  match t.fw.membership with
  | none => c.fail (Status.notReady, 2) t
  | some b =>
    if t.fw.quorum.isSome then c.fail (Status.busy, 3) t
    else t.draw 36 fun r u =>
      let (m, n) := quorumPolicy u b
      let q : Quorum := { qid := BitVec.ofNat 32 (ofLe (r.take 4)), session := h.session, purpose := purpose, digest := digest,
                          m := m, n := n, challenge := r.drop 4, operators := [], failures := 0, ticket := false }
      c.ok (leBytes 4 q.qid.toNat ++ [BitVec.ofNat 8 m, BitVec.ofNat 8 n, 0, 0] ++ q.challenge)
        (u.withFw fun f => { f with quorum := some q })

/-- QUORUM_BEGIN, run in a mode. -/
def cmdQuorumBegin (mode : Mode) (h : CmdHdr) (purpose window : Half) (rsv : Word) (digest : BitVec 384) (s : State)
    : State :=
  (callQuorumBegin h purpose window rsv digest).run mode (bodyQuorumBegin h purpose digest) s

/-- QUORUM_BEGIN (R150). -/
def execQuorumBegin (h : CmdHdr) (purpose window : Half) (rsv : Word) (digest : BitVec 384) (s : State) :
    Host.Outcome State Fault Refusal :=
  .next (cmdQuorumBegin .new h purpose window rsv digest s)

/-- The count part of a quorum answer. -/
def Quorum.counted (q : Quorum) : List Byte := [BitVec.ofNat 8 q.operators.length, BitVec.ofNat 8 q.m, 0, 0, 0, 0, 0, 0]

/-- The card named by a source and an index, as CARD_ABSENT names it (R127, R152). -/
def credentialCard (source index : Byte) : Word :=
  BitVec.ofNat 32 ((if source = 0 then 1 else if source = 1 then 2 else 0) * 16 + index.toNat)

/-- The header, checks and slots of QUORUM_PRESENT. -/
def callQuorumPresent (h : CmdHdr) (qid : Word) (source index : Byte) (rsv : Half) (file : Word) (cred : Credential)
    : Call :=
  { hdr := h, instr := .quorumPresent h qid source index rsv file cred, opc := 0x0104, who := .admin, bodyLen := 16, need := 16
    checks := [
      (!decide (source.toNat ≤ 2), invalidAt 68),
      (!decide (index.toNat ≤ if source = 0 then 1 else if source = 1 then 0 else 3), invalidAt 69),
      (!decide (rsv = 0), formatAt 70)] }

/-- Run at a credential's source (R152): a contact slot, the contactless port, which polls as 14 R432 states, or an SD port. -/
def Call.withSource (c : Call) (source index : Nat) (k : State → State) (s : State) : State :=
  if source = 0 then c.withIcc index k s
  else if source = 2 then c.withSd index k s
  else if !s.unitOn 33 then c.fail (Status.notReady, 4) s
  else if s.listen.field || s.listen.session || decide (s.cls.mode ≠ .off) then c.fail (Status.notReady, 8) s
  else k s

/-- A credential's source can be read now. -/
def State.sourceReady (s : State) (source index : Nat) : Bool :=
  if source = 0 then
    s.unitOn (31 + index) && !s.cardBusy 1 index &&
      decide ((s.iccSlot index).state = .active ∨ (s.iccSlot index).state = .clockStopped)
  else if source = 2 then (sdErr s index).isNone && !s.cardBusy 0 index
  else s.unitOn 33 && !s.listen.field && !s.listen.session && decide (s.cls.mode = .off)

/-- The card of a credential has been removed. -/
def State.sourceGone (source index : Nat) (s : State) : State :=
  if source = 0 then s.iccGone index else if source = 2 then s.sdGone index else s

/-- A share file's blocks cannot be read as data (R152; 16 R481): past the data area, on a FOREIGN card, or inside a VOID run; the last
two count as a malformed file (DESIGN CHOICE, log entry 109). -/
def SdPort.noShare (x : SdPort) (file : Word) : Bool :=
  let first := 16 * file.toNat
  x.foreign || decide (x.blocks.toNat < first + 16) ||
    x.voids.any fun v => decide (v.1.toNat < first + 16 ∧ first < v.1.toNat + v.2.toNat)

/-- A quorum share file (16 R481): its certificate and its blob; none where it is malformed. -/
def shareOf (file : Word) (b : List Byte) : Option (List Byte × List Byte) :=
  let c := ofLe (sliceBytes b 12 4)
  let n := ofLe (sliceBytes b 16 4)
  if sliceBytes b 0 8 = ascii "CXSH" ++ [1, 0, 0, 0] ∧ ofLe (sliceBytes b 8 4) = file.toNat ∧ 1 ≤ c ∧ c ≤ 4096
      ∧ sliceBytes b 20 4 = [0, 0, 0, 0] ∧ 24 + ceilTo 8 c + n ≤ 8192 ∧ (sliceBytes b (24 + c) (ceilTo 8 c - c)).all (fun x => decide (x = 0)) = true then
    some (sliceBytes b 24 c, sliceBytes b (24 + ceilTo 8 c) n)
  else none

/-- The key of a share file is a P-384 or ML-DSA-65 signing key of owner tenant 0, in a class-0 blob (16 R481). -/
def shareKeyOk (cls : Byte) (a : Attr) : Bool :=
  decide (cls = 0 ∧ (a.type = 0x11 ∨ a.type = 0x41) ∧ a.usage = signUsage ∧ a.owner = 0)

/-- The operator that a certificate names: its subject key identifier (R153; log entry 3). -/
def operatorOf (cert : List Byte) : Long := BitVec.ofNat 64 (ofLe (Config.out .certSubject [cert] 8))

/-- The certificate chains to the operator root of the membership (R152; 16 R476). -/
def State.certOk (s : State) (cert : List Byte) : Bool :=
  match s.fw.membership with
  | some b => Config.verdict .certChain [b.operatorRoot, cert]
  | none => false

/-- QUORUM_PRESENT (R152, R153; 16 R481).  A share file whose blob does not load counts as a failed credential (DESIGN CHOICE, log
entry 109). -/
def bodyQuorumPresent (qid : Word) (source index : Byte) (file : Word) (cred : Credential) (c : Call) (t : State) : State :=
  match t.fw.quorum with
  | none => c.fail (Status.quorum, 0) t
  | some q =>
    let failed (t : State) :=
      let q1 := { q with failures := q.failures + 1 }
      c.fail (Status.verifyFail, 0) (t.withFw fun f => { f with quorum := if 3 ≤ q1.failures then none else some q1 })
    if q.qid ≠ qid then c.fail (Status.quorum, 0) t
    else if q.ticket then c.fail (Status.quorum, t.fw.quorumDetail) t
    else
      let counts (cert : List Byte) (t : State) : State :=
        let op := operatorOf cert
        if q.operators.contains op then c.respond Status.ok 1 (q.counted ++ leBytes 8 op.toNat) t
        else
          let q1 := { q with operators := q.operators ++ [op] }
          c.ok (q1.counted ++ leBytes 8 op.toNat) (t.withFw fun f => { f with quorum := some q1 })
      c.withSource source.toNat index.toNat (fun t =>
      if decide (source = 2) && (t.sdPort index.toNat).noShare file then c.fail (invalidAt 72) t
      else match cred with
      | .absent => c.fail (Status.cardAbsent, credentialCard source index) t
      | .removed => c.fail (Status.cardRemoved, credentialCard source index) (t.sourceGone source.toNat index.toNat)
      | .card cert sig =>
        if source = 2 then c.fail (invalidAt 72) t
        else if t.certOk cert && Config.verdict .certVerify [cert, q.challenge, sig] then counts cert t
        else failed t
      | .file blocks =>
        if source ≠ 2 then failed t
        else c.sdMove index.toNat false (1026 + 16 * file.toNat) (padTo 8192 blocks) (fun t =>
        match shareOf file blocks with
        | none => c.fail (invalidAt 72) t
        | some (cert, blob) =>
          if !t.certOk cert then failed t
          else match t.keys.loadBlob blob none with
          | .error _ => failed t
          | .ok (n, k) =>
            match k.present n with
            | none => failed t
            | some r =>
              if !shareKeyOk (blobCls blob) r.attr then c.fail (invalidAt 72) t
              else
                let dsa := decide (r.attr.type = 0x41)
                c.engineGrant (if dsa then 0x39 else 0x11) (fun e t =>
                  let u := (t.withKeys fun _ => k).fwEngine e (c.core t)
                    (if dsa then { op := 0x39, set := 1, key := k.handleOf n, input := q.challenge }
                     else { op := 0x11, set := 1, key := k.handleOf n, input := p384.eBytes (sha384 q.challenge) })
                  let v := u.withKeys fun k => k.free n
                  if decide ((v.engine e).result = Status.ok) && Config.verdict .certVerify [cert, q.challenge, u.fwOutput e] then counts cert v
                  else failed v) t) t) t

/-- QUORUM_PRESENT, run in a mode. -/
def cmdQuorumPresent (mode : Mode) (h : CmdHdr) (qid : Word) (source index : Byte) (rsv : Half) (file : Word)
    (cred : Credential) (s : State) : State :=
  (callQuorumPresent h qid source index rsv file cred).run mode (bodyQuorumPresent qid source index file cred) s

/-- QUORUM_PRESENT (R153). -/
def execQuorumPresent (h : CmdHdr) (qid : Word) (source index : Byte) (rsv : Half) (file : Word) (cred : Credential)
    (s : State) : Host.Outcome State Fault Refusal :=
  .next (cmdQuorumPresent .new h qid source index rsv file cred s)

/-- The header, checks and slots of QUORUM_END. -/
def callQuorumEnd (h : CmdHdr) (qid rsv : Word) : Call :=
  { hdr := h, instr := .quorumEnd h qid rsv, opc := 0x0105, who := .admin, bodyLen := 8, need := 8
    checks := [(!decide (rsv = 0), formatAt 68)] }

/-- QUORUM_END (R154). -/
def bodyQuorumEnd (qid : Word) (c : Call) (t : State) : State :=
  match t.fw.quorum with
  | none => c.fail (Status.quorum, 0) t
  | some q =>
    if q.qid ≠ qid then c.fail (Status.quorum, 0) t
    else if q.ticket then c.fail (Status.quorum, t.fw.quorumDetail) t
    else if q.m ≤ q.operators.length then
      c.ok q.counted (t.withFw fun f => { f with quorum := some { q with ticket := true } })
    else c.fail (Status.quorum, t.fw.quorumDetail) (t.withFw fun f => { f with quorum := none })

/-- QUORUM_END, run in a mode. -/
def cmdQuorumEnd (mode : Mode) (h : CmdHdr) (qid rsv : Word) (s : State) : State :=
  (callQuorumEnd h qid rsv).run mode (bodyQuorumEnd qid) s

/-- QUORUM_END (R154). -/
def execQuorumEnd (h : CmdHdr) (qid rsv : Word) (s : State) : Host.Outcome State Fault Refusal :=
  .next (cmdQuorumEnd .new h qid rsv s)

/-- QUORUM_WINDOW_END (R154): the gathering window ends without QUORUM_END. -/
def execQuorumWindowEnd (s : State) : Host.Outcome State Fault Refusal :=
  .next (s.withFw fun f => { f with quorum := f.quorum.filter Quorum.ticket })

/-- TICKET_EXPIRY (R154). -/
def execTicketExpiry (s : State) : Host.Outcome State Fault Refusal :=
  .next (s.withFw fun f => { f with quorum := f.quorum.filter fun q => !q.ticket })

end Sys2Proof.Machine
end

