-- ==== Sys2Proof/Machine/KeyCmds.lean ====
section
/-! DEFINITION. The key commands (04 R131, R132; 05 R156-R178): commands 0x02 but for KEY_LOAD. -/

namespace Sys2Proof.Machine

/-- The template of a command in a tenant session names another tenant (04 R128; log entry 37). -/
def ownerCheck (off : Nat) (h : CmdHdr) (t : Attr) (s : State) : Bool × Half × Word :=
  (match s.fw.session h.session with
    | some x => !x.admin && !decide (t.owner = x.tenant.setWidth 16)
    | none => false, invalidAt (off + 2))

/-- The operation, parameter set of a key generation of a type that the engines make (10 R318). -/
def keygenOp (t : Byte) : Byte × Nat :=
  if isEcPriv t then (0x10, t.toNat % 8)
  else if t = 0x14 then (0x20, 0)
  else if t = 0x15 then (0x20, 1)
  else if isKemPriv t then (0x30, t.toNat % 8)
  else (0x38, t.toNat % 8)

/-- The header, checks and slots of KEY_GENERATE. -/
def callKeyGenerate (h : CmdHdr) (t : Attr) (s : State) : Call :=
  { hdr := h, instr := .keyGenerate h t, opc := 0x0201, who := .tenant, inRecovery := false, bodyLen := 32
    need := newKeyLen t
    checks := [templateCheck 64 t, (!makes t.type, invalidAt 64), ownerCheck 64 h t s] }

/-- KEY_GENERATE (R132; 05 R169; 10 R318, R321, R322; 12 R373). -/
def bodyKeyGenerate (t : Attr) (c : Call) (u : State) : State :=
  match createErr u 64 t with
  | some e => c.fail e u
  | none =>
    if isAes t.type || isHmac t.type then
      c.withRandom (c.core u) true (matLenOf t) (fun m v => c.createKey 64 t m [] v) u
    else c.engineOp { op := (keygenOp t.type).1, set := (keygenOp t.type).2, template := some t } (c.engineKey 64 []) u

/-- KEY_GENERATE, run in a mode. -/
def cmdKeyGenerate (mode : Mode) (h : CmdHdr) (t : Attr) (s : State) : State :=
  (callKeyGenerate h t s).run mode (bodyKeyGenerate t) s

/-- KEY_GENERATE (R132). -/
def execKeyGenerate (h : CmdHdr) (t : Attr) (s : State) : Host.Outcome State Fault Refusal := .next (cmdKeyGenerate .new h t s)

/-- The header, checks and slots of KEY_IMPORT. -/
def callKeyImport (h : CmdHdr) (wrap : Word) (format : Byte) (rsv : BitVec 24) (t : Attr) (wrappedLen rsv2 : Word)
    (wrapped : List Byte) (s : State) : Call :=
  let w := wrappedLen.toNat
  { hdr := h, instr := .keyImport h wrap format rsv t wrappedLen rsv2 wrapped, opc := 0x0202, who := .tenant
    inRecovery := false, bodyLen := ceilTo 8 (48 + w), need := newKeyLen t, slots := [handleSlot wrap]
    checks := [
      (!decide (format.toNat ≤ 1), invalidAt 68),
      (!decide (rsv = 0), formatAt 69),
      templateCheck 72 t,
      ownerCheck 72 h t s,
      (!decide (w % 8 = 0 ∧ (if format = 0 then 16 else 24) ≤ w), rangeAt 104),
      (!decide (rsv2 = 0), formatAt 108)] }

/-- The set of a private key's type for CHECK_KEY (10 R318, R321). -/
def checkSet (t : Byte) : Nat := if t = 0x14 then 0 else t.toNat % 8

/-- Create an imported private key, run CHECK_KEY on its handle, and unload it where the test fails (10 R321). -/
def Call.importChecked (c : Call) (t : Attr) (m : List Byte) (s : State) : State :=
  c.engineGrant 0x40 (fun n v =>
    match v.keys.create v.createEnv t m none with
    | .error e => c.fail (keyDetail 72 e) v
    | .ok (slot, k) =>
      let u := (v.withKeys fun _ => k).fwEngine n (c.core v) { op := 0x40, set := checkSet t.type, key := k.handleOf slot }
      if (u.engine n).result = Status.ok then c.keyMade slot (newKeyResult u.keys slot) u
      else c.engineFail n (u.withKeys fun k => k.free slot)) s

/-- KEY_IMPORT (R131; 10 R321). -/
def bodyKeyImport (wrap : Word) (format : Byte) (t : Attr) (wrappedLen : Word) (wrapped : List Byte) (c : Call) (u : State) : State :=
  match u.keys.wrapKey wrap (c.owner u) uUNWRAP with
  | .error e => c.refuse e u
  | .ok w =>
    match createErr u 72 t with
    | some e => c.fail e u
    | none =>
      let b := padTo wrappedLen.toNat wrapped
      match (if format = 1 then kwUnwrap w.material b else kwpUnwrap w.material b) with
      | none => c.fail (Status.authFail, 0) u
      | some m =>
        match matErr 0 t m with
        | some e => c.fail (keyDetail 72 e) u
        | none =>
          if isRsaPriv t.type || isEcPriv t.type || decide (t.type = 0x14) then c.importChecked t m u
          else c.createKey 72 t m [] u

/-- KEY_IMPORT, run in a mode. -/
def cmdKeyImport (mode : Mode) (h : CmdHdr) (wrap : Word) (format : Byte) (rsv : BitVec 24) (t : Attr)
    (wrappedLen rsv2 : Word) (wrapped : List Byte) (s : State) : State :=
  (callKeyImport h wrap format rsv t wrappedLen rsv2 wrapped s).run mode (bodyKeyImport wrap format t wrappedLen wrapped) s

/-- KEY_IMPORT (R131). -/
def execKeyImport (h : CmdHdr) (wrap : Word) (format : Byte) (rsv : BitVec 24) (t : Attr) (wrappedLen rsv2 : Word)
    (wrapped : List Byte) (s : State) : Host.Outcome State Fault Refusal :=
  .next (cmdKeyImport .new h wrap format rsv t wrappedLen rsv2 wrapped s)

/-- The reload blob of the DK (05 R175). -/
def Call.exportDk (c : Call) (s : State) : State :=
  match s.keys.present 2, s.keys.present 1 with
  | none, _ => c.fail (Status.keyHandle, 2) s
  | _, none => c.fail (Status.notReady, 2) s
  | some dk, some dwk =>
    let b := blobOf 1 dk dwk.material
    c.okSized (leBytes 4 b.length ++ [0, 0, 0, 0] ++ b) s

/-- The header, checks and slots of KEY_EXPORT. -/
def callKeyExport (h : CmdHdr) (handle wrap : Word) (format : Byte) (rsv : BitVec 56) : Call :=
  { hdr := h, instr := .keyExport h handle wrap format rsv, opc := 0x0203, who := .tenant, inRecovery := false
    bodyLen := 16, slots := [handleSlot handle, handleSlot wrap]
    checks := [
      (!decide (format.toNat ≤ 1), invalidAt 72),
      (!decide (rsv = 0), formatAt 73)] }

/-- KEY_EXPORT (R132; 05 R161, R175). -/
def bodyKeyExport (handle wrap : Word) (format : Byte) (c : Call) (u : State) : State :=
  if wrap = 0 then
    if handle = 2 ∧ (c.owner u).isNone then c.exportDk u else c.fail (Status.keyHandle, handle) u
  else match u.keys.lookup handle (c.owner u) none with
    | .error e => c.refuse e u
    | .ok r =>
      match u.keys.wrapKey wrap (c.owner u) uWRAP with
      | .error e => c.refuse e u
      | .ok w =>
        let n := r.material.length
        if !exportAllowed r.attr.exportability (w.attr.usage.getLsbD uTRUSTED) then c.fail (Status.keyUsage, handle) u
        else if format = 1 ∧ (n < 16 ∨ n % 8 ≠ 0) then c.fail (invalidAt 72) u
        else
          let out := if format = 1 then kwWrap w.material r.material else kwpWrap w.material r.material
          c.okSized (leBytes 4 out.length ++ [0, 0, 0, 0] ++ out) u

/-- KEY_EXPORT, run in a mode. -/
def cmdKeyExport (mode : Mode) (h : CmdHdr) (handle wrap : Word) (format : Byte) (rsv : BitVec 56) (s : State) : State :=
  (callKeyExport h handle wrap format rsv).run mode (bodyKeyExport handle wrap format) s

/-- KEY_EXPORT (R132). -/
def execKeyExport (h : CmdHdr) (handle wrap : Word) (format : Byte) (rsv : BitVec 56) (s : State) :
    Host.Outcome State Fault Refusal :=
  .next (cmdKeyExport .new h handle wrap format rsv s)

/-- Mark the run of a handle empty and wait for its zeroisation, and for the partner's acknowledgement while the pair
mirrors (05 R177; 16 R465). -/
def Call.unload (c : Call) (n : Nat) (body : List Byte) (s : State) : State :=
  let mirrored := s.welt.mirroring && decide (64 ≤ n)
  c.wait (.run n (if mirrored then some s.welt.mirrorSeq else none)) body
    ((if mirrored then s.mirror (.keyUnload (s.keys.handleOf n)) else s).withKeys (Keys.mark · n))

/-- The header, checks and slots of KEY_UNLOAD. -/
def callKeyUnload (h : CmdHdr) (handle rsv : Word) : Call :=
  { hdr := h, instr := .keyUnload h handle rsv, opc := 0x0205, who := .tenant, inRecovery := false, bodyLen := 8
    slots := [handleSlot handle], checks := [(!decide (rsv = 0), formatAt 68)] }

/-- KEY_UNLOAD (05 R177). -/
def bodyKeyUnload (handle : Word) (c : Call) (u : State) : State :=
  match u.keys.lookup handle (c.owner u) none with
  | .error e => c.refuse e u
  | .ok _ => c.unload (handleSlot handle) [] u

/-- KEY_UNLOAD, run in a mode. -/
def cmdKeyUnload (mode : Mode) (h : CmdHdr) (handle rsv : Word) (s : State) : State :=
  (callKeyUnload h handle rsv).run mode (bodyKeyUnload handle) s

/-- KEY_UNLOAD (05 R177). -/
def execKeyUnload (h : CmdHdr) (handle rsv : Word) (s : State) : Host.Outcome State Fault Refusal :=
  .next (cmdKeyUnload .new h handle rsv s)

/-- The base key of a derivation: AES with DERIVE, HMAC with DERIVE, or AES with DUKPT_BDK (R131, 05 R164). -/
def deriveBase (k : Keys) (base : Word) (func : Byte) (owner : Option Half) : Except KeyErr KeyRun :=
  match k.lookup base owner (some (if func = 2 then uDUKPT else uDERIVE)) with
  | .error e => .error e
  | .ok r => if (if func = 1 then isHmac r.attr.type else isAes r.attr.type) then .ok r
    else .error { status := Status.keyUsage, detail := base }

/-- The header, checks and slots of KEY_DERIVE. -/
def callKeyDerive (h : CmdHdr) (base : Word) (func rsv : Byte) (ctxLen : Half) (t : Attr) (ctx : List Byte) (s : State)
    : Call :=
  { hdr := h, instr := .keyDerive h base func rsv ctxLen t ctx, opc := 0x0206, who := .tenant, inRecovery := false
    bodyLen := ceilTo 8 (40 + ctxLen.toNat), need := newKeyLen t, slots := [handleSlot base]
    checks := [
      (!decide (func.toNat ≤ 2), invalidAt 68),
      (!decide (rsv = 0), formatAt 69),
      templateCheck 72 t, (!makes t.type, invalidAt 72), ownerCheck 72 h t s] }

/-- SP 800-108 counter mode with HMAC; its hash and the label are not stated (R131; log entry 99). -/
def hmacKdf (key context : List Byte) (n : Nat) : List Byte :=
  let alg := 0x11 + Config.kdfHash.val
  let h := (sha2Of (alg % 16)).out
  ((List.range ((n + h - 1) / h)).flatMap fun i => macOf alg key [] (kdfInput (i + 1) Config.kdfLabel context n) h).take n

/-- The algorithm indicator of a template's key in AES DUKPT: HMAC, or AES by its length. -/
def dukptAlg (t : Attr) (n : Nat) : Nat := if isHmac t.type then 5 else aesIndicator n

/-- The derived bytes that a key of template `t` takes, and the state after the work: CMAC jobs on core `n` of the cipher cluster
(07 R257), HMAC on a digest unit (11 R348), or the AES DUKPT derivation by cluster jobs (log entry 116). -/
def State.derived (n : Nat) (func : Byte) (r : KeyRun) (ctx : List Byte) (t : Attr) (s : State) : Option (List Byte) × State :=
  let len := makeLen t
  if func = 1 then (some (hmacKdf r.material ctx len), s)
  else if func = 0 then s.fwKdf n r Config.kdfLabel ctx len
  else s.fwDukpt n r ctx (Config.dukptUsage t.usage.toNat) (dukptAlg t len) len

/-- Deliver a derived key through key-store channel `c` of the core, as GENERATE would, and answer from KEY_RESULT (07 R257). -/
def Call.deliverKey (c : Call) (tmplOff : Nat) (t : Attr) (material : List Byte) (s : State) : State :=
  let core := c.core s
  let u := s.keyChanCreate core t material none
  let x := u.keys.chan core
  if x.status ≠ Status.ok then c.fail (keyDetail tmplOff { status := x.status, field := x.field.toNat }) u
  else
    let slot := handleSlot x.handleOut
    c.keyMade slot (newKeyResult u.keys slot) u

/-- Derive on core `n` and deliver the key; a failed check of the core is no answer yet. -/
def Call.deriveOn (c : Call) (func : Byte) (r : KeyRun) (ctx : List Byte) (t : Attr) (n : Nat) (s : State) : State :=
  let p := s.derived n func r ctx t
  match p.1 with
  | some d => c.deliverKey 72 t (madeMaterial t d) p.2
  | none => c.wait .cipher [] p.2

/-- KEY_DERIVE (R131, R132; 07 R257; 11 R353).  The spec does not say which part of a derivation is random: 32 bytes are drawn under a
fresh class K seed before it (R132; DESIGN CHOICE of their number, log entry 117). -/
def bodyKeyDerive (base : Word) (func : Byte) (ctxLen : Half) (t : Attr) (ctx : List Byte) (c : Call) (u : State) : State :=
  if func = 1 ∧ u.boot.phase = .service then c.fail (Status.phase, phaseDetail u) u
  else match deriveBase u.keys base func (c.owner u) with
    | .error e => c.refuse e u
    | .ok r =>
      match createErr u 72 t with
      | some e => c.fail e u
      | none =>
        let go := c.deriveOn func r (padTo ctxLen.toNat ctx) t
        c.withRandom (c.core u) true 32 (fun _ v =>
          if func = 1 then (if v.digOn = 0 then c.fail (Status.notReady, 4) v else go 0 v) else c.withCluster go v) u

/-- KEY_DERIVE, run in a mode. -/
def cmdKeyDerive (mode : Mode) (h : CmdHdr) (base : Word) (func rsv : Byte) (ctxLen : Half) (t : Attr) (ctx : List Byte)
    (s : State) : State :=
  (callKeyDerive h base func rsv ctxLen t ctx s).run mode (bodyKeyDerive base func ctxLen t ctx) s

/-- KEY_DERIVE (R131). -/
def execKeyDerive (h : CmdHdr) (base : Word) (func rsv : Byte) (ctxLen : Half) (t : Attr) (ctx : List Byte) (s : State) :
    Host.Outcome State Fault Refusal :=
  .next (cmdKeyDerive .new h base func rsv ctxLen t ctx s)

/-- The header, checks and slots of KEY_DESTROY. -/
def callKeyDestroy (h : CmdHdr) (handle rsv : Word) (keyId : Long) : Call :=
  { hdr := h, instr := .keyDestroy h handle rsv keyId, opc := 0x0207, who := .tenant, inRecovery := false, bodyLen := 16
    slots := [handleSlot handle], checks := [(!decide (rsv = 0), formatAt 68)] }

/-- KEY_DESTROY (R132; 05 R177; 13 R401, R405): the two log records hold the low and the high word of the identifier.  The layout and
length of the destruction record are not stated, free values (log entry 4), and it is followed by the device attestation key's ECDSA
signature over it (DESIGN CHOICE of the algorithm, log entry 119). -/
def bodyKeyDestroy (handle : Word) (keyId : Long) (c : Call) (u : State) : State :=
  match u.keys.lookup handle (c.owner u) none with
  | .error e => c.refuse e u
  | .ok r =>
    if r.keyId ≠ keyId then c.fail (invalidAt 72) u
    else if 2048 < u.log.used + 2 then c.fail (Status.busy, 5) u
    else u.draw (Config.freeNat u.freeCount) (fun rec v =>
      match c.tooBig (8 + rec.length + 96) with
      | some e => c.fail e v
      | none => c.attested false rec (fun sig w =>
        let body := leBytes 4 (rec ++ sig).length ++ [0, 0, 0, 0] ++ rec ++ sig
        c.unload (handleSlot handle) body (w.withLog fun l =>
          (l.record 0x83 w.insole.rtc (keyId.setWidth 32)).record 0x84 w.insole.rtc ((keyId >>> 32).setWidth 32))) v)

/-- KEY_DESTROY, run in a mode. -/
def cmdKeyDestroy (mode : Mode) (h : CmdHdr) (handle rsv : Word) (keyId : Long) (s : State) : State :=
  (callKeyDestroy h handle rsv keyId).run mode (bodyKeyDestroy handle keyId) s

/-- KEY_DESTROY (R132). -/
def execKeyDestroy (h : CmdHdr) (handle rsv : Word) (keyId : Long) (s : State) : Host.Outcome State Fault Refusal :=
  .next (cmdKeyDestroy .new h handle rsv keyId s)

/-- The header, checks and slots of KEY_ATTEST. -/
def callKeyAttest (h : CmdHdr) (handle : Word) (alg : Byte) (rsv : BitVec 24) (nonce : BitVec 256) : Call :=
  { hdr := h, instr := .keyAttest h handle alg rsv nonce, opc := 0x0208, who := .tenant, inStart := false
    inRecovery := false, bodyLen := 40, slots := [handleSlot handle]
    checks := [(!decide (alg.toNat ≤ 1), invalidAt 68), (!decide (rsv = 0), formatAt 69)] }

/-- KEY_ATTEST (R131).  The statement's layout is not stated: free bytes of a free length (log entry 4). -/
def bodyKeyAttest (handle : Word) (alg : Byte) (c : Call) (u : State) : State :=
  match u.keys.lookup handle (c.owner u) none with
  | .error e => c.refuse e u
  | .ok _ => u.draw (Config.freeNat u.freeCount) (fun st v =>
      match c.tooBig (8 + ceilTo 8 st.length + if alg = 1 then 3309 else 96) with
      | some e => c.fail e v
      | none => c.attested (decide (alg = 1)) st (fun sig w =>
          c.ok (leBytes 4 st.length ++ leBytes 4 sig.length ++ pad8 st ++ sig) w) v)

/-- KEY_ATTEST, run in a mode. -/
def cmdKeyAttest (mode : Mode) (h : CmdHdr) (handle : Word) (alg : Byte) (rsv : BitVec 24) (nonce : BitVec 256) (s : State)
    : State :=
  (callKeyAttest h handle alg rsv nonce).run mode (bodyKeyAttest handle alg) s

/-- KEY_ATTEST (R131). -/
def execKeyAttest (h : CmdHdr) (handle : Word) (alg : Byte) (rsv : BitVec 24) (nonce : BitVec 256) (s : State) :
    Host.Outcome State Fault Refusal :=
  .next (cmdKeyAttest .new h handle alg rsv nonce s)

/-- The header, checks and slots of KEY_INFO. -/
def callKeyInfo (h : CmdHdr) (handle rsv : Word) : Call :=
  { hdr := h, instr := .keyInfo h handle rsv, opc := 0x0209, who := .tenant, bodyLen := 8, need := 48
    slots := [handleSlot handle], checks := [(!decide (rsv = 0), formatAt 68)] }

/-- KEY_INFO (R131; 05 R171). -/
def bodyKeyInfo (handle : Word) (c : Call) (u : State) : State :=
  match u.keys.lookup handle (c.owner u) none with
  | .error e => c.refuse e u
  | .ok r => c.ok (leBytes 8 r.keyId.toNat ++ attrBytes r.attr ++ leBytes 4 r.counter.toNat ++ [0, 0, 0, 0]) u

/-- KEY_INFO, run in a mode. -/
def cmdKeyInfo (mode : Mode) (h : CmdHdr) (handle rsv : Word) (s : State) : State :=
  (callKeyInfo h handle rsv).run mode (bodyKeyInfo handle) s

/-- KEY_INFO (R131). -/
def execKeyInfo (h : CmdHdr) (handle rsv : Word) (s : State) : Host.Outcome State Fault Refusal :=
  .next (cmdKeyInfo .new h handle rsv s)

end Sys2Proof.Machine
end

