-- ==== Sys2Proof/Machine/CardCmds.lean ====
section
/-! DEFINITION. The card and tag-memory commands (04 R143, R144; 14 R418, R429-R432; 15 R443-R456): commands 0x09. -/

namespace Sys2Proof.Machine

/-- The CARD_STATUS record (15 R456). -/
def cardRecord (s : State) (kind index : Nat) : List Byte :=
  if kind = 0 then
    let x := s.sdPort index
    let st : Nat := match x.state with
      | .disabled => 0 | .empty => 1 | .settle => 2 | .init => 3 | .ready => 4 | .xfer => 5 | .busy => 6 | .removing => 7 | .failed => 8
    [0, BitVec.ofNat 8 index, BitVec.ofNat 8 st, BitVec.ofNat 8 (bit x.det + 2 * bit x.wp + 4 * bit x.v18 + 8 * bit x.foreign),
     x.mode.setWidth 8, x.cap.setWidth 8, x.tap.setWidth 8, x.why.setWidth 8]
      ++ leBytes 4 x.blocks.toNat ++ leBytes 4 x.voids.length ++ leBytes 4 x.lastSeq.toNat ++ List.replicate 12 0
  else
    let x := s.iccSlot index
    let st : Nat := match x.state with
      | .disabled => 0 | .empty => 1 | .present => 2 | .activating => 3 | .active => 4 | .clockStopped => 5 | .deactivating => 6
      | .failed => 7
    [1, BitVec.ofNat 8 index, BitVec.ofNat 8 st, BitVec.ofNat 8 (bit x.pres), BitVec.ofNat 8 (bit x.t1), BitVec.ofNat 8 (bit x.classB),
     BitVec.ofNat 8 x.atr.length, 0] ++ leBytes 4 x.clkKhz.toNat ++ List.replicate 20 0

/-- The header, checks and slots of CARD_STATUS. -/
def callCardStatus (h : CmdHdr) (kind index : Byte) (rsv : BitVec 48) : Call :=
  { hdr := h, instr := .cardStatus h kind index rsv, opc := 0x0901, who := .admin, bodyLen := 8, need := 32
    checks := [
      (!decide (kind.toNat ≤ 1), invalidAt 64),
      (!decide (index.toNat ≤ if kind = 0 then 3 else 1), invalidAt 65),
      (!decide (rsv = 0), formatAt 66)] }

/-- CARD_STATUS (15 R456). -/
def bodyCardStatus (kind index : Byte) (c : Call) (t : State) : State :=
  c.ok (cardRecord t kind.toNat index.toNat) t

/-- CARD_STATUS, run in a mode. -/
def cmdCardStatus (mode : Mode) (h : CmdHdr) (kind index : Byte) (rsv : BitVec 48) (s : State) : State :=
  (callCardStatus h kind index rsv).run mode (bodyCardStatus kind index) s

/-- CARD_STATUS (15 R456). -/
def execCardStatus (h : CmdHdr) (kind index : Byte) (rsv : BitVec 48) (s : State) : Host.Outcome State Fault Refusal :=
  .next (cmdCardStatus .new h kind index rsv s)

/-- The run is not wholly inside the data area (15 R450). -/
def SdPort.outside (x : SdPort) (first count : Word) : Bool := decide (x.blocks.toNat < first.toNat + count.toNat)

/-- A block of the run lies inside a live VOID run (15 R449). -/
def SdPort.inVoid (x : SdPort) (first count : Word) : Bool :=
  x.voids.any fun v => decide (v.1.toNat < first.toNat + count.toNat ∧ first.toNat < v.1.toNat + v.2.toNat)

/-! ### Transfers that firmware runs (15 R441-R449, R458) -/

/-- Firmware writes a journal record, which stands in its buffer (R448, R449). -/
def State.sdRecord (p : Nat) (kind : Byte) (first count : Word) (digest : List Byte) (s : State) : State :=
  let t := s.updSd p (SdPort.record kind first count digest)
  let x := t.sdPort p
  let at' := (x.slot + 1023) % 1024
  match Bank.get none x.journal at' with
  | some r => (t.sramWrite fwIn r.bytes).updSd p fun y =>
      { y with lba := BitVec.ofNat 32 (2 + at'), count := 1, addr := BitVec.ofNat 32 fwIn, status := Status.ok, done := true, xfer := 512 }
  | none => t

/-- Firmware marks a run VOID where the card can be written (R449). -/
def State.sdVoid (p : Nat) (first count : Word) (s : State) : State :=
  if (s.sdPort p).wp then s else s.sdRecord p 3 first count (List.replicate 32 0)

/-- A transfer ended early with the card present: its run is marked VOID and the port is FAILED with WHY 1 or 5, which of them the spec
does not say (15 R443, R449; a free value, log entry 4). -/
def State.sdShort (p : Nat) (first count : Word) (confirmed : Nat) (s : State) : State :=
  s.draw 1 fun b t => (t.sdVoid p first count).updSd p fun x =>
    { x with state := .failed, why := if (b.headD 0).getLsbD 0 then 1 else 5, status := Status.lengthShort, done := true,
             xfer := BitVec.ofNat 32 confirmed }

/-- The header, checks and slots of CARD_READ. -/
def callCardRead (h : CmdHdr) (port : Byte) (rsv : BitVec 24) (first count rsv2 : Word) (io : CardIo) : Call :=
  { hdr := h, instr := .cardRead h port rsv first count rsv2 io, opc := 0x0902, who := .admin, bodyLen := 16
    need := 512 * count.toNat
    checks := [
      (!decide (port.toNat ≤ 3), invalidAt 64),
      (!decide (rsv = 0), formatAt 65),
      (!decide (1 ≤ count.toNat ∧ count.toNat ≤ 2047), rangeAt 72),
      (!decide (rsv2 = 0), formatAt 76)] }

/-- CARD_READ (15 R443-R449). -/
def bodyCardRead (port : Byte) (first count : Word) (io : CardIo) (c : Call) (t : State) : State :=
  let p := port.toNat
  let x := t.sdPort p
  match sdErr t p with
  | some e => c.fail e t
  | none =>
    if t.cardBusy 0 p then c.cardWait 0 p t
    else if x.foreign then c.fail (invalidAt 0x40) t
    else if x.outside first count then c.fail (rangeAt 72) t
    else if x.inVoid first count then c.fail (Status.authFail, 0) t
    else match io with
      | .done data =>
        let d := padTo (512 * count.toNat) data
        c.sdMove p false (1026 + first.toNat) d (c.ok d) t
      | .short n => c.fail (Status.lengthShort, BitVec.ofNat 32 n) (t.sdShort p first count n)
      | .timeout => c.fail (Status.timeout, c.hdr.elapsed) (t.sdVoid p first count)
      | .removed => c.fail (Status.cardRemoved, cardWord 0 p) (t.sdGone p)
      | .goneInBusy => c.fail (Status.cardRemoved, cardWord 0 p) (t.sdGone p)

/-- CARD_READ, run in a mode. -/
def cmdCardRead (mode : Mode) (h : CmdHdr) (port : Byte) (rsv : BitVec 24) (first count rsv2 : Word) (io : CardIo)
    (s : State) : State :=
  (callCardRead h port rsv first count rsv2 io).run mode (bodyCardRead port first count io) s

/-- CARD_READ (15 R447). -/
def execCardRead (h : CmdHdr) (port : Byte) (rsv : BitVec 24) (first count rsv2 : Word) (io : CardIo) (s : State) :
    Host.Outcome State Fault Refusal :=
  .next (cmdCardRead .new h port rsv first count rsv2 io s)

/-- The header, checks and slots of CARD_WRITE. -/
def callCardWrite (h : CmdHdr) (port : Byte) (rsv : BitVec 24) (first count rsv2 : Word) (data : List Byte) (io : CardIo)
    : Call :=
  { hdr := h, instr := .cardWrite h port rsv first count rsv2 data io, opc := 0x0903, who := .admin
    bodyLen := 16 + 512 * count.toNat
    checks := [
      (!decide (port.toNat ≤ 3), invalidAt 64),
      (!decide (rsv = 0), formatAt 65),
      (!decide (1 ≤ count.toNat ∧ count.toNat ≤ 2047), rangeAt 72),
      (!decide (rsv2 = 0), formatAt 76)] }

/-- CARD_WRITE (15 R446-R450). -/
def bodyCardWrite (port : Byte) (first count : Word) (data : List Byte) (io : CardIo) (c : Call) (t : State) : State :=
  let p := port.toNat
  let x := t.sdPort p
  let format := decide (first = 0xFFFFFFFF ∧ count = 1)
  match sdErr t p with
  | some e => c.fail e t
  | none =>
    if t.cardBusy 0 p then c.cardWait 0 p t
    else if x.wp then c.fail (invalidAt 0x40) t
    else if format && data.any (fun b => decide (b ≠ 0)) then c.fail (invalidAt 80) t
    else if !format && (x.foreign || decide (512 ≤ x.voids.length)) then c.fail (invalidAt 0x40) t
    else if !format && x.outside first count then c.fail (rangeAt 72) t
    else
      let d := padTo (512 * count.toNat) data
      let intent := t.sdRecord p 1 first count (sha256 d)
      match io with
      | .done _ =>
        if format then
          let h := headerBytes x.blocks (x.generation + 1)
          c.sdMove p true 0 (h ++ h) (fun u => c.ok [] (u.updSd p fun y =>
            { y with foreign := false, generation := y.generation + 1, lastSeq := 0, voids := [], journal := [], slot := 0 })) t
        else c.sdMove p true (1026 + first.toNat) d (fun u => c.ok [] (u.sdRecord p 2 first count (sha256 d))) intent
      | .short n => c.fail (Status.lengthShort, BitVec.ofNat 32 n)
          (if format then t.updSd p (fun y => { y with state := .failed, foreign := true }) else intent.sdShort p first count n)
      | .timeout => c.fail (Status.timeout, c.hdr.elapsed)
          (if format then t.updSd p (fun y => { y with foreign := true }) else intent.sdVoid p first count)
      | .removed => c.fail (Status.cardRemoved, cardWord 0 p) (t.sdGone p)
      | .goneInBusy => c.fail (Status.cardGoneInBusy, cardWord 0 p) (t.sdGone p)

/-- CARD_WRITE, run in a mode. -/
def cmdCardWrite (mode : Mode) (h : CmdHdr) (port : Byte) (rsv : BitVec 24) (first count rsv2 : Word) (data : List Byte)
    (io : CardIo) (s : State) : State :=
  (callCardWrite h port rsv first count rsv2 data io).run mode (bodyCardWrite port first count data io) s

/-- CARD_WRITE (15 R449). -/
def execCardWrite (h : CmdHdr) (port : Byte) (rsv : BitVec 24) (first count rsv2 : Word) (data : List Byte) (io : CardIo) (s : State) :
    Host.Outcome State Fault Refusal :=
  .next (cmdCardWrite .new h port rsv first count rsv2 data io s)

/-- The header, checks and slots of ICC_APDU. -/
def callIccApdu (h : CmdHdr) (slot : Byte) (rsv : BitVec 24) (len : Word) (apdu : List Byte) (io : ApduIo) : Call :=
  { hdr := h, instr := .iccApdu h slot rsv len apdu io, opc := 0x0904, who := .admin, bodyLen := ceilTo 8 (8 + len.toNat), need := 8
    checks := [
      (!decide (slot.toNat ≤ 1), invalidAt 64),
      (!decide (rsv = 0), formatAt 65),
      (!decide (4 ≤ len.toNat ∧ len.toNat ≤ 65544), rangeAt 68)] }

/-- ICC_APDU (15 R450-R454): a response longer than the capacity fills it, and the length names the bytes held (R115). -/
def bodyIccApdu (slot : Byte) (len : Word) (apdu : List Byte) (io : ApduIo) (c : Call) (t : State) : State :=
  let n := slot.toNat
  c.withIcc n (fun t =>
    if !apduLenOk (t.iccSlot n).t1 len.toNat then c.fail (invalidAt 0x44) t
    else match io with
      | .done r =>
        let held := r.take (c.hdr.respCap.toNat - 40)
        c.iccMove n (padTo len.toNat apdu) held (fun u => c.ok (leBytes 4 held.length ++ [0, 0, 0, 0] ++ held) u) t
      | .removed => c.fail (Status.cardRemoved, cardWord 1 n) (t.iccGone n)
      | .failed => c.fail (Status.cardRemoved, cardWord 1 n)
          ((t.updIcc n (IccSlot.deactivate .present Status.cardRemoved)).eventFree (0x64 + n) 1)
      | .absent => c.fail (Status.cardAbsent, cardWord 1 n) (t.updIcc n (IccSlot.deactivate .failed Status.cardAbsent))) t

/-- ICC_APDU, run in a mode. -/
def cmdIccApdu (mode : Mode) (h : CmdHdr) (slot : Byte) (rsv : BitVec 24) (len : Word) (apdu : List Byte) (io : ApduIo)
    (s : State) : State :=
  (callIccApdu h slot rsv len apdu io).run mode (bodyIccApdu slot len apdu io) s

/-- ICC_APDU (15 R451). -/
def execIccApdu (h : CmdHdr) (slot : Byte) (rsv : BitVec 24) (len : Word) (apdu : List Byte) (io : ApduIo) (s : State) :
    Host.Outcome State Fault Refusal :=
  .next (cmdIccApdu .new h slot rsv len apdu io s)

/-- The header, checks and slots of BADGE_POLL. -/
def callBadgePoll (h : CmdHdr) (io : PollIo) : Call :=
  { hdr := h, instr := .badgePoll h io, opc := 0x0905, who := .admin, need := 24 }

/-- BADGE_POLL (14 R432): the UID; the field is off afterwards. -/
def bodyBadgePoll (io : PollIo) (c : Call) (t : State) : State :=
  if !t.unitOn 33 then c.fail (Status.notReady, 4) t
  else if t.listen.field || t.listen.session || decide (t.cls.mode ≠ .off) then c.fail (Status.notReady, 8) t
  else match io with
    | .found typeB uid =>
      c.ok ([BitVec.ofNat 8 uid.length, 0, 0, 0, 0, 0, 0, 0] ++ padTo 10 uid ++ List.replicate 6 0)
        (t.withCls fun x => { (x.found typeB uid).finish Status.ok .off with uid := uid, uidTypeB := typeB })
    | .absent => c.fail (Status.cardAbsent, 0x20) (t.withCls (Cls.finish Status.cardAbsent .off))
    | .fieldPresent => c.fail (Status.notReady, 8) (t.withCls (Cls.finish Status.notReady .off))

/-- BADGE_POLL, run in a mode. -/
def cmdBadgePoll (mode : Mode) (h : CmdHdr) (io : PollIo) (s : State) : State :=
  (callBadgePoll h io).run mode (bodyBadgePoll io) s

/-- BADGE_POLL (14 R432). -/
def execBadgePoll (h : CmdHdr) (io : PollIo) (s : State) : Host.Outcome State Fault Refusal := .next (cmdBadgePoll .new h io s)

/-- The header, checks and slots of TAG_POST. -/
def callTagPost (h : CmdHdr) (page count : Byte) (rsv : BitVec 48) (data : List Byte) : Call :=
  { hdr := h, instr := .tagPost h page count rsv data, opc := 0x0906, who := .admin, inRecovery := false, bodyLen := 72, need := 8
    checks := [
      (!decide (page.toNat ≤ 95), invalidAt 64),
      (!decide (count = 1), rangeAt 65),
      (!decide (rsv = 0), formatAt 66)] }

/-- TAG_POST (R144; 14 R429, R430). -/
def bodyTagPost (page : Byte) (data : List Byte) (c : Call) (t : State) : State :=
  if t.pageHeld page.toNat then c.wait .tag [] t
  else
    let u := (t.withIns fun r => { r with tagSel := page.setWidth 7, latched := false, staging := bufferOf (padTo 64 data) }).tagCommit
    c.ok (leBytes 2 u.ins.version.toNat ++ List.replicate 6 0) u

/-- TAG_POST, run in a mode. -/
def cmdTagPost (mode : Mode) (h : CmdHdr) (page count : Byte) (rsv : BitVec 48) (data : List Byte) (s : State) : State :=
  (callTagPost h page count rsv data).run mode (bodyTagPost page data) s

/-- TAG_POST (14 R429). -/
def execTagPost (h : CmdHdr) (page count : Byte) (rsv : BitVec 48) (data : List Byte) (s : State) : Host.Outcome State Fault Refusal :=
  .next (cmdTagPost .new h page count rsv data s)

/-- The header, checks and slots of TAG_READ_NOTES.  A range that goes past page 127 names the count (DESIGN CHOICE, log entry 106). -/
def callTagReadNotes (h : CmdHdr) (first count : Byte) (rsv : BitVec 48) : Call :=
  { hdr := h, instr := .tagReadNotes h first count rsv, opc := 0x0907, who := .admin, bodyLen := 8, need := 72 * count.toNat
    checks := [
      (!decide (96 ≤ first.toNat ∧ first.toNat ≤ 127), invalidAt 64),
      (!decide (1 ≤ count.toNat ∧ count.toNat ≤ 32), rangeAt 65),
      (!decide (first.toNat + count.toNat ≤ 128), invalidAt 65),
      (!decide (rsv = 0), formatAt 66)] }

/-- TAG_READ_NOTES (R144; 14 R429, R430). -/
def bodyTagReadNotes (first count : Byte) (c : Call) (t : State) : State :=
  let pages := (List.range count.toNat).map fun i => first.toNat + i
  if pages.any t.pageHeld then c.wait .tag [] t
  else c.ok (pages.flatMap fun n =>
    leBytes 2 (t.listen.page n).version.toNat ++ List.replicate 6 0 ++ padTo 64 (t.listen.page n).data) t

/-- TAG_READ_NOTES, run in a mode. -/
def cmdTagReadNotes (mode : Mode) (h : CmdHdr) (first count : Byte) (rsv : BitVec 48) (s : State) : State :=
  (callTagReadNotes h first count rsv).run mode (bodyTagReadNotes first count) s

/-- TAG_READ_NOTES (14 R429). -/
def execTagReadNotes (h : CmdHdr) (first count : Byte) (rsv : BitVec 48) (s : State) : Host.Outcome State Fault Refusal :=
  .next (cmdTagReadNotes .new h first count rsv s)

/-- The header, checks and slots of TAG_SET_AUDIT_KEY. -/
def callTagSetAuditKey (h : CmdHdr) (len rsv : Word) (blob : List Byte) : Call :=
  { hdr := h, instr := .tagSetAuditKey h len rsv blob, opc := 0x0908, who := .admin, inRecovery := false
    bodyLen := ceilTo 8 (8 + len.toNat), checks := [(!decide (rsv = 0), formatAt 68)] }

/-- TAG_SET_AUDIT_KEY (14 R418): the key passes to the Insole domain and its slot is free again. -/
def bodyTagSetAuditKey (len : Word) (blob : List Byte) (c : Call) (t : State) : State :=
  match t.keys.loadBlob (padTo len.toNat blob) none with
  | .error e => c.fail (keyDetail 72 e) t
  | .ok (n, k) =>
    let good := (k.present n).any fun r => decide (r.attr.type = 1 ∧ r.attr.usage = 0xC ∧ r.attr.exportability = 0)
    let u := t.withKeys fun _ => k
    let v := if good then (u.withIns fun r => { r with audHdl := k.handleOf n }).audLoad else u
    let w := v.withKeys (Keys.free · n)
    if good then c.ok [] w else c.fail (invalidAt 72) w

/-- TAG_SET_AUDIT_KEY, run in a mode. -/
def cmdTagSetAuditKey (mode : Mode) (h : CmdHdr) (len rsv : Word) (blob : List Byte) (s : State) : State :=
  (callTagSetAuditKey h len rsv blob).run mode (bodyTagSetAuditKey len blob) s

/-- TAG_SET_AUDIT_KEY (14 R418). -/
def execTagSetAuditKey (h : CmdHdr) (len rsv : Word) (blob : List Byte) (s : State) : Host.Outcome State Fault Refusal :=
  .next (cmdTagSetAuditKey .new h len rsv blob s)

end Sys2Proof.Machine
end

