-- ==== Sys2Proof/Machine/Sole.lean ====
section
/-! DEFINITION. Meanings of the Sole ports' and the Last's commands (08, 09). -/

namespace Sys2Proof.Machine

/-! ### Error flags (08 R290) -/

abbrev erOVERSIZE := 0
abbrev erBADTYPE := 1
abbrev erBADHDR := 2
abbrev erBADLEN := 3
abbrev erCRC := 4
abbrev erSHORT := 5
abbrev erLONG := 6
abbrev erSEQGAP := 7
abbrev erOVERCREDIT := 8
abbrev erUNMATCHED := 9
abbrev erSTANDBY := 10
abbrev erLOCKLOSS := 11

/-- Set an error flag. -/
def State.portErr (n i : Nat) (s : State) : State := s.updPort n fun p => { p with err := setBit p.err i true }

/-- The port takes frames: enabled, with block lock. -/
def Port.live (p : Port) : Bool := p.en && p.lock

/-- Take the sequence of a received frame; a gap is only counted.  After TRAIN_DONE the drive's frames in flight continue its
old sequence, and its restart at 0 is no gap (R263). -/
def Port.takeSeq (q : Half) (p : Port) : Port :=
  match p.rxOld with
  | some o =>
    if q = 0 then { p with rxOld := none, rxSeq := 1 }
    else { p with rxOld := some (q + 1), err := if q = o then p.err else setBit p.err erSEQGAP true }
  | none => { p with rxSeq := q + 1, err := if q = p.rxSeq then p.err else setBit p.err erSEQGAP true }

/-- Take a received frame's sequence and the drive's view of the link. -/
def State.rxFrame (n : Nat) (fh : FrameHdr) (s : State) : State :=
  s.updPort n fun p => { p.takeSeq fh.seq with drvActive := fh.flags.getLsbD 0 }

/-- An oversize frame is discarded and the port resynchronises (R264 check 1, R265). -/
def State.oversize (n : Nat) (s : State) : State :=
  (s.portErr n erOVERSIZE).updPort n fun p => { p with resync := satAdd p.resync 1 }

/-- The CRC of a received frame is that of its header and body (R262). -/
def FrameHdrOk (type : Byte) (fh : FrameHdr) (body : List Byte) : Bool :=
  decide (fh.crc = crc32c (frameHead type fh.flags fh.seq fh.bodyLen.toNat ++ body))

/-- A frame whose CRC is wrong is discarded and counted (R264 check 7). -/
def State.badCrc (n : Nat) (s : State) : State := (s.portErr n erCRC).updPort n fun p => { p with crc := satAdd p.crc 1 }

/-- Checks 1, 3, 4 and 7 of R264 on a frame of a known type that is whole, with the body it carries; then `k` (R264). -/
def State.frameIn (n : Nat) (type : Byte) (fh : FrameHdr) (body : List Byte) (k : State → State) (s : State) : State :=
  if !(s.sole.get n).live then s
  else if 65584 < fh.bodyLen.toNat then s.oversize n
  else if fh.flags.toNat / 4 ≠ 0 then s.portErr n erBADHDR
  else if fh.bodyLen.toNat ≠ body.length then s.portErr n erBADLEN
  else if !FrameHdrOk type fh body then s.badCrc n
  else k s

/-! ### Training (08 R272-R275; 09 R303) -/

/-- The device's CAPS: version, DUAL_HOMED, every payload code, its identity (R272).  Without a membership the device number
is not stated: a free value (log entry 4). -/
def State.sendCaps (n : Nat) (s : State) : State :=
  s.draw 2 fun free t =>
    let dev := match t.fw.device with | some d => leBytes 2 d.toNat | none => free
    t.linkctl n 1 ([1, BitVec.ofNat 8 (bit (t.sole.get n).dual), 7, 0] ++ dev ++ [BitVec.ofNat 8 n] ++ List.replicate 13 0)

/-- A LOOP frame with a token, whose value the spec leaves open (R272; log entry 4). -/
def State.sendLoop (n : Nat) (s : State) : State :=
  s.draw 4 fun tok t =>
    (t.updPort n fun p => { p with token := BitVec.ofNat 32 (ofLe tok), tokens := BitVec.ofNat 32 (ofLe tok) :: p.tokens }).linkctl n 3
      (tok ++ [0, 0, 0, 0])

/-- Send the request of the current training step. -/
def State.sendRequest (n : Nat) (s : State) : State :=
  let s1 := s.updPort n fun p => { p with attempt := p.attempt + 1 }
  match (s1.sole.get n).step with
  | .caps => s1.sendCaps n
  | .geometry => s1.linkctl n 2 (List.replicate 24 0)
  | .loop _ => s1.sendLoop n

/-- The tracker is IDLE while the port is DISABLED, DOWN, TRAINING or TRAIN_FAILED (09 R295). -/
def Tracker.idle (k : Tracker) : Tracker := { k with state := 0, rej := 0, stamps := 0 }

/-- Training starts (R273 steps 1 and 2): HOLD with reason 3, whatever other hold stands, then CAPS.  A SECTOR frame that
waited for its acknowledgement stays staged and counts nothing (R279).  A drive's hold lasts until its RESUME (R270). -/
def State.startTraining (n : Nat) (s : State) : State :=
  if !(s.sole.get n).live then s
  else
    let s1 := s.updPort n fun p =>
      { p with trained := .training, step := .caps, attempt := 0, attempts := satAdd p.attempts 1,
               rttMin := none, sched := p.sched.map fun e => { e with seq := none }, trk := p.trk.idle, reach := none }
    (s1.announceHold n 3).sendRequest n

/-- Training fails (R274). -/
def State.failTraining (n : Nat) (s : State) : State := (s.updPort n fun p => { p with trained := .failed }).settleHold n

/-- The tracker enters ACQUIRE (09 R295). -/
def Tracker.acquire (k : Tracker) : Tracker := { k with state := 1, stamps := 0, rej := 0, acqs := satAdd k.acqs 1 }

/-- Training is done (R273 steps 5 and 6): ROLE, TRAIN_DONE, sequences at 0, CREDIT with limit 8; the tracker acquires. -/
def State.trainDone (n : Nat) (s : State) : State :=
  let role : Byte := BitVec.ofNat 8 (bit (portActive s (s.sole.get n)))
  let s1 := ((s.linkctl n 5 [role, 0, 0, 0]).linkctl n 6 [0, 0, 0, 0]).updPort n fun p =>
    { p with trained := .yes, delay := p.rtt / 2, txSeq := 0, rxSeq := 0, rxOld := some p.rxSeq, credit := 8, raised := 8, received := 0,
             trk := p.trk.acquire }
  (s1.sendFrame n 0x05 false (leBytes 4 8 ++ [0, 0, 0, 0])).settleHold n

/-- BLOCK_LOCK_ACQUIRED (R261, R273). -/
def execBlockLockAcquired (port : Fin 16) (s : State) : Host.Outcome State Fault Refusal :=
  .next ((s.updPort port.val fun p => { p with lock := true, trained := .no }).startTraining port.val)

/-- BLOCK_LOCK_LOST (R261, R279): the frame in progress is discarded; a read it was attributed to fails with LENGTH_SHORT and
a free count of bytes (log entry 4). -/
def execBlockLockLost (port : Fin 16) (s : State) : Host.Outcome State Fault Refusal :=
  let n := port.val
  .next (if !(s.sole.get n).lock then s
  else
    let s1 := match (s.sole.get n).frame with
      | some x => (match x.job with
        | some k => s.draw 4 fun b t => t.failJob k Status.lengthShort (BitVec.ofNat 32 (ofLe b)) 5
        | none => s)
      | none => s
    (s1.updPort n fun p =>
      { p with lock := false, trained := .no, frame := none, laneBusy := false, holding := none,
               err := setBit p.err erLOCKLOSS true, sched := p.sched.map fun e => { e with seq := none },
               trk := p.trk.idle, reach := none }))

/-- The port is at training step `st`. -/
def Port.trainingAt (p : Port) (st : TrainAt) : Bool := decide (p.trained = .training ∧ p.step = st)

/-- CAPS (R272-R274): version 1; the drive's payload code mask is kept. -/
def execCaps (port : Fin 16) (fh : FrameHdr) (version flags mask : Byte) (rsv : BitVec 32) (identity : BitVec 128) (s : State) :
    Host.Outcome State Fault Refusal :=
  let n := port.val
  let body := [1] ++ leBytes 3 rsv.toNat ++ [version, flags, mask, BitVec.ofNat 8 (rsv.toNat / 2 ^ 24)] ++ leBytes 16 identity.toNat
  .next (s.frameIn n 0x06 fh body fun s =>
    let s1 := s.rxFrame n fh
    if !(s1.sole.get n).trainingAt .caps then s1
    else if version ≠ 1 then s1.failTraining n
    else (s1.updPort n fun p => { p with mask := mask.setWidth 3, step := .geometry, attempt := 0 }).sendRequest n)

/-- GEOMETRY fails training (R274, R303). -/
def geometryBad (p : Port) : Bool :=
  !p.mask.getLsbD p.code.toNat || (!p.xany && !decide (p.code = p.xcode)) || decide (p.spp = 0)
    || decide (p.tpp.toNat < p.offs.toNat + p.pitch.toNat * p.spp.toNat)
    || !decide (2 * p.gateG < p.pitch.toNat) || decide (p.gateGA < p.gateG) || !decide (2 * p.lead.toNat < p.tpp.toNat)

/-- GEOMETRY (R272-R274, R303). -/
def execGeometry (port : Fin 16) (fh : FrameHdr) (tpp : Long) (pitch spp offs : Word) (code : Byte) (rsv : BitVec 48) (s : State) :
    Host.Outcome State Fault Refusal :=
  let n := port.val
  let body := [2] ++ leBytes 3 rsv.toNat ++ leBytes 8 tpp.toNat ++ leBytes 4 pitch.toNat ++ leBytes 4 spp.toNat ++ leBytes 4 offs.toNat
    ++ [code] ++ leBytes 3 (rsv.toNat / 2 ^ 24)
  .next (s.frameIn n 0x06 fh body fun s =>
    let s1 := s.rxFrame n fh
    if !(s1.sole.get n).trainingAt .geometry then s1
    else
      let s2 := s1.updPort n fun p =>
        { p with tpp := tpp &&& 0xFFFFFFFFFFFF, pitch := pitch, spp := spp, offs := offs, code := code.setWidth 2 }
      if decide (2 < code.toNat) || geometryBad (s2.sole.get n) then s2.failTraining n
      else (s2.updPort n fun p => { p with step := .loop 0, attempt := 0 }).sendRequest n)

/-- Nanoseconds in SLCLK, 402.83203125 MHz, rounded to nearest (R275). -/
def nsToSlclk (ns : Nat) : Nat := (2 * ns * 40283203125 + 100000000000) / 200000000000

/-- A round trip of the training in progress: RTT is the smallest (R275). -/
def Port.roundTrip (x : Nat) (p : Port) : Port :=
  let m : Half := match p.rttMin with
    | some r => if r.toNat ≤ x then r else BitVec.ofNat 16 x
    | none => BitVec.ofNat 16 (min x 65535)
  { p with rttMin := some m, rtt := m }

/-- LOOP_ECHO (R273-R275): `count` is the SLCLK count of the exchange.  While the port trains, a turnaround above 500 ns or a
token the device has not sent fails training; an echo of an earlier token is passed over (R274). -/
def execLoopEcho (port : Fin 16) (fh : FrameHdr) (token : Word) (turnaroundNs : Half) (rsv : BitVec 40) (count : Nat) (s : State) :
    Host.Outcome State Fault Refusal :=
  let n := port.val
  let body := [4] ++ leBytes 3 rsv.toNat ++ leBytes 4 token.toNat ++ leBytes 2 turnaroundNs.toNat ++ leBytes 2 (rsv.toNat / 2 ^ 24)
  .next (s.frameIn n 0x06 fh body fun s =>
    let s1 := s.rxFrame n fh
    let p := s1.sole.get n
    if p.trained ≠ .training then s1
    else if 500 < turnaroundNs.toNat ∨ p.tokens.contains token = false then s1.failTraining n
    else match p.step with
    | .loop k =>
      if token ≠ p.token then s1
      else
        let s2 := s1.updPort n fun p =>
          { p.roundTrip (count - nsToSlclk turnaroundNs.toNat) with step := .loop (k + 1), attempt := 0 }
        if 16 ≤ k + 1 then s2.trainDone n else s2.sendRequest n
    | _ => s1)

/-- TRAINING_ANSWER_TIMEOUT (R274): a request is sent three times. -/
def execTrainingAnswerTimeout (port : Fin 16) (s : State) : Host.Outcome State Fault Refusal :=
  let p := s.sole.get port.val
  .next (if p.live && decide (p.trained = .training) then
    (if 3 ≤ p.attempt then s.failTraining port.val else s.sendRequest port.val)
  else s)

/-- RETRAIN_TIMER (R274): 100 ms after a failure, while lock is kept. -/
def execRetrainTimer (port : Fin 16) (s : State) : Host.Outcome State Fault Refusal :=
  .next (if (s.sole.get port.val).trained = .failed then s.startTraining port.val else s)

/-- SOL_RETRAIN (R290): machine level only. -/
def execSolRetrain (port : Fin 16) (level : Level) (s : State) : Host.Outcome State Fault Refusal :=
  .next (if level = .machine then s.startTraining port.val else s)

/-! ### The tracker (09 R293-R299) -/

/-- A stamp that restarts or begins an acquisition (R295 step 1). -/
def Tracker.first (zPass : Half) (zFine : Nat) (ts : BitVec 48) (k : Tracker) : Tracker :=
  { k with p0 := zFine * 2 ^ 16, pass0 := zPass, t0 := ts, stamps := 1, rej := 0, accept := satAdd k.accept 1 }

/-- Bring a position into [0, T) with the pass adjusted (R296). -/
def wrapPos (turn : Nat) (pass : Half) (x : Int) : Half × Nat := (pass + BitVec.ofInt 16 (x / turn), imod x turn)

/-- The residual word of LST_RESID (R314). -/
def residWord (r : Int) : Word :=
  let q := r / 65536
  BitVec.ofInt 32 (if 0x7FFFFFFF < q then 0x7FFFFFFF else if q < -0x7FFFFFFF then -0x7FFFFFFF else q)

/-- Arithmetic truncation toward zero of a quotient. -/
def truncDiv (a : Int) (b : Nat) : Int := if 0 ≤ a then a / b else -((-a) / b)

/-- The gate of R296: the residual when the stamp is accepted, with the value LST_RESID takes. -/
def Port.gateStamp (p : Port) (g : Nat) (zPass : Half) (zFine : Nat) (ts : BitVec 48) : Option Int × Word :=
  let dt := (ts - p.trk.t0).toNat
  let (pp, pf) := p.predict ts
  let dpass := sdiff16 zPass pp
  if dt = 0 ∨ 2 ^ 47 ≤ dt then (none, p.trk.resid)
  else if dpass < -1 ∨ 1 < dpass then (none, 0x80000000)
  else
    let r : Int := (dpass * p.tpp.toNat + zFine) * 65536 - pf
    (if r.natAbs ≤ g * 65536 then some r else none, residWord r)

/-- The update of an accepted stamp (R296, R297). -/
def Port.applyStamp (p : Port) (r : Int) (ts : BitVec 48) : Tracker :=
  let k := p.trk
  let (pp, pf) := p.predict ts
  let dt := (ts - k.t0).toNat
  let (pass, p0) := wrapPos p.turn pp (pf + (p.alpha.toNat * r) / 65536)
  let v : Int := k.v + truncDiv (p.beta.toNat * r) (dt * 65536)
  let c : Int := min (max v p.vlo.toNat) p.vhi.toNat
  { k with p0 := p0, pass0 := pass, v := c.toNat, t0 := ts, rej := 0,
           clamp := if c = v then k.clamp else satAdd k.clamp 1, accept := satAdd k.accept 1 }

/-- The velocity of the second stamp of an acquisition, when it lies within the bounds (R295 step 2). -/
def Port.secondV (p : Port) (zPass : Half) (zFine : Nat) (ts : BitVec 48) : Option Nat :=
  let dt := (ts - p.trk.t0).toNat
  let z : Int := zFine * 65536 + sdiff16 zPass p.trk.pass0 * p.turn
  let v := truncDiv (z - p.trk.p0) dt
  if dt = 0 ∨ 2 ^ 47 ≤ dt then none
  else if v < p.vlo.toNat ∨ p.vhi.toNat < v then none
  else some v.toNat

/-- The count of stamps reaches ACQ_N: TRACK (R295). -/
def Port.toTrack (p : Port) (k : Tracker) : Tracker := if p.acqCount ≤ k.stamps then { k with state := 2 } else k

/-- A stamp goes through the tracker (R292, R295, R296, R298). -/
def Port.stamp (p : Port) (zPass : Half) (zFine : Nat) (tRx : BitVec 48) : Tracker :=
  let k := p.trk
  let ts := tRx - BitVec.ofNat 48 p.delay.toNat
  if k.state = 0 then k
  else if k.state = 1 then
    match k.stamps with
    | 0 => p.toTrack (k.first zPass zFine ts)
    | 1 =>
      match p.secondV zPass zFine ts with
      | none => k.first zPass zFine ts
      | some v => p.toTrack { k with p0 := zFine * 65536, pass0 := zPass, v := v, t0 := ts, stamps := 2,
                                     accept := satAdd k.accept 1 }
    | m + 2 =>
      match p.gateStamp p.gateGA zPass zFine ts with
      | (some r, w) => p.toTrack { p.applyStamp r ts with stamps := m + 3, resid := w }
      | (none, w) => { k.first zPass zFine ts with reject := satAdd k.reject 1, resid := w }
  else
    match p.gateStamp p.gateG zPass zFine ts with
    | (some r, w) => { p.applyStamp r ts with resid := w }
    | (none, w) =>
      if 2 ≤ k.rej.toNat then { k.acquire with reject := satAdd k.reject 1, resid := w }
      else { k with rej := k.rej + 1, reject := satAdd k.reject 1, resid := w }

/-- A stamp goes through the tracker in the cycle `tUpd`: the windows that the prediction has passed before it stay passed, and
those at or behind the prediction with which TRACK is entered do not open in this pass (R306). -/
def Port.stampAt (p : Port) (zPass : Half) (zFine : Nat) (tRx tUpd : BitVec 48) : Port :=
  let p0 := if p.trk.state = 2 then p.reachTo (p.leadAt (tUpd - 1)) else p
  let q : Port := { p0 with trk := { p.stamp zPass zFine tRx with updAt := tUpd } }
  if q.trk.state = 2 ∧ p.trk.state ≠ 2 then q.reachTo (q.leadAt tUpd) else q

/-- STAMP_TIMEOUT (R298, R299): TRACK is left; an acquisition restarts.  With a stamp whose t_rx falls in the same cycle (`tie`)
the expiry has no effect. -/
def execStampTimeout (port : Fin 16) (tie : Bool) (s : State) : Host.Outcome State Fault Refusal :=
  let n := port.val
  let k := (s.sole.get n).trk
  .next (if k.state = 0 ∨ tie = true then s
  else (s.updPort n fun p =>
    let q := if p.trk.state = 2 then p.reachTo (p.leadAt s.sole.time) else p
    { q with trk := { (if p.trk.state = 2 then p.trk.acquire else { p.trk with stamps := 0 }) with tmoCnt := satAdd p.trk.tmoCnt 1 } }).settleHold n)

/-- The device time moves on to `t`; a time that lies behind it leaves it as it is (R291). -/
def Sole.timeTo (t : BitVec 48) (x : Sole) : Sole := if (t - x.time).toNat < 2 ^ 47 then { x with time := t } else x

/-! ### Acknowledgements (08 R279) -/

/-- Handle one schedule entry under the acknowledgement fields of a POS frame (R279).  A sector that the drive skipped on a port
in host hold stays staged no longer (06 R206). -/
def State.ackEntry (n : Nat) (ackSeq : Half) (skipMask : Word) (s : State) (e : SchedEntry) : State :=
  match e.seq with
  | none => s
  | some q =>
    let d := (ackSeq - q).toNat
    if d ≤ 31 then
      if skipMask.getLsbD d then
        let s1 := s.updPort n fun p => { p with skips := satAdd p.skips 1 }
        if (s.sole.get n).hold then s1.failJob e.job Status.portHold (BitVec.ofNat 32 n) 7 else s1.deferEntry n e.job
      else
        match s.rings.job e.job with
        | none => s
        | some j => s.tokenise e.job Status.ok 0 0 (BitVec.ofNat 32 (sectorLen j.desc.code.toNat))
    else if d < 0x8000 then s.deferEntry n e.job
    else s

/-- POS (R267-R269, R279; 09 R292-R299). -/
def execPos (port : Fin 16) (fh : FrameHdr) (fine : BitVec 48) (pass : Half) (ackSeq : Half) (flags rsv : Byte) (skipMask : Word)
    (tRx tUpd : BitVec 48) (s : State) : Host.Outcome State Fault Refusal :=
  let n := port.val
  let body := leBytes 6 fine.toNat ++ leBytes 2 pass.toNat ++ leBytes 2 ackSeq.toNat ++ [flags, rsv] ++ leBytes 4 skipMask.toNat
  .next (s.frameIn n 0x01 fh body fun s =>
    if (s.sole.get n).trained = .yes ∧ (s.sole.get n).tpp.toNat ≤ fine.toNat then s.portErr n erBADHDR
    else
      let s1 := (s.rxFrame n fh).withSole (Sole.timeTo tUpd)
      let s2 := s1.updPort n fun p => p.stampAt pass fine.toNat tRx tUpd
      let s3 := if flags.getLsbD 0 then (s2.sole.get n).sched.foldl (State.ackEntry n ackSeq skipMask) s2 else s2
      s3.settleHold n)

/-! ### Holds from the drive, IDLE and bad frames (08 R264-R266, R270, R271) -/

/-- HOLD_RESUME (R270): the device answers a drive's HOLD with HOLD, and its RESUME with RESUME, reason 2. -/
def execHoldResume (port : Fin 16) (fh : FrameHdr) (kind reason : Byte) (rsv : Half) (s : State) : Host.Outcome State Fault Refusal :=
  let n := port.val
  .next (s.frameIn n 0x04 fh ([kind, reason] ++ leBytes 2 rsv.toNat) fun s =>
    let s1 := s.rxFrame n fh
    if kind = 0 ∧ reason = 2 then (s1.updPort n fun p => { p with drvHold := true }).announceHold n 2
    else if kind = 1 ∧ (s1.sole.get n).drvHold = true then
      let stood := (s1.sole.get n).holding
      let s2 := (s1.updPort n fun p => { p with drvHold := false }).sendResume n 2
      (s2.updPort n fun p => { p with holding := if stood = some 2 then none else stood }).settleHold n
    else s1)

/-- IDLE (R264, R266): checked and discarded; it takes no sequence (R263). -/
def execIdle (port : Fin 16) (fh : FrameHdr) (s : State) : Host.Outcome State Fault Refusal :=
  .next (s.frameIn port.val 0x0F fh [] fun s =>
    s.updPort port.val fun p => { p with drvActive := fh.flags.getLsbD 0 })

/-- The body lengths of a type from a drive, and of a LINKCTL subtype from a drive (R263, R272); any other subtype gives no
length. -/
def bodyLenOk (type sub : Byte) (n : Nat) : Bool :=
  match type.toNat with
  | 0x01 => decide (n = 16)
  | 0x02 => decide (n = 4144 ∨ n = 16432 ∨ n = 65584)
  | 0x04 => decide (n = 4)
  | 0x06 => (match sub.toNat with
    | 1 => decide (n = 24)
    | 2 => decide (n = 28)
    | 4 => decide (n = 12)
    | _ => true)
  | 0x0F => decide (n = 0)
  | _ => false

/-- A fault in the first body bytes (R264 check 5, R267, R272): of a sector header, of a position, or a subtype that no drive
sends. -/
def bodyHeadBad (type : Byte) (len : Nat) (body : List Byte) : Bool :=
  match type.toNat with
  | 0x02 =>
    let code := ofLe (sliceBytes body 2 2)
    decide (ofLe (sliceBytes body 0 2) ≠ 0x0153 ∨ 3 ≤ code ∨ len ≠ sectorLen code)
  | 0x06 => !decide (body.getD 0 0 = 1 ∨ body.getD 0 0 = 2 ∨ body.getD 0 0 = 4)
  | _ => false

/-- Types a drive may send (R263). -/
def driveType (type : Byte) : Bool := [0x01, 0x02, 0x04, 0x06, 0x0F].contains type.toNat

/-- Raise the credit limit after a SECTOR frame is consumed (R271). -/
def State.raiseCredit (n : Nat) (s : State) : State := s.updPort n fun p => { p with raised := p.raised + 1 }

/-- BAD_FRAME (R264, R272): a frame that fails a check, with its bytes after the header up to its last CRC byte, and the bytes
after them.  A SECTOR frame counts for the credits (R271). -/
def execBadFrame (port : Fin 16) (type : Byte) (fh : FrameHdr) (data : List Byte) (excess : Nat) (s : State) :
    Host.Outcome State Fault Refusal :=
  let n := port.val
  let len := fh.bodyLen.toNat
  let body := data.take len
  let s0 := if type = 0x02 ∧ (s.sole.get n).live = true then
    (s.updPort n fun p => { p with received := p.received + 1 }).raiseCredit n else s
  .next (if !(s.sole.get n).live then s
  else if 65584 < fh.bodyLen.toNat then s0.oversize n
  else if !driveType type then s0.portErr n erBADTYPE
  else if fh.flags.toNat / 4 ≠ 0 then s0.portErr n erBADHDR
  else if !bodyLenOk type (data.getD 0 0) len then s0.portErr n erBADLEN
  else if bodyHeadBad type len body then s0.portErr n erBADHDR
  else if data.length < len + 4 then s0.portErr n erSHORT
  else if 0 < excess then (s0.portErr n erLONG).updPort n fun p => { p with excess := satAdd p.excess excess }
  else if !FrameHdrOk type { fh with crc := wordOf (data.drop len) 0 } body then s0.badCrc n
  else s0)

/-- IDLE_SEND_TIMER (R266). -/
def execIdleSendTimer (port : Fin 16) (s : State) : Host.Outcome State Fault Refusal :=
  .next (if (s.sole.get port.val).live then s.sendFrame port.val 0x0F false [] else s)

/-- CREDIT_SEND (R271): the limit raised so far. -/
def execCreditSend (port : Fin 16) (s : State) : Host.Outcome State Fault Refusal :=
  let n := port.val
  .next (if (s.sole.get n).live && decide ((s.sole.get n).trained = .yes) then
    (s.sendFrame n 0x05 false (leBytes 4 (s.sole.get n).raised.toNat ++ [0, 0, 0, 0])).updPort n fun p => { p with credit := p.raised }
  else s)

/-! ### Sector frames from the drive (08 R281-R283; 06 R207) -/

/-- The waiting read of port `n` with a sector address that entered the table first (R207). -/
def Rings.waitingRead (rs : Rings) (n : Nat) (addr : Long) : Option Nat :=
  ((rs.parkedOn n).filter fun p => decide (p.2.desc.paramA = addr)).foldl (fun m p => match m with
    | none => some (p.1, p.2.parkSeq)
    | some (k, q) => if p.2.parkSeq < q then some (p.1, p.2.parkSeq) else some (k, q)) none |>.map Prod.fst

/-- The handle bound to a volume and key identifier (R282). -/
def Port.bound (p : Port) (vol : BitVec 24) (keyId : Long) : Option Word :=
  (p.vols.find? fun x => decide (x.2.valid = true ∧ x.2.vol = vol ∧ x.2.keyId = keyId)).map fun x => x.2.handle

/-- The 32 header bytes of a sector (R276). -/
def sectorHeadBytes (format codeWord : Half) (keyId : Long) (iv : BitVec 96) (addr : Long) : List Byte :=
  leBytes 2 format.toNat ++ leBytes 2 codeWord.toNat ++ leBytes 8 keyId.toNat ++ leBytes 12 iv.toNat ++ leBytes 8 addr.toNat

/-- SECTOR (R264 checks 1-6, R271, R281): the header of a SECTOR frame has arrived.  The frame stays in progress until its
terminate block, which returns the credit of every frame but an OVERCREDIT one (R271). -/
def execSector (port : Fin 16) (fh : FrameHdr) (format codeWord : Half) (keyId : Long) (iv : BitVec 96) (addr : Long) (s : State) :
    Host.Outcome State Fault Refusal :=
  let n := port.val
  let p := s.sole.get n
  let hdr := sectorHeadBytes format codeWord keyId iv addr
  let start (job : Option Nat) (discard raises : Bool) (s : State) : State := s.updPort n fun p =>
    { p with received := p.received + 1
             frame := some { fh := fh, hdr := hdr, code := codeWord.setWidth 2, job := job, discard := discard, raises := raises } }
  let bad := start none true true s
  .next (if !p.live then s
  else if 65584 < fh.bodyLen.toNat then bad.oversize n
  else if fh.flags.toNat / 4 ≠ 0 then bad.portErr n erBADHDR
  else if !bodyLenOk 0x02 0 fh.bodyLen.toNat then bad.portErr n erBADLEN
  else if bodyHeadBad 0x02 fh.bodyLen.toNat hdr then bad.portErr n erBADHDR
  else if !decide ((p.credit - p.received).toNat < 2 ^ 31) || decide (p.credit = p.received) then
    ((start none true false s).rxFrame n fh).portErr n erOVERCREDIT
  else if !portActive s p then (bad.rxFrame n fh).portErr n erSTANDBY
  else match s.rings.waitingRead n addr with
    | none => ((bad.rxFrame n fh).portErr n erUNMATCHED).updPort n fun p => { p with unmatched := satAdd p.unmatched 1 }
    | some k =>
      ((start (some k) false true s).rxFrame n fh).withRings fun rs =>
        rs.updJob k fun j => { j with pos := .key, frameHandle := p.bound (BitVec.ofNat 24 (addr.toNat / 2 ^ 40)) keyId })

/-- How the end of a SECTOR frame is counted (R264 check 7, R283, R290): short, long, or with a wrong CRC. -/
def Port.countEnd (short : Bool) (excess : Nat) (crcOk : Bool) (p : Port) : Port :=
  if short then { p with err := setBit p.err erSHORT true }
  else if 0 < excess then { p with err := setBit p.err erLONG true, excess := satAdd p.excess excess }
  else if !crcOk then { p with err := setBit p.err erCRC true, crc := satAdd p.crc 1 }
  else p

/-- SECTOR_FRAME_END (R264 check 7, R271, R283): the terminate block of the frame in progress, with its bytes after the sector
header up to its last CRC byte, and the bytes after them.  The read the frame is attributed to takes the ciphertext and tag. -/
def execSectorFrameEnd (port : Fin 16) (data : List Byte) (excess : Nat) (s : State) : Host.Outcome State Fault Refusal :=
  let n := port.val
  .next (match (s.sole.get n).frame with
    | none => s
    | some x =>
      let body := sectorLen x.code.toNat - 32
      let short := decide (data.length < body + 4)
      let crcOk := FrameHdrOk 0x02 { x.fh with crc := wordOf (data.drop body) 0 } (x.hdr ++ data.take body)
      let s0 := s.updPort n fun p => { p with frame := none }
      let s1 := if x.raises then s0.raiseCredit n else s0
      if x.discard then s1
      else
        let counted := s1.updPort n (Port.countEnd short excess crcOk)
        match x.job.bind fun k => (s1.rings.job k).map fun j => (k, j) with
        | none => counted
        | some (k, j) =>
          if j.desc.code.toNat ≠ x.code.toNat then s1.failJob k Status.mediaFrame (BitVec.ofNat 32 n) 5
          else if short then counted.failJob k Status.lengthShort (BitVec.ofNat 32 (min (32 + data.length) (body + 32))) 5
          else if 0 < excess then counted.failJob k Status.lengthLong (BitVec.ofNat 32 excess) 5
          else if !crcOk then counted.failJob k Status.mediaFrame (BitVec.ofNat 32 n) 5
          else counted.withRings fun rs => rs.updJob k fun j => { j with frameEnd := some true, input := x.hdr ++ data.take body })

/-! ### Windows (09 R305-R311) and the hold limit (R312) -/

/-- The slots of scheduled entries whose point is reached at `t`, lowest first (R306, R313). -/
def Port.openSlots (p : Port) (t : BitVec 48) : List Nat :=
  ((p.sched.map fun e => p.slot e.addr).eraseDups.mergeSort).filter fun k => p.crosses k t

/-- The oldest entry for slot `k` (R308). -/
def Port.oldest (p : Port) (k : Nat) : Option SchedEntry := p.sched.find? fun e => decide (p.slot e.addr = k)

/-- The oldest entry of a slot is sent (R308, R309).  The staging DMA reads the sector first; where its MPU stops it, no frame goes out
and the entry waits (19 R547, R551; DESIGN CHOICE, log entry 113). -/
def State.sendSector (n : Nat) (e : SchedEntry) (s : State) : State :=
  let (g, c) := e.granule.getD (0, 0)
  let len := match s.rings.job e.job with | some j => sectorLen j.desc.code.toNat | none => 64 * c
  if (s.mpu 12).stopped.isSome then s
  else match s.dmaRefused 12 false (granAddr n g) len with
    | some (acc, r) => s.dmaFault 12 acc r
    | none =>
      let q := (s.sole.get n).txSeq
      ((((s.sendFrame n 0x02 e.sent (Bank.readBytes s.mem.sram (granAddr n g) len)).updEntry n e.job fun x =>
        { x with sent := true, seq := some q }).updPort n fun p =>
        { p with laneBusy := true, sentCnt := satAdd p.sentCnt 1 }).withRings fun rs =>
          rs.updJob e.job fun j => { j with pos := .sent })

/-- A window of slot `k` opens (R308-R310). -/
def State.openWindow (n : Nat) (s : State) (k : Nat) : State :=
  let p := s.sole.get n
  match p.oldest k with
  | none => s
  | some e =>
    if p.laneBusy then s.deferEntry n e.job
    else if !e.staged then
      ((s.sendFrame n 0x03 false (leBytes 8 e.addr.toNat)).updPort n fun p =>
        { p with trk := { p.trk with skipTx := satAdd p.trk.skipTx 1 } }).deferEntry n e.job
    else s.sendSector n e

/-- WINDOW_OPEN (R306, R308): the cycle `t`; the prediction moves on in TRACK, and the windows it reaches open on an ACTIVE port
that is not held. -/
def execWindowOpen (port : Fin 16) (t : BitVec 48) (s : State) : Host.Outcome State Fault Refusal :=
  let n := port.val
  let p := s.sole.get n
  let s0 := s.withSole (Sole.timeTo t)
  .next (if p.trk.state = 2 ∧ 0 < p.spp.toNat ∧ 0 < p.tpp.toNat then
    let s1 := s0.updPort n fun q => q.reachTo (p.leadAt t)
    if canSend s n then (p.openSlots t).foldl (State.openWindow n) s1 else s1
  else s0)

/-- SECTOR_FRAME_SENT (R309): the lane is free again. -/
def execSectorFrameSent (port : Fin 16) (s : State) : Host.Outcome State Fault Refusal :=
  .next (s.updPort port.val fun p => { p with laneBusy := false })

/-- HOLD_LIMIT (R312): every scheduled write of a port that cannot send completes with PORT_HOLD. -/
def execHoldLimit (port : Fin 16) (s : State) : Host.Outcome State Fault Refusal :=
  let n := port.val
  let p := s.sole.get n
  let st := portState s p
  .next (if st = 1 ∨ st = 2 ∨ st = 3 ∨ st = 6 then
    (p.sched.foldl (fun (t : State) e => t.failJob e.job Status.portHold (BitVec.ofNat 32 n) 7) s).updPort n fun p =>
      { p with holdOver := true }
  else s)

end Sys2Proof.Machine
end

