-- ==== Sys2Proof/Machine/Welt.lean ====
section
/-! DEFINITION. The Welt link and the pair (16): sessions, mirroring, heartbeats, takeover and fencing. -/

namespace Sys2Proof.Machine

/-! ### Roles and the status page (08 R284; 03 R86) -/

/-- PAIR on the status page (03 R86). -/
def pagePair : PairState → BitVec 2
  | .unpaired | .linking | .fenced => 0
  | .resync | .paired | .carrying => 1
  | .degraded => 2
  | .given => 3

/-- A change of the pair that announces every port role it changes (08 R284), settles the holds, and shows the pair on the
status page.  Only a main-domain reset leaves FENCED (R469). -/
def State.pairChange (f : State → State) (s : State) : State :=
  if s.welt.state = .fenced then s else
  let t := f s
  let t1 := (List.range 16).foldl (fun (u : State) n =>
    let p := u.sole.get n
    if portActive s (s.sole.get n) = portActive u p then u
    else (u.linkctl n 5 [BitVec.ofNat 8 (bit (portActive u p)), 0, 0, 0]).settleHold n) t
  if pagePair s.welt.state = pagePair t.welt.state then t1
  else t1.statusPages fun p => { p with pair := pagePair t.welt.state }

/-- Enter a pair state. -/
def State.enterPair (st : PairState) (s : State) : State := s.pairChange (State.withWelt fun w => { w with state := st })

/-! ### Frames (R460) -/

/-- Acknowledge mirror sequence `seq`. -/
def State.weltAck (seq : Word) (s : State) : State := s.weltSealed s.welt.lane 0x25 (leBytes 4 seq.toNat ++ [0, 0, 0, 0])

/-! ### Sessions (R461, R462) -/

/-- The key in a reserved slot, and its identifier, 0 where the slot is empty. -/
def State.slotMat (s : State) (n : Nat) : List Byte := ((s.keys.present n).map KeyRun.material).getD []
def State.slotId (s : State) (n : Nat) : Long := ((s.keys.present n).map KeyRun.keyId).getD 0

/-- The link is up: enabled with a lane in block lock, on a member that is not FENCED. -/
def Welt.up (w : Welt) : Bool := w.en && !decide (w.lanes = 0) && !decide (w.state = .fenced)

/-- Both heartbeat words exist (R468). -/
def Welt.words (w : Welt) : Bool := w.ownWord && w.partnerWord

/-- The HELLO body. -/
def State.helloBody (s : State) : List Byte :=
  [1, 0] ++ leBytes 2 s.devNo.toNat ++ leBytes 4 s.boot.epoch.toNat ++ leBytes 8 (s.slotId 2).toNat ++ leBytes 8 (s.slotId 3).toNat
    ++ padTo 32 s.welt.random

/-- LINKING while a session forms on a member with a pair key, once both heartbeat words exist (R461, R468). -/
def State.weltLink (s : State) : State :=
  if s.welt.up && decide (s.welt.state = .unpaired) && s.welt.words && (s.keys.present 3).isSome then s.enterPair .linking else s

/-- R461 step 1: a session starts to form with a fresh random value and HELLO on both lanes. -/
def State.weltStart (s : State) : State :=
  if s.welt.up then
    s.fwDraw false 32 fun r t =>
      let t1 := (t.withWelt fun w => { w with random := r, hello := none, sessionKey := none, confirmed := false }).weltLink
      t1.weltBoth 0x21 t1.helloBody
  else s

/-- Raise alarm source 55 of a kind on a lane (R462). -/
def State.weltAlarm (kind lane : Nat) (s : State) : State := s.raise 55 (BitVec.ofNat 32 (lane + 256 * kind))

/-- A protected frame whose counter is not above the last one accepted (R462, kind 2). -/
def State.weltReplay (lane : Nat) (s : State) : State :=
  ((s.withWelt fun w => { w with err := setBit w.err 2 true }).weltAlarm 2 lane).weltStart

/-- How a received frame stands (R460, R462): its CRC is bad; no session takes it; its tag fails; its counter is not above the last one
accepted; or it opens to its plaintext. -/
inductive WeltGot where
  | crc
  | closed
  | tag
  | replay
  | plain (b : List Byte)
  deriving DecidableEq, Repr

/-- The header of a received frame. -/
def weltHead (type : Byte) (fr : WeltRx) : List Byte := frameHead type fr.flags fr.seq fr.body.length

/-- The CRC at the end of a received frame is that of its header and body. -/
def weltCrcOk (type : Byte) (fr : WeltRx) : Bool := decide (fr.crc = crc32c (weltHead type fr ++ fr.body))

/-- A protected frame under the session key, with the header as AAD and the partner's device number in the IV (R460, R462); only a
CONFIRM comes before the session is confirmed. -/
def State.weltGot (type : Byte) (fr : WeltRx) (s : State) : WeltGot :=
  if !weltCrcOk type fr then .crc
  else match s.welt.sessionKey with
    | none => .closed
    | some key =>
      let n := fr.body.length - 16
      if type ≠ 0x22 ∧ s.welt.confirmed = false then .closed
      else match gcmOpen key (weltIv s.welt.partner fr.counter) (weltHead type fr) (fr.body.take n) (fr.body.drop n) with
        | none => .tag
        | some p => if fr.counter.toNat < s.welt.rxNext then .replay else .plain p

/-- What a frame that is discarded leaves (R462). -/
def State.weltDiscard (g : WeltGot) (lane : Nat) (s : State) : State :=
  match g with
  | .crc => s.withWelt fun w => { w with err := setBit w.err 0 true, crcFail := satAdd w.crcFail 1 }
  | .tag => ((s.withWelt fun w => { w with err := setBit w.err 1 true, tagFail := satAdd w.tagFail 1 }).weltAlarm 1 lane).weltStart
  | .replay => s.weltReplay lane
  | .closed | .plain _ => s

/-- A frame arrives on a lane of the link that is up. -/
def State.weltHears (fr : WeltRx) (s : State) : Bool := s.welt.up && s.welt.lanes.getLsbD fr.lane.val

/-- Take a protected frame of a confirmed session (R460, R462). -/
def State.weltTake (type : Byte) (fr : WeltRx) (k : List Byte → State → State) (s : State) : State :=
  if !s.weltHears fr then s
  else match s.weltGot type fr with
    | .plain p => k p (s.withWelt fun w => { w with rxNext := fr.counter.toNat + 1 })
    | g => s.weltDiscard g fr.lane.val

/-- Take a clear frame (R460, R462). -/
def State.weltClear (type : Byte) (fr : WeltRx) (k : List Byte → State → State) (s : State) : State :=
  if !s.weltHears fr then s else if weltCrcOk type fr then k fr.body s else s.weltDiscard .crc fr.lane.val

/-! ### RESYNC (R467) -/

/-- Jobs that hold a context, and jobs whose sector is staged. -/
def Rings.opened (rs : Rings) : List (Nat × Context) := rs.list.filterMap fun p => p.2.ctx.map fun x => (p.1, x)
def Rings.stagedJobs (rs : Rings) : List (Nat × Job) := rs.list.filter fun p => decide (p.2.pos = .staged ∨ p.2.pos = .sent)

/-- The records of a ring's open work (R467, R474): its contexts and staged sectors. -/
def State.openRecords (p : Nat → Bool) (s : State) : List MirrorRec :=
  (s.rings.opened.filter fun x => p (jobRing x.1)).map (fun x => contextRecord x.1 x.2)
    ++ (s.rings.stagedJobs.filter fun x => p (jobRing x.1)).map fun x => s.stagedRecord x.2.desc.port.toNat x.1 x.2

/-- The aliased keys: every run outside the reserved slots, by head slot (R464). -/
def Keys.aliased (k : Keys) : List (Nat × KeyRun) :=
  k.runs.filterMap fun p => if p.1 < 64 then none else (k.present p.1).map fun r => (p.1, r)

/-- The windows of a function (06 R186). -/
def Rings.windowRecs (rs : Rings) : List MirrorRec :=
  (List.range 512).filterMap fun i =>
    if Bank.get 0 rs.wbase i = 0 ∧ Bank.get 0 rs.wlim i = 0 then none
    else some (.window (Fin.ofNat _ (i % 64)) (Fin.ofNat _ (i / 64)) (Bank.get 0 rs.wbase i) (Bank.get 0 rs.wlim i))

/-- The records of a full state but for the leases: keys, rings and windows, counts, contexts, staged sectors, ports and volumes, and
the log head (R465, R467). -/
def State.fullRecords (s : State) : List MirrorRec :=
  let own := (s.rings.ring.filter fun p => decide (p.2.state ≠ 0 ∧ p.2.state ≠ 4)).map Prod.fst
  s.keys.aliased.map (fun p => s.keys.loadRec p.1 p.2) ++ own.map (fun r => s.rings.configRec r false) ++ s.rings.windowRecs
    ++ own.map s.rings.countsRec ++ s.openRecords own.contains
    ++ (List.range 16).map (fun n => s.portRec n none)
    ++ (List.range 16).flatMap (fun n => (s.sole.get n).vols.map fun v => s.portRec n (some v.2))
    ++ [.logHead (s.log.next - 1) s.log.head]

/-- Enter RESYNC: the complete state goes to the partner, with a lease of every key that reserves counters (R467; 05 R172). -/
def State.resync (s : State) : State :=
  let t := s.fullRecords.foldl (fun t r => t.sendRecord r) (s.enterPair .resync)
  (s.keys.aliased.filter fun p => needsSalt p.2.attr && !attrExhausted p.2.attr).foldl (fun t p => t.leaseGrant p.1 p.2) t

/-- The pair goes on once its session is confirmed and both heartbeat words exist (R461 step 5, R468); with `linkBack` also
from DEGRADED. -/
def State.weltAdvance (linkBack : Bool) (s : State) : State :=
  let t := s.weltLink
  if t.welt.up && t.welt.confirmed && t.welt.words
      && decide (t.welt.state = .linking ∨ linkBack = true ∧ t.welt.state = .degraded) then t.resync
  else t

/-! ### Link and session commands -/

/-- WLT_CFG_WRITE (R484): machine level; without EN no lane is up. -/
def execWltCfgWrite (level : Level) (v : Word) (s : State) : Host.Outcome State Fault Refusal :=
  .next (if level = .machine then
    s.withWelt fun w => { w with en := v.getLsbD 0, lanes := if v.getLsbD 0 then w.lanes else 0 }
  else s)

/-- WELT_LANE_LOCK (R459, R461): when the link comes up a session forms. -/
def execWeltLaneLock (l : Fin 2) (s : State) : Host.Outcome State Fault Refusal :=
  .next (if s.welt.en && !s.welt.lanes.getLsbD l.val then
    let t := s.withWelt fun w => { w with lanes := setBit w.lanes l.val true }
    if s.welt.lanes = 0 then t.weltStart else t
  else s)

/-- WELT_LANE_LOSS (R459): LANEDOWN and an event-log record; the pair state does not change. -/
def execWeltLaneLoss (l : Fin 2) (s : State) : Host.Outcome State Fault Refusal :=
  .next (if s.welt.lanes.getLsbD l.val then
    (s.withWelt fun w => { w with lanes := setBit w.lanes l.val false, err := setBit w.err (4 + l.val) true }).eventFree 0x50 8
  else s)

/-- No session forms with this HELLO (R461 step 2). -/
def helloBad (s : State) (b : Hello) : Bool :=
  !decide (b.dkId = s.slotId 2) || !decide (b.pairId = s.slotId 3) || decide (b.device = s.devNo)

/-- Own rings STOPPED (R473, R474). -/
def Rings.stopAll (rs : Rings) : Rings :=
  { rs with ring := rs.ring.map fun p => (p.1, if p.2.state = 1 then { p.2 with state := 2 } else p.2) }

/-- The 56 bytes of a HELLO body (R460). -/
def Hello.ofBytes (b : List Byte) (carrying : Bool) : Hello :=
  { version := b.getD 0 0, device := BitVec.ofNat 16 (ofLe (sliceBytes b 2 2)), epoch := BitVec.ofNat 32 (ofLe (sliceBytes b 4 4)),
    dkId := BitVec.ofNat 64 (ofLe (sliceBytes b 8 8)), pairId := BitVec.ofNat 64 (ofLe (sliceBytes b 16 8)),
    random := BitVec.ofNat 256 (ofLe (sliceBytes b 24 32)), carrying := carrying }

/-- HELLO (R461 step 2, R473): a mismatch forms no session; a partner that is CARRYING makes this member GIVEN.  A body that is not one of
version 1 is discarded (DESIGN CHOICE, log entry 131). -/
def execHello (fr : WeltRx) (carrying : Bool) (s : State) : Host.Outcome State Fault Refusal :=
  .next (s.weltClear 0x21 fr fun body s =>
    let b := Hello.ofBytes body carrying
    if body.length ≠ 56 ∨ b.version ≠ 1 then s else
    let s1 := s.withWelt fun w => { w with partner := b.device, partnerEpoch := b.epoch }
    if helloBad s b then
      let s2 := s1.withWelt fun w => { w with err := setBit w.err 3 true, hello := none }
      if s.welt.state = .linking then s2.enterPair .unpaired else s2
    else
      let s2 := s1.withWelt fun w => { w with hello := some b }
      if b.carrying ∧ s.welt.state ≠ .given ∧ s.welt.state ≠ .fenced then (s2.withRings Rings.stopAll).enterPair .given else s2)

/-- The context of the session key: device number, epoch and random of the lower-numbered member, then of the higher (R461). -/
def State.sessionContext (b : Hello) (s : State) : List Byte :=
  let own := leBytes 2 s.devNo.toNat ++ leBytes 4 s.boot.epoch.toNat ++ padTo 32 s.welt.random
  let oth := leBytes 2 b.device.toNat ++ leBytes 4 b.epoch.toNat ++ leBytes 32 b.random.toNat
  if s.devNo.toNat < b.device.toNat then own ++ oth else oth ++ own

/-- The CONFIRM plaintext (R460). -/
def State.confirmBody (b : Hello) (s : State) : List Byte :=
  padTo 16 (ascii "CX-WELT-OK") ++ leBytes 2 (min s.devNo.toNat b.device.toNat) ++ leBytes 2 (max s.devNo.toNat b.device.toNat)
    ++ List.replicate 12 0

/-- WELT_SESSION_KEY_READY (R461 steps 3 and 4; 07 R257): the key is derived under the pair key on the cipher cluster, once a core takes
cuts; counters start at 0, CONFIRM goes out. -/
def execWeltSessionKeyReady (s : State) : Host.Outcome State Fault Refusal :=
  .next (match s.welt.hello, s.keys.present 3 with
    | some b, some r =>
      match s.welt.up && s.welt.sessionKey.isNone, s.fwCore with
      | true, some c =>
        let p := s.fwKdf c r (ascii "CX-WELT") (s.sessionContext b) 32
        (match p.1 with
        | none => p.2
        | some key =>
          let s1 := p.2.withWelt fun w => { w with sessionKey := some key, txCounter := 0, rxNext := 0, confirmed := false }
          (s1.weltSealed 0 0x22 (s1.confirmBody b)).weltSealed 1 0x22 (s1.confirmBody b)).dealAll
      | _, _ => s
    | _, _ => s)

/-- A CONFIRM that opened: KEYCONF where it does not name the two members (R461 step 4). -/
def State.confirmed (plain : List Byte) (counter : Nat) (s : State) : State :=
  let s1 := s.withWelt fun w => { w with rxNext := counter + 1 }
  match s.welt.hello with
  | some b =>
    if plain = s.confirmBody b then (s1.withWelt fun w => { w with confirmed := true }).weltAdvance true
    else s1.withWelt fun w => { w with err := setBit w.err 3 true }
  | none => s1

/-- CONFIRM (R461 steps 4 and 5, R462): a failed tag raises source 55 with kind 3. -/
def execConfirm (fr : WeltRx) (s : State) : Host.Outcome State Fault Refusal :=
  .next (if !s.weltHears fr then s
  else match s.weltGot 0x22 fr with
    | .plain p => s.confirmed p fr.counter.toNat
    | .tag => (s.withWelt fun w => { w with err := setBit w.err 3 true, tagFail := satAdd w.tagFail 1 }).weltAlarm 3 fr.lane.val
    | g => s.weltDiscard g fr.lane.val)

/-- The types of the frames that are sent in clear (R460). -/
def weltIsClear (type : Byte) : Bool := decide (type = 0x21 ∨ type = 0x27 ∨ type = 0x2F)

/-- WELT_BAD_FRAME (R462): a frame of any type with a bad CRC, or a protected one with a failed tag or a replayed counter. -/
def execWeltBadFrame (type : Byte) (fr : WeltRx) (s : State) : Host.Outcome State Fault Refusal :=
  .next (if weltIsClear type then s.weltClear type fr fun _ t => t
  else if s.weltHears fr then s.weltDiscard (s.weltGot type fr) fr.lane.val else s)

/-- WELT_IDLE (R460): carries nothing. -/
def execWeltIdle (s : State) : Host.Outcome State Fault Refusal := .next s

/-! ### Mirror records (R464, R465) -/

/-- Record the alias of a key that the partner loaded: the blob goes to an own free run (R464). -/
def State.mirrorKey (h : Word) (b : List Byte) (s : State) : State :=
  if blobCls b ≠ 0 ∨ s.welt.aliases.any (fun p => p.1 = h) = true then s
  else match s.keys.loadBlob b none with
    | .error _ => s
    | .ok (n, k) => (s.withKeys fun _ => k).withWelt fun w => { w with aliases := w.aliases ++ [(h, k.handleOf n)] }

/-- The partner unloaded a key: the own copy is marked empty and the alias goes (R464, R465 kind 2). -/
def State.mirrorUnload (h : Word) (s : State) : State :=
  match s.welt.aliases.find? fun p => p.1 = h with
  | none => s
  | some (_, own) =>
    (s.withKeys fun k => if k.handleOf (handleSlot own) = own then k.mark (handleSlot own) else k).withWelt fun w =>
      { w with aliases := w.aliases.filter fun p => !decide (p.1 = h) }

/-- Change a mirrored ring. -/
def Welt.updRing (r : Nat) (f : PartnerRing → PartnerRing) (w : Welt) : Welt :=
  { w with rings := Bank.upd none r (Option.map f) w.rings }

/-- An own ring as a record about it brings it back (R474). -/
def Ring.asPartner (g : Ring) : PartnerRing :=
  { fn := g.fn, vector := g.vector, size := g.size, tenant := g.tenant, irqEn := g.irqEn, desc := g.desc, cmpl := g.cmpl,
    shd := g.shd, contexts := [], staged := [] }

/-- Change what the partner says of an own ring that it carries. -/
def State.updBack (r : Nat) (f : PartnerRing → PartnerRing) (s : State) : State :=
  s.withWelt fun w => { w with
    back := Bank.upd none r (fun p => some (f (p.getD (s.rings.get r).asPartner))) w.back }

/-- A record of kind 5 to 7 about ring `r`: while this member is GIVEN it concerns its own ring (R474). -/
def State.ringRecord (r : Nat) (f : PartnerRing → PartnerRing) (s : State) : State :=
  if s.welt.state = .given then s.updBack r f else s.withWelt (Welt.updRing r f)

/-- A port of the partner after a record of kind 8: its configuration of 64 bytes, then an entry of 16 for each volume bound; an entry
whose handle is 0 ends its binding. -/
def mergePort (data old : List Byte) : List Byte :=
  let e := padTo 16 (data.drop 64)
  padTo 64 data ++ ((pieces 16 (old.drop 64)).filter fun x => decide (x.take 12 ≠ e.take 12)).flatten
    ++ (if ofLe (e.drop 12) = 0 then [] else e)

/-- Apply a mirror record (R465). -/
def State.applyRecord (r : MirrorRec) (s : State) : State :=
  match r with
  | .keyLoad h b => s.mirrorKey h b
  | .keyUnload h => s.mirrorUnload h
  | .lease slot top => s.withWelt fun w => { w with partnerLeases := Bank.set 0 slot.val top.toNat w.partnerLeases }
  | .ringCfg ring fn vector size tenant irq desc cmpl shd destroyed =>
    s.withWelt fun w =>
      let old := (Bank.get none w.rings ring.val).getD
        { fn := 0, vector := 0, size := 0, tenant := 0, irqEn := false, desc := 0, cmpl := 0, shd := 0, contexts := [], staged := [] }
      let new : PartnerRing := { old with
        fn := BitVec.ofNat 6 fn.val, vector := vector, size := size, tenant := tenant, irqEn := irq, desc := desc, cmpl := cmpl,
        shd := shd }
      { w with rings := Bank.set none ring.val (if destroyed then none else some new) w.rings }
  | .window fn win base limit => s.withWelt fun w =>
      { w with partnerWindows := Bank.set (0, 0) (fn.val + 64 * win.val) (base, limit) w.partnerWindows }
  | .counts ring p f c => s.ringRecord ring.val fun x => { x with p := p, f := f, c := c }
  | .context ring n entry => s.ringRecord ring.val fun x =>
      { x with contexts := Bank.set [] n.toNat (padTo 128 entry) x.contexts }
  | .staged ring n header tag deferrals => s.ringRecord ring.val fun x =>
      { x with staged := Bank.set ([], [], 0) n.toNat (padTo 32 header, padTo 16 tag, deferrals) x.staged }
  | .portCfg port data => s.withWelt fun w => { w with partnerPorts := Bank.upd [] port.val (mergePort data) w.partnerPorts }
  | .logHead seq head => s.withWelt fun w => { w with partnerLog := some (seq, head) }

/-- MIRROR (R465): the record is applied and acknowledged.  `seq` and `r` are what the plaintext says, in a layout that the spec does not
give (log entry 96). -/
def execMirror (fr : WeltRx) (seq : Word) (r : MirrorRec) (s : State) : Host.Outcome State Fault Refusal :=
  .next (s.weltTake 0x24 fr (fun _ t => ((t.applyRecord r).withWelt fun w => { w with mirrorSeen := seq }).weltAck seq))

/-- The partner acknowledges a record: a lease top becomes valid, RESYNC ends with the last record (R465, R467). -/
def State.ackRecord (seq : Word) (s : State) : State :=
  match s.welt.waiting.find? fun m => decide (m.seq = seq) with
  | none => s
  | some m =>
    let s1 := s.withWelt fun w =>
      { w with
        waiting := w.waiting.filter fun x => !decide (x.seq = seq)
        leases := match m.lease with | some (k, top) => Bank.set 0 k top w.leases | none => w.leases }
    if s1.welt.state = .resync ∧ s1.welt.waiting = [] then s1.enterPair .paired else s1

/-- The lane that a record goes out on again: the other one, or the same while that is down (R459, R465). -/
def Welt.otherLane (l : Nat) (w : Welt) : Nat := if w.lanes.getLsbD (1 - l) then 1 - l else l

/-- MIRROR_RESEND (R465): no ACK within 10 µs; the record goes out again on the other lane. -/
def execMirrorResend (seq : Word) (s : State) : Host.Outcome State Fault Refusal :=
  .next (match s.welt.waiting.find? fun m => decide (m.seq = seq) with
    | none => s
    | some m =>
      let l := s.welt.otherLane m.lane
      (s.withWelt fun w => { w with waiting := w.waiting.map fun x => if x.seq = seq then { x with lane := l } else x }).putItem l m.item)

/-! ### Carrying the partner's rings (R470, R471, R474) -/

/-- F of a mirrored ring whose C has reached `c`: the mirrored F, or `c` where the ring had gone further than its last record. -/
def PartnerRing.fetched (c : Word) (p : PartnerRing) : Word := if (p.f - p.c).toNat < (c - p.c).toNat then c else p.f

/-- A mirrored ring as the survivor carries it from count `c` (R470, R471; 06 R215): with the mirrored P and F; the descriptors between
C and F are read again. -/
def PartnerRing.carry (c : Word) (p : PartnerRing) : Ring :=
  { fn := p.fn, vector := p.vector, size := p.size, tenant := p.tenant, irqEn := p.irqEn, desc := p.desc, cmpl := p.cmpl,
    shd := p.shd, state := 4, p := p.p, f := p.fetched c, c := c, reread := (p.fetched c - c).toNat }

/-- The C that a partner has reached: forward from the mirrored C while the PHASE read at the next entry is that of its descriptor count
(R470 step 6; 06 R198). -/
def PartnerRing.scanned (phases : List Bool) (p : PartnerRing) : Word :=
  let isNew (i : Nat) : Bool := decide (phases[i]? = some (!(p.c + BitVec.ofNat 32 i).getLsbD p.size.toNat))
  p.c + BitVec.ofNat 32 ((List.range phases.length).takeWhile isNew).length

/-- Carry every mirrored ring; `scan` holds the PHASE bits read in a completion ring from the mirrored C on (R470 step 6), and a ring it does
not name goes on from its mirrored counts.  A ring whose number this member's own rings use is not carried (log entry 41). -/
def State.carryRings (scan : List (Fin 16384 × List Bool)) (s : State) : State :=
  s.welt.rings.foldl (fun (t : State) p =>
    match p.2 with
    | none => t
    | some x =>
      if (t.rings.get p.1).state ≠ 0 then t
      else
        let c := x.scanned (((scan.find? fun q => decide (q.1.val = p.1)).map Prod.snd).getD [])
        (t.withRings fun rs =>
          let y := rs.updRing p.1 fun _ => x.carry c
          if (rs.pageFn (p.1 / 512)).isNone then y.setPage (p.1 / 512) (some x.fn) else y).withWelt
          fun w => { w with carried := w.carried ++ [p.1] }) s

/-- Release the carried rings (R474 take back): their open work and final counts go to the partner, their jobs are dropped. -/
def State.releaseCarried (s : State) : State :=
  let rs := s.welt.carried
  let ks := (s.rings.list.map Prod.fst).filter fun k => rs.contains (jobRing k)
  let s0 := (s.openRecords rs.contains ++ rs.map s.rings.countsRec).foldl (fun t r => t.sendRecord r) s
  let s1 := ks.foldl (fun t k => t.abandonJob k) s0
  let s2 := rs.foldl (fun (t : State) r => t.withRings fun x =>
    let y := (x.updRing r fun _ => {}).endRead r
    if y.ring.any fun p => decide (p.1 / 512 = r / 512 ∧ p.2.state ≠ 0) then y
    else y.setPage (r / 512) none) s1
  s2.withWelt fun w => { w with carried := [] }

/-- Every dual-homed port becomes ACTIVE (R470 step 5). -/
def Sole.allActive (role : Bool) (x : Sole) : Sole :=
  (List.range 16).foldl (fun y n => y.upd n fun p => if p.dual then { p with role := role } else p) x

/-- The lowest-numbered ring that a function's own list gives the PF, by its tail shadow: where a heartbeat word lies (R468). -/
def ownWordAddr (s : State) : Option Long :=
  (s.rings.ring.find? fun p => decide (p.2.state ≠ 0 ∧ p.2.state ≠ 4 ∧ p.2.fn = 0)).map fun p => p.2.shd + 8
def partnerWordAddr (s : State) : Option Long :=
  (s.welt.rings.find? fun p => match p.2 with | some x => decide (x.fn = 0) | none => false).bind fun p => p.2.map fun x => x.shd + 8

/-- A heartbeat word (R468). -/
def wordBytes (count : Word) (dev : Half) (state : Nat) : List Byte :=
  leBytes 4 count.toNat ++ leBytes 2 dev.toNat ++ [BitVec.ofNat 8 state, 0]

/-- Takeover (R470): TAKEN in the partner's word (its count a free value, log entry 4), CARRYING, the ports ACTIVE, the rings
CARRIED, the PF's EVT doorbell. -/
def State.takeOver (scan : List (Fin 16384 × List Bool)) (us : Word) (s : State) : State :=
  let s1 := match partnerWordAddr s with
    | some a => s.draw 4 fun c t => t.hostWrite a (c ++ (wordBytes 0 t.devNo 3).drop 4)
    | none => s
  let s2 := s1.pairChange fun t =>
    (t.withWelt fun w => { w with state := .carrying, waiting := [] }).withSole (Sole.allActive true)
  let s3 := (s2.carryRings scan).withWelt fun w => { w with takeovers := satAdd w.takeovers 1, tkTime := us }
  s3.updBox 64 fun b => { b with dbell := b.dbell ||| 2 }

/-- PARTNER_WORD_STALE (R468, R470, R483): takeover when the Welt heartbeat is lost too, unless the partner has sent DEPART, or a
read in the same cycle shows a new value (`tie`; 01 R26). -/
def execPartnerWordStale (scan : List (Fin 16384 × List Bool)) (us : Word) (tie : Bool) (s : State) : Host.Outcome State Fault Refusal :=
  .next (if !tie && s.welt.state = .degraded && !s.welt.departSeen then s.takeOver scan us else s)

/-- A give: this member carries the partner's rings from the mirrored counts (R474). -/
def State.takeGiven (s : State) : State :=
  (s.pairChange fun u =>
    (u.withWelt fun w => { w with state := PairState.carrying }).withSole (Sole.allActive true)).carryRings []

/-- What a DEPART does (R474; 02 R69). -/
def State.departed (reason : Nat) (s : State) : State :=
  match reason with
  | 0 => s.withWelt fun w => { w with partnerDeparted := true, departSeen := true }
  | 1 => if s.welt.state = .given ∨ s.welt.state = .fenced then s else s.takeGiven
  | 2 => if s.welt.state = .carrying then s.releaseCarried.enterPair .paired else s
  | _ => s

/-- DEPART (R474; 02 R69): the DEPART counts as one mirror sequence, which its ACK names (log entry 42). -/
def execDepart (fr : WeltRx) (s : State) : Host.Outcome State Fault Refusal :=
  .next (s.weltTake 0x26 fr fun p t =>
    ((t.departed (p.getD 0 0).toNat).withWelt fun w => { w with mirrorSeen := t.welt.mirrorSeen + 1 }).weltAck (t.welt.mirrorSeen + 1))

/-! ### Heartbeats and fencing (R468, R469) -/

/-- WELT_HEARTBEAT_SEND (R468): HEARTBEAT on every lane that is up. -/
def execWeltHeartbeatSend (s : State) : Host.Outcome State Fault Refusal :=
  let body (t : State) := [BitVec.ofNat 8 (pairCode t.welt.state), 0, 0, 0] ++ leBytes 4 t.welt.mirrorSeen.toNat
    ++ leBytes 4 t.welt.hb.toNat ++ [0, 0, 0, 0]
  .next (if s.welt.up && s.welt.confirmed then
    let t := s.weltSealed 0 0x23 (body s)
    t.weltSealed 1 0x23 (body t)
  else s)

/-- HEARTBEAT (R468): the Welt witness; in DEGRADED the pair enters RESYNC. -/
def execHeartbeat (fr : WeltRx) (s : State) : Host.Outcome State Fault Refusal :=
  .next (s.weltTake 0x23 fr (fun _ t => (t.withWelt fun w => { w with whbAge := 0 }).weltAdvance true))

/-- FENCED (R469): jobs are abandoned without completions, fetching stops, every port is STANDBY, source 55 with kind 4. -/
def State.fence (s : State) : State :=
  let s1 := (s.rings.list.map Prod.fst).foldl (fun t k => t.abandonJob k) s
  let s2 := (s1.withRings fun rs =>
    { rs with ring := rs.ring.map fun p => (p.1, { p.2 with issued := 0 }), irqDue := [] }).pairChange fun t =>
      t.withWelt fun w => { w with state := .fenced, waiting := [], handover := none, err := setBit w.err 6 true }
  s2.draw 1 fun b t => t.weltAlarm 4 ((b.getD 0 0).toNat % 2)

/-- The fields of a heartbeat word as read: count, device number, state (R468). -/
def wordCount (w : Long) : Word := w.setWidth 32
def wordDevice (w : Long) : Half := (w >>> 32).setWidth 16
def wordState (w : Long) : Nat := (w.toNat / 2 ^ 48) % 256

/-- HOST_WORD_WRITE (R468, R469): before each write after the first in a boot the own word is read; TAKEN, written by the partner,
fences. -/
def execHostWordWrite (word : Long) (s : State) : Host.Outcome State Fault Refusal :=
  .next (if !s.welt.en || decide (s.welt.state = .fenced) then s
  else if s.welt.ownWord && decide (wordState word = 3 ∧ wordDevice word = s.welt.partner) then s.fence
  else match ownWordAddr s with
    | none => s
    | some a =>
      let n := s.welt.hb + 1
      ((s.hostWrite a (wordBytes n s.devNo (if s.boot.shelfDown then 2 else 1))).withWelt fun w =>
        { w with hb := n, ownWord := true }).weltAdvance false)

/-- The pair is DEGRADED (R466, R468): mirroring stops and no record waits. -/
def State.degrade (s : State) : State := (s.withWelt fun w => { w with waiting := [] }).enterPair .degraded

/-- PARTNER_WORD_READ (R468): a new count is the host-memory witness; DEPARTED without a DEPART, with the Welt heartbeat lost,
starts a takeover. -/
def execPartnerWordRead (word : Long) (scan : List (Fin 16384 × List Bool)) (s : State) : Host.Outcome State Fault Refusal :=
  let count := wordCount word
  let state := wordState word
  .next (if !s.welt.en || decide (s.welt.state = .fenced) then s
  else
    let s1 := s.withWelt fun w =>
      { w with
        phbAge := if w.partnerWord ∧ w.phb = count then w.phbAge else 0
        phb := count, partnerWord := true, partnerDeparted := decide (state = 2) || w.departSeen }
    if s1.welt.state = .degraded && decide (state = 2) && !s1.welt.departSeen then
      s1.draw 4 fun us t => t.takeOver scan (BitVec.ofNat 32 (ofLe us))
    else s1.weltAdvance false)

/-- No Welt heartbeat for 200 µs (R468, R483): DEGRADED, or takeover from a partner whose word says DEPARTED without a DEPART. -/
def State.heartbeatLost (scan : List (Fin 16384 × List Bool)) (s : State) : State :=
  if s.welt.state = .paired ∨ s.welt.state = .resync then
    let t := s.degrade
    if s.welt.partnerDeparted && !s.welt.departSeen && decide (s.welt.state = .paired) then
      t.draw 4 fun us u => u.takeOver scan (BitVec.ofNat 32 (ofLe us))
    else t
  else s

end Sys2Proof.Machine
end

