-- ==== Sys2Proof/Machine/DomCmds.lean ====
section
/-! DEFINITION. KEY_LOAD and the domain and pair commands (04 R145, R146; 05 R160, R174; 16 R463, R474-R482): commands 0x0A. -/

namespace Sys2Proof.Machine

/-! ### Membership blobs (16 R476, R477) -/

/-- The length of a membership blob, and the bytes that both its signatures cover. -/
abbrev memberLen := 5568
abbrev memberSigned := 2160

/-- The fields of a membership blob. -/
def memberOf (b : List Byte) : Membership :=
  { device := BitVec.ofNat 16 (ofLe (sliceBytes b 6 2)), m := b.getD 56 0, n := b.getD 57 0, recM := b.getD 58 0, recN := b.getD 59 0,
    issue := BitVec.ofNat 32 (ofLe (sliceBytes b 60 4)), operatorRoot := sliceBytes b 64 48, rootEc := sliceBytes b 112 96,
    rootDsa := sliceBytes b 208 1952 }

/-- The domain root digest, and its first 8 bytes as a key identifier. -/
def Membership.rootDigest (m : Membership) : List Byte := sha384 (m.rootEc ++ m.rootDsa)
def Membership.rootId (m : Membership) : Long := BitVec.ofNat 64 (ofLe (m.rootDigest.take 8))

def zeros (l : List Byte) : Bool := l.all fun b => decide (b = 0)

/-- The length and form of a membership blob at block offset `base`, its length field at `len` (R477). -/
def memberForm (b : List Byte) (len base : Nat) : List (Bool × Half × Word) := [
  (!decide (b.length = memberLen), formatAt len),
  (!decide (sliceBytes b 0 4 = ascii "CXMB"), formatAt base),
  (!decide (b.getD 4 0 = 1), formatAt (base + 4)),
  (!decide (b.getD 5 0 = 0), formatAt (base + 5)),
  (!zeros (sliceBytes b 5565 3), formatAt (base + 5565))]

/-- The M, N pairs of a membership blob (R477). -/
def memberPairs (m : Membership) (base : Nat) : List (Bool × Half × Word) :=
  let bad (a b : Byte) : Bool := !decide (1 ≤ a.toNat ∧ a.toNat ≤ b.toNat ∧ b.toNat ≤ 16)
  [(bad m.m m.n, invalidAt (base + 56)), (bad m.recM m.recN, invalidAt (base + 58))]

/-- Both signatures of a text by a domain root, verified on the engines one after the other (R476, R480; 02 R53). -/
def Call.rootSigned (c : Call) (m : Membership) (text ec dsa : List Byte) (k : Bool → State → State) (s : State) : State :=
  c.verified false m.rootEc text ec (fun a t => c.verified true m.rootDsa text dsa (fun b u => k (a && b) u) t) s

/-- The checks of R477 after the form, but for the DK check: signatures and PUF identity, then the M, N pairs. -/
def Call.memberVerified (c : Call) (b : List Byte) (base : Nat) (k : Option (Half × Word) → State → State) (s : State) : State :=
  let m := memberOf b
  c.rootSigned m (b.take memberSigned) (sliceBytes b 2160 96) (sliceBytes b 2256 3309) (fun good t =>
    if !good || !decide (sliceBytes b 8 48 = padTo 48 t.boot.id) then k (some (Status.verifyFail, 0)) t
    else k (firstFail (memberPairs m base)) t) s

/-- The DK check of R477: in START and SERVICE, against the DK in slot 2. -/
def State.memberOffDk (s : State) (m : Membership) : Bool :=
  !decide (s.boot.phase = .recovery) && (s.keys.present 2).any fun r => !decide (r.keyId = m.rootId)

/-- In START a blob that fails to unwrap leads to RECOVERY (02 R59). -/
def State.toRecovery (s : State) : State := if s.boot.phase = .start then s.setPhase .recovery else s

/-! ### KEY_LOAD (05 R160, R174; 16 R464, R477) -/

/-- KEY_LOAD of a key blob: class 1 against the membership, class 2 forms the pair session, class 0 is mirrored. -/
def Call.loadKey (c : Call) (slot : Option Nat) (b : List Byte) (s : State) : State :=
  let cls := blobCls b
  let offDk := decide (cls = 1) && !decide (s.boot.phase = .recovery) && s.fw.membership.any fun m => !decide (blobId b = m.rootId)
  match s.keys.loadBlob b slot with
  | .error e =>
    let t := c.fail (keyDetail 72 e) s
    if cls = 1 ∧ e.status = Status.authFail then t.toRecovery else t
  | .ok (n, k) =>
    if offDk then c.fail (invalidAt 80) s
    else
      let body := leBytes 4 (k.handleOf n).toNat ++ [0, 0, 0, 0]
      let t := s.withKeys fun _ => k
      if cls = 0 then c.keyMade n body t
      else if cls = 2 then (c.ok body t).weltStart
      else c.ok body t

/-- KEY_LOAD of a membership blob (05 R160). -/
def Call.loadMember (c : Call) (slot : Option Nat) (b : List Byte) (s : State) : State :=
  if slot.isSome then c.fail (invalidAt 64) s
  else match firstFail (memberForm b 68 72) with
    | some e => c.fail e s
    | none => c.memberVerified b 72 (fun e t =>
      match e with
      | some e => let u := c.fail e t; if e.1 = Status.verifyFail then u.toRecovery else u
      | none =>
        if t.memberOffDk (memberOf b) then c.fail (invalidAt 184) t
        else c.ok (List.replicate 8 0) (t.withFw fun f => { f with membership := some (memberOf b) })) s

/-- The slot that KEY_LOAD names, none for 0xFFFF. -/
def loadSlot (slot : Half) : Option Nat := if slot = 0xFFFF then none else some slot.toNat

/-- The header, checks and slots of KEY_LOAD. -/
def callKeyLoad (h : CmdHdr) (slot rsv : Half) (blobLen : Word) (blob : List Byte) : Call :=
  { hdr := h, instr := .keyLoad h slot rsv blobLen blob, opc := 0x0204, who := .admin, need := 8
    bodyLen := ceilTo 8 (8 + blobLen.toNat), slots := (loadSlot slot).toList
    checks := [(!decide (rsv = 0), formatAt 66)] }

/-- KEY_LOAD (R131; 05 R160, R174; 16 R461, R477): a membership blob carries its magic. -/
def bodyKeyLoad (slot : Half) (blobLen : Word) (blob : List Byte) (c : Call) (t : State) : State :=
  let b := padTo blobLen.toNat blob
  if sliceBytes b 0 4 = ascii "CXMB" then c.loadMember (loadSlot slot) b t else c.loadKey (loadSlot slot) b t

/-- KEY_LOAD, run in a mode. -/
def cmdKeyLoad (mode : Mode) (h : CmdHdr) (slot rsv : Half) (blobLen : Word) (blob : List Byte) (s : State) : State :=
  (callKeyLoad h slot rsv blobLen blob).run mode (bodyKeyLoad slot blobLen blob) s

/-- KEY_LOAD (05 R160). -/
def execKeyLoad (h : CmdHdr) (slot rsv : Half) (blobLen : Word) (blob : List Byte) (s : State) : Host.Outcome State Fault Refusal :=
  .next (cmdKeyLoad .new h slot rsv blobLen blob s)

/-! ### DOMAIN_JOIN (16 R478, R479) -/

/-- The form of a domain-key blob at block offset `base`, for device number `dev` (R478). -/
def joinChecks (d : List Byte) (dev : Half) (base : Nat) : List (Bool × Half × Word) := [
  (!decide (sliceBytes d 0 4 = ascii "CXDJ"), formatAt base),
  (!decide (d.getD 4 0 = 1), formatAt (base + 4)),
  (!zeros (sliceBytes d 5 3), formatAt (base + 5)),
  (!decide (ofLe (sliceBytes d 8 2) = dev.toNat), invalidAt (base + 8)),
  (!zeros (sliceBytes d 10 6), formatAt (base + 10)),
  (!decide (ofLe (sliceBytes d 1584 4) = 48), rangeAt (base + 1584)),
  (!zeros (sliceBytes d 1588 4), formatAt (base + 1588))]

/-- The key identifier and the DK that a domain-key blob wraps for the join key in slot 8 (R478).  The wrapping key needs the shared
secret itself, which an engine delivers only through a derivation: firmware's way to it is not stated (log entry 121). -/
def State.joinUnwrap (s : State) (d : List Byte) : Option (Long × List Byte) :=
  let z := Config.out (.sharedSecret 0x32) [s.slotMat 8, sliceBytes d 16 1568] 32
  match kwpUnwrap (kmac256 z (ascii "CX-JOIN" ++ sliceBytes d 8 2) (ascii "UM7840") 32) (sliceBytes d 1592 48) with
  | some p => if p.length = 40 then some (BitVec.ofNat 64 (ofLe (p.take 8)), p.drop 8) else none
  | none => none

/-- Steps 4 and 5 of R479: the new IK, DWK derived again, DK in slot 2, the membership kept. -/
def State.joined (m : Membership) (dkId : Long) (dk ik : List Byte) (s : State) : State :=
  let drk := s.slotMat 0
  let s1 := (s.withInsole fun i => { i with ik := some ik }).withKeys fun k =>
    let k1 := (k.free 1).install 1 (reservedAttr 3 wrapUsage) (kmac256 (drk ++ ik) (ascii "CX-DWK") (ascii "UM7840") 32) 0
    (k1.free 2).install 2 (reservedAttr 3 wrapUsage) dk dkId
  s1.withFw fun f => { f with membership := some m, joined := true }

/-- The header, checks and slots of DOMAIN_JOIN; each blob is padded (R106).  Its quorum check, and check 18, follow the membership's
verification (R479 step 2). -/
def callDomainJoin (h : CmdHdr) (qid mLen dLen rsv : Word) (m d : List Byte) : Call :=
  { hdr := h, instr := .domainJoin h qid mLen dLen rsv m d, opc := 0x0A01, who := .admin, inService := false
    bodyLen := 16 + ceilTo 8 mLen.toNat + ceilTo 8 dLen.toNat
    checks := [
      (!decide (mLen.toNat = memberLen), formatAt 68),
      (!decide (dLen = 1640), rangeAt 72),
      (!decide (rsv = 0), formatAt 76)] ++ memberForm (padTo mLen.toNat m) 68 80
      ++ joinChecks (padTo 1640 d) (memberOf m).device (80 + ceilTo 8 mLen.toNat) }

/-- DOMAIN_JOIN (R145, R151; 16 R478, R479). -/
def bodyDomainJoin (qid mLen dLen rsv : Word) (m d : List Byte) (c : Call) (t : State) : State :=
  let mem := memberOf m
  let digest := purposeDigest (leBytes 4 mLen.toNat ++ leBytes 4 dLen.toNat ++ leBytes 4 rsv.toNat
    ++ pad8 (padTo mLen.toNat m) ++ pad8 (padTo dLen.toNat d))
  c.memberVerified m 80 (fun e t =>
    match e with
    | some e => c.fail e t
    | none => match c.tooBig 56 with
      | some e => c.fail e t
      | none => c.withTicket qid digest (c.engineGrant 0x32 fun n v =>
        v.instDraw (5 + n) false (pkeDrawLen 0x32 2 0x32) (fun _ w =>
          match w.joinUnwrap (padTo 1640 d) with
          | none => c.fail (Status.authFail, 0) w
          | some (dkId, dk) =>
            if dkId ≠ mem.rootId then c.fail (invalidAt (80 + ceilTo 8 mLen.toNat + 1592)) w
            else c.withRandom 10 true 32 (fun ik u =>
              c.ok (leBytes 2 mem.device.toNat ++ List.replicate 6 0 ++ mem.rootDigest) (u.joined mem dkId dk ik)) w)) t) t

/-- DOMAIN_JOIN, run in a mode. -/
def cmdDomainJoin (mode : Mode) (h : CmdHdr) (qid mLen dLen rsv : Word) (m d : List Byte) (s : State) : State :=
  (callDomainJoin h qid mLen dLen rsv m d).run mode (bodyDomainJoin qid mLen dLen rsv m d) s

/-- DOMAIN_JOIN (16 R479). -/
def execDomainJoin (h : CmdHdr) (qid mLen dLen rsv : Word) (m d : List Byte) (s : State) : Host.Outcome State Fault Refusal :=
  .next (cmdDomainJoin .new h qid mLen dLen rsv m d s)

/-! ### EPOCH_FLOOR (02 R49; R146; 16 R480) -/

/-- The statement that EPOCH_FLOOR's two signatures cover (16 R480). -/
def State.floorStatement (s : State) (device : Half) (floor : Word) : List Byte :=
  ascii "CXEF" ++ leBytes 2 device.toNat ++ [0, 0] ++ leBytes 4 floor.toNat ++ [0, 0, 0, 0] ++ padTo 48 s.boot.id

/-- The header, checks and slots of EPOCH_FLOOR. -/
def callEpochFloor (h : CmdHdr) (device rsv : Half) (floor sigLen rsv2 : Word) (sig : List Byte) : Call :=
  { hdr := h, instr := .epochFloor h device rsv floor sigLen rsv2 sig, opc := 0x0A02, who := .admin, need := 8
    bodyLen := ceilTo 8 (16 + sigLen.toNat)
    checks := [
      (!decide (rsv = 0), formatAt 66),
      (!decide (sigLen = 3405), rangeAt 72),
      (!decide (rsv2 = 0), formatAt 76)] }

/-- EPOCH_FLOOR (02 R49; R146; 16 R480).  Where the epoch is trusted and the counter is 0xFFFF_FFFF, PHASE comes first (DESIGN CHOICE,
log entry 107). -/
def bodyEpochFloor (device : Half) (floor : Word) (sig : List Byte) (c : Call) (t : State) : State :=
  if t.insole.trusted then c.fail (Status.phase, phaseDetail t + 512) t
  else if t.insole.epoch = 0xFFFFFFFF ∨ floor = 0xFFFFFFFF then c.fail (invalidAt 68) t
  else match t.fw.membership with
    | none => c.fail (Status.notReady, 2) t
    | some m => c.rootSigned m (t.floorStatement device floor) (sig.take 96) (sliceBytes sig 96 3309) (fun good t =>
      if !good || !decide (m.device = device) then c.fail (Status.verifyFail, 0) t
      else
        let u := t.applyFloor floor
        c.ok (leBytes 4 u.boot.epoch.toNat ++ [0, 0, 0, 0]) u) t

/-- EPOCH_FLOOR, run in a mode. -/
def cmdEpochFloor (mode : Mode) (h : CmdHdr) (device rsv : Half) (floor sigLen rsv2 : Word) (sig : List Byte) (s : State)
    : State :=
  (callEpochFloor h device rsv floor sigLen rsv2 sig).run mode (bodyEpochFloor device floor sig) s

/-- EPOCH_FLOOR (02 R49). -/
def execEpochFloor (h : CmdHdr) (device rsv : Half) (floor sigLen rsv2 : Word) (sig : List Byte) (s : State) :
    Host.Outcome State Fault Refusal :=
  .next (cmdEpochFloor .new h device rsv floor sigLen rsv2 sig s)

/-! ### Binding a pair (16 R463) -/

/-- The header, checks and slots of PAIR_BIND. -/
def callPairBind (h : CmdHdr) (qid : Word) (partner rsv : Half) : Call :=
  { hdr := h, instr := .pairBind h qid partner rsv, opc := 0x0A03, who := .admin, inRecovery := false, bodyLen := 8, need := 120
    quorum := some (qid, purposeDigest (leBytes 2 partner.toNat ++ leBytes 2 rsv.toNat))
    checks := [(!decide (rsv = 0), formatAt 70)] }

/-- PAIR_BIND (16 R463): the command waits for its partner's. -/
def bodyPairBind (partner : Half) (c : Call) (t : State) : State :=
  if t.fw.device = some partner ∨ (t.keys.present 3).isSome = true then c.fail (invalidAt 68) t
  else if (t.keys.present 2).isNone || t.fw.membership.isNone then c.fail (Status.notReady, 2) t
  else c.wait .bind [] t

/-- PAIR_BIND, run in a mode. -/
def cmdPairBind (mode : Mode) (h : CmdHdr) (qid : Word) (partner rsv : Half) (s : State) : State :=
  (callPairBind h qid partner rsv).run mode (bodyPairBind partner) s

/-- PAIR_BIND (16 R463). -/
def execPairBind (h : CmdHdr) (qid : Word) (partner rsv : Half) (s : State) : Host.Outcome State Fault Refusal :=
  .next (cmdPairBind .new h qid partner rsv s)

/-- The PAIR_BIND that waits, with the partner it names. -/
def Fw.binding (f : Fw) : Option (Waiting × Half) :=
  f.waiting.findSome? fun w => match w.cmd, w.why with
    | .pairBind _ _ p _, .bind => some (w, p)
    | _, _ => none

/-- P of BIND (16 R460). -/
def bindPlain (lower higher : Half) (key : List Byte) : List Byte :=
  leBytes 2 lower.toNat ++ leBytes 2 higher.toNat ++ [0, 0, 0, 0] ++ padTo 32 key

/-- The pair key is in slot 3 for the member's waiting PAIR_BIND: it answers with its own class-2 blob, and a session forms (16 R463). -/
def State.bound (w : Waiting) (key : List Byte) (elapsed : Word) (s : State) : State :=
  let t := s.withKeys fun k => k.install 3 (reservedAttr 3 deriveUsage) key (Config.pairKeyId key)
  let blob := match t.keys.present 3 with | some r => blobOf 2 r (t.slotMat 1) | none => []
  let t1 := t.withFw fun f => { f with waiting := f.waiting.filter fun x => !decide (x = w) }
  let t2 := if w.silent then t1 else
    t1.respondAs { w.hdr with elapsed := elapsed } 0x0A03 Status.ok 0 w.hdr.session (leBytes 4 blob.length ++ [0, 0, 0, 0] ++ blob)
  t2.weltStart

/-- The pair key that a BIND wraps under the DK for two members: none where the KWP check or the numbers fail. -/
def State.bindKey (own partner : Half) (wrapped : List Byte) (s : State) : Option (List Byte) :=
  match kwpUnwrap (s.slotMat 2) wrapped with
  | some p =>
    if p.length = 40 ∧ ofLe (p.take 2) = min own.toNat partner.toNat ∧ ofLe (sliceBytes p 2 2) = max own.toNat partner.toNat then
      some (p.drop 8)
    else none
  | none => none

/-- BIND (16 R463): with this member's PAIR_BIND waiting, the frame's key goes into slot 3 of the higher-numbered member.  On the
lower-numbered one the row is the moment at which both commands are present: it draws the key with a fresh class K seed and sends the
frame (DESIGN CHOICE, log entry 122). -/
def execBind (fr : WeltRx) (elapsed : Word) (s : State) : Host.Outcome State Fault Refusal :=
  .next (match s.fw.binding with
  | none => s
  | some (w, partner) =>
    let own := s.devNo
    let inst := (s.mbx.route w.hdr.fn.val).core.toNat
    if (s.keys.present 3).isSome || (s.keys.present 1).isNone then s
    else if own.toNat < partner.toNat then
      if s.rng.freshServes inst && decide (s.rng.buffer ≠ []) && s.rng.freshQueue.isEmpty then
        s.instDraw inst true 32 fun key t =>
          ((t.weltBoth 0x27 (kwpWrap (t.slotMat 2) (bindPlain own partner key))).bound w key elapsed)
      else s
    else s.weltClear 0x27 fr fun wrapped t =>
      match t.bindKey own partner wrapped with
      | none => t
      | some key => t.bound w key elapsed)

/-! ### PAIR_STATUS and PAIR_HANDOVER (16 R474, R482) -/

/-- The PAIR_STATUS record (16 R482). -/
def pairRecord (s : State) : List Byte :=
  let w := s.welt
  padTo 64 ([BitVec.ofNat 8 (pairCode w.state), w.lanes.setWidth 8] ++ leBytes 2 w.partner.toNat ++ leBytes 4 w.partnerEpoch.toNat
    ++ leBytes 4 w.waiting.length ++ leBytes 4 w.aliases.length ++ leBytes 4 w.carried.length ++ leBytes 4 w.takeovers.toNat
    ++ leBytes 4 w.tkTime.toNat ++ leBytes 4 w.tagFail.toNat ++ leBytes 4 w.phbAge.toNat ++ leBytes 4 w.whbAge.toNat)

/-- The header, checks and slots of PAIR_STATUS. -/
def callPairStatus (h : CmdHdr) : Call :=
  { hdr := h, instr := .pairStatus h, opc := 0x0A04, who := .admin, inRecovery := false, need := 64 }

/-- PAIR_STATUS (16 R482). -/
def bodyPairStatus (c : Call) (t : State) : State :=
  c.ok (pairRecord t) t

/-- PAIR_STATUS, run in a mode. -/
def cmdPairStatus (mode : Mode) (h : CmdHdr) (s : State) : State :=
  (callPairStatus h).run mode bodyPairStatus s

/-- PAIR_STATUS (16 R482). -/
def execPairStatus (h : CmdHdr) (s : State) : Host.Outcome State Fault Refusal := .next (cmdPairStatus .new h s)

/-- Send DEPART under the next mirror sequence (log entry 42). -/
def State.sendDepart (reason : Byte) (s : State) : State := s.sendItem (.depart reason) none

/-- The give of R474: the records and DEPART go out, fetching stops, the jobs are the partner's, the ports are STANDBY. -/
def State.give (s : State) : State :=
  let own := (s.rings.ring.filter fun p => decide (p.2.state ≠ 0 ∧ p.2.state ≠ 4)).map Prod.fst
  let s1 := (s.openRecords own.contains ++ own.map s.rings.countsRec).foldl (fun t r => t.sendRecord r) s
  let s2 := s1.sendDepart 1
  let s3 := (s2.rings.list.map Prod.fst).foldl (fun t k => t.abandonJob k) s2
  (s3.withRings fun rs => own.foldl (fun x r => x.endRead r) rs.stopAll).pairChange fun t =>
    (t.withWelt fun w => { w with state := .given }).withSole (Sole.allActive false)

/-- A stopped ring resumes, from the counts that the partner mirrored where it did: the descriptors between C and F are read again
(R471, R474). -/
def Ring.resumed (back : Option PartnerRing) (g : Ring) : Ring :=
  if g.state = 2 ∧ g.fetchErr = false then
    match back with
    | some x => { g with state := 1, p := x.p, c := x.c, f := x.fetched x.c, reread := (x.fetched x.c - x.c).toNat }
    | none => { g with state := 1, reread := (g.f - g.c).toNat }
  else g

/-- The end of a take back (R474). -/
def State.takenBack (s : State) : State :=
  (s.withRings fun rs =>
    { rs with ring := rs.ring.map fun p => (p.1, p.2.resumed (Bank.get none s.welt.back p.1)) }).enterPair .paired

/-- The header, checks and slots of PAIR_HANDOVER. -/
def callPairHandover (h : CmdHdr) (dir : Byte) (rsv : BitVec 56) : Call :=
  { hdr := h, instr := .pairHandover h dir rsv, opc := 0x0A05, who := .admin, inStart := false, inRecovery := false, bodyLen := 8
    checks := [(!decide (dir.toNat ≤ 1), invalidAt 64), (!decide (rsv = 0), formatAt 65)] }

/-- PAIR_HANDOVER (16 R474): it answers once the partner acknowledges. -/
def bodyPairHandover (dir : Byte) (c : Call) (t : State) : State :=
  if dir = 0 then
    if t.welt.state = .paired then
      let u := t.give
      c.wait (.ack (u.welt.mirrorSeq - 1)) [] (u.withWelt fun w => { w with handover := some false })
    else c.fail (invalidAt 64) t
  else if t.welt.state = .given then
    let u := t.sendDepart 2
    c.wait (.ack (u.welt.mirrorSeq - 1)) [] (u.withWelt fun w => { w with handover := some true })
  else c.fail (invalidAt 64) t

/-- PAIR_HANDOVER, run in a mode. -/
def cmdPairHandover (mode : Mode) (h : CmdHdr) (dir : Byte) (rsv : BitVec 56) (s : State) : State :=
  (callPairHandover h dir rsv).run mode (bodyPairHandover dir) s

/-- PAIR_HANDOVER (16 R474). -/
def execPairHandover (h : CmdHdr) (dir : Byte) (rsv : BitVec 56) (s : State) : Host.Outcome State Fault Refusal :=
  .next (cmdPairHandover .new h dir rsv s)

end Sys2Proof.Machine
end

