-- ==== Sys2Proof/Machine/LogCmds.lean ====
section
/-! DEFINITION. The alarm, log and random-number commands (04 R140-R142; 12 R378-R381; 13 R395, R405-R409): commands 0x07
and 0x08. -/

namespace Sys2Proof.Machine

/-- The code that byte `i` of a table gives its source. -/
def tableCode (table : List Byte) (i : Nat) : BitVec 3 := (table.getD i 0).setWidth 3

/-- The first byte of a 64-byte table that is refused, with its status: the reserved bits, a code that R389 does not define,
the reserved sources, and a code below 4 for source 47 (R141; 13 R395).  The table stands at block offset 72. -/
def tableCheck (table : List Byte) : Bool × Half × Word :=
  let bad (i : Nat) : Option (Half × Word) :=
    let b := table.getD i 0
    if 8 ≤ b.toNat ∨ (57 ≤ i ∧ b ≠ 0) then some (formatAt (72 + i))
    else if b = 7 ∨ (i = 47 ∧ b.toNat < 4) then some (invalidAt (72 + i))
    else none
  match (List.range 64).findSome? bad with
  | some e => (true, e)
  | none => (false, 0, 0)

/-- Some response becomes less severe than in the kept table (02 R64). -/
def lowers (kept : Bank (BitVec 3)) (table : List Byte) : Bool :=
  (List.range 57).any fun i => decide (effCode (tableCode table i) < effCode (Bank.get 0 kept i))

/-- The table of 64 codes as a bank. -/
def tableBank (table : List Byte) : Bank (BitVec 3) := Bank.tab 0 64 (tableCode table)

/-- The header, checks and slots of ALARM_TABLE_SET. -/
def callAlarmTableSet (h : CmdHdr) (qid rsv : Word) (table : List Byte) (s : State) : Call :=
  { hdr := h, instr := .alarmTableSet h qid rsv table, opc := 0x0701, who := .admin, bodyLen := 72
    quorum := if lowers s.log.kept table then some (qid, purposeDigest (leBytes 4 rsv.toNat ++ padTo 64 table)) else none
    checks := [(!decide (rsv = 0), formatAt 68), tableCheck table] }

/-- ALARM_TABLE_SET (R141; 13 R395). -/
def bodyAlarmTableSet (table : List Byte) (c : Call) (t : State) : State :=
  c.ok [] ((t.withAlarm fun a => { a with resp := tableBank table }).withLog fun l =>
    { l with kept := tableBank table })

/-- ALARM_TABLE_SET, run in a mode. -/
def cmdAlarmTableSet (mode : Mode) (h : CmdHdr) (qid rsv : Word) (table : List Byte) (s : State) : State :=
  (callAlarmTableSet h qid rsv table s).run mode (bodyAlarmTableSet table) s

/-- ALARM_TABLE_SET (R141). -/
def execAlarmTableSet (h : CmdHdr) (qid rsv : Word) (table : List Byte) (s : State) : Host.Outcome State Fault Refusal :=
  .next (cmdAlarmTableSet .new h qid rsv table s)

/-- The header, checks and slots of ALARM_TABLE_GET. -/
def callAlarmTableGet (h : CmdHdr) : Call :=
  { hdr := h, instr := .alarmTableGet h, opc := 0x0702, who := .admin, need := 64 }

/-- ALARM_TABLE_GET (R140): the table in force. -/
def bodyAlarmTableGet (c : Call) (t : State) : State :=
  c.ok ((List.range 64).map fun i => (Bank.get 0 t.alarm.resp i).setWidth 8) t

/-- ALARM_TABLE_GET, run in a mode. -/
def cmdAlarmTableGet (mode : Mode) (h : CmdHdr) (s : State) : State :=
  (callAlarmTableGet h).run mode bodyAlarmTableGet s

/-- ALARM_TABLE_GET (R140). -/
def execAlarmTableGet (h : CmdHdr) (s : State) : Host.Outcome State Fault Refusal := .next (cmdAlarmTableGet .new h s)

/-- A log export of at most `max` entries in `room` bytes of entries: the entries, the body before its signature, and the bytes that
are signed (13 R407). -/
def exportBody (s : State) (first : Word) (max room : Nat) : List LogEntry × List Byte × List Byte :=
  let es := s.log.entriesFrom first (min max (room / 32))
  let last : Word := match es.getLast? with | some e => e.seq | none => s.log.next - 1
  let count := leBytes 4 es.length
  let bytes := es.flatMap LogEntry.bytes
  let head := leBytes 16 s.log.head.toNat
  let signed := ascii "CX-LOGX" ++ s.boot.id ++ count ++ leBytes 4 last.toNat ++ bytes ++ head
  (es, count ++ leBytes 4 last.toNat ++ bytes ++ head ++ leBytes 4 96 ++ [0, 0, 0, 0], signed)

/-- Firmware has read the entries through the window and, when at least one was exported, writes ALM_LOG_EXP (13 R408). -/
def Log.exported (es : List LogEntry) (l : Log) : Log :=
  let read := es.foldl (fun (a : Log) e => (List.range 8).foldl (fun (b : Log) w => b.readWord e.seq w) a) l
  match es.getLast? with
  | some e => read.setExp e.seq
  | none => read

/-- The header, checks and slots of LOG_EXPORT. -/
def callLogExport (h : CmdHdr) (first max : Word) : Call :=
  { hdr := h, instr := .logExport h first max, opc := 0x0703, who := .admin, bodyLen := 8, need := 128
    checks := [(!decide (1 ≤ max.toNat ∧ max.toNat ≤ 2048), rangeAt 68)] }

/-- LOG_EXPORT (13 R407, R408; R115): signed with the ECDSA attestation key. -/
def bodyLogExport (h : CmdHdr) (first max : Word) (c : Call) (t : State) : State :=
  let (es, body, signed) := exportBody t first max.toNat (h.respCap.toNat - 160)
  c.attested false signed (fun sig u => (c.ok (body ++ sig) u).withLog (Log.exported es)) t

/-- LOG_EXPORT, run in a mode. -/
def cmdLogExport (mode : Mode) (h : CmdHdr) (first max : Word) (s : State) : State :=
  (callLogExport h first max).run mode (bodyLogExport h first max) s

/-- LOG_EXPORT (13 R407). -/
def execLogExport (h : CmdHdr) (first max : Word) (s : State) : Host.Outcome State Fault Refusal :=
  .next (cmdLogExport .new h first max s)

/-- The header, checks and slots of LOG_RELEASE. -/
def callLogRelease (h : CmdHdr) (seq rsv : Word) : Call :=
  { hdr := h, instr := .logRelease h seq rsv, opc := 0x0704, who := .admin, bodyLen := 8, need := 8
    checks := [(!decide (rsv = 0), formatAt 68)] }

/-- LOG_RELEASE (R141; 13 R406, R408). -/
def bodyLogRelease (seq : Word) (c : Call) (t : State) : State :=
  let u := t.logRelease seq
  c.ok (leBytes 4 (u.log.first - 1).toNat ++ [0, 0, 0, 0]) u

/-- LOG_RELEASE, run in a mode. -/
def cmdLogRelease (mode : Mode) (h : CmdHdr) (seq rsv : Word) (s : State) : State :=
  (callLogRelease h seq rsv).run mode (bodyLogRelease seq) s

/-- LOG_RELEASE (R141). -/
def execLogRelease (h : CmdHdr) (seq rsv : Word) (s : State) : Host.Outcome State Fault Refusal :=
  .next (cmdLogRelease .new h seq rsv s)

/-- The header, checks and slots of LOG_STATUS. -/
def callLogStatus (h : CmdHdr) : Call :=
  { hdr := h, instr := .logStatus h, opc := 0x0705, who := .admin, need := 32 }

/-- LOG_STATUS (13 R409). -/
def bodyLogStatus (c : Call) (t : State) : State :=
  c.ok (t.log.statusRecord t.alarm.backup) t

/-- LOG_STATUS, run in a mode. -/
def cmdLogStatus (mode : Mode) (h : CmdHdr) (s : State) : State :=
  (callLogStatus h).run mode bodyLogStatus s

/-- LOG_STATUS (13 R409). -/
def execLogStatus (h : CmdHdr) (s : State) : Host.Outcome State Fault Refusal := .next (cmdLogStatus .new h s)

/-! ### Random numbers -/

/-- The instance that serves RANDOM_GET (12 R371). -/
def Call.poolInst (c : Call) (s : State) : Nat := 12 + ((c.owner s).getD 0).toNat % 20

/-- The header, checks and slots of RANDOM_GET. -/
def callRandomGet (h : CmdHdr) (len rsv : Word) : Call :=
  { hdr := h, instr := .randomGet h len rsv, opc := 0x0801, who := .tenant, bodyLen := 8, need := len.toNat
    checks := [(!decide (1 ≤ len.toNat ∧ len.toNat ≤ 65536), rangeAt 64), (!decide (rsv = 0), formatAt 68)] }

/-- The bytes of the first request of RANDOM_GET, and those of the further ones (12 R373). -/
def firstRandom (len : Word) : Nat := min 16384 len.toNat
def moreRandom (len : Word) : Nat := len.toNat - 16384

/-- RANDOM_GET (R142; 12 R371, R373): one request for each 16,384 bytes. -/
def bodyRandomGet (len : Word) (c : Call) (t : State) : State :=
  let i := c.poolInst t
  c.withRandom i false (firstRandom len) (fun bs u =>
    let p := u.rng.drawMany i (moreRandom len)
    c.ok (bs ++ p.1) (u.withRng fun _ => p.2)) t

/-- RANDOM_GET, run in a mode. -/
def cmdRandomGet (mode : Mode) (h : CmdHdr) (len rsv : Word) (s : State) : State :=
  (callRandomGet h len rsv).run mode (bodyRandomGet len) s

/-- RANDOM_GET (R142). -/
def execRandomGet (h : CmdHdr) (len rsv : Word) (s : State) : Host.Outcome State Fault Refusal :=
  .next (cmdRandomGet .new h len rsv s)

/-- The header, checks and slots of RNG_STATUS. -/
def callRngStatus (h : CmdHdr) : Call :=
  { hdr := h, instr := .rngStatus h, opc := 0x0802, need := 64 }

/-- RNG_STATUS (12 R381). -/
def bodyRngStatus (c : Call) (t : State) : State :=
  c.ok t.rng.record t

/-- RNG_STATUS, run in a mode. -/
def cmdRngStatus (mode : Mode) (h : CmdHdr) (s : State) : State :=
  (callRngStatus h).run mode bodyRngStatus s

/-- RNG_STATUS (12 R381). -/
def execRngStatus (h : CmdHdr) (s : State) : Host.Outcome State Fault Refusal := .next (cmdRngStatus .new h s)

/-- The header, checks and slots of RNG_AUDIT_ENTER. -/
def callRngAuditEnter (h : CmdHdr) (qid rsv : Word) (s : State) : Call :=
  { hdr := h, instr := .rngAuditEnter h qid rsv, opc := 0x0803, who := .admin, bodyLen := 8
    quorum := if s.boot.phase = .service then some (qid, purposeDigest (leBytes 4 rsv.toNat)) else none
    checks := [(!decide (rsv = 0), formatAt 68)] }

/-- RNG_AUDIT_ENTER (12 R378): in SERVICE it takes a quorum. -/
def bodyRngAuditEnter (c : Call) (t : State) : State :=
  c.ok [] (nextOr t (execAuditSet .machine t))

/-- RNG_AUDIT_ENTER, run in a mode. -/
def cmdRngAuditEnter (mode : Mode) (h : CmdHdr) (qid rsv : Word) (s : State) : State :=
  (callRngAuditEnter h qid rsv s).run mode bodyRngAuditEnter s

/-- RNG_AUDIT_ENTER (12 R378). -/
def execRngAuditEnter (h : CmdHdr) (qid rsv : Word) (s : State) : Host.Outcome State Fault Refusal :=
  .next (cmdRngAuditEnter .new h qid rsv s)

/-- The header, checks and slots of RNG_AUDIT_EXIT. -/
def callRngAuditExit (h : CmdHdr) : Call :=
  { hdr := h, instr := .rngAuditExit h, opc := 0x0804, who := .admin }

/-- RNG_AUDIT_EXIT (12 R380). -/
def bodyRngAuditExit (c : Call) (t : State) : State :=
  c.ok [] (nextOr t (execAuditClear .machine t))

/-- RNG_AUDIT_EXIT, run in a mode. -/
def cmdRngAuditExit (mode : Mode) (h : CmdHdr) (s : State) : State :=
  (callRngAuditExit h).run mode bodyRngAuditExit s

/-- RNG_AUDIT_EXIT (12 R380). -/
def execRngAuditExit (h : CmdHdr) (s : State) : Host.Outcome State Fault Refusal := .next (cmdRngAuditExit .new h s)

end Sys2Proof.Machine
end

