-- ==== Sys2Proof/Machine/Micro.lean ====
section
/-! DEFINITION. Microwords and entry descriptors of user opcodes (20 R555-R558). -/

namespace Sys2Proof.Machine

/-- A microword (20 R557). -/
abbrev Microword := BitVec 64

/-- One entry record of a decode package (20 R563). -/
structure DecodeEntry where
  opcode : Byte
  amMask : Byte
  szMask : Byte
  count : Byte
  reserved : List Byte
  words : List Microword
  deriving DecidableEq, Repr

/-- The entry record that 136 bytes hold. -/
def DecodeEntry.ofBytes (b : List Byte) : DecodeEntry :=
  { opcode := b.getD 0 0, amMask := b.getD 1 0, szMask := b.getD 2 0, count := b.getD 3 0, reserved := sliceBytes b 4 4,
    words := (List.range 16).map fun i => BitVec.ofNat 64 (ofLe (sliceBytes b (8 + 8 * i) 8)) }

/-! ### Fields (20 R557) -/

def mwUop (w : Microword) : Nat := w.toNat / 2 ^ 60
def mwFn (w : Microword) : Nat := w.toNat / 2 ^ 56 % 16
def mwDst (w : Microword) : Nat := w.toNat / 2 ^ 52 % 16
def mwA (w : Microword) : Nat := w.toNat / 2 ^ 48 % 16
def mwB (w : Microword) : Nat := w.toNat / 2 ^ 44 % 16
def mwFlg (w : Microword) : Bool := w.getLsbD 43
def mwZero (w : Microword) : Nat := w.toNat / 2 ^ 40 % 8
def mwCond (w : Microword) : Nat := w.toNat / 2 ^ 36 % 16
def mwTarget (w : Microword) : Nat := w.toNat / 2 ^ 32 % 16
def mwImm (w : Microword) : Word := w.setWidth 32

/-- Register codes 14 and 15 are reserved; codes above 6 are not writable. -/
def mwReadable (r : Nat) : Bool := decide (r ≤ 13)
def mwWritable (r : Nat) : Bool := decide (r ≤ 6)

/-- A microword with a defined UOP and FN whose registers the table of R557 permits, with bits [42:40] zero (20 R558; log
entry 44). -/
def mwValid (w : Microword) : Bool :=
  decide (mwZero w = 0) &&
    (match mwUop w with
    | 0 => decide (mwFn w = 0)
    | 1 => decide (mwFn w ≤ 13) && mwReadable (mwA w) && (decide (mwFn w = 13) || mwReadable (mwB w)) && mwWritable (mwDst w)
    | 2 =>
      decide (mwFn w ≤ 5) && decide (mwDst w = 0)
        && (!decide (mwFn w ≤ 2) || (mwReadable (mwA w) && mwReadable (mwB w))) && (!decide (mwFn w = 5) || mwReadable (mwA w))
    | 3 => decide (mwFn w ≤ 6) && decide (mwFn w % 4 ≠ 3) && mwReadable (mwA w) && mwWritable (mwDst w)
    | 4 => decide (mwFn w ≤ 2) && mwReadable (mwA w) && mwReadable (mwB w)
    | 5 => decide (mwFn w = 0) && decide (mwCond w ≤ 15)
    | _ => false)

/-! ### Decode-table RAM (20 R555) -/

/-- Word 0 of an entry descriptor. -/
def descriptorWord (amMask szMask count : Nat) : Word :=
  BitVec.ofNat 32 (1 + 256 * amMask + 65536 * (szMask % 16) + 1048576 * (count % 32))

/-- Write bytes to a decode-table RAM: offsets from 0x880 are reserved and ignore writes. -/
def tableWrite (b : Bank Byte) (off : Nat) (bs : List Byte) : Bank Byte :=
  Bank.writeBytes b off (bs.take (0x880 - off))

/-- Write one entry: the microwords first, the descriptor last (20 R564). -/
def loadEntry (e : DecodeEntry) (b : Bank Byte) : Bank Byte :=
  let n := e.opcode.toNat - 0xF0
  let words := (List.range 16).flatMap fun i => leBytes 8 ((e.words.getD i 0).toNat)
  tableWrite (tableWrite b (0x80 * n) words) (0x800 + 8 * n)
    (leBytes 4 (descriptorWord e.amMask.toNat e.szMask.toNat e.count.toNat).toNat ++ [0, 0, 0, 0])

/-- Clear VALID of an opcode's entry (20 R564). -/
def clearEntry (op : Byte) (b : Bank Byte) : Bank Byte :=
  let off := 0x800 + 8 * (op.toNat - 0xF0)
  Bank.upd 0 off (fun x => x &&& 0xFE) b

/-- Change the decode-table RAM of the four custody cores and execute IBAR on each (20 R564, R520). -/
def State.retable (f : Bank Byte → Bank Byte) (s : State) : State :=
  (List.range 4).foldl (fun t c => t.updCore c fun k =>
    { k with table := f k.table, decode := f k.table, code := Bank.get [] s.mem.itcm c }) s

end Sys2Proof.Machine
end

