-- ==== Sys2Proof/Machine/PkCmds.lean ====
section
/-! DEFINITION. The public-key commands and SEAL and UNSEAL (04 R136, R137; 07 R226, R257; 10 R318-R328): commands 0x04. -/

namespace Sys2Proof.Machine

/-- The signature length of a signing or verifying type (10 R318). -/
def sigLenOf (t : Byte) : Nat :=
  if isEcPriv t || isEcPub t then 2 * ecLen (t.toNat % 8)
  else if t = 0x14 ∨ t = 0x1C then 64
  else if isRsaPriv t || isRsaPub t then rsaLen (t.toNat % 8)
  else dsaSig (t.toNat % 8)

/-- Types whose signatures take a message only: Ed25519, and ML-DSA in pure mode (R137; log entry 39). -/
def messageOnly (t : Byte) : Bool := decide (t = 0x14 ∨ t = 0x1C) || isDsaPriv t || isDsaPub t

/-- The parameter set of a key's type in the engines (10 R318). -/
def engineSet (t : Byte) : Nat := if t = 0x14 ∨ t = 0x15 ∨ t = 0x1C then 0 else t.toNat % 8

/-- The digest of a SIGN or VERIFY: the bytes given, or the hash of the message, which the spec does not name (log entry 104). -/
def signedDigest (t : Byte) (input : Byte) (data : List Byte) : List Byte :=
  if input = 1 then data else let a := (Config.messageHash t.toNat).val + 1; digestOf a data (digOut (BitVec.ofNat 8 a))

/-- The RSA encoding of a digest that firmware forms for a key of `k` bytes, as a little-endian number with its top bit clear (10 R318;
log entry 104). -/
def rsaEncoding (t : Byte) (k : Nat) (digest : List Byte) : List Byte :=
  leBytes k (ofLe (Config.out (.rsaEncode t.toNat) [digest] k) % 2 ^ (8 * k - 1))

/-- The engine operation that signs with a key of type `t` (10 R318). -/
def signOp (t : Byte) (key : Word) (tenant : Half) (input : Byte) (data : List Byte) : FwOp :=
  let q : FwOp := { op := 0x39, set := engineSet t, key := key, tenant := tenant, input := data }
  let d := signedDigest t input data
  if isEcPriv t then { q with op := 0x11, input := (curveOf (engineSet t)).eBytes d }
  else if isRsaPriv t then { q with op := 0x01, input := rsaEncoding t (rsaLen (engineSet t)) d }
  else if t = 0x14 then { q with op := 0x21 }
  else q

/-- The engine operation that checks a signature with a key of type `t` (10 R318). -/
def checkOp (t : Byte) (key : Word) (tenant : Half) (input : Byte) (data sig : List Byte) : FwOp :=
  let q : FwOp := { op := 0x3A, set := engineSet t, key := key, tenant := tenant, input := sig ++ data }
  if isEcPub t then { q with op := 0x12, input := (curveOf (engineSet t)).eBytes (signedDigest t input data) ++ sig }
  else if isRsaPub t then { q with op := 0x02, input := sig }
  else if t = 0x1C then { q with op := 0x22 }
  else q

/-- The owner that firmware writes to PKE_TENANT for a session (10 R319). -/
def Call.engineTenant (c : Call) (s : State) : Half := (c.owner s).getD 0xFFFF

/-- The header, checks and slots of SIGN. -/
def callSign (h : CmdHdr) (handle : Word) (input : Byte) (rsv : BitVec 24) (len rsv2 : Word) (data : List Byte) : Call :=
  { hdr := h, instr := .sign h handle input rsv len rsv2 data, opc := 0x0401, who := .tenant, inStart := false
    inRecovery := false, bodyLen := ceilTo 8 (16 + len.toNat), slots := [handleSlot handle]
    checks := [
      (!decide (input.toNat ≤ 1), invalidAt 68),
      (!decide (rsv = 0), formatAt 69),
      (!decide (rsv2 = 0), formatAt 76)] }

/-- SIGN (R137; 10 R318-R332).  A digest of any length is taken with input 1 (DESIGN CHOICE, log entry 104). -/
def bodySign (handle : Word) (input : Byte) (len : Word) (data : List Byte) (c : Call) (u : State) : State :=
  match u.keys.lookup handle (c.owner u) (some uSIGN) with
  | .error e => c.refuse e u
  | .ok r =>
    let n := sigLenOf r.attr.type
    if input = 1 ∧ messageOnly r.attr.type = true then c.fail (invalidAt 68) u
    else match c.tooBig (8 + n) with
      | some e => c.fail e u
      | none => c.engineOp (signOp r.attr.type handle (c.engineTenant u) input (padTo len.toNat data)) (fun e v =>
          if (v.engine e).result = Status.ok then c.ok (leBytes 4 n ++ [0, 0, 0, 0] ++ v.fwOutput e) v else c.engineFail e v) u

/-- SIGN, run in a mode. -/
def cmdSign (mode : Mode) (h : CmdHdr) (handle : Word) (input : Byte) (rsv : BitVec 24) (len rsv2 : Word) (data : List Byte)
    (s : State) : State :=
  (callSign h handle input rsv len rsv2 data).run mode (bodySign handle input len data) s

/-- SIGN (R137). -/
def execSign (h : CmdHdr) (handle : Word) (input : Byte) (rsv : BitVec 24) (len rsv2 : Word) (data : List Byte) (s : State) :
    Host.Outcome State Fault Refusal :=
  .next (cmdSign .new h handle input rsv len rsv2 data s)

/-- The header, checks and slots of VERIFY. -/
def callVerify (h : CmdHdr) (handle : Word) (input : Byte) (rsv : BitVec 24) (len sigLen : Word) (data sig : List Byte) : Call :=
  { hdr := h, instr := .verify h handle input rsv len sigLen data sig, opc := 0x0402, who := .tenant
    bodyLen := ceilTo 8 (16 + ceilTo 8 len.toNat + sigLen.toNat), slots := [handleSlot handle]
    checks := [
      (!decide (input.toNat ≤ 1), invalidAt 68),
      (!decide (rsv = 0), formatAt 69)] }

/-- VERIFY (R137; 10 R318, R326-R328): firmware checks the encoding that RSA_PUB gives.  A digest of any length is taken with input 1
(DESIGN CHOICE, log entry 104). -/
def bodyVerify (handle : Word) (input : Byte) (len sigLen : Word) (data sig : List Byte) (c : Call) (u : State) : State :=
  match u.keys.lookup handle (c.owner u) (some uVERIFY) with
  | .error e => c.refuse e u
  | .ok r =>
    let t := r.attr.type
    let d := padTo len.toNat data
    if input = 1 ∧ messageOnly t = true then c.fail (invalidAt 68) u
    else if sigLen.toNat ≠ sigLenOf t then c.fail (rangeAt 76) u
    else c.engineOp (checkOp t handle (c.engineTenant u) input d (padTo sigLen.toNat sig)) (fun n v =>
      if (v.engine n).result ≠ Status.ok then c.engineFail n v
      else if isRsaPub t && !Config.verdict (.rsaEncode t.toNat) [signedDigest t input d, v.fwOutput n] then
        c.fail (Status.verifyFail, 0) v
      else c.ok [] v) u

/-- VERIFY, run in a mode. -/
def cmdVerify (mode : Mode) (h : CmdHdr) (handle : Word) (input : Byte) (rsv : BitVec 24) (len sigLen : Word)
    (data sig : List Byte) (s : State) : State :=
  (callVerify h handle input rsv len sigLen data sig).run mode (bodyVerify handle input len sigLen data sig) s

/-- VERIFY (R137). -/
def execVerify (h : CmdHdr) (handle : Word) (input : Byte) (rsv : BitVec 24) (len sigLen : Word) (data sig : List Byte) (s : State) :
    Host.Outcome State Fault Refusal :=
  .next (cmdVerify .new h handle input rsv len sigLen data sig s)

/-- The header, checks and slots of SEAL. -/
def callSeal (h : CmdHdr) (handle : Word) (aadLen rsv : Half) (dataLen rsv2 : Word) (aad data : List Byte) : Call :=
  { hdr := h, instr := .seal h handle aadLen rsv dataLen rsv2 aad data, opc := 0x0403, who := .tenant, inStart := false
    inRecovery := false, bodyLen := ceilTo 8 (16 + ceilTo 8 aadLen.toNat + dataLen.toNat), need := 36 + dataLen.toNat
    slots := [handleSlot handle]
    checks := [(!decide (rsv = 0), formatAt 70), (!decide (rsv2 = 0), formatAt 76)] }

/-- A GCM job of firmware on core `n`: the output and the tag (07 R257). -/
def State.fwGcm (n : Nat) (enc : Bool) (r : KeyRun) (iv aad data : List Byte) (s : State) : Option (List Byte × List Byte) × State :=
  let p := s.fwJob n (if enc then 0x01 else 0x02) r iv [] aad data
  (p.1.map fun x => (x.2, x.1.gcmTag r.material), p.2)

/-- SEAL (R137; 05 R171, R172; 06 R205; 07 R226-R228, R257; log entry 52). -/
def bodySeal (handle : Word) (aadLen : Half) (dataLen : Word) (aad data : List Byte) (c : Call) (u : State) : State :=
  match u.keys.wrapKey handle (c.owner u) uENCRYPT with
  | .error e => c.refuse e u
  | .ok r =>
    match nonceCheck u.insole.trusted handle r with
    | some e => c.refuse e u
    | none =>
      let n := handleSlot handle
      let v := u.leaseSend n
      if u.cipherOn ≠ 0 ∧ u.fwCore = none then c.waitCluster u
      else if !u.welt.leaseOk n r then c.wait (.lease n) [] v
      else
        let w := v.withKeys (Keys.reserve · n)
        if u.cipherOn = 0 then c.fail (Status.notReady, if u.fw.device.isNone then 6 else 4) w
        else match u.fw.device with
        | none => c.fail (Status.notReady, 2) w
        | some dev => c.withCluster (fun core x =>
          let iv := ivBytes (ivBase r.attr.salt u.boot.epoch r.counter ||| BitVec.ofNat 96 (dev.toNat * 2 ^ 64))
          let p := x.fwGcm core true r iv (padTo aadLen.toNat aad) (padTo dataLen.toNat data)
          match p.1 with
          | none => c.wait .cipher [] p.2
          | some (ct, tag) => c.ok (leBytes 4 (28 + dataLen.toNat) ++ [0, 0, 0, 0] ++ iv ++ ct ++ tag) p.2) w

/-- SEAL, run in a mode. -/
def cmdSeal (mode : Mode) (h : CmdHdr) (handle : Word) (aadLen rsv : Half) (dataLen rsv2 : Word) (aad data : List Byte)
    (s : State) : State :=
  (callSeal h handle aadLen rsv dataLen rsv2 aad data).run mode (bodySeal handle aadLen dataLen aad data) s

/-- SEAL (R137). -/
def execSeal (h : CmdHdr) (handle : Word) (aadLen rsv : Half) (dataLen rsv2 : Word) (aad data : List Byte) (s : State) :
    Host.Outcome State Fault Refusal :=
  .next (cmdSeal .new h handle aadLen rsv dataLen rsv2 aad data s)

/-- The header, checks and slots of UNSEAL. -/
def callUnseal (h : CmdHdr) (handle : Word) (aadLen rsv : Half) (sealedLen rsv2 : Word) (aad sealed : List Byte) : Call :=
  let n := sealedLen.toNat - 28
  { hdr := h, instr := .unseal h handle aadLen rsv sealedLen rsv2 aad sealed, opc := 0x0404, who := .tenant
    inStart := false, inRecovery := false, bodyLen := ceilTo 8 (16 + ceilTo 8 aadLen.toNat + sealedLen.toNat), need := 8 + n
    slots := [handleSlot handle]
    checks := [
      (!decide (rsv = 0), formatAt 70),
      (!decide (28 ≤ sealedLen.toNat), rangeAt 72),
      (!decide (rsv2 = 0), formatAt 76)] }

/-- UNSEAL (R137; 07 R222, R257): the tag over IV, AAD and ciphertext is compared before any data is answered. -/
def bodyUnseal (handle : Word) (aadLen : Half) (sealedLen : Word) (aad sealed : List Byte) (c : Call) (u : State) : State :=
  let n := sealedLen.toNat - 28
  let b := padTo sealedLen.toNat sealed
  match u.keys.wrapKey handle (c.owner u) uDECRYPT with
  | .error e => c.refuse e u
  | .ok r =>
    c.withCluster (fun core v =>
      let p := v.fwGcm core false r (b.take 12) (padTo aadLen.toNat aad) (sliceBytes b 12 n)
      match p.1 with
      | none => c.wait .cipher [] p.2
      | some (data, tag) =>
        if tag = b.drop (12 + n) then c.ok (leBytes 4 n ++ [0, 0, 0, 0] ++ data) p.2
        else c.fail (Status.authFail, 0) p.2) u

/-- UNSEAL, run in a mode. -/
def cmdUnseal (mode : Mode) (h : CmdHdr) (handle : Word) (aadLen rsv : Half) (sealedLen rsv2 : Word) (aad sealed : List Byte)
    (s : State) : State :=
  (callUnseal h handle aadLen rsv sealedLen rsv2 aad sealed).run mode (bodyUnseal handle aadLen sealedLen aad sealed) s

/-- UNSEAL (R137). -/
def execUnseal (h : CmdHdr) (handle : Word) (aadLen rsv : Half) (sealedLen rsv2 : Word) (aad sealed : List Byte) (s : State) :
    Host.Outcome State Fault Refusal :=
  .next (cmdUnseal .new h handle aadLen rsv sealedLen rsv2 aad sealed s)

/-- A template for a shared secret is of an AES or HMAC type (10 R320). -/
def agreeTemplate (off : Nat) (t : Attr) : Bool × Half × Word := (!isAes t.type && !isHmac t.type, invalidAt off)

/-- The length of a peer's public key (10 R318). -/
def peerLenOf (t : Byte) : Nat := if t = 0x15 then 32 else 2 * ecLen (t.toNat % 8)

/-- The header, checks and slots of AGREE. -/
def callAgree (h : CmdHdr) (handle peerLen : Word) (t : Attr) (peer : List Byte) (s : State) : Call :=
  { hdr := h, instr := .agree h handle peerLen t peer, opc := 0x0405, who := .tenant, inStart := false
    inRecovery := false, bodyLen := ceilTo 8 (40 + peerLen.toNat), need := newKeyLen t, slots := [handleSlot handle]
    checks := [templateCheck 72 t, agreeTemplate 72 t, ownerCheck 72 h t s] }

/-- AGREE (R137; 10 R318-R328): the key derived from the shared secret comes through the core's key-store channel. -/
def bodyAgree (handle peerLen : Word) (t : Attr) (peer : List Byte) (c : Call) (u : State) : State :=
  match u.keys.lookup handle (c.owner u) (some uAGREE) with
  | .error e => c.refuse e u
  | .ok r =>
    if peerLen.toNat ≠ peerLenOf r.attr.type then c.fail (rangeAt 68) u
    else match createErr u 72 t with
      | some e => c.fail e u
      | none => c.engineOp
          { op := if r.attr.type = 0x15 then 0x23 else 0x13, set := engineSet r.attr.type, key := handle, tenant := c.engineTenant u
            input := padTo peerLen.toNat peer, template := some t } (c.engineKey 72 []) u

/-- AGREE, run in a mode. -/
def cmdAgree (mode : Mode) (h : CmdHdr) (handle peerLen : Word) (t : Attr) (peer : List Byte) (s : State) : State :=
  (callAgree h handle peerLen t peer s).run mode (bodyAgree handle peerLen t peer) s

/-- AGREE (R137). -/
def execAgree (h : CmdHdr) (handle peerLen : Word) (t : Attr) (peer : List Byte) (s : State) : Host.Outcome State Fault Refusal :=
  .next (cmdAgree .new h handle peerLen t peer s)

/-- The header, checks and slots of ENCAPS. -/
def callEncaps (h : CmdHdr) (handle rsv : Word) (t : Attr) (s : State) : Call :=
  { hdr := h, instr := .encaps h handle rsv t, opc := 0x0406, who := .tenant, inStart := false
    inRecovery := false, bodyLen := 40, slots := [handleSlot handle]
    checks := [(!decide (rsv = 0), formatAt 68), templateCheck 72 t, agreeTemplate 72 t, ownerCheck 72 h t s] }

/-- ENCAPS (R137; 10 R318, R322). -/
def bodyEncaps (handle : Word) (t : Attr) (c : Call) (u : State) : State :=
  match u.keys.lookup handle (c.owner u) (some uENCAPS) with
  | .error e => c.refuse e u
  | .ok r =>
    let n := kemCt (engineSet r.attr.type)
    match c.tooBig (8 + n + newKeyLen t), createErr u 72 t with
    | some e, _ => c.fail e u
    | none, some e => c.fail e u
    | none, none => c.engineOp
        { op := 0x31, set := engineSet r.attr.type, key := handle, tenant := c.engineTenant u, template := some t }
        (fun e v => c.engineKey 72 (leBytes 4 n ++ [0, 0, 0, 0] ++ v.fwOutput e) e v) u

/-- ENCAPS, run in a mode. -/
def cmdEncaps (mode : Mode) (h : CmdHdr) (handle rsv : Word) (t : Attr) (s : State) : State :=
  (callEncaps h handle rsv t s).run mode (bodyEncaps handle t) s

/-- ENCAPS (R137). -/
def execEncaps (h : CmdHdr) (handle rsv : Word) (t : Attr) (s : State) : Host.Outcome State Fault Refusal :=
  .next (cmdEncaps .new h handle rsv t s)

/-- The header, checks and slots of DECAPS. -/
def callDecaps (h : CmdHdr) (handle ctLen : Word) (t : Attr) (ct : List Byte) (s : State) : Call :=
  { hdr := h, instr := .decaps h handle ctLen t ct, opc := 0x0407, who := .tenant, inStart := false
    inRecovery := false, bodyLen := ceilTo 8 (40 + ctLen.toNat), need := newKeyLen t, slots := [handleSlot handle]
    checks := [templateCheck 72 t, agreeTemplate 72 t, ownerCheck 72 h t s] }

/-- DECAPS (R137; 10 R318): a ciphertext that fails re-encryption gives the implicit-rejection key. -/
def bodyDecaps (handle ctLen : Word) (t : Attr) (ct : List Byte) (c : Call) (u : State) : State :=
  match u.keys.lookup handle (c.owner u) (some uDECAPS) with
  | .error e => c.refuse e u
  | .ok r =>
    if ctLen.toNat ≠ kemCt (engineSet r.attr.type) then c.fail (rangeAt 68) u
    else match createErr u 72 t with
      | some e => c.fail e u
      | none => c.engineOp
          { op := 0x32, set := engineSet r.attr.type, key := handle, tenant := c.engineTenant u, input := padTo ctLen.toNat ct
            template := some t } (c.engineKey 72 []) u

/-- DECAPS, run in a mode. -/
def cmdDecaps (mode : Mode) (h : CmdHdr) (handle ctLen : Word) (t : Attr) (ct : List Byte) (s : State) : State :=
  (callDecaps h handle ctLen t ct s).run mode (bodyDecaps handle ctLen t ct) s

/-- DECAPS (R137). -/
def execDecaps (h : CmdHdr) (handle ctLen : Word) (t : Attr) (ct : List Byte) (s : State) : Host.Outcome State Fault Refusal :=
  .next (cmdDecaps .new h handle ctLen t ct s)

end Sys2Proof.Machine
end

