-- ==== Sys2Proof/Machine/RingCmds.lean ====
section
/-! DEFINITION. The ring and port commands (04 R138, R139; 06 R184-R187, R213, R587; 08 R282-R289; 09 R301-R304):
commands 0x05 and 0x06. -/

namespace Sys2Proof.Machine

/-- WINDOW for an address field (04 R127). -/
def windowAt (off : Nat) : Half × Word := (Status.window, windowDetail off)

/-- The three areas of a ring lie inside its function's DMA window (R184): none, or the command-block offset of the first that
does not, given the offset of each. -/
def Rings.areaOutside (rs : Rings) (g : Ring) (o1 o2 o3 : Nat) : Option Nat :=
  firstFail [
    (!rs.inWindow g.fn.toNat g.desc (64 * 2 ^ g.size.toNat), o1),
    (!rs.inWindow g.fn.toNat g.cmpl (16 * 2 ^ g.size.toNat), o2),
    (!rs.inWindow g.fn.toNat g.shd 8, o3)]

/-- A new ring: ACTIVE, or STOPPED on a member whose rings its partner carries (06 R183; 16 R473). -/
def Ring.created (given : Bool) (g : Ring) : Ring := { g.start with state := if given then 2 else 1 }

/-- The header, checks and slots of RING_CREATE. -/
def callRingCreate (h : CmdHdr) (ring : Half) (fn vector : Byte) (tenant : Half) (size flags : Byte) (desc cmpl shd : Long)
    : Call :=
  { hdr := h, instr := .ringCreate h ring fn vector tenant size flags desc cmpl shd, opc := 0x0501, who := .admin
    inRecovery := false, bodyLen := 32
    checks := [
      (!decide (ring.toNat ≤ 16383), invalidAt 64),
      (!decide (fn.toNat ≤ 63), invalidAt 66),
      (!decide (tenant.toNat ≤ 1023), invalidAt 68),
      (!decide (4 ≤ size.toNat ∧ size.toNat ≤ 16), formatAt 70),
      (!decide (flags.toNat ≤ 1), formatAt 71),
      (!decide (desc.toNat % 64 = 0), alignAt 72),
      (!decide (cmpl.toNat % 16 = 0), alignAt 80),
      (!decide (shd.toNat % 8 = 0), alignAt 88)] }

/-- RING_CREATE (R184, R185). -/
def bodyRingCreate (ring : Half) (fn vector : Byte) (tenant : Half) (size flags : Byte) (desc cmpl shd : Long) (c : Call)
    (t : State) : State :=
  let g : Ring := { fn := fn.setWidth 6, vector := vector.setWidth 5, size := size.setWidth 5, tenant := tenant.setWidth 10,
                    irqEn := flags.getLsbD 0, desc := desc, cmpl := cmpl, shd := shd }
  let n := ring.toNat
  let owner := t.rings.pageFn (n / 512)
  match t.rings.areaOutside g 72 80 88 with
  | some o => c.fail (windowAt o) t
  | none =>
    match firstFail [
      (!decide ((t.rings.get n).state = 0), invalidAt 64),
      (g.irqEn && !decide (1 ≤ vector.toNat ∧ vector.toNat ≤ 31), invalidAt 67),
      (owner.any fun f => decide (f ≠ g.fn), invalidAt 64)] with
    | some e => c.fail e t
    | none =>
      let u := t.withRings fun rs => (rs.updRing n fun _ => g.created (decide (t.welt.state = .given))).setPage (n / 512) (some g.fn)
      c.okMirrored (u.rings.configRec n false) [] u

/-- RING_CREATE, run in a mode. -/
def cmdRingCreate (mode : Mode) (h : CmdHdr) (ring : Half) (fn vector : Byte) (tenant : Half) (size flags : Byte)
    (desc cmpl shd : Long) (s : State) : State :=
  (callRingCreate h ring fn vector tenant size flags desc cmpl shd).run mode (bodyRingCreate ring fn vector tenant size flags desc cmpl shd) s

/-- RING_CREATE (R184). -/
def execRingCreate (h : CmdHdr) (ring : Half) (fn vector : Byte) (tenant : Half) (size flags : Byte) (desc cmpl shd : Long)
    (s : State) : Host.Outcome State Fault Refusal :=
  .next (cmdRingCreate .new h ring fn vector tenant size flags desc cmpl shd s)

/-- The header, checks and slots of RING_DESTROY. -/
def callRingDestroy (h : CmdHdr) (ring : Half) (rsv : BitVec 48) : Call :=
  { hdr := h, instr := .ringDestroy h ring rsv, opc := 0x0502, who := .admin, inRecovery := false, bodyLen := 8
    checks := [(!decide (ring.toNat ≤ 16383), invalidAt 64), (!decide (rsv = 0), formatAt 66)] }

/-- RING_DESTROY (R139, R213). -/
def bodyRingDestroy (ring : Half) (c : Call) (t : State) : State :=
  let n := ring.toNat
  let g := t.rings.get n
  if g.state = 0 ∨ g.state = 3 then c.fail (invalidAt 64) t
  else
    let ack := if t.welt.mirroring then some t.welt.mirrorSeq else none
    c.wait (.drain n ack) [] ((t.mirror (t.rings.configRec n true)).destroyRing n)

/-- RING_DESTROY, run in a mode. -/
def cmdRingDestroy (mode : Mode) (h : CmdHdr) (ring : Half) (rsv : BitVec 48) (s : State) : State :=
  (callRingDestroy h ring rsv).run mode (bodyRingDestroy ring) s

/-- RING_DESTROY (R213). -/
def execRingDestroy (h : CmdHdr) (ring : Half) (rsv : BitVec 48) (s : State) : Host.Outcome State Fault Refusal :=
  .next (cmdRingDestroy .new h ring rsv s)

/-- The windows after a RING_WINDOW (R139, R186). -/
def Rings.setWindow (rs : Rings) (f w : Nat) (base limit : Long) : Rings :=
  let live := decide (base.toNat < limit.toNat)
  { rs with
    wbase := Bank.set 0 (f + 64 * w) (if live then base else 0) rs.wbase
    wlim := Bank.set 0 (f + 64 * w) (if live then limit else 0) rs.wlim
    windowed := setBit rs.windowed f true }

/-- The header, checks and slots of RING_WINDOW. -/
def callRingWindow (h : CmdHdr) (fn win : Byte) (rsv : BitVec 48) (base limit : Long) : Call :=
  { hdr := h, instr := .ringWindow h fn win rsv base limit, opc := 0x0503, who := .admin, inRecovery := false, bodyLen := 24
    checks := [
      (!decide (fn.toNat ≤ 63), invalidAt 64),
      (!decide (win.toNat ≤ 7), invalidAt 65),
      (!decide (rsv = 0), formatAt 66)] }

/-- The end of an accepted RING_WINDOW: its window holds for the jobs that reach ADMIT after the response (R187). -/
def State.endWindow (fn win : Byte) (base limit : Long) (s : State) : State :=
  s.withRings fun rs => rs.setWindow fn.toNat win.toNat base limit

/-- The record of a window (16 R465 kind 4). -/
def Rings.windowRec (rs : Rings) (f w : Nat) : MirrorRec :=
  .window (Fin.ofNat _ f) (Fin.ofNat _ w) (rs.window f w).1 (rs.window f w).2

/-- RING_WINDOW (R139, R186, R187): in a pair the window changes with the answer, after the record's acknowledgement. -/
def bodyRingWindow (fn win : Byte) (base limit : Long) (c : Call) (t : State) : State :=
  let rs := t.rings.setWindow fn.toNat win.toNat base limit
  if rs.ring.any fun p => decide (p.2.state ≠ 0 ∧ p.2.fn.toNat = fn.toNat) && (rs.areaOutside p.2 0 0 0).isSome then
    c.fail (invalidAt 72) t
  else if t.welt.mirroring then c.wait (.ack t.welt.mirrorSeq) [] (t.sendRecord (rs.windowRec fn.toNat win.toNat))
  else (c.ok [] t).endWindow fn win base limit

/-- RING_WINDOW, run in a mode. -/
def cmdRingWindow (mode : Mode) (h : CmdHdr) (fn win : Byte) (rsv : BitVec 48) (base limit : Long) (s : State) : State :=
  (callRingWindow h fn win rsv base limit).run mode (bodyRingWindow fn win base limit) s

/-- RING_WINDOW (R187). -/
def execRingWindow (h : CmdHdr) (fn win : Byte) (rsv : BitVec 48) (base limit : Long) (s : State) : Host.Outcome State Fault Refusal :=
  .next (cmdRingWindow .new h fn win rsv base limit s)

/-- The record of RING_STATUS (R587). -/
def Rings.record (rs : Rings) (r : Nat) : List Byte :=
  let g := rs.get r
  if g.state = 0 then List.replicate 32 0
  else
    [g.state.setWidth 8, BitVec.ofNat 8 (bit g.fetchErr + 2 * bit g.irqEn), g.fn.setWidth 8, g.vector.setWidth 8]
      ++ leBytes 2 g.tenant.toNat ++ [g.size.setWidth 8, BitVec.ofNat 8 (r / 512)] ++ leBytes 4 g.p.toNat ++ leBytes 4 g.f.toNat
      ++ leBytes 4 g.c.toNat ++ leBytes 4 (rs.inflight r) ++ leBytes 4 g.dbBad.toNat ++ [0, 0, 0, 0]

/-- The header, checks and slots of RING_STATUS. -/
def callRingStatus (h : CmdHdr) (ring : Half) (rsv : BitVec 48) : Call :=
  { hdr := h, instr := .ringStatus h ring rsv, opc := 0x0504, who := .tenant, inRecovery := false, bodyLen := 8, need := 32
    checks := [(!decide (ring.toNat ≤ 16383), invalidAt 64), (!decide (rsv = 0), formatAt 66)] }

/-- RING_STATUS (R587). -/
def bodyRingStatus (ring : Half) (c : Call) (t : State) : State :=
  let g := t.rings.get ring.toNat
  if (c.owner t).any fun o => decide (g.state = 0 ∨ g.tenant.setWidth 16 ≠ o) then c.fail (Status.badOpcode, 1) t
  else c.ok (t.rings.record ring.toNat) t

/-- RING_STATUS, run in a mode. -/
def cmdRingStatus (mode : Mode) (h : CmdHdr) (ring : Half) (rsv : BitVec 48) (s : State) : State :=
  (callRingStatus h ring rsv).run mode (bodyRingStatus ring) s

/-- RING_STATUS (R587). -/
def execRingStatus (h : CmdHdr) (ring : Half) (rsv : BitVec 48) (s : State) : Host.Outcome State Fault Refusal :=
  .next (cmdRingStatus .new h ring rsv s)

/-! ### Ports -/

/-- VLO and VHI in force under a record (R301). -/
def recLo (r : PortRecord) : Nat := if r.vlo = 0 then 0x4000 else r.vlo.toNat
def recHi (r : PortRecord) : Nat := if r.vhi = 0 then 0x40000 else r.vhi.toNat

/-- The checks of the record, in ascending offset; it stands at block offset 72, its tracker part at 88 (R287, R302). -/
def recChecks (r : PortRecord) : List (Bool × Half × Word) := [
  (!decide (r.flags.toNat ≤ 3), formatAt 72),
  (!decide (r.code.toNat ≤ 2 ∨ r.code = 0xFF), invalidAt 73),
  (!r.rsv2Zero, formatAt 74),
  (decide (recHi r < recLo r), invalidAt (if r.vlo = 0 then 96 else 92)),
  (!decide (r.gate = 0 ∨ r.agate = 0 ∨ r.gate.toNat ≤ r.agate.toNat), invalidAt 104),
  (!decide (r.acqN = 0 ∨ 4 ≤ r.acqN.toNat ∧ r.acqN.toNat ≤ 64), invalidAt 112),
  (!decide (r.rsv25 = 0), formatAt 113),
  (!decide (r.tmoUs = 0 ∨ 20 ≤ r.tmoUs.toNat ∧ r.tmoUs.toNat ≤ 1000), invalidAt 114),
  (!decide (r.holdMs = 0 ∨ 10 ≤ r.holdMs.toNat ∧ r.holdMs.toNat ≤ 60000), invalidAt 116),
  (!r.rsv30Zero, formatAt 118)]

/-- BETA computed from the ALPHA in use, to the nearest (R304). -/
def betaOf (a : Nat) : Half := BitVec.ofNat 16 ((2 * a * a + (131072 - a)) / (2 * (131072 - a)))

/-- A port under an accepted record: its counters clear and its tracker is idle (R287, R290, R301, R314). -/
def Port.configured (r : PortRecord) (p : Port) : Port :=
  let alpha : Half := if r.alpha = 0 then 0x2000 else r.alpha
  { p with
    en := r.flags.getLsbD 0, dual := r.flags.getLsbD 1
    xcode := if r.code = 0xFF then p.xcode else r.code.setWidth 2, xany := decide (r.code = 0xFF)
    trained := .no, step := .caps, attempt := 0, attempts := 0
    crc := 0, unmatched := 0, excess := 0, resync := 0, skips := 0, sentCnt := 0
    holding := if r.flags.getLsbD 0 then p.holding else none
    holdOver := false, reach := none
    alpha := alpha, beta := if r.beta = 0 then betaOf alpha.toNat else r.beta
    vlo := BitVec.ofNat 32 (recLo r), vhi := BitVec.ofNat 32 (recHi r), lead := r.lead, gate := r.gate, agate := r.agate
    acqN := r.acqN.setWidth 7, tmoUs := r.tmoUs.setWidth 10, holdMs := r.holdMs
    trk := { p.trk with state := 0, rej := 0, stamps := 0, acqs := 0, missed := 0, accept := 0, reject := 0, tmoCnt := 0,
                        clamp := 0, defer := 0, skipTx := 0 } }

/-- Every waiting SOLE_READ and every staged SOLE_WRITE of a port completes with ABORTED, detail 3 (R287). -/
def State.abortPort (n : Nat) (s : State) : State :=
  let ks := (s.rings.parkedOn n).map Prod.fst
    ++ ((s.sole.get n).sched.filter fun e => e.granule.isSome).map SchedEntry.job
  ks.foldl (fun t k => t.failJob k Status.aborted 3 8) s

/-- The header, checks and slots of PORT_CONFIG. -/
def callPortConfig (h : CmdHdr) (port : Byte) (rsv : BitVec 24) (recLen : Word) (r : PortRecord) : Call :=
  { hdr := h, instr := .portConfig h port rsv recLen r, opc := 0x0601, who := .admin, inRecovery := false
    bodyLen := ceilTo 8 (8 + recLen.toNat)
    checks := [
      (!decide (port.toNat ≤ 15), invalidAt 64),
      (!decide (rsv = 0), formatAt 65),
      (!decide (recLen = 64), rangeAt 68)] ++ recChecks r }

/-- PORT_CONFIG (R287, R302). -/
def bodyPortConfig (port : Byte) (r : PortRecord) (c : Call) (t : State) : State :=
  let n := port.toNat
  let t1 := (t.abortPort n).updPort n (Port.configured r)
  let t2 := (t1.roleFrame n (portActive t (t.sole.get n))).startTraining n
  c.okMirrored (t2.portRec n none) [] t2

/-- PORT_CONFIG, run in a mode. -/
def cmdPortConfig (mode : Mode) (h : CmdHdr) (port : Byte) (rsv : BitVec 24) (recLen : Word) (r : PortRecord) (s : State)
    : State :=
  (callPortConfig h port rsv recLen r).run mode (bodyPortConfig port r) s

/-- PORT_CONFIG (R287). -/
def execPortConfig (h : CmdHdr) (port : Byte) (rsv : BitVec 24) (recLen : Word) (r : PortRecord) (s : State) :
    Host.Outcome State Fault Refusal :=
  .next (cmdPortConfig .new h port rsv recLen r s)

/-- LST_STATE_n (R314). -/
def Tracker.word (k : Tracker) : Word :=
  BitVec.ofNat 32 (k.state.toNat + 4 * k.rej.toNat + 256 * k.acqs.toNat + 65536 * k.missed.toNat)

/-- The PORT_STATUS record (R289). -/
def portRecord (s : State) (n : Nat) : List Byte :=
  let p := s.sole.get n
  [BitVec.ofNat 8 (portState s p), BitVec.ofNat 8 (bit (portActive s p)), p.code.setWidth 8, BitVec.ofNat 8 (bit p.dual + 2 * bit p.drvActive)]
    ++ leBytes 4 p.attempts.toNat ++ leBytes 8 p.tpp.toNat ++ leBytes 4 p.pitch.toNat ++ leBytes 4 p.spp.toNat
    ++ leBytes 4 p.offs.toNat ++ leBytes 4 p.delay.toNat ++ leBytes 4 p.granUsed ++ leBytes 4 (s.rings.parkedOn n).length
    ++ leBytes 4 p.crc.toNat ++ leBytes 4 p.unmatched.toNat ++ leBytes 4 p.skips.toNat ++ leBytes 4 p.resync.toNat
    ++ leBytes 4 p.sentCnt.toNat ++ leBytes 4 p.trk.word.toNat

/-- The checks of a body that holds a port and reserved bytes. -/
def portChecks (port : Byte) (rsvZero : Bool) : List (Bool × Half × Word) :=
  [(!decide (port.toNat ≤ 15), invalidAt 64), (!rsvZero, formatAt 65)]

/-- The header, checks and slots of PORT_STATUS. -/
def callPortStatus (h : CmdHdr) (port : Byte) (rsv : BitVec 56) : Call :=
  { hdr := h, instr := .portStatus h port rsv, opc := 0x0602, who := .tenant, inRecovery := false, bodyLen := 8, need := 64
    checks := portChecks port (decide (rsv = 0)) }

/-- PORT_STATUS (R289). -/
def bodyPortStatus (port : Byte) (c : Call) (t : State) : State :=
  c.ok (portRecord t port.toNat) t

/-- PORT_STATUS, run in a mode. -/
def cmdPortStatus (mode : Mode) (h : CmdHdr) (port : Byte) (rsv : BitVec 56) (s : State) : State :=
  (callPortStatus h port rsv).run mode (bodyPortStatus port) s

/-- PORT_STATUS (R289). -/
def execPortStatus (h : CmdHdr) (port : Byte) (rsv : BitVec 56) (s : State) : Host.Outcome State Fault Refusal :=
  .next (cmdPortStatus .new h port rsv s)

/-- The index of the entry of a volume and key identifier, and the lowest free index (R282). -/
def Port.volIndex (p : Port) (vol : BitVec 24) (keyId : Long) : Option Nat :=
  (List.range 256).find? fun i =>
    let e := Bank.get {} p.vols i
    e.valid && decide (e.vol = vol ∧ e.keyId = keyId)
def Port.volFree (p : Port) : Option Nat := (List.range 256).find? fun i => !(Bank.get ({} : VolEntry) p.vols i).valid

/-- The header, checks and slots of VOLUME_BIND. -/
def callVolumeBind (h : CmdHdr) (port : Byte) (rsv : BitVec 24) (volume : Word) (keyId : Long) (handle rsv2 : Word) : Call :=
  { hdr := h, instr := .volumeBind h port rsv volume keyId handle rsv2, opc := 0x0603, who := .admin, inRecovery := false
    bodyLen := 24, slots := if handle = 0 then [] else [handleSlot handle]
    checks := [
      (!decide (port.toNat ≤ 15), invalidAt 64),
      (!decide (rsv = 0), formatAt 65),
      (!decide (volume.toNat < 2 ^ 24), invalidAt 68),
      (!decide (rsv2 = 0), formatAt 84)] }

/-- VOLUME_BIND (R282). -/
def bodyVolumeBind (port : Byte) (volume : Word) (keyId : Long) (handle : Word) (c : Call) (t : State) : State :=
  let vol : BitVec 24 := volume.setWidth 24
  let n := port.toNat
  let p := t.sole.get n
  let said (e : VolEntry) (u : State) := c.okMirrored (u.portRec n (some e)) [] u
  let put (i : Nat) (e : VolEntry) := said e (t.updPort n fun p => { p with vols := Bank.set {} i e p.vols })
  if handle = 0 then
    let gone : VolEntry := { keyId := keyId, vol := vol }
    match p.volIndex vol keyId with
    | some i => said gone (t.updPort n fun p => { p with vols := Bank.set {} i {} p.vols })
    | none => said gone t
  else match t.keys.lookup handle none (some uDECRYPT) with
    | .error e => c.refuse e t
    | .ok r =>
      if r.keyId ≠ keyId then c.fail (invalidAt 72) t
      else match p.volIndex vol keyId, p.volFree with
        | some i, _ => put i { keyId := keyId, vol := vol, valid := true, handle := handle }
        | none, some i => put i { keyId := keyId, vol := vol, valid := true, handle := handle }
        | none, none => c.fail (invalidAt 68) t

/-- VOLUME_BIND, run in a mode. -/
def cmdVolumeBind (mode : Mode) (h : CmdHdr) (port : Byte) (rsv : BitVec 24) (volume : Word) (keyId : Long)
    (handle rsv2 : Word) (s : State) : State :=
  (callVolumeBind h port rsv volume keyId handle rsv2).run mode (bodyVolumeBind port volume keyId handle) s

/-- VOLUME_BIND (R282). -/
def execVolumeBind (h : CmdHdr) (port : Byte) (rsv : BitVec 24) (volume : Word) (keyId : Long) (handle rsv2 : Word) (s : State) :
    Host.Outcome State Fault Refusal :=
  .next (cmdVolumeBind .new h port rsv volume keyId handle rsv2 s)

/-- The header, checks and slots of PORT_HOLD. -/
def callPortHold (h : CmdHdr) (port : Byte) (rsv : BitVec 56) : Call :=
  { hdr := h, instr := .portHold h port rsv, opc := 0x0604, who := .admin, inStart := false, inRecovery := false, bodyLen := 8
    checks := portChecks port (decide (rsv = 0)) }

/-- PORT_HOLD (R288). -/
def bodyPortHold (port : Byte) (c : Call) (t : State) : State :=
  c.ok [] (((t.updPort port.toNat fun p => { p with hold := true }).holdWrites port.toNat port.toNat).settleHold port.toNat)

/-- PORT_HOLD, run in a mode. -/
def cmdPortHold (mode : Mode) (h : CmdHdr) (port : Byte) (rsv : BitVec 56) (s : State) : State :=
  (callPortHold h port rsv).run mode (bodyPortHold port) s

/-- PORT_HOLD (R288). -/
def execPortHold (h : CmdHdr) (port : Byte) (rsv : BitVec 56) (s : State) : Host.Outcome State Fault Refusal :=
  .next (cmdPortHold .new h port rsv s)

/-- The header, checks and slots of PORT_RELEASE. -/
def callPortRelease (h : CmdHdr) (port : Byte) (rsv : BitVec 56) : Call :=
  { hdr := h, instr := .portRelease h port rsv, opc := 0x0605, who := .admin, inStart := false, inRecovery := false, bodyLen := 8
    checks := portChecks port (decide (rsv = 0)) }

/-- PORT_RELEASE (R288). -/
def bodyPortRelease (port : Byte) (c : Call) (t : State) : State :=
  c.ok [] (t.endHostHold port.toNat)

/-- PORT_RELEASE, run in a mode. -/
def cmdPortRelease (mode : Mode) (h : CmdHdr) (port : Byte) (rsv : BitVec 56) (s : State) : State :=
  (callPortRelease h port rsv).run mode (bodyPortRelease port) s

/-- PORT_RELEASE (R288). -/
def execPortRelease (h : CmdHdr) (port : Byte) (rsv : BitVec 56) (s : State) : Host.Outcome State Fault Refusal :=
  .next (cmdPortRelease .new h port rsv s)

end Sys2Proof.Machine
end

