-- ==== Sys2Proof/Machine/DevCmds.lean ====
section
/-! DEFINITION. The device and management commands (04 R145-R148; 02 R59-R62, R67; 17 R485-R495; 20 R564): commands 0x0B and
0x0C. -/

namespace Sys2Proof.Machine

/-! ### Records and evidence -/

/-- Device ID of the PF (03 R72). -/
def deviceId : Nat := 0x7840

/-- The DEVICE_INFO record (R148). -/
def deviceRecord (s : State) : List Byte :=
  padTo 128 (leBytes 2 deviceId ++ leBytes 2 0x00B0 ++ leBytes 2 0x0104
    ++ [BitVec.ofNat 8 (lifecycleCode s.pins.lifecycle), BitVec.ofNat 8 (bit s.fw.membership.isSome)]
    ++ leBytes 2 s.devNo.toNat ++ List.replicate 6 0 ++ s.boot.id ++ leBytes 8 s.cob.unitEn.toNat
    ++ leBytes 4 s.keys.inUse ++ leBytes 4 s.fw.open.length)

/-- The header, checks and slots of DEVICE_INFO. -/
def callDeviceInfo (h : CmdHdr) : Call :=
  { hdr := h, instr := .deviceInfo h, opc := 0x0B01, need := 128 }

/-- DEVICE_INFO (R148).  Without a membership the device number is a free value (log entry 4). -/
def bodyDeviceInfo (c : Call) (t : State) : State :=
  if t.fw.membership.isSome then c.ok (deviceRecord t) t
  else t.draw 2 fun n u => c.ok ((deviceRecord u).take 8 ++ padTo 2 n ++ (deviceRecord u).drop 10) u

/-- DEVICE_INFO, run in a mode. -/
def cmdDeviceInfo (mode : Mode) (h : CmdHdr) (s : State) : State :=
  (callDeviceInfo h).run mode bodyDeviceInfo s

/-- DEVICE_INFO (R148). -/
def execDeviceInfo (h : CmdHdr) (s : State) : Host.Outcome State Fault Refusal := .next (cmdDeviceInfo .new h s)

/-- The header, checks and slots of ATTEST_GET. -/
def callAttestGet (h : CmdHdr) (alg : Byte) (rsv : BitVec 24) (mask : Word) (nonce : BitVec 256) : Call :=
  { hdr := h, instr := .attestGet h alg rsv mask nonce, opc := 0x0B02, bodyLen := 40
    checks := [(!decide (alg.toNat ≤ 1), invalidAt 64), (!decide (rsv = 0), formatAt 65)] }

/-- ATTEST_GET (R145).  The evidence's layout is not stated: free bytes of a free length (log entry 4). -/
def bodyAttestGet (alg : Byte) (c : Call) (t : State) : State :=
  t.draw (Config.freeNat t.freeCount) fun ev v =>
    match c.tooBig (8 + ceilTo 8 ev.length + if alg = 1 then 3309 else 96) with
    | some e => c.fail e v
    | none => c.attested (decide (alg = 1)) ev (fun sig w =>
        c.ok (leBytes 4 ev.length ++ leBytes 4 sig.length ++ pad8 ev ++ sig) w) v

/-- ATTEST_GET, run in a mode. -/
def cmdAttestGet (mode : Mode) (h : CmdHdr) (alg : Byte) (rsv : BitVec 24) (mask : Word) (nonce : BitVec 256) (s : State)
    : State :=
  (callAttestGet h alg rsv mask nonce).run mode (bodyAttestGet alg) s

/-- ATTEST_GET (R145). -/
def execAttestGet (h : CmdHdr) (alg : Byte) (rsv : BitVec 24) (mask : Word) (nonce : BitVec 256) (s : State) :
    Host.Outcome State Fault Refusal :=
  .next (cmdAttestGet .new h alg rsv mask nonce s)

/-- The header, checks and slots of MEAS_READ. -/
def callMeasRead (h : CmdHdr) (index : Byte) (rsv : BitVec 56) : Call :=
  { hdr := h, instr := .measRead h index rsv, opc := 0x0B03, bodyLen := 8, need := 72
    checks := [(!decide (index.toNat ≤ 31), invalidAt 64), (!decide (rsv = 0), formatAt 65)] }

/-- MEAS_READ (R145; 11 R357). -/
def bodyMeasRead (index : Byte) (c : Call) (t : State) : State :=
  let m : MeasReg := Bank.get {} t.dig.meas index.toNat
  c.ok ([m.alg] ++ List.replicate 7 0 ++ m.value) t

/-- MEAS_READ, run in a mode. -/
def cmdMeasRead (mode : Mode) (h : CmdHdr) (index : Byte) (rsv : BitVec 56) (s : State) : State :=
  (callMeasRead h index rsv).run mode (bodyMeasRead index) s

/-- MEAS_READ (R145). -/
def execMeasRead (h : CmdHdr) (index : Byte) (rsv : BitVec 56) (s : State) : Host.Outcome State Fault Refusal :=
  .next (cmdMeasRead .new h index rsv s)

/-! ### Extension modules (20 R563, R564) -/

/-- A package is a decode package when it carries that magic or its command names a quorum; a module of extension code otherwise. -/
def isDecodePackage (qid : Word) (p : List Byte) : Bool := decide (qid ≠ 0) || decide (sliceBytes p 0 4 = ascii "CXDP")

/-- E of a decode package, its entry records, and the bytes that its signatures cover (20 R563). -/
def packageCount (p : List Byte) : Nat := ofLe (sliceBytes p 6 2)
def packageEntries (p : List Byte) : List DecodeEntry :=
  (List.range (packageCount p)).map fun i => DecodeEntry.ofBytes (sliceBytes p (16 + 136 * i) 136)
def packageSigned (p : List Byte) : Nat := 16 + 136 * packageCount p

/-- The opcodes of a list repeat one of `seen` or lie outside 0xF0-0xFF: index of the first that does. -/
def badOpcode (seen : List Byte) : List DecodeEntry → Nat → Option Nat
  | [], _ => none
  | e :: t, i => if e.opcode.toNat < 0xF0 ∨ seen.contains e.opcode = true then some i else badOpcode (e.opcode :: seen) t (i + 1)

/-- The first entry with a property of its content that is refused, with the offset inside the entry. -/
def badEntry (l : List DecodeEntry) : Option (Nat × Nat) :=
  (List.range l.length).findSome? fun i =>
    match l[i]? with
    | none => none
    | some e =>
      if e.count.toNat < 1 ∨ 16 < e.count.toNat then some (i, 3)
      else ((List.range e.count.toNat).find? fun j => !mwValid (e.words.getD j 0)).map fun j => (i, 8 + 8 * j)

/-- The first two checks of R564 on a decode package at block offset 72: its form, and a membership. -/
def packageForm (s : State) (p : List Byte) : List (Bool × Half × Word) :=
  let n := packageCount p
  let badRsv := (List.range n).find? fun i => ((packageEntries p)[i]?).any fun e => !zeros e.reserved
  [ (!decide (sliceBytes p 0 4 = ascii "CXDP"), formatAt 72),
    (!decide (p.getD 4 0 = 1), formatAt 76),
    (!decide (1 ≤ n ∧ n ≤ 16), formatAt 78),
    (!decide (p.length = 3421 + 136 * n), formatAt 68),
    (badRsv.isSome, formatAt (88 + 136 * badRsv.getD 0 + 4)),
    (s.fw.membership.isNone, (Status.notReady, 2))]

/-- A version below EXT_FLOOR or above 64 (20 R564; 02 R62). -/
def State.badVersion (s : State) (version : Byte) : Bool := decide (version.toNat < s.pins.extFloor) || decide (64 < version.toNat)

/-- The fourth check of R564: the version, the opcodes and the microwords. -/
def packageContent (s : State) (p : List Byte) : List (Bool × Half × Word) :=
  let l := packageEntries p
  let badOp := badOpcode s.fw.loadedOps l 0
  let bad := (badEntry l).getD (0, 0)
  [ (s.badVersion (p.getD 5 0), invalidAt 77),
    (badOp.isSome, invalidAt (88 + 136 * badOp.getD 0)),
    ((badEntry l).isSome, invalidAt (88 + 136 * bad.1 + bad.2))]

/-- A package takes effect and gets its module ID. -/
def State.installModule (decode : Bool) (version : Byte) (ops p : List Byte) (s : State) : State :=
  s.withFw fun f =>
    { f with modules := f.modules ++ [{ id := f.nextModule, decode := decode, version := version, ops := ops, package := p }]
             nextModule := f.nextModule + 1, loadedOps := f.loadedOps ++ ops }

/-- A decode package takes effect: each entry in the decode-table RAM of every custody core (R564). -/
def State.installPackage (p : List Byte) (s : State) : State :=
  let l := packageEntries p
  (s.retable fun b => l.foldl (fun b e => loadEntry e b) b).installModule true (p.getD 5 0) (l.map DecodeEntry.opcode) p

/-- The header, checks and slots of EXT_LOAD.  The signatures of a decode package come before its content, its quorum and check 18
(R564), so the body holds those. -/
def callExtLoad (h : CmdHdr) (qid len : Word) (p : List Byte) (s : State) : Call :=
  { hdr := h, instr := .extLoad h qid len p, opc := 0x0B04, who := .admin, inService := false, inRecovery := false
    bodyLen := ceilTo 8 (8 + len.toNat)
    checks := if isDecodePackage qid p then packageForm s (padTo len.toNat p) else [] }

/-- The module ID, or WINDOW where the capacity has no room for it. -/
def Call.moduleId (c : Call) (k : State → State) (s : State) : State :=
  match c.tooBig 8 with
  | some e => c.fail e s
  | none => c.ok (leBytes 4 s.fw.nextModule.toNat ++ [0, 0, 0, 0]) (k s)

/-- EXT_LOAD (20 R564; R151).  The form of a code module is not stated: its verdict and its version are functions of its bytes (log entry
45). -/
def bodyExtLoad (qid len : Word) (p : List Byte) (c : Call) (t : State) : State :=
  let b := padTo len.toNat p
  if isDecodePackage qid p then
    match t.fw.membership with
    | none => c.fail (Status.notReady, 2) t
    | some m =>
      let n := packageSigned b
      c.rootSigned m (b.take n) (sliceBytes b n 96) (sliceBytes b (n + 96) 3309) (fun good t =>
        match firstFail ((!good, (Status.verifyFail, (0 : Word))) :: packageContent t b) with
        | some e => c.fail e t
        | none => match c.tooBig 8 with
          | some e => c.fail e t
          | none => c.withTicket qid (purposeDigest (leBytes 4 len.toNat ++ pad8 b)) (c.moduleId (State.installPackage b)) t) t
  else
    let version := (Config.out .extVersion [b] 1).headD 0
    match firstFail [(!Config.verdict .extSigned [b], (Status.verifyFail, (0 : Word))), (t.badVersion version, invalidAt 72)] with
    | some e => c.fail e t
    | none => c.moduleId (State.installModule false version [] b) t

/-- EXT_LOAD, run in a mode. -/
def cmdExtLoad (mode : Mode) (h : CmdHdr) (qid len : Word) (p : List Byte) (s : State) : State :=
  (callExtLoad h qid len p s).run mode (bodyExtLoad qid len p) s

/-- EXT_LOAD (20 R564). -/
def execExtLoad (h : CmdHdr) (qid len : Word) (p : List Byte) (s : State) : Host.Outcome State Fault Refusal :=
  .next (cmdExtLoad .new h qid len p s)

/-- The header, checks and slots of EXT_UNLOAD. -/
def callExtUnload (h : CmdHdr) (moduleId rsv : Word) : Call :=
  { hdr := h, instr := .extUnload h moduleId rsv, opc := 0x0B05, who := .admin, inRecovery := false, bodyLen := 8
    checks := [(!decide (rsv = 0), formatAt 68)] }

/-- EXT_UNLOAD (20 R564): an unknown module ID is refused (log entry 45). -/
def bodyExtUnload (moduleId : Word) (c : Call) (t : State) : State :=
  match t.fw.modules.find? fun m => decide (m.id = moduleId) with
  | none => c.fail (invalidAt 64) t
  | some m =>
    c.ok [] ((t.retable fun b => m.ops.foldl (fun b o => clearEntry o b) b).withFw fun f =>
      { f with modules := f.modules.filter fun x => !decide (x.id = moduleId) })

/-- EXT_UNLOAD, run in a mode. -/
def cmdExtUnload (mode : Mode) (h : CmdHdr) (moduleId rsv : Word) (s : State) : State :=
  (callExtUnload h moduleId rsv).run mode (bodyExtUnload moduleId) s

/-- EXT_UNLOAD (20 R564). -/
def execExtUnload (h : CmdHdr) (moduleId rsv : Word) (s : State) : Host.Outcome State Fault Refusal :=
  .next (cmdExtUnload .new h moduleId rsv s)

/-! ### Firmware update (17 R494, R495) and version floors (02 R62) -/

/-- The header, checks and slots of FW_STAGE. -/
def callFwStage (h : CmdHdr) (addr : Long) (len rsv : Word) : Call :=
  { hdr := h, instr := .fwStage h addr len rsv, opc := 0x0B06, who := .admin, inStart := false, inRecovery := false
    bodyLen := 16, checks := [(!decide (rsv = 0), formatAt 76)] }

/-- FW_STAGE (17 R494): codes 0x10 and 0x11 of R55 are decided before the image is read. -/
def bodyFwStage (addr : Long) (len : Word) (c : Call) (t : State) : State :=
  if len = 0 ∨ 0x400000 < len.toNat then c.fail (Status.lengthShort, 0) t
  else if 2 ^ 64 < addr.toNat + len.toNat then c.fail (windowAt 64) t
  else c.wait .stage [] t

/-- FW_STAGE, run in a mode. -/
def cmdFwStage (mode : Mode) (h : CmdHdr) (addr : Long) (len rsv : Word) (s : State) : State :=
  (callFwStage h addr len rsv).run mode (bodyFwStage addr len) s

/-- FW_STAGE (17 R494). -/
def execFwStage (h : CmdHdr) (addr : Long) (len rsv : Word) (s : State) : Host.Outcome State Fault Refusal :=
  .next (cmdFwStage .new h addr len rsv s)

/-- The status of a failed check of R55 (17 R494). -/
def stageStatus (code : Nat) (received : Nat) : Half × Word :=
  if code < 0x20 then (Status.lengthShort, BitVec.ofNat 32 received)
  else if code < 0x30 ∨ 0x40 ≤ code then invalidAt 64
  else (Status.verifyFail, 0)

/-- The header, checks and slots of FLOOR_RAISE. -/
def callFloorRaise (h : CmdHdr) (qid : Word) (which value : Byte) (rsv : Half) : Call :=
  { hdr := h, instr := .floorRaise h qid which value rsv, opc := 0x0B07, who := .admin, inStart := false, inRecovery := false
    bodyLen := 8
    quorum := some (qid, purposeDigest ([which, value] ++ leBytes 2 rsv.toNat))
    checks := [
      (!decide (which.toNat ≤ 2), invalidAt 68),
      (!decide (rsv = 0), formatAt 70)] }

/-- FLOOR_RAISE (R145, R155; 02 R61, R62): a fuse floor is never lowered. -/
def bodyFloorRaise (which value : Byte) (c : Call) (t : State) : State :=
  let v := value.toNat
  if 64 < v ∨ (which = 0 ∧ t.boot.fwVer.toNat < v) ∨ (which = 1 ∧ t.boot.cobVer.toNat < v) then c.fail (invalidAt 69) t
  else c.ok [] (t.withPins fun p =>
    if which = 0 then { p with fwFloor := max p.fwFloor v }
    else if which = 1 then { p with cobFloor := max p.cobFloor v }
    else { p with extFloor := max p.extFloor v })

/-- FLOOR_RAISE, run in a mode. -/
def cmdFloorRaise (mode : Mode) (h : CmdHdr) (qid : Word) (which value : Byte) (rsv : Half) (s : State) : State :=
  (callFloorRaise h qid which value rsv).run mode (bodyFloorRaise which value) s

/-- FLOOR_RAISE (02 R62). -/
def execFloorRaise (h : CmdHdr) (qid : Word) (which value : Byte) (rsv : Half) (s : State) : Host.Outcome State Fault Refusal :=
  .next (cmdFloorRaise .new h qid which value rsv s)

/-! ### Phases and shutdown (02 R59, R60, R67; R147; 16 R479) -/

/-- The header, checks and slots of PHASE_ADVANCE. -/
def callPhaseAdvance (h : CmdHdr) (target : Byte) (rsv : BitVec 56) : Call :=
  { hdr := h, instr := .phaseAdvance h target rsv, opc := 0x0B08, who := .admin, inService := false, bodyLen := 8
    checks := [(!decide (rsv = 0), formatAt 65)] }

/-- PHASE_ADVANCE (02 R59, R60; R147; 16 R479).  A target that is no phase code gives PHASE (DESIGN CHOICE, log entry 108). -/
def bodyPhaseAdvance (target : Byte) (c : Call) (t : State) : State :=
  let no := c.fail (Status.phase, phaseDetail t) t
  match t.boot.phase with
  | .start =>
    if target = 2 then
      (if t.insole.ik.isNone || t.fw.membership.isNone then c.fail (Status.notReady, 2) t else c.ok [] (t.setPhase .service))
    else if target = 3 ∧ t.pins.lifecycle = .test then c.ok [] (t.setPhase .test)
    else no
  | .recovery => if target = 2 ∧ t.fw.joined = true then c.ok [] (t.setPhase .service) else no
  | _ => no

/-- PHASE_ADVANCE, run in a mode. -/
def cmdPhaseAdvance (mode : Mode) (h : CmdHdr) (target : Byte) (rsv : BitVec 56) (s : State) : State :=
  (callPhaseAdvance h target rsv).run mode (bodyPhaseAdvance target) s

/-- PHASE_ADVANCE (02 R59). -/
def execPhaseAdvance (h : CmdHdr) (target : Byte) (rsv : BitVec 56) (s : State) : Host.Outcome State Fault Refusal :=
  .next (cmdPhaseAdvance .new h target rsv s)

/-- The header, checks and slots of SHELF_DOWN. -/
def callShelfDown (h : CmdHdr) (shadows : List (Fin 16384 × Long)) : Call :=
  { hdr := h, instr := .shelfDown h shadows, opc := 0x0B09, who := .admin, need := 136 }

/-- SHELF_DOWN is accepted (02 R67 steps 1 and 2, R69; 06 R192): the tail shadows join P, a pair member sends DEPART, and the
command waits for the rings. -/
def bodyShelfDown (shadows : List (Fin 16384 × Long)) (c : Call) (t : State) : State :=
  let t1 := t.withRings fun rs => shadows.foldl (fun (x : Rings) p =>
    x.updRing p.1.val fun g => if g.state = 1 ∨ g.state = 2 ∨ g.state = 4 then g.shadow p.2 else g) rs
  let t2 := t1.withBoot fun b => { b with shelfDown := true }
  c.wait .shelf [] (if t2.welt.confirmed then t2.sendDepart 0 else t2)

/-- SHELF_DOWN, run in a mode. -/
def cmdShelfDown (mode : Mode) (h : CmdHdr) (shadows : List (Fin 16384 × Long)) (s : State) : State :=
  (callShelfDown h shadows).run mode (bodyShelfDown shadows) s

/-- SHELF_DOWN (02 R67). -/
def execShelfDown (h : CmdHdr) (shadows : List (Fin 16384 × Long)) (s : State) : Host.Outcome State Fault Refusal :=
  .next (cmdShelfDown .new h shadows s)

/-! ### Sensors and the event log (17 R485, R492) -/

/-- The SENSOR_READ record (17 R485). -/
def sensorRecord (s : State) (i : Nat) : List Byte :=
  leBytes 2 i ++ [if i < 8 then 0 else if i < 14 ∨ i = 18 then 1 else 2, 0] ++ leBytes 4 (Bank.get 0 s.cob.sens i).toNat
    ++ leBytes 4 (Bank.get 0 s.cob.sensMin i).toNat ++ leBytes 4 (Bank.get 0 s.cob.sensMax i).toNat

/-- The header, checks and slots of SENSOR_READ. -/
def callSensorRead (h : CmdHdr) (index : Half) (rsv : BitVec 48) : Call :=
  { hdr := h, instr := .sensorRead h index rsv, opc := 0x0C01, who := .admin, bodyLen := 8, need := 16
    checks := [(!decide (index.toNat ≤ 18), invalidAt 64), (!decide (rsv = 0), formatAt 66)] }

/-- SENSOR_READ (17 R485). -/
def bodySensorRead (index : Half) (c : Call) (t : State) : State :=
  c.ok (sensorRecord t index.toNat) t

/-- SENSOR_READ, run in a mode. -/
def cmdSensorRead (mode : Mode) (h : CmdHdr) (index : Half) (rsv : BitVec 48) (s : State) : State :=
  (callSensorRead h index rsv).run mode (bodySensorRead index) s

/-- SENSOR_READ (17 R485). -/
def execSensorRead (h : CmdHdr) (index : Half) (rsv : BitVec 48) (s : State) : Host.Outcome State Fault Refusal :=
  .next (cmdSensorRead .new h index rsv s)

/-- The 24 bytes of an event-log entry (17 R492). -/
def eventBytes (e : Event) : List Byte :=
  leBytes 4 e.seq.toNat ++ leBytes 8 e.time.toNat ++ leBytes 2 e.unit.toNat ++ [e.cls, BitVec.ofNat 8 (bit e.coalesced)]
    ++ leBytes 4 e.count.toNat ++ leBytes 4 e.detail.toNat

/-- The body of an event-log read from sequence `first` of at most `n` entries: count, last sequence, entries. -/
def eventBody (c : Cob) (first : Word) (n : Nat) : List Byte :=
  let es := (c.events.filter fun e => decide (first.toNat ≤ e.seq.toNat)).take n
  let last : Word := match es.getLast? with | some e => e.seq | none => c.evtNext - 1
  leBytes 4 es.length ++ leBytes 4 last.toNat ++ es.flatMap eventBytes

/-- Entries lost to overwriting from sequence `first` on (17 R492). -/
def eventsLost (c : Cob) (first : Word) : Word :=
  match c.events with
  | e :: _ => if first.toNat < e.seq.toNat then e.seq - first else 0
  | [] => 0

/-- The header, checks and slots of EVENT_READ. -/
def callEventRead (h : CmdHdr) (first max : Word) : Call :=
  { hdr := h, instr := .eventRead h first max, opc := 0x0C02, who := .admin, bodyLen := 8, need := 8
    checks := [(!decide (1 ≤ max.toNat ∧ max.toNat ≤ 4096), rangeAt 68)] }

/-- EVENT_READ (17 R492; R115). -/
def bodyEventRead (h : CmdHdr) (first max : Word) (c : Call) (t : State) : State :=
  c.respond Status.ok (eventsLost t.cob first)
    (eventBody t.cob first (min max.toNat ((h.respCap.toNat - 40) / 24))) t

/-- EVENT_READ, run in a mode. -/
def cmdEventRead (mode : Mode) (h : CmdHdr) (first max : Word) (s : State) : State :=
  (callEventRead h first max).run mode (bodyEventRead h first max) s

/-- EVENT_READ (17 R492). -/
def execEventRead (h : CmdHdr) (first max : Word) (s : State) : Host.Outcome State Fault Refusal :=
  .next (cmdEventRead .new h first max s)

/-! ### MGT_CONFIG (17 R487) -/

/-- The header, checks and slots of MGT_CONFIG. -/
def callMgtConfig (h : CmdHdr) (map : Long) (addr : Byte) (rsv : BitVec 24) (chainLen : Word) (chain : List Byte)
    : Call :=
  { hdr := h, instr := .mgtConfig h map addr rsv chainLen chain, opc := 0x0C03, who := .admin, inRecovery := false
    need := 16, bodyLen := ceilTo 8 (16 + chainLen.toNat)
    checks := [
      (!decide (map.toNat < 2 ^ 35), invalidAt 64),
      (!decide (0x08 ≤ addr.toNat ∧ addr.toNat ≤ 0x77), invalidAt 72),
      (!decide (rsv = 0), formatAt 73),
      (!decide (chainLen.toNat ≤ 16384), rangeAt 76)] }

/-- The first certificate of a chain carries the ECDSA attestation public key, by X.509, which the model leaves uninterpreted (17 R487;
log entry 3). -/
def State.chainOk (s : State) (chain : List Byte) : Bool := Config.verdict .certCarries [(s.slotMat 4).drop 48, chain]

/-- MGT_CONFIG (17 R487); it enables the management port (log entry 46). -/
def bodyMgtConfig (map : Long) (addr : Byte) (chainLen : Word) (chain : List Byte) (c : Call) (t : State) : State :=
  if t.boot.phase = .service ∧ (map >>> 24).toNat % 8 ≠ (t.cob.unitEn >>> 24).toNat % 8 then c.fail (Status.phase, phaseDetail t) t
  else if chainLen ≠ 0 ∧ t.chainOk (padTo chainLen.toNat chain) = false then c.fail (Status.verifyFail, 0) t
  else
    let u := (t.withCob fun x => { x with unitEn := map, smbus := addr.setWidth 7, mgtEn := true,
                                          chain := padTo chainLen.toNat chain }).applyUnits
    c.ok (leBytes 8 map.toNat ++ List.replicate 8 0) u

/-- MGT_CONFIG, run in a mode. -/
def cmdMgtConfig (mode : Mode) (h : CmdHdr) (map : Long) (addr : Byte) (rsv : BitVec 24) (chainLen : Word) (chain : List Byte)
    (s : State) : State :=
  (callMgtConfig h map addr rsv chainLen chain).run mode (bodyMgtConfig map addr chainLen chain) s

/-- MGT_CONFIG (17 R487). -/
def execMgtConfig (h : CmdHdr) (map : Long) (addr : Byte) (rsv : BitVec 24) (chainLen : Word) (chain : List Byte)
    (s : State) : Host.Outcome State Fault Refusal :=
  .next (cmdMgtConfig .new h map addr rsv chainLen chain s)

end Sys2Proof.Machine
end

