-- ==== Sys2Proof/Machine/RegMap.lean ====
section
/-! DEFINITION. The register blocks of the map (01 R31, R33): what a read of each register returns, what a write of each
does, and which offsets are used.  A register whose write or read is a row of its own acts as that row. -/

namespace Sys2Proof.Machine

/-- A register word from its fields: value and lowest bit (00 R14: reserved fields read 0). -/
def pack (l : List (Nat × Nat)) : Word := BitVec.ofNat 32 (l.map fun p => p.1 * 2 ^ p.2).sum

/-- The low and high words of a value. -/
def loW (x : Nat) : Word := BitVec.ofNat 32 x
def hiW (x : Nat) : Word := BitVec.ofNat 32 (x / 2 ^ 32)

/-- A 64-bit value with one of its words replaced. -/
def setLo (x : Long) (v : Word) : Long := BitVec.ofNat 64 (x.toNat / 2 ^ 32 * 2 ^ 32 + v.toNat)
def setHi (x : Long) (v : Word) : Long := BitVec.ofNat 64 (v.toNat * 2 ^ 32 + x.toNat % 2 ^ 32)

/-- A word with its low `n` bits cleared. -/
def alignW (n : Nat) (v : Word) : Word := BitVec.ofNat 32 (v.toNat / 2 ^ n * 2 ^ n)

/-- An interrupt register: DEST, EN and PEND (10 R339, 14 R436, 15 R458). -/
def irqWord (dest : BitVec 3) (en pend : Bool) : Word := pack [(dest.toNat, 0), (bit en, 3), (bit pend, 4)]

/-- DEST of such a register after a write: 5-7 are ignored. -/
def irqDestOf (old : BitVec 3) (v : Word) : BitVec 3 := if 5 ≤ v.toNat % 8 then old else v.setWidth 3

/-! ### What each block's registers read -/

/-- RING_ (06 R217). -/
def ringRegs (s : State) : List (Nat × Word) :=
  let rs := s.rings
  let g := rs.get rs.sel.toNat
  let b := (Bank.get 0 rs.wbase rs.wsel.toNat).toNat
  let l := (Bank.get 0 rs.wlim rs.wsel.toNat).toNat
  [(0x000, rs.sel.setWidth 32),
   (0x004, pack [(g.fn.toNat, 0), (g.vector.toNat, 6), (g.size.toNat, 11), (g.tenant.toNat, 16), (bit g.irqEn, 26)]),
   (0x008, loW g.desc.toNat), (0x00C, hiW g.desc.toNat), (0x010, loW g.cmpl.toNat), (0x014, hiW g.cmpl.toNat),
   (0x018, loW g.shd.toNat), (0x01C, hiW g.shd.toNat),
   (0x020, pack [(g.state.toNat, 0), (bit g.fetchErr, 3), (rs.inflight rs.sel.toNat, 16)]),
   (0x024, g.p), (0x028, g.f), (0x02C, g.c), (0x030, g.dbBad), (0x034, 0),
   (0x200, rs.wsel.setWidth 32), (0x204, loW b), (0x208, hiW b), (0x20C, loW l), (0x210, hiW l),
   (0x300, pack [(rs.list.length, 0), (rs.collHw, 16), (bit (fetchStall rs), 29)]),
   (0x304, pack [(bit rs.abortAll, 0)])]
    ++ (List.range 32).map fun k => (0x100 + 4 * k, (Bank.get 0 rs.page k).setWidth 32)

/-- The mailbox and register at an offset of the MBX_ block (03 R87). -/
def mbxAt (o : Nat) : Option (MbxId × Nat) :=
  if h : o / 0x40 < 64 then
    some (if o % 0x40 < 0x20 then (.cmd ⟨o / 0x40, h⟩, o % 0x20) else (.evt ⟨o / 0x40, h⟩, o % 0x20))
  else if h : (o - 0x1000) / 0x20 < 16 then some (.internal ⟨(o - 0x1000) / 0x20, h⟩, o % 0x20)
  else none

/-- MBX_STATUS (03 R89). -/
def mbxStatus (s : State) (m : MbxId) : Word :=
  let b := s.mbx.get (mbxKey m)
  pack [(bit b.full, 0), (bit b.tmo, 1), (bit b.overrun, 2), (bit b.rxdown, 3), (bit (receiverUp s m), 4)]

/-- A mailbox register (03 R89). -/
def mbxWord (s : State) (m : MbxId) (o : Nat) : Option Word :=
  let b := s.mbx.get (mbxKey m)
  [(0x00, if b.full then b.lo else 0), (0x04, if b.full then b.hi else 0), (0x08, mbxStatus s m), (0x0C, b.dbell),
   (0x10, b.dbmask), (0x14, b.dbell), (0x18, b.lock.setWidth 32), (0x1C, b.tmoCfg.setWidth 32)].lookup o

/-- A status-page register of function `f` (03 R86). -/
def pageWord (s : State) (f o : Nat) : Option Word :=
  let p := Bank.get {} s.mbx.page f
  [(0x00, pack [(bit p.fwReady, 0), (p.phase.toNat, 4), (p.pair.toNat, 6), (0x0104, 16)]),
   (0x04, pack [(f, 0), (bit (decide (f = 0)), 6)]), (0x08, p.dbDrop), (0x0C, p.badAcc), (0x10, p.evtLost)].lookup o

/-- CMD summary (03 R99 MBX_PEND). -/
def pendWord (s : State) (lo : Nat) : Word :=
  (List.range 32).foldl (fun (w : Word) n => setBit w n (s.mbx.get (lo + n)).signals) 0

/-- The MBX_ block (03 R87, R99). -/
def mbxBlock (s : State) (o : Nat) : Option Word :=
  match mbxAt o with
  | some (m, r) => mbxWord s m r
  | none =>
    if 0x2000 ≤ o ∧ o < 0x2100 ∧ o % 4 = 0 then
      let r := s.mbx.route ((o - 0x2000) / 4)
      some (pack [(r.core.toNat, 0), (bit r.en, 8)])
    else if 0x2100 ≤ o ∧ o < 0x2140 ∧ o % 4 = 0 then
      let r := s.mbx.iroutes ((o - 0x2100) / 4)
      some (pack [(r.sender.toNat, 0), (r.receiver.toNat, 8)])
    else if o = 0x2200 then some (pendWord s 0)
    else if o = 0x2204 then some (pendWord s 32)
    else if 0x3000 ≤ o ∧ o < 0x3800 then pageWord s ((o - 0x3000) / 0x20) (o % 0x20)
    else none

/-- CPH_ of core `c` (07 R259). -/
def cphRegs (s : State) (c : Nat) : List (Nat × Word) :=
  let x := Bank.get {} s.cipher.cores c
  [(0x00, pack [(cphState s c, 0), (bit x.check, 2), (bit x.cls, 3), (x.opcode.toNat, 8), (x.qcount.toNat, 16)]),
   (0x04, x.cuts), (0x08, x.blocks), (0x0C, pack [(x.stepA.toNat, 0), (x.stepB.toNat, 4)]),
   (0x10, pack [(bit x.katRun, 0), (bit x.katDone, 1), (bit x.katPass, 2)])]

/-- Mismatches in the last second (07 R247). -/
def Cipher.windowed (c : Cipher) (now : Nat) : Nat := (c.mismTimes.filter fun t => decide (now < t + 1000000)).length

/-- CLK_ (07 R259). -/
def clkRegs (s : State) : List (Nat × Word) :=
  let c := s.cipher
  let cores := List.range 16
  let quar : Word := cores.foldl (fun (w : Word) i => setBit w i (Bank.get {} c.cores i).quar) 0
  let dead := (s.rings.ready.filter fun p => decide (p.2.desc.opcode = 0x20)).length
  let degraded := s.rng.mDegraded && s.rng.kAvail
  [(0x000, pack [(c.coreEn.toNat, 0), (bit c.half, 16)]),
   (0x004, pack [(quar.toNat, 0), (bit (!s.rng.ready || s.rng.audit), 16), (bit degraded, 17),
     (bit (cores.any fun i => (s.rng.gen i).stopped), 18), (bit (c.half || degraded), 19)]),
   (0x008, c.age.setWidth 32), (0x00C, pack [(s.rings.ctxUsed, 0), (c.ctxHw, 16)]),
   (0x010, pack [(min 0xFFFF dead, 0), (min 0xFFFF (s.rings.ready.length - dead), 16)]),
   (0x014, pack [(c.mismTotal.toNat, 0), (c.lastCore.toNat, 16), (bit c.lastGhash, 20), (min 255 (c.windowed s.cob.clockUs), 24)]),
   (0x018, c.aged)]

/-- The CLK_ and CPH_ block. -/
def clkBlock (s : State) (o : Nat) : Option Word :=
  if o < 0x1000 then (clkRegs s).lookup o
  else if o < 0x2000 then (cphRegs s ((o - 0x1000) / 0x100)).lookup (o % 0x100)
  else none

/-- DIG_ of channel `m` (11 R360). -/
def digRegs (s : State) (m : Nat) : List (Nat × Word) :=
  let x := s.dig.chan m
  let st := if x.op.isSome then (if x.waiting then 3 else 2) else bit x.ctx.isSome
  let alg := (x.ctx.map DigCtx.alg).getD 0
  let count := ((x.ctx.map DigCtx.count).getD 0).toNat
  [(0x00, 0), (0x04, x.key), (0x08, x.tenant.setWidth 32), (0x0C, x.src), (0x10, x.len.setWidth 32), (0x14, x.dst),
   (0x18, x.outLen.setWidth 32),
   (0x1C, pack [(st, 0), (bit x.done, 2), (bit ((x.ctx.map DigCtx.keyed).getD false), 3), (x.unit.toNat, 4), (alg.toNat, 8)]),
   (0x20, x.result.setWidth 32), (0x24, x.detail), (0x28, loW count), (0x2C, hiW count), (0x30, x.vlen.setWidth 32),
   (0x34, x.ctxOut.headD 0), (0x38, pack [(bit x.irqEn, 0), (bit x.irqPend, 1)])]
    ++ (List.range 16).map fun k => (0x40 + 4 * k, 0)

/-- DIG_UNIT_c (11 R360). -/
def digUnitWord (s : State) (c : Nat) : Word :=
  let u := s.dig.unitAt c
  let st := if u.quar then 2 else if u.work.isSome then 1 else if s.digOn.getLsbD c then 0 else 3
  let ring := match u.work with | some (.ring _ _) => true | _ => false
  pack [(st, 0), (min 3 u.qcount, 2), (bit ring, 4)]

/-- The DIG_ and MEAS_ block (11 R357, R360); words 1-15 of a measurement register read from the latch. -/
def digBlock' (s : State) (o : Nat) : Option Word :=
  let d := s.dig
  if o < 0x500 then (digRegs s (o / 0x100)).lookup (o % 0x100)
  else if 0x1000 ≤ o ∧ o < 0x1010 ∧ o % 4 = 0 then some (digUnitWord s ((o - 0x1000) / 4))
  else if 0x2000 ≤ o ∧ o < 0x2800 ∧ o % 4 = 0 then
    some (if o % 0x40 = 0 then wordOf (Bank.get {} d.meas ((o - 0x2000) / 0x40)).value 0 else wordOf d.measLatch (o % 0x40 / 4))
  else if 0x2800 ≤ o ∧ o < 0x2880 ∧ o % 4 = 0 then
    let r := Bank.get {} d.meas ((o - 0x2800) / 4)
    some (pack [(r.alg.toNat, 0), (r.count.toNat, 8)])
  else [(0x1010, d.en.setWidth 32), (0x1014, d.mism), (0x1018, loW d.seals),
        (0x101C, pack [(d.katUnit.toNat, 0), (bit d.katRun, 2), (bit d.katDone, 3), (bit d.katPass, 4)])].lookup o

/-- PKE_ of engine `n` (10 R339). -/
def pkeRegs (s : State) (n : Nat) : List (Nat × Word) :=
  let e := s.engine n
  [(0x00, 0), (0x04, e.key), (0x08, e.tenant.setWidth 32), (0x0C, e.src), (0x10, e.srcLen.setWidth 32), (0x14, e.dst),
   (0x18, e.dstCap.setWidth 32),
   (0x1C, pack [(e.state.toNat, 0), (bit e.done, 3), (e.owner.toNat, 4), (e.reruns.toNat, 11), (e.qcount.toNat, 13)]),
   (0x20, e.result.setWidth 32), (0x24, e.detail), (0x28, e.outLen.setWidth 32), (0x2C, pack [(bit e.abortGo, 0)]),
   (0x30, pack [(bit e.clearGo, 0)]), (0x34, irqWord e.irqDest e.irqEn e.irqPend), (0x38, e.iter.setWidth 32), (0x3C, e.time),
   (0x40, pack [(bit e.katRun, 0), (bit e.katDone, 1), (bit e.katPass, 2)])]

/-- RNG_INST_i.STATE (12 R374, R378, R382). -/
def instState (r : Rng) (i : Nat) : Nat :=
  let x := r.inst i
  if r.audit then 3 else if !x.seeded then 0 else if 2 ^ 20 ≤ x.count then 2 else 1

/-- RNG_RSTAT_c (12 R382). -/
def rngStat (x : RngChan) : Word :=
  pack [(x.status.toNat, 0), (if x.waiting.isSome then 1 else if x.data = [] then 0 else 2, 16), (x.data.length, 18)]

/-- RNG_ (12 R382), as core `c` reads it: RNG_RAW and RNG_DATA_c have reads of their own. -/
def rngBlock (s : State) (o : Nat) : Option Word :=
  let r := s.rng
  if 0x100 ≤ o ∧ o < 0x1A0 then
    let x := r.chan ((o - 0x100) / 0x20)
    [(0x00, 0), (0x04, x.data.headD 0), (0x08, rngStat x), (0x0C, x.wlim.setWidth 32)].lookup (o % 0x20)
  else if 0x400 ≤ o ∧ o < 0x480 ∧ o % 4 = 0 then
    let i := (o - 0x400) / 4
    some (pack [(min (2 ^ 20) (r.inst i).count, 0), (instState r i, 21)])
  else [(0x000, pack [(bit r.ready, 0), (bit r.audit, 1), (bit r.mDegraded, 2), (bit r.kLow, 3),
           (if r.tested then r.okCount 0 4 else 0, 4), (if r.tested then r.kTypes else 0, 7)]),
        (0x004, r.srcOk.setWidth 32), (0x008, r.srcFail.setWidth 32), (0x00C, pack [(bit r.audit, 0)]),
        (0x600, r.rawSel.setWidth 32), (0x604, pack [(min 1024 (32 * r.raw.length + r.rawPart), 0), (bit r.gap, 11)]),
        (0x608, 0)].lookup o

/-- KEY_ of channel `c` (05 R182). -/
def keyRegs (s : State) (c : Nat) : List (Nat × Word) :=
  let x := s.keys.chan c
  [(0x00, 0), (0x04, x.arg), (0x08, x.len), (0x0C, 0), (0x10, x.blobOut.headD 0),
   (0x14, pack [(x.status.toNat, 0), (bit x.done, 16), (bit x.busy, 17), (x.field.toNat, 18)]), (0x18, x.handleOut), (0x1C, x.wrap)]
    ++ (List.range 8).map fun n => (0x20 + 4 * n, Bank.get 0 x.attr n)

/-- The KEY_ block (05 R182). -/
def keyBlock (s : State) (o : Nat) : Option Word :=
  let k := s.keys
  if o < 0x400 then (keyRegs s (o / 0x100)).lookup (o % 0x100)
  else [(0x1000, pack [(bit k.ready, 0), (bit k.zeroising, 1), (bit (k.present 2).isSome, 2), (bit (k.present 1).isSome, 3),
           (bit k.integrity, 4)]),
        (0x1004, pack [(k.inUse, 0)]), (0x1008, pack [(65536 - k.saltsIssued, 0)]), (0x100C, pack [(bit k.zeroAll, 0)])].lookup o

/-- MPU_ of master `m` (19 R554). -/
def mpuRegs (s : State) (m : Nat) : List (Nat × Word) :=
  let u := s.mpu m
  [(0x100, pack [(bit u.fault, 0), (u.kind.toNat, 1), (u.level.toNat, 3), (u.region.toNat, 5), (bit u.noRegion, 9),
     (bit u.outside, 10), (u.count.toNat, 16)]), (0x104, u.faddr), (0x108, pack [(bit u.go, 0)])]
    ++ (List.range 16).flatMap fun r =>
      [(0x10 * r, Bank.get 0 u.written.base r), (0x10 * r + 4, Bank.get 0 u.written.last r), (0x10 * r + 8, Bank.get 0 u.written.perm r)]

/-- Four codes of a response table as a register (13 R410). -/
def respWord (b : Bank (BitVec 3)) (k : Nat) : Word := pack ((List.range 4).map fun j => ((Bank.get 0 b (4 * k + j)).toNat, 8 * j))

/-- ALM_CLK (13 R383, R410): detector d of clock Cc is source 10 × d + c. -/
def clkDetWord (a : Alarm) : Word :=
  (List.range 30).foldl (fun (w : Word) i => setBit w i (a.asserted.getLsbD (10 * (i % 3) + i / 3))) 0

/-- ALM_ (13 R410). -/
def almRegs (s : State) : List (Nat × Word) :=
  let a := s.alarm
  let l := s.log
  let shown := (l.find a.logSel).map LogEntry.bytes
  [(0x080, loW a.asserted.toNat), (0x084, hiW a.asserted.toNat), (0x088, loW a.pend.toNat), (0x08C, hiW a.pend.toNat),
   (0x090, loW a.ien.toNat), (0x094, hiW a.ien.toNat), (0x098, a.route.setWidth 32),
   (0x09C, pack [(bit a.halt, 0), (bit a.zero, 1), (bit a.resetDecided, 2), (a.govern.toNat, 3)]),
   (0x0A0, a.raiseDet), (0x0A4, 0), (0x0A8, a.stitch), (0x0AC, clkDetWord a),
   (0x100, pack [(l.entries.length, 0), (bit l.full, 12), (bit (decide (l.ovf ≠ []) || l.sumPending), 13), (bit a.backup, 14),
     (bit l.expValid, 15), (bit l.readValid, 16)]),
   (0x104, l.first), (0x108, l.next), (0x10C, l.readMax), (0x110, l.exp), (0x114, 0), (0x118, a.logSel)]
    ++ (List.range 16).flatMap (fun k => [(4 * k, respWord a.resp k), (0x40 + 4 * k, respWord l.kept k)])
    ++ (List.range 4).map (fun w => (0x120 + 4 * w, BitVec.ofNat 32 (l.head.toNat / 2 ^ (32 * w))))
    ++ (List.range 8).map (fun w => (0x140 + 4 * w, match shown with | some e => wordOf e w | none => 0))
    ++ (List.range 58).map (fun i => (0x200 + 4 * i, (Bank.get 0 l.ovf i).setWidth 32))

/-- SOL_ of port `n` (08 R290). -/
def solRegs (s : State) (n : Nat) : List (Nat × Word) :=
  let p := s.sole.get n
  let e := Bank.get {} p.vols p.vsel.toNat
  [(0x000, pack [(bit p.en, 0), (bit p.dual, 1), (bit (p.role || !p.dual), 2), (bit p.hold, 3), (p.xcode.toNat, 4), (bit p.xany, 6)]),
   (0x004, pack [(portState s p, 0), (bit p.lock, 3), (p.code.toNat, 4), (bit p.drvActive, 6), (p.holdWhy.toNat, 7)]),
   (0x008, loW p.tpp.toNat), (0x00C, hiW p.tpp.toNat), (0x010, p.pitch), (0x014, p.spp), (0x018, p.offs),
   (0x01C, pack [(p.delay.toNat, 0), (p.rtt.toNat, 16)]), (0x020, pack [(p.txSeq.toNat, 0), (p.rxSeq.toNat, 16)]),
   (0x024, p.credit), (0x028, p.err.setWidth 32), (0x02C, p.crc), (0x030, p.unmatched), (0x034, p.excess), (0x038, p.resync),
   (0x03C, p.skips), (0x040, p.sentCnt), (0x044, pack [(p.granUsed, 0), ((s.rings.parkedOn n).length, 16)]),
   (0x080, p.vsel.setWidth 32), (0x084, loW e.keyId.toNat), (0x088, hiW e.keyId.toNat), (0x08C, pack [(e.vol.toNat, 0), (bit e.valid, 31)]),
   (0x090, e.handle)]

/-- LST_ of port `n` (09 R314). -/
def lstRegs (s : State) (n : Nat) : List (Nat × Word) :=
  let p := s.sole.get n
  let k := p.trk
  let nx := (p.nextWindow s.sole.time).map fun d => (s.sole.time.toNat + d) % 2 ^ 48
  [(0x00, pack [(p.alpha.toNat, 0), (p.beta.toNat, 16)]), (0x04, p.vlo), (0x08, p.vhi), (0x0C, p.lead), (0x10, p.gate), (0x14, p.agate),
   (0x18, pack [(p.tmoUs.toNat, 0), (p.holdMs.toNat, 16)]), (0x1C, p.acqN.setWidth 32), (0x20, k.word),
   (0x24, pack [(k.p0 % 65536, 0), (k.pass0.toNat, 16)]), (0x28, loW (k.p0 / 65536)), (0x2C, hiW (k.p0 / 65536)), (0x30, loW k.v),
   (0x34, loW k.t0.toNat), (0x38, hiW k.t0.toNat), (0x3C, k.resid), (0x40, k.accept), (0x44, k.reject), (0x48, k.tmoCnt),
   (0x4C, k.clamp), (0x50, k.defer), (0x54, k.skipTx),
   (0x58, pack [(p.sched.length, 0), ((p.sched.filter SchedEntry.staged).length, 8)]), (0x5C, loW (nx.getD 0)), (0x60, hiW (nx.getD 0))]

/-- The SOL_ and LST_ block. -/
def solBlock (s : State) (o : Nat) : Option Word :=
  if o < 0x10000 then (solRegs s (o / 0x1000)).lookup (o % 0x1000)
  else if o = 0x10000 then some (loW s.sole.time.toNat)
  else if o = 0x10004 then some (s.sole.timeHi.setWidth 32)
  else if 0x11000 ≤ o ∧ o < 0x12000 then (lstRegs s ((o - 0x11000) / 0x100)).lookup (o % 0x100)
  else none

/-- The code of an SD port's state and of a contact slot's (15 R458). -/
def sdCode : SdSt → Nat
  | .disabled => 0 | .empty => 1 | .settle => 2 | .init => 3 | .ready => 4 | .xfer => 5 | .busy => 6 | .removing => 7 | .failed => 8
def iccCode : IccSt → Nat
  | .disabled => 0 | .empty => 1 | .present => 2 | .activating => 3 | .active => 4 | .clockStopped => 5 | .deactivating => 6 | .failed => 7

/-- SD_ of port `p` (15 R458). -/
def sdRegs (s : State) (p : Nat) : List (Nat × Word) :=
  let x := s.sdPort p
  [(0x00, pack [(bit x.en, 0), (x.maxMode.toNat, 1)]),
   (0x04, pack [(sdCode x.state, 0), (bit x.det, 4), (bit x.wp, 5), (bit x.v18, 6), (x.mode.toNat, 7), (x.cap.toNat, 10),
     (x.tap.toNat, 12), (x.why.toNat, 18)]),
   (0x08, 0), (0x0C, x.lba), (0x10, x.count.setWidth 32), (0x14, x.addr),
   (0x18, pack [(x.status.toNat, 0), (bit x.done, 16), (bit x.run.isSome, 17)]), (0x1C, x.xfer), (0x20, x.busyTmo.setWidth 32),
   (0x24, irqWord x.irqDest x.irqEn x.irqPend)]

/-- ICC_ of slot `n` (15 R458). -/
def iccRegs (s : State) (n : Nat) : List (Nat × Word) :=
  let x := s.iccSlot n
  [(0x00, pack [(bit x.en, 0), (bit x.cstopEn, 1), (x.fmax.toNat, 2)]),
   (0x04, pack [(iccCode x.state, 0), (bit x.pres, 3), (bit x.classB, 4), (bit x.t1, 5), (x.fi.toNat, 8), (x.di.toNat, 12),
     (x.clkKhz.toNat, 16)]),
   (0x08, 0), (0x0C, x.txAddr), (0x10, x.txLen), (0x14, x.rxAddr), (0x18, x.rxCap), (0x1C, x.rxLen),
   (0x20, pack [(x.status.toNat, 0), (bit x.done, 16), (x.atr.length, 17)]), (0x68, irqWord x.irqDest x.irqEn x.irqPend)]
    ++ (List.range 9).map fun w => (0x40 + 4 * w, wordOf x.atr w)

/-- The SD_ and ICC_ block. -/
def cardBlock (s : State) (o : Nat) : Option Word :=
  if o < 0x1000 then (sdRegs s (o / 0x400)).lookup (o % 0x400)
  else if 0x2000 ≤ o ∧ o < 0x2800 then (iccRegs s ((o - 0x2000) / 0x400)).lookup (o % 0x400)
  else none

/-- CLS_STAT.MODE (14 R422, R436). -/
def clsMode (s : State) : Nat :=
  match s.cls.mode with
  | .polling => 3
  | .badge => 4
  | .off => if s.listen.secured then 2 else if s.listen.selected then 1 else 0

/-- CLS_ (14 R436). -/
def clsRegs (s : State) : List (Nat × Word) :=
  let c := s.cls
  [(0x00, pack [(bit c.typeA, 2), (bit c.typeB, 3), (c.maxRate.toNat, 4)]), (0x04, pack [(clsMode s, 0), (c.status.toNat, 16)]),
   (0x08, c.pollTmo.setWidth 32), (0x10, wordOf c.uid 0), (0x14, wordOf c.uid 1), (0x18, wordOf c.uid 2),
   (0x1C, pack [(c.uid.length, 0), (bit c.uidTypeB, 4)]), (0x20, c.rx.headD 0), (0x24, c.txLen), (0x28, c.rxLen),
   (0x2C, irqWord c.irqDest c.irqEn c.irqPend)]

/-- INS_ (14 R435). -/
def insRegs (s : State) : List (Nat × Word) :=
  let i := s.insole
  let r := s.ins
  [(0x00, pack [(bit i.ik.isSome, 0), (bit i.trusted, 1), (bit i.auditKey.isSome, 2), (bit i.seeded, 3), (bit (decide (i.c3Out ≠ 0)), 4),
     (bit s.listen.field, 5), (bit s.listen.susp, 6)]),
   (0x04, loW i.rtc.toNat), (0x08, i.rtcHi.setWidth 32), (0x0C, i.epoch), (0x10, 0), (0x14, pack [(bit r.ikGen, 0), (bit r.ikBusy, 1)]),
   (0x18, i.vbatMv.setWidth 32), (0x1C, (BitVec.ofInt 16 (i.budget / 10)).setWidth 32), (0x20, r.audHdl),
   (0x24, pack [(bit r.audDone, 2), (r.audStatus.toNat, 16)]), (0x28, loW i.auditId.toNat), (0x2C, hiW i.auditId.toNat),
   (0x30, pack [(i.failCount.toNat, 0), (bit i.blocked, 2), (i.failTotal.toNat, 16)]), (0x40, r.tagSel.setWidth 32),
   (0x44, pack [(bit r.latched, 0), (bit (s.pageHeld r.tagSel.toNat), 1), (r.result.toNat, 2), (r.version.toNat, 16)]), (0x48, 0)]
    ++ (List.range 16).map fun w => (0x80 + 4 * w, BitVec.ofNat 32 (ofLe (Bank.readBytes r.latch (4 * w) 4)))

/-- WLT_ (16 R484). -/
def wltRegs (s : State) : List (Nat × Word) :=
  let w := s.welt
  [(0x00, pack [(bit w.en, 0)]), (0x04, pack [(pairCode w.state, 0), (w.lanes.toNat, 4), (w.partner.toNat, 16)]), (0x08, w.hb),
   (0x0C, w.phb), (0x10, w.phbAge.setWidth 32), (0x14, w.whbAge.setWidth 32), (0x18, pack [(w.waiting.length, 0), (w.hw.toNat, 16)]),
   (0x1C, w.err.setWidth 32), (0x20, w.crcFail), (0x24, w.tagFail), (0x28, w.takeovers), (0x2C, w.tkTime)]

/-- PWR_ (17 R497). -/
def pwrRegs (s : State) : List (Nat × Word) :=
  let c := s.cob
  [(0x000, loW c.unitEn.toNat), (0x004, hiW c.unitEn.toNat), (0x008, loW s.unitsUp.toNat), (0x00C, hiW s.unitsUp.toNat),
   (0x010, pack [(bit s.cipher.half, 0), (c.hot.toNat, 1), (c.tj.toNat, 16)])]
    ++ (List.range 19).map (fun n => (0x100 + 4 * n, Bank.get 0 c.sens n)) ++ (List.range 4).map (fun n => (0x200 + 4 * n, 0))

/-- MGT_ (17 R497). -/
def mgtRegs (s : State) : List (Nat × Word) :=
  let c := s.cob
  [(0x000, pack [(c.smbus.toNat, 0), (bit c.mgtEn, 7), (bit c.mgtAlert, 8)]), (0x200, c.evtNext)]
    ++ (List.range 4).map fun n =>
      let k := s.core n
      (0x100 + 4 * n, pack [(bit k.hold, 0), (bit k.quar, 1),
        (min 3 (k.restarts.filter fun t => decide (c.clockUs < t + 1000000)).length, 2)])

/-- LDR_ (02 R51). -/
def ldrRegs (s : State) : List (Nat × Word) :=
  let b := s.boot
  [(0x000, ldrStatus s), (0x008, b.imgLo), (0x00C, b.imgHi), (0x010, b.imgLen.setWidth 32), (0x014, 0),
   (0x018, pack [(b.code.toNat, 0), (b.seg.toNat, 8), (b.tries.toNat, 16)]), (0x01C, b.epoch),
   (0x020, pack [(s.pins.fwFloor, 0), (s.pins.cobFloor, 8), (s.pins.extFloor, 16)]), (0x024, b.pendingWord),
   (0x028, loW b.pendSrc.toNat), (0x02C, hiW b.pendSrc.toNat)]
    ++ (List.range 12).map fun w => (0x040 + 4 * w, if b.pufOk then wordOf b.id w else 0)

/-- The register at address `a`, if there is one (01 R31, R33). -/
def regWord (s : State) (a : Nat) : Option Word :=
  let o := a % 0x1000000
  match a / 0x1000000 with
  | 0x20 => (ringRegs s).lookup o
  | 0x21 => mbxBlock s o
  | 0x22 => clkBlock s o
  | 0x23 => digBlock' s o
  | 0x24 => if o < 0x400000 then (pkeRegs s (o / 0x100000)).lookup (o % 0x100000) else none
  | 0x25 => rngBlock s o
  | 0x26 => keyBlock s o
  | 0x27 => if o < 0x3400 then (mpuRegs s (o / 0x400)).lookup (o % 0x400) else none
  | 0x28 => (almRegs s).lookup o
  | 0x29 => solBlock s o
  | 0x2A => cardBlock s o
  | 0x2B => if o < 0x10000 then (clsRegs s).lookup o else (insRegs s).lookup (o - 0x10000)
  | 0x2C => (wltRegs s).lookup o
  | 0x2D => (pwrRegs s).lookup o
  | 0x2E => if 0x1000 ≤ o then (ldrRegs s).lookup (o - 0x1000) else none
  | 0x2F => (mgtRegs s).lookup o
  | _ => none

/-- The word at `a` is a register, or lies in the Cobbler window when the Cobbler reads it (01 R33; 17 R497; 18 R498). -/
def regUsed (cob : Bool) (a : Nat) : Bool :=
  if a / 0x1000000 = 0x2F then cob else (regWord {} (a / 4 * 4)).isSome

/-! ### Reads that act (03 R90, R98; 09 R314; 11 R357, R360; 12 R382; 13 R408; 14 R435, R436; 05 R182) -/

/-- Which side of a mailbox core `c` is (03 R87, R99). -/
def mbxSide (s : State) (c : Nat) : MbxId → Option Side
  | .cmd _ => if c < 4 then some .receiver else none
  | .evt _ => if c < 4 then some .sender else none
  | .internal i =>
    let r := s.mbx.iroutes i.val
    if r.sender.toNat = 65 + c then some .sender else if r.receiver.toNat = 65 + c then some .receiver else none

/-- The number of core `c` among lock requesters: 65 + c (03 R98). -/
def coreRequester (c : Nat) : Fin 70 := Fin.ofNat 70 (65 + c)

/-- The outcome of a row's read: the value it returned and the state after it. -/
def readBy (r : Host.Outcome State Fault Refusal) (s : State) : Word × State :=
  let t := nextOr s r
  (t.out.readData, t)

/-- A read of a mailbox register by core `c`. -/
def State.mbxRead (c : Nat) (m : MbxId) (o : Nat) (s : State) : Word × State :=
  let plain := ((mbxWord s m o).getD 0, s)
  if o = 0x18 then readBy (execMbxLockRead m (coreRequester c) s) s
  else if o = 0x04 ∧ mbxSide s c m = some .receiver then readBy (execMbxMsgHiRead m .receiver s) s
  else plain

/-- The blocks whose registers are read at machine and supervisor level only: RING_, CLK_ and CPH_, PKE_, ALM_, SOL_ and LST_, SD_
and ICC_, CLS_ and INS_, WLT_, PWR_ (06, 07 R259, 08 R290, 09 R314, 10 R339, 13 R410, 14 R435, 15 R458, 16 R484, 17 R497). -/
def readAbove (block : Nat) : Bool := [0x20, 0x22, 0x24, 0x28, 0x29, 0x2A, 0x2B, 0x2C, 0x2D].contains block

/-- A read whose value the spec does not give: a free value. -/
def State.readFree (s : State) : Word × State :=
  (BitVec.ofNat 32 (ofLe ((List.range 4).map (Config.freeByte s.freeCount))), s.withFreeCount (· + 1))

/-- A read by core `c` of the register at `a`.  The Cobbler's private memory behind its window reads as a free value (log entry
4), and so does a register above user level read at user level: it has no effect, and its value is not stated (log entry 124). -/
def State.regRead (c : Nat) (lv : Level) (a : Nat) (s : State) : Word × State :=
  if lv = .user && readAbove (a / 0x1000000) then s.readFree else
  let o := a % 0x1000000
  let plain : Word × State := ((regWord s a).getD 0, s)
  let me : CoreNo := Fin.ofNat 5 c
  match a / 0x1000000 with
  | 0x21 => match mbxAt o with | some (m, r) => s.mbxRead c m r | none => plain
  | 0x23 =>
    if 0x2000 ≤ o ∧ o < 0x2800 ∧ o % 0x40 = 0 then readBy (execMeasWord0Read (Fin.ofNat 32 ((o - 0x2000) / 0x40)) s) s
    else if o < 0x500 ∧ o % 0x100 = 0x34 then
      (plain.1, s.withDig fun d => d.updChan (o / 0x100) fun x => { x with ctxOut := x.ctxOut.tail })
    else plain
  | 0x25 =>
    if 0x100 ≤ o ∧ o < 0x1A0 ∧ o % 0x20 = 0x04 then
      readBy (execRngDataRead (Fin.ofNat 5 ((o - 0x100) / 0x20)) s) s
    else if o = 0x608 then readBy (execRngRawRead me lv s) s
    else plain
  | 0x26 =>
    if o < 0x400 ∧ o % 0x100 = 0x10 then readBy (execKeyBlobOutRead (Fin.ofNat 4 (o / 0x100)) (.core me lv) s) (s.setRead 0)
    else plain
  | 0x28 => if 0x140 ≤ o ∧ o < 0x160 then readBy (execAlmLogDataRead (Fin.ofNat 8 ((o - 0x140) / 4)) s) s else plain
  | 0x29 =>
    if o = 0x10000 then (plain.1, s.withSole fun x => { x with timeHi := BitVec.ofNat 16 (x.time.toNat / 2 ^ 32) }) else plain
  | 0x2B =>
    if o = 0x20 then (plain.1, s.withCls fun x => { x with rx := x.rx.tail })
    else if o = 0x10004 then (plain.1, s.withInsole fun i => { i with rtcHi := BitVec.ofNat 16 (i.rtc.toNat / 2 ^ 32) })
    else plain
  | 0x2F => match regWord s a with
    | some _ => plain
    | none => s.readFree
  | _ => plain

end Sys2Proof.Machine
end

