-- ==== Sys2Proof/Machine/MpuCmds.lean ====
section
/-! DEFINITION. Meanings of the MPU commands (19 R548-R552). -/

namespace Sys2Proof.Machine

/-- MPU_FENCE_GO (19 R549, R554): machine level; ignored for a core's MPU. -/
def execMpuFenceGo (m : Fin 13) (level : Level) (s : State) : Host.Outcome State Fault Refusal :=
  .next (if level = .machine ∧ 5 ≤ m.val then s.updMpu m.val fun u => { u with go := true, rules := u.written } else s)

/-- MPU_FENCE_DONE (19 R549): every transaction under the old settings has finished. -/
def execMpuFenceDone (m : Fin 13) (s : State) : Host.Outcome State Fault Refusal :=
  .next (s.updMpu m.val fun u => { u with go := false })

/-- DMA_MPU_FAULT (19 R547, R550, R551): the access a DMA master is about to make; one that its MPU permits changes nothing. -/
def execDmaMpuFault (m : Fin 13) (addr : Word) (size : Nat) (write : Bool) (s : State) : Host.Outcome State Fault Refusal :=
  let acc : Access := { addr := addr.toNat, size := size, kind := if write then 1 else 0 }
  .next (if m.val < 5 ∨ (s.mpu m.val).stopped.isSome = true then s
  else match dmaCheck m.val (s.mpu m.val).rules (regUsed false addr.toNat) acc with
    | some r => s.dmaFault m.val acc r
    | none => s)

/-- MPU_FAULT_CLEAR (19 R552, R554): machine level; a stopped DMA master retries its beat under the settings in force. -/
def execMpuFaultClear (m : Fin 13) (level : Level) (s : State) : Host.Outcome State Fault Refusal :=
  .next (if level = .machine then
    let t := s.updMpu m.val fun u => { u with fault := false, stopped := none }
    match (s.mpu m.val).stopped with
    | some acc =>
      (match dmaCheck m.val (s.mpu m.val).rules (regUsed false acc.addr) acc with
      | some r => t.dmaFault m.val acc r
      | none => t)
    | none => t
  else s)

end Sys2Proof.Machine
end

