-- ==== Sys2Proof/Machine/RegWrite.lean ====
section
/-! DEFINITION. What a write of each register does (00 R14, 01 R31), and the meaning of REGISTER_WRITE.  A register whose
write is a row of its own acts as that row. -/

namespace Sys2Proof.Machine

/-- A W1C field of up to 32 bits after a write. -/
def w1c {n : Nat} (x : BitVec n) (v : Word) : BitVec n := x &&& ~~~(v.setWidth n)

/-! ### RING_ (06 R217): machine and supervisor level -/

/-- Write a register of the selected ring: ignored while the ring is other than NONE. -/
def State.ringCfg (f : Ring → Ring) (s : State) : State :=
  let r := s.rings.sel.toNat
  if (s.rings.get r).state = 0 then s.withRings fun rs => rs.updRing r f else s

/-- Write a window bound of the selected window. -/
def State.windowWrite (limit : Bool) (f : Long → Long) (s : State) : State :=
  s.withRings fun rs =>
    if limit then { rs with wlim := Bank.upd 0 rs.wsel.toNat f rs.wlim } else { rs with wbase := Bank.upd 0 rs.wsel.toNat f rs.wbase }

def State.ringWrite (lv : Level) (o : Nat) (v : Word) (s : State) : State :=
  if lv = .user then s
  else if 0x100 ≤ o ∧ o < 0x180 then
    s.withRings fun rs => { rs with page := Bank.set 0 ((o - 0x100) / 4) (v.setWidth 7) rs.page }
  else match o with
    | 0x000 => s.withRings fun rs => { rs with sel := v.setWidth 14 }
    | 0x004 => s.ringCfg fun g => { g with fn := v.setWidth 6, vector := (v >>> 6).setWidth 5, size := (v >>> 11).setWidth 5,
                                           tenant := (v >>> 16).setWidth 10, irqEn := v.getLsbD 26 }
    | 0x008 => s.ringCfg fun g => { g with desc := setLo g.desc (alignW 6 v) }
    | 0x00C => s.ringCfg fun g => { g with desc := setHi g.desc v }
    | 0x010 => s.ringCfg fun g => { g with cmpl := setLo g.cmpl (alignW 4 v) }
    | 0x014 => s.ringCfg fun g => { g with cmpl := setHi g.cmpl v }
    | 0x018 => s.ringCfg fun g => { g with shd := setLo g.shd (alignW 3 v) }
    | 0x01C => s.ringCfg fun g => { g with shd := setHi g.shd v }
    | 0x034 =>
      let t := if v.getLsbD 0 then nextOr s (execRingCtlCreate lv s) else s
      if v.getLsbD 1 then nextOr t (execRingCtlDestroy lv t) else t
    | 0x200 => s.withRings fun rs => { rs with wsel := v.setWidth 9 }
    | 0x204 => s.windowWrite false fun x => setLo x v
    | 0x208 => s.windowWrite false fun x => setHi x v
    | 0x20C => s.windowWrite true fun x => setLo x v
    | 0x210 => s.windowWrite true fun x => setHi x v
    | 0x304 => if v.getLsbD 0 then s.abortAllRings else s
    | _ => s

/-! ### MBX_ (03 R86-R100) -/

/-- The master a routing number names: 0 none, 65-69 a core (R100). -/
def routeOk (n : Nat) : Bool := decide (n = 0 ∨ (65 ≤ n ∧ n ≤ 69))

/-- A write of MBX_IROUTE_i (R99, R100). -/
def State.irouteWrite (i : Nat) (lv : Level) (v : Word) (s : State) : State :=
  let a := v.toNat % 128
  let b := v.toNat / 256 % 128
  if lv ≠ .machine ∨ (s.mbx.get (128 + i)).full = true ∨ routeOk a = false ∨ routeOk b = false ∨ (a = b ∧ a ≠ 0) then s
  else s.withMbx fun m => { m with iroute := Bank.set {} i { sender := BitVec.ofNat 7 a, receiver := BitVec.ofNat 7 b } m.iroute }

/-- A write of a mailbox register by one side (R88, R91); `who` numbers the requester of a lock. -/
def State.mbxWrite (m : MbxId) (side : Option Side) (who : Fin 70) (o : Nat) (v : Word) (s : State) : State :=
  if o = 0x18 then nextOr s (execMbxLockWrite m who v s)
  else match side with
    | none => s
    | some x =>
      match o with
      | 0x00 => nextOr s (execMbxMsgLoWrite m x v s)
      | 0x04 => nextOr s (execMbxMsgHiWrite m x v s)
      | 0x08 =>
        if x = .sender then s.updBox (mbxKey m) fun b =>
          { b with tmo := b.tmo && !v.getLsbD 1, overrun := b.overrun && !v.getLsbD 2, rxdown := b.rxdown && !v.getLsbD 3 }
        else s
      | 0x0C => nextOr s (execMbxDbellWrite m x v s)
      | 0x10 => if x = .receiver then s.updBox (mbxKey m) fun b => { b with dbmask := v } else s
      | 0x14 => nextOr s (execMbxDbclrWrite m x v s)
      | 0x1C =>
        if x = .sender ∧ 1 ≤ v.toNat % 2 ^ 20 ∧ v.toNat % 2 ^ 20 ≤ 1000000 then
          s.updBox (mbxKey m) fun b => { b with tmoCfg := v.setWidth 20 }
        else s
      | _ => s

/-- A firmware write of a status page (R86): LEVEL and FN are fixed. -/
def State.pageWrite (f o : Nat) (v : Word) (s : State) : State :=
  s.withMbx fun m => m.updPage f fun p =>
    match o with
    | 0x00 => { p with fwReady := v.getLsbD 0, phase := (v >>> 4).setWidth 2, pair := (v >>> 6).setWidth 2 }
    | 0x08 => { p with dbDrop := v }
    | 0x0C => { p with badAcc := v }
    | 0x10 => { p with evtLost := v }
    | _ => p

/-- The MBX_ block as core `c` writes it. -/
def State.mbxBlockWrite (c : Nat) (lv : Level) (o : Nat) (v : Word) (s : State) : State :=
  match mbxAt o with
  | some (m, r) => s.mbxWrite m (mbxSide s c m) (coreRequester c) r v
  | none =>
    if 0x2000 ≤ o ∧ o < 0x2100 then nextOr s (execMbxHrouteWrite (Fin.ofNat 64 ((o - 0x2000) / 4)) lv v s)
    else if 0x2100 ≤ o ∧ o < 0x2140 then s.irouteWrite ((o - 0x2100) / 4) lv v
    else if 0x3000 ≤ o ∧ o < 0x3800 then s.pageWrite ((o - 0x3000) / 0x20) (o % 0x20) v
    else s

/-! ### CLK_ and CPH_ (07 R259): machine level -/

def State.clkWrite (c : Nat) (lv : Level) (o : Nat) (v : Word) (s : State) : State :=
  if lv ≠ .machine then s
  else if o = 0x000 then nextOr s (execClkCtrlWrite (Fin.ofNat 5 c) lv v s)
  else if o = 0x008 then (if v.toNat % 65536 < 16 then s else s.withCipher fun x => { x with age := v.setWidth 16 })
  else if 0x1000 ≤ o ∧ o % 0x100 = 0x10 ∧ v.getLsbD 0 = true then nextOr s (execCphKatRun (Fin.ofNat 16 ((o - 0x1000) / 0x100)) lv s)
  else s

/-! ### DIG_ (11 R360) -/

/-- The command word of a write of DIG_CMD. -/
def digCmdOf (c : Nat) (lv : Level) (v : Word) : DigCmd :=
  { writer := Fin.ofNat 5 c, level := lv, alg := (v >>> 4).setWidth 8, verify := v.getLsbD 12, kout := v.getLsbD 13,
    ch := Fin.ofNat 4 (v.toNat / 2 ^ 14), meas := v.getLsbD 16, midx := Fin.ofNat 32 (v.toNat / 2 ^ 17), ksrc := (v >>> 22).setWidth 2,
    rsv := (v >>> 24).setWidth 8 }

/-- A write of a channel register by its own master at machine or supervisor level. -/
def DigChan.write (o : Nat) (v : Word) (x : DigChan) : DigChan :=
  if 0x40 ≤ o ∧ o < 0x80 then { x with exp := Bank.writeBytes x.exp (o - 0x40) (leBytes 4 v.toNat) }
  else match o with
    | 0x04 => { x with key := v }
    | 0x08 => { x with tenant := v.setWidth 16 }
    | 0x0C => { x with src := v }
    | 0x10 => { x with len := v.setWidth 24 }
    | 0x14 => { x with dst := v }
    | 0x18 => { x with outLen := v.setWidth 24 }
    | 0x30 => { x with vlen := v.setWidth 7 }
    | 0x34 => if x.ctxIn.length < 60 then { x with ctxIn := x.ctxIn ++ [v] } else x
    | 0x38 => { x with irqEn := v.getLsbD 0, irqPend := x.irqPend && !v.getLsbD 1 }
    | _ => x

def State.digWrite (c : Nat) (lv : Level) (o : Nat) (v : Word) (s : State) : State :=
  if o < 0x500 then
    (if o / 0x100 ≠ c ∨ lv = .user then s
    else if o % 0x100 = 0 then s.digCmd c (v.setWidth 8 &&& 0x0F) (digCmdOf c lv v)
    else s.withDig fun d => d.updChan c (DigChan.write (o % 0x100) v))
  else if o = 0x1010 then nextOr s (execDigEnWrite lv v s)
  else if o = 0x101C then
    let t := if s.dig.katRun then s else s.withDig fun d => { d with katUnit := v.setWidth 2 }
    if v.getLsbD 2 && !s.dig.katRun then nextOr t (execDigKatRun (Fin.ofNat 4 v.toNat) lv t) else t
  else s

/-! ### PKE_ (10 R339) -/

/-- The command word of a write of PKE_CMD. -/
def pkeCmdOf (c : Nat) (lv : Level) (v : Word) : PkeCmd :=
  { master := Fin.ofNat 5 c, level := lv, set := (v >>> 8).setWidth 3, inline := v.getLsbD 11, prehash := v.getLsbD 12,
    kout := v.getLsbD 13, ch := Fin.ofNat 4 (v.toNat / 2 ^ 14), rsv := (v >>> 16).setWidth 16 }

/-- A write of PKE_KEY to PKE_DSTCAP, made while STATE is IDLE. -/
def PkeEngine.write (o : Nat) (v : Word) (e : PkeEngine) : PkeEngine :=
  match o with
  | 0x04 => { e with key := v }
  | 0x08 => { e with tenant := v.setWidth 16 }
  | 0x0C => { e with src := v }
  | 0x10 => { e with srcLen := v.setWidth 21 }
  | 0x14 => { e with dst := v }
  | 0x18 => { e with dstCap := v.setWidth 14 }
  | _ => e

def State.pkeWrite (c : Nat) (lv : Level) (n o : Nat) (v : Word) (s : State) : State :=
  let e := s.engine n
  let u : Fin 4 := Fin.ofNat 4 n
  if lv = .user then s
  else if o = 0x2C then nextOr s (execPkeAbort u (Fin.ofNat 5 c) lv v s)
  else if e.state ≠ 0 ∧ e.owner.toNat ≠ 65 + c then s
  else match o with
    | 0x00 => s.pkeCmd n (v.setWidth 8) (pkeCmdOf c lv v)
    | 0x30 => nextOr s (execPkeClear u (Fin.ofNat 5 c) lv v s)
    | 0x34 => s.updEngine n fun e => { e with irqDest := irqDestOf e.irqDest v, irqEn := v.getLsbD 3, irqPend := e.irqPend && !v.getLsbD 4 }
    | 0x40 => if v.getLsbD 0 then nextOr s (execPkeKatRun u lv s) else s
    | _ => if e.state = 0 then s.updEngine n (PkeEngine.write o v) else s

/-! ### RNG_ (12 R382) -/

def State.rngWrite (c : Nat) (lv : Level) (o : Nat) (v : Word) (s : State) : State :=
  let me : CoreNo := Fin.ofNat 5 c
  if 0x100 ≤ o ∧ o < 0x1A0 then
    let ch := (o - 0x100) / 0x20
    if o % 0x20 = 0 then nextOr s (execRngReq (Fin.ofNat 5 ch) me lv v s)
    else if o % 0x20 = 0x0C ∧ ch = c ∧ lv ≠ .user ∧ 1 ≤ v.toNat % 2 ^ 20 ∧ v.toNat % 2 ^ 20 ≤ 1000000 then
      s.withRng fun r => r.updChan ch fun x => { x with wlim := v.setWidth 20 }
    else s
  else match o with
    | 0x008 => if lv = .user then s else s.withRng fun r => { r with srcFail := w1c r.srcFail v }
    | 0x00C => if v.getLsbD 0 then nextOr s (execAuditSet lv s) else nextOr s (execAuditClear lv s)
    | 0x600 => nextOr s (execRngRawselWrite me lv v s)
    | _ => s

/-! ### KEY_ (05 R181, R182) -/

/-- SLOT and ANY alone: a KEY_CMD write whose OP is none of 1-7 starts no operation; it prepares the channel for a unit's delivery
(R182; 10 R320; log entry 98). -/
def State.keyCmdPlace (c : Fin 4) (w : RegWriter) (any : Bool) (slot : Fin 32768) (s : State) : State :=
  if keyWriter c w && !(s.keys.chan c.val).busy then
    s.withKeys fun k => k.updChan c.val fun x => { x with any := any, slot := BitVec.ofNat 15 slot.val, done := false }
  else s

/-- A write of KEY_CMD (R182). -/
def State.keyCmdWrite (c : Fin 4) (w : RegWriter) (v : Word) (s : State) : State :=
  let any := v.getLsbD 4
  let slot : Fin 32768 := Fin.ofNat 32768 (v.toNat / 64)
  match v.toNat % 16 with
  | 1 => nextOr s (execKeyCmdLoad c w any slot s)
  | 2 => nextOr s (execKeyCmdImport c w any (v.getLsbD 5) slot s)
  | 3 => nextOr s (execKeyCmdExport c w (v.getLsbD 5) s)
  | 4 => nextOr s (execKeyCmdBlob c w s)
  | 5 => nextOr s (execKeyCmdGenerate c w any slot s)
  | 6 => nextOr s (execKeyCmdUnload c w s)
  | 7 => nextOr s (execKeyCmdQuery c w s)
  | _ => s.keyCmdPlace c w any slot

/-- A write of a channel's plain registers. -/
def KeyChan.write (o : Nat) (v : Word) (x : KeyChan) : KeyChan :=
  if 0x20 ≤ o ∧ o < 0x40 then { x with attr := Bank.set 0 ((o - 0x20) / 4) v x.attr }
  else match o with
    | 0x04 => { x with arg := v }
    | 0x08 => { x with len := v }
    | 0x1C => { x with wrap := v }
    | _ => x

def State.keyWrite (c : Nat) (lv : Level) (o : Nat) (v : Word) (s : State) : State :=
  let w : RegWriter := .core (Fin.ofNat 5 c) lv
  let ch : Fin 4 := Fin.ofNat 4 (o / 0x100)
  if o < 0x400 then
    (if o % 0x100 = 0 then s.keyCmdWrite ch w v
    else if o % 0x100 = 0x0C then nextOr s (execKeyBlobInWrite ch w v s)
    else if keyWriter ch w then s.withKeys fun k => k.updChan ch.val (KeyChan.write (o % 0x100) v)
    else s)
  else if o = 0x100C ∧ v.getLsbD 0 = true then nextOr s (execKeyZeroAll lv s)
  else s

/-! ### MPU_ (19 R548, R554): machine level -/

/-- A write of a region register. -/
def MpuSet.write (o : Nat) (v : Word) (x : MpuSet) : MpuSet :=
  let r := o / 0x10
  match o % 0x10 with
  | 0 => { x with base := Bank.set 0 r (alignW 8 v) x.base }
  | 4 => { x with last := Bank.set 0 r (alignW 8 v) x.last }
  | 8 => { x with perm := Bank.set 0 r (v &&& 0x7F) x.perm }
  | _ => x

def State.mpuWrite (lv : Level) (m o : Nat) (v : Word) (s : State) : State :=
  if lv ≠ .machine then s
  else if o < 0x100 then s.updMpu m fun u => { u with written := u.written.write o v }
  else if o = 0x100 ∧ v.getLsbD 0 = true then nextOr s (execMpuFaultClear (Fin.ofNat 13 m) lv s)
  else if o = 0x108 ∧ v.getLsbD 0 = true then nextOr s (execMpuFenceGo (Fin.ofNat 13 m) lv s)
  else s

/-! ### ALM_ (13 R410): machine level -/

/-- The HI words of source registers hold sources 32-56; the other bits are reserved. -/
def srcHi (v : Word) : Word := v &&& 0x01FFFFFF

def State.almWrite (c : Nat) (lv : Level) (o : Nat) (v : Word) (s : State) : State :=
  if lv ≠ .machine then s
  else if o < 0x040 then nextOr s (execAlmRespWrite lv (Fin.ofNat 16 (o / 4)) v s)
  else match o with
    | 0x088 => s.withAlarm fun a => { a with pend := a.pend &&& ~~~(setLo 0 v) }
    | 0x08C => s.withAlarm fun a => { a with pend := a.pend &&& ~~~(setHi 0 v) }
    | 0x090 => s.withAlarm fun a => { a with ien := setLo a.ien v }
    | 0x094 => s.withAlarm fun a => { a with ien := setHi a.ien (srcHi v) }
    | 0x098 => s.withAlarm fun a => { a with route := irqDestOf a.route v }
    | 0x0A0 => s.withAlarm fun a => { a with raiseDet := v }
    | 0x0A4 => nextOr s (execAlmRaise (Fin.ofNat 5 c) lv v s)
    | 0x110 => nextOr s (execAlmLogExpWrite lv v s)
    | 0x114 => nextOr s (execAlmLogRelWrite lv v s)
    | 0x118 => s.withAlarm fun a => { a with logSel := v }
    | _ => s

/-! ### SOL_ and LST_ (08 R290, 09 R314): machine level -/

/-- A write of SOL_CFG_n: a port that becomes enabled trains when it has lock, a change of role is announced (08 R284), and a
written RETRAIN starts training. -/
def State.solCfgWrite (n : Nat) (v : Word) (s : State) : State :=
  let p := s.sole.get n
  let en := v.getLsbD 0
  let hold := v.getLsbD 3
  let s0 := if p.hold && !hold then s.endHostHold n else s
  let s1 := s0.updPort n fun p => { p with
    en := en, dual := v.getLsbD 1, role := v.getLsbD 2, hold := hold, xcode := (v >>> 4).setWidth 2, xany := v.getLsbD 6,
    trained := if p.en = en then p.trained else .no, holding := if en then p.holding else none
    trk := if en then p.trk else p.trk.idle, reach := if en then p.reach else none }
  let s2 := if en then s1.roleFrame n (portActive s p) else s1.holdWrites n (256 + n)
  let s3 := if hold then s2.holdWrites n n else s2
  let s4 := if en && (!p.en || v.getLsbD 7) then s3.startTraining n else s3
  if en then s4.settleHold n else s4

/-- A write of the volume-table window. -/
def Port.volWrite (o : Nat) (v : Word) (p : Port) : Port :=
  let upd (f : VolEntry → VolEntry) : Port := { p with vols := Bank.upd {} p.vsel.toNat f p.vols }
  match o with
  | 0x080 => { p with vsel := v.setWidth 8 }
  | 0x084 => upd fun e => { e with keyId := setLo e.keyId v }
  | 0x088 => upd fun e => { e with keyId := setHi e.keyId v }
  | 0x08C => upd fun e => { e with vol := v.setWidth 24, valid := v.getLsbD 31 }
  | 0x090 => upd fun e => { e with handle := v }
  | _ => p

/-- A write of the tracker part, made while EN is 0. -/
def Port.lstWrite (o : Nat) (v : Word) (p : Port) : Port :=
  match o with
  | 0x00 => { p with alpha := v.setWidth 16, beta := (v >>> 16).setWidth 16 }
  | 0x04 => { p with vlo := v }
  | 0x08 => { p with vhi := v }
  | 0x0C => { p with lead := v }
  | 0x10 => { p with gate := v }
  | 0x14 => { p with agate := v }
  | 0x18 => { p with tmoUs := v.setWidth 10, holdMs := (v >>> 16).setWidth 16 }
  | 0x1C => { p with acqN := v.setWidth 7 }
  | _ => p

def State.solWrite (lv : Level) (o : Nat) (v : Word) (s : State) : State :=
  if lv ≠ .machine then s
  else if o < 0x10000 then
    let n := o / 0x1000
    match o % 0x1000 with
    | 0x000 => s.solCfgWrite n v
    | 0x028 => s.updPort n fun p => { p with err := w1c p.err v }
    | r => s.updPort n (Port.volWrite r v)
  else if 0x11000 ≤ o ∧ o < 0x12000 then
    let n := (o - 0x11000) / 0x100
    if (s.sole.get n).en then s else s.updPort n (Port.lstWrite (o % 0x100) v)
  else s

/-! ### SD_ and ICC_ (15 R458): machine level -/

/-- A write of SD_CMD_p.  Which taps a RETUNE finds passing is the card's: free values (R440; log entry 49). -/
def State.sdCmdWrite (p : Fin 4) (lv : Level) (v : Word) (s : State) : State :=
  match v.toNat % 8 with
  | 1 => nextOr s (execSdRead p lv s)
  | 2 => nextOr s (execSdWrite p lv s)
  | 3 => nextOr s (execSdAbort p lv s)
  | 4 => s.draw 10 fun b t => nextOr t (execSdRetune p lv [BitVec.ofNat 40 (ofLe (b.take 5)), BitVec.ofNat 40 (ofLe (b.drop 5))] t)
  | 5 => nextOr s (execSdPowerOff p lv s)
  | 6 => nextOr s (execSdPowerOn p lv s)
  | _ => s

/-- A write of a plain register of an SD port. -/
def SdPort.write (o : Nat) (v : Word) (x : SdPort) : SdPort :=
  match o with
  | 0x0C => { x with lba := v }
  | 0x10 => { x with count := v.setWidth 16 }
  | 0x14 => { x with addr := v }
  | 0x20 => if v.toNat % 8192 ≤ 5000 then { x with busyTmo := v.setWidth 13 } else x
  | 0x24 => { x with irqDest := irqDestOf x.irqDest v, irqEn := v.getLsbD 3, irqPend := x.irqPend && !v.getLsbD 4 }
  | _ => x

/-- A write of ICC_CMD_s. -/
def State.iccCmdWrite (n : Fin 2) (lv : Level) (v : Word) (s : State) : State :=
  match v.toNat % 8 with
  | 1 => nextOr s (execIccActivate n lv s)
  | 2 => nextOr s (execIccDeactivate n lv s)
  | 3 => nextOr s (execIccXchg n lv s)
  | _ => s

/-- A write of a plain register of a contact slot. -/
def IccSlot.write (o : Nat) (v : Word) (x : IccSlot) : IccSlot :=
  match o with
  | 0x0C => { x with txAddr := v }
  | 0x10 => { x with txLen := v }
  | 0x14 => { x with rxAddr := v }
  | 0x18 => { x with rxCap := v }
  | 0x68 => { x with irqDest := irqDestOf x.irqDest v, irqEn := v.getLsbD 3, irqPend := x.irqPend && !v.getLsbD 4 }
  | _ => x

def State.cardRegWrite (lv : Level) (o : Nat) (v : Word) (s : State) : State :=
  if lv ≠ .machine then s
  else if o < 0x1000 then
    let p : Fin 4 := Fin.ofNat 4 (o / 0x400)
    match o % 0x400 with
    | 0x00 => nextOr s (execSdCfgWrite p lv v s)
    | 0x08 => s.sdCmdWrite p lv v
    | r => s.updSd p.val (SdPort.write r v)
  else
    let n : Fin 2 := Fin.ofNat 2 ((o - 0x2000) / 0x400)
    match o % 0x400 with
    | 0x00 => nextOr s (execIccCfgWrite n lv v s)
    | 0x08 => s.iccCmdWrite n lv v
    | r => s.updIcc n.val (IccSlot.write r v)

/-! ### CLS_ and INS_ (14 R435, R436): machine level -/

/-- A write of CLS_CTRL: the settings, then ABORT, POLL and XCHG as written. -/
def State.clsCtrlWrite (lv : Level) (v : Word) (s : State) : State :=
  let s1 := s.updCls fun c => { c with typeA := v.getLsbD 2, typeB := v.getLsbD 3, maxRate := (v >>> 4).setWidth 2 }
  let s2 := if v.getLsbD 1 then nextOr s1 (execClsAbort lv s1) else s1
  let s3 := if v.getLsbD 0 then nextOr s2 (execClsPoll lv s2) else s2
  if v.getLsbD 6 then nextOr s3 (execClsXchg lv s3) else s3

/-- A write of a plain CLS_ register; the transmit FIFO holds 4 KiB. -/
def Cls.write (o : Nat) (v : Word) (c : Cls) : Cls :=
  match o with
  | 0x08 => if 1 ≤ v.toNat % 2 ^ 14 ∧ v.toNat % 2 ^ 14 ≤ 10000 then { c with pollTmo := v.setWidth 14 } else c
  | 0x20 => if c.tx.length < 1024 then { c with tx := c.tx ++ [v] } else c
  | 0x24 => { c with txLen := v }
  | 0x2C => { c with irqDest := irqDestOf c.irqDest v, irqEn := v.getLsbD 3, irqPend := c.irqPend && !v.getLsbD 4 }
  | _ => c

def State.insWrite (lv : Level) (o : Nat) (v : Word) (s : State) : State :=
  if 0x80 ≤ o ∧ o < 0xC0 then
    s.withIns fun r => { r with staging := Bank.writeBytes r.staging (o - 0x80) (leBytes 4 v.toNat) }
  else match o with
    | 0x10 => nextOr s (execInsFloorWrite lv v s)
    | 0x14 => if v.getLsbD 0 then nextOr s (execInsIkctlGen lv s) else s
    | 0x20 => s.withIns fun r => { r with audHdl := v }
    | 0x24 =>
      let t := if v.getLsbD 0 then nextOr s (execInsAudctlLoad lv s) else s
      if v.getLsbD 1 then nextOr t (execInsAudctlClear lv t) else t
    | 0x40 => nextOr s (execInsTagSelWrite lv v s)
    | 0x48 => if v.getLsbD 0 then nextOr s (execInsTagCommit lv s) else s
    | _ => s

def State.clsWrite (lv : Level) (o : Nat) (v : Word) (s : State) : State :=
  if lv ≠ .machine then s
  else if o = 0 then s.clsCtrlWrite lv v
  else if o < 0x10000 then s.updCls (Cls.write o v)
  else s.insWrite lv (o - 0x10000) v

/-! ### WLT_ (16 R484), PWR_ and MGT_ (17 R497) -/

def State.wltWrite (lv : Level) (o : Nat) (v : Word) (s : State) : State :=
  if o = 0 then nextOr s (execWltCfgWrite lv v s)
  else if o = 0x1C ∧ lv = .machine then s.withWelt fun w => { w with err := w1c w.err v }
  else s

def State.pwrWrite (c o : Nat) (v : Word) (s : State) : State :=
  let me : CoreNo := Fin.ofNat 5 c
  if o = 0 then nextOr s (execPwrUnitEnWrite me (setLo s.cob.unitEn v) s)
  else if o = 4 then nextOr s (execPwrUnitEnWrite me (setHi s.cob.unitEn v) s)
  else if 0x200 ≤ o ∧ o < 0x210 then nextOr s (execPwrWdogWrite (Fin.ofNat 4 ((o - 0x200) / 4)) me v s)
  else s

/-- A write behind the Cobbler window by the Cobbler: a core is held in reset by RESET = 1 and released, when it may run, by
RESET = 0 (R489); its private memory takes writes with no effect that the spec gives. -/
def State.mgtWrite (c o : Nat) (v : Word) (s : State) : State :=
  if c ≠ 4 then s
  else if o = 0 then s.withCob fun x => { x with smbus := v.setWidth 7, mgtEn := v.getLsbD 7, mgtAlert := v.getLsbD 8 }
  else if 0x100 ≤ o ∧ o < 0x110 then
    let n := (o - 0x100) / 4
    let t := s.updCore n fun k => { k with hold := v.getLsbD 0 }
    if v.getLsbD 0 then (if (s.core n).inReset then t else t.holdCore n)
    else if (s.core n).hold && (s.core n).inReset && s.coreUsable n && decide (s.boot.state = .running) then t.releaseCore n false
    else t
  else s

/-! ### The whole map -/

/-- A write by core `c` at a level. -/
def State.coreRegWrite (c : Nat) (lv : Level) (a : Nat) (v : Word) (s : State) : State :=
  let o := a % 0x1000000
  match a / 0x1000000 with
  | 0x20 => s.ringWrite lv o v
  | 0x21 => s.mbxBlockWrite c lv o v
  | 0x22 => s.clkWrite c lv o v
  | 0x23 => s.digWrite c lv o v
  | 0x24 => s.pkeWrite c lv (o / 0x100000) (o % 0x100000) v
  | 0x25 => s.rngWrite c lv o v
  | 0x26 => s.keyWrite c lv o v
  | 0x27 => s.mpuWrite lv (o / 0x400) (o % 0x400) v
  | 0x28 => s.almWrite c lv o v
  | 0x29 => s.solWrite lv o v
  | 0x2A => s.cardRegWrite lv o v
  | 0x2B => s.clsWrite lv o v
  | 0x2C => s.wltWrite lv o v
  | 0x2D => s.pwrWrite c o v
  | 0x2F => s.mgtWrite c o v
  | _ => s

/-- A write of the loader page through the PF (02 R51, R52; 01 R36): ignored unless STATE is READY. -/
def State.ldrWrite (f : Fin 64) (o : Nat) (v : Word) (s : State) : State :=
  if f.val ≠ 0 ∨ s.boot.state ≠ .ready then s
  else match o with
    | 0x008 => s.withBoot fun b => { b with imgLo := alignW 12 v }
    | 0x00C => s.withBoot fun b => { b with imgHi := v }
    | 0x010 => s.withBoot fun b => { b with imgLen := v.setWidth 23 }
    | 0x014 => nextOr s (execLdrGo f v s)
    | _ => s

/-- A host write to BAR0 of function `f` (01 R35, R36; 03 R83, R87): a misaligned one is dropped and counted. -/
def State.hostRegWrite (f : Fin 64) (a : Nat) (v : Word) (s : State) : State :=
  if a % 4 ≠ 0 then s.withMbx fun m => m.updPage f.val fun p => { p with badAcc := satAdd p.badAcc 1 }
  else if a < 0x1000 then s.ldrWrite f a v
  else if a < 0x1020 then s.mbxWrite (.cmd f) (some .sender) (Fin.ofNat 70 (f.val + 1)) (a - 0x1000) v
  else if a < 0x1040 then s.mbxWrite (.evt f) (some .receiver) (Fin.ofNat 70 (f.val + 1)) (a - 0x1020) v
  else s

/-- A register write by the host or a core: ignored where there is no register. -/
def State.regWrite (w : RegWriter) (a : Nat) (v : Word) (s : State) : State :=
  match w with
  | .host f => s.hostRegWrite f a v
  | .core c lv => if regUsed (decide (c.val = 4)) a then s.coreRegWrite c.val lv a v else s

/-- REGISTER_WRITE (01 R31-R37, and the chapter of each block). -/
def execRegisterWrite (w : RegWriter) (addr v : Word) (s : State) : Host.Outcome State Fault Refusal :=
  .next (s.regWrite w addr.toNat v)

end Sys2Proof.Machine
end

