-- ==== Sys2Proof/Machine/CoreExec.lean ====
section
/-! DEFINITION. How an Awl core runs an instruction (18, 19): memory accesses with their checks, the write buffer, taking an
exception, the double fault, and the frame around every instruction. -/

namespace Sys2Proof.Machine

/-- An exception that an instruction raises (19 R530, R534): its slot and INFO, the access an MPU refused, the error of a
machine check, and the micro-step of a user-decode instruction. -/
structure Exc where
  slot : Nat
  info : Nat := 0
  mpu : Option (Access × Refused) := none
  ecc : Option Bool := none
  mstep : Option Nat := none
  deriving DecidableEq, Repr

/-! ### SipHash-2-4 (19 R535; log entry 47) -/

/-- The four words of a SipHash state. -/
structure Sip where
  v0 : Long
  v1 : Long
  v2 : Long
  v3 : Long

def sipRound (s : Sip) : Sip :=
  let a := s.v0 + s.v1
  let b := s.v1.rotateLeft 13 ^^^ a
  let c := s.v2 + s.v3
  let d := s.v3.rotateLeft 16 ^^^ c
  let a2 := a.rotateLeft 32 + d
  let c2 := c + b
  { v0 := a2, v1 := b.rotateLeft 17 ^^^ c2, v2 := c2.rotateLeft 32, v3 := d.rotateLeft 21 ^^^ a2 }

def sipBlock (s : Sip) (m : Long) : Sip :=
  let t := sipRound (sipRound { s with v3 := s.v3 ^^^ m })
  { t with v0 := t.v0 ^^^ m }

/-- SipHash-2-4 of `data`, a whole number of 8-byte words, under a 16-byte key. -/
def sipHash (key data : List Byte) : Long :=
  let w (l : List Byte) (i : Nat) : Long := BitVec.ofNat 64 (ofLe (sliceBytes l (8 * i) 8))
  let s0 : Sip := { v0 := w key 0 ^^^ 0x736f6d6570736575, v1 := w key 1 ^^^ 0x646f72616e646f6d,
                    v2 := w key 0 ^^^ 0x6c7967656e657261, v3 := w key 1 ^^^ 0x7465646279746573 }
  let n := data.length / 8
  let s1 := (List.range n).foldl (fun s i => sipBlock s (w data i)) s0
  let s2 := sipBlock s1 (BitVec.ofNat 64 (data.length % 256 * 2 ^ 56))
  let s3 := sipRound (sipRound (sipRound (sipRound { s2 with v2 := s2.v2 ^^^ 0xff })))
  s3.v0 ^^^ s3.v1 ^^^ s3.v2 ^^^ s3.v3

/-! ### Reading and writing memory (01 R31, R32; 18 R519, R522) -/

/-- The bytes of buffered stores laid over what memory gives (18 R519). -/
def overlay (wb : List WbEntry) (a : Nat) (bs : List Byte) : List Byte :=
  (List.range bs.length).map fun j => wb.foldl (fun (b : Byte) e =>
    if e.addr ≤ a + j ∧ a + j < e.addr + e.data.length then e.data.getD (a + j - e.addr) 0 else b) (bs.getD j 0)

/-- A buffered store reaches its target (18 R519). -/
def State.storeOut (c : Nat) (e : WbEntry) (s : State) : State :=
  match areaOf e.addr e.data.length with
  | .outbound => s.hostWrite (Config.outbound e.addr) e.data
  | _ => s.sramStore (some c) e.addr e.data

/-- The oldest buffered store drains. -/
def State.drainOne (c : Nat) (s : State) : State :=
  match (s.core c).wb with
  | [] => s
  | e :: t => (s.storeOut c e).updCore c fun k => { k with wb := t }

/-- Every buffered store drains. -/
def State.drainAll (c : Nat) (s : State) : State := (List.range (s.core c).wb.length).foldl (fun t _ => t.drainOne c) s

/-- The bytes at [a, a + n) as core `c` reads them; `i` brings what an outbound read delivers. -/
def State.readArea (c : Nat) (lv : Level) (a n : Nat) (i : AwlIn) (s : State) : List Byte × State :=
  let k := s.core c
  match areaOf a n with
  | .rom => ((List.range n).map fun j => Config.romByte (a + j), s)
  | .table => (Bank.readBytes k.table (a - 0x30000) n, s)
  | .itcm => (Bank.readBytes (Bank.get [] s.mem.itcm c) a n, s)
  | .dtcm => (Bank.readBytes (Bank.get [] s.mem.dtcm c) a n, s)
  | .sram => (overlay k.wb a (s.sramRead a n), s)
  | .staging => (overlay k.wb a (Bank.readBytes s.mem.sram a n), s)
  | .regs | .cobbler =>
    let r := s.regRead c lv a
    (leBytes n r.1.toNat, r.2)
  | .outbound =>
    if i.hostEarly then
      (List.replicate n 0xFF,
       (s.updCore c fun k => { k with oberr := true }).withPcie (Pcie.early i.early))
    else (overlay k.wb a (leBytes n i.hostData.toNat), s)
  | .none => ([], s)

/-- Reserved bits of an entry descriptor read 0 (20 R555). -/
def tableMask (off : Nat) : Byte :=
  if off < 0x800 then 0xFF
  else if 0x880 ≤ off then 0
  else match off % 8 with
    | 0 => 0x01
    | 1 | 2 => 0xFF
    | 3 => 0x01
    | _ => 0

/-- A store of bytes by core `c` (18 R519): buffered for custody SRAM, staging and the outbound window. -/
def State.writeArea (c : Nat) (lv : Level) (a : Nat) (bs : List Byte) (s : State) : State :=
  match areaOf a bs.length with
  | .table =>
    let off := a - 0x30000
    s.updCore c fun k => { k with
      table := Bank.writeBytes k.table off ((List.range bs.length).map fun j => bs.getD j 0 &&& tableMask (off + j)) }
  | .itcm | .dtcm => s.withMem (Mem.tcmWrite c a bs)
  | .sram | .staging | .outbound =>
    let t := if 4 ≤ (s.core c).wb.length then s.drainOne c else s
    t.updCore c fun k => { k with wb := k.wb ++ [{ addr := a, data := bs }] }
  | .regs | .cobbler => s.regWrite (.core (Fin.ofNat 5 c) lv) a (BitVec.ofNat 32 (ofLe bs))
  | .rom | .none => s

/-! ### The checks of an access (18 R504, R506, R515; 19 R529, R546, R548) -/

/-- INFO of slots 6 and 7 (19 R534). -/
def mpuInfo (acc : Access) (r : Refused) : Nat := acc.kind.toNat + 4 * bit r.region.isNone + 8 * bit r.outside

/-- An MPU refuses the access. -/
def mpuExc (slot : Nat) (acc : Access) (r : Refused) : Exc := { slot := slot, info := mpuInfo acc r, mpu := some (acc, r) }

/-- A refusal that no region and no range of R31 decides: an access form that the target does not take. -/
def formRefused : Refused := { region := none, outside := false }

/-- The access is one that its target never takes: a register block accessed other than by word, an MPU register written below
machine level or read at user level (18 R504; 19 R548). -/
def formBad (lv : Level) (acc : Access) : Bool :=
  match areaOf acc.addr acc.size with
  | .regs =>
    decide (acc.size ≠ 4)
      || (decide (acc.addr / 0x1000000 = 0x27) && (decide (lv = .user) || (decide (lv = .supervisor) && decide (acc.kind = 1))))
  | _ => false

/-- The MPU's answer to an access of core `c` at a level. -/
def State.mpuRefuses (c : Nat) (lv : Level) (acc : Access) (s : State) : Option Refused :=
  match coreCheck (decide (c = 4)) (s.core c).rules lv (regUsed (decide (c = 4)) acc.addr) acc with
  | some r => some r
  | none => if formBad lv acc then some formRefused else none

/-- INFO of slot 9. -/
def windowExc (k : Core) (lv : Level) (a : Nat) : Exc := { slot := 9, info := if a < k.stkLo lv then 0 else 1 }

/-- The checks of a data access in the order of 19 R532: alignment, stack window, MPU; `atomic` admits data TCM and custody
SRAM only. -/
def State.dataCheck (c : Nat) (lv : Level) (a n : Nat) (kind : BitVec 2) (stack atomic : Bool) (s : State) : Option Exc :=
  let k := s.core c
  let acc : Access := { addr := a, size := n, kind := kind }
  let ar := areaOf a n
  if a % n ≠ 0 then some { slot := 8, info := kind.toNat }
  else if stack && !k.inWindow lv a n then some (windowExc k lv a)
  else match s.mpuRefuses c lv acc with
    | some r => some (mpuExc 7 acc r)
    | none => if atomic && !decide (ar = .dtcm ∨ ar = .sram) then some (mpuExc 7 acc formRefused) else none

/-- A machine check on a load or an unbuffered access (19 R531, R534): `ecc` tells ECC from Stitch. -/
def machineCheck (ecc fetch : Bool) : Exc := { slot := 3, info := bit ecc + 2 * bit fetch, ecc := some ecc }

/-- The access meets a Stitch or ECC error that raises a machine check: loads, and stores that are not buffered. -/
def accessErrs (i : AwlIn) (a n : Nat) (kind : BitVec 2) : Option Bool :=
  let ar := areaOf a n
  if kind = 1 ∧ (ar = .sram ∨ ar = .staging ∨ ar = .outbound) then none else i.accessErr

/-- A checked load: the bytes and the state after the read. -/
def State.loadMem (c : Nat) (lv : Level) (a n : Nat) (stack atomic : Bool) (i : AwlIn) (s : State) : Except Exc (List Byte × State) :=
  match s.dataCheck c lv a n 0 stack atomic with
  | some e => .error e
  | none =>
    match accessErrs i a n 0 with
    | some ecc => .error (machineCheck ecc false)
    | none => .ok (s.readArea c lv a n i)

/-- A checked store. -/
def State.storeMem (c : Nat) (lv : Level) (a : Nat) (bs : List Byte) (stack atomic : Bool) (i : AwlIn) (s : State) : Except Exc State :=
  match s.dataCheck c lv a bs.length 1 stack atomic with
  | some e => .error e
  | none =>
    match accessErrs i a bs.length 1 with
    | some ecc => .error (machineCheck ecc false)
    | none => .ok (s.writeArea c lv a bs)

/-! ### Taking an exception (19 R530-R539) -/

/-- The taking level of a slot (R530). -/
def takingLevel (slot : Nat) (from_ : Level) : Level :=
  if slot = 1 ∨ slot = 2 ∨ slot = 3 ∨ slot = 10 then .machine
  else match from_ with
    | .machine => .machine
    | _ => .supervisor

/-- CAUSE (R534). -/
def causeWord (k : Core) (e : Exc) : Word :=
  BitVec.ofNat 32 (e.slot % 32 + 32 * k.pl + 256 * e.mstep.getD 0 + 4096 * bit e.mstep.isSome + 65536 * e.info)

/-- Frame words +0 to +24 (R533). -/
def frameWords (k : Core) (cause : Word) (pc : Word) : List Word :=
  [cause, pc, k.stWord, k.a.setWidth 32, (k.a >>> 32).setWidth 32, k.x, k.y]

/-- SEAL over seven frame words and the frame address (R535). -/
def sealWord (k : Core) (ws : List Word) (addr : Nat) : Word :=
  (sipHash k.sealKey (bytesOf (ws ++ [BitVec.ofNat 32 addr]))).setWidth 32

/-- The 32 bytes of a frame at `addr`. -/
def frameBytes (k : Core) (cause pc : Word) (addr : Nat) : List Byte :=
  let ws := frameWords k cause pc
  bytesOf (ws ++ [sealWord k ws addr])

/-- Write words one by one, past the write buffer: the frame is in memory when the handler starts (R533). -/
def State.writeFrame (c : Nat) (lv : Level) (a : Nat) (bs : List Byte) (s : State) : State :=
  ((List.range (bs.length / 4)).foldl (fun t j => t.writeArea c lv (a + 4 * j) (sliceBytes bs (4 * j) 4)) s).drainAll c

/-- The frame check of R536: the kind of its failure. -/
def State.frameCheck (c : Nat) (l : Level) (s : State) : Option Nat :=
  let k := s.core c
  let sp := (k.sp l).toNat
  if sp % 4 ≠ 0 ∨ sp < 32 ∨ k.inWindow l (sp - 32) 32 = false then some 1
  else if (List.range 8).any fun j => (s.mpuRefuses c l { addr := sp - 32 + 4 * j, size := 4, kind := 1 }).isSome then some 2
  else none

/-- The status and PC on entry at level `l` (R533 steps 3 to 5). -/
def Core.enter (slot : Nat) (l : Level) (ipl : Option Nat) (k : Core) : Core :=
  let k1 := { (k.setPl (plOf l)) with resv := none, pc := BitVec.ofNat 32 (0x00040000 + 16 * slot), waiting := false }
  match ipl with
  | some v => k1.setIpl v
  | none => if slot = 1 ∨ slot = 2 ∨ slot = 3 ∨ slot = 10 then k1.setIpl 7 else k1

/-- The double fault (R538, R539) of an exception whose frame at level `l` failed with a kind. -/
def State.escalate (c : Nat) (e : Exc) (l : Level) (kind : Nat) (pc : Word) (env : EntryEnv) (s : State) : State :=
  let k := s.core c
  if k.dfault || env.escalationErr then s.coreFails c true
  else
    let save := [k.spM, k.sp l - 32, causeWord k e, 0]
    let info := e.slot % 32 + 32 * kind + 256 * plOf l
    let cause := causeWord k { slot := 1, info := info }
    let s1 := s.withMem fun m =>
      (m.tcmWrite c 0x9FFF0 (bytesOf save)).tcmWrite c 0x9FFD0 (frameBytes k cause pc 0x9FFD0)
    s1.updCore c fun k => { (k.enter 1 .machine none) with spM := 0x0009FFD0, dfault := true }

/-- The MPU of core `c` records the refused access; the deciding region where none decided is a free value (R550). -/
def State.recordMpu (c : Nat) (e : Exc) (s : State) : State :=
  match e.mpu with
  | none => s
  | some (acc, r) => s.draw 1 fun b t => t.updMpu c (Mpu.record acc (s.core c).pl r (BitVec.ofNat 4 (ofLe b)))

/-- The alarm of a Stitch or ECC error that core `c` meets (13 R388, R383): the detail but for the master is a free value. -/
def State.errAlarm (c : Nat) (ecc : Option Bool) (s : State) : State :=
  match ecc with
  | none => s
  | some false => s.draw 1 fun b t => t.raise 41 (BitVec.ofNat 32 (65 + c + 256 * ofLe b))
  | some true => s.draw 4 fun b t => t.raise 42 (BitVec.ofNat 32 (ofLe b))

/-- Cycles of the 1 ms window of R542. -/
def faultWindow (c : Nat) : Nat := if c = 4 then 400000 else 1000000

/-- A privileged-return fault is counted; the fifth in a window asserts source 54 (19 R542). -/
def State.countReturnFault (c : Nat) (s : State) : State :=
  let now := (s.core c).cycle.toNat
  let l := ((s.core c).retFaults.filter fun t => decide (now < t + faultWindow c)) ++ [now]
  let t := s.updCore c fun k => { k with retFaults := l }
  if 5 ≤ l.length then t.raise 54 (BitVec.ofNat 32 c) else t

/-- Take an exception (R533): the frame check, the frame, then level, IPL and PC; a failed frame escalates.  Privileged-return faults are
counted (R542). -/
def State.takeExc (c : Nat) (e : Exc) (pc : Word) (ipl : Option Nat) (env : EntryEnv) (s : State) : State :=
  let s9 := (s.recordMpu c e).errAlarm c e.ecc
  let s0 := if e.slot = 10 then s9.countReturnFault c else s9
  let k := s0.core c
  let l := takingLevel e.slot k.level
  if k.inReset then s0
  else match s0.frameCheck c l with
    | some kind => s0.escalate c e l kind pc env
    | none =>
      if env.frameErr then s0.escalate c e l 3 pc env
      else
        let addr := (k.sp l).toNat - 32
        let s1 := s0.writeFrame c l addr (frameBytes k (causeWord k e) pc addr)
        s1.updCore c fun k => (k.setSp l (k.sp l - 32)).enter e.slot l ipl

/-! ### Running an instruction (R532) -/

/-- CYCLE advances by at least one (18 R521, R524); how far is not a matter of this model: a free number. -/
def State.tick (c : Nat) (s : State) : State :=
  (s.updCore c fun k => { k with cycle := k.cycle + 1 + BitVec.ofNat 64 (Config.freeNat s.freeCount) }).withFreeCount (· + 1)

/-- The fetch of the instruction at PC (R532: MPU fetch fault, machine check on the fetch). -/
def State.fetchExc (c : Nat) (i : AwlIn) (s : State) : Option Exc :=
  let k := s.core c
  let acc : Access := { addr := k.pc.toNat, size := 4, kind := 2 }
  match s.mpuRefuses c k.level acc with
  | some r => some (mpuExc 6 acc r)
  | none => i.fetchErr.map fun ecc => machineCheck ecc true

/-- The word of an instruction with opcode `op` (18 R501). -/
def awlWord (op : Nat) (i : AwlIn) : Word := BitVec.ofNat 8 op ++ i.am ++ i.sz ++ i.mod ++ i.d16

/-- The word that core `c` fetches at its PC (18 R501, R520). -/
def State.fetched (c : Nat) (s : State) : Word :=
  let k := s.core c
  let a := k.pc.toNat
  BitVec.ofNat 32 (ofLe (match areaOf a 4 with
    | .rom => (List.range 4).map fun j => Config.romByte (a + j)
    | _ => Bank.readBytes k.code a 4))

/-- The illegal-instruction fault. -/
def illegal : Exc := { slot := 4 }
/-- A privilege violation with its INFO field. -/
def privilege (n : Nat) : Exc := { slot := 5, info := n }

/-- Run the instruction of opcode `op` on core `c`: the fetch, the check of its form, and its body, which gives the state after it or the
exception it raises (R531, R532).  It runs where it is what the core fetches; where another word stands at PC this instruction does not
occur, and nothing changes (log entry 132). -/
def State.runInstr (c op : Nat) (i : AwlIn) (legal : Bool) (body : State → Except Exc State) (s : State) : State :=
  if !(s.core c).runs then s
  else
    let t := s.tick c
    let pc := (t.core c).pc
    match t.fetchExc c i with
    | some e => t.takeExc c e pc none i.entry
    | none =>
      if t.fetched c ≠ awlWord op i then s
      else if !legal then t.takeExc c illegal pc none i.entry
      else match body t with
        | .error e => t.takeExc c e pc none i.entry
        | .ok u => u

/-- The instruction completes: post-increment, then its own change of the registers, then the next PC (18 R503). -/
def State.retire (c : Nat) (f : Core → Core) (s : State) : State :=
  s.updCore c fun k => let k1 := f k; { k1 with pc := k1.pc + 4 }

end Sys2Proof.Machine
end

