-- ==== Sys2Proof/Machine/Operands.lean ====
section
/-! DEFINITION. Operand forms of Awl instructions (18 R501-R506): fields, register names, effective addresses, operands. -/

namespace Sys2Proof.Machine

/-! ### Fields and their legal values (R505, R507) -/

def amOf (i : AwlIn) : Nat := i.am.toNat
def szOf (i : AwlIn) : Nat := i.sz.toNat
def modOf (i : AwlIn) : Nat := i.mod.toNat
def d16Of (i : AwlIn) : Nat := i.d16.toNat

/-- D16 sign-extended to 32 bits. -/
def sext16 (i : AwlIn) : Word := i.d16.signExtend 32

/-- MOD names a register (R502). -/
def regOk (i : AwlIn) : Bool := decide (modOf i ≤ 4)
/-- The size column "B H W", and "W". -/
def szBHW (i : AwlIn) : Bool := decide (szOf i ≤ 2)
def szW (i : AwlIn) : Bool := decide (szOf i = 2)
/-- The size column "—". -/
def szNone (i : AwlIn) : Bool := decide (szOf i = 0)
/-- AM 001-111, AM 000. -/
def amMem (i : AwlIn) : Bool := decide (amOf i ≠ 0)
def amImm (i : AwlIn) : Bool := decide (amOf i = 0)
/-- The modes of a branch or call. -/
def amBranch (i : AwlIn) : Bool := [1, 2, 3, 7].contains (amOf i)
def modZero (i : AwlIn) : Bool := decide (modOf i = 0)
def d16Zero (i : AwlIn) : Bool := decide (i.d16 = 0)

/-- The form of most register operations: any mode, B H W, REG. -/
def formReg (i : AwlIn) : Bool := szBHW i && regOk i
/-- The form of ST. -/
def formStore (i : AwlIn) : Bool := amMem i && szBHW i && regOk i
/-- AM 000, SZ word, REG, and D16 in use. -/
def formRegImm (i : AwlIn) : Bool := amImm i && szW i && regOk i
/-- AM 000, SZ word, REG, D16 zero (PUSH, POP). -/
def formStack (i : AwlIn) : Bool := formRegImm i && d16Zero i
/-- No operand: AM 000, SZ "—", MOD 0, D16 unused. -/
def formNone (i : AwlIn) : Bool := amImm i && szNone i && modZero i && d16Zero i
/-- A multiply-accumulate: MOD[2:1] zero. -/
def formMac (i : AwlIn) : Bool := szW i && decide (modOf i ≤ 1)
/-- An operation of A and a word operand. -/
def formAcc (i : AwlIn) : Bool := szW i && modZero i
/-- An atomic: memory, word, REG. -/
def formAtomic (i : AwlIn) : Bool := amMem i && szW i && regOk i
/-- A branch or call. -/
def formBranch (i : AwlIn) : Bool := amBranch i && szW i && modZero i

/-- Bytes of the access (R501). -/
def sizeOf (i : AwlIn) : Nat := 2 ^ szOf i

/-! ### Registers by name (R502) -/

/-- A read of REG. -/
def Core.reg (k : Core) (n : Nat) : Word :=
  match n with
  | 0 => k.x
  | 1 => k.y
  | 2 => k.dp
  | 3 => k.sp k.level
  | _ => k.a.setWidth 32

/-- A write of REG: DP has bits [15:0] zero, A takes its guard from bit 31. -/
def Core.setReg (n : Nat) (v : Word) (k : Core) : Core :=
  match n with
  | 0 => { k with x := v }
  | 1 => { k with y := v }
  | 2 => { k with dp := v &&& 0xFFFF0000 }
  | 3 => k.setSp k.level v
  | _ => { k with a := v.signExtend 40 }

/-! ### Effective addresses and operands (R503, R504) -/

/-- EA. -/
def Core.ea (k : Core) (i : AwlIn) : Word :=
  match amOf i with
  | 1 => k.dp + i.d16.setWidth 32
  | 2 => k.x + sext16 i
  | 3 => k.y + sext16 i
  | 4 => k.sp k.level + sext16 i
  | 5 => k.x
  | 6 => k.y
  | 7 => k.pc + sext16 i * 4
  | _ => 0

/-- The register update of AM 101 and 110. -/
def Core.postInc (i : AwlIn) (k : Core) : Core :=
  match amOf i with
  | 5 => { k with x := k.x + sext16 i }
  | 6 => { k with y := k.y + sext16 i }
  | _ => k

/-- The value of the low `n` bytes of a memory operand, extended to 32 bits. -/
def extend (zero : Bool) (bs : List Byte) : Word :=
  let v := ofLe bs
  match bs.length with
  | 1 => if zero then BitVec.ofNat 32 v else (BitVec.ofNat 8 v).signExtend 32
  | 2 => if zero then BitVec.ofNat 32 v else (BitVec.ofNat 16 v).signExtend 32
  | _ => BitVec.ofNat 32 v

/-- A checked load at EA of `n` bytes. -/
def State.loadEa (c : Nat) (i : AwlIn) (n : Nat) (atomic : Bool) (s : State) : Except Exc (List Byte × State) :=
  let k := s.core c
  s.loadMem c k.level (k.ea i).toNat n (decide (amOf i = 4)) atomic i

/-- A checked store at EA. -/
def State.storeEa (c : Nat) (i : AwlIn) (bs : List Byte) (atomic : Bool) (s : State) : Except Exc State :=
  let k := s.core c
  s.storeMem c k.level (k.ea i).toNat bs (decide (amOf i = 4)) atomic i

/-- The operand of R503 and R504: `zi` zero-extends an immediate, `zm` a memory operand. -/
def State.operand (c : Nat) (i : AwlIn) (zi zm : Bool) (s : State) : Except Exc (Word × State) :=
  if amOf i = 0 then .ok (if zi then i.d16.setWidth 32 else sext16 i, s)
  else match s.loadEa c i (sizeOf i) false with
    | .error e => .error e
    | .ok (bs, t) => .ok (extend zm bs, t)

/-- An instruction with an operand: the registers change by `f` after the post-increment. -/
def State.withOperand (c : Nat) (i : AwlIn) (zi zm : Bool) (f : Word → Core → Core → Core) (s : State) : Except Exc State :=
  match s.operand c i zi zm with
  | .error e => .error e
  | .ok (v, t) => .ok (t.retire c fun k => f v k (k.postInc i))

end Sys2Proof.Machine
end

