-- ==== Sys2Proof/Machine/Flags.lean ====
section
/-! DEFINITION. Flags and arithmetic of Awl instructions (18 R499, R508-R513). -/

namespace Sys2Proof.Machine

/-! ### Integer flags (R508) -/

/-- Z and N of a 32-bit result. -/
def Core.setZN (v : Word) (k : Core) : Core := (k.setFlag stZ (decide (v = 0))).setFlag stN (v.getLsbD 31)

/-- Z and N of A. -/
def Core.setZNA (v : BitVec 40) (k : Core) : Core := (k.setFlag stZ (decide (v = 0))).setFlag stN (v.getLsbD 39)

/-- C and V. -/
def Core.setCV (cy v : Bool) (k : Core) : Core := (k.setFlag stC cy).setFlag stV v

/-- A result with C and V. -/
structure Sum where
  value : Word
  carry : Bool
  ovf : Bool

/-- `a + b + c`: carry out of bit 31 and signed overflow. -/
def addWith (a b : Word) (c : Bool) : Sum :=
  let n := a.toNat + b.toNat + bit c
  let z := a.toInt + b.toInt + bit c
  { value := BitVec.ofNat 32 n, carry := decide (2 ^ 32 ≤ n), ovf := decide (z < -2 ^ 31 ∨ 2 ^ 31 ≤ z) }

/-- `a - b - c`: the borrow and signed overflow. -/
def subWith (a b : Word) (c : Bool) : Sum :=
  let z := a.toInt - b.toInt - bit c
  { value := a - b - BitVec.ofNat 32 (bit c), carry := decide (a.toNat < b.toNat + bit c),
    ovf := decide (z < -2 ^ 31 ∨ 2 ^ 31 ≤ z) }

/-- Set a register and Z, N, C, V. -/
def Core.setSum (n : Nat) (r : Sum) (k : Core) : Core := ((k.setReg n r.value).setZN r.value).setCV r.carry r.ovf

/-- A shift by `n` in 0 to 31: its result, and the last bit shifted out, 0 for a count of 0. -/
def shl (v : Word) (n : Nat) : Word × Bool := (v <<< n, decide (0 < n) && v.getLsbD (32 - n))
def shr (v : Word) (n : Nat) : Word × Bool := (v >>> n, decide (0 < n) && v.getLsbD (n - 1))
def asr (v : Word) (n : Nat) : Word × Bool := (v.sshiftRight n, decide (0 < n) && v.getLsbD (n - 1))
def rol (v : Word) (n : Nat) : Word × Bool := (v.rotateLeft n, decide (0 < n) && (v.rotateLeft n).getLsbD 0)

/-- Set a register, Z, N and C. -/
def Core.setShift (n : Nat) (r : Word × Bool) (k : Core) : Core := ((k.setReg n r.1).setZN r.1).setFlag stC r.2

/-- The exact signed product. -/
def product (a b : Word) : Int := a.toInt * b.toInt

/-- A signed number that does not fit 32 bits. -/
def over32 (z : Int) : Bool := decide (z < -2 ^ 31 ∨ 2 ^ 31 ≤ z)

/-- Signed division toward zero, with 0x8000_0000 by -1 giving 0x8000_0000 and V (R509). -/
def divS (a b : Word) : Word × Bool := (BitVec.ofInt 32 (Int.tdiv a.toInt b.toInt), decide (a = 0x80000000 ∧ b = 0xFFFFFFFF))

/-! ### The accumulator (R511, R512) -/

/-- A reduced to 40 bits: the value written and whether the exact result did not fit. -/
def reduce40 (sat : Bool) (z : Int) : BitVec 40 × Bool :=
  if 2 ^ 39 ≤ z then (if sat then 0x7FFFFFFFFF else BitVec.ofInt 40 z, true)
  else if z < -2 ^ 39 then (if sat then 0x8000000000 else BitVec.ofInt 40 z, true)
  else (BitVec.ofInt 40 z, false)

/-- Write A from an exact result with Z, N, V and SV (R511). -/
def Core.writeA (z : Int) (k : Core) : Core :=
  let r := reduce40 (k.flag stSAT) z
  let k1 := ({ k with a := r.1 }.setZNA r.1).setFlag stV r.2
  if r.2 then k1.setFlag stSV true else k1

/-- Rounding at bit `n`, for n from 1 (R512). -/
def roundAt (mode : Nat) (z : Int) (n : Nat) : Int :=
  let d : Int := 2 ^ n
  let q := z / d
  match mode with
  | 0 => q
  | 1 => (z + 2 ^ (n - 1)) / d
  | 2 => if z - q * d < 2 ^ (n - 1) then q else if 2 ^ (n - 1) < z - q * d then q + 1 else if q % 2 = 0 then q else q + 1
  | _ => Int.tdiv z d

/-- A rounded at bit `n` (R512). -/
def Core.roundA (n : Nat) (k : Core) : Int := if n = 0 then k.a.toInt else roundAt k.rnd k.a.toInt n * 2 ^ n

/-- The product term c (R510). -/
def productTerm (frac : Bool) (rnd : Nat) (m opd : Word) : Int :=
  if frac then roundAt rnd (2 * product m opd) 32 else product m opd

/-- A clamped to 32 bits, and whether the clamp changed it (R511). -/
def clamp32 (a : BitVec 40) : BitVec 40 × Bool :=
  if a.toInt < -2 ^ 31 then (0xFF80000000, true) else if 2 ^ 31 ≤ a.toInt then (0x007FFFFFFF, true) else (a, false)

/-- The word of A that STA and MOVA give: clamped when SAT is set, with whether it changed. -/
def Core.aWord (k : Core) : Word × Bool :=
  if k.flag stSAT then ((clamp32 k.a).1.setWidth 32, (clamp32 k.a).2) else (k.a.setWidth 32, false)

/-- SV is set with `b`, and otherwise kept. -/
def Core.stick (b : Bool) (k : Core) : Core := if b then k.setFlag stSV true else k

/-- The number of leading bits of A equal to bit 39 (R513). -/
def leadingSame (a : BitVec 40) : Nat :=
  (((List.range 40).find? fun j => decide (a.getLsbD (39 - j) ≠ a.getLsbD 39)).getD 40)

/-- NRM (R513): k and the normalised A. -/
def normalise (a : BitVec 40) : Int × BitVec 40 :=
  let k : Int := (leadingSame a : Int) - 9
  (k, if 0 ≤ k then a <<< k.toNat else a.sshiftRight (-k).toNat)

/-! ### Conditions (R514) -/

/-- Condition `cc` holds on the flags of a status word. -/
def condHolds (cc : Nat) (st : Word) : Bool :=
  let z := st.getLsbD stZ
  let n := st.getLsbD stN
  let c := st.getLsbD stC
  let v := st.getLsbD stV
  match cc with
  | 0 => true
  | 1 => z
  | 2 => !z
  | 3 => n != v
  | 4 => n == v
  | 5 => !z && (n == v)
  | 6 => z || (n != v)
  | 7 => c
  | 8 => !c
  | 9 => !c && !z
  | 10 => c || z
  | 11 => n
  | 12 => !n
  | 13 => v
  | 14 => !v
  | _ => st.getLsbD stSV

end Sys2Proof.Machine
end

