-- ==== Sys2Proof/Machine/AwlInt.lean ====
section
/-! DEFINITION. Meanings of the data-movement and integer instructions (18 R507-R509). -/

namespace Sys2Proof.Machine

/-- NOP (R507). -/
def execNop (c : CoreNo) (i : AwlIn) (s : State) : Host.Outcome State Fault Refusal :=
  .next (s.runInstr c.val 0x00 i (formNone i) fun t => .ok (t.retire c.val id))

/-- LD: REG := operand (R507). -/
def execLd (c : CoreNo) (i : AwlIn) (s : State) : Host.Outcome State Fault Refusal :=
  .next (s.runInstr c.val 0x01 i (formReg i) fun t => t.withOperand c.val i false false fun v _ k => (k.setReg (modOf i) v).setZN v)

/-- LDU: REG := operand, zero-extended (R507). -/
def execLdu (c : CoreNo) (i : AwlIn) (s : State) : Host.Outcome State Fault Refusal :=
  .next (s.runInstr c.val 0x02 i (formReg i) fun t => t.withOperand c.val i true true fun v _ k => (k.setReg (modOf i) v).setZN v)

/-- A store of `bs` at EA, then the post-increment and a change of the core. -/
def State.storeThen (c : Nat) (i : AwlIn) (bs : List Byte) (f : Core → Core) (s : State) : Except Exc State :=
  match s.storeEa c i bs false with
  | .error e => .error e
  | .ok t => .ok (t.retire c fun k => f (k.postInc i))

/-- ST: the low bytes of REG go to memory (R507). -/
def execSt (c : CoreNo) (i : AwlIn) (s : State) : Host.Outcome State Fault Refusal :=
  .next (s.runInstr c.val 0x03 i (formStore i) fun t => t.storeThen c.val i (leBytes (sizeOf i) ((t.core c.val).reg (modOf i)).toNat) id)

/-- The form of LDA and STA: W, or L on memory. -/
def formLong (i : AwlIn) : Bool := modZero i && (szW i || (decide (szOf i = 3) && amMem i))

/-- The long load: the word at EA and the low byte of the word at EA + 4. -/
def State.loadLong (c : Nat) (i : AwlIn) (s : State) : Except Exc State :=
  match s.loadEa c i 8 false with
  | .error e => .error e
  | .ok (bs, t) => .ok (t.retire c fun k =>
      let v : BitVec 40 := BitVec.ofNat 40 (ofLe (bs.take 5))
      { (k.postInc i) with a := v }.setZNA v)

/-- LDA: A := operand (R507). -/
def execLda (c : CoreNo) (i : AwlIn) (s : State) : Host.Outcome State Fault Refusal :=
  .next (s.runInstr c.val 0x04 i (formLong i) fun t => if szOf i = 3 then t.loadLong c.val i
    else t.withOperand c.val i false false fun v _ k => { k with a := v.signExtend 40 }.setZNA (v.signExtend 40))

/-- STA: A goes to memory (R507, R511). -/
def execSta (c : CoreNo) (i : AwlIn) (s : State) : Host.Outcome State Fault Refusal :=
  .next (s.runInstr c.val 0x05 i (amMem i && formLong i) fun t => 
    let k := t.core c.val
    if szOf i = 3 then t.storeThen c.val i (leBytes 4 (k.a.toNat % 2 ^ 32) ++ leBytes 4 (k.a.toNat / 2 ^ 32)) id
    else t.storeThen c.val i (leBytes 4 k.aWord.1.toNat) (Core.stick k.aWord.2))

/-- MOV: REG := the register that D16 names (R507). -/
def execMov (c : CoreNo) (i : AwlIn) (s : State) : Host.Outcome State Fault Refusal :=
  .next (s.runInstr c.val 0x06 i (formRegImm i && decide (d16Of i ≤ 4)) fun t => .ok (t.retire c.val fun k => (k.setReg (modOf i) (k.reg (d16Of i))).setZN (k.reg (d16Of i))))

/-- LDH: REG[31:16] := D16 (R507). -/
def execLdh (c : CoreNo) (i : AwlIn) (s : State) : Host.Outcome State Fault Refusal :=
  .next (s.runInstr c.val 0x07 i (formRegImm i) fun t => .ok (t.retire c.val fun k =>
    k.setReg (modOf i) (BitVec.ofNat 32 (d16Of i * 65536 + (k.reg (modOf i)).toNat % 65536))))

/-- ADD (R508). -/
def execAdd (c : CoreNo) (i : AwlIn) (s : State) : Host.Outcome State Fault Refusal :=
  .next (s.runInstr c.val 0x08 i (formReg i) fun t => t.withOperand c.val i false false fun v o k =>
    k.setSum (modOf i) (addWith (o.reg (modOf i)) v false))

/-- ADC (R508). -/
def execAdc (c : CoreNo) (i : AwlIn) (s : State) : Host.Outcome State Fault Refusal :=
  .next (s.runInstr c.val 0x09 i (formReg i) fun t => t.withOperand c.val i false false fun v o k =>
    k.setSum (modOf i) (addWith (o.reg (modOf i)) v (o.flag stC)))

/-- SUB (R508). -/
def execSub (c : CoreNo) (i : AwlIn) (s : State) : Host.Outcome State Fault Refusal :=
  .next (s.runInstr c.val 0x0A i (formReg i) fun t => t.withOperand c.val i false false fun v o k =>
    k.setSum (modOf i) (subWith (o.reg (modOf i)) v false))

/-- SBC (R508). -/
def execSbc (c : CoreNo) (i : AwlIn) (s : State) : Host.Outcome State Fault Refusal :=
  .next (s.runInstr c.val 0x0B i (formReg i) fun t => t.withOperand c.val i false false fun v o k =>
    k.setSum (modOf i) (subWith (o.reg (modOf i)) v (o.flag stC)))

/-- CMP: flags of REG - operand (R508). -/
def execCmp (c : CoreNo) (i : AwlIn) (s : State) : Host.Outcome State Fault Refusal :=
  .next (s.runInstr c.val 0x0C i (formReg i) fun t => t.withOperand c.val i false false fun v o k =>
    let r := subWith (o.reg (modOf i)) v false
    (k.setZN r.value).setCV r.carry r.ovf)

/-- AND (R507). -/
def execAnd (c : CoreNo) (i : AwlIn) (s : State) : Host.Outcome State Fault Refusal :=
  .next (s.runInstr c.val 0x0D i (formReg i) fun t => t.withOperand c.val i true true fun v o k =>
    let r := o.reg (modOf i) &&& v
    (k.setReg (modOf i) r).setZN r)

/-- OR (R507). -/
def execOr (c : CoreNo) (i : AwlIn) (s : State) : Host.Outcome State Fault Refusal :=
  .next (s.runInstr c.val 0x0E i (formReg i) fun t => t.withOperand c.val i true true fun v o k =>
    let r := o.reg (modOf i) ||| v
    (k.setReg (modOf i) r).setZN r)

/-- XOR (R507). -/
def execXor (c : CoreNo) (i : AwlIn) (s : State) : Host.Outcome State Fault Refusal :=
  .next (s.runInstr c.val 0x0F i (formReg i) fun t => t.withOperand c.val i true true fun v o k =>
    let r := o.reg (modOf i) ^^^ v
    (k.setReg (modOf i) r).setZN r)

/-- SHL by operand[4:0] (R508). -/
def execShl (c : CoreNo) (i : AwlIn) (s : State) : Host.Outcome State Fault Refusal :=
  .next (s.runInstr c.val 0x10 i (formReg i) fun t => t.withOperand c.val i false false fun v o k =>
    k.setShift (modOf i) (shl (o.reg (modOf i)) (v.toNat % 32)))

/-- SHR by operand[4:0] (R508). -/
def execShr (c : CoreNo) (i : AwlIn) (s : State) : Host.Outcome State Fault Refusal :=
  .next (s.runInstr c.val 0x11 i (formReg i) fun t => t.withOperand c.val i false false fun v o k =>
    k.setShift (modOf i) (shr (o.reg (modOf i)) (v.toNat % 32)))

/-- ASR by operand[4:0] (R508). -/
def execAsr (c : CoreNo) (i : AwlIn) (s : State) : Host.Outcome State Fault Refusal :=
  .next (s.runInstr c.val 0x12 i (formReg i) fun t => t.withOperand c.val i false false fun v o k =>
    k.setShift (modOf i) (asr (o.reg (modOf i)) (v.toNat % 32)))

/-- ROL by operand[4:0] (R508). -/
def execRol (c : CoreNo) (i : AwlIn) (s : State) : Host.Outcome State Fault Refusal :=
  .next (s.runInstr c.val 0x13 i (formReg i) fun t => t.withOperand c.val i false false fun v o k =>
    k.setShift (modOf i) (rol (o.reg (modOf i)) (v.toNat % 32)))

/-- TST: flags of REG and operand (R507). -/
def execTst (c : CoreNo) (i : AwlIn) (s : State) : Host.Outcome State Fault Refusal :=
  .next (s.runInstr c.val 0x14 i (formReg i) fun t => t.withOperand c.val i true true fun v o k => k.setZN (o.reg (modOf i) &&& v))

/-- LEA: REG := EA (R507). -/
def execLea (c : CoreNo) (i : AwlIn) (s : State) : Host.Outcome State Fault Refusal :=
  .next (s.runInstr c.val 0x15 i (amMem i && szW i && regOk i) fun t => .ok (t.retire c.val fun k => (k.postInc i).setReg (modOf i) (k.ea i)))

/-- MUL: the low 32 bits of the signed product (R508). -/
def execMul (c : CoreNo) (i : AwlIn) (s : State) : Host.Outcome State Fault Refusal :=
  .next (s.runInstr c.val 0x16 i (formReg i) fun t => t.withOperand c.val i false false fun v o k =>
    let r : Word := BitVec.ofInt 32 (product (o.reg (modOf i)) v)
    ((k.setReg (modOf i) r).setZN r).setFlag stV (over32 (product (o.reg (modOf i)) v)))

/-- MULH: the high 32 bits of the signed product (R507). -/
def execMulh (c : CoreNo) (i : AwlIn) (s : State) : Host.Outcome State Fault Refusal :=
  .next (s.runInstr c.val 0x17 i (formReg i) fun t => t.withOperand c.val i false false fun v o k =>
    let r : Word := BitVec.ofInt 32 (product (o.reg (modOf i)) v / 2 ^ 32)
    (k.setReg (modOf i) r).setZN r)

/-- EXT: REG sign-extended from bit 7 or bit 15 (R507). -/
def execExt (c : CoreNo) (i : AwlIn) (s : State) : Host.Outcome State Fault Refusal :=
  .next (s.runInstr c.val 0x18 i (amImm i && decide (szOf i ≤ 1) && regOk i && d16Zero i) fun t => .ok (t.retire c.val fun k =>
    let v := k.reg (modOf i)
    let r : Word := if szOf i = 0 then (v.setWidth 8 : Byte).signExtend 32 else (v.setWidth 16 : Half).signExtend 32
    (k.setReg (modOf i) r).setZN r))

/-- A word pushed on the stack of the current level, then a change of the core (R506). -/
def State.pushWord (c : Nat) (i : AwlIn) (v : Word) (f : Core → Core) (s : State) : Except Exc State :=
  let k := s.core c
  let a := k.sp k.level - 4
  match s.storeMem c k.level a.toNat (leBytes 4 v.toNat) true false i with
  | .error e => .error e
  | .ok t => .ok (t.updCore c fun k => f (k.setSp k.level a))

/-- The word at SP, popped (R506). -/
def State.popWord (c : Nat) (i : AwlIn) (s : State) : Except Exc (Word × State) :=
  let k := s.core c
  match s.loadMem c k.level (k.sp k.level).toNat 4 true false i with
  | .error e => .error e
  | .ok (bs, t) => .ok (BitVec.ofNat 32 (ofLe bs), t.updCore c fun k => k.setSp k.level (k.sp k.level + 4))

/-- The next instruction follows. -/
def Core.next (k : Core) : Core := { k with pc := k.pc + 4 }

/-- PUSH (R507). -/
def execPush (c : CoreNo) (i : AwlIn) (s : State) : Host.Outcome State Fault Refusal :=
  .next (s.runInstr c.val 0x19 i (formStack i) fun t => t.pushWord c.val i ((t.core c.val).reg (modOf i)) Core.next)

/-- POP: the loaded value is written last (log entry 48) (R507, R503). -/
def execPop (c : CoreNo) (i : AwlIn) (s : State) : Host.Outcome State Fault Refusal :=
  .next (s.runInstr c.val 0x1A i (formStack i) fun t => 
    match t.popWord c.val i with
    | .error e => .error e
    | .ok (v, u) => .ok (u.retire c.val (Core.setReg (modOf i) v)))

/-- The arithmetic fault of a division by zero (R509; 19 R534). -/
def divideByZero : Exc := { slot := 11, info := 1 }

/-- A division: the divisor is checked before REG changes (R509). -/
def State.divide (c : Nat) (i : AwlIn) (f : Word → Core → Core → Core) (s : State) : Except Exc State :=
  match s.operand c i false false with
  | .error e => .error e
  | .ok (v, t) => if v = 0 then .error divideByZero else .ok (t.retire c fun k => f v k (k.postInc i))

/-- DIVU (R509). -/
def execDivu (c : CoreNo) (i : AwlIn) (s : State) : Host.Outcome State Fault Refusal :=
  .next (s.runInstr c.val 0x1B i (formReg i) fun t => t.divide c.val i fun v o k =>
    (k.setReg (modOf i) (o.reg (modOf i) / v)).setZN (o.reg (modOf i) / v))

/-- DIVS (R509). -/
def execDivs (c : CoreNo) (i : AwlIn) (s : State) : Host.Outcome State Fault Refusal :=
  .next (s.runInstr c.val 0x1C i (formReg i) fun t => t.divide c.val i fun v o k =>
    let r := divS (o.reg (modOf i)) v
    ((k.setReg (modOf i) r.1).setZN r.1).setFlag stV r.2)

end Sys2Proof.Machine
end

