-- ==== Sys2Proof/Machine/AwlFlow.lean ====
section
/-! DEFINITION. Meanings of the branches, calls, exceptions' return and traps (18 R507, R514; 19 R540-R542). -/

namespace Sys2Proof.Machine

/-- The next PC is `v`: a target that is not a multiple of 4 is an alignment fault of kind fetch (R507; 19 R534). -/
def jumpErr (v : Word) : Option Exc := if v.toNat % 4 ≠ 0 then some { slot := 8, info := 2 } else none

/-- A taken jump. -/
def State.jump (c : Nat) (v : Word) (s : State) : Except Exc State :=
  match jumpErr v with
  | some e => .error e
  | none => .ok (s.updCore c fun k => { k with pc := v })

/-- Bcc with condition `cc` (R514). -/
def State.branch (c : Nat) (i : AwlIn) (cc : Nat) (s : State) : Except Exc State :=
  let k := s.core c
  if condHolds cc k.st then s.jump c (k.ea i) else .ok (s.retire c id)

/-- BRA (R514). -/
def execBra (c : CoreNo) (i : AwlIn) (s : State) : Host.Outcome State Fault Refusal :=
  .next (s.runInstr c.val 0x40 i (formBranch i) fun t => t.branch c.val i 0)

/-- BEQ (R514). -/
def execBeq (c : CoreNo) (i : AwlIn) (s : State) : Host.Outcome State Fault Refusal :=
  .next (s.runInstr c.val 0x41 i (formBranch i) fun t => t.branch c.val i 1)

/-- BNE (R514). -/
def execBne (c : CoreNo) (i : AwlIn) (s : State) : Host.Outcome State Fault Refusal :=
  .next (s.runInstr c.val 0x42 i (formBranch i) fun t => t.branch c.val i 2)

/-- BLT (R514). -/
def execBlt (c : CoreNo) (i : AwlIn) (s : State) : Host.Outcome State Fault Refusal :=
  .next (s.runInstr c.val 0x43 i (formBranch i) fun t => t.branch c.val i 3)

/-- BGE (R514). -/
def execBge (c : CoreNo) (i : AwlIn) (s : State) : Host.Outcome State Fault Refusal :=
  .next (s.runInstr c.val 0x44 i (formBranch i) fun t => t.branch c.val i 4)

/-- BGT (R514). -/
def execBgt (c : CoreNo) (i : AwlIn) (s : State) : Host.Outcome State Fault Refusal :=
  .next (s.runInstr c.val 0x45 i (formBranch i) fun t => t.branch c.val i 5)

/-- BLE (R514). -/
def execBle (c : CoreNo) (i : AwlIn) (s : State) : Host.Outcome State Fault Refusal :=
  .next (s.runInstr c.val 0x46 i (formBranch i) fun t => t.branch c.val i 6)

/-- BLO (R514). -/
def execBlo (c : CoreNo) (i : AwlIn) (s : State) : Host.Outcome State Fault Refusal :=
  .next (s.runInstr c.val 0x47 i (formBranch i) fun t => t.branch c.val i 7)

/-- BHS (R514). -/
def execBhs (c : CoreNo) (i : AwlIn) (s : State) : Host.Outcome State Fault Refusal :=
  .next (s.runInstr c.val 0x48 i (formBranch i) fun t => t.branch c.val i 8)

/-- BHI (R514). -/
def execBhi (c : CoreNo) (i : AwlIn) (s : State) : Host.Outcome State Fault Refusal :=
  .next (s.runInstr c.val 0x49 i (formBranch i) fun t => t.branch c.val i 9)

/-- BLS (R514). -/
def execBls (c : CoreNo) (i : AwlIn) (s : State) : Host.Outcome State Fault Refusal :=
  .next (s.runInstr c.val 0x4A i (formBranch i) fun t => t.branch c.val i 10)

/-- BMI (R514). -/
def execBmi (c : CoreNo) (i : AwlIn) (s : State) : Host.Outcome State Fault Refusal :=
  .next (s.runInstr c.val 0x4B i (formBranch i) fun t => t.branch c.val i 11)

/-- BPL (R514). -/
def execBpl (c : CoreNo) (i : AwlIn) (s : State) : Host.Outcome State Fault Refusal :=
  .next (s.runInstr c.val 0x4C i (formBranch i) fun t => t.branch c.val i 12)

/-- BVS (R514). -/
def execBvs (c : CoreNo) (i : AwlIn) (s : State) : Host.Outcome State Fault Refusal :=
  .next (s.runInstr c.val 0x4D i (formBranch i) fun t => t.branch c.val i 13)

/-- BVC (R514). -/
def execBvc (c : CoreNo) (i : AwlIn) (s : State) : Host.Outcome State Fault Refusal :=
  .next (s.runInstr c.val 0x4E i (formBranch i) fun t => t.branch c.val i 14)

/-- BSV (R514). -/
def execBsv (c : CoreNo) (i : AwlIn) (s : State) : Host.Outcome State Fault Refusal :=
  .next (s.runInstr c.val 0x4F i (formBranch i) fun t => t.branch c.val i 15)

/-- CALL (R507). -/
def execCall (c : CoreNo) (i : AwlIn) (s : State) : Host.Outcome State Fault Refusal :=
  .next (s.runInstr c.val 0x50 i (formBranch i) fun t => 
    let k := t.core c.val
    match jumpErr (k.ea i) with
    | some e => .error e
    | none => t.pushWord c.val i (k.pc + 4) fun x => { x with pc := k.ea i })

/-- RET (R507). -/
def execRet (c : CoreNo) (i : AwlIn) (s : State) : Host.Outcome State Fault Refusal :=
  .next (s.runInstr c.val 0x51 i (formNone i) fun t => 
    match t.popWord c.val i with
    | .error e => .error e
    | .ok (v, u) => u.jump c.val v)

/-- The privileged-return fault of a kind, with the PL held in the frame (19 R534). -/
def returnFault (kind pl : Nat) : Exc := { slot := 10, info := kind + 4 * pl }

/-- The MPU permits core `c` to read the 32 bytes at `a`. -/
def State.frameReadable (c : Nat) (lv : Level) (a : Nat) (s : State) : Bool :=
  (List.range 8).all fun j => (s.mpuRefuses c lv { addr := a + 4 * j, size := 4, kind := 0 }).isNone

/-- The eight words of the frame at `a`. -/
def State.readFrame (c : Nat) (lv : Level) (a : Nat) (i : AwlIn) (s : State) : List Word × State :=
  (List.range 8).foldl (fun (acc : List Word × State) j =>
    let r := acc.2.readArea c lv (a + 4 * j) 4 i
    (acc.1 ++ [BitVec.ofNat 32 (ofLe r.1)], r.2)) ([], s)

/-- What a passing RTE restores (19 R541): `save` is the save word of SP_M. -/
def Core.restore (ws : List Word) (l : Level) (save : Word) (k : Core) : Core :=
  let w (n : Nat) : Word := ws.getD n 0
  let slot := (w 0).toNat % 32
  let k1 := (k.setSp l (k.sp l + 32))
  let k2 := { k1 with
    st := w 2 &&& 0x3FFF, resv := none, pc := w 1, a := BitVec.ofNat 40 ((w 4).toNat % 256 * 2 ^ 32 + (w 3).toNat), x := w 5, y := w 6
    nmiSvc := if slot = 2 then false else k.nmiSvc
    dfault := if slot = 1 then false else k.dfault }
  if slot = 1 then { k2 with spM := save } else k2

/-- The checks of RTE at level `l` on a frame that has been read (19 R540), without the first. -/
def rteCheck (k : Core) (l : Level) (ws : List Word) : Option Exc :=
  let pl := (ws.getD 2 0).toNat / 4096 % 4
  if sealWord k (ws.take 7) (k.sp l).toNat ≠ ws.getD 7 0 then some (returnFault 2 pl)
  else if pl = 2 ∨ (l = .supervisor ∧ 1 < pl) then some (returnFault 3 pl)
  else none

/-- RTE above user level (19 R540, R541).  The PL of a frame that cannot be read is 0 in INFO (log entry 48). -/
def State.rte (c : Nat) (i : AwlIn) (s : State) : Except Exc State :=
  let k := s.core c
  let l := k.level
  let a := (k.sp l).toNat
  if !k.inWindow l a 32 || decide (a % 4 ≠ 0) || !s.frameReadable c l a then .error (returnFault 1 0)
  else match i.accessErr with
    | some ecc => .error (machineCheck ecc false)
    | none =>
      let (ws, t) := s.readFrame c l a i
      match rteCheck k l ws with
      | some e => .error e
      | none =>
        let save : Word := BitVec.ofNat 32 (ofLe (Bank.readBytes (Bank.get [] t.mem.dtcm c) 0x9FFF0 4))
        .ok (t.updCore c (Core.restore ws l save))

/-- RTE (19 R540-R542). -/
def execRte (c : CoreNo) (i : AwlIn) (s : State) : Host.Outcome State Fault Refusal :=
  .next (s.runInstr c.val 0x52 i (formNone i) fun t =>
    if (t.core c.val).level = .user then .error (privilege 0xFE) else t.rte c.val i)

/-- TRAP with its code (R507; 19 R532). -/
def execTrap (c : CoreNo) (i : AwlIn) (s : State) : Host.Outcome State Fault Refusal :=
  .next (s.runInstr c.val 0x53 i (amImm i && szW i && modZero i && decide (d16Of i < 256)) fun _ => .error { slot := 12, info := d16Of i })

end Sys2Proof.Machine
end

