-- ==== Sys2Proof/Machine/AwlMac.lean ====
section
/-! DEFINITION. Meanings of the fixed-point instructions (18 R510-R513). -/

namespace Sys2Proof.Machine

/-- MPY: A := c (R510, R511). -/
def execMpy (c : CoreNo) (i : AwlIn) (s : State) : Host.Outcome State Fault Refusal :=
  .next (s.runInstr c.val 0x20 i (formMac i) fun t => t.withOperand c.val i false false fun v o k =>
    k.writeA (productTerm (o.flag stFRAC) o.rnd (if modOf i = 0 then o.x else o.y) v))

/-- MAC: A := A + c (R510, R511). -/
def execMac (c : CoreNo) (i : AwlIn) (s : State) : Host.Outcome State Fault Refusal :=
  .next (s.runInstr c.val 0x21 i (formMac i) fun t => t.withOperand c.val i false false fun v o k =>
    k.writeA (o.a.toInt + productTerm (o.flag stFRAC) o.rnd (if modOf i = 0 then o.x else o.y) v))

/-- MSU: A := A - c (R510, R511). -/
def execMsu (c : CoreNo) (i : AwlIn) (s : State) : Host.Outcome State Fault Refusal :=
  .next (s.runInstr c.val 0x22 i (formMac i) fun t => t.withOperand c.val i false false fun v o k =>
    k.writeA (o.a.toInt - productTerm (o.flag stFRAC) o.rnd (if modOf i = 0 then o.x else o.y) v))

/-- ADDA (R511). -/
def execAdda (c : CoreNo) (i : AwlIn) (s : State) : Host.Outcome State Fault Refusal :=
  .next (s.runInstr c.val 0x23 i (formAcc i) fun t => t.withOperand c.val i false false fun v o k => k.writeA (o.a.toInt + v.toInt))

/-- SUBA (R511). -/
def execSuba (c : CoreNo) (i : AwlIn) (s : State) : Host.Outcome State Fault Refusal :=
  .next (s.runInstr c.val 0x24 i (formAcc i) fun t => t.withOperand c.val i false false fun v o k => k.writeA (o.a.toInt - v.toInt))

/-- RND: A rounded at bit D16[4:0] (R512). -/
def execRnd (c : CoreNo) (i : AwlIn) (s : State) : Host.Outcome State Fault Refusal :=
  .next (s.runInstr c.val 0x25 i (amImm i && formAcc i && decide (d16Of i < 32)) fun t => .ok (t.retire c.val fun k => k.writeA (k.roundA (d16Of i))))

/-- SATA: A saturated to 32 bits (R511). -/
def execSata (c : CoreNo) (i : AwlIn) (s : State) : Host.Outcome State Fault Refusal :=
  .next (s.runInstr c.val 0x26 i (formNone i) fun t => .ok (t.retire c.val fun k =>
    let r := clamp32 k.a
    ({ k with a := r.1 }.setZNA r.1).stick r.2))

/-- NRM: A normalised, REG := k; Z and N are those of A (log entry 48) (R513). -/
def execNrm (c : CoreNo) (i : AwlIn) (s : State) : Host.Outcome State Fault Refusal :=
  .next (s.runInstr c.val 0x27 i (amImm i && szNone i && decide (modOf i ≤ 1) && d16Zero i) fun t => .ok (t.retire c.val fun k =>
    let r := normalise k.a
    ({ k with a := r.2 }.setReg (modOf i) (BitVec.ofInt 32 r.1)).setZNA r.2))

/-- ABS (R511). -/
def execAbs (c : CoreNo) (i : AwlIn) (s : State) : Host.Outcome State Fault Refusal :=
  .next (s.runInstr c.val 0x28 i (formNone i) fun t => .ok (t.retire c.val fun k => k.writeA k.a.toInt.natAbs))

/-- NEG (R511). -/
def execNeg (c : CoreNo) (i : AwlIn) (s : State) : Host.Outcome State Fault Refusal :=
  .next (s.runInstr c.val 0x29 i (formNone i) fun t => .ok (t.retire c.val fun k => k.writeA (-k.a.toInt)))

/-- CLRA (R507). -/
def execClra (c : CoreNo) (i : AwlIn) (s : State) : Host.Outcome State Fault Refusal :=
  .next (s.runInstr c.val 0x2A i (formNone i) fun t => .ok (t.retire c.val fun k => { k with a := 0 }.setZNA 0))

/-- LDF: A := operand × 2^(32 - width) (R507). -/
def execLdf (c : CoreNo) (i : AwlIn) (s : State) : Host.Outcome State Fault Refusal :=
  .next (s.runInstr c.val 0x2B i (szBHW i && modZero i) fun t => t.withOperand c.val i false false fun v _ k =>
    let r : BitVec 40 := BitVec.ofInt 40 (v.toInt * 2 ^ (32 - 8 * sizeOf i))
    { k with a := r }.setZNA r)

/-- ASLA: A << operand[5:0] (R511). -/
def execAsla (c : CoreNo) (i : AwlIn) (s : State) : Host.Outcome State Fault Refusal :=
  .next (s.runInstr c.val 0x2C i (formAcc i) fun t => t.withOperand c.val i false false fun v o k =>
    k.writeA (o.a.toInt * 2 ^ (v.toNat % 64)))

/-- A shifted right by `n`, rounded (R512): a count above 40 acts as 40. -/
def Core.shiftA (n : Nat) (k : Core) : BitVec 40 :=
  if n = 0 then k.a else BitVec.ofInt 40 (roundAt k.rnd k.a.toInt (min n 40))

/-- ASRA: A >> operand[5:0], rounded (R512). -/
def execAsra (c : CoreNo) (i : AwlIn) (s : State) : Host.Outcome State Fault Refusal :=
  .next (s.runInstr c.val 0x2D i (formAcc i) fun t => t.withOperand c.val i false false fun v o k =>
    let r := o.shiftA (v.toNat % 64)
    { k with a := r }.setZNA r)

/-- MOVA: REG := A, saturated when SAT is set (R511). -/
def execMova (c : CoreNo) (i : AwlIn) (s : State) : Host.Outcome State Fault Refusal :=
  .next (s.runInstr c.val 0x2E i (amImm i && szNone i && regOk i && d16Zero i) fun t => .ok (t.retire c.val fun k =>
    ((k.setReg (modOf i) k.aWord.1).setZN k.aWord.1).stick k.aWord.2))

/-- CMPA: flags of A - operand in 40 bits (R507). -/
def execCmpa (c : CoreNo) (i : AwlIn) (s : State) : Host.Outcome State Fault Refusal :=
  .next (s.runInstr c.val 0x2F i (formAcc i) fun t => t.withOperand c.val i false false fun v o k =>
    let r := reduce40 false (o.a.toInt - v.toInt)
    (k.setZNA r.1).setFlag stV r.2)

end Sys2Proof.Machine
end

