-- ==== Sys2Proof/Machine/AwlSys.lean ====
section
/-! DEFINITION. Meanings of the atomics, barriers and system instructions (18 R515-R523), of the core's events (18 R517, R519;
19 R532, R543, R544), and of the MPUs' commands (19 R548-R552). -/

namespace Sys2Proof.Machine

/-! ### Atomics (18 R515-R518) -/

/-- A store of an atomic: after the buffered stores, straight to memory, ending other masters' reservations. -/
def State.atomicStore (c : Nat) (a : Nat) (v : Word) (s : State) : State :=
  let t := s.drainAll c
  match areaOf a 4 with
  | .dtcm => t.withMem (Mem.tcmWrite c a (leBytes 4 v.toNat))
  | _ => t.sramStore (some c) a (leBytes 4 v.toNat)

/-- TAS (18 R516). -/
def State.tas (c : Nat) (i : AwlIn) (s : State) : Except Exc State :=
  let k := s.core c
  let a := (k.ea i).toNat
  match s.loadEa c i 4 true with
  | .error e => .error e
  | .ok (bs, t) =>
    match t.dataCheck c k.level a 4 1 (decide (amOf i = 4)) true with
    | some e => .error e
    | none =>
      let v : Word := BitVec.ofNat 32 (ofLe bs)
      .ok ((t.atomicStore c a (v ||| 1)).retire c fun k =>
        ((k.postInc i).setReg (modOf i) v).setFlag stZ (!v.getLsbD 0))

/-- TAS (18 R516). -/
def execTas (c : CoreNo) (i : AwlIn) (s : State) : Host.Outcome State Fault Refusal :=
  .next (s.runInstr c.val 0x60 i (formAtomic i) fun t => t.tas c.val i)

/-- LDRS (18 R517): the load reserves the granule of EA. -/
def State.ldrs (c : Nat) (i : AwlIn) (s : State) : Except Exc State :=
  let a := ((s.core c).ea i).toNat
  match s.loadEa c i 4 true with
  | .error e => .error e
  | .ok (bs, t) =>
    let v : Word := BitVec.ofNat 32 (ofLe bs)
    .ok (t.retire c fun k => { (((k.postInc i).setReg (modOf i) v).setZN v) with resv := some (a / 64) })

/-- LDRS (18 R517). -/
def execLdrs (c : CoreNo) (i : AwlIn) (s : State) : Host.Outcome State Fault Refusal :=
  .next (s.runInstr c.val 0x61 i (formAtomic i) fun t => t.ldrs c.val i)

/-- STCD (18 R517): the store is made when the reservation holds; the reservation is lost in any case.  A store that is made is not
buffered, so an error that it meets is a machine check (19 R531; DEDUCED, log entry 48). -/
def State.stcd (c : Nat) (i : AwlIn) (s : State) : Except Exc State :=
  let k := s.core c
  let a := (k.ea i).toNat
  match s.dataCheck c k.level a 4 1 (decide (amOf i = 4)) true with
  | some e => .error e
  | none =>
    let holds := decide (k.resv = some (a / 64))
    match if holds then i.accessErr else none with
    | some ecc => .error (machineCheck ecc false)
    | none =>
    let t := if holds then s.atomicStore c a (k.reg (modOf i)) else s
    .ok (t.retire c fun k => { (k.postInc i).setFlag stZ holds with resv := none })

/-- STCD (18 R517). -/
def execStcd (c : CoreNo) (i : AwlIn) (s : State) : Host.Outcome State Fault Refusal :=
  .next (s.runInstr c.val 0x62 i (formAtomic i) fun t => t.stcd c.val i)

/-! ### Barriers and WAIT (18 R519, R520, R523; 19 R548) -/

/-- MBAR (18 R519; 19 R548): the buffer drains and the MPU settings written take effect. -/
def execMbar (c : CoreNo) (i : AwlIn) (s : State) : Host.Outcome State Fault Refusal :=
  .next (s.runInstr c.val 0x63 i (formNone i) fun t =>
    .ok ((t.drainAll c.val).retire c.val fun k => { k with rules := (t.mpu c.val).written }))

/-- IBAR (18 R520): fetch and the decoder see the instruction TCM and the decode-table RAM as they stand. -/
def execIbar (c : CoreNo) (i : AwlIn) (s : State) : Host.Outcome State Fault Refusal :=
  .next (s.runInstr c.val 0x64 i (formNone i) fun t => 
    .ok (t.retire c.val fun k => { k with decode := k.table, code := Bank.get [] t.mem.itcm c.val }))

/-- WAIT (18 R523, R517). -/
def execWait (c : CoreNo) (i : AwlIn) (s : State) : Host.Outcome State Fault Refusal :=
  .next (s.runInstr c.val 0x72 i (formNone i) fun t =>
    if (t.core c.val).level = .user then .error (privilege 0xFF)
    else .ok (t.retire c.val fun k => { k with waiting := true, resv := none }))

/-! ### System registers (18 R521, R522; 19) -/

/-- Who may read and write a system register. -/
inductive SysAcc where
  | none | read | write
  deriving DecidableEq, Repr

/-- The rights table of R521 for the levels user, supervisor, machine; none for an undefined number. -/
def sysRights (n : Nat) : Option (SysAcc × SysAcc × SysAcc) :=
  match n with
  | 0x00 => some (.write, .write, .write)
  | 0x01 | 0x02 => some (.none, .write, .write)
  | 0x03 => some (.none, .none, .write)
  | 0x04 | 0x05 | 0x06 => some (.read, .read, .read)
  | 0x08 | 0x09 => some (.none, .write, .write)
  | 0x0A | 0x0B => some (.none, .read, .write)
  | 0x0C | 0x0D => some (.none, .none, .write)
  | 0x10 => some (.none, .read, .write)
  | 0x11 => some (.none, .read, .read)
  | 0x12 | 0x13 => some (.none, .read, .write)
  | 0x14 => some (.none, .write, .write)
  | _ => none

/-- The right of a level. -/
def rightOf (r : SysAcc × SysAcc × SysAcc) : Level → SysAcc
  | .user => r.1
  | .supervisor => r.2.1
  | .machine => r.2.2

/-- The value of a system register of core `c`. -/
def sysValue (s : State) (c n : Nat) : Word :=
  let k := s.core c
  match n with
  | 0x00 => k.stWord
  | 0x01 => k.spU
  | 0x02 => k.spS
  | 0x03 => k.spM
  | 0x04 => BitVec.ofNat 32 (c + 0xB000)
  | 0x05 => k.cycle.setWidth 32
  | 0x06 => k.cycleHi
  | 0x08 => k.stkLoU
  | 0x09 => k.stkHiU
  | 0x0A => k.stkLoS
  | 0x0B => k.stkHiS
  | 0x0C => k.stkLoM
  | 0x0D => k.stkHiM
  | 0x10 => k.ien.setWidth 32
  | 0x11 => ipend s c
  | 0x12 => k.ilvlLo
  | 0x13 => k.ilvlHi
  | 0x14 => BitVec.ofNat 32 (bit k.oberr)
  | _ => 0

/-- What reading a system register does: a read of CYCLE_LO latches CYCLE_HI. -/
def Core.sysRead (n : Nat) (k : Core) : Core := if n = 5 then { k with cycleHi := (k.cycle >>> 32).setWidth 32 } else k

/-- MTS to ST: PL and RSV keep their values, reserved bits stay 0. -/
def Core.writeSt (v : Word) (k : Core) : Core := { k with st := (v &&& 0xFFF) ||| (k.st &&& 0x3000) }

/-- A write of a system register. -/
def Core.sysWrite (n : Nat) (v : Word) (k : Core) : Core :=
  let addr := v &&& 0xFFFFFFFC
  match n with
  | 0x00 => k.writeSt v
  | 0x01 => { k with spU := v }
  | 0x02 => { k with spS := v }
  | 0x03 => { k with spM := v }
  | 0x08 => { k with stkLoU := addr }
  | 0x09 => { k with stkHiU := addr }
  | 0x0A => { k with stkLoS := addr }
  | 0x0B => { k with stkHiS := addr }
  | 0x0C => { k with stkLoM := addr }
  | 0x0D => { k with stkHiM := addr }
  | 0x10 => { k with ien := v.setWidth 16 }
  | 0x12 => { k with ilvlLo := v &&& 0x77777777 }
  | 0x13 => { k with ilvlHi := v &&& 0x77777777 }
  | 0x14 => { k with oberr := k.oberr && !v.getLsbD 0 }
  | _ => k

/-- The form of MFS and MTS: a defined register number (R505, R521). -/
def formSys (i : AwlIn) : Bool := formRegImm i && (sysRights (d16Of i)).isSome

/-- MFS (18 R521). -/
def execMfs (c : CoreNo) (i : AwlIn) (s : State) : Host.Outcome State Fault Refusal :=
  let n := d16Of i
  .next (s.runInstr c.val 0x70 i (formSys i) fun t =>
    if (sysRights n).any fun r => decide (rightOf r (t.core c.val).level = .none) then .error (privilege n)
    else .ok (t.retire c.val fun k => (k.sysRead n).setReg (modOf i) (sysValue t c.val n)))

/-- A user-level MTS to ST that would change IPL (18 R521). -/
def iplChange (k : Core) (n : Nat) (v : Word) : Bool :=
  decide (n = 0 ∧ k.level = .user ∧ v.toNat / 512 % 8 ≠ k.ipl)

/-- MTS (18 R521). -/
def execMts (c : CoreNo) (i : AwlIn) (s : State) : Host.Outcome State Fault Refusal :=
  let n := d16Of i
  .next (s.runInstr c.val 0x71 i (formSys i) fun t =>
    let k := t.core c.val
    let v := k.reg (modOf i)
    if (sysRights n).any (fun r => decide (rightOf r k.level ≠ .write)) || iplChange k n v then .error (privilege n)
    else .ok (t.retire c.val (Core.sysWrite n v)))

/-! ### Events of a core -/

/-- An NMI is due: pending, and neither an NMI nor a double fault in service (19 R532, R544). -/
def Core.nmiDue (k : Core) : Bool := k.nmi && !k.nmiSvc && !k.dfault

/-- The core takes exceptions. -/
def Core.takes (k : Core) : Bool := !k.inReset && !k.halted

/-- NMI (19 R532, R544): taken at the boundary; the latch is set when its frame has been pushed. -/
def execNmi (c : CoreNo) (e : EntryEnv) (s : State) : Host.Outcome State Fault Refusal :=
  let k := s.core c.val
  .next (if k.takes && k.nmiDue then
    let t := (s.updCore c.val fun k => { k with nmi := false }).takeExc c.val { slot := 2 } k.pc none e
    t.updCore c.val fun x => if x.dfault || x.inReset then x else { x with nmiSvc := true }
  else s)

/-- INTERRUPT (19 R532, R543): the pending enabled line of highest level above IPL, unless an NMI is due. -/
def execInterrupt (c : CoreNo) (line : Fin 16) (e : EntryEnv) (s : State) : Host.Outcome State Fault Refusal :=
  let k := s.core c.val
  .next (if k.takes && !k.nmiDue && decide (bestLine s c.val = some line.val) then
    let lv := k.lineLevel line.val
    s.takeExc c.val { slot := 16 + line.val, info := line.val + 16 * lv } k.pc (some lv) e
  else s)

/-- RESERVATION_EXPIRY (18 R517): 1,024 CCLK since the LDRS. -/
def execReservationExpiry (c : CoreNo) (s : State) : Host.Outcome State Fault Refusal :=
  .next (s.updCore c.val fun k => { k with resv := none })

/-- WRITE_BUFFER_DRAIN (18 R519; 19 R531): the oldest store drains; one that meets a Stitch or ECC error asserts the source and
raises no machine check, and does not reach memory (log entry 48). -/
def execWriteBufferDrain (c : CoreNo) (err : Option Bool) (s : State) : Host.Outcome State Fault Refusal :=
  .next (if (s.core c.val).wb.isEmpty then s
  else match err with
    | none => s.drainOne c.val
    | some _ => (s.updCore c.val fun k => { k with wb := k.wb.drop 1 }).errAlarm c.val err)

/-- The reserved ranges of OP (18 R505). -/
def reservedOp (op : Nat) : Bool :=
  decide (0x1D ≤ op ∧ op ≤ 0x1F ∨ 0x30 ≤ op ∧ op ≤ 0x3F ∨ 0x54 ≤ op ∧ op ≤ 0x5F ∨ 0x65 ≤ op ∧ op ≤ 0x6F ∨ 0x73 ≤ op ∧ op ≤ 0x7F
    ∨ 0x80 ≤ op ∧ op ≤ 0xEF)

/-- RESERVED_OPCODE (18 R505). -/
def execReservedOpcode (c : CoreNo) (op : Byte) (i : AwlIn) (s : State) : Host.Outcome State Fault Refusal :=
  .next (if reservedOp op.toNat then s.runInstr c.val op.toNat i false fun t => .ok t else s)

end Sys2Proof.Machine
end

