-- ==== Sys2Proof/Machine/PayCmds.lean ====
section
/-! DEFINITION. The payment commands (04 R133-R135; 05 R176): commands 0x03. -/

namespace Sys2Proof.Machine

/-- Two ASCII characters as a 16-bit field, the first in the low byte. -/
def two (a b : Char) : Half := BitVec.ofNat 16 (a.toNat + 256 * b.toNat)
def one (a : Char) : Byte := BitVec.ofNat 8 a.toNat

/-- The usage bits of a key usage: both of the pair, the first of it, the second of it (R176). -/
def payUsage (u : Half) : Option (Word × Option (Word × Word)) :=
  if u = two 'B' '0' then some (0x4000, none)
  else if u = two 'D' '0' then some (0x3, some (0x1, 0x2))
  else if u = two 'K' '0' then some (0x30, some (0x10, 0x20))
  else if u = two 'K' '1' then some (0x40, none)
  else if u = two 'M' '6' then some (0xC, some (0x4, 0x8))
  else if u = two 'P' '0' then some (0x2000, none)
  else none

/-- The usage word of a key usage and mode of use; none where they have no mapping (R176; log entry 38). -/
def payUsageMode (u : Half) (m : Byte) : Option Word :=
  match payUsage u with
  | none => none
  | some (all, pair) =>
    if u = two 'B' '0' then (if m = one 'X' then some all else none)
    else if m = one 'B' ∨ m = one 'C' then some all
    else if m = one 'E' ∨ m = one 'G' then pair.map Prod.fst
    else if m = one 'D' ∨ m = one 'V' then pair.map Prod.snd
    else none

/-- Exportability of a header (R176). -/
def payExport (b : Byte) : Option Byte :=
  if b = one 'N' then some 0 else if b = one 'E' then some 1 else if b = one 'S' then some 2 else none

/-- The AES type of a key length. -/
def aesOfLen (n : Nat) : Byte := if n = 16 then 1 else if n = 24 then 2 else if n = 32 then 3 else 0

/-! ### Key blocks of version 'D' (ANSI X9.143; PRESUMED beyond R134 and R176, log entry 38) -/

/-- Fields of a key block's header: usage, algorithm, mode of use, key version, exportability. -/
def payUse (b : List Byte) : Half := BitVec.ofNat 16 (ofLe (sliceBytes b 5 2))
def payMode (b : List Byte) : Byte := b.getD 8 0
def payVersion (b : List Byte) : Half := BitVec.ofNat 16 (ofLe (sliceBytes b 9 2))

/-- A decimal number in characters, and a hexadecimal digit. -/
def decimal (l : List Byte) : Option Nat :=
  l.foldl (fun n c => n.bind fun n => if 0x30 ≤ c.toNat ∧ c.toNat ≤ 0x39 then some (10 * n + (c.toNat - 0x30)) else none) (some 0)
def hexDigit (c : Byte) : Option Nat :=
  let n := c.toNat
  if 0x30 ≤ n ∧ n ≤ 0x39 then some (n - 0x30) else if 0x41 ≤ n ∧ n ≤ 0x46 then some (n - 55)
  else if 0x61 ≤ n ∧ n ≤ 0x66 then some (n - 87) else none
def hexValue (l : List Byte) : Option Nat := l.foldl (fun n c => n.bind fun n => (hexDigit c).map (16 * n + ·)) (some 0)

/-- The characters of bytes, and back. -/
def hexOf (l : List Byte) : List Byte :=
  let digit (n : Nat) : Byte := BitVec.ofNat 8 (if n < 10 then 0x30 + n else 55 + n)
  l.flatMap fun b => [digit (b.toNat / 16), digit (b.toNat % 16)]
def unhex (l : List Byte) : Option (List Byte) :=
  if l.length % 2 = 0 then (hexValue l).map (beBytes (l.length / 2)) else none

/-- Where the optional blocks end, `n` of them from `pos`: an identifier of two characters and a length of two hexadecimal digits
each. -/
def optEnd (b : List Byte) : Nat → Nat → Option Nat
  | 0, pos => some pos
  | n + 1, pos =>
    match hexValue (sliceBytes b (pos + 2) 2) with
    | some k => if 4 ≤ k ∧ pos + k ≤ b.length then optEnd b n (pos + k) else none
    | none => none

/-- How many optional blocks stand in `b`, which they fill. -/
def optCount (b : List Byte) : Option Nat := (List.range 100).find? fun n => decide (optEnd b n 0 = some b.length)

/-- A key derived from a KBPK for a use: 0 encryption, 1 MAC. -/
def blockKey (kbpk : List Byte) (use : Nat) : List Byte :=
  let n := kbpk.length
  ((List.range ((n + 15) / 16)).flatMap fun i =>
    cmac kbpk ([BitVec.ofNat 8 (i + 1)] ++ beBytes 2 use ++ [0] ++ beBytes 2 (aesIndicator n) ++ beBytes 2 (8 * n))).take n

/-- The key in a block whose header and MAC agree under the KBPK. -/
def blockOpen (kbpk b : List Byte) : Option (List Byte) :=
  match decimal (sliceBytes b 12 2) with
  | none => none
  | some n =>
    match optEnd b n 16 with
    | none => none
    | some pos =>
      match unhex ((b.take (b.length - 32)).drop pos), unhex (b.drop (b.length - 32)) with
      | some c, some mac =>
        let p := (cbcDec (aesDec (keySchedule (blockKey kbpk 0))) mac c).1
        let k := ofBe (p.take 2) / 8
        if c ≠ [] ∧ c.length % 16 = 0 ∧ k + 2 ≤ p.length ∧ cmac (blockKey kbpk 1) (b.take pos ++ p) = mac then some (sliceBytes p 2 k)
        else none
      | _, _ => none

/-- The block of a key: the header with its optional blocks, the key behind its length and before random padding, the MAC. -/
def blockSeal (kbpk head key rnd : List Byte) : List Byte :=
  let p := (beBytes 2 (8 * key.length) ++ key ++ rnd).take (ceilTo 16 (2 + key.length))
  let mac := cmac (blockKey kbpk 1) (head ++ p)
  head ++ hexOf (cbcEnc (aes (blockKey kbpk 0)) mac p).1 ++ hexOf mac

/-- Decimal digits of a number. -/
def digits (n x : Nat) : List Byte := (List.range n).map fun i => BitVec.ofNat 8 (0x30 + x / 10 ^ (n - 1 - i) % 10)

/-- The clear header of an exported key (R176): the fields stored at import, unchanged. -/
def blockHead (a : Attr) (len : Nat) (opt : List Byte) (blocks : Nat) : List Byte :=
  ascii "D" ++ digits 4 len ++ leBytes 2 a.keyUsage.toNat ++ ascii "A" ++ [a.mode] ++ leBytes 2 a.keyVersion.toNat
    ++ (if a.exportability = 0 then ascii "N" else if a.exportability = 1 then ascii "E" else ascii "S") ++ digits 2 blocks ++ ascii "00" ++ opt

/-- The attributes that a key block's header gives a key of `n` bytes (R176). -/
def payAttr (b : List Byte) (n : Nat) (owner : Half) : Attr :=
  { type := aesOfLen n, count := 0, owner := owner, usage := (payUsageMode (payUse b) (payMode b)).getD 0, check := 0,
    exportability := (payExport (b.getD 11 0)).getD 0, mode := payMode b, keyUsage := payUse b, keyVersion := payVersion b,
    state := 0, salt := 0, generation := 0, matLen := 0, rsv := 0 }

/-! ### The commands -/

/-- The tenant that owns what a session imports (R176); an ADMIN session imports for tenant 0 (log entry 38). -/
def Call.tenant (c : Call) (s : State) : Half := (c.owner s).getD 0

/-- The header, checks and slots of PAY_BLOCK_IMPORT.  The header fields stand at bytes 0, 1, 5, 7, 8, 9 and 11 of the block. -/
def callPayBlockImport (h : CmdHdr) (kbpk len : Word) (block : List Byte) : Call :=
  let b := padTo len.toNat block
  { hdr := h, instr := .payBlockImport h kbpk len block, opc := 0x0301, who := .tenant, inRecovery := false
    bodyLen := ceilTo 8 (8 + len.toNat), slots := [handleSlot kbpk]
    checks := [
      (!decide (b.getD 0 0 = one 'D'), invalidAt 72),
      (!decide (decimal (sliceBytes b 1 4) = some len.toNat), invalidAt 73),
      ((payUsage (payUse b)).isNone, invalidAt 77),
      (!decide (b.getD 7 0 = one 'A'), invalidAt 79),
      ((payUsageMode (payUse b) (payMode b)).isNone, invalidAt 80),
      (!asciiHalf (payVersion b), invalidAt 81),
      ((payExport (b.getD 11 0)).isNone, invalidAt 83)] }

/-- PAY_BLOCK_IMPORT (R134; 05 R176). -/
def bodyPayBlockImport (kbpk len : Word) (block : List Byte) (c : Call) (u : State) : State :=
  match u.keys.wrapKey kbpk (c.owner u) uKBPK with
  | .error e => c.refuse e u
  | .ok w =>
    let b := padTo len.toNat block
    match blockOpen w.material b with
    | none => c.fail (Status.authFail, 0) u
    | some key =>
      let a := payAttr b key.length (c.tenant u)
      if a.type = 0 then c.fail (invalidAt 79) u
      else match c.tooBig (newKeyLen a) with
        | some e => c.fail e u
        | none => c.createKey 72 a key [] u

/-- PAY_BLOCK_IMPORT, run in a mode. -/
def cmdPayBlockImport (mode : Mode) (h : CmdHdr) (kbpk len : Word) (block : List Byte) (s : State) : State :=
  (callPayBlockImport h kbpk len block).run mode (bodyPayBlockImport kbpk len block) s

/-- PAY_BLOCK_IMPORT (R134). -/
def execPayBlockImport (h : CmdHdr) (kbpk len : Word) (block : List Byte) (s : State) : Host.Outcome State Fault Refusal :=
  .next (cmdPayBlockImport .new h kbpk len block s)

/-- The characters of a key block of a key of `n` bytes with `o` bytes of optional blocks: header 16, the encrypted length and
key padded to 16 bytes, and a 16-byte MAC, both in hexadecimal (ANSI X9.143; log entry 38). -/
def payBlockLen (n o : Nat) : Nat := 16 + o + 2 * ceilTo 16 (2 + n) + 32

/-- The header, checks and slots of PAY_BLOCK_EXPORT. -/
def callPayBlockExport (h : CmdHdr) (handle kbpk : Word) (optLen : Half) (rsv : BitVec 48) (opt : List Byte) : Call :=
  { hdr := h, instr := .payBlockExport h handle kbpk optLen rsv opt, opc := 0x0302, who := .tenant, inStart := false
    inRecovery := false, bodyLen := ceilTo 8 (16 + optLen.toNat), slots := [handleSlot handle, handleSlot kbpk]
    checks := [(!decide (rsv = 0), formatAt 74)] }

/-- PAY_BLOCK_EXPORT (R134; 05 R161, R176): a key whose stored header fields have no mapping, its version among them, has no block.  The
random padding's source is not stated: free bytes (log entry 4). -/
def bodyPayBlockExport (handle kbpk : Word) (optLen : Half) (opt : List Byte) (c : Call) (u : State) : State :=
  match u.keys.lookup handle (c.owner u) none with
  | .error e => c.refuse e u
  | .ok r =>
    match u.keys.wrapKey kbpk (c.owner u) uKBPK with
    | .error e => c.refuse e u
    | .ok w =>
      if !exportAllowed r.attr.exportability (w.attr.usage.getLsbD uTRUSTED) then c.fail (Status.keyUsage, handle) u
      else if !isAes r.attr.type || (payUsageMode r.attr.keyUsage r.attr.mode).isNone || decide (r.attr.keyVersion = 0) then
        c.fail (invalidAt 64) u
      else
        let o := padTo optLen.toNat opt
        match optCount o with
        | none => c.fail (invalidAt 80) u
        | some blocks =>
          let n := payBlockLen r.material.length optLen.toNat
          match c.tooBig (8 + n) with
          | some e => c.fail e u
          | none => u.draw 16 (fun rnd v =>
              c.ok (leBytes 4 n ++ [0, 0, 0, 0] ++ blockSeal w.material (blockHead r.attr n o blocks) r.material rnd) v)

/-- PAY_BLOCK_EXPORT, run in a mode. -/
def cmdPayBlockExport (mode : Mode) (h : CmdHdr) (handle kbpk : Word) (optLen : Half) (rsv : BitVec 48) (opt : List Byte)
    (s : State) : State :=
  (callPayBlockExport h handle kbpk optLen rsv opt).run mode (bodyPayBlockExport handle kbpk optLen opt) s

/-- PAY_BLOCK_EXPORT (R134). -/
def execPayBlockExport (h : CmdHdr) (handle kbpk : Word) (optLen : Half) (rsv : BitVec 48) (opt : List Byte) (s : State) :
    Host.Outcome State Fault Refusal :=
  .next (cmdPayBlockExport .new h handle kbpk optLen rsv opt s)

/-- The PIN key of a mode, or the base derivation key (R135). -/
def pinKey (k : Keys) (mode : Byte) (handle : Word) (owner : Option Half) : Except KeyErr KeyRun :=
  k.wrapKey handle owner (if mode = 0 then uPIN else uDUKPT)

/-- The header, checks and slots of PAY_PIN_TRANSLATE.  A KSN that must be zero and is not gives INPUT_INVALID at its field (DESIGN
CHOICE, log entry 103). -/
def callPayPinTranslate (h : CmdHdr) (inH outH : Word) (inMode outMode : Byte) (rsv : BitVec 48) (inKsn outKsn : BitVec 96)
    (pan pin : BitVec 128) : Call :=
  { hdr := h, instr := .payPinTranslate h inH outH inMode outMode rsv inKsn outKsn pan pin, opc := 0x0303
    who := .tenant, inStart := false, inRecovery := false, bodyLen := 72, need := 16
    slots := [handleSlot inH, handleSlot outH]
    checks := [
      (!decide (inMode.toNat ≤ 1), invalidAt 72),
      (!decide (outMode.toNat ≤ 1), invalidAt 73),
      (!decide (rsv = 0), formatAt 74),
      (decide (inMode = 0) && !decide (inKsn = 0), invalidAt 80),
      (decide (outMode = 0) && !decide (outKsn = 0), invalidAt 92)] }

/-- The key of a mode on core `n`: the handle's, or the DUKPT working key for PIN encryption, of the base key's length (R135; log entry
116). -/
def State.pinWorking (n : Nat) (mode : Byte) (k : KeyRun) (ksn : BitVec 96) (s : State) : Option KeyRun × State :=
  if mode = 0 then (some k, s)
  else
    let l := k.material.length
    let p := s.fwDukpt n k (leBytes 12 ksn.toNat) 0x0002 (aesIndicator l) l
    (p.1.map fun m => { k with material := m }, p.2)

/-- Two blocks through the cluster with the PAN field between them: a format 4 PIN block deciphered or enciphered (ISO 9564-1). -/
def State.pinBlock (n : Nat) (enc : Bool) (k : KeyRun) (pan block : List Byte) (s : State) : Option (List Byte) × State :=
  let p := s.fwBlock n enc k block
  match p.1 with
  | none => p
  | some a => p.2.fwBlock n enc k (xorB a pan)

/-- The PIN field of format 4 with its random fill renewed, where its control field is 4 and its length 4 to 12 (R135). -/
def pinRefill (field rnd : List Byte) : Option (List Byte) :=
  let b := (field.headD 0).toNat
  if b / 16 = 4 ∧ 4 ≤ b % 16 ∧ b % 16 ≤ 12 then some (field.take 8 ++ padTo 8 rnd) else none

/-- The whole translation on core `n` (R135, 07 R257): the working keys, the PIN field, and its encipherment. -/
def State.pinIn (n : Nat) (inMode : Byte) (a : KeyRun) (inKsn : BitVec 96) (pan pin : BitVec 128) (s : State) :
    Option (List Byte) × State :=
  let p := s.pinWorking n inMode a inKsn
  match p.1 with
  | none => (none, p.2)
  | some k => p.2.pinBlock n false k (leBytes 16 pan.toNat) (leBytes 16 pin.toNat)
def State.pinOut (n : Nat) (outMode : Byte) (b : KeyRun) (outKsn : BitVec 96) (pan : BitVec 128) (field : List Byte) (s : State) :
    Option (List Byte) × State :=
  let p := s.pinWorking n outMode b outKsn
  match p.1 with
  | none => (none, p.2)
  | some k => p.2.pinBlock n true k (leBytes 16 pan.toNat) field

/-- PAY_PIN_TRANSLATE (R135; 07 R257): a core whose check fails is quarantined, and the command starts again on another. -/
def bodyPayPinTranslate (inH outH : Word) (inMode outMode : Byte) (inKsn outKsn : BitVec 96) (pan pin : BitVec 128) (c : Call)
    (u : State) : State :=
  match pinKey u.keys inMode inH (c.owner u) with
  | .error e => c.refuse e u
  | .ok a =>
    match pinKey u.keys outMode outH (c.owner u) with
    | .error e => c.refuse e u
    | .ok b => c.withCluster (fun n w =>
      let p := w.pinIn n inMode a inKsn pan pin
      match p.1 with
      | none => c.wait .cipher [] p.2
      | some field =>
        if (pinRefill field []).isNone then c.fail (invalidAt 0x78) p.2
        else c.withRandom (c.core w) true 8 (fun rnd v =>
          let q := v.pinOut n outMode b outKsn pan ((pinRefill field rnd).getD [])
          match q.1 with
          | none => c.wait .cipher [] q.2
          | some out => c.ok out q.2) p.2) u

/-- PAY_PIN_TRANSLATE, run in a mode. -/
def cmdPayPinTranslate (mode : Mode) (h : CmdHdr) (inH outH : Word) (inMode outMode : Byte) (rsv : BitVec 48)
    (inKsn outKsn : BitVec 96) (pan pin : BitVec 128) (s : State) : State :=
  (callPayPinTranslate h inH outH inMode outMode rsv inKsn outKsn pan pin).run mode
    (bodyPayPinTranslate inH outH inMode outMode inKsn outKsn pan pin) s

/-- PAY_PIN_TRANSLATE (R135). -/
def execPayPinTranslate (h : CmdHdr) (inH outH : Word) (inMode outMode : Byte) (rsv : BitVec 48) (inKsn outKsn : BitVec 96)
    (pan pin : BitVec 128) (s : State) : Host.Outcome State Fault Refusal :=
  .next (cmdPayPinTranslate .new h inH outH inMode outMode rsv inKsn outKsn pan pin s)

end Sys2Proof.Machine
end

