-- ==== Sys2Proof/Machine/Resume.lean ====
section
/-! DEFINITION. How waiting commands go on (04 R112, R117-R119), the idle block, and the rows that end a wait: timeouts,
zeroised runs, acknowledgements, conditioned blocks, tag memory, live update and shutdown. -/

namespace Sys2Proof.Machine

/-! ### Running a command again -/

/-- The command of a waiting entry, run in a mode. -/
def runCommand (mode : Mode) (i : Instr) : State → State :=
  match i with
  | .sessionOpen h role rsv tenant seq sigLen sig => cmdSessionOpen mode h role rsv tenant seq sigLen sig
  | .sessionClose h => cmdSessionClose mode h
  | .quorumBegin h purpose window rsv digest => cmdQuorumBegin mode h purpose window rsv digest
  | .quorumPresent h qid source index rsv file cred => cmdQuorumPresent mode h qid source index rsv file cred
  | .quorumEnd h qid rsv => cmdQuorumEnd mode h qid rsv
  | .keyGenerate h t => cmdKeyGenerate mode h t
  | .keyImport h wrap format rsv t wrappedLen rsv2 wrapped => cmdKeyImport mode h wrap format rsv t wrappedLen rsv2 wrapped
  | .keyExport h handle wrap format rsv => cmdKeyExport mode h handle wrap format rsv
  | .keyUnload h handle rsv => cmdKeyUnload mode h handle rsv
  | .keyDerive h base func rsv ctxLen t ctx => cmdKeyDerive mode h base func rsv ctxLen t ctx
  | .keyDestroy h handle rsv keyId => cmdKeyDestroy mode h handle rsv keyId
  | .keyAttest h handle alg rsv nonce => cmdKeyAttest mode h handle alg rsv nonce
  | .keyInfo h handle rsv => cmdKeyInfo mode h handle rsv
  | .payBlockImport h kbpk len block => cmdPayBlockImport mode h kbpk len block
  | .payBlockExport h handle kbpk optLen rsv opt => cmdPayBlockExport mode h handle kbpk optLen rsv opt
  | .payPinTranslate h inH outH inMode outMode rsv inKsn outKsn pan pin => cmdPayPinTranslate mode h inH outH inMode outMode rsv inKsn outKsn pan pin
  | .sign h handle input rsv len rsv2 data => cmdSign mode h handle input rsv len rsv2 data
  | .verify h handle input rsv len sigLen data sig => cmdVerify mode h handle input rsv len sigLen data sig
  | .seal h handle aadLen rsv dataLen rsv2 aad data => cmdSeal mode h handle aadLen rsv dataLen rsv2 aad data
  | .unseal h handle aadLen rsv sealedLen rsv2 aad sealed => cmdUnseal mode h handle aadLen rsv sealedLen rsv2 aad sealed
  | .agree h handle peerLen t peer => cmdAgree mode h handle peerLen t peer
  | .encaps h handle rsv t => cmdEncaps mode h handle rsv t
  | .decaps h handle ctLen t ct => cmdDecaps mode h handle ctLen t ct
  | .ringCreate h ring fn vector tenant size flags desc cmpl shd => cmdRingCreate mode h ring fn vector tenant size flags desc cmpl shd
  | .ringDestroy h ring rsv => cmdRingDestroy mode h ring rsv
  | .ringWindow h fn win rsv base limit => cmdRingWindow mode h fn win rsv base limit
  | .ringStatus h ring rsv => cmdRingStatus mode h ring rsv
  | .portConfig h port rsv recLen r => cmdPortConfig mode h port rsv recLen r
  | .portStatus h port rsv => cmdPortStatus mode h port rsv
  | .volumeBind h port rsv volume keyId handle rsv2 => cmdVolumeBind mode h port rsv volume keyId handle rsv2
  | .portHold h port rsv => cmdPortHold mode h port rsv
  | .portRelease h port rsv => cmdPortRelease mode h port rsv
  | .alarmTableSet h qid rsv table => cmdAlarmTableSet mode h qid rsv table
  | .alarmTableGet h => cmdAlarmTableGet mode h
  | .logExport h first max => cmdLogExport mode h first max
  | .logRelease h seq rsv => cmdLogRelease mode h seq rsv
  | .logStatus h => cmdLogStatus mode h
  | .randomGet h len rsv => cmdRandomGet mode h len rsv
  | .rngStatus h => cmdRngStatus mode h
  | .rngAuditEnter h qid rsv => cmdRngAuditEnter mode h qid rsv
  | .rngAuditExit h => cmdRngAuditExit mode h
  | .cardStatus h kind index rsv => cmdCardStatus mode h kind index rsv
  | .cardRead h port rsv first count rsv2 io => cmdCardRead mode h port rsv first count rsv2 io
  | .cardWrite h port rsv first count rsv2 data io => cmdCardWrite mode h port rsv first count rsv2 data io
  | .iccApdu h slot rsv len apdu io => cmdIccApdu mode h slot rsv len apdu io
  | .badgePoll h io => cmdBadgePoll mode h io
  | .tagPost h page count rsv data => cmdTagPost mode h page count rsv data
  | .tagReadNotes h first count rsv => cmdTagReadNotes mode h first count rsv
  | .tagSetAuditKey h len rsv blob => cmdTagSetAuditKey mode h len rsv blob
  | .keyLoad h slot rsv blobLen blob => cmdKeyLoad mode h slot rsv blobLen blob
  | .domainJoin h qid mLen dLen rsv m d => cmdDomainJoin mode h qid mLen dLen rsv m d
  | .epochFloor h device rsv floor sigLen rsv2 sig => cmdEpochFloor mode h device rsv floor sigLen rsv2 sig
  | .pairBind h qid partner rsv => cmdPairBind mode h qid partner rsv
  | .pairStatus h => cmdPairStatus mode h
  | .pairHandover h dir rsv => cmdPairHandover mode h dir rsv
  | .deviceInfo h => cmdDeviceInfo mode h
  | .attestGet h alg rsv mask nonce => cmdAttestGet mode h alg rsv mask nonce
  | .measRead h index rsv => cmdMeasRead mode h index rsv
  | .extLoad h qid len p => cmdExtLoad mode h qid len p
  | .extUnload h moduleId rsv => cmdExtUnload mode h moduleId rsv
  | .fwStage h addr len rsv => cmdFwStage mode h addr len rsv
  | .floorRaise h qid which value rsv => cmdFloorRaise mode h qid which value rsv
  | .phaseAdvance h target rsv => cmdPhaseAdvance mode h target rsv
  | .shelfDown h shadows => cmdShelfDown mode h shadows
  | .sensorRead h index rsv => cmdSensorRead mode h index rsv
  | .eventRead h first max => cmdEventRead mode h first max
  | .mgtConfig h map addr rsv chainLen chain => cmdMgtConfig mode h map addr rsv chainLen chain
  | _ => id

/-- The opcodes of the catalogue (R129-R145). -/
def definedOpcodes : List Half :=
  [0x0101, 0x0102, 0x0103, 0x0104, 0x0105, 0x0201, 0x0202, 0x0203, 0x0205, 0x0206, 0x0207, 0x0208,
  0x0209, 0x0301, 0x0302, 0x0303, 0x0401, 0x0402, 0x0403, 0x0404, 0x0405, 0x0406, 0x0407, 0x0501,
  0x0502, 0x0503, 0x0504, 0x0601, 0x0602, 0x0603, 0x0604, 0x0605, 0x0701, 0x0702, 0x0703, 0x0704,
  0x0705, 0x0801, 0x0802, 0x0803, 0x0804, 0x0901, 0x0902, 0x0903, 0x0904, 0x0905, 0x0906, 0x0907,
  0x0908, 0x0204, 0x0A01, 0x0A02, 0x0A03, 0x0A04, 0x0A05, 0x0B01, 0x0B02, 0x0B03, 0x0B04, 0x0B05,
  0x0B06, 0x0B07, 0x0B08, 0x0B09, 0x0C01, 0x0C02, 0x0C03]

/-! ### When a waiting command goes on -/

/-- No record with this sequence waits for its acknowledgement: acknowledged, or the pair no longer mirrors (16 R465, R466). -/
def State.acked (s : State) (seq : Word) : Bool := !s.welt.waiting.any fun m => decide (m.seq = seq)

/-- The first FRESH request, in order of arrival, that a class K block can serve (12 R375). -/
def State.freshHead (s : State) : Option RngClaim :=
  s.rng.freshQueue.find? fun q =>
    match q with
    | .chan c => (s.rng.chan c).waiting.any fun w => s.rng.freshServes w.inst
    | .pke n => decide ((s.engine n).state = 1) && s.rng.freshServes (5 + n)
    | .cmd f tag => s.fw.waiting.any fun w =>
        decide (w.hdr.fn.val = f ∧ w.hdr.tag = tag) &&
          (match w.why with | .rng i true => s.rng.freshServes i | _ => false)

/-- The claim of a waiting command on class K blocks. -/
def Waiting.claim (w : Waiting) : RngClaim := .cmd w.hdr.fn.val w.hdr.tag

/-- An earlier command of the same non-zero session, or one that names the same slot (R119). -/
def Waiting.blockedBy (w v : Waiting) : Bool :=
  (!decide (w.hdr.session = 0) && decide (v.hdr.session = w.hdr.session)) || v.slots.any fun n => w.slots.contains n

/-- The tag pages that a waiting command needs (14 R430). -/
def Waiting.pages (w : Waiting) : List Nat :=
  match w.cmd with
  | .tagPost _ page _ _ _ => [page.toNat]
  | .tagReadNotes _ first count _ => (List.range count.toNat).map fun i => first.toNat + i
  | _ => []

/-- What the command waits for has come.  PAIR_BIND, FW_STAGE and SHELF_DOWN go on by their own rows only. -/
def State.canGo (s : State) (earlier : List Waiting) (w : Waiting) : Bool :=
  match w.why with
  | .order => !earlier.any w.blockedBy
  | .rng i fresh =>
    if fresh then s.rng.freshServes i && decide (s.rng.buffer ≠ []) && decide (s.freshHead = some w.claim) else s.rng.serves i
  | .cipher => decide (s.cipherOn = 0) || s.fwCore.isSome
  | .run n ack => ((Bank.get none s.keys.runs n).all fun r => !r.marked) && ack.all s.acked
  | .engine => s.engineFree.isSome || !s.engineOn
  | .lease n => (s.keys.present n).all fun r => s.welt.leaseOk n r
  | .card kind index => !s.cardBusy kind index
  | .drain r ack => decide ((s.rings.get r).state = 0) && ack.all s.acked
  | .tag => !w.pages.any s.pageHeld
  | .ack seq => s.acked seq
  | .bind | .stage | .shelf => false

/-- The first entry of `l` that can go on, with its index, after the entries `earlier`. -/
def State.firstReady (s : State) (earlier : List Waiting) : List Waiting → Option (Nat × Waiting)
  | [] => none
  | w :: t => if s.canGo earlier w then some (earlier.length, w) else s.firstReady (earlier ++ [w]) t

/-- The end of a PAIR_HANDOVER that the partner has acknowledged (16 R474); one that fencing has ended gives NOT_READY. -/
def State.endHandover (w : Waiting) (s : State) : State :=
  match s.welt.handover with
  | some back =>
    let t := s.withWelt fun x => { x with handover := none }
    (if back then t.takenBack else t).respondAs w.hdr w.opc Status.ok 0 w.hdr.session []
  | none => s.respondAs w.hdr w.opc Status.notReady 0 w.hdr.session []

/-- The answer of a command whose effect was complete before its wait. -/
def State.endAnswer (w : Waiting) (s : State) : State :=
  match w.cmd with
  | .pairHandover .. => s.endHandover w
  | .ringWindow _ fn win _ base limit => (s.respondAs w.hdr w.opc Status.ok 0 w.hdr.session w.data).endWindow fn win base limit
  | _ => s.respondAs w.hdr w.opc Status.ok 0 w.hdr.session w.data

/-- The command goes on after its wait. -/
def Waiting.goOn (w : Waiting) (s : State) : State :=
  match w.why with
  | .order => runCommand .queued w.cmd s
  | .run _ _ | .drain _ _ | .ack _ => s.endAnswer w
  | .bind | .stage | .shelf => s
  | _ => runCommand .resumed w.cmd s

/-- Entry `i` of the queue leaves it, and answers nothing where it is silent (R80). -/
def Fw.takeOut (i : Nat) (w : Waiting) (f : Fw) : Fw := { f with waiting := f.waiting.eraseIdx i, mute := w.silent, ticketed := w.ticketed }

/-- Entry `i` of the queue goes on; if it waits again it keeps its place. -/
def State.resume (i : Nat) (w : Waiting) (s : State) : State :=
  let n := s.fw.waiting.length - 1
  let s1 := (s.withFw (Fw.takeOut i w)).withRng fun r =>
    if r.freshQueue.contains w.claim then { r with freshQueue := w.claim :: r.freshQueue.filter fun q => decide (q ≠ w.claim) } else r
  (w.goOn s1).withFw fun f =>
    { f with mute := false, ticketed := false, waiting := f.waiting.take i ++ f.waiting.drop n ++ (f.waiting.take n).drop i }

/-- Let up to `k` waiting commands go on, the earliest that can first. -/
def State.settleN : Nat → State → State
  | 0, s => s
  | k + 1, s =>
    match s.firstReady [] s.fw.waiting with
    | none => s
    | some (i, w) => (s.resume i w).settleN k

/-- Let every waiting command that can go on do so. -/
def State.settle (s : State) : State := s.settleN (4 * s.fw.waiting.length)

/-- A waiting command ends with a status, and with the time it has taken. -/
def State.endWait (i : Nat) (w : Waiting) (st : Half) (detail elapsed : Word) (s : State) : State :=
  let s1 := (s.withFw (Fw.takeOut i w)).withRng fun r => { r with freshQueue := r.freshQueue.filter fun q => decide (q ≠ w.claim) }
  (s1.respondAs { w.hdr with elapsed := elapsed } w.opc st detail w.hdr.session []).withFw fun f => { f with mute := false, ticketed := false }

/-- The first waiting command with a property, with its index. -/
def Fw.findWait (p : Waiting → Bool) (f : Fw) : Option (Nat × Waiting) :=
  (f.waiting.findIdx? p).bind fun i => (f.waiting[i]?).map fun w => (i, w)

/-! ### Timeouts (R116, R117) -/

/-- How an expired command ends: ENTROPY with the instance while it waits for fresh class K seed, TIMEOUT otherwise. -/
def Waiting.expiry (w : Waiting) (r : Rng) (elapsed : Word) : Half × Word :=
  match w.why with
  | .rng i fresh =>
    if r.ready && !r.audit && (r.inst i).seeded && (fresh || decide (2 ^ 20 ≤ (r.inst i).count)) then
      (Status.entropy, BitVec.ofNat 32 i)
    else (Status.timeout, elapsed)
  | _ => (Status.timeout, elapsed)

/-- COMMAND_TIMEOUT (R117; 17 R495): SHELF_DOWN has its own rows. -/
def execCommandTimeout (f : Fin 64) (tag elapsed : Word) (s : State) : Host.Outcome State Fault Refusal :=
  .next (match s.fw.findWait fun w => decide (w.hdr.fn = f ∧ w.hdr.tag = tag) with
    | none => s
    | some (i, w) =>
      if w.why = .shelf then s
      else
        let e := w.expiry s.rng elapsed
        let s1 := if w.why = .stage then s.withCob fun c => { c with staged := none } else s
        let s2 := match w.cmd with | .pairHandover .. => s1.withWelt fun x => { x with handover := none } | _ => s1
        (s2.endWait i w e.1 e.2 elapsed).settle)

/-- UNDEFINED_OPCODE (R114 checks 1 to 10). -/
def execUndefinedOpcode (h : CmdHdr) (opcode : Half) (s : State) : Host.Outcome State Fault Refusal :=
  .next (if !s.takes h.fn.val || definedOpcodes.contains opcode then s
  else match refusalCode s h with
    | some code => (s.earlyRead (decide (code = 0x03)) h.early).refusal h code
    | none =>
      match headErr s h with
      | some e => s.respondAs h opcode e.1 e.2 h.session []
      | none => s.respondAs h opcode Status.badOpcode 0 h.session [])

/-! ### Waits that end -/

/-- RUN_ZEROISE (05 R177): the last reference of an unloaded run has gone; the run is free. -/
def execRunZeroise (slot : Fin 32768) (s : State) : Host.Outcome State Fault Refusal :=
  .next (match Bank.get none s.keys.runs slot.val with
    | none => s
    | some r => if r.marked && decide (r.refs = 0) then (s.withKeys (Keys.free · slot.val)).settle else s)

/-- ACK (16 R465): the partner's acknowledgement of a record. -/
def execAck (fr : WeltRx) (s : State) : Host.Outcome State Fault Refusal :=
  .next (s.weltTake 0x25 fr fun p t => (t.ackRecord (BitVec.ofNat 32 (ofLe (p.take 4)))).settle)

/-- A give that the partner did not acknowledge is undone: the rings go on from what has not completed (16 R483). -/
def State.keepRings (s : State) : State :=
  (s.withRings fun rs => { rs with
    ring := rs.ring.map fun p => (p.1, p.2.resumed none) }).pairChange
      fun t => (t.withWelt fun w => { w with state := .degraded, waiting := [] }).withSole (Sole.allActive true)

/-- WELT_HEARTBEAT_TIMEOUT (16 R468, R483): a PAIR_HANDOVER under way gives NOT_READY. -/
def execWeltHeartbeatTimeout (tie : Bool) (scan : List (Fin 16384 × List Bool)) (s : State) : Host.Outcome State Fault Refusal :=
  .next (if tie then s else match s.welt.handover, s.fw.findWait (fun w => match w.cmd, w.why with | .pairHandover .., .ack _ => true | _, _ => false) with
    | some back, some (i, w) =>
      let s1 := (s.withWelt fun x => { x with handover := none, waiting := [] }).endWait i w Status.notReady 0 w.hdr.elapsed
      (if back then s1 else s1.keepRings).settle
    | _, _ => (s.heartbeatLost scan).settle)

/-- FIELD_HOLD_END (14 R430): the page is free, and the host access that waits goes ahead. -/
def State.holdEnd (s : State) : State := ((s.withListen fun l => { l with held := none }).tagProceed).settle

/-- FIELD_HOLD_END (14 R430). -/
def execFieldHoldEnd (s : State) : Host.Outcome State Fault Refusal := .next s.holdEnd

/-- FIELD_LOST (14 R421): session keys and RndB are zeroised, the port is idle, and no frame holds a page. -/
def execFieldLost (s : State) : Host.Outcome State Fault Refusal :=
  .next (if s.listen.field then
    (s.withListen fun l => { l.endSession with field := false, susp := false, answer := [], fieldStaging := [] }).holdEnd
  else s)

/-- TAG_HOST_WAIT_EXPIRY (14 R430; R144): the host access that waits ends with BUSY, detail 4, unless the field hold ends in the
same cycle (`tie`; 14 R434, 01 R26). -/
def execTagHostWaitExpiry (tie : Bool) (s : State) : Host.Outcome State Fault Refusal :=
  .next (if tie then s
  else if s.ins.hostWait.isSome then s.tagBusy
  else match s.fw.findWait fun w => decide (w.why = .tag) with
    | some (i, w) => (s.endWait i w Status.busy 4 w.hdr.elapsed).settle
    | none => s)

/-! ### Conditioned blocks (12 R362, R369, R375) -/

/-- Serve FRESH requests of channels from the seed buffer while one stands first. -/
def State.serveChans : Nat → State → State
  | 0, s => s
  | k + 1, s =>
    match s.freshHead with
    | some (.chan c) =>
      (match (s.rng.chan c).waiting with
      | some q =>
        if s.rng.buffer = [] then s
        else ((s.rngServe c q).withRng fun r =>
          { r with freshQueue := r.freshQueue.filter fun x => decide (x ≠ .chan c) }).serveChans k
      | none => s)
    | _ => s

/-- Every request and command that the buffer and the instances can serve. -/
def State.serveAll (s : State) : State := ((((s.serveChans 8).settle).serveChans 8).rngServeWaiting.reseedDue 8).settle

/-- A class K block: to a masking reseed that is due while class M is unavailable, else to the seed buffer of 8 blocks, from
which FRESH requests are served in order of arrival. -/
def State.blockK (block : List Byte) (s : State) : State :=
  let s1 := s.withRng fun r => { r with kBlocks := r.kBlocks + 1 }
  match (if s.rng.mAvail then none else s.rng.dueGen) with
  | some c => s1.withRng fun r => r.updGen c fun _ => MaskGen.ofSeed true block
  | none => (s1.withRng fun r => { r with buffer := (r.buffer ++ [block]).take 8 }).serveAll

/-- CONDITIONED_BLOCK (12 R362, R363, R367, R369, R375, R376, R378): none before the start-up tests have ended, in audit mode, or
while the class is unavailable; with `tie`, a source of the class fails in the cycle in which the block would complete, and the
block is discarded.  A class M block goes to a masking generator that is due. -/
def execConditionedBlock (classM tie : Bool) (s : State) : Host.Outcome State Fault Refusal :=
  .next (if !s.rng.tested || s.rng.audit then s
  else if tie then s.withRng fun r => r.dropInput classM
  else if classM then
    (if s.rng.mAvail then
      match s.rng.dueGen with
      | some c => s.condition true fun b t => t.withRng fun r => r.updGen c fun _ => MaskGen.ofSeed false b
      | none => s
    else s)
  else if s.rng.kAvail then s.condition false State.blockK
  else s)

/-! ### Completions and aborts of rings (06 R209-R214) -/

/-- COMPLETION_WRITE (06 R209-R211): the entries of a ring that are writable, in descriptor order. -/
def execCompletionWrite (ring : Fin 16384) (s : State) : Host.Outcome State Fault Refusal :=
  let c := (s.rings.get ring.val).c
  let t := s.completeAll ring.val
  .next (if (t.rings.get ring.val).c = c then t.settle else (t.mirrorCounts ring.val).settle)

/-- RING_ABORT_ALL (06 R214, R217): machine and supervisor level. -/
def execRingAbortAll (level : Level) (s : State) : Host.Outcome State Fault Refusal :=
  .next (if level ≠ .user then s.abortAllRings.settle else s)

/-! ### Shutdown (02 R67; 06 R214) -/

/-- The SHELF_DOWN that waits. -/
def Fw.shelf (f : Fw) : Option (Nat × Waiting) := f.findWait fun w => decide (w.why = .shelf)

/-- SHELF_DOWN_TIMEOUT (06 R214): every open job completes with ABORTED; descriptors not fetched are not waited for. -/
def execShelfDownTimeout (s : State) : Host.Outcome State Fault Refusal :=
  .next (match s.fw.shelf with
    | none => s
    | some (i, w) =>
      ((s.withFw fun f => { f with waiting := f.waiting.set i { w with data := [1] } }).abortAllRings).settle)

/-- Every ring has completed what it fetched, and fetched everything unless the timeout has expired. -/
def Rings.drained (rs : Rings) (expired : Bool) : Bool :=
  rs.ring.all fun p => decide (p.2.c = p.2.f) && decide (p.2.issued = 0) &&
    (expired || !decide (p.2.state = 1 ∨ p.2.state = 4) || decide (p.2.f = p.2.p))

/-- A job without its context entry and its staged bytes. -/
def Job.wiped (j : Job) : Job :=
  { j with ctx := none, ctxStart := none, input := [], tag := [], out := [], heldOut := [], buf := 0 }

/-- Step 7 of R67: key store, custody SRAM and staging, TCMs, context memory and operand memories; STATE is DOWN. -/
def State.shelfZero (s : State) : State :=
  let s1 := s.withKeys fun k => { k with runs := [] }
  let s2 := s1.withMem fun m => { m with sram := [], itcm := [], dtcm := [] }
  let s3 := s2.withRings fun rs => { rs with jobs := rs.jobs.map fun p => (p.1, p.2.map Job.wiped) }
  let s4 := s3.withPke fun b => (List.range 4).foldl
    (fun b i => Bank.upd {} i (fun (e : PkeEngine) => { e with mem := [], input := [], scratch := {} }) b) b
  s4.withBoot fun b => { b with state := .down }

/-- The body of the SHELF_DOWN response: the log export from the oldest entry held with its signature, then the event log, as far as
the capacity allows (R67 step 4). -/
def shelfBody (s : State) (cap : Nat) (body sig : List Byte) : List Byte :=
  let first : Word := match s.cob.events with | e :: _ => e.seq | [] => s.cob.evtNext
  let x := body ++ sig
  x ++ eventBody s.cob first (min 4096 ((cap - 40 - x.length) / 24))

/-- The idle engine that firmware can sign with, its instance serving (10 R322). -/
def State.signer (s : State) : Option Nat := s.engineFree.filter fun n => s.rng.serves (5 + n)

/-- Firmware on core `c` signs with the ECDSA attestation key on engine `n`: the signature, or zeros where the engine refuses. -/
def State.shelfSign (n c : Nat) (signed : List Byte) (s : State) : State × List Byte :=
  let t := s.fwEngine n c { op := 0x11, set := 1, key := s.keys.handleOf 4, input := p384.eBytes (sha384 signed) }
  (t, if (t.engine n).result = Status.ok then t.fwOutput n else [])

/-- SHELF_DOWN_COMPLETE (R67 steps 3 to 7): the export is signed on an engine, for which the command waits; the shutdown record is
committed before the response is written and STATE is DOWN; with no slot free it is only counted, and the shutdown is not announced
(R70).  While no engine is enabled the export goes without a signature (DESIGN CHOICE, log entry 123). -/
def execShelfDownComplete (elapsed : Word) (s : State) : Host.Outcome State Fault Refusal :=
  .next (match s.fw.shelf with
    | none => s
    | some (i, w) =>
      if !s.rings.drained (decide (w.data ≠ [])) || (s.engineOn && s.signer.isNone) then s
      else
        let (es, head, signed) := exportBody s s.log.first 2048 (w.hdr.respCap.toNat - 168)
        let (t, sig) := match s.signer with
          | some n => s.shelfSign n (s.mbx.route w.hdr.fn.val).core.toNat signed
          | none => (s, [])
        let body := shelfBody t w.hdr.respCap.toNat head (padTo 96 sig)
        let last : Word := match es.getLast? with | some e => e.seq | none => t.log.next - 1
        let r := (t.log.exported es).shutdown t.insole.rtc t.boot.epoch
        let t1 := (t.withLog fun _ => r.1).withBoot fun b => { b with shutdownRecord := r.2 }
        let t2 := (t1.withFw (Fw.takeOut i w)).respondAs { w.hdr with elapsed := elapsed } w.opc Status.ok last w.hdr.session body
        (t2.withFw fun f => { f with mute := false, ticketed := false }).shelfZero)

/-! ### Live firmware update (17 R494, R495) -/

/-- The FW_STAGE that waits, with the declared length of its image. -/
def Fw.staging (f : Fw) : Option (Nat × Waiting × Nat) :=
  (f.findWait fun w => decide (w.why = .stage)).bind fun p =>
    match p.2.cmd with
    | .fwStage _ _ len _ => some (p.1, p.2, len.toNat)
    | _ => none

/-- FW_STAGE_VERIFY_DONE (17 R494): the checks of 02 R55. -/
def execFwStageVerifyDone (img : Image) (elapsed : Word) (s : State) : Host.Outcome State Fault Refusal :=
  .next (match s.fw.staging with
    | none => s
    | some (i, w, len) =>
      if s.cob.staged.isSome then s
      else
        let s1 := s.earlyImage img
        match imageCheck s.pins len s.pins.fwFloor s.pins.cobFloor img with
        | some (code, _) =>
          let e := stageStatus code img.data.length
          (s1.endWait i w e.1 e.2 elapsed).settle
        | none => s1.withCob fun c => { c with staged := some img })

/-- The cores start again from the new image's tightly coupled memories: the custody cores that can run, then the Cobbler. -/
def State.updateCores (img : Image) (s : State) : State :=
  let segs := img.segs.filter fun g => decide (g.target ≠ 2)
  let s1 := s.withMem fun m => segs.foldl (fun m g => m.place g) m
  let s2 := (List.range 4).foldl (fun t c =>
    if t.coreUsable c then (t.withMbx (Mbx.releaseLocks (BitVec.ofNat 7 (65 + c)))).releaseCore c false else t) s1
  (s2.withCob fun c => { c with spdm := {}, eid := 0, pldm := [] }).releaseCore 4 false

/-- QUIET_POINT (17 R495, R496): no core holds a command but the FW_STAGE itself, and no core restart is under way. -/
def execQuietPoint (elapsed : Word) (s : State) : Host.Outcome State Fault Refusal :=
  .next (match s.cob.staged, s.fw.staging with
    | some img, some (i, w, _) =>
      if decide (s.fw.waiting.length ≠ 1) || (List.range 4).any (fun c => s.coreUsable c && (s.core c).inReset) then s
      else
        let s1 := (s.updateCores img).withDig fun d =>
          img.segs.foldl (fun d x => d.extend 2 2 x.digest)
            (d.extend 1 3 (sha384 img.manifest))
        let s2 := s1.withBoot fun b => { b with fwVer := img.fwVer, cobVer := img.cobVer }
        let s3 := s2.withCob fun c => { c with staged := none, image := some img }
        s3.endWait i w Status.ok 0 elapsed
    | _, _ => s)

/-! ### Notices (R112; 03 R94) -/

/-- EVT_NOTICE_POST (R112; 03 R94): firmware posts the next notice of a function while FULL is 0, then rings doorbell bit 0; a
refused notice is counted and not posted again. -/
def execEvtNoticePost (f : Fin 64) (s : State) : Host.Outcome State Fault Refusal :=
  let k := 64 + f.val
  .next (match Bank.get [] s.fw.notices f.val with
    | [] => s
    | n :: rest =>
      if (s.mbx.get k).full || !(decide (s.boot.state = .running) || decide (s.boot.state = .down)) then s
      else
        let up := receiverUp s (.evt f)
        let s1 := (s.withFw fun x => { x with notices := Bank.set [] f.val rest x.notices }).updBox k fun b =>
          (b.writeLo (n.setWidth 32)).writeHi up ((n >>> 32).setWidth 32)
        if up then s1.updBox k fun b => { b with dbell := b.dbell ||| 1 }
        else s1.withMbx fun m => m.updPage f.val fun p => { p with evtLost := satAdd p.evtLost 1 })

/-! ### The idle block (log entry 2) -/

/-- Time passes by a free amount: the Cobbler's clock, the RTC and the ages of the witnesses advance (17 R492, 14 R414,
16 R484), and a free number of transfers fail a Stitch check that their retry clears (13 R388; log entry 135). -/
def State.timePasses (s : State) : State :=
  let us := Config.freeNat s.freeCount
  let ticks := Config.freeNat (s.freeCount + 1)
  let s1 := { s with freeCount := s.freeCount + 2 }
  let s2 := s1.withInsole fun i => { i with rtc := satAdd i.rtc ticks }
  if s.boot.inReset then s2
  else
    let retries := Config.freeNat (s.freeCount + 2)
    let s3 := { s2 with freeCount := s.freeCount + 3 }
    ((s3.withAlarm fun a => { a with stitch := satAdd a.stitch retries }).withCob fun c =>
      { c with clockUs := c.clockUs + us }).withWelt fun w =>
      { w with phbAge := satAdd w.phbAge us, whbAge := satAdd w.whbAge us }

/-- What an idle block does: time passes, raw samples arrive, ready work is dealt, and waiting commands go on. -/
def State.idle (s : State) : State :=
  let t := s.timePasses
  if t.boot.inReset then t else t.rawFill.absorb.dealAll.digDeal.serveAll

end Sys2Proof.Machine
end

