-- ==== Sys2Proof/Machine/Link.lean ====
section
/-! DEFINITION. The PCI Express endpoint's commands (03 R71-R84, R93, R95; 06 R212): function-level resets, power states,
configuration writes, refused accesses, MSI-X masks and IDE keys. -/

namespace Sys2Proof.Machine

def State.pcieFn (s : State) (f : Nat) : PcieFn := Bank.get {} s.pcie.fns f
def State.updFn (f : Nat) (g : PcieFn → PcieFn) (s : State) : State :=
  s.withPcie fun p => { p with fns := Bank.upd {} f g p.fns }

/-- A ring of this device's function `f`: one carried for the partner belongs to a function of the partner. -/
def Ring.ofFn (f : Nat) (g : Ring) : Bool := decide (g.fn.toNat = f ∧ g.state ≠ 0 ∧ g.state ≠ 4)

/-- Steps 1 to 3 of R212 on every ring of the function: fetching stops, the jobs vanish.  A ring that drains goes on draining
(06 R213). -/
def State.flrRings (f : Nat) (s : State) : State :=
  let ks := (s.rings.list.map Prod.fst).filter fun k => (s.rings.get (jobRing k)).ofFn f
  (ks.foldl (fun t k => t.abandonJob k) s).withRings fun rs => Rings.endAbort { rs with
    ring := rs.ring.map fun p =>
      (p.1, if p.2.ofFn f then { p.2 with issued := 0, fetchErr := false, state := if p.2.state = 3 then 3 else 2 } else p.2)
    abortReads := rs.abortReads.filter fun r => !(rs.get r).ofFn f
    irqDue := rs.irqDue.filter fun v => decide (v / 32 ≠ f) }

/-- The sessions of a function end, with their quorum, and its commands go on without an answer (04 R123; R80). -/
def Fw.resetFn (f : Nat) (x : Fw) : Fw :=
  let own := (x.open.filter fun p => decide (p.2.fn.toNat = f)).map Prod.fst
  let y := own.foldl (fun y i => y.endSession i) x
  { y with waiting := y.waiting.map fun w => if w.hdr.fn.val = f then { w with silent := true } else w }

/-- A function-level reset of one function (R79, R80; 06 R212; 04 R123). -/
def State.flr (s : State) (f : Nat) : State :=
  let s1 := (s.withMbx (Mbx.resetFn f)).updFn f fun p => { p with flr := true, mask := 0xFFFFFFFF, pend := 0 }
  (s1.flrRings f).withFw (Fw.resetFn f)

/-- Function-level reset of every function. -/
def State.flrAll (s : State) : State := (List.range 64).foldl State.flr s

/-- FUNCTION_LEVEL_RESET (R78): that of the PF clears VF Enable, which resets every VF. -/
def execFunctionLevelReset (f : Fin 64) (s : State) : Host.Outcome State Fault Refusal :=
  .next (if f.val = 0 then (s.flrAll.withPcie fun p => { p with vfEnable := false }).dealAll.settle else (s.flr f.val).dealAll.settle)

/-- HOT_RESET (R78): a hot reset, or link down from L0. -/
def execHotReset (s : State) : Host.Outcome State Fault Refusal :=
  .next (((s.flrAll.withPcie fun p => { p with vfEnable := false }).withPins fun p => { p with linkL0 := false }).dealAll.settle)

/-- FLR_COMPLETE (06 R212 step 4): P, F and C are 0 and the rings are STOPPED; a draining ring becomes free. -/
def execFlrComplete (f : Fin 64) (s : State) : Host.Outcome State Fault Refusal :=
  .next (if (s.pcieFn f.val).flr then
    let rs := (s.rings.ring.filter fun p => p.2.ofFn f.val).map Prod.fst
    let s1 := s.updFn f.val fun p => { p with flr := false }
    (rs.foldl (fun (t : State) r =>
      (t.withRings fun x => (x.updRing r fun g => { g with p := 0, f := 0, c := 0, reread := 0 }).freeIfDrained r).mirrorCounts r) s1).settle
  else s)

/-- D0_TO_D3HOT (R93). -/
def execD0ToD3hot (f : Fin 64) (s : State) : Host.Outcome State Fault Refusal :=
  .next (s.updFn f.val fun p => { p with d3hot := true })

/-- D3HOT_TO_D0 (R78): no reset of any kind. -/
def execD3hotToD0 (f : Fin 64) (s : State) : Host.Outcome State Fault Refusal :=
  .next (s.updFn f.val fun p => { p with d3hot := false })

/-- MEMORY_SPACE_ENABLE_WRITE (R93). -/
def execMemorySpaceEnableWrite (f : Fin 64) (v : Bool) (s : State) : Host.Outcome State Fault Refusal :=
  .next (s.updFn f.val fun p => { p with memEnable := v })

/-- NumVFs takes a value up to 63 (R73). -/
def Pcie.setNumVfs (v : Nat) (p : Pcie) : Pcie := if v ≤ 63 then { p with numVfs := BitVec.ofNat 6 v } else p

/-- NUMVFS_WRITE (R73): a value above 63 is ignored. -/
def execNumVfsWrite (v : Half) (s : State) : Host.Outcome State Fault Refusal :=
  .next (s.withPcie (Pcie.setNumVfs v.toNat))

/-- POISONED_WRITE (R76): dropped, and recorded in AER. -/
def execPoisonedWrite (_f : Fin 64) (s : State) : Host.Outcome State Fault Refusal :=
  .next (s.withPcie fun p => { p with aerPoisoned := p.aerPoisoned + 1 })

/-! ### Host accesses (01 R35-R37; R81-R84) -/

/-- The size of a BAR (R81). -/
def barSize : HostSpace → Nat
  | .bar0 => 0x10000
  | .bar2 => 0x20000
  | .bar4 => 0x2000
  | .config => 0x1000

/-- The accesses that R83 accepts. -/
def hostAccepted (x : HostAccess) : Bool :=
  match x.space with
  | .bar0 =>
    decide (x.size = 4 ∧ x.offset % 4 = 0)
      || (decide (x.size = 8 ∧ (x.offset = 0x1000 ∨ x.offset = 0x1020)) && x.data.isSome)
  | .bar2 => decide (x.size = 8 ∧ x.offset % 8 = 0) && x.data.isSome
  | .bar4 => decide ((x.size = 4 ∨ x.size = 8) ∧ x.offset % x.size = 0)
  | .config => decide (x.size = 4 ∧ x.offset % 4 = 0)

/-- What BAR0 of function `f` reads at a word (01 R35, R36): the loader page in the PF, the mailboxes, the status page, and 0. -/
def State.bar0Read (f : Fin 64) (a : Nat) (s : State) : Word × State :=
  let who : Fin 70 := Fin.ofNat 70 (f.val + 1)
  if a < 0x1000 then ((if f.val = 0 then (ldrRegs s).lookup a else none).getD 0, s)
  else if a < 0x1020 then
    (if a = 0x1018 then readBy (execMbxLockRead (.cmd f) who s) s else ((mbxWord s (.cmd f) (a - 0x1000)).getD 0, s))
  else if a < 0x1040 then
    (if a = 0x1038 then readBy (execMbxLockRead (.evt f) who s) s
    else if a = 0x1024 then readBy (execMbxMsgHiRead (.evt f) .receiver s) s
    else ((mbxWord s (.evt f) (a - 0x1020)).getD 0, s))
  else if 0x2000 ≤ a ∧ a < 0x3000 then ((pageWord s f.val (a - 0x2000)).getD 0, s)
  else (0, s)

/-- Clear a vector's mask: a pending message is sent (R95). -/
def State.msixUnmask (f v : Nat) (s : State) : State :=
  let s1 := s.updFn f fun p => { p with mask := setBit p.mask v false, pend := setBit p.pend v false }
  if (s.pcieFn f).pend.getLsbD v then s1.msiSend f v else s1

/-- A word of the MSI-X structures of BAR4 (01 R35; Base 5.0): address, data and mask of an entry; the pending bits. -/
def PcieFn.msixWord (a : Nat) (p : PcieFn) : Word :=
  if a < 0x200 then
    let v := a / 16
    match a % 16 / 4 with
    | 0 => loW (Bank.get 0 p.msixAddr v).toNat
    | 1 => hiW (Bank.get 0 p.msixAddr v).toNat
    | 2 => Bank.get 0 p.msixData v
    | _ => BitVec.ofNat 32 (bit (p.mask.getLsbD v))
  else if a = 0x1000 then p.pend
  else 0

/-- A write of a word of the MSI-X table. -/
def State.msixWrite (f a : Nat) (v : Word) (s : State) : State :=
  if 0x200 ≤ a then s
  else
    let n := a / 16
    match a % 16 / 4 with
    | 0 => s.updFn f fun p => { p with msixAddr := Bank.upd 0 n (setLo · (alignW 2 v)) p.msixAddr }
    | 1 => s.updFn f fun p => { p with msixAddr := Bank.upd 0 n (setHi · v) p.msixAddr }
    | 2 => s.updFn f fun p => { p with msixData := Bank.set 0 n v p.msixData }
    | _ => if v.getLsbD 0 then s.updFn f fun p => { p with mask := setBit p.mask n true } else s.msixUnmask f n

/-- A BAR register pair holds its address above its size; the low four bits read as those of a 64-bit, non-prefetchable memory
BAR (R81). -/
def Bars.word (a : Nat) (b : Bars) : Word :=
  match a with
  | 0 => loW (b.bar0.toNat + 4)
  | 1 => hiW b.bar0.toNat
  | 2 => loW (b.bar2.toNat + 4)
  | 3 => hiW b.bar2.toNat
  | 4 => loW (b.bar4.toNat + 4)
  | 5 => hiW b.bar4.toNat
  | _ => 0

/-- A write of word `a` of the BARs. -/
def Bars.write (a : Nat) (v : Word) (b : Bars) : Bars :=
  match a with
  | 0 => { b with bar0 := setLo b.bar0 (alignW 16 v) }
  | 1 => { b with bar0 := setHi b.bar0 v }
  | 2 => { b with bar2 := setLo b.bar2 (alignW 17 v) }
  | 3 => { b with bar2 := setHi b.bar2 v }
  | 4 => { b with bar4 := setLo b.bar4 (alignW 13 v) }
  | 5 => { b with bar4 := setHi b.bar4 v }
  | _ => b

/-- The Device Serial Number (02 R584, R60; R71). -/
def Boot.serial (b : Boot) : Nat := if b.pufOk then ofLe (b.id.take 8) else 0

/-- The VFs that SR-IOV reports as TotalVFs and InitialVFs (R71). -/
def totalVfs : Nat := 63

/-- A word of a function's configuration space (R71-R73, R81; log entry 91 places the capabilities): Device ID, class code, the
BARs, the Device Serial Number, TotalVFs with InitialVFs, VF Enable, NumVFs and the VF BARs. -/
def State.configWord (f a : Nat) (s : State) : Word :=
  if a = 0x00 then pack [(if f = 0 then 0x7840 else 0x7841, 16)]
  else if a = 0x08 then 0x10800000
  else if 0x10 ≤ a ∧ a < 0x28 then (if f = 0 then (s.pcieFn f).bars.word ((a - 0x10) / 4) else 0)
  else if a = Config.serialCap + 4 then loW s.boot.serial
  else if a = Config.serialCap + 8 then hiW s.boot.serial
  else if f ≠ 0 then 0
  else if a = Config.sriovCap + 0x08 then pack [(bit s.pcie.vfEnable, 0)]
  else if a = Config.sriovCap + 0x0C then pack [(totalVfs, 0), (totalVfs, 16)]
  else if a = Config.sriovCap + 0x10 then pack [(s.pcie.numVfs.toNat, 0)]
  else if a = Config.sriovCap + 0x18 then pack [(0x7841, 16)]
  else if Config.sriovCap + 0x24 ≤ a ∧ a < Config.sriovCap + 0x3C then s.pcie.vfBars.word ((a - Config.sriovCap - 0x24) / 4)
  else 0

/-- A write of VF Enable: clearing it resets every VF (R78). -/
def State.writeVfEnable (v : Bool) (s : State) : State :=
  let t := if s.pcie.vfEnable && !v then (((List.range 63).foldl (fun t i => t.flr (i + 1)) s).dealAll).settle else s
  t.withPcie fun p => { p with vfEnable := v }

/-- A configuration write: the BARs of the PF, and in the SR-IOV capability VF Enable, NumVFs and the VF BARs. -/
def State.configWrite (f a : Nat) (v : Word) (s : State) : State :=
  if f ≠ 0 then s
  else if 0x10 ≤ a ∧ a < 0x28 then s.updFn f fun p => { p with bars := p.bars.write ((a - 0x10) / 4) v }
  else if a = Config.sriovCap + 0x08 then s.writeVfEnable (v.getLsbD 0)
  else if a = Config.sriovCap + 0x10 then s.withPcie (Pcie.setNumVfs (v.toNat % 65536))
  else if Config.sriovCap + 0x24 ≤ a ∧ a < Config.sriovCap + 0x3C then
    s.withPcie fun p => { p with vfBars := p.vfBars.write ((a - Config.sriovCap - 0x24) / 4) v }
  else s

/-- The function and BAR that a host address reaches: those of the PF, and VF `n`'s `n - 1` sizes above the VF BAR (R81). -/
def State.barHit (a : Nat) (s : State) : Option (Nat × HostSpace × Nat) :=
  (List.range 64).findSome? fun f =>
    let b := if f = 0 then (s.pcieFn 0).bars else s.pcie.vfBars
    let on := (s.pcieFn f).memEnable && (decide (f = 0) || (s.pcie.vfEnable && decide (f ≤ s.pcie.numVfs.toNat)))
    let base (sp : HostSpace) := (match sp with | .bar0 => b.bar0 | .bar2 => b.bar2 | _ => b.bar4).toNat + (f - 1) * barSize sp
    [HostSpace.bar0, .bar2, .bar4].findSome? fun sp =>
      if on && decide (base sp ≤ a ∧ a < base sp + barSize sp) then some (f, sp, a - base sp) else none

/-- A write that R83 accepts. -/
def State.hostStore (f : Fin 64) (x : HostAccess) (v : Long) (s : State) : State :=
  let lo : Word := loW v.toNat
  let hi : Word := hiW v.toNat
  match x.space with
  | .bar0 =>
    let t := s.hostRegWrite f x.offset lo
    if x.size = 8 then t.hostRegWrite f (x.offset + 4) hi else t
  | .bar2 => nextOr s (execDoorbellWrite f (Fin.ofNat 16384 (x.offset / 8)) v s)
  | .bar4 =>
    let t := s.msixWrite f.val x.offset lo
    if x.size = 8 then t.msixWrite f.val (x.offset + 4) hi else t
  | .config => s.configWrite f.val x.offset lo

/-- A read that R83 accepts, with the high word of an 8-byte one. -/
def State.hostLoad (f : Fin 64) (x : HostAccess) (s : State) : State :=
  match x.space with
  | .bar0 => let r := s.bar0Read f x.offset; (r.2.setRead r.1).withOut fun o => { o with readHigh := 0 }
  | .bar2 => (s.setRead 0).withOut fun o => { o with readHigh := 0 }
  | .bar4 =>
    let p := s.pcieFn f.val
    (s.setRead (p.msixWord x.offset)).withOut fun o =>
      { o with readHigh := if x.size = 8 then p.msixWord (x.offset + 4) else 0 }
  | .config => (s.setRead (s.configWord f.val x.offset)).withOut fun o => { o with readHigh := 0 }

/-- An access that R83 does not accept: a write is dropped, a read returns zeros, and it is counted. -/
def State.badAccess (f : Fin 64) (write : Bool) (s : State) : State :=
  let s1 := s.withMbx fun m => m.updPage f.val fun p => { p with badAcc := satAdd p.badAcc 1 }
  if write then s1 else (s1.setRead 0).withOut fun o => { o with readHigh := 0 }

/-- BAR_BAD_ACCESS (R83; log entry 92): a host access of any size, alignment and place; one that R83 does not accept is dropped
or reads as zero, and is counted; an accepted one has its own effect.  Offsets beyond a BAR's size reach nothing (R81). -/
def execBarBadAccess (f : Fin 64) (x : HostAccess) (s : State) : Host.Outcome State Fault Refusal :=
  .next (if barSize x.space ≤ x.offset then s
  else if !hostAccepted x then s.badAccess f x.data.isSome
  else match x.data with
    | some v => s.hostStore f x v
    | none => s.hostLoad f x)

/-- MSIX_VECTOR_UNMASK (R95): a pending message is sent. -/
def execMsixVectorUnmask (f : Fin 64) (vector : Fin 32) (s : State) : Host.Outcome State Fault Refusal :=
  .next (s.msixUnmask f.val vector.val)

/-- IDE_KM_KEY_PROG (R77; 05 R158): inside a finished SPDM session on the PF's DOE mailbox; slot 10 + 6s + 2u + d takes the
key.  DESIGN CHOICE (log entry 93): the spec gives the key no identifier; the model installs 0. -/
def execIdeKmKeyProg (stream : Fin 9) (sub : Fin 3) (dir : Fin 2) (key : List Byte) (s : State) : Host.Outcome State Fault Refusal :=
  .next (if s.cob.spdm.session.any fun x => x.doe && x.finished then
    s.withKeys fun k => k.install (10 + 6 * stream.val + 2 * sub.val + dir.val) (reservedAttr 3) (padTo 32 key) 0
  else s)

end Sys2Proof.Machine
end

