-- ==== Sys2Proof/Machine/UserDecode.lean ====
section
/-! DEFINITION. User opcodes 0xF0-0xFF: the run of a microprogram with everything staged until END (20 R556-R562). -/

namespace Sys2Proof.Machine

/-- What a user instruction stages: A, writes of X and Y, flags, temporaries, stores, and the counts of R560. -/
structure Stage where
  a : BitVec 40
  x : Option Word := none
  y : Option Word := none
  st : Word
  t : List Word := [0, 0, 0, 0]
  stores : List WbEntry := []
  steps : Nat := 0

/-- What stays fixed while it runs: the core at its start, EA or the immediate, the instruction, the core's number. -/
structure UserEnv where
  c : Nat
  k : Core
  ea : Word
  i : AwlIn
  op : Nat
  count : Nat
  words : List Microword

/-- Microwords and descriptor of entry `n` as the decoder sees them (R555). -/
def entryWord (b : Bank Byte) (n j : Nat) : Microword := BitVec.ofNat 64 (ofLe (Bank.readBytes b (0x80 * n + 8 * j) 8))
def entryDesc (b : Bank Byte) (n : Nat) : Word := BitVec.ofNat 32 (ofLe (Bank.readBytes b (0x800 + 8 * n) 4))

/-- The value of a register code (R557). -/
def Stage.reg (e : UserEnv) (g : Stage) (w : Microword) (r : Nat) : Word :=
  match r with
  | 0 => g.a.setWidth 32
  | 1 => g.x.getD e.k.x
  | 2 => g.y.getD e.k.y
  | 3 | 4 | 5 | 6 => g.t.getD (r - 3) 0
  | 7 => e.ea
  | 8 => sext16 e.i
  | 9 => e.i.d16.setWidth 32
  | 10 => mwImm w
  | 11 => e.i.mod.setWidth 32
  | 13 => e.i.sz.setWidth 32
  | _ => 0

/-- A register code read by a MAC-class operation: the whole of A. -/
def Stage.macReg (e : UserEnv) (g : Stage) (w : Microword) (r : Nat) : Int :=
  if r = 0 then g.a.toInt else (g.reg e w r).toInt

/-- A 32-bit write (R557, 18 R502). -/
def Stage.put (r : Nat) (v : Word) (g : Stage) : Stage :=
  match r with
  | 0 => { g with a := v.signExtend 40 }
  | 1 => { g with x := some v }
  | 2 => { g with y := some v }
  | _ => { g with t := g.t.set (r - 3) v }

/-- The staged flags as a core holds them: the flag operations of the instruction set work on it. -/
def Stage.core (e : UserEnv) (g : Stage) : Core := { e.k with a := g.a, st := g.st }

/-- A flag update, made when FLG is 1. -/
def Stage.flags (e : UserEnv) (flg : Bool) (f : Core → Core) (g : Stage) : Stage :=
  if flg then { g with st := (f (g.core e)).st } else g

/-- An ALU micro-operation: its result and its flags (R558, 18 R508). -/
def aluOp (fn : Nat) (a b : Word) (cin : Bool) : Word × (Core → Core) :=
  let sum (r : Sum) : Word × (Core → Core) := (r.value, fun k => (k.setZN r.value).setCV r.carry r.ovf)
  let log (v : Word) : Word × (Core → Core) := (v, Core.setZN v)
  let sh (r : Word × Bool) : Word × (Core → Core) := (r.1, fun k => (k.setZN r.1).setFlag stC r.2)
  let n := b.toNat % 32
  match fn with
  | 0 => sum (addWith a b false)
  | 1 => sum (subWith a b false)
  | 2 => log (a &&& b)
  | 3 => log (a ||| b)
  | 4 => log (a ^^^ b)
  | 5 => sh (shl a n)
  | 6 => sh (shr a n)
  | 7 => sh (asr a n)
  | 8 => sh (rol a n)
  | 9 =>
    let v : Word := BitVec.ofInt 32 (product a b)
    (v, fun k => (k.setZN v).setFlag stV (over32 (product a b)))
  | 10 => log (BitVec.ofInt 32 (product a b / 2 ^ 32))
  | 11 => sum (addWith a b cin)
  | 12 => sum (subWith a b cin)
  | _ => log a

/-- The term c of a MAC micro-operation (18 R510), under the ST fields of the instruction's start. -/
def macTerm (k : Core) (m v : Int) : Int := if k.flag stFRAC then roundAt k.rnd (2 * (m * v)) 32 else m * v

/-- A MAC micro-operation on the core that stands for the staged state. -/
def macOp (e : UserEnv) (g : Stage) (w : Microword) (k : Core) : Core :=
  let c := macTerm e.k (g.macReg e w (mwA w)) (g.macReg e w (mwB w))
  match mwFn w with
  | 0 => k.writeA c
  | 1 => k.writeA (g.a.toInt + c)
  | 2 => k.writeA (g.a.toInt - c)
  | 3 => k.writeA (Core.roundA ((mwImm w).toNat % 32) { e.k with a := g.a })
  | 4 =>
    let r := clamp32 k.a
    ({ k with a := r.1 }.setZNA r.1).stick r.2
  | _ => k.writeA (g.a.toInt + g.macReg e w (mwA w))

/-- A fault of micro-step `j`. -/
def stepExc (j : Nat) (x : Exc) : Exc := { x with mstep := some (j % 16) }

/-- The user-decode fault (19 R534). -/
def userFault (op : Nat) (empty : Bool) : Exc := { slot := 13, info := op + 256 * bit empty }

/-- The check of a micro-access (R561): alignment, data TCM and custody SRAM only, the MPU. -/
def State.microCheck (e : UserEnv) (a n : Nat) (kind : BitVec 2) (s : State) : Option Exc :=
  let acc : Access := { addr := a, size := n, kind := kind }
  let ar := areaOf a n
  if a % n ≠ 0 then some { slot := 8, info := kind.toNat }
  else if !decide (ar = .dtcm ∨ ar = .sram) then
    some (mpuExc 7 acc { region := none, outside := decide (ar = .none) })
  else match s.mpuRefuses e.c e.k.level acc with
    | some r => some (mpuExc 7 acc r)
    | none => (accessErrs e.i a n kind).map fun ecc => machineCheck ecc false

/-- One microword other than END and BRANCH: the staged state after it, or the fault of its step. -/
def State.microOp (e : UserEnv) (w : Microword) (g : Stage) (s : State) : Except Exc Stage :=
  let a := g.reg e w (mwA w)
  let b := g.reg e w (mwB w)
  let size := 2 ^ (mwFn w % 4)
  let addr := (a + mwImm w).toNat
  match mwUop w with
  | 1 =>
    let r := aluOp (mwFn w) a b (g.st.getLsbD stC)
    .ok ((g.put (mwDst w) r.1).flags e (mwFlg w) r.2)
  | 2 =>
    let k := macOp e g w (g.core e)
    .ok { g with a := k.a, st := if mwFlg w then k.st else g.st }
  | 3 =>
    (match s.microCheck e addr size 0 with
    | some x => .error x
    | none =>
      let bs := overlay g.stores addr (s.readArea e.c e.k.level addr size e.i).1
      .ok (g.put (mwDst w) (extend (decide (4 ≤ mwFn w)) bs)))
  | _ =>
    match s.microCheck e addr size 1 with
    | some x => .error x
    | none => .ok { g with stores := g.stores ++ [{ addr := addr, data := leBytes size b.toNat }] }

/-- Run the microprogram from microword `j` (R558-R560). -/
def State.microRun (e : UserEnv) (s : State) : Nat → Nat → Stage → Except Exc Stage
  | 0, j, _ => .error (stepExc j (userFault e.op false))
  | fuel + 1, j, g =>
    let w := e.words.getD j 0
    if e.count ≤ j ∨ mwValid w = false ∨ (mwUop w = 4 ∧ 4 ≤ g.stores.length) then .error (stepExc j (userFault e.op false))
    else match mwUop w with
      | 0 => .ok g
      | 5 => s.microRun e fuel (if condHolds (mwCond w) g.st then mwTarget w else j + 1) g
      | _ =>
        match s.microOp e w g with
        | .error x => .error (stepExc j x)
        | .ok g1 => s.microRun e fuel (j + 1) g1

/-- END commits registers and flags, then the staged stores in order (R556, R559). -/
def State.commit (e : UserEnv) (g : Stage) (s : State) : State :=
  let t := s.retire e.c fun k =>
    let k1 := k.postInc e.i
    { k1 with a := g.a, x := g.x.getD k1.x, y := g.y.getD k1.y, st := g.st }
  g.stores.foldl (fun u x => u.writeArea e.c e.k.level x.addr x.data) t

/-- USER_DECODE of opcode 0xF0 + n (R556, R559; illegal on the Cobbler, R555). -/
def State.userOp (c n : Nat) (i : AwlIn) (s : State) : Except Exc State :=
  let k := s.core c
  let d := entryDesc k.decode n
  if c = 4 then .error illegal
  else if !d.getLsbD 0 then .error (userFault (0xF0 + n) true)
  else if !d.getLsbD (8 + amOf i) || !d.getLsbD (16 + szOf i) then .error illegal
  else
    let e : UserEnv := { c := c, k := k, ea := if amOf i = 0 then sext16 i else k.ea i, i := i, op := 0xF0 + n,
                         count := d.toNat / 2 ^ 20 % 32, words := (List.range 16).map (entryWord k.decode n) }
    match s.microRun e 64 0 { a := k.a, st := k.st } with
    | .error x => .error x
    | .ok g => .ok (s.commit e g)

/-- USER_DECODE (R556-R562). -/
def execUserDecode (c : CoreNo) (n : Fin 16) (i : AwlIn) (s : State) : Host.Outcome State Fault Refusal :=
  .next (s.runInstr c.val (0xF0 + n.val) i true fun t => t.userOp c.val n.val i)

end Sys2Proof.Machine
end

