-- ==== Sys2Proof/Machine/Dispatch.lean ====
section
/-! DEFINITION. The meaning of every command: one arm for each row of spec/opcode_table.json. -/

namespace Sys2Proof.Machine

/-- The effect of a command on everything but the queue. -/
def exec (i : Instr) (s : State) : Host.Outcome State Fault Refusal :=
  match i with
  | .pwrgdFall => Sys2Proof.Machine.execPwrgdFall s
  | .pwrgdRise => Sys2Proof.Machine.execPwrgdRise s
  | .perstAssert => Sys2Proof.Machine.execPerstAssert s
  | .perstRelease late => Sys2Proof.Machine.execPerstRelease late s
  | .insoleSupplySwitch toVbat => Sys2Proof.Machine.execInsoleSupplySwitch toVbat s
  | .insoleEmptyRestart => Sys2Proof.Machine.execInsoleEmptyRestart s
  | .mainResetEnd => Sys2Proof.Machine.execMainResetEnd s
  | .rngReady katM katK => Sys2Proof.Machine.execRngReady katM katK s
  | .pufReconstructionDone ok => Sys2Proof.Machine.execPufReconstructionDone ok s
  | .loaderLive => Sys2Proof.Machine.execLoaderLive s
  | .rngBootTimeout => Sys2Proof.Machine.execRngBootTimeout s
  | .ldrGo f v => Sys2Proof.Machine.execLdrGo f v s
  | .imageReadTimeout => Sys2Proof.Machine.execImageReadTimeout s
  | .imageVerifyDone img => Sys2Proof.Machine.execImageVerifyDone img s
  | .mbxMsgLoWrite m side v => Sys2Proof.Machine.execMbxMsgLoWrite m side v s
  | .mbxMsgHiWrite m side v => Sys2Proof.Machine.execMbxMsgHiWrite m side v s
  | .mbxMsgHiRead m side => Sys2Proof.Machine.execMbxMsgHiRead m side s
  | .mbxTimeout m => Sys2Proof.Machine.execMbxTimeout m s
  | .mbxDbellWrite m side v => Sys2Proof.Machine.execMbxDbellWrite m side v s
  | .mbxDbclrWrite m side v => Sys2Proof.Machine.execMbxDbclrWrite m side v s
  | .mbxLockRead m requester => Sys2Proof.Machine.execMbxLockRead m requester s
  | .mbxLockWrite m requester v => Sys2Proof.Machine.execMbxLockWrite m requester v s
  | .mbxHrouteWrite f level v => Sys2Proof.Machine.execMbxHrouteWrite f level v s
  | .evtNoticePost f => Sys2Proof.Machine.execEvtNoticePost f s
  | .functionLevelReset f => Sys2Proof.Machine.execFunctionLevelReset f s
  | .flrComplete f => Sys2Proof.Machine.execFlrComplete f s
  | .hotReset => Sys2Proof.Machine.execHotReset s
  | .d3hotToD0 f => Sys2Proof.Machine.execD3hotToD0 f s
  | .numVfsWrite v => Sys2Proof.Machine.execNumVfsWrite v s
  | .poisonedWrite f => Sys2Proof.Machine.execPoisonedWrite f s
  | .barBadAccess f x => Sys2Proof.Machine.execBarBadAccess f x s
  | .ideKmKeyProg stream sub dir key => Sys2Proof.Machine.execIdeKmKeyProg stream sub dir key s
  | .undefinedOpcode h opcode => Sys2Proof.Machine.execUndefinedOpcode h opcode s
  | .commandTimeout f tag elapsed => Sys2Proof.Machine.execCommandTimeout f tag elapsed s
  | .sessionOpen h role rsv tenant seq sigLen sig => Sys2Proof.Machine.execSessionOpen h role rsv tenant seq sigLen sig s
  | .sessionClose h => Sys2Proof.Machine.execSessionClose h s
  | .quorumBegin h purpose window rsv digest => Sys2Proof.Machine.execQuorumBegin h purpose window rsv digest s
  | .quorumPresent h qid source index rsv file cred => Sys2Proof.Machine.execQuorumPresent h qid source index rsv file cred s
  | .quorumEnd h qid rsv => Sys2Proof.Machine.execQuorumEnd h qid rsv s
  | .quorumWindowEnd => Sys2Proof.Machine.execQuorumWindowEnd s
  | .ticketExpiry => Sys2Proof.Machine.execTicketExpiry s
  | .keyGenerate h t => Sys2Proof.Machine.execKeyGenerate h t s
  | .keyImport h wrap format rsv t wrappedLen rsv2 wrapped => Sys2Proof.Machine.execKeyImport h wrap format rsv t wrappedLen rsv2 wrapped s
  | .keyExport h handle wrap format rsv => Sys2Proof.Machine.execKeyExport h handle wrap format rsv s
  | .keyLoad h slot rsv blobLen blob => Sys2Proof.Machine.execKeyLoad h slot rsv blobLen blob s
  | .keyUnload h handle rsv => Sys2Proof.Machine.execKeyUnload h handle rsv s
  | .keyDerive h base func rsv ctxLen t ctx => Sys2Proof.Machine.execKeyDerive h base func rsv ctxLen t ctx s
  | .keyDestroy h handle rsv keyId => Sys2Proof.Machine.execKeyDestroy h handle rsv keyId s
  | .keyAttest h handle alg rsv nonce => Sys2Proof.Machine.execKeyAttest h handle alg rsv nonce s
  | .keyInfo h handle rsv => Sys2Proof.Machine.execKeyInfo h handle rsv s
  | .payBlockImport h kbpk len block => Sys2Proof.Machine.execPayBlockImport h kbpk len block s
  | .payBlockExport h handle kbpk optLen rsv opt => Sys2Proof.Machine.execPayBlockExport h handle kbpk optLen rsv opt s
  | .payPinTranslate h inH outH inMode outMode rsv inKsn outKsn pan pin => Sys2Proof.Machine.execPayPinTranslate h inH outH inMode outMode rsv inKsn outKsn pan pin s
  | .sign h handle input rsv len rsv2 data => Sys2Proof.Machine.execSign h handle input rsv len rsv2 data s
  | .verify h handle input rsv len sigLen data sig => Sys2Proof.Machine.execVerify h handle input rsv len sigLen data sig s
  | .seal h handle aadLen rsv dataLen rsv2 aad data => Sys2Proof.Machine.execSeal h handle aadLen rsv dataLen rsv2 aad data s
  | .unseal h handle aadLen rsv sealedLen rsv2 aad sealed => Sys2Proof.Machine.execUnseal h handle aadLen rsv sealedLen rsv2 aad sealed s
  | .agree h handle peerLen t peer => Sys2Proof.Machine.execAgree h handle peerLen t peer s
  | .encaps h handle rsv t => Sys2Proof.Machine.execEncaps h handle rsv t s
  | .decaps h handle ctLen t ct => Sys2Proof.Machine.execDecaps h handle ctLen t ct s
  | .ringCreate h ring fn vector tenant size flags desc cmpl shd => Sys2Proof.Machine.execRingCreate h ring fn vector tenant size flags desc cmpl shd s
  | .ringDestroy h ring rsv => Sys2Proof.Machine.execRingDestroy h ring rsv s
  | .ringWindow h fn win rsv base limit => Sys2Proof.Machine.execRingWindow h fn win rsv base limit s
  | .ringStatus h ring rsv => Sys2Proof.Machine.execRingStatus h ring rsv s
  | .portConfig h port rsv recLen r => Sys2Proof.Machine.execPortConfig h port rsv recLen r s
  | .portStatus h port rsv => Sys2Proof.Machine.execPortStatus h port rsv s
  | .volumeBind h port rsv volume keyId handle rsv2 => Sys2Proof.Machine.execVolumeBind h port rsv volume keyId handle rsv2 s
  | .portHold h port rsv => Sys2Proof.Machine.execPortHold h port rsv s
  | .portRelease h port rsv => Sys2Proof.Machine.execPortRelease h port rsv s
  | .alarmTableSet h qid rsv table => Sys2Proof.Machine.execAlarmTableSet h qid rsv table s
  | .alarmTableGet h => Sys2Proof.Machine.execAlarmTableGet h s
  | .logExport h first max => Sys2Proof.Machine.execLogExport h first max s
  | .logRelease h seq rsv => Sys2Proof.Machine.execLogRelease h seq rsv s
  | .logStatus h => Sys2Proof.Machine.execLogStatus h s
  | .randomGet h len rsv => Sys2Proof.Machine.execRandomGet h len rsv s
  | .rngStatus h => Sys2Proof.Machine.execRngStatus h s
  | .rngAuditEnter h qid rsv => Sys2Proof.Machine.execRngAuditEnter h qid rsv s
  | .rngAuditExit h => Sys2Proof.Machine.execRngAuditExit h s
  | .cardStatus h kind index rsv => Sys2Proof.Machine.execCardStatus h kind index rsv s
  | .cardRead h port rsv first count rsv2 io => Sys2Proof.Machine.execCardRead h port rsv first count rsv2 io s
  | .cardWrite h port rsv first count rsv2 data io => Sys2Proof.Machine.execCardWrite h port rsv first count rsv2 data io s
  | .iccApdu h slot rsv len apdu io => Sys2Proof.Machine.execIccApdu h slot rsv len apdu io s
  | .badgePoll h io => Sys2Proof.Machine.execBadgePoll h io s
  | .tagPost h page count rsv data => Sys2Proof.Machine.execTagPost h page count rsv data s
  | .tagReadNotes h first count rsv => Sys2Proof.Machine.execTagReadNotes h first count rsv s
  | .tagSetAuditKey h len rsv blob => Sys2Proof.Machine.execTagSetAuditKey h len rsv blob s
  | .domainJoin h qid mLen dLen rsv m d => Sys2Proof.Machine.execDomainJoin h qid mLen dLen rsv m d s
  | .epochFloor h device rsv floor sigLen rsv2 sig => Sys2Proof.Machine.execEpochFloor h device rsv floor sigLen rsv2 sig s
  | .pairBind h qid partner rsv => Sys2Proof.Machine.execPairBind h qid partner rsv s
  | .pairStatus h => Sys2Proof.Machine.execPairStatus h s
  | .pairHandover h dir rsv => Sys2Proof.Machine.execPairHandover h dir rsv s
  | .deviceInfo h => Sys2Proof.Machine.execDeviceInfo h s
  | .attestGet h alg rsv mask nonce => Sys2Proof.Machine.execAttestGet h alg rsv mask nonce s
  | .measRead h index rsv => Sys2Proof.Machine.execMeasRead h index rsv s
  | .extLoad h qid len p => Sys2Proof.Machine.execExtLoad h qid len p s
  | .extUnload h moduleId rsv => Sys2Proof.Machine.execExtUnload h moduleId rsv s
  | .fwStage h addr len rsv => Sys2Proof.Machine.execFwStage h addr len rsv s
  | .fwStageVerifyDone img elapsed => Sys2Proof.Machine.execFwStageVerifyDone img elapsed s
  | .floorRaise h qid which value rsv => Sys2Proof.Machine.execFloorRaise h qid which value rsv s
  | .phaseAdvance h target rsv => Sys2Proof.Machine.execPhaseAdvance h target rsv s
  | .shelfDown h shadows => Sys2Proof.Machine.execShelfDown h shadows s
  | .shelfDownComplete elapsed => Sys2Proof.Machine.execShelfDownComplete elapsed s
  | .sensorRead h index rsv => Sys2Proof.Machine.execSensorRead h index rsv s
  | .eventRead h first max => Sys2Proof.Machine.execEventRead h first max s
  | .mgtConfig h map addr rsv chainLen chain => Sys2Proof.Machine.execMgtConfig h map addr rsv chainLen chain s
  | .doorbellWrite f ring v => Sys2Proof.Machine.execDoorbellWrite f ring v s
  | .tailShadowRead ring v => Sys2Proof.Machine.execTailShadowRead ring v s
  | .descriptorFetch ring => Sys2Proof.Machine.execDescriptorFetch ring s
  | .descriptorArrival ring data => Sys2Proof.Machine.execDescriptorArrival ring data s
  | .descriptorReadEarlyEnd ring data e => Sys2Proof.Machine.execDescriptorReadEarlyEnd ring data e s
  | .admission ring n => Sys2Proof.Machine.execAdmission ring n s
  | .keyStage ring n => Sys2Proof.Machine.execKeyStage ring n s
  | .cutStage ring n => Sys2Proof.Machine.execCutStage ring n s
  | .cutWriteBack core e => Sys2Proof.Machine.execCutWriteBack core e s
  | .dmaReadEarlyEnd ring n received e => Sys2Proof.Machine.execDmaReadEarlyEnd ring n received e s
  | .tagStage ring n ghashOk read => Sys2Proof.Machine.execTagStage ring n ghashOk read s
  | .releaseStage ring n => Sys2Proof.Machine.execReleaseStage ring n s
  | .sectorStaged port ring n => Sys2Proof.Machine.execSectorStaged port ring n s
  | .completionWrite ring => Sys2Proof.Machine.execCompletionWrite ring s
  | .ringMsixSend f vector => Sys2Proof.Machine.execRingMsixSend f vector s
  | .ringCtlCreate level => Sys2Proof.Machine.execRingCtlCreate level s
  | .ringCtlDestroy level => Sys2Proof.Machine.execRingCtlDestroy level s
  | .ringAbortAll level => Sys2Proof.Machine.execRingAbortAll level s
  | .shelfDownTimeout => Sys2Proof.Machine.execShelfDownTimeout s
  | .clkCtrlWrite writer level v => Sys2Proof.Machine.execClkCtrlWrite writer level v s
  | .cphKatRun core level => Sys2Proof.Machine.execCphKatRun core level s
  | .cphKatDone core pass => Sys2Proof.Machine.execCphKatDone core pass s
  | .maskingReseed core => Sys2Proof.Machine.execMaskingReseed core s
  | .maskingStop core => Sys2Proof.Machine.execMaskingStop core s
  | .blockLockAcquired port => Sys2Proof.Machine.execBlockLockAcquired port s
  | .blockLockLost port => Sys2Proof.Machine.execBlockLockLost port s
  | .caps port fh version flags mask rsv identity => Sys2Proof.Machine.execCaps port fh version flags mask rsv identity s
  | .geometry port fh tpp pitch spp offs code rsv => Sys2Proof.Machine.execGeometry port fh tpp pitch spp offs code rsv s
  | .loopEcho port fh token turnaroundNs rsv count => Sys2Proof.Machine.execLoopEcho port fh token turnaroundNs rsv count s
  | .trainingAnswerTimeout port => Sys2Proof.Machine.execTrainingAnswerTimeout port s
  | .retrainTimer port => Sys2Proof.Machine.execRetrainTimer port s
  | .solRetrain port level => Sys2Proof.Machine.execSolRetrain port level s
  | .pos port fh fine pass ackSeq flags rsv skipMask tRx tUpd => Sys2Proof.Machine.execPos port fh fine pass ackSeq flags rsv skipMask tRx tUpd s
  | .sector port fh format codeWord keyId iv addr => Sys2Proof.Machine.execSector port fh format codeWord keyId iv addr s
  | .sectorFrameEnd port data excess => Sys2Proof.Machine.execSectorFrameEnd port data excess s
  | .holdResume port fh kind reason rsv => Sys2Proof.Machine.execHoldResume port fh kind reason rsv s
  | .idle port fh => Sys2Proof.Machine.execIdle port fh s
  | .badFrame port type fh data excess => Sys2Proof.Machine.execBadFrame port type fh data excess s
  | .idleSendTimer port => Sys2Proof.Machine.execIdleSendTimer port s
  | .creditSend port => Sys2Proof.Machine.execCreditSend port s
  | .windowOpen port t => Sys2Proof.Machine.execWindowOpen port t s
  | .stampTimeout port tie => Sys2Proof.Machine.execStampTimeout port tie s
  | .holdLimit port => Sys2Proof.Machine.execHoldLimit port s
  | .pkeCmdBadOp n op k => Sys2Proof.Machine.execPkeCmdBadOp n op k s
  | .rsaPriv n k => Sys2Proof.Machine.execRsaPriv n k s
  | .rsaPub n k => Sys2Proof.Machine.execRsaPub n k s
  | .ecKeygen n k => Sys2Proof.Machine.execEcKeygen n k s
  | .ecdsaSign n k => Sys2Proof.Machine.execEcdsaSign n k s
  | .ecdsaVerify n k => Sys2Proof.Machine.execEcdsaVerify n k s
  | .ecdh n k => Sys2Proof.Machine.execEcdh n k s
  | .cvKeygen n k => Sys2Proof.Machine.execCvKeygen n k s
  | .edSign n k => Sys2Proof.Machine.execEdSign n k s
  | .edVerify n k => Sys2Proof.Machine.execEdVerify n k s
  | .x25519 n k => Sys2Proof.Machine.execX25519 n k s
  | .mlkemKeygen n k => Sys2Proof.Machine.execMlkemKeygen n k s
  | .mlkemEncaps n k => Sys2Proof.Machine.execMlkemEncaps n k s
  | .mlkemDecaps n k => Sys2Proof.Machine.execMlkemDecaps n k s
  | .mldsaKeygen n k => Sys2Proof.Machine.execMldsaKeygen n k s
  | .mldsaSign n k => Sys2Proof.Machine.execMldsaSign n k s
  | .mldsaVerify n k => Sys2Proof.Machine.execMldsaVerify n k s
  | .checkKey n k => Sys2Proof.Machine.execCheckKey n k s
  | .pkeWaitEnd n => Sys2Proof.Machine.execPkeWaitEnd n s
  | .pkeValidationEnd n => Sys2Proof.Machine.execPkeValidationEnd n s
  | .pkeOpDone n d => Sys2Proof.Machine.execPkeOpDone n d s
  | .pkeAbort n master level v => Sys2Proof.Machine.execPkeAbort n master level v s
  | .pkeClear n master level v => Sys2Proof.Machine.execPkeClear n master level v s
  | .pkeClearDone n => Sys2Proof.Machine.execPkeClearDone n s
  | .pkeKatRun n level => Sys2Proof.Machine.execPkeKatRun n level s
  | .pkeKatDone n pass => Sys2Proof.Machine.execPkeKatDone n pass s
  | .digInit m k => Sys2Proof.Machine.execDigInit m k s
  | .digUpdate m k => Sys2Proof.Machine.execDigUpdate m k s
  | .digFinal m k => Sys2Proof.Machine.execDigFinal m k s
  | .digSave m k => Sys2Proof.Machine.execDigSave m k s
  | .digRestore m k => Sys2Proof.Machine.execDigRestore m k s
  | .digExtend m k => Sys2Proof.Machine.execDigExtend m k s
  | .digAbort m k => Sys2Proof.Machine.execDigAbort m k s
  | .digestSegmentEnd unit mismatch rerunFails => Sys2Proof.Machine.execDigestSegmentEnd unit mismatch rerunFails s
  | .digestOpDone m unit => Sys2Proof.Machine.execDigestOpDone m unit s
  | .digKatRun unit level => Sys2Proof.Machine.execDigKatRun unit level s
  | .digKatDone pass => Sys2Proof.Machine.execDigKatDone pass s
  | .measWord0Read n => Sys2Proof.Machine.execMeasWord0Read n s
  | .sourceHealthFail src run same => Sys2Proof.Machine.execSourceHealthFail src run same s
  | .sourceRetestStart src => Sys2Proof.Machine.execSourceRetestStart src s
  | .sourceRetestEnd src run same => Sys2Proof.Machine.execSourceRetestEnd src run same s
  | .conditionedBlock classM tie => Sys2Proof.Machine.execConditionedBlock classM tie s
  | .drbgInstantiate x => Sys2Proof.Machine.execDrbgInstantiate x s
  | .drbgBackgroundReseed x => Sys2Proof.Machine.execDrbgBackgroundReseed x s
  | .rngReq c writer level v => Sys2Proof.Machine.execRngReq c writer level v s
  | .rngWaitLimit c => Sys2Proof.Machine.execRngWaitLimit c s
  | .rngDataRead c => Sys2Proof.Machine.execRngDataRead c s
  | .auditSet level => Sys2Proof.Machine.execAuditSet level s
  | .auditClear level => Sys2Proof.Machine.execAuditClear level s
  | .rngRawselWrite c level v => Sys2Proof.Machine.execRngRawselWrite c level v s
  | .rngRawRead c level => Sys2Proof.Machine.execRngRawRead c level s
  | .alarmAssert tick => Sys2Proof.Machine.execAlarmAssert tick s
  | .alarmAssertDark src detail => Sys2Proof.Machine.execAlarmAssertDark src detail s
  | .mainResetAssert => Sys2Proof.Machine.execMainResetAssert s
  | .haltLift => Sys2Proof.Machine.execHaltLift s
  | .logCommit => Sys2Proof.Machine.execLogCommit s
  | .coalesceWindowEnd src => Sys2Proof.Machine.execCoalesceWindowEnd src s
  | .almRaise writer level v => Sys2Proof.Machine.execAlmRaise writer level v s
  | .almRespWrite level k v => Sys2Proof.Machine.execAlmRespWrite level k v s
  | .almLogExpWrite level v => Sys2Proof.Machine.execAlmLogExpWrite level v s
  | .almLogRelWrite level v => Sys2Proof.Machine.execAlmLogRelWrite level v s
  | .almLogDataRead w => Sys2Proof.Machine.execAlmLogDataRead w s
  | .tampStep loop level detail => Sys2Proof.Machine.execTampStep loop level detail s
  | .insFloorWrite level v => Sys2Proof.Machine.execInsFloorWrite level v s
  | .insIkctlGen level => Sys2Proof.Machine.execInsIkctlGen level s
  | .ikStored => Sys2Proof.Machine.execIkStored s
  | .insoleSeedDelivery => Sys2Proof.Machine.execInsoleSeedDelivery s
  | .insAudctlLoad level => Sys2Proof.Machine.execInsAudctlLoad level s
  | .insAudctlClear level => Sys2Proof.Machine.execInsAudctlClear level s
  | .insTagSelWrite level v => Sys2Proof.Machine.execInsTagSelWrite level v s
  | .insTagCommit level => Sys2Proof.Machine.execInsTagCommit level s
  | .tagHostWaitExpiry tie => Sys2Proof.Machine.execTagHostWaitExpiry tie s
  | .budgetRefill => Sys2Proof.Machine.execBudgetRefill s
  | .fieldDetected => Sys2Proof.Machine.execFieldDetected s
  | .fieldLost => Sys2Proof.Machine.execFieldLost s
  | .sessionInactivity tie => Sys2Proof.Machine.execSessionInactivity tie s
  | .reqa => Sys2Proof.Machine.execReqa s
  | .wupa => Sys2Proof.Machine.execWupa s
  | .anticollision => Sys2Proof.Machine.execAnticollision s
  | .isoSelect uid => Sys2Proof.Machine.execIsoSelect uid s
  | .hlta => Sys2Proof.Machine.execHlta s
  | .rats => Sys2Proof.Machine.execRats s
  | .pps dsi dri => Sys2Proof.Machine.execPps dsi dri s
  | .rBlock nak blockNo => Sys2Proof.Machine.execRBlock nak blockNo s
  | .sDeselect => Sys2Proof.Machine.execSDeselect s
  | .select aid => Sys2Proof.Machine.execSelect aid s
  | .readPage cla page data leOk => Sys2Proof.Machine.execReadPage cla page data leOk s
  | .auth1 data leOk => Sys2Proof.Machine.execAuth1 data leOk s
  | .auth2 data leOk => Sys2Proof.Machine.execAuth2 data leOk s
  | .writeNotes page data leOk collapse => Sys2Proof.Machine.execWriteNotes page data leOk collapse s
  | .readLog data leOk => Sys2Proof.Machine.execReadLog data leOk s
  | .getStatus data leOk => Sys2Proof.Machine.execGetStatus data leOk s
  | .unsupportedApdu cla ins => Sys2Proof.Machine.execUnsupportedApdu cla ins s
  | .authBlockEnd => Sys2Proof.Machine.execAuthBlockEnd s
  | .clsPoll level => Sys2Proof.Machine.execClsPoll level s
  | .clsAbort level => Sys2Proof.Machine.execClsAbort level s
  | .clsXchg level => Sys2Proof.Machine.execClsXchg level s
  | .pollRound typeA typeB fieldSeen => Sys2Proof.Machine.execPollRound typeA typeB fieldSeen s
  | .pollTimeout => Sys2Proof.Machine.execPollTimeout s
  | .badgeExchangeEnd answer => Sys2Proof.Machine.execBadgeExchangeEnd answer s
  | .sdCardInserted p => Sys2Proof.Machine.execSdCardInserted p s
  | .sdSettleEnd p => Sys2Proof.Machine.execSdSettleEnd p s
  | .sdInitDone p why cSize modes v18 cmd23 passes wp scan => Sys2Proof.Machine.execSdInitDone p why cSize modes v18 cmd23 passes wp scan s
  | .sdCardRemoved p => Sys2Proof.Machine.execSdCardRemoved p s
  | .sdRead p level => Sys2Proof.Machine.execSdRead p level s
  | .sdWrite p level => Sys2Proof.Machine.execSdWrite p level s
  | .sdAbort p level => Sys2Proof.Machine.execSdAbort p level s
  | .sdRetune p level passes => Sys2Proof.Machine.execSdRetune p level passes s
  | .sdPowerOff p level => Sys2Proof.Machine.execSdPowerOff p level s
  | .sdPowerOn p level => Sys2Proof.Machine.execSdPowerOn p level s
  | .sdBusyEnd p => Sys2Proof.Machine.execSdBusyEnd p s
  | .sdBusyTimeout p => Sys2Proof.Machine.execSdBusyTimeout p s
  | .sdResponseTimeout p => Sys2Proof.Machine.execSdResponseTimeout p s
  | .sdTransferEnd p data crcOk => Sys2Proof.Machine.execSdTransferEnd p data crcOk s
  | .iccCardRemoved k tie => Sys2Proof.Machine.execIccCardRemoved k tie s
  | .iccActivate k level => Sys2Proof.Machine.execIccActivate k level s
  | .iccDeactivate k level => Sys2Proof.Machine.execIccDeactivate k level s
  | .iccXchg k level => Sys2Proof.Machine.execIccXchg k level s
  | .atrReceived k atr ppsOk => Sys2Proof.Machine.execAtrReceived k atr ppsOk s
  | .atrTimeout k => Sys2Proof.Machine.execAtrTimeout k s
  | .iccWwtExceeded k => Sys2Proof.Machine.execIccWwtExceeded k s
  | .iccClockStop k => Sys2Proof.Machine.execIccClockStop k s
  | .weltLaneLock l => Sys2Proof.Machine.execWeltLaneLock l s
  | .weltLaneLoss l => Sys2Proof.Machine.execWeltLaneLoss l s
  | .hello fr carrying => Sys2Proof.Machine.execHello fr carrying s
  | .weltSessionKeyReady => Sys2Proof.Machine.execWeltSessionKeyReady s
  | .confirm fr => Sys2Proof.Machine.execConfirm fr s
  | .heartbeat fr => Sys2Proof.Machine.execHeartbeat fr s
  | .mirror fr seq r => Sys2Proof.Machine.execMirror fr seq r s
  | .ack fr => Sys2Proof.Machine.execAck fr s
  | .depart fr => Sys2Proof.Machine.execDepart fr s
  | .bind fr elapsed => Sys2Proof.Machine.execBind fr elapsed s
  | .weltIdle => Sys2Proof.Machine.execWeltIdle s
  | .weltBadFrame type fr => Sys2Proof.Machine.execWeltBadFrame type fr s
  | .weltHeartbeatSend => Sys2Proof.Machine.execWeltHeartbeatSend s
  | .hostWordWrite word => Sys2Proof.Machine.execHostWordWrite word s
  | .partnerWordRead word scan => Sys2Proof.Machine.execPartnerWordRead word scan s
  | .weltHeartbeatTimeout tie scan => Sys2Proof.Machine.execWeltHeartbeatTimeout tie scan s
  | .partnerWordStale scan us tie => Sys2Proof.Machine.execPartnerWordStale scan us tie s
  | .mirrorResend seq => Sys2Proof.Machine.execMirrorResend seq s
  | .sensorRefresh readings => Sys2Proof.Machine.execSensorRefresh readings s
  | .pwrWdogWrite c writer v => Sys2Proof.Machine.execPwrWdogWrite c writer v s
  | .watchdogExpiry c tie => Sys2Proof.Machine.execWatchdogExpiry c tie s
  | .coreRestartRelease c => Sys2Proof.Machine.execCoreRestartRelease c s
  | .cobblerRestart => Sys2Proof.Machine.execCobblerRestart s
  | .katSchedule unit => Sys2Proof.Machine.execKatSchedule unit s
  | .quietPoint elapsed => Sys2Proof.Machine.execQuietPoint elapsed s
  | .smbusSclTimeout => Sys2Proof.Machine.execSmbusSclTimeout s
  | .setEndpointId eid => Sys2Proof.Machine.execSetEndpointId eid s
  | .getEndpointId => Sys2Proof.Machine.execGetEndpointId s
  | .getMctpVersion msgType => Sys2Proof.Machine.execGetMctpVersion msgType s
  | .getMessageTypeSupport => Sys2Proof.Machine.execGetMessageTypeSupport s
  | .getPdr record => Sys2Proof.Machine.execGetPdr record s
  | .getSensorReading sensor => Sys2Proof.Machine.execGetSensorReading sensor s
  | .setNumericSensorEnable sensor opState events => Sys2Proof.Machine.execSetNumericSensorEnable sensor opState events s
  | .getStateSensorReadings sensor => Sys2Proof.Machine.execGetStateSensorReadings sensor s
  | .getVersion => Sys2Proof.Machine.execGetVersion s
  | .getCapabilities version => Sys2Proof.Machine.execGetCapabilities version s
  | .negotiateAlgorithms p384 sha384 => Sys2Proof.Machine.execNegotiateAlgorithms p384 sha384 s
  | .getDigests => Sys2Proof.Machine.execGetDigests s
  | .getCertificate slot offset len => Sys2Proof.Machine.execGetCertificate slot offset len s
  | .challenge slot nonce => Sys2Proof.Machine.execChallenge slot nonce s
  | .getMeasurements index signed nonce => Sys2Proof.Machine.execGetMeasurements index signed nonce s
  | .keyExchange slot random doe => Sys2Proof.Machine.execKeyExchange slot random doe s
  | .finish hmacOk => Sys2Proof.Machine.execFinish hmacOk s
  | .endSession => Sys2Proof.Machine.execEndSession s
  | .vendorRawSamples words => Sys2Proof.Machine.execVendorRawSamples words s
  | .keyCmdLoad c w any slot => Sys2Proof.Machine.execKeyCmdLoad c w any slot s
  | .keyCmdImport c w any kw slot => Sys2Proof.Machine.execKeyCmdImport c w any kw slot s
  | .keyCmdExport c w kw => Sys2Proof.Machine.execKeyCmdExport c w kw s
  | .keyCmdBlob c w => Sys2Proof.Machine.execKeyCmdBlob c w s
  | .keyCmdGenerate c w any slot => Sys2Proof.Machine.execKeyCmdGenerate c w any slot s
  | .keyCmdUnload c w => Sys2Proof.Machine.execKeyCmdUnload c w s
  | .keyCmdQuery c w => Sys2Proof.Machine.execKeyCmdQuery c w s
  | .keyBlobInWrite c w v => Sys2Proof.Machine.execKeyBlobInWrite c w v s
  | .keyBlobOutRead c w => Sys2Proof.Machine.execKeyBlobOutRead c w s
  | .keyChannelDone c => Sys2Proof.Machine.execKeyChannelDone c s
  | .keyZeroAll level => Sys2Proof.Machine.execKeyZeroAll level s
  | .zeroisationDone => Sys2Proof.Machine.execZeroisationDone s
  | .runZeroise slot => Sys2Proof.Machine.execRunZeroise slot s
  | .mpuFenceGo m level => Sys2Proof.Machine.execMpuFenceGo m level s
  | .mpuFenceDone m => Sys2Proof.Machine.execMpuFenceDone m s
  | .mpuFaultClear m level => Sys2Proof.Machine.execMpuFaultClear m level s
  | .dmaMpuFault m addr size write => Sys2Proof.Machine.execDmaMpuFault m addr size write s
  | .interrupt c line e => Sys2Proof.Machine.execInterrupt c line e s
  | .nmi c e => Sys2Proof.Machine.execNmi c e s
  | .lockstepMismatch c => Sys2Proof.Machine.execLockstepMismatch c s
  | .reservationExpiry c => Sys2Proof.Machine.execReservationExpiry c s
  | .writeBufferDrain c err => Sys2Proof.Machine.execWriteBufferDrain c err s
  | .nop c x => Sys2Proof.Machine.execNop c x s
  | .ld c x => Sys2Proof.Machine.execLd c x s
  | .ldu c x => Sys2Proof.Machine.execLdu c x s
  | .st c x => Sys2Proof.Machine.execSt c x s
  | .lda c x => Sys2Proof.Machine.execLda c x s
  | .sta c x => Sys2Proof.Machine.execSta c x s
  | .mov c x => Sys2Proof.Machine.execMov c x s
  | .ldh c x => Sys2Proof.Machine.execLdh c x s
  | .add c x => Sys2Proof.Machine.execAdd c x s
  | .adc c x => Sys2Proof.Machine.execAdc c x s
  | .sub c x => Sys2Proof.Machine.execSub c x s
  | .sbc c x => Sys2Proof.Machine.execSbc c x s
  | .cmp c x => Sys2Proof.Machine.execCmp c x s
  | .and c x => Sys2Proof.Machine.execAnd c x s
  | .or c x => Sys2Proof.Machine.execOr c x s
  | .xor c x => Sys2Proof.Machine.execXor c x s
  | .shl c x => Sys2Proof.Machine.execShl c x s
  | .shr c x => Sys2Proof.Machine.execShr c x s
  | .asr c x => Sys2Proof.Machine.execAsr c x s
  | .rol c x => Sys2Proof.Machine.execRol c x s
  | .tst c x => Sys2Proof.Machine.execTst c x s
  | .lea c x => Sys2Proof.Machine.execLea c x s
  | .mul c x => Sys2Proof.Machine.execMul c x s
  | .mulh c x => Sys2Proof.Machine.execMulh c x s
  | .ext c x => Sys2Proof.Machine.execExt c x s
  | .push c x => Sys2Proof.Machine.execPush c x s
  | .pop c x => Sys2Proof.Machine.execPop c x s
  | .divu c x => Sys2Proof.Machine.execDivu c x s
  | .divs c x => Sys2Proof.Machine.execDivs c x s
  | .mpy c x => Sys2Proof.Machine.execMpy c x s
  | .mac c x => Sys2Proof.Machine.execMac c x s
  | .msu c x => Sys2Proof.Machine.execMsu c x s
  | .adda c x => Sys2Proof.Machine.execAdda c x s
  | .suba c x => Sys2Proof.Machine.execSuba c x s
  | .rnd c x => Sys2Proof.Machine.execRnd c x s
  | .sata c x => Sys2Proof.Machine.execSata c x s
  | .nrm c x => Sys2Proof.Machine.execNrm c x s
  | .abs c x => Sys2Proof.Machine.execAbs c x s
  | .neg c x => Sys2Proof.Machine.execNeg c x s
  | .clra c x => Sys2Proof.Machine.execClra c x s
  | .ldf c x => Sys2Proof.Machine.execLdf c x s
  | .asla c x => Sys2Proof.Machine.execAsla c x s
  | .asra c x => Sys2Proof.Machine.execAsra c x s
  | .mova c x => Sys2Proof.Machine.execMova c x s
  | .cmpa c x => Sys2Proof.Machine.execCmpa c x s
  | .bra c x => Sys2Proof.Machine.execBra c x s
  | .beq c x => Sys2Proof.Machine.execBeq c x s
  | .bne c x => Sys2Proof.Machine.execBne c x s
  | .blt c x => Sys2Proof.Machine.execBlt c x s
  | .bge c x => Sys2Proof.Machine.execBge c x s
  | .bgt c x => Sys2Proof.Machine.execBgt c x s
  | .ble c x => Sys2Proof.Machine.execBle c x s
  | .blo c x => Sys2Proof.Machine.execBlo c x s
  | .bhs c x => Sys2Proof.Machine.execBhs c x s
  | .bhi c x => Sys2Proof.Machine.execBhi c x s
  | .bls c x => Sys2Proof.Machine.execBls c x s
  | .bmi c x => Sys2Proof.Machine.execBmi c x s
  | .bpl c x => Sys2Proof.Machine.execBpl c x s
  | .bvs c x => Sys2Proof.Machine.execBvs c x s
  | .bvc c x => Sys2Proof.Machine.execBvc c x s
  | .bsv c x => Sys2Proof.Machine.execBsv c x s
  | .call c x => Sys2Proof.Machine.execCall c x s
  | .ret c x => Sys2Proof.Machine.execRet c x s
  | .rte c x => Sys2Proof.Machine.execRte c x s
  | .trap c x => Sys2Proof.Machine.execTrap c x s
  | .tas c x => Sys2Proof.Machine.execTas c x s
  | .ldrs c x => Sys2Proof.Machine.execLdrs c x s
  | .stcd c x => Sys2Proof.Machine.execStcd c x s
  | .mbar c x => Sys2Proof.Machine.execMbar c x s
  | .ibar c x => Sys2Proof.Machine.execIbar c x s
  | .mfs c x => Sys2Proof.Machine.execMfs c x s
  | .mts c x => Sys2Proof.Machine.execMts c x s
  | .wait c x => Sys2Proof.Machine.execWait c x s
  | .userDecode c n x => Sys2Proof.Machine.execUserDecode c n x s
  | .reservedOpcode c op x => Sys2Proof.Machine.execReservedOpcode c op x s
  | .registerWrite w addr v => Sys2Proof.Machine.execRegisterWrite w addr v s
  | .linkL0 => Sys2Proof.Machine.execLinkL0 s
  | .fwReady => Sys2Proof.Machine.execFwReady s
  | .d0ToD3hot f => Sys2Proof.Machine.execD0ToD3hot f s
  | .memorySpaceEnableWrite f v => Sys2Proof.Machine.execMemorySpaceEnableWrite f v s
  | .msixVectorUnmask f vector => Sys2Proof.Machine.execMsixVectorUnmask f vector s
  | .alarmSourceDeassert src => Sys2Proof.Machine.execAlarmSourceDeassert src s
  | .pkeLoadDone n => Sys2Proof.Machine.execPkeLoadDone n s
  | .fieldHoldEnd => Sys2Proof.Machine.execFieldHoldEnd s
  | .sectorFrameSent port => Sys2Proof.Machine.execSectorFrameSent port s
  | .iccCardInserted k => Sys2Proof.Machine.execIccCardInserted k s
  | .iccExchangeEnd k response => Sys2Proof.Machine.execIccExchangeEnd k response s
  | .sdCfgWrite p level v => Sys2Proof.Machine.execSdCfgWrite p level v s
  | .iccCfgWrite k level v => Sys2Proof.Machine.execIccCfgWrite k level v s
  | .digEnWrite level v => Sys2Proof.Machine.execDigEnWrite level v s
  | .pwrUnitEnWrite writer map => Sys2Proof.Machine.execPwrUnitEnWrite writer map s
  | .wltCfgWrite level v => Sys2Proof.Machine.execWltCfgWrite level v s

end Sys2Proof.Machine
end

