-- ==== Sys2Proof/Safety.lean ====
section
/-! DEFINITION. What a safe run of the block is: every step answers a next state, and the invariants of the random number
block, of the memory and of the cores hold. -/

namespace Sys2Proof.Machine

/-- The seed buffer holds at most 8 class K blocks, and none before the start-up tests have ended, in audit mode, or while
class K is unavailable (12 R362, R376, R378). -/
def Rng.Ok (r : Rng) : Prop :=
  r.buffer.length ≤ 8 ∧ (r.tested = false ∨ r.audit = true ∨ r.kAvail = false → r.buffer = [])

/-- The invariant of the block: that of the random number block, and the memory and the bank of cores in canonical form. -/
def State.Inv (s : State) : Prop := s.rng.Ok ∧ s.mem.wf ∧ Bank.wf {} s.cores

/-- A command is answered with a next state. -/
def Answers (i : Instr) (s : State) : Prop := ∃ t, exec i s = .next t

/-- A command whose notice firmware takes, that passes every check of R114 and of its quorum, and that nothing makes wait (04 R112,
R114, R119). -/
abbrev Call.Accepted (c : Call) (s : State) : Prop :=
  s.takes c.hdr.fn.val = true ∧ refusalCode s c.hdr = none ∧ headErr s c.hdr = none ∧ c.phaseOk s = true ∧ c.roleErr s = none
    ∧ s.fw.waiting.length < 1024 ∧ c.blocked s = false ∧ c.bodyErr = none
    ∧ (c.quorum.all fun q => s.fw.ticketOk c.opc q.1 q.2) = true

/-- The state in which an accepted command has its effect: a quorum ticket is spent (R155). -/
def Call.begun (c : Call) (s : State) : State :=
  if c.quorum.isSome then s.withFw fun x => { x with quorum := none } else s

/-- Core `c` runs, the fetch at its PC is allowed, and what it fetches is the instruction of opcode `op` with the fields of `i`
(18 R501, R523; 19 R532). -/
def State.Fetches (c op : Nat) (i : AwlIn) (s : State) : Prop :=
  (s.core c).runs = true ∧ (s.tick c).fetchExc c i = none ∧ (s.tick c).fetched c = awlWord op i

/-- What a branch leaves: the PC at EA where its condition holds, else at the next instruction (18 R514). -/
def State.branched (c : Nat) (i : AwlIn) (taken : Bool) (s : State) : State :=
  if taken then s.updCore c fun k => { k with pc := k.ea i } else s.retire c id

/-- The microprogram of the entry for opcode 0xF0 + n as core `c` decodes it, with the operands of an instruction (20 R555, R556). -/
def State.userEnv (c n : Nat) (i : AwlIn) (s : State) : UserEnv :=
  let k := s.core c
  { c := c, k := k, ea := if amOf i = 0 then sext16 i else k.ea i, i := i, op := 0xF0 + n,
    count := (entryDesc k.decode n).toNat / 2 ^ 20 % 32, words := (List.range 16).map (entryWord k.decode n) }

end Sys2Proof.Machine
end

