-- ==== Sys2Proof/WellFormed.lean ====
section
/-! DEFINITION. The commands that something outside the block can really send: the byte strings and lists of a command have
the lengths that the command's own fields, or the interface that carries it, give them.  The meanings are total: an ill-formed
command has a meaning too (its strings are padded or cut), and nothing outside sends one. -/

namespace Sys2Proof

/-- The header of a command as firmware reads it: no more body bytes than the block holds after its 64 header bytes (04
R114 check 15). -/
def CmdHdr.wf (h : CmdHdr) : Bool := decide (h.bodyRead ≤ 1048512)

/-- An image as read: no more bytes than the longest image has (02 R55 code 0x10). -/
def Image.wf (g : Image) : Bool := decide (g.data.length ≤ 0x400000)

/-- The records of a mirror frame have their stated sizes (16 R464, R465). -/
def MirrorRec.wf : MirrorRec → Bool
  | .context _ _ entry => decide (entry.length = 128)
  | .staged _ _ header tag _ => decide (header.length = 32 ∧ tag.length = 16)
  | _ => true

/-- No source stands twice in a tick of assertions, and a tick holds at least one (13 R396). -/
def tickWf : List (Fin 57 × Word) → Bool
  | [] => false
  | l => decide (l.map Prod.fst).Nodup

/-- The whole body of a command has been read, so a string in it is as long as its length field says. -/
def bodyOk (h : CmdHdr) (whole : Bool) : Bool := h.wf && (decide (h.bodyRead < h.reqLen.toNat - 64) || whole)

/-- A command that something outside the block can send. -/
def Instr.wf : Instr → Bool
  | .ideKmKeyProg _ _ _ key => decide (key.length = 32)
  | .imageVerifyDone img => img.wf
  | .fwStageVerifyDone img _ => img.wf
  | .sessionOpen h _ _ _ _ n sig => bodyOk h (decide (sig.length = n.toNat))
  | .keyImport h _ _ _ _ n _ wrapped => bodyOk h (decide (wrapped.length = n.toNat))
  | .keyLoad h _ _ n blob => bodyOk h (decide (blob.length = n.toNat))
  | .payBlockImport h _ n block => bodyOk h (decide (block.length = n.toNat))
  | .tagSetAuditKey h n _ blob => bodyOk h (decide (blob.length = n.toNat))
  | .domainJoin h _ m n _ a b => bodyOk h (decide (a.length = m.toNat ∧ b.length = n.toNat))
  | .epochFloor h _ _ _ n _ sig => bodyOk h (decide (sig.length = n.toNat))
  | .verify h _ _ _ n m data sig => bodyOk h (decide (data.length = n.toNat ∧ sig.length = m.toNat))
  | .extLoad h _ n p => bodyOk h (decide (p.length = n.toNat))
  | .keyDerive h _ _ _ n _ ctx => bodyOk h (decide (ctx.length = n.toNat))
  | .sign h _ _ _ n _ data => bodyOk h (decide (data.length = n.toNat))
  | .seal h _ a _ n _ aad data => bodyOk h (decide (aad.length = a.toNat ∧ data.length = n.toNat))
  | .unseal h _ a _ n _ aad sealed => bodyOk h (decide (aad.length = a.toNat ∧ sealed.length = n.toNat))
  | .agree h _ n _ peer => bodyOk h (decide (peer.length = n.toNat))
  | .decaps h _ n _ ct => bodyOk h (decide (ct.length = n.toNat))
  | .payBlockExport h _ _ n _ opt => bodyOk h (decide (opt.length = n.toNat))
  | .alarmTableSet h _ _ table => bodyOk h (decide (table.length = 64))
  | .cardWrite h _ _ _ n _ data _ => bodyOk h (decide (data.length = 512 * n.toNat))
  | .iccApdu h _ _ n apdu _ => bodyOk h (decide (apdu.length = n.toNat))
  | .tagPost h _ _ _ data => bodyOk h (decide (data.length = 64))
  | .mgtConfig h _ _ _ n chain => bodyOk h (decide (chain.length = n.toNat))
  | .shelfDown h shadows => h.wf && decide (shadows.map Prod.fst).Nodup
  | .descriptorArrival _ d => decide (64 ≤ d.length ∧ d.length ≤ 512 ∧ d.length % 64 = 0)
  | .descriptorReadEarlyEnd _ d _ => decide (d.length < 512)
  | .alarmAssert tick => tickWf tick
  | .select aid => decide (aid.length ≤ 16)
  | .readPage _ _ data _ => decide (data.length ≤ 255)
  | .auth1 data _ => decide (data.length ≤ 255)
  | .auth2 data _ => decide (data.length ≤ 255)
  | .writeNotes _ data _ _ => decide (data.length ≤ 255)
  | .readLog data _ => decide (data.length ≤ 255)
  | .getStatus data _ => decide (data.length ≤ 255)
  | .hello fr _ => decide (fr.body.length = 56)
  | .confirm fr => decide (fr.body.length = 48)
  | .heartbeat fr => decide (fr.body.length = 32)
  | .ack fr => decide (fr.body.length = 24)
  | .depart fr => decide (fr.body.length = 24)
  | .mirror fr _ r => r.wf && decide (32 ≤ fr.body.length ∧ fr.body.length ≤ 4112)
  | .quorumPresent _ _ _ _ _ _ (.file blocks) => decide (blocks.length = 16 * 512)
  | .barBadAccess _ x => decide (x.size ≤ 4096)
  | .bind fr _ => decide (fr.body.length = 48)
  | .sensorRefresh readings => decide (readings.length = 19)
  | _ => true

end Sys2Proof
end

