-- ==== Sys2Proof/Certificates/Slice0/Obligations.lean ====
section
/-! DEFINITION. The statements about the block, for the provers. -/

open Sys2Proof Sys2Proof.Machine

/-- A step takes the command at the front of the queue and runs it with the queue's rest (95 lists what each row holds; log entry 1). -/
def Obligations.StepRunsFront : Prop :=
(∀ (c : Instr) (rest : List Instr) (s : State), step { s with pending := c :: rest } = exec c
      { s with pending := rest })

/-- On an empty queue the block idles: time passes (log entry 2, the model's choice).  In a main-domain reset only the Insole domain's clock runs (02 R41; 14 R413). -/
def Obligations.StepIdles : Prop :=
(∀ (s : State), s.pending = [] → step s = .next s.idle ∧ s.idle.pending = []) ∧
(∀ (s : State), s.boot.inReset = true → s.idle =
      { s with freeCount := s.freeCount + 2, insole := { s.insole with rtc := satAdd s.insole.rtc (Config.freeNat (s.freeCount + 1)) } })

/-- The reset column of the register tables, for registers of every block (03 R89; 07 R259; 11 R360; 12 R382; 05 R182; 13 R410; 08 R290; 09 R314; 15 R458; 14 R436; 17 R497; 02 R51). -/
def Obligations.ResetRegisters : Prop :=
(∀ (p : Nat × Word), p ∈ ([(0x21000010, 0xFFFFFFFF), (0x2100001C, 10000), (0x21000018, 0), (0x22000000, 65535),
      (0x22000004, 65536), (0x22000008, 256), (0x23001010, 15), (0x2500010C, 100000), (0x25000000, 0), (0x26001000, 0),
      (0x26001008, 65536), (0x28000080, 0), (0x28000090, 0xFFFFFFFF), (0x28000094, 0x1FFFFFF), (0x2800009C, 0),
      (0x29000000, 68), (0x29000004, 0), (0x29011000, 0x2222000), (0x29011004, 16384), (0x29011008, 0x40000),
      (0x2A000000, 2), (0x2A002000, 34), (0x2B000000, 12), (0x2B000008, 1000), (0x2C000000, 0), (0x2D000000,
      0xFFFFFFFF), (0x2D000004, 7), (0x2E001018, 0), (0x2E00101C, 0), (0x2F000000, 32)] : List (Nat × Word)) → regWord
      State.reset p.1 = some p.2)

/-- The default response codes at a main-domain reset, and their replacement by firmware (13 R394). -/
def Obligations.AlarmDefaults : Prop :=
(∀ (s : State) (k : Nat), k < 64 → Bank.get 0 s.mainReset.alarm.resp k = (if k = 39 then 6 else if k ∈ [32, 37, 38, 40,
      49, 50, 51, 52, 53] then 5 else if k = 54 then 2 else if k ∈ [3, 13, 23, 35, 43, 44, 45, 46, 48, 55, 56] then 1
      else if k < 57 then 4 else 0)) ∧
(∀ (k : Nat), k < 64 → Bank.get 0 State.reset.alarm.resp k = Bank.get 0 State.reset.mainReset.alarm.resp k) ∧
(∀ (k : Fin 16) (v : Word) (s : State), exec (.almRespWrite .machine k v) s = .next ((s.withAlarm fun a =>
      { a with resp := setResp k.val v a.resp }).withLog fun l => { l with kept := setResp k.val v l.kept }))

/-- The invariant of the block holds at reset: an empty seed buffer, memory and cores in canonical form (12 R362, R376). -/
def Obligations.ResetInvariant : Prop :=
(State.reset.Inv)

/-- A value of NumVFs above 63 is ignored; a poisoned write is dropped and recorded in AER (03 R73, R76). -/
def Obligations.LinkWriteRules : Prop :=
(∀ (v : Half) (s : State), 63 < v.toNat → exec (.numVfsWrite v) s = .next s) ∧
(∀ (f : Fin 64) (s : State), exec (.poisonedWrite f) s = .next (s.withPcie fun p =>
      { p with aerPoisoned := p.aerPoisoned + 1 }))

/-- No command touches the queue: a step takes its front away and leaves the rest (95; log entry 1). -/
def Obligations.QueueFifo : Prop :=
(∀ (s t : State), step s = .next t → t.pending = s.pending.tail)

/-- No command lowers a version floor (a fuse count), and none changes the lifecycle state (02 R52, R61). -/
def Obligations.FusesHold : Prop :=
(∀ (s t : State), step s = .next t → s.pins.fwFloor ≤ t.pins.fwFloor ∧ s.pins.cobFloor ≤ t.pins.cobFloor ∧
      s.pins.extFloor ≤ t.pins.extFloor ∧ t.pins.lifecycle = s.pins.lifecycle)

/-- The model stops on no command: every step from every state answers a next state (NOTES.md, Stops: none). -/
def Obligations.EveryStepAnswers : Prop :=
(∀ (s : State), ∃ t, step s = .next t)

/-- Every step, from every state, keeps the invariant: at most 8 class K blocks in the seed buffer, none before the start-up tests, in audit mode or while class K is unavailable (12 R362, R376, R378), and the memory and the cores in canonical form. -/
def Obligations.StepKeepsInvariant : Prop :=
(∀ (s t : State), s.Inv → step s = .next t → t.Inv)

/-- A reserved opcode, and a form outside the opcode table's columns, raises the illegal-instruction fault at the instruction's PC before any effect (18 R505, R507). -/
def Obligations.AwlIllegalForms : Prop :=
(∀ (c : CoreNo) (op : Byte) (i : AwlIn) (s : State), s.Fetches c.val op.toNat i → ((0x1D ≤ op.toNat ∧ op.toNat ≤ 0x1F) ∨
      (0x30 ≤ op.toNat ∧ op.toNat ≤ 0x3F) ∨ (0x54 ≤ op.toNat ∧ op.toNat ≤ 0x5F) ∨ (0x65 ≤ op.toNat ∧ op.toNat ≤ 0x6F) ∨
      (0x73 ≤ op.toNat ∧ op.toNat ≤ 0x7F) ∨ (0x80 ≤ op.toNat ∧ op.toNat ≤ 0xEF)) → exec (.reservedOpcode c op i) s =
      .next ((s.tick c.val).takeExc c.val { slot := 4 } ((s.tick c.val).core c.val).pc none i.entry)) ∧
(∀ (c : CoreNo) (i : AwlIn) (s : State), (amOf i ≠ 0 ∨ szOf i ≠ 0 ∨ modOf i ≠ 0 ∨ i.d16 ≠ 0) → ((s.Fetches c.val 0x00 i
      → exec (.nop c i) s = .next ((s.tick c.val).takeExc c.val { slot := 4 } ((s.tick c.val).core c.val).pc none
      i.entry)) ∧
        (s.Fetches c.val 0x26 i → exec (.sata c i) s = .next ((s.tick c.val).takeExc c.val { slot := 4 } ((s.tick
            c.val).core c.val).pc none i.entry)) ∧
        (s.Fetches c.val 0x28 i → exec (.abs c i) s = .next ((s.tick c.val).takeExc c.val { slot := 4 } ((s.tick
            c.val).core c.val).pc none i.entry)) ∧
        (s.Fetches c.val 0x29 i → exec (.neg c i) s = .next ((s.tick c.val).takeExc c.val { slot := 4 } ((s.tick
            c.val).core c.val).pc none i.entry)) ∧
        (s.Fetches c.val 0x2A i → exec (.clra c i) s = .next ((s.tick c.val).takeExc c.val { slot := 4 } ((s.tick
            c.val).core c.val).pc none i.entry)) ∧
        (s.Fetches c.val 0x51 i → exec (.ret c i) s = .next ((s.tick c.val).takeExc c.val { slot := 4 } ((s.tick
            c.val).core c.val).pc none i.entry)) ∧
        (s.Fetches c.val 0x52 i → exec (.rte c i) s = .next ((s.tick c.val).takeExc c.val { slot := 4 } ((s.tick
            c.val).core c.val).pc none i.entry)) ∧
        (s.Fetches c.val 0x63 i → exec (.mbar c i) s = .next ((s.tick c.val).takeExc c.val { slot := 4 } ((s.tick
            c.val).core c.val).pc none i.entry)) ∧
        (s.Fetches c.val 0x64 i → exec (.ibar c i) s = .next ((s.tick c.val).takeExc c.val { slot := 4 } ((s.tick
            c.val).core c.val).pc none i.entry)) ∧
        (s.Fetches c.val 0x72 i → exec (.wait c i) s = .next ((s.tick c.val).takeExc c.val { slot := 4 } ((s.tick
            c.val).core c.val).pc none i.entry)))) ∧
(∀ (c : CoreNo) (i : AwlIn) (s : State), (szOf i = 3 ∨ 4 < modOf i) → ((s.Fetches c.val 0x01 i → exec (.ld c i) s =
      .next ((s.tick c.val).takeExc c.val { slot := 4 } ((s.tick c.val).core c.val).pc none i.entry)) ∧
        (s.Fetches c.val 0x02 i → exec (.ldu c i) s = .next ((s.tick c.val).takeExc c.val { slot := 4 } ((s.tick
            c.val).core c.val).pc none i.entry)) ∧
        (s.Fetches c.val 0x08 i → exec (.add c i) s = .next ((s.tick c.val).takeExc c.val { slot := 4 } ((s.tick
            c.val).core c.val).pc none i.entry)) ∧
        (s.Fetches c.val 0x09 i → exec (.adc c i) s = .next ((s.tick c.val).takeExc c.val { slot := 4 } ((s.tick
            c.val).core c.val).pc none i.entry)) ∧
        (s.Fetches c.val 0x0A i → exec (.sub c i) s = .next ((s.tick c.val).takeExc c.val { slot := 4 } ((s.tick
            c.val).core c.val).pc none i.entry)) ∧
        (s.Fetches c.val 0x0B i → exec (.sbc c i) s = .next ((s.tick c.val).takeExc c.val { slot := 4 } ((s.tick
            c.val).core c.val).pc none i.entry)) ∧
        (s.Fetches c.val 0x0C i → exec (.cmp c i) s = .next ((s.tick c.val).takeExc c.val { slot := 4 } ((s.tick
            c.val).core c.val).pc none i.entry)) ∧
        (s.Fetches c.val 0x0D i → exec (.and c i) s = .next ((s.tick c.val).takeExc c.val { slot := 4 } ((s.tick
            c.val).core c.val).pc none i.entry)) ∧
        (s.Fetches c.val 0x0E i → exec (.or c i) s = .next ((s.tick c.val).takeExc c.val { slot := 4 } ((s.tick
            c.val).core c.val).pc none i.entry)) ∧
        (s.Fetches c.val 0x0F i → exec (.xor c i) s = .next ((s.tick c.val).takeExc c.val { slot := 4 } ((s.tick
            c.val).core c.val).pc none i.entry)) ∧
        (s.Fetches c.val 0x10 i → exec (.shl c i) s = .next ((s.tick c.val).takeExc c.val { slot := 4 } ((s.tick
            c.val).core c.val).pc none i.entry)) ∧
        (s.Fetches c.val 0x11 i → exec (.shr c i) s = .next ((s.tick c.val).takeExc c.val { slot := 4 } ((s.tick
            c.val).core c.val).pc none i.entry)) ∧
        (s.Fetches c.val 0x12 i → exec (.asr c i) s = .next ((s.tick c.val).takeExc c.val { slot := 4 } ((s.tick
            c.val).core c.val).pc none i.entry)) ∧
        (s.Fetches c.val 0x13 i → exec (.rol c i) s = .next ((s.tick c.val).takeExc c.val { slot := 4 } ((s.tick
            c.val).core c.val).pc none i.entry)) ∧
        (s.Fetches c.val 0x14 i → exec (.tst c i) s = .next ((s.tick c.val).takeExc c.val { slot := 4 } ((s.tick
            c.val).core c.val).pc none i.entry)) ∧
        (s.Fetches c.val 0x16 i → exec (.mul c i) s = .next ((s.tick c.val).takeExc c.val { slot := 4 } ((s.tick
            c.val).core c.val).pc none i.entry)) ∧
        (s.Fetches c.val 0x17 i → exec (.mulh c i) s = .next ((s.tick c.val).takeExc c.val { slot := 4 } ((s.tick
            c.val).core c.val).pc none i.entry)) ∧
        (s.Fetches c.val 0x1B i → exec (.divu c i) s = .next ((s.tick c.val).takeExc c.val { slot := 4 } ((s.tick
            c.val).core c.val).pc none i.entry)) ∧
        (s.Fetches c.val 0x1C i → exec (.divs c i) s = .next ((s.tick c.val).takeExc c.val { slot := 4 } ((s.tick
            c.val).core c.val).pc none i.entry)))) ∧
(∀ (c : CoreNo) (i : AwlIn) (s : State), s.Fetches c.val 0x03 i → (amOf i = 0 ∨ szOf i = 3 ∨ 4 < modOf i) → exec (.st c
      i) s = .next ((s.tick c.val).takeExc c.val { slot := 4 } ((s.tick c.val).core c.val).pc none i.entry)) ∧
(∀ (c : CoreNo) (i : AwlIn) (s : State), s.Fetches c.val 0x04 i → (szOf i < 2 ∨ (szOf i = 3 ∧ amOf i = 0) ∨ modOf i ≠ 0)
      → exec (.lda c i) s = .next ((s.tick c.val).takeExc c.val { slot := 4 } ((s.tick c.val).core c.val).pc none
      i.entry)) ∧
(∀ (c : CoreNo) (i : AwlIn) (s : State), s.Fetches c.val 0x05 i → (amOf i = 0 ∨ szOf i < 2 ∨ modOf i ≠ 0) → exec (.sta c
      i) s = .next ((s.tick c.val).takeExc c.val { slot := 4 } ((s.tick c.val).core c.val).pc none i.entry)) ∧
(∀ (c : CoreNo) (i : AwlIn) (s : State), s.Fetches c.val 0x06 i → (amOf i ≠ 0 ∨ szOf i ≠ 2 ∨ 4 < modOf i ∨ 4 < d16Of i)
      → exec (.mov c i) s = .next ((s.tick c.val).takeExc c.val { slot := 4 } ((s.tick c.val).core c.val).pc none
      i.entry)) ∧
(∀ (c : CoreNo) (i : AwlIn) (s : State), s.Fetches c.val 0x07 i → (amOf i ≠ 0 ∨ szOf i ≠ 2 ∨ 4 < modOf i) → exec (.ldh c
      i) s = .next ((s.tick c.val).takeExc c.val { slot := 4 } ((s.tick c.val).core c.val).pc none i.entry)) ∧
(∀ (c : CoreNo) (i : AwlIn) (s : State), s.Fetches c.val 0x15 i → (amOf i = 0 ∨ szOf i ≠ 2 ∨ 4 < modOf i) → exec (.lea c
      i) s = .next ((s.tick c.val).takeExc c.val { slot := 4 } ((s.tick c.val).core c.val).pc none i.entry)) ∧
(∀ (c : CoreNo) (i : AwlIn) (s : State), s.Fetches c.val 0x18 i → (amOf i ≠ 0 ∨ 1 < szOf i ∨ 4 < modOf i ∨ i.d16 ≠ 0) →
      exec (.ext c i) s = .next ((s.tick c.val).takeExc c.val { slot := 4 } ((s.tick c.val).core c.val).pc none
      i.entry)) ∧
(∀ (c : CoreNo) (i : AwlIn) (s : State), (amOf i ≠ 0 ∨ szOf i ≠ 2 ∨ 4 < modOf i ∨ i.d16 ≠ 0) → ((s.Fetches c.val 0x19 i
      → exec (.push c i) s = .next ((s.tick c.val).takeExc c.val { slot := 4 } ((s.tick c.val).core c.val).pc none
      i.entry)) ∧
        (s.Fetches c.val 0x1A i → exec (.pop c i) s = .next ((s.tick c.val).takeExc c.val { slot := 4 } ((s.tick
            c.val).core c.val).pc none i.entry)))) ∧
(∀ (c : CoreNo) (i : AwlIn) (s : State), (szOf i ≠ 2 ∨ 1 < modOf i) → ((s.Fetches c.val 0x20 i → exec (.mpy c i) s =
      .next ((s.tick c.val).takeExc c.val { slot := 4 } ((s.tick c.val).core c.val).pc none i.entry)) ∧
        (s.Fetches c.val 0x21 i → exec (.mac c i) s = .next ((s.tick c.val).takeExc c.val { slot := 4 } ((s.tick
            c.val).core c.val).pc none i.entry)) ∧
        (s.Fetches c.val 0x22 i → exec (.msu c i) s = .next ((s.tick c.val).takeExc c.val { slot := 4 } ((s.tick
            c.val).core c.val).pc none i.entry)))) ∧
(∀ (c : CoreNo) (i : AwlIn) (s : State), (szOf i ≠ 2 ∨ modOf i ≠ 0) → ((s.Fetches c.val 0x23 i → exec (.adda c i) s =
      .next ((s.tick c.val).takeExc c.val { slot := 4 } ((s.tick c.val).core c.val).pc none i.entry)) ∧
        (s.Fetches c.val 0x24 i → exec (.suba c i) s = .next ((s.tick c.val).takeExc c.val { slot := 4 } ((s.tick
            c.val).core c.val).pc none i.entry)) ∧
        (s.Fetches c.val 0x2C i → exec (.asla c i) s = .next ((s.tick c.val).takeExc c.val { slot := 4 } ((s.tick
            c.val).core c.val).pc none i.entry)) ∧
        (s.Fetches c.val 0x2D i → exec (.asra c i) s = .next ((s.tick c.val).takeExc c.val { slot := 4 } ((s.tick
            c.val).core c.val).pc none i.entry)) ∧
        (s.Fetches c.val 0x2F i → exec (.cmpa c i) s = .next ((s.tick c.val).takeExc c.val { slot := 4 } ((s.tick
            c.val).core c.val).pc none i.entry)))) ∧
(∀ (c : CoreNo) (i : AwlIn) (s : State), s.Fetches c.val 0x25 i → (amOf i ≠ 0 ∨ szOf i ≠ 2 ∨ modOf i ≠ 0 ∨ 31 < d16Of i)
      → exec (.rnd c i) s = .next ((s.tick c.val).takeExc c.val { slot := 4 } ((s.tick c.val).core c.val).pc none
      i.entry)) ∧
(∀ (c : CoreNo) (i : AwlIn) (s : State), s.Fetches c.val 0x27 i → (amOf i ≠ 0 ∨ szOf i ≠ 0 ∨ 1 < modOf i ∨ i.d16 ≠ 0) →
      exec (.nrm c i) s = .next ((s.tick c.val).takeExc c.val { slot := 4 } ((s.tick c.val).core c.val).pc none
      i.entry)) ∧
(∀ (c : CoreNo) (i : AwlIn) (s : State), s.Fetches c.val 0x2B i → (szOf i = 3 ∨ modOf i ≠ 0) → exec (.ldf c i) s = .next
      ((s.tick c.val).takeExc c.val { slot := 4 } ((s.tick c.val).core c.val).pc none i.entry)) ∧
(∀ (c : CoreNo) (i : AwlIn) (s : State), s.Fetches c.val 0x2E i → (amOf i ≠ 0 ∨ szOf i ≠ 0 ∨ 4 < modOf i ∨ i.d16 ≠ 0) →
      exec (.mova c i) s = .next ((s.tick c.val).takeExc c.val { slot := 4 } ((s.tick c.val).core c.val).pc none
      i.entry)) ∧
(∀ (c : CoreNo) (i : AwlIn) (s : State), (amOf i ∉ [1, 2, 3, 7] ∨ szOf i ≠ 2 ∨ modOf i ≠ 0) → ((s.Fetches c.val 0x40 i →
      exec (.bra c i) s = .next ((s.tick c.val).takeExc c.val { slot := 4 } ((s.tick c.val).core c.val).pc none
      i.entry)) ∧
        (s.Fetches c.val 0x41 i → exec (.beq c i) s = .next ((s.tick c.val).takeExc c.val { slot := 4 } ((s.tick
            c.val).core c.val).pc none i.entry)) ∧
        (s.Fetches c.val 0x42 i → exec (.bne c i) s = .next ((s.tick c.val).takeExc c.val { slot := 4 } ((s.tick
            c.val).core c.val).pc none i.entry)) ∧
        (s.Fetches c.val 0x43 i → exec (.blt c i) s = .next ((s.tick c.val).takeExc c.val { slot := 4 } ((s.tick
            c.val).core c.val).pc none i.entry)) ∧
        (s.Fetches c.val 0x44 i → exec (.bge c i) s = .next ((s.tick c.val).takeExc c.val { slot := 4 } ((s.tick
            c.val).core c.val).pc none i.entry)) ∧
        (s.Fetches c.val 0x45 i → exec (.bgt c i) s = .next ((s.tick c.val).takeExc c.val { slot := 4 } ((s.tick
            c.val).core c.val).pc none i.entry)) ∧
        (s.Fetches c.val 0x46 i → exec (.ble c i) s = .next ((s.tick c.val).takeExc c.val { slot := 4 } ((s.tick
            c.val).core c.val).pc none i.entry)) ∧
        (s.Fetches c.val 0x47 i → exec (.blo c i) s = .next ((s.tick c.val).takeExc c.val { slot := 4 } ((s.tick
            c.val).core c.val).pc none i.entry)) ∧
        (s.Fetches c.val 0x48 i → exec (.bhs c i) s = .next ((s.tick c.val).takeExc c.val { slot := 4 } ((s.tick
            c.val).core c.val).pc none i.entry)) ∧
        (s.Fetches c.val 0x49 i → exec (.bhi c i) s = .next ((s.tick c.val).takeExc c.val { slot := 4 } ((s.tick
            c.val).core c.val).pc none i.entry)) ∧
        (s.Fetches c.val 0x4A i → exec (.bls c i) s = .next ((s.tick c.val).takeExc c.val { slot := 4 } ((s.tick
            c.val).core c.val).pc none i.entry)) ∧
        (s.Fetches c.val 0x4B i → exec (.bmi c i) s = .next ((s.tick c.val).takeExc c.val { slot := 4 } ((s.tick
            c.val).core c.val).pc none i.entry)) ∧
        (s.Fetches c.val 0x4C i → exec (.bpl c i) s = .next ((s.tick c.val).takeExc c.val { slot := 4 } ((s.tick
            c.val).core c.val).pc none i.entry)) ∧
        (s.Fetches c.val 0x4D i → exec (.bvs c i) s = .next ((s.tick c.val).takeExc c.val { slot := 4 } ((s.tick
            c.val).core c.val).pc none i.entry)) ∧
        (s.Fetches c.val 0x4E i → exec (.bvc c i) s = .next ((s.tick c.val).takeExc c.val { slot := 4 } ((s.tick
            c.val).core c.val).pc none i.entry)) ∧
        (s.Fetches c.val 0x4F i → exec (.bsv c i) s = .next ((s.tick c.val).takeExc c.val { slot := 4 } ((s.tick
            c.val).core c.val).pc none i.entry)) ∧
        (s.Fetches c.val 0x50 i → exec (.call c i) s = .next ((s.tick c.val).takeExc c.val { slot := 4 } ((s.tick
            c.val).core c.val).pc none i.entry)))) ∧
(∀ (c : CoreNo) (i : AwlIn) (s : State), s.Fetches c.val 0x53 i → (amOf i ≠ 0 ∨ szOf i ≠ 2 ∨ modOf i ≠ 0 ∨ 255 < d16Of
      i) → exec (.trap c i) s = .next ((s.tick c.val).takeExc c.val { slot := 4 } ((s.tick c.val).core c.val).pc none
      i.entry)) ∧
(∀ (c : CoreNo) (i : AwlIn) (s : State), (amOf i = 0 ∨ szOf i ≠ 2 ∨ 4 < modOf i) → ((s.Fetches c.val 0x60 i → exec (.tas
      c i) s = .next ((s.tick c.val).takeExc c.val { slot := 4 } ((s.tick c.val).core c.val).pc none i.entry)) ∧
        (s.Fetches c.val 0x61 i → exec (.ldrs c i) s = .next ((s.tick c.val).takeExc c.val { slot := 4 } ((s.tick
            c.val).core c.val).pc none i.entry)) ∧
        (s.Fetches c.val 0x62 i → exec (.stcd c i) s = .next ((s.tick c.val).takeExc c.val { slot := 4 } ((s.tick
            c.val).core c.val).pc none i.entry)))) ∧
(∀ (c : CoreNo) (i : AwlIn) (s : State), (amOf i ≠ 0 ∨ szOf i ≠ 2 ∨ 4 < modOf i ∨ 255 < d16Of i ∨ sysRights (d16Of i) =
      none) → ((s.Fetches c.val 0x70 i → exec (.mfs c i) s = .next ((s.tick c.val).takeExc c.val { slot := 4 } ((s.tick
      c.val).core c.val).pc none i.entry)) ∧
        (s.Fetches c.val 0x71 i → exec (.mts c i) s = .next ((s.tick c.val).takeExc c.val { slot := 4 } ((s.tick
            c.val).core c.val).pc none i.entry))))

/-- REG 0 to 4 are X, Y, DP, the SP of the current level and A; a write of A copies bit 31 into the guard; 5 to 7 are illegal (18 R502). -/
def Obligations.RegisterNames : Prop :=
(∀ (k : Core), k.reg 0 = k.x ∧ k.reg 1 = k.y ∧ k.reg 2 = k.dp ∧ k.reg 3 = k.sp k.level ∧ k.reg 4 = k.a.setWidth 32) ∧
(∀ (k : Core) (v : Word), k.setReg 0 v = { k with x := v } ∧ k.setReg 1 v = { k with y := v } ∧ k.setReg 2 v =
      { k with dp := v &&& 0xFFFF0000 } ∧ k.setReg 3 v = k.setSp k.level v ∧ (k.setReg 3 v).sp k.level = v ∧ k.setReg 4
      v = { k with a := (k.setReg 4 v).a } ∧ (k.setReg 4 v).a.setWidth 32 = v ∧ (∀ n, 32 ≤ n → n < 40 → (k.setReg 4
      v).a.getLsbD n = v.getLsbD 31)) ∧
(∀ (c : CoreNo) (i : AwlIn) (s : State), s.Fetches c.val 0x06 i → amOf i = 0 → szOf i = 2 → modOf i ≤ 4 → d16Of i ≤ 4 →
      exec (.mov c i) s = .next ((s.tick c.val).updCore c.val fun k =>
      { (k.setReg (modOf i) (k.reg (d16Of i))).setZN (k.reg (d16Of i)) with pc := k.pc + 4 })) ∧
(∀ (c : CoreNo) (i : AwlIn) (s : State), s.Fetches c.val 0x06 i → (4 < modOf i ∨ 4 < d16Of i) → exec (.mov c i) s =
      .next ((s.tick c.val).takeExc c.val { slot := 4 } ((s.tick c.val).core c.val).pc none i.entry))

/-- The operand of an instruction: D16 extended with AM 000, else the memory at EA, zero- or sign-extended; EA by addressing mode; the update of X and Y (18 R501, R503, R504). -/
def Obligations.AwlOperands : Prop :=
(∀ (k : Core) (i : AwlIn), (amOf i = 1 → k.ea i = k.dp + i.d16.setWidth 32) ∧ (amOf i = 2 → k.ea i = k.x +
      i.d16.signExtend 32) ∧ (amOf i = 3 → k.ea i = k.y + i.d16.signExtend 32) ∧ (amOf i = 4 → k.ea i = k.sp k.level +
      i.d16.signExtend 32) ∧ (amOf i = 5 → k.ea i = k.x ∧ k.postInc i = { k with x := k.x + i.d16.signExtend 32 }) ∧
      (amOf i = 6 → k.ea i = k.y ∧ k.postInc i = { k with y := k.y + i.d16.signExtend 32 }) ∧ (amOf i = 7 → k.ea i =
      k.pc + i.d16.signExtend 32 * 4) ∧ (amOf i ≠ 5 → amOf i ≠ 6 → k.postInc i = k)) ∧
(∀ (c : CoreNo) (i : AwlIn) (zi zm : Bool) (s : State), amOf i = 0 → s.operand c.val i zi zm = .ok ((if zi then
      i.d16.setWidth 32 else i.d16.signExtend 32), s)) ∧
(∀ (c : CoreNo) (i : AwlIn) (zi zm : Bool) (s : State), amOf i ≠ 0 → szOf i ≤ 2 → 0x80000 ≤ ((s.core c.val).ea i).toNat
      → ((s.core c.val).ea i).toNat + 2 ^ szOf i ≤ 0xA0000 → s.dataCheck c.val (s.core c.val).level ((s.core c.val).ea
      i).toNat (2 ^ szOf i) 0 (decide (amOf i = 4)) false = none → i.accessErr = none → s.operand c.val i zi zm = .ok
      ((if zm then BitVec.ofNat 32 (ofLe (Bank.readBytes (Bank.get [] s.mem.dtcm c.val) ((s.core c.val).ea i).toNat (2 ^
      szOf i))) else (BitVec.ofNat (8 * 2 ^ szOf i) (ofLe (Bank.readBytes (Bank.get [] s.mem.dtcm c.val) ((s.core
      c.val).ea i).toNat (2 ^ szOf i)))).signExtend 32), s))

/-- An exception whose frame passes its checks (19 R530, R533): level, PC at the vector slot, IPL, the stack pointer, the frame in data TCM, and what stays. -/
def Obligations.ExceptionEntry : Prop :=
(∀ (c : CoreNo) (e : Exc) (pc : Word) (env : EntryEnv) (l : Level) (s : State), e.mpu = none → e.ecc = none → e.slot ≠
      10 → takingLevel e.slot (s.core c.val).level = l → (s.core c.val).inReset = false → s.frameCheck c.val l = none →
      env.frameErr = false → (s.core c.val).wb = [] → 0x80020 ≤ ((s.core c.val).sp l).toNat → ((s.core c.val).sp
      l).toNat ≤ 0xA0000 → s.Inv → ∃ t, s.takeExc c.val e pc none env = t ∧ (t.core c.val).pc = BitVec.ofNat 32
      (0x00040000 + 16 * e.slot) ∧ (t.core c.val).level = l ∧ (t.core c.val).sp l = (s.core c.val).sp l - 32 ∧ (t.core
      c.val).resv = none ∧ ((e.slot = 1 ∨ e.slot = 2 ∨ e.slot = 3) → (t.core c.val).ipl = 7) ∧ (t.core c.val).x =
      (s.core c.val).x ∧ (t.core c.val).y = (s.core c.val).y ∧ (t.core c.val).a = (s.core c.val).a ∧ (t.core c.val).dp =
      (s.core c.val).dp ∧ Bank.readBytes (Bank.get [] t.mem.dtcm c.val) (((s.core c.val).sp l).toNat - 32) 32 =
      frameBytes (s.core c.val) (causeWord (s.core c.val) e) pc (((s.core c.val).sp l).toNat - 32) ∧ (∀ a, a < ((s.core
      c.val).sp l).toNat - 32 ∨ ((s.core c.val).sp l).toNat ≤ a → Bank.get 0 (Bank.get [] t.mem.dtcm c.val) a = Bank.get
      0 (Bank.get [] s.mem.dtcm c.val) a) ∧ t.mem.sram = s.mem.sram ∧ t.keys = s.keys ∧ t.rings = s.rings)

/-- A handle is checked in the order of 05 R168: check byte, slot, generation, owner, usage, and for a nonce-bearing use the epoch and EXHAUSTED. -/
def Obligations.HandleChecks : Prop :=
(∀ (k : Keys) (h : Word) (o : Option Half) (u : Option Nat), handleCheck h ≠ checkByte (h.toNat % 16777216) k.salt →
      k.lookup h o u = .error { status := Status.keyHandle, detail := h }) ∧
(∀ (k : Keys) (h : Word) (o : Option Half) (u : Option Nat), k.present (h.toNat % 32768) = none → k.lookup h o u =
      .error { status := Status.keyHandle, detail := h }) ∧
(∀ (k : Keys) (h : Word) (o : Option Half) (u : Option Nat) (r : KeyRun), handleCheck h = checkByte (h.toNat % 16777216)
      k.salt → k.present (h.toNat % 32768) = some r → (r.attr.generation.toNat ≠ h.toNat / 32768 % 512 → k.lookup h o u
      = .error { status := Status.keyStale, detail := h }) ∧ (r.attr.generation.toNat = h.toNat / 32768 % 512 → (∃ x, o
      = some x ∧ x ≠ r.attr.owner) → k.lookup h o u = .error { status := Status.keyOwner, detail := h }) ∧
      (r.attr.generation.toNat = h.toNat / 32768 % 512 → (∀ x, o = some x → x = r.attr.owner) → (∃ n, u = some n ∧
      r.attr.usage.getLsbD n = false) → k.lookup h o u = .error { status := Status.keyUsage, detail := h }) ∧
      (r.attr.generation.toNat = h.toNat / 32768 % 512 → (∀ x, o = some x → x = r.attr.owner) → (∀ n, u = some n →
      r.attr.usage.getLsbD n = true) → k.lookup h o u = .ok r)) ∧
(∀ (h : Word) (r : KeyRun), nonceCheck false h r = some { status := Status.epochUnset } ∧ (attrExhausted r.attr = true →
      nonceCheck true h r = some { status := Status.nonceExhausted, detail := h }) ∧ (attrExhausted r.attr = false →
      nonceCheck true h r = none))

/-- The condition on a doorbell or shadow value, in the counts' arithmetic, and what an accepted and a refused value do (06 R190, R192, R213). -/
def Obligations.DoorbellRule : Prop :=
(∀ (g : Ring) (v : Long), g.accepts v = true ↔ v.toNat / 2 ^ 32 = 0 ∧ (v.toNat + 2 ^ 32 - g.c.toNat) % 2 ^ 32 ≤ 2 ^
      g.size.toNat ∧ (g.f.toNat + 2 ^ 32 - g.c.toNat) % 2 ^ 32 ≤ (v.toNat + 2 ^ 32 - g.c.toNat) % 2 ^ 32) ∧
(∀ (f : Fin 64) (ring : Fin 16384) (v : Long) (s : State), (Bank.get {} s.pcie.fns f.val).flr = false → s.boot.shelfDown
      = false → s.rings.pageFn (ring.val / 512) = some (BitVec.ofNat 6 f.val) → (s.rings.get ring.val).fn.toNat = f.val
      → (s.rings.get ring.val).state = 1 → (s.rings.get ring.val).fetchErr = false → exec (.doorbellWrite f ring v) s =
      .next (if (s.rings.get ring.val).accepts v = false then s.withRings fun rs => rs.updRing ring.val fun x =>
      { x with dbBad := satAdd x.dbBad 1 } else if v.setWidth 32 = (s.rings.get ring.val).p then s else (s.withRings fun
      rs => rs.updRing ring.val fun x => { x with p := v.setWidth 32, state := 1, fetchErr := false }).mirrorCounts
      ring.val)) ∧
(∀ (g : Ring) (v : Long), g.accepts v = false → g.shadow v = g)

/-- The checks of 04 R114 in their order: no notice taken, a refusal notice, or a response with the status of the first check that fails; none has any other effect. -/
def Obligations.RefusedCommands : Prop :=
(∀ (c : Call) (run : Call → State → State) (s : State), s.takes c.hdr.fn.val = false → c.run .new run s = s) ∧
(∀ (c : Call) (run : Call → State → State) (n : Nat) (s : State), s.takes c.hdr.fn.val = true → refusalCode s c.hdr =
      some n → n ≠ 3 → c.run .new run s = s.refusal c.hdr n) ∧
(∀ (c : Call) (run : Call → State → State) (e : Half × Word) (s : State), s.takes c.hdr.fn.val = true → refusalCode s
      c.hdr = none → headErr s c.hdr = some e → c.run .new run s = c.fail e s) ∧
(∀ (c : Call) (run : Call → State → State) (s : State), s.takes c.hdr.fn.val = true → refusalCode s c.hdr = none →
      headErr s c.hdr = none → c.phaseOk s = false → c.run .new run s = c.fail (Status.phase, phaseDetail s) s) ∧
(∀ (c : Call) (run : Call → State → State) (e : Half × Word) (s : State), s.takes c.hdr.fn.val = true → refusalCode s
      c.hdr = none → headErr s c.hdr = none → c.phaseOk s = true → c.roleErr s = some e → c.run .new run s = c.fail e s) ∧
(∀ (c : Call) (run : Call → State → State) (s : State), s.takes c.hdr.fn.val = true → refusalCode s c.hdr = none →
      headErr s c.hdr = none → c.phaseOk s = true → c.roleErr s = none → 1024 ≤ s.fw.waiting.length → c.run .new run s =
      c.fail (Status.busy, 1) s) ∧
(∀ (c : Call) (run : Call → State → State) (s : State), s.takes c.hdr.fn.val = true → refusalCode s c.hdr = none →
      headErr s c.hdr = none → c.phaseOk s = true → c.roleErr s = none → s.fw.waiting.length < 1024 → c.blocked s = true
      → c.run .new run s = c.wait .order [] s) ∧
(∀ (c : Call) (run : Call → State → State) (e : Half × Word) (s : State), s.takes c.hdr.fn.val = true → refusalCode s
      c.hdr = none → headErr s c.hdr = none → c.phaseOk s = true → c.roleErr s = none → s.fw.waiting.length < 1024 →
      c.blocked s = false → c.bodyErr = some e → c.hdr.reqLen.toNat ≤ 64 + c.hdr.bodyRead → c.run .new run s = c.fail e
      s) ∧
(∀ (c : Call) (run : Call → State → State) (s : State), s.takes c.hdr.fn.val = true → refusalCode s c.hdr = none →
      headErr s c.hdr = none → c.phaseOk s = true → c.roleErr s = none → s.fw.waiting.length < 1024 → c.blocked s =
      false → 64 + c.hdr.bodyRead < c.hdr.reqLen.toNat → c.run .new run s = c.fail (Status.lengthShort, BitVec.ofNat 32
      (64 + c.hdr.bodyRead)) (s.withPcie (Pcie.early c.hdr.early))) ∧
(∀ (c : Call) (run : Call → State → State) (q : Word × BitVec 384) (s : State), s.takes c.hdr.fn.val = true →
      refusalCode s c.hdr = none → headErr s c.hdr = none → c.phaseOk s = true → c.roleErr s = none →
      s.fw.waiting.length < 1024 → c.blocked s = false → c.bodyErr = none → c.quorum = some q → s.fw.ticketOk c.opc q.1
      q.2 = false → c.run .new run s = c.fail (Status.quorum, s.fw.quorumDetail) s) ∧
(∀ (c : Call) (e : Half × Word) (s : State), (c.fail e s).keys = s.keys ∧ (c.fail e s).rings = s.rings ∧ (c.fail e
      s).mem = s.mem ∧ (c.fail e s).log = s.log ∧ (c.fail e s).insole = s.insole ∧ (c.fail e s).pins = s.pins ∧ (c.fail
      e s).boot = s.boot ∧ (c.fail e s).rng = s.rng ∧ (c.fail e s).cards = s.cards ∧ (c.fail e s).sole = s.sole ∧
      (c.fail e s).welt = s.welt ∧ (c.fail e s).alarm = s.alarm ∧ (c.fail e s).cob = s.cob ∧ (c.fail e s).cores =
      s.cores ∧ (c.fail e s).fw.sessions = s.fw.sessions ∧ (c.fail e s).fw.quorum = s.fw.quorum ∧ (c.fail e
      s).fw.membership = s.fw.membership)

/-- A FLOOR_RAISE that would set the custody or Cobbler floor above the version now running, or any floor beyond 64, is refused (02 R62). -/
def Obligations.FloorRaiseRefused : Prop :=
(∀ (h : CmdHdr) (qid : Word) (which value : Byte) (rsv : Half) (c : Call) (s : State), callFloorRaise h qid which value
      rsv = c → c.Accepted s → (64 < value.toNat ∨ (which = 0 ∧ s.boot.fwVer.toNat < value.toNat) ∨ (which = 1 ∧
      s.boot.cobVer.toNat < value.toNat)) → exec (.floorRaise h qid which value rsv) s = .next (c.respond
      Status.inputInvalid 0x00010045 [] (c.begun s)) ∧ (c.respond Status.inputInvalid 0x00010045 [] (c.begun s)).pins =
      s.pins)

/-- While EPOCH_OK is 0 a SESSION_OPEN with role TENANT is answered EPOCH_UNSET (04 R126). -/
def Obligations.SessionNeedsEpoch : Prop :=
(∀ (h : CmdHdr) (rsv : Byte) (tenant : Half) (seq sigLen : Word) (sig : List Byte) (c : Call) (s : State),
      callSessionOpen h 2 rsv tenant seq sigLen sig s = c → c.Accepted s → s.insole.trusted = false → exec (.sessionOpen
      h 2 rsv tenant seq sigLen sig) s = .next (c.respond Status.epochUnset 0 [] s) ∧ (c.respond Status.epochUnset 0 []
      s).fw.sessions = s.fw.sessions)

/-- One quorum at a time: QUORUM_BEGIN while one is open is answered BUSY with detail 3 (04 R150). -/
def Obligations.QuorumSingle : Prop :=
(∀ (h : CmdHdr) (purpose window : Half) (rsv : Word) (digest : BitVec 384) (b : Membership) (q : Quorum) (c : Call) (s :
      State), callQuorumBegin h purpose window rsv digest = c → c.Accepted s → s.fw.membership = some b → s.fw.quorum =
      some q → exec (.quorumBegin h purpose window rsv digest) s = .next (c.respond Status.busy 3 [] s) ∧ (c.respond
      Status.busy 3 [] s).fw.quorum = some q)

/-- Pins and supplies (02 R38-R42): each command completes, and what it leaves. -/
def Obligations.CompletePins : Prop :=
(∀ (s : State), s.pins.pwrgd = true → exec .pwrgdFall s = .next (s.assertReset.withPins fun p =>
      { p with pwrgd := false, linkL0 := false }) ∧ s.assertReset.boot = {} ∧ s.assertReset.rings = {} ∧
      s.assertReset.cores = [] ∧ s.assertReset.pins = s.pins ∧ s.assertReset.pending = s.pending) ∧
(∀ (s : State), exec .pwrgdRise s = .next (s.withPins fun p => { p with pwrgd := true })) ∧
(∀ (s : State), s.pins.perst = false → exec .perstAssert s = .next ((s.assertReset.withPins fun p =>
      { p with perst := true, linkL0 := false }).withBoot fun b => { b with perstReset := s.pins.pwrgd }) ∧
      s.assertReset.boot = {} ∧ s.assertReset.rings = {} ∧ s.assertReset.cores = [] ∧ s.assertReset.pins = s.pins ∧
      s.assertReset.pending = s.pending) ∧
(∀ (late : Bool) (s : State), exec (.perstRelease late) s = .next ((s.withPins fun p =>
      { p with perst := false }).withBoot fun b =>
      { b with perstLate := if s.pins.perst then late && !b.perstReset else b.perstLate })) ∧
(∀ (s : State), s.pins.pwrgd = true → s.pins.perst = false → s.boot.perstLate = false → exec .linkL0 s = .next
      (s.withPins fun p => { p with linkL0 := true })) ∧
(∀ (s : State), s.pins.pwrgd = true → s.boot.perstLate = true → s.bootReady = true → ∃ t, exec .linkL0 s = .next t ∧
      t.pins = { s.pins with linkL0 := true } ∧ t.boot.state = (if s.pins.lifecycle = .retired then .retired else
      .ready) ∧ t.boot.step7 = true ∧ t.boot.sramKey = true ∧ t.keys.q.getLsbD 0 = true ∧ t.dig = s.dig.extend 0 3
      (sha384 (meas0Record s.pins)) ∧ t.keys.runs = s.keys.runs ∧ t.rings = s.rings) ∧
(∀ (toVbat : Bool) (s : State), exec (.insoleSupplySwitch toVbat) s = .next (s.withInsole fun i =>
      { i with onVbat := toVbat })) ∧
(∀ (s : State), ∃ t, exec .insoleEmptyRestart s = .next t ∧ t.insole =
      { onVbat := s.insole.onVbat, vbatMv := s.insole.vbatMv, c3Out := s.insole.c3Out, drbg := t.insole.drbg } ∧ t.log =
      Log.restart 0 ∧ t.listen = {} ∧ t.keys = s.keys ∧ t.boot = s.boot ∧ t.mem = s.mem ∧ t.rings = s.rings)

/-- The boot sequence (02 R43-R47; 12 R367, R368): each step completes, and what it leaves. -/
def Obligations.CompleteBoot : Prop :=
(∀ (s : State), s.boot.inReset = true → s.pins.pwrgd = true → s.pins.perst = false → s.log.owed = 0 → ∃ t, exec
      .mainResetEnd s = .next t ∧ t.boot.inReset = false ∧ t.boot.step2 = true ∧ t.boot.epoch = s.insole.bootEpoch.epoch
      ∧ t.insole.epoch = s.insole.bootEpoch.epoch ∧ t.insole.trusted = s.insole.bootEpoch.trusted ∧ t.boot.pendMax =
      s.log.pendMax ∧ t.boot.pendCount = s.log.pendCount ∧ t.log.pendCount = 0 ∧ t.log.pendMask = 0 ∧ t.keys.ready =
      true ∧ t.cob.clockUs = 0 ∧ t.mem = s.mem ∧ t.rings = s.rings) ∧
(∀ (katM katK : Bool) (s : State), s.boot.inReset = false → s.rng.ready = false → (s.rng.tests katM katK).kAvail = true
      → s.rng.audit = false → ∃ t, exec (.rngReady katM katK) s = .next t ∧ t.rng.ready = true ∧ t.rng.tested = true ∧
      t.boot.rngReady = true ∧ t.rng.mDegraded = !(s.rng.tests katM katK).mAvail ∧ t.rng.buffer.length = 2 ∧ t.keys =
      s.keys ∧ t.mem = s.mem) ∧
(∀ (s : State), s.boot.inReset = false → s.boot.pufOk = false → s.boot.pufAttempts < 4 → ∃ t, exec
      (.pufReconstructionDone true) s = .next t ∧ t.boot.pufOk = true ∧ t.boot.id = sha384 (Config.out .puf [ascii
      "identity"] 48) ∧ t.keys = s.keys.install 0 rootAttr (Config.out .puf [ascii "root"] 32) 0 ∧ t.insole = s.insole ∧
      t.log = s.log) ∧
(∀ (s : State), s.bootReady = true → (s.boot.perstLate = false ∨ s.pins.linkL0 = true) → ∃ t, exec .loaderLive s = .next
      t ∧ t.boot.state = (if s.pins.lifecycle = .retired then .retired else .ready) ∧ t.boot.step7 = true ∧
      t.boot.sramKey = true ∧ t.keys.q.getLsbD 0 = true ∧ t.dig = s.dig.extend 0 3 (sha384 (meas0Record s.pins)) ∧
      t.keys.runs = s.keys.runs ∧ t.rings = s.rings) ∧
(∀ (s : State), s.boot.inReset = false → s.boot.rngReady = false → s.boot.state = .init → exec .rngBootTimeout s = .next
      (s.withBoot fun b => { b with state := .failed }))

/-- The loader (02 R51-R58) and the report of firmware (02 R43 step 11): each command completes, and what it leaves. -/
def Obligations.CompleteLoader : Prop :=
(∀ (v : Word) (s : State), v.getLsbD 0 = true → s.boot.state = .ready → exec (.ldrGo 0 v) s = .next (if s.boot.imgLen =
      0 ∨ 0x400000 < s.boot.imgLen.toNat then s.refuseImage 0x10 0 else if 2 ^ 64 < s.boot.imgAddr + s.boot.imgLen.toNat
      then s.refuseImage 0x11 0 else s.withBoot fun b => { b with state := .loading })) ∧
(∀ (s : State), s.boot.state = .loading → exec .imageReadTimeout s = .next (s.withBoot fun b =>
      { b with state := .ready, code := 0x13, seg := 0, tries := satAdd s.boot.tries 1 })) ∧
(∀ (img : Image) (s : State), s.boot.state = .loading → ∃ t, exec (.imageVerifyDone img) s = .next t ∧ (match imageCheck
      s.pins s.boot.imgLen.toNat s.pins.fwFloor s.pins.cobFloor img with
        | some e => t.boot =
            { s.boot with state := .ready, code := BitVec.ofNat 8 e.1, seg := BitVec.ofNat 8 e.2, tries := satAdd s.boot.tries 1 }
            ∧ t.mem = s.mem ∧ t.dig = s.dig
        | none => t.boot =
            { s.boot with state := .running, code := 1, seg := 0, fwVer := img.fwVer, cobVer := img.cobVer } ∧
            t.dig = measureImage s img s.dig ∧ t.cob.image = some img ∧ t.keys = s.keys)) ∧
(∀ (s : State), s.boot.state = .running → s.insole.ik.isSome = true → ∃ t, exec .fwReady s = .next t ∧ t.boot = s.boot ∧
      (Bank.get {} t.mbx.page 0).fwReady = true ∧ (t.keys.present 1).isSome = true ∧ (t.keys.present 4).isSome = true ∧
      (t.keys.present 7).isSome = true ∧ (t.keys.present 8).isSome = true ∧ (t.keys.present 9).isSome = true)

/-- The mailboxes (03 R86-R101): each write and read completes, and changes only its own mailbox (and, for a withdrawn notice, its status-page counter). -/
def Obligations.CompleteMailboxes : Prop :=
(∀ (m : MbxId) (v : Word) (s : State), (s.mbx.get (mbxKey m)).full = false → exec (.mbxMsgLoWrite m .sender v) s = .next
      (s.updBox (mbxKey m) fun b => if b.full then { b with overrun := true } else { b with lo := v })) ∧
(∀ (m : MbxId) (v : Word) (s : State), (s.mbx.get (mbxKey m)).full = false → receiverUp s m = true → exec
      (.mbxMsgHiWrite m .sender v) s = .next (s.updBox (mbxKey m) fun b => if b.full then { b with overrun := true }
      else { b with hi := v, full := true, tmo := false, rxdown := false })) ∧
(∀ (m : MbxId) (s : State), (s.mbx.get (mbxKey m)).full = true → exec (.mbxMsgHiRead m .receiver) s = .next ((s.setRead
      (s.mbx.get (mbxKey m)).hi).updBox (mbxKey m) (Mailbox.take m)) ∧ (∀ b, (Mailbox.take m b).full = false ∧
      (Mailbox.take m b).lo = 0 ∧ (Mailbox.take m b).hi = 0)) ∧
(∀ (f : Fin 64) (s : State), (s.mbx.get (64 + f.val)).full = true → exec (.mbxTimeout (.evt f)) s = .next ((s.updBox (64
      + f.val) fun b => { b with full := false, lo := 0, hi := 0, tmo := true }).withMbx fun x => x.updPage f.val fun p
      => { p with evtLost := satAdd p.evtLost 1 })) ∧
(∀ (m : MbxId) (v : Word) (s : State), exec (.mbxDbellWrite m .sender v) s = .next (s.updBox (mbxKey m) fun b =>
      { b with dbell := b.dbell ||| v })) ∧
(∀ (m : MbxId) (v : Word) (s : State), exec (.mbxDbclrWrite m .receiver v) s = .next (s.updBox (mbxKey m) fun b =>
      { b with dbell := b.dbell &&& ~~~v })) ∧
(∀ (m : MbxId) (r : Fin 70) (s : State), (s.mbx.get (mbxKey m)).lock = 0 → exec (.mbxLockRead m r) s = .next ((s.setRead
      0).updBox (mbxKey m) fun b => { b with lock := requesterNo r })) ∧
(∀ (m : MbxId) (r : Fin 70) (s : State), (s.mbx.get (mbxKey m)).lock = requesterNo r → requesterNo r ≠ 0 → exec
      (.mbxLockWrite m r ((requesterNo r).setWidth 32)) s = .next (s.updBox (mbxKey m) fun b => { b with lock := 0 })) ∧
(∀ (f : Fin 64) (v : Word) (s : State), v.getLsbD 8 = true → exec (.mbxHrouteWrite f .machine v) s = .next ((s.withMbx
      fun m => { m with hroute := Bank.set {} f.val { core := v.setWidth 2, en := true } m.hroute }).updBox f.val fun b
      => { b with dbmask := setBit b.dbmask 0 false }))

/-- The random number block (12): health, retests, reseeds, requests, audit mode and raw samples. -/
def Obligations.CompleteRandom : Prop :=
(∀ (core : Fin 16) (s : State), s.rng.audit = false → s.rng.tested = true → s.rng.mAvail = true → ∃ seed t, exec
      (.maskingReseed core) s = .next t ∧ t.rng.gens = Bank.upd {} core.val (fun _ => MaskGen.ofSeed false seed)
      s.rng.gens ∧ t.rng.condM = {} ∧ t.rng.insts = s.rng.insts ∧ t.rng.buffer = s.rng.buffer ∧ t.keys = s.keys) ∧
(∀ (core : Fin 16) (s : State), s.rng.audit = false → s.rng.tested = true → s.rng.mAvail = false → s.rng.kAvail = true →
      exec (.maskingReseed core) s = .next (s.withRng fun r => r.updGen core.val fun g => { g with due := true })) ∧
(∀ (core : Fin 16) (s : State), s.rng.mAvail = false → s.rng.kAvail = false → (s.rng.gen core.val).seeded = true → exec
      (.maskingStop core) s = .next (s.withRng fun r => r.updGen core.val fun g => { g with stopped := true })) ∧
(∀ (src : Fin 28) (run same : Nat) (s : State), healthFails src.val run same = true →
      ({ s.rng with failed := setBit s.rng.failed src.val true } : Rng).kAvail = s.rng.kAvail → ∃ t, exec
      (.sourceHealthFail src run same) s = .next t ∧ t.rng.failed = setBit s.rng.failed src.val true ∧ t.rng.srcFail =
      setBit s.rng.srcFail src.val true ∧ t.rng.failures = satAdd s.rng.failures 1 ∧ t.rng.tested = s.rng.tested ∧
      t.rng.audit = s.rng.audit ∧ (if src.val < 4 then t.rng.condM = {} else t.rng.condK = {}) ∧ t.rng.buffer =
      s.rng.buffer ∧ t.keys = s.keys) ∧
(∀ (src : Fin 28) (run same : Nat) (s : State), healthFails src.val run same = true → s.rng.tested = true → s.rng.kAvail
      = true → ({ s.rng with failed := setBit s.rng.failed src.val true } : Rng).kAvail = false → ∃ u : State, exec
      (.sourceHealthFail src run same) s = .next (u.raise 48 (BitVec.ofNat 32 u.rng.kTypes)) ∧ u.rng.kLow = true ∧
      u.rng.buffer = [] ∧ u.rng.failed = setBit s.rng.failed src.val true ∧ u.rng.failures = satAdd s.rng.failures 1 ∧
      u.alarm = s.alarm) ∧
(∀ (src : Fin 28) (s : State), s.rng.failed.getLsbD src.val = true → s.rng.beyond src.val = false → exec
      (.sourceRetestStart src) s = .next (s.withRng fun r => { r with retesting := setBit r.retesting src.val true })) ∧
(∀ (src : Fin 28) (run same : Nat) (s : State), s.rng.retesting.getLsbD src.val = true → healthFails src.val run same =
      true → exec (.sourceRetestEnd src run same) s = .next (s.withRng fun r =>
      { r with retesting := setBit r.retesting src.val false, retests := Bank.upd 0 src.val (· + 1) r.retests })) ∧
(∀ (src : Fin 28) (run same : Nat) (s : State), s.rng.retesting.getLsbD src.val = true → healthFails src.val run same =
      false → ∃ t, exec (.sourceRetestEnd src run same) s = .next t ∧ t.rng.failed = setBit s.rng.failed src.val false ∧
      t.rng.retesting = setBit s.rng.retesting src.val false ∧ t.rng.srcFail = s.rng.srcFail ∧ t.rng.retests =
      s.rng.retests) ∧
(∀ (i : Fin 32) (s : State), s.rng.ready = true → s.rng.audit = false → s.rng.kAvail = true → s.rng.buffer ≠ [] →
      (s.rng.inst i.val).seeded = false → (∀ j, j < i.val → (s.rng.inst j).seeded = true) → ∃ t, exec (.drbgInstantiate
      i) s = .next t ∧ t = (s.withRng fun r => r.takeBlock.updInst i.val fun _ => DrbgInst.instantiate r.block
      (personalisation s i.val)).rngServeWaiting) ∧
(∀ (i : Fin 32) (s : State), (s.rng.inst i.val).seeded = true → exec (.drbgBackgroundReseed i) s = .next ((s.withRng fun
      r => r.updInst i.val fun x => { x with due := true }).reseedDue 8)) ∧
(∀ (i n : Nat) (s : State), s.rng.dueInst = some i → s.reseedDue (n + 1) = ((s.withRng fun r => r.takeBlock.updInst i
      (DrbgInst.reseed r.block)).rngServeWaiting).reseedDue n ∧ ((DrbgInst.reseed s.rng.block (s.rng.inst i)).count = 0
      ∧ (DrbgInst.reseed s.rng.block (s.rng.inst i)).due = false)) ∧
(∀ (c : CoreNo) (level : Level) (v : Word) (s : State), level ≠ .user → (s.rng.chan c.val).waiting = none → (s.rng.chan
      c.val).data = [] → instAllowed c.val (v.toNat % 32) = true → v.getLsbD 5 = false → 0 < v.toNat / 2 ^ 16 % 2 ^ 13 →
      v.toNat / 2 ^ 16 % 2 ^ 13 ≤ 4096 → s.rng.serves (v.toNat % 32) = true → exec (.rngReq c c level v) s = .next
      (s.rngServe c.val { inst := v.toNat % 32, fresh := false, words := v.toNat / 2 ^ 16 % 2 ^ 13 })) ∧
(∀ (c : Nat) (q : RngRequest) (s : State), s.rngServe c q = s.withRng fun r => (r.drawFrom q.inst q.fresh (4 *
      q.words)).2.updChan c fun x =>
      { x with waiting := none, status := Status.ok, data := wordsOf (r.drawFrom q.inst q.fresh (4 * q.words)).1 }) ∧
(∀ (c : CoreNo) (level : Level) (v : Word) (s : State), level ≠ .user → (s.rng.chan c.val).waiting = none → (s.rng.chan
      c.val).data = [] → instAllowed c.val (v.toNat % 32) = false → exec (.rngReq c c level v) s = .next (s.withRng fun
      r => r.endRequest c.val Status.badFormat)) ∧
(∀ (c : CoreNo) (q : RngRequest) (s : State), (s.rng.chan c.val).waiting = some q → q.fresh = false → (s.rng.inst
      q.inst).count < 2 ^ 20 → exec (.rngWaitLimit c) s = .next (s.withRng fun r => r.endRequest c.val Status.timeout)) ∧
(∀ (c : CoreNo) (q : RngRequest) (s : State), (s.rng.chan c.val).waiting = some q → (q.fresh = true ∨ 2 ^ 20 ≤
      (s.rng.inst q.inst).count) → s.rng.kAvail = false → exec (.rngWaitLimit c) s = .next (s.withRng fun r =>
      r.endRequest c.val Status.entropy)) ∧
(∀ (c : CoreNo) (s : State), exec (.rngDataRead c) s = .next ((s.setRead ((s.rng.chan c.val).data.headD 0)).withRng fun
      r => r.updChan c.val fun x => { x with data := x.data.tail })) ∧
(∀ (s : State), s.rng.audit = false → exec (.auditSet .machine) s = .next (s.withRng fun r =>
      { r with audit := true, buffer := [], condM := {}, condK := {}, raw := [], rawPart := 0, gap := false })) ∧
(∀ (s : State), s.rng.audit = true → ∃ t, exec (.auditClear .machine) s = .next t ∧ t.rng.audit = false ∧ t.rng.buffer =
      [] ∧ t.rng.insts = [] ∧ t.rng.chans = s.rng.chans ∧ t.rng.failed = s.rng.failed ∧ t = s.withRng fun _ => t.rng) ∧
(∀ (level : Level) (s : State), level ≠ .machine → exec (.auditSet level) s = .next s ∧ exec (.auditClear level) s =
      .next s) ∧
(∀ (level : Level) (v : Word) (s : State), v.toNat % 32 ≤ 27 → exec (.rngRawselWrite 4 level v) s = .next (s.withRng fun
      r => { r with rawSel := v.setWidth 5, raw := [], rawPart := 0, gap := false })) ∧
(∀ (c : CoreNo) (s : State), s.rng.audit = true → exec (.rngRawRead c .machine) s = .next ((s.setRead (s.rng.raw.headD
      0)).withRng fun r => { r with raw := r.raw.tail })) ∧
(∀ (c : CoreNo) (level : Level) (s : State), s.rng.audit = false → exec (.rngRawRead c level) s = .next (s.setRead 0))

/-- The alarm controller and the tamper log (13): assertions and their response, resets, the halt, commits, coalescing, the response table, export and release, the tamper loops. -/
def Obligations.CompleteAlarm : Prop :=
(∀ (src : Fin 57) (d : Word) (s : State), s.boot.dark = false → pulseSource src.val = false → s.boot.pufFailed = false →
      sourceMet src.val d = true → ∃ t, exec (.alarmAssert [(src, d)]) s = .next t ∧ t.alarm.asserted = setBit
      s.alarm.asserted src.val true ∧ t.alarm.halt = (s.alarm.halt || decide (3 ≤ effCode (s.alarm.code src.val))) ∧
      t.alarm.resetDecided = (s.alarm.resetDecided || decide (4 ≤ effCode (s.alarm.code src.val))) ∧ t.alarm.zero =
      (s.alarm.zero || decide (5 ≤ effCode (s.alarm.code src.val))) ∧ t.alarm.resp = s.alarm.resp ∧ (effCode
      (s.alarm.code src.val) < 5 → src.val ≠ 47 → t.keys = s.keys) ∧ (5 ≤ effCode (s.alarm.code src.val) →
      t.boot.sramKey = false) ∧ t.mbx = s.mbx ∧ t.fw = s.fw) ∧
(∀ (src : Fin 57) (d : Word) (s : State), s.boot.dark = true → liveSource src.val = true → sourceMet src.val d = true →
      effCode (Bank.get 0 s.log.kept src.val) = 6 → ∃ t, exec (.alarmAssertDark src d) s = .next t ∧ t.insole.ik = none
      ∧ t.log.pendCode6 = true ∧ t.log.pendCount = s.log.pendCount ∧ t.alarm = s.alarm ∧ t.keys = s.keys) ∧
(∀ (src : Fin 57) (d : Word) (s : State), s.boot.dark = true → liveSource src.val = false → exec (.alarmAssertDark src
      d) s = .next s) ∧
(∀ (s : State), s.alarm.resetDecided = true → s.boot.inReset = false → (s.alarm.resetNow = true ∨ s.alarm.zero = false)
      → s.paired = true → exec .mainResetAssert s = .next s.assertReset) ∧
(∀ (s : State), haltCleared s = true → code3Asserted s = false → s.alarm.resetDecided = false → exec .haltLift s = .next
      ((s.withAlarm fun a => { a with halt := false }).pkeReissue)) ∧
(∀ (it : LogItem) (rest : List LogItem) (s : State), s.log.queue = it :: rest → ∃ t, exec .logCommit s = .next t ∧
      t.log.queue = rest ∧ t.log.entries = s.log.entries ++
      [{ item := it, seq := s.log.next, chain := chainValue s.log.head it s.log.next }] ∧ t.log.next = s.log.next + 1 ∧
      t.log.head = chainValue s.log.head it s.log.next ∧ t.alarm = s.alarm ∧ t.keys = s.keys) ∧
(∀ (src : Fin 57) (s : State), (Bank.get {} s.log.windows src.val).isOpen = true → (Bank.get {} s.log.windows
      src.val).count = 0 → exec (.coalesceWindowEnd src) s = .next (s.withLog fun l =>
      { l with windows := Bank.set {} src.val {} l.windows })) ∧
(∀ (src : Fin 57) (w : CoalWin) (s : State), Bank.get {} s.log.windows src.val = w → w.isOpen = true → w.count ≠ 0 →
      s.log.full = false → s.log.sumPending = false → ∃ t, exec (.coalesceWindowEnd src) s = .next t ∧ t.log.queue =
      s.log.queue ++
      [{ stamp := s.insole.rtc, src := BitVec.ofNat 8 src.val, resp := w.resp, flags := w.flags ||| flCOALESCED, count := BitVec.ofNat 8 (min w.count 255), detail := w.detail }]
      ∧ t.log.entries = s.log.entries ∧ t.alarm = s.alarm) ∧
(∀ (writer : CoreNo) (v : Word) (s : State), v.getLsbD 0 = true → s.boot.dark = false → ∃ t, exec (.almRaise writer
      .machine v) s = .next t ∧ t.alarm.halt = (s.alarm.halt || decide (3 ≤ effCode (s.alarm.applied (56,
      s.alarm.raiseDet, decide (writer.val = 4 ∧ s.alarm.raiseDet = 0x43))))) ∧ t.alarm.asserted = s.alarm.asserted ∧
      t.alarm.raiseDet = s.alarm.raiseDet) ∧
(∀ (writer : CoreNo) (level : Level) (v : Word) (s : State), level ≠ .machine → exec (.almRaise writer level v) s =
      .next s) ∧
(∀ (k : Fin 16) (v : Word) (s : State), exec (.almRespWrite .machine k v) s = .next ((s.withAlarm fun a =>
      { a with resp := setResp k.val v a.resp }).withLog fun l => { l with kept := setResp k.val v l.kept })) ∧
(∀ (v : Word) (s : State), s.log.readValid = true → v.toNat ≤ s.log.readMax.toNat → (s.log.expValid = true →
      s.log.exp.toNat ≤ v.toNat) → exec (.almLogExpWrite .machine v) s = .next (s.withLog fun l =>
      { l with exp := v, expValid := true })) ∧
(∀ (v : Word) (s : State), s.log.expValid = true → s.log.ovf = [] → ∃ t, exec (.almLogRelWrite .machine v) s = .next t ∧
      t.log.entries = (s.log.entries.filter fun e => decide (min v.toNat s.log.exp.toNat < e.seq.toNat)) ∧ t.log.next =
      s.log.next ∧ t.log.head = s.log.head ∧ t.log.queue = s.log.queue ∧ t.alarm = s.alarm) ∧
(∀ (w : Fin 8) (e : LogEntry) (s : State), s.log.find s.alarm.logSel = some e → exec (.almLogDataRead w) s = .next
      ((s.setRead (wordOf e.bytes w.val)).withLog fun l => l.readWord s.alarm.logSel w.val)) ∧
(∀ (w : Fin 8) (s : State), s.log.find s.alarm.logSel = none → exec (.almLogDataRead w) s = .next (s.setRead 0)) ∧
(∀ (loop : Fin 4) (level : Bool) (d : Word) (u s : State), (s.withFreeCount (· + 1)).withInsole (fun i =>
      { i with tampOut := setBit i.tampOut loop.val ((Config.freeByte s.freeCount 0).getLsbD 0) }) = u → exec (.tampStep
      loop level d) s = .next (if level = (Config.freeByte s.freeCount 0).getLsbD 0 then u else u.alarmTick [(50 +
      loop.val, d, false)])) ∧
(∀ (src : Fin 57) (s : State), ∃ t, exec (.alarmSourceDeassert src) s = .next t ∧ t.alarm =
      { s.alarm with asserted := setBit s.alarm.asserted src.val false } ∧ t.log = s.log ∧ t.keys = s.keys ∧ t.boot =
      s.boot)

/-- The operations of KEY_CMD (05 R181, R182). -/
def Obligations.CompleteKeyChannels : Prop :=
(∀ (c : Fin 4) (w : RegWriter) (any : Bool) (slot : Fin 32768) (s : State), keyWriter c w = true → (s.keys.chan
      c.val).busy = false → exec (.keyCmdLoad c w any slot) s = .next (s.withKeys fun k => k.updChan c.val fun x =>
      { x with op := some .load, any := any, slot := BitVec.ofNat 15 slot.val, busy := true, done := false, field := 0, blobIn := [], blobOut := [] })) ∧
(∀ (c : Fin 4) (w : RegWriter) (any kw : Bool) (slot : Fin 32768) (s : State), keyWriter c w = true → (s.keys.chan
      c.val).busy = false → exec (.keyCmdImport c w any kw slot) s = .next (s.withKeys fun k => k.updChan c.val fun x =>
      { x with op := some (.import kw), any := any, slot := BitVec.ofNat 15 slot.val, busy := true, done := false, field := 0, blobIn := [], blobOut := [] })) ∧
(∀ (c : Fin 4) (w : RegWriter) (kw : Bool) (s : State), keyWriter c w = true → (s.keys.chan c.val).busy = false → exec
      (.keyCmdExport c w kw) s = .next (s.withKeys fun k => k.updChan c.val fun x =>
      { x with op := some (.exportBlob kw), any := false, slot := BitVec.ofNat 15 0, busy := true, done := false, field := 0, blobIn := [], blobOut := [] })) ∧
(∀ (c : Fin 4) (w : RegWriter) (s : State), keyWriter c w = true → (s.keys.chan c.val).busy = false → exec (.keyCmdBlob
      c w) s = .next (s.withKeys fun k => k.updChan c.val fun x =>
      { x with op := some .blob, any := false, slot := BitVec.ofNat 15 0, busy := true, done := false, field := 0, blobIn := [], blobOut := [] })) ∧
(∀ (c : Fin 4) (w : RegWriter) (any : Bool) (slot : Fin 32768) (s : State), keyWriter c w = true → (s.keys.chan
      c.val).busy = false → exec (.keyCmdGenerate c w any slot) s = .next (s.withKeys fun k => k.updChan c.val fun x =>
      { x with op := some .generate, any := any, slot := BitVec.ofNat 15 slot.val, busy := true, done := false, field := 0, blobIn := [], blobOut := [] })) ∧
(∀ (c : Fin 4) (w : RegWriter) (s : State), keyWriter c w = true → (s.keys.chan c.val).busy = false → exec
      (.keyCmdUnload c w) s = .next (s.withKeys fun k => k.updChan c.val fun x =>
      { x with op := some (.unload none), any := false, slot := BitVec.ofNat 15 0, busy := true, done := false, field := 0, blobIn := [], blobOut := [] })) ∧
(∀ (c : Fin 4) (w : RegWriter) (s : State), keyWriter c w = true → (s.keys.chan c.val).busy = false → exec (.keyCmdQuery
      c w) s = .next (s.withKeys fun k => k.updChan c.val fun x =>
      { x with op := some .query, any := false, slot := BitVec.ofNat 15 0, busy := true, done := false, field := 0, blobIn := [], blobOut := [] })) ∧
(∀ (c : Fin 4) (w : RegWriter) (any kw : Bool) (slot : Fin 32768) (s : State), keyWriter c w = false → exec (.keyCmdLoad
      c w any slot) s = .next s ∧ exec (.keyCmdImport c w any kw slot) s = .next s ∧ exec (.keyCmdExport c w kw) s =
      .next s ∧ exec (.keyCmdBlob c w) s = .next s ∧ exec (.keyCmdGenerate c w any slot) s = .next s ∧ exec
      (.keyCmdUnload c w) s = .next s ∧ exec (.keyCmdQuery c w) s = .next s)

/-- The FIFOs and the operations of the key-store channels, and zeroisation (05 R177, R178, R182). -/
def Obligations.CompleteKeyStore : Prop :=
(∀ (c : Fin 4) (w : RegWriter) (v : Word) (s : State), keyWriter c w = true → 4 * (s.keys.chan c.val).blobIn.length <
      (s.keys.chan c.val).len.toNat → exec (.keyBlobInWrite c w v) s = .next (s.withKeys fun k => k.updChan c.val fun x
      => { x with blobIn := x.blobIn ++ [v] })) ∧
(∀ (c : Fin 4) (m : CoreNo) (level : Level) (s : State), exec (.keyBlobOutRead c (.core m level)) s = .next ((s.setRead
      ((s.keys.chan c.val).blobOut.headD 0)).withKeys fun k => k.updChan c.val fun x =>
      { x with blobOut := x.blobOut.tail })) ∧
(∀ (c : Fin 4) (r : KeyRun) (s : State), (s.keys.chan c.val).op = some .query → s.keys.lookup (s.keys.chan c.val).arg
      none none = .ok r → exec (.keyChannelDone c) s = .next (s.withKeys fun k => (k.endChan c.val Status.ok 0
      none).updChan c.val fun x =>
      { x with len := r.counter, attr := (List.range 8).foldl (fun b i => Bank.set 0 i (wordOf (attrBytes r.attr) i) b) x.attr })) ∧
(∀ (c : Fin 4) (e : KeyErr) (s : State), (s.keys.chan c.val).op = some .query → s.keys.lookup (s.keys.chan c.val).arg
      none none = .error e → exec (.keyChannelDone c) s = .next (s.withKeys fun k => k.endChanErr c.val e)) ∧
(∀ (c : Fin 4) (r : KeyRun) (s : State), (s.keys.chan c.val).op = some (.unload none) → s.keys.lookup (s.keys.chan
      c.val).arg none none = .ok r → exec (.keyChannelDone c) s = .next ((s.withKeys fun k => (k.mark (handleSlot
      (s.keys.chan c.val).arg)).updChan c.val fun x =>
      { x with op := some (.unload (some (handleSlot (s.keys.chan c.val).arg, r.attr.generation))) }).keyChanUnloaded
      c.val (handleSlot (s.keys.chan c.val).arg) r.attr.generation)) ∧
(∀ (c n : Nat) (gen : Half) (r : KeyRun) (s : State), Bank.get none s.keys.runs n = some r → r.attr.generation = gen →
      s.keyChanUnloaded c n gen = (if r.refs = 0 then s.withKeys fun k => (k.free n).endChan c Status.ok 0 none else s)) ∧
(∀ (s : State), exec (.keyZeroAll .machine) s = .next (s.withKeys fun k => { k.startZero false with zeroAll := true })) ∧
(∀ (level : Level) (s : State), level ≠ .machine → exec (.keyZeroAll level) s = .next s) ∧
(∀ (s : State), s.alarm.zeroInsole = true → exec .zeroisationDone s = .next (((s.withKeys Keys.endZero).withAlarm fun a
      => { a with zero := false, zeroInsole := false }).withInsole fun i => { i with ik := none })) ∧
(∀ (s : State), s.alarm.zeroInsole = false → exec .zeroisationDone s = .next ((s.withKeys Keys.endZero).withAlarm fun a
      => { a with zero := false, zeroInsole := false }))

/-- The Insole domain (14 R412-R418, R429, R430; 02 R49), the Clicker controls (07 R249, R250, R255) and the MPU commands (19 R549-R552). -/
def Obligations.CompleteInsole : Prop :=
(∀ (v : Word) (s : State), s.insole.trusted = false → s.insole.epoch ≠ 0xFFFFFFFF → v ≠ 0xFFFFFFFF → exec
      (.insFloorWrite .machine v) s = .next ((s.withInsole fun i =>
      { i with epoch := BitVec.ofNat 32 (max s.insole.epoch.toNat v.toNat + 1), trusted := true }).withBoot fun b =>
      { b with epoch := BitVec.ofNat 32 (max s.insole.epoch.toNat v.toNat + 1) })) ∧
(∀ (v : Word) (s : State), s.insole.trusted = true → exec (.insFloorWrite .machine v) s = .next s) ∧
(∀ (s : State), (s.boot.phase = .start ∨ s.boot.phase = .recovery) → exec (.insIkctlGen .machine) s = .next (s.withIns
      fun r => { r with ikGen := true, ikBusy := true })) ∧
(∀ (s : State), s.ins.ikBusy = true → s.rng.freshServes 10 = true → s.rng.buffer ≠ [] → exec .ikStored s = .next
      (s.instDraw 10 true 32 fun k t => (t.withInsole fun i => { i with ik := some k }).withIns fun r =>
      { r with ikGen := false, ikBusy := false })) ∧
(∀ (s : State), s.rng.serves 10 = true → s.ins.seedDelivered = false → exec .insoleSeedDelivery s = .next (s.instDraw 10
      false 48 fun seed t => (t.withInsole fun i =>
      { i with drbg := sha256 ([0] ++ i.drbg ++ seed), seeded := true }).withIns fun r =>
      { r with seedDelivered := true })) ∧
(∀ (k : KeyRun) (s : State), s.keys.lookup s.ins.audHdl none none = .ok k → exec (.insAudctlLoad .machine) s = .next
      (((s.withInsole fun i => { i with auditKey := some k.material, auditId := k.keyId }).withListen fun l =>
      { l with secured := false, ks := [], rndB := [], ctrIn := 0, ctrOut := 0 }).withIns fun r =>
      { r with audDone := true, audStatus := Status.ok })) ∧
(∀ (s : State), exec (.insAudctlClear .machine) s = .next ((s.withInsole fun i =>
      { i with auditKey := none, auditId := 0 }).withIns fun r => { r with audDone := true, audStatus := Status.ok })) ∧
(∀ (v : Word) (s : State), s.listen.held = none → exec (.insTagSelWrite .machine v) s = .next (s.withIns fun r =>
      { r with tagSel := v.setWidth 7, latched := true, latch := bufferOf (s.listen.page (v.toNat % 128)).data, version := (s.listen.page (v.toNat % 128)).version, result := 0, hostWait := none })) ∧
(∀ (s : State), s.listen.held = none → s.ins.tagSel.toNat < 96 → ∃ t, exec (.insTagCommit .machine) s = .next t ∧
      t.listen =
      { s.listen.setPage s.ins.tagSel.toNat { data := padTo 64 (Bank.readBytes s.ins.staging 0 64), version := (s.listen.page s.ins.tagSel.toNat).version + 1, buffer := some s.listen.spareHost } with spareHost := s.listen.bufferNo s.ins.tagSel.toNat }
      ∧ t.ins.result = 0 ∧ t.ins.staging = bufferOf (s.listen.page s.ins.tagSel.toNat).data ∧ t.insole = s.insole) ∧
(∀ (s : State), s.listen.held = none → 96 ≤ s.ins.tagSel.toNat → exec (.insTagCommit .machine) s = .next (s.withIns fun
      r => { r with result := 2, hostWait := none })) ∧
(∀ (s : State), exec .budgetRefill s = .next (s.withInsole fun i => { i with budget := min 18000 (i.budget + 1) })) ∧
(∀ (level : Level) (v : Word) (s : State), level ≠ .machine → exec (.insFloorWrite level v) s = .next s ∧ exec
      (.insIkctlGen level) s = .next s ∧ exec (.insAudctlLoad level) s = .next s ∧ exec (.insAudctlClear level) s =
      .next s ∧ exec (.insTagSelWrite level v) s = .next s ∧ exec (.insTagCommit level) s = .next s) ∧
(∀ (writer : CoreNo) (v : Word) (s : State), ∃ t, exec (.clkCtrlWrite writer .machine v) s = .next t ∧ t = (s.withCipher
      fun c => { c with coreEn := v.setWidth 16, half := v.getLsbD 16 }).dealAll ∧ t.keys = s.keys) ∧
(∀ (core : Fin 16) (s : State), 2 ≤ cphState s core.val → exec (.cphKatRun core .machine) s = .next (s.withCipher fun c
      => { c with cores := Bank.upd {} core.val (fun x => { x with katRun := true, katDone := false }) c.cores })) ∧
(∀ (core : Fin 16) (pass : Bool) (s : State), (Bank.get {} s.cipher.cores core.val).katRun = true → s.rng.genRuns
      core.val = true → ∃ t, exec (.cphKatDone core pass) s = .next t ∧ t = (s.withCipher fun c =>
      { c with cores := Bank.upd {} core.val (fun x => { x with katRun := false, katDone := true, katPass := pass, quar := x.quar && !(pass && decide (x.qcount.toNat < 3)) }) c.cores }).dealAll
      ∧ t.keys = s.keys) ∧
(∀ (m : Fin 13) (s : State), 5 ≤ m.val → exec (.mpuFenceGo m .machine) s = .next (s.withMpus (Bank.upd {} m.val fun u =>
      { u with go := true, rules := u.written }))) ∧
(∀ (m : Fin 13) (s : State), m.val < 5 → ∀ level : Level, exec (.mpuFenceGo m level) s = .next s) ∧
(∀ (m : Fin 13) (s : State), exec (.mpuFenceDone m) s = .next (s.withMpus (Bank.upd {} m.val fun u =>
      { u with go := false }))) ∧
(∀ (m : Fin 13) (addr : Word) (size : Nat) (write : Bool) (r : Refused) (s : State), 5 ≤ m.val → (s.mpu m.val).stopped =
      none → dmaCheck m.val (s.mpu m.val).rules (regUsed false addr.toNat)
      { addr := addr.toNat, size := size, kind := if write then 1 else 0 } = some r → ∃ t, exec (.dmaMpuFault m addr
      size write) s = .next t ∧ t.mpus = Bank.upd {} m.val (fun u =>
      { u.record { addr := addr.toNat, size := size, kind := if write then 1 else 0 } 1 r (BitVec.ofNat 4 (ofLe ((List.range 1).map (Config.freeByte s.freeCount)))) with stopped := some { addr := addr.toNat, size := size, kind := if write then 1 else 0 } })
      s.mpus ∧ t.mem = s.mem ∧ t.keys = s.keys) ∧
(∀ (m : Fin 13) (s : State), (s.mpu m.val).stopped = none → exec (.mpuFaultClear m .machine) s = .next (s.withMpus
      (Bank.upd {} m.val fun u => { u with fault := false, stopped := none })))

/-- The contactless port in listen mode and the audit application (14 R412, R419-R427, R430). -/
def Obligations.CompleteListen : Prop :=
(∀ (s : State), s.cls.mode ≠ .polling → ∃ t, exec .fieldDetected s = .next t ∧ t.listen.field = true ∧ t.listen.session
      = false ∧ t.listen.secured = false ∧ t.listen.iso = .idle ∧ t.listen.uid = BitVec.ofNat 32 (0x08 + 256 * ofLe
      (((sha256 ([1] ++ s.insole.drbg)).take 16).take 3)) ∧ t.listen.susp = (s.insole.onVbat && (decide
      (s.insole.vbatMv.toNat < 2400) || decide (s.insole.budget < 1000))) ∧ t.insole.drbg = sha256 ([2] ++
      s.insole.drbg) ∧ t.listen.pages = s.listen.pages ∧ t.keys = s.keys ∧ t.log = s.log ∧ t.cls = s.cls) ∧
(∀ (s : State), s.listen.session = true → exec (.sessionInactivity false) s = .next (s.withListen fun l =>
      { l with iso := .idle, session := false, dsi := 0, dri := 0, selected := false, secured := false, pendingRndB := none, rndB := [], ks := [], ctrIn := 0, ctrOut := 0, blockNo := false })) ∧
(∀ (s : State), s.listening = true → s.listen.iso = .idle → ∃ t, exec (.reqa) s = .next t ∧ t.listen =
      { s.listen with pendingRndB := none, iso := .ready, answer := [0x04, 0x00] } ∧ t.keys = s.keys ∧ t.log = s.log ∧
      t.cls = s.cls) ∧
(∀ (s : State), s.listening = true → (s.listen.iso = .idle ∨ s.listen.iso = .halted) → ∃ t, exec (.wupa) s = .next t ∧
      t.listen = { s.listen with pendingRndB := none, iso := .ready, answer := [0x04, 0x00] } ∧ t.keys = s.keys ∧ t.log
      = s.log ∧ t.cls = s.cls) ∧
(∀ (s : State), s.listening = true → s.listen.iso = .ready → ∃ t, exec (.anticollision) s = .next t ∧ t.listen =
      { s.listen with pendingRndB := none, answer := leBytes 4 s.listen.uid.toNat ++ [(leBytes 4 s.listen.uid.toNat).foldl (· ^^^ ·) 0] }
      ∧ t.keys = s.keys ∧ t.log = s.log ∧ t.cls = s.cls) ∧
(∀ (s : State), s.listening = true → s.listen.iso = .ready → ∃ t, exec (.isoSelect s.listen.uid) s = .next t ∧ t.listen
      = { s.listen with pendingRndB := none, iso := .active, answer := [0x20] } ∧ t.keys = s.keys ∧ t.log = s.log ∧
      t.cls = s.cls) ∧
(∀ (s : State), s.listening = true → s.listen.iso = .active → s.listen.session = false → exec .hlta s = .next
      (s.withListen fun l => { l with pendingRndB := none, iso := .halted })) ∧
(∀ (s : State), s.listening = true → s.listen.iso = .active → s.listen.session = false → ∃ t, exec (.rats) s = .next t ∧
      t.listen =
      { s.listen with iso := .active, session := true, dsi := 0, dri := 0, selected := false, secured := false, pendingRndB := none, rndB := [], ks := [], ctrIn := 0, ctrOut := 0, blockNo := false, answer := [0x05, 0x78, 0x77, 0x40, 0x00] }
      ∧ t.keys = s.keys ∧ t.log = s.log ∧ t.cls = s.cls) ∧
(∀ (dsi dri : BitVec 2) (s : State), s.listening = true → s.listen.session = true → ∃ t, exec (.pps dsi dri) s = .next t
      ∧ t.listen = { s.listen with pendingRndB := none, dsi := dsi, dri := dri, answer := [0xD0] } ∧ t.keys = s.keys ∧
      t.log = s.log ∧ t.cls = s.cls) ∧
(∀ (nak : Bool) (s : State), s.listening = true → s.listen.session = true → ∃ t, exec (.rBlock nak s.listen.blockNo) s =
      .next t ∧ t.listen = { s.listen with pendingRndB := none } ∧ t.keys = s.keys ∧ t.log = s.log ∧ t.cls = s.cls) ∧
(∀ (blockNo : Bool) (s : State), s.listening = true → s.listen.session = true → blockNo ≠ s.listen.blockNo → ∃ t, exec
      (.rBlock true blockNo) s = .next t ∧ t.listen =
      { s.listen with pendingRndB := none, answer := [if s.listen.blockNo then 0xA3 else 0xA2] } ∧ t.keys = s.keys ∧
      t.log = s.log ∧ t.cls = s.cls) ∧
(∀ (s : State), s.listening = true → s.listen.session = true → ∃ t, exec (.sDeselect) s = .next t ∧ t.listen =
      { s.listen with iso := .idle, session := false, dsi := 0, dri := 0, selected := false, secured := false, pendingRndB := none, rndB := [], ks := [], ctrIn := 0, ctrOut := 0, blockNo := false, answer := [0xC2] }
      ∧ t.keys = s.keys ∧ t.log = s.log ∧ t.cls = s.cls) ∧
(∀ (s : State), s.listening = true → s.listen.session = true → ∃ t, exec (.select auditAid) s = .next t ∧ t.listen =
      { s.listen with pendingRndB := none, blockNo := !s.listen.blockNo, selected := true, secured := false, ks := [], rndB := [], ctrIn := 0, ctrOut := 0, answer := [0x90, 0x00] }
      ∧ t.keys = s.keys ∧ t.log = s.log ∧ t.cls = s.cls) ∧
(∀ (aid : List Byte) (s : State), s.listening = true → s.listen.session = true → aid ≠ auditAid → ∃ t, exec (.select
      aid) s = .next t ∧ t.listen =
      { s.listen with pendingRndB := none, blockNo := !s.listen.blockNo, answer := [0x6A, 0x82] } ∧ t.keys = s.keys ∧
      t.log = s.log ∧ t.cls = s.cls) ∧
(∀ (page : Byte) (s : State), s.listening = true → s.listen.session = true → s.listen.selected = true → page.toNat ≤ 31
      → ∃ t, exec (.readPage 0x80 page [] true) s = .next t ∧ t.listen =
      { s.listen with pendingRndB := none, blockNo := !s.listen.blockNo, held := some (page.setWidth 7), answer := (s.listen.page page.toNat).data ++ beBytes 2 (s.listen.page page.toNat).version.toNat ++ [0x90, 0x00] }
      ∧ t.keys = s.keys ∧ t.log = s.log ∧ t.cls = s.cls) ∧
(∀ (page : Byte) (s : State), s.listening = true → s.listen.session = true → s.listen.selected = true → 31 < page.toNat
      → page.toNat ≤ 127 → ∃ t, exec (.readPage 0x80 page [] true) s = .next t ∧ t.listen =
      { s.listen with pendingRndB := none, blockNo := !s.listen.blockNo, held := some (page.setWidth 7), answer := [0x6A, 0x86] }
      ∧ t.keys = s.keys ∧ t.log = s.log ∧ t.cls = s.cls) ∧
(∀ (data : List Byte) (page : Byte) (s : State), s.listening = true → s.listen.session = true → s.listen.selected = true
      → s.listen.secured = true → data.length = 8 → s.listen.ctrIn < 0xFFFFFFFF → s.listen.ctrOut < 0xFFFFFFFF →
      page.toNat ≤ 127 → ∃ t, exec (.readPage 0x84 page data true) s = .next t ∧ t.keys = s.keys ∧ t.log = s.log ∧ t.cls
      = s.cls ∧ (match s.listen.unseal [0x84, 0xB0, page, 0] data with
        | some _ => t.listen.answer = s.listen.seal ((s.listen.page page.toNat).data ++ beBytes 2 (s.listen.page
            page.toNat).version.toNat) 0x9000 ++ beBytes 2 0x9000 ∧ t.listen.ctrIn = s.listen.ctrIn + 1 ∧
            t.listen.ctrOut = s.listen.ctrOut + 1 ∧ t.listen.secured = true ∧ t.listen.held = some
            (page.setWidth 7)
        | none => t.listen.answer = [0x69, 0x88] ∧ t.listen.secured = false)) ∧
(∀ (s : State), s.listening = true → s.listen.session = true → s.listen.selected = true → s.listen.secured = false →
      s.insole.blocked = false → s.insole.auditKey ≠ none → s.insole.seeded = true → ∃ t, exec (.auth1 [] true) s =
      .next t ∧ t.listen =
      { s.listen with blockNo := !s.listen.blockNo, pendingRndB := some ((sha256 ([1] ++ s.insole.drbg)).take 16), answer := (sha256 ([1] ++ s.insole.drbg)).take 16 ++ [0x90, 0x00] }
      ∧ t.keys = s.keys ∧ t.log = s.log ∧ t.cls = s.cls) ∧
(∀ (data rb k : List Byte) (s : State), s.listening = true → s.listen.session = true → s.listen.selected = true →
      data.length = 32 → s.listen.pendingRndB = some rb → s.insole.auditKey = some k → ∃ t, exec (.auth2 data true) s =
      .next t ∧ (if data.drop 16 = cmac k ([0x41] ++ data.take 16 ++ rb ++ leBytes 4 s.listen.uid.toNat) then t.listen =
      { s.listen with pendingRndB := none, blockNo := !s.listen.blockNo, secured := true, rndB := rb, ks := cmac k ([0x53] ++ data.take 16 ++ rb), ctrIn := 0, ctrOut := 0, answer := cmac k ([0x42] ++ rb ++ data.take 16 ++ leBytes 4 s.listen.uid.toNat) ++ [0x90, 0x00] }
      ∧ t.insole.failCount = 0 else t.listen =
      { s.listen with pendingRndB := none, blockNo := !s.listen.blockNo, answer := [0x69, 0x82] } ∧ t.insole.failCount =
      BitVec.ofNat 2 (min (s.insole.failCount.toNat + 1) 3) ∧ t.insole.blocked = (s.insole.blocked || decide (3 ≤ min
      (s.insole.failCount.toNat + 1) 3)) ∧ t.insole.failTotal = satAdd s.insole.failTotal 1) ∧ t.keys = s.keys ∧ t.log =
      s.log ∧ t.cls = s.cls) ∧
(∀ (data : List Byte) (page : Byte) (s : State), s.listening = true → s.listen.session = true → s.listen.selected = true
      → s.listen.secured = true → data.length = 74 → s.listen.ctrIn < 0xFFFFFFFF → s.listen.ctrOut < 0xFFFFFFFF → 96 ≤
      page.toNat → page.toNat ≤ 127 → ∃ t, exec (.writeNotes page data true none) s = .next t ∧ t.keys = s.keys ∧ t.log
      = s.log ∧ t.cls = s.cls ∧ (match s.listen.unseal [0x84, 0xD0, page, 0] data with
        | some d => if (s.listen.page page.toNat).version.toNat = ofBe (d.take 2) then t.listen.pages = Bank.set {}
            page.toNat
            { data := padTo 64 (d.drop 2), version := (s.listen.page page.toNat).version + 1, buffer := some s.listen.spareField }
            s.listen.pages ∧ t.listen.spareField = s.listen.bufferNo page.toNat ∧ t.listen.answer =
            s.listen.seal (beBytes 2 ((s.listen.page page.toNat).version + 1).toNat) 0x9000 ++ beBytes 2 0x9000
            ∧ t.listen.ctrIn = s.listen.ctrIn + 1 ∧ t.listen.ctrOut = s.listen.ctrOut + 1 ∧ t.listen.secured =
            true else t.listen.answer = s.listen.seal ([]) 0x6985 ++ beBytes 2 0x6985 ∧ t.listen.ctrIn =
            s.listen.ctrIn + 1 ∧ t.listen.ctrOut = s.listen.ctrOut + 1 ∧ t.listen.secured = true ∧
            t.listen.pages = s.listen.pages
        | none => t.listen.answer = [0x69, 0x88] ∧ t.listen.secured = false)) ∧
(∀ (data : List Byte) (s : State), s.listening = true → s.listen.session = true → s.listen.selected = true →
      s.listen.secured = true → data.length = 12 → s.listen.ctrIn < 0xFFFFFFFF → s.listen.ctrOut < 0xFFFFFFFF → ∃ t,
      exec (.readLog data true) s = .next t ∧ t.keys = s.keys ∧ t.log = s.log ∧ t.cls = s.cls ∧ (match s.listen.unseal
      [0x84, 0xB2, 0, 0] data with
        | some d => t.listen.answer = s.listen.seal ([BitVec.ofNat 8 (s.log.entriesFrom (BitVec.ofNat 32 (ofBe d))
            4).length] ++ (s.log.entriesFrom (BitVec.ofNat 32 (ofBe d)) 4).flatMap LogEntry.bytes) 0x9000 ++
            beBytes 2 0x9000 ∧ t.listen.ctrIn = s.listen.ctrIn + 1 ∧ t.listen.ctrOut = s.listen.ctrOut + 1 ∧
            t.listen.secured = true
        | none => t.listen.answer = [0x69, 0x88] ∧ t.listen.secured = false)) ∧
(∀ (data : List Byte) (s : State), s.listening = true → s.listen.session = true → s.listen.selected = true →
      s.listen.secured = true → data.length = 8 → s.listen.ctrIn < 0xFFFFFFFF → s.listen.ctrOut < 0xFFFFFFFF → ∃ t, exec
      (.getStatus data true) s = .next t ∧ t.keys = s.keys ∧ t.log = s.log ∧ t.cls = s.cls ∧ (match s.listen.unseal
      [0x84, 0xF0, 0, 0] data with
        | some _ => t.listen.answer = s.listen.seal (statusData s) 0x9000 ++ beBytes 2 0x9000 ∧ t.listen.ctrIn =
            s.listen.ctrIn + 1 ∧ t.listen.ctrOut = s.listen.ctrOut + 1 ∧ t.listen.secured = true
        | none => t.listen.answer = [0x69, 0x88] ∧ t.listen.secured = false)) ∧
(∀ (cla ins : Byte) (s : State), s.listening = true → s.listen.session = true → ((cla = 0x00 ∧ ins ≠ 0xA4) ∨ cla = 0x80
      ∨ cla = 0x84) → ∃ t, exec (.unsupportedApdu cla ins) s = .next t ∧ t.listen =
      { s.listen with pendingRndB := none, blockNo := !s.listen.blockNo, answer := [0x6D, 0x00] } ∧ t.keys = s.keys ∧
      t.log = s.log ∧ t.cls = s.cls) ∧
(∀ (s : State), s.insole.blocked = true → exec .authBlockEnd s = .next (s.withInsole fun i =>
      { i with blocked := false, failCount := 2 }))

/-- The contactless port in poll mode (14 R432, R433, R436). -/
def Obligations.CompletePoll : Prop :=
(∀ (s : State), s.unitOn 33 = true → s.pins.pwrgd = true → s.insole.onVbat = false → s.cls.mode = .off → s.listen.field
      = false → s.listen.session = false → exec (.clsPoll .machine) s = .next (s.withCls fun c =>
      { c with mode := .polling, fieldOn := true })) ∧
(∀ (s : State), s.unitOn 33 = true → s.pins.pwrgd = true → s.insole.onVbat = false → s.cls.mode = .off → s.listen.field
      = true → exec (.clsPoll .machine) s = .next (s.withCls fun c =>
      { c with mode := .off, exchanging := false, status := Status.notReady, irqPend := true, fieldOn := false })) ∧
(∀ (s : State), s.unitOn 33 = true → s.cls.mode = .polling → exec (.clsAbort .machine) s = .next (s.withCls fun c =>
      { c with mode := .off, exchanging := false, status := Status.aborted, irqPend := true, fieldOn := false })) ∧
(∀ (s : State), s.unitOn 33 = true → s.cls.mode = .badge → s.cls.exchanging = false → exec (.clsXchg .machine) s = .next
      (s.withCls fun c => { c with exchanging := true, rx := [] }) ∧ exec (.clsAbort .machine) s = .next (s.withCls fun
      c => { c with mode := .off, fieldOn := false })) ∧
(∀ (u : List Byte) (other : Option (List Byte)) (s : State), s.unitOn 33 = true → s.cls.mode = .polling → s.cls.typeA =
      true → exec (.pollRound (some u) other false) s = .next (s.withCls fun c =>
      { c with mode := .badge, exchanging := false, status := Status.ok, irqPend := true, fieldOn := true, uid := u, uidTypeB := false })) ∧
(∀ (u : List Byte) (s : State), s.unitOn 33 = true → s.cls.mode = .polling → s.cls.typeB = true → exec (.pollRound none
      (some u) false) s = .next (s.withCls fun c =>
      { c with mode := .badge, exchanging := false, status := Status.ok, irqPend := true, fieldOn := true, uid := u, uidTypeB := true })) ∧
(∀ (s : State), s.unitOn 33 = true → s.cls.mode = .polling → exec .pollTimeout s = .next (s.withCls fun c =>
      { c with mode := .off, exchanging := false, status := Status.cardAbsent, irqPend := true, fieldOn := false })) ∧
(∀ (a : List Byte) (s : State), s.unitOn 33 = true → s.cls.exchanging = true → exec (.badgeExchangeEnd (some a)) s =
      .next (s.withCls fun c =>
      { c with mode := .badge, exchanging := false, status := Status.ok, irqPend := true, fieldOn := true, tx := [], rx := wordsOf a, rxLen := BitVec.ofNat 32 a.length })) ∧
(∀ (s : State), s.unitOn 33 = true → s.cls.exchanging = true → exec (.badgeExchangeEnd none) s = .next (s.withCls fun c
      =>
      { c with mode := .badge, exchanging := false, status := Status.cardRemoved, irqPend := true, fieldOn := true }))

/-- The public-key engines (10 R317, R318, R324, R325): every operation starts in an idle engine when the checks of R325 pass. -/
def Obligations.CompletePublicKey : Prop :=
(∀ (n : Fin 4) (k : PkeCmd) (s : State), (s.engine n.val).state = 0 → k.level ≠ .user → pkeCheck s (s.engine n.val)
      (pkeJobOf 0x01 k) k.rsv = none → exec (.rsaPriv n k) s = .next (s.pkeStart n.val 0x01 k)) ∧
(∀ (n : Fin 4) (k : PkeCmd) (s : State), (s.engine n.val).state = 0 → k.level ≠ .user → pkeCheck s (s.engine n.val)
      (pkeJobOf 0x02 k) k.rsv = none → exec (.rsaPub n k) s = .next (s.pkeStart n.val 0x02 k)) ∧
(∀ (n : Fin 4) (k : PkeCmd) (s : State), (s.engine n.val).state = 0 → k.level ≠ .user → pkeCheck s (s.engine n.val)
      (pkeJobOf 0x10 k) k.rsv = none → exec (.ecKeygen n k) s = .next (s.pkeStart n.val 0x10 k)) ∧
(∀ (n : Fin 4) (k : PkeCmd) (s : State), (s.engine n.val).state = 0 → k.level ≠ .user → pkeCheck s (s.engine n.val)
      (pkeJobOf 0x11 k) k.rsv = none → exec (.ecdsaSign n k) s = .next (s.pkeStart n.val 0x11 k)) ∧
(∀ (n : Fin 4) (k : PkeCmd) (s : State), (s.engine n.val).state = 0 → k.level ≠ .user → pkeCheck s (s.engine n.val)
      (pkeJobOf 0x12 k) k.rsv = none → exec (.ecdsaVerify n k) s = .next (s.pkeStart n.val 0x12 k)) ∧
(∀ (n : Fin 4) (k : PkeCmd) (s : State), (s.engine n.val).state = 0 → k.level ≠ .user → pkeCheck s (s.engine n.val)
      (pkeJobOf 0x13 k) k.rsv = none → exec (.ecdh n k) s = .next (s.pkeStart n.val 0x13 k)) ∧
(∀ (n : Fin 4) (k : PkeCmd) (s : State), (s.engine n.val).state = 0 → k.level ≠ .user → pkeCheck s (s.engine n.val)
      (pkeJobOf 0x20 k) k.rsv = none → exec (.cvKeygen n k) s = .next (s.pkeStart n.val 0x20 k)) ∧
(∀ (n : Fin 4) (k : PkeCmd) (s : State), (s.engine n.val).state = 0 → k.level ≠ .user → pkeCheck s (s.engine n.val)
      (pkeJobOf 0x21 k) k.rsv = none → exec (.edSign n k) s = .next (s.pkeStart n.val 0x21 k)) ∧
(∀ (n : Fin 4) (k : PkeCmd) (s : State), (s.engine n.val).state = 0 → k.level ≠ .user → pkeCheck s (s.engine n.val)
      (pkeJobOf 0x22 k) k.rsv = none → exec (.edVerify n k) s = .next (s.pkeStart n.val 0x22 k)) ∧
(∀ (n : Fin 4) (k : PkeCmd) (s : State), (s.engine n.val).state = 0 → k.level ≠ .user → pkeCheck s (s.engine n.val)
      (pkeJobOf 0x23 k) k.rsv = none → exec (.x25519 n k) s = .next (s.pkeStart n.val 0x23 k)) ∧
(∀ (n : Fin 4) (k : PkeCmd) (s : State), (s.engine n.val).state = 0 → k.level ≠ .user → pkeCheck s (s.engine n.val)
      (pkeJobOf 0x30 k) k.rsv = none → exec (.mlkemKeygen n k) s = .next (s.pkeStart n.val 0x30 k)) ∧
(∀ (n : Fin 4) (k : PkeCmd) (s : State), (s.engine n.val).state = 0 → k.level ≠ .user → pkeCheck s (s.engine n.val)
      (pkeJobOf 0x31 k) k.rsv = none → exec (.mlkemEncaps n k) s = .next (s.pkeStart n.val 0x31 k)) ∧
(∀ (n : Fin 4) (k : PkeCmd) (s : State), (s.engine n.val).state = 0 → k.level ≠ .user → pkeCheck s (s.engine n.val)
      (pkeJobOf 0x32 k) k.rsv = none → exec (.mlkemDecaps n k) s = .next (s.pkeStart n.val 0x32 k)) ∧
(∀ (n : Fin 4) (k : PkeCmd) (s : State), (s.engine n.val).state = 0 → k.level ≠ .user → pkeCheck s (s.engine n.val)
      (pkeJobOf 0x38 k) k.rsv = none → exec (.mldsaKeygen n k) s = .next (s.pkeStart n.val 0x38 k)) ∧
(∀ (n : Fin 4) (k : PkeCmd) (s : State), (s.engine n.val).state = 0 → k.level ≠ .user → pkeCheck s (s.engine n.val)
      (pkeJobOf 0x39 k) k.rsv = none → exec (.mldsaSign n k) s = .next (s.pkeStart n.val 0x39 k)) ∧
(∀ (n : Fin 4) (k : PkeCmd) (s : State), (s.engine n.val).state = 0 → k.level ≠ .user → pkeCheck s (s.engine n.val)
      (pkeJobOf 0x3A k) k.rsv = none → exec (.mldsaVerify n k) s = .next (s.pkeStart n.val 0x3A k)) ∧
(∀ (n : Fin 4) (k : PkeCmd) (s : State), (s.engine n.val).state = 0 → k.level ≠ .user → pkeCheck s (s.engine n.val)
      (pkeJobOf 0x40 k) k.rsv = none → exec (.checkKey n k) s = .next (s.pkeStart n.val 0x40 k)) ∧
(∀ (n : Nat) (op : Byte) (k : PkeCmd) (s : State), Bank.wf {} s.pke → ∃ e, (s.pkeStart n op k).engine n = e ∧ e.done =
      false ∧ e.owner = BitVec.ofNat 7 (65 + k.master.val) ∧ e.reruns = 0 ∧ e.job = some (pkeJobOf op k) ∧ e.state = (if
      pkeWaits s n op.toNat (decide (k.level = .machine)) then 1 else 2) ∧ e.mem = (s.engine n).mem ∧ (pkeVerify
      op.toNat = true → (s.pkeStart n op k).rng = s.rng) ∧ (s.pkeStart n op k).mem = s.mem) ∧
(∀ (n : Fin 4) (op : Byte) (k : PkeCmd) (s : State), (s.engine n.val).state = 0 → k.level ≠ .user → pkeOps.contains
      op.toNat = false → exec (.pkeCmdBadOp n op k) s = .next ((((s.updEngine n.val (PkeEngine.latch op k)).pkeChanFail
      (pkeJobOf op k) Status.badOpcode).pkeEnd n.val Status.badOpcode 0 0 0).pkeTimed n.val)) ∧
(∀ (n : Fin 4) (k : PkeCmd) (s : State), ((s.engine n.val).state ≠ 0 ∨ k.level = .user) → exec (.ecdh n k) s = .next s ∧
      exec (.rsaPriv n k) s = .next s)

/-- The public-key engines (10 R325-R327, R331-R335): the stages of an operation, abort, clear and the known-answer test. -/
def Obligations.CompletePkeStages : Prop :=
(∀ (n : Fin 4) (j : PkeJob) (s : State), (s.engine n.val).job = some j → (s.engine n.val).state = 1 → pkeWaits s n.val
      j.op.toNat false = false → exec (.pkeWaitEnd n) s = .next (s.pkeBegin n.val j)) ∧
(∀ (n : Fin 4) (j : PkeJob) (s : State), pkeDrawLen j.op.toNat j.set.toNat (s.pkeType n.val) = 0 → s.pkeBegin n.val j =
      s.withPke (Bank.upd {} n.val fun e => { e with state := 2, scratch := {} })) ∧
(∀ (n : Fin 4) (j : PkeJob) (s : State), pkeDrawLen j.op.toNat j.set.toNat (s.pkeType n.val) ≠ 0 → s.pkeBegin n.val j =
      (s.withRng fun r => { r with freshQueue := r.freshQueue.filter fun q => decide (q ≠ .pke n.val) }).instDraw (5 +
      n.val) (pkeKeygen j.op.toNat) (pkeDrawLen j.op.toNat j.set.toNat (s.pkeType n.val)) fun b t => t.withPke (Bank.upd
      {} n.val fun e => { e with state := 2, scratch := { drawn := b } })) ∧
(∀ (n : Fin 4) (j : PkeJob) (s : State), (s.engine n.val).job = some j → (s.engine n.val).state = 2 → s.rng.audit =
      false → (s.mpu (6 + n.val)).stopped = none → s.dmaRefused (6 + n.val) false (s.engine n.val).src.toNat (s.engine
      n.val).srcLen.toNat = none → exec (.pkeLoadDone n) s = .next (s.pkeLoad n.val j)) ∧
(∀ (n : Nat) (j : PkeJob) (s : State), Bank.wf {} s.pke → ∃ e, (s.pkeLoad n j).engine n = e ∧ e.input = s.sramRead
      (s.engine n).src.toNat (s.engine n).srcLen.toNat ∧ e.state = (if pkeValidated j then 3 else 4) ∧ e.scratch.drawn =
      (s.engine n).scratch.drawn ∧ e.scratch.key = (((s.engine n).slot.bind (Bank.get none s.keys.runs)).map
      KeyRun.material).getD [] ∧ e.mem = pkeRegion (pkeInput j).1 e.input (s.engine n).mem ∧ (s.pkeLoad n j).mem = s.mem
      ∧ (s.pkeLoad n j).keys = s.keys) ∧
(∀ (n : Fin 4) (j : PkeJob) (s : State), (s.engine n.val).job = some j → (s.engine n.val).state = 3 → s.rng.audit =
      false → s.fw.pkeAgain = [] → exec (.pkeValidationEnd n) s = .next (match pkeFailed j ((s.engine n.val).keyBytes j)
      ((s.engine n.val).body j) with
        | none => s.withPke (Bank.upd {} n.val fun e => { e with state := 4 })
        | some code => (((if j.kout then s.withKeys fun k => k.endChan j.ch.val Status.inputInvalid 0 none else
            s).pkeEnd n.val Status.inputInvalid (0x20000 + code.setWidth 32) 0 0).pkeTimed n.val).pkeReissue)) ∧
(∀ (n : Fin 4) (j : PkeJob) (d : PkeDone) (s : State), (s.engine n.val).job = some j → (s.engine n.val).state = 4 →
      s.rng.audit = false → (s.mpu (6 + n.val)).stopped = none → (s.engine n.val).copied = none → d.checkOk = true →
      (d.iter < 1000 ∨ j.op ≠ 0x39) → exec (.pkeOpDone n d) s = .next ((if ((s.engine n.val).compute j).status =
      Status.ok then ((s.withPke (Bank.upd {} n.val fun e =>
      { e with time := d.pclk, iter := if j.op = 0x39 then BitVec.ofNat 10 d.iter else e.iter })).withPke (Bank.upd {}
      n.val fun e =>
      { e with mem := Bank.writeBytes e.mem 0x2000 (padTo (pkeOutLen j) ((s.engine n.val).compute j).out), scratch := { e.scratch with secret := ((s.engine n.val).compute j).secret }, copied := some 0 })).pkeCopy
      n.val 0 j true else ((s.withPke (Bank.upd {} n.val fun e =>
      { e with time := d.pclk, iter := if j.op = 0x39 then BitVec.ofNat 10 d.iter else e.iter })).pkeChanFail j
      ((s.engine n.val).compute j).status).pkeEnd n.val ((s.engine n.val).compute j).status ((s.engine n.val).compute
      j).detail 0 0).pkeReissue)) ∧
(∀ (j : PkeJob) (t : Byte) (key body drawn : List Byte), (j.op = 0x01 ∨ j.op = 0x02) → pkeCompute j t key body drawn =
      { out := leBytes (rsaLen j.set.toNat) (if j.op = 0x01 then (rsaKey (rsaLen j.set.toNat) key).priv (ofLe (body.take (rsaLen j.set.toNat))) else powMod (rsaKey (rsaLen j.set.toNat) key).n (ofLe (body.take (rsaLen j.set.toNat))) (rsaKey (rsaLen j.set.toNat) key).e) }) ∧
(∀ (s : State), s.fw.pkeAgain = [] → s.pkeReissue = s) ∧
(∀ (n : Fin 4) (j : PkeJob) (d : PkeDone) (s : State), (s.engine n.val).job = some j → (s.engine n.val).state = 4 →
      s.rng.audit = false → (s.mpu (6 + n.val)).stopped = none → (s.engine n.val).copied = none → (d.checkOk = false ∨
      j.op = 0x39 ∧ 1000 ≤ d.iter) → (s.engine n.val).reruns.toNat < 2 → exec (.pkeOpDone n d) s = .next ((((s.withPke
      (Bank.upd {} n.val fun e => { e with reruns := e.reruns + 1, scratch := {}, input := [] })).pkeRun n.val j
      true).eventFree (0x10 + n.val) 1).pkeReissue)) ∧
(∀ (n : Fin 4) (m : CoreNo) (level : Level) (v : Word) (s : State), v.getLsbD 0 = true → level ≠ .user → ((s.engine
      n.val).owner.toNat = 65 + m.val ∨ m.val = 4) → (s.engine n.val).state ≠ 0 → (s.engine n.val).state ≠ 6 → (s.engine
      n.val).state ≠ 7 → exec (.pkeAbort n m level v) s = .next (s.withPke (Bank.upd {} n.val fun e =>
      { e with state := 5, clearing := .abort, abortGo := true, scratch := {}, input := [], copied := none }))) ∧
(∀ (n : Fin 4) (m : CoreNo) (level : Level) (v : Word) (s : State), v.getLsbD 0 = true → level ≠ .user → m.val ≤ 4 →
      (s.engine n.val).state = 0 → exec (.pkeClear n m level v) s = .next (s.withPke (Bank.upd {} n.val fun e =>
      { e with state := 5, clearing := .clear, clearGo := true, scratch := {}, input := [], copied := none }))) ∧
(∀ (n : Fin 4) (s : State), (s.engine n.val).state = 5 → (s.engine n.val).clearing = .clear → exec (.pkeClearDone n) s =
      .next ((s.withPke (Bank.upd {} n.val fun e =>
      { e with mem := [], clearing := .no, abortGo := false, clearGo := false, state := 0 })).pkeReissue)) ∧
(∀ (n : Fin 4) (level : Level) (s : State), level ≠ .user → (s.engine n.val).state = 6 → (s.engine n.val).qcount.toNat <
      3 → exec (.pkeKatRun n level) s = .next ((if s.rng.serves (5 + n.val) then s.instDraw (5 + n.val) false 32 fun _ u
      => u else s).withPke (Bank.upd {} n.val fun e => { e with katRun := true }))) ∧
(∀ (n : Fin 4) (s : State), (s.engine n.val).katRun = true → exec (.pkeKatDone n true) s = .next ((s.withPke (Bank.upd
      {} n.val fun e =>
      { e with katRun := false, katDone := true, katPass := true, state := if e.state = 6 then (if s.unitOn (16 + n.val) then 0 else 7) else e.state })).pkeReissue))

/-- The digest channels, units and measurement registers (11 R347-R360). -/
def Obligations.CompleteDigest : Prop :=
(∀ (m : CoreNo) (k : DigCmd) (s : State), k.writer = m → k.level ≠ .user → (s.dig.chan m.val).op = none → digCheck s
      (s.dig.chan m.val) dINIT k = none → exec (.digInit m k) s = .next (s.digStart m.val dINIT k)) ∧
(∀ (m : CoreNo) (k : DigCmd) (s : State), k.writer = m → k.level ≠ .user → (s.dig.chan m.val).op = none → digCheck s
      (s.dig.chan m.val) dUPDATE k = none → exec (.digUpdate m k) s = .next (s.digStart m.val dUPDATE k)) ∧
(∀ (m : CoreNo) (k : DigCmd) (s : State), k.writer = m → k.level ≠ .user → (s.dig.chan m.val).op = none → digCheck s
      (s.dig.chan m.val) dFINAL k = none → exec (.digFinal m k) s = .next (s.digStart m.val dFINAL k)) ∧
(∀ (m : CoreNo) (k : DigCmd) (s : State), k.writer = m → k.level ≠ .user → (s.dig.chan m.val).op = none → digCheck s
      (s.dig.chan m.val) dSAVE k = none → exec (.digSave m k) s = .next (s.digStart m.val dSAVE k)) ∧
(∀ (m : CoreNo) (k : DigCmd) (s : State), k.writer = m → k.level ≠ .user → (s.dig.chan m.val).op = none → digCheck s
      (s.dig.chan m.val) dRESTORE k = none → exec (.digRestore m k) s = .next (s.digStart m.val dRESTORE k)) ∧
(∀ (m : CoreNo) (k : DigCmd) (s : State), k.writer = m → k.level ≠ .user → (s.dig.chan m.val).op = none → digCheck s
      (s.dig.chan m.val) dEXTEND k = none → exec (.digExtend m k) s = .next (s.digStart m.val dEXTEND k)) ∧
(∀ (m : CoreNo) (k : DigCmd) (s : State), k.writer = m → k.level ≠ .user → (s.dig.chan m.val).op = none → digCheck s
      (s.dig.chan m.val) dABORT k = none → exec (.digAbort m k) s = .next (((s.withDig fun d => d.updChan m.val
      (DigChan.accept dABORT)).withDig fun d => d.updChan m.val fun x =>
      { x with ctx := none, ctxOut := [], ctxIn := [] }).digEnd m.val Status.aborted 0)) ∧
(∀ (m : CoreNo) (k : DigCmd) (s : State), (k.writer ≠ m ∨ k.level = .user) → exec (.digInit m k) s = .next s ∧ exec
      (.digFinal m k) s = .next s ∧ exec (.digExtend m k) s = .next s) ∧
(∀ (m : Nat) (op : Byte) (k : DigCmd) (s : State), ∃ d0, s.digStart m op k = State.digDeal
      { s with keys := if op = dINIT ∧ digKeyed k.alg = true ∧ k.ksrc = 0 then s.keys.addRef (handleSlot (s.dig.chan m).key) else s.keys, dig := d0 }
      ∧ d0.ready = (if digWaits s (s.dig.chan m) op k then s.dig.ready else s.dig.ready ++ [.chan m]) ∧ d0.meas =
      s.dig.meas ∧ d0.units = s.dig.units ∧ d0.seals = s.dig.seals) ∧
(∀ (m : CoreNo) (u : Fin 4) (op : Byte) (k : DigCmd) (s : State), (s.dig.chan m.val).op = some (op, k) → digWaits s
      (s.dig.chan m.val) op k = false → (s.dig.unitAt u.val).work = some (.chan m.val) → (s.mpu 10).stopped = none →
      exec (.digestOpDone m u) s = .next (s.digOp m.val (s.dig.chan m.val) op k u.val)) ∧
(∀ (m u : Nat) (x : DigChan) (op : Byte) (k : DigCmd) (s : State), s.dmaRefused 10 false x.src.toNat (digReads x op k) =
      none → digIsKeyed x op k = false → s.digOp m x op k u = (if ((s.digRun m op k).dig.chan m).op.isSome then s.digRun
      m op k else ((s.digRun m op k).withDig fun d => (d.updUnit u fun y => { y with work := none }).updChan m fun y =>
      { y with unit := BitVec.ofNat 2 u }).digDeal)) ∧
(∀ (m : Nat) (k : DigCmd) (s : State), s.digRun m dEXTEND k = (s.withDig (Dig.extend k.midx.val k.alg (s.sramRead
      (s.dig.chan m).src.toNat (s.dig.chan m).len.toNat))).digEnd m Status.ok 0 ∧ ∀ c, (s.dig.chan m).ctx = some c →
      s.digRun m dUPDATE k = (s.withDig fun d => d.updChan m fun x =>
      { x with ctx := some { c with data := c.data ++ s.sramRead (s.dig.chan m).src.toNat (s.dig.chan m).len.toNat, count := c.count + (s.dig.chan m).len.setWidth 64 } }).digEnd
      m Status.ok 0) ∧
(∀ (u : Fin 4) (s : State), exec (.digestSegmentEnd u false false) s = .next ((s.withDig fun d =>
      { d.updUnit u.val (fun x => { x with work := none }) with ready := d.ready ++ (s.dig.unitAt u.val).work.toList }).digDeal)) ∧
(∀ (u : Fin 4) (s : State), ∃ t, exec (.digestSegmentEnd u true false) s = .next t ∧ t.dig =
      { s.dig with mism := satAdd s.dig.mism 1 } ∧ t.keys = s.keys ∧ t.alarm = s.alarm) ∧
(∀ (u : Fin 4) (level : Level) (s : State), level ≠ .user → (s.dig.unitAt u.val).quar = true → (s.dig.unitAt
      u.val).qcount < 3 → exec (.digKatRun u level) s = .next (s.withDig fun d =>
      { d with katUnit := BitVec.ofNat 2 u.val, katRun := true })) ∧
(∀ (s : State), s.dig.katRun = true → exec (.digKatDone true) s = .next ((s.withDig fun d =>
      { d with katRun := false, katDone := true, katPass := true, units := Bank.upd {} d.katUnit.toNat (fun x => { x with quar := false }) d.units }).digDeal)) ∧
(∀ (n : Fin 32) (s : State), exec (.measWord0Read n) s = .next ((s.withDig fun d =>
      { d with measLatch := (Bank.get {} s.dig.meas n.val).value }).setRead (wordOf (Bank.get {} s.dig.meas n.val).value
      0))) ∧
(∀ (v : Word) (s : State), exec (.digEnWrite .machine v) s = .next ((s.withDig fun d =>
      { d with en := v.setWidth 4 }).digDeal))

/-- The Sole ports (08 R261-R281): block lock and training. -/
def Obligations.CompleteSoleTraining : Prop :=
(∀ (port : Fin 16) (s : State), exec (.blockLockAcquired port) s = .next ((s.updPort port.val fun p =>
      { p with lock := true, trained := .no }).startTraining port.val)) ∧
(∀ (n : Nat) (s : State), (s.sole.get n).live = true → s.startTraining n = (((s.updPort n fun p =>
      { p with trained := .training, step := .caps, attempt := 0, attempts := satAdd p.attempts 1, rttMin := none, sched := p.sched.map fun e => { e with seq := none }, trk := { p.trk with state := 0, rej := 0, stamps := 0 }, reach := none }).announceHold
      n 3).sendRequest n)) ∧
(∀ (port : Fin 16) (s : State), (s.sole.get port.val).lock = true → (s.sole.get port.val).frame = none → exec
      (.blockLockLost port) s = .next (s.updPort port.val fun p =>
      { p with lock := false, trained := .no, frame := none, laneBusy := false, holding := none, err := setBit p.err erLOCKLOSS true, sched := p.sched.map fun e => { e with seq := none }, trk := { p.trk with state := 0, rej := 0, stamps := 0 }, reach := none })) ∧
(∀ (port : Fin 16) (fh : FrameHdr) (version flags mask : Byte) (rsv : BitVec 32) (identity : BitVec 128) (s : State),
      (s.sole.get port.val).live = true → fh.flags.toNat / 4 = 0 → fh.bodyLen.toNat = ([1] ++ leBytes 3 rsv.toNat ++
      [version, flags, mask, BitVec.ofNat 8 (rsv.toNat / 2 ^ 24)] ++ leBytes 16 identity.toNat).length → FrameHdrOk 0x06
      fh ([1] ++ leBytes 3 rsv.toNat ++ [version, flags, mask, BitVec.ofNat 8 (rsv.toNat / 2 ^ 24)] ++ leBytes 16
      identity.toNat) = true → ((s.rxFrame port.val fh).sole.get port.val).trainingAt .caps = true → exec (.caps port fh
      version flags mask rsv identity) s = .next (if version = 1 then ((s.rxFrame port.val fh).updPort port.val fun p =>
      { p with mask := mask.setWidth 3, step := .geometry, attempt := 0 }).sendRequest port.val else (s.rxFrame port.val
      fh).failTraining port.val)) ∧
(∀ (port : Fin 16) (fh : FrameHdr) (tpp : Long) (pitch spp offs : Word) (code : Byte) (rsv : BitVec 48) (s : State),
      (s.sole.get port.val).live = true → fh.flags.toNat / 4 = 0 → fh.bodyLen.toNat = ([2] ++ leBytes 3 rsv.toNat ++
      leBytes 8 tpp.toNat ++ leBytes 4 pitch.toNat ++ leBytes 4 spp.toNat ++ leBytes 4 offs.toNat ++ [code] ++ leBytes 3
      (rsv.toNat / 2 ^ 24)).length → FrameHdrOk 0x06 fh ([2] ++ leBytes 3 rsv.toNat ++ leBytes 8 tpp.toNat ++ leBytes 4
      pitch.toNat ++ leBytes 4 spp.toNat ++ leBytes 4 offs.toNat ++ [code] ++ leBytes 3 (rsv.toNat / 2 ^ 24)) = true →
      ((s.rxFrame port.val fh).sole.get port.val).trainingAt .geometry = true → exec (.geometry port fh tpp pitch spp
      offs code rsv) s = .next (if 2 < code.toNat ∨ geometryBad (((s.rxFrame port.val fh).updPort port.val fun p =>
      { p with tpp := tpp &&& 0xFFFFFFFFFFFF, pitch := pitch, spp := spp, offs := offs, code := code.setWidth 2 }).sole.get
      port.val) = true then ((s.rxFrame port.val fh).updPort port.val fun p =>
      { p with tpp := tpp &&& 0xFFFFFFFFFFFF, pitch := pitch, spp := spp, offs := offs, code := code.setWidth 2 }).failTraining
      port.val else (((s.rxFrame port.val fh).updPort port.val fun p =>
      { p with tpp := tpp &&& 0xFFFFFFFFFFFF, pitch := pitch, spp := spp, offs := offs, code := code.setWidth 2 }).updPort
      port.val fun p => { p with step := .loop 0, attempt := 0 }).sendRequest port.val)) ∧
(∀ (port : Fin 16) (fh : FrameHdr) (token : Word) (ns : Half) (rsv : BitVec 40) (count k : Nat) (s : State), (s.sole.get
      port.val).live = true → fh.flags.toNat / 4 = 0 → fh.bodyLen.toNat = ([4] ++ leBytes 3 rsv.toNat ++ leBytes 4
      token.toNat ++ leBytes 2 ns.toNat ++ leBytes 2 (rsv.toNat / 2 ^ 24)).length → FrameHdrOk 0x06 fh ([4] ++ leBytes 3
      rsv.toNat ++ leBytes 4 token.toNat ++ leBytes 2 ns.toNat ++ leBytes 2 (rsv.toNat / 2 ^ 24)) = true → ((s.rxFrame
      port.val fh).sole.get port.val).step = .loop k → ((s.rxFrame port.val fh).sole.get port.val).trained = .training →
      ns.toNat ≤ 500 → ((s.rxFrame port.val fh).sole.get port.val).tokens.contains token = true → token = ((s.rxFrame
      port.val fh).sole.get port.val).token → exec (.loopEcho port fh token ns rsv count) s = .next (if 16 ≤ k + 1 then
      ((s.rxFrame port.val fh).updPort port.val fun p =>
      { p.roundTrip (count - nsToSlclk ns.toNat) with step := .loop (k + 1), attempt := 0 }).trainDone port.val else
      ((s.rxFrame port.val fh).updPort port.val fun p =>
      { p.roundTrip (count - nsToSlclk ns.toNat) with step := .loop (k + 1), attempt := 0 }).sendRequest port.val)) ∧
(∀ (port : Fin 16) (fh : FrameHdr) (token : Word) (ns : Half) (rsv : BitVec 40) (count : Nat) (s : State), (s.sole.get
      port.val).live = true → fh.flags.toNat / 4 = 0 → fh.bodyLen.toNat = ([4] ++ leBytes 3 rsv.toNat ++ leBytes 4
      token.toNat ++ leBytes 2 ns.toNat ++ leBytes 2 (rsv.toNat / 2 ^ 24)).length → FrameHdrOk 0x06 fh ([4] ++ leBytes 3
      rsv.toNat ++ leBytes 4 token.toNat ++ leBytes 2 ns.toNat ++ leBytes 2 (rsv.toNat / 2 ^ 24)) = true → ((s.rxFrame
      port.val fh).sole.get port.val).trained = .training → (500 < ns.toNat ∨ ((s.rxFrame port.val fh).sole.get
      port.val).tokens.contains token = false) → exec (.loopEcho port fh token ns rsv count) s = .next ((s.rxFrame
      port.val fh).failTraining port.val)) ∧
(∀ (port : Fin 16) (s : State), (s.sole.get port.val).live = true → (s.sole.get port.val).trained = .training →
      (s.sole.get port.val).attempt < 3 → exec (.trainingAnswerTimeout port) s = .next (s.sendRequest port.val)) ∧
(∀ (port : Fin 16) (s : State), (s.sole.get port.val).live = true → (s.sole.get port.val).trained = .training → 3 ≤
      (s.sole.get port.val).attempt → exec (.trainingAnswerTimeout port) s = .next (s.failTraining port.val)) ∧
(∀ (port : Fin 16) (s : State), (s.sole.get port.val).trained = .failed → exec (.retrainTimer port) s = .next
      (s.startTraining port.val)) ∧
(∀ (port : Fin 16) (s : State), exec (.solRetrain port .machine) s = .next (s.startTraining port.val))

/-- The Sole ports and the Last (08 R264-R290, 09 R292-R312): frames, credits, windows and timers. -/
def Obligations.CompleteSoleFrames : Prop :=
(∀ (port : Fin 16) (fh : FrameHdr) (fine : BitVec 48) (pass ackSeq : Half) (flags rsv : Byte) (skipMask : Word) (tRx
      tUpd : BitVec 48) (s : State), (s.sole.get port.val).live = true → fh.flags.toNat / 4 = 0 → fh.bodyLen.toNat =
      (leBytes 6 fine.toNat ++ leBytes 2 pass.toNat ++ leBytes 2 ackSeq.toNat ++ [flags, rsv] ++ leBytes 4
      skipMask.toNat).length → FrameHdrOk 0x01 fh (leBytes 6 fine.toNat ++ leBytes 2 pass.toNat ++ leBytes 2
      ackSeq.toNat ++ [flags, rsv] ++ leBytes 4 skipMask.toNat) = true → ((s.sole.get port.val).trained ≠ .yes ∨
      fine.toNat < (s.sole.get port.val).tpp.toNat) → flags.getLsbD 0 = false → exec (.pos port fh fine pass ackSeq
      flags rsv skipMask tRx tUpd) s = .next (((((s.rxFrame port.val fh)).withSole fun x => if (tUpd - x.time).toNat < 2
      ^ 47 then { x with time := tUpd } else x).updPort port.val fun p => p.stampAt pass fine.toNat tRx tUpd).settleHold
      port.val)) ∧
(∀ (port : Fin 16) (fh : FrameHdr) (rsv : Half) (s : State), (s.sole.get port.val).live = true → fh.flags.toNat / 4 = 0
      → fh.bodyLen.toNat = ([0, 2] ++ leBytes 2 rsv.toNat).length → FrameHdrOk 0x04 fh ([0, 2] ++ leBytes 2 rsv.toNat) =
      true → exec (.holdResume port fh 0 2 rsv) s = .next (((s.rxFrame port.val fh).updPort port.val fun p =>
      { p with drvHold := true }).announceHold port.val 2)) ∧
(∀ (port : Fin 16) (fh : FrameHdr) (reason : Byte) (rsv : Half) (s : State), (s.sole.get port.val).live = true →
      fh.flags.toNat / 4 = 0 → fh.bodyLen.toNat = ([1, reason] ++ leBytes 2 rsv.toNat).length → FrameHdrOk 0x04 fh ([1,
      reason] ++ leBytes 2 rsv.toNat) = true → ((s.rxFrame port.val fh).sole.get port.val).drvHold = true → exec
      (.holdResume port fh 1 reason rsv) s = .next (((((s.rxFrame port.val fh).updPort port.val fun p =>
      { p with drvHold := false }).sendResume port.val 2).updPort port.val fun p =>
      { p with holding := if ((s.rxFrame port.val fh).sole.get port.val).holding = some 2 then none else ((s.rxFrame port.val fh).sole.get port.val).holding }).settleHold
      port.val)) ∧
(∀ (port : Fin 16) (fh : FrameHdr) (s : State), (s.sole.get port.val).live = true → fh.flags.toNat / 4 = 0 →
      fh.bodyLen.toNat = 0 → FrameHdrOk 0x0F fh [] = true → exec (.idle port fh) s = .next (s.updPort port.val fun p =>
      { p with drvActive := fh.flags.getLsbD 0 })) ∧
(∀ (port : Fin 16) (fh : FrameHdr) (s : State), (s.sole.get port.val).live = true → 65584 < fh.bodyLen.toNat → exec
      (.idle port fh) s = .next ((s.portErr port.val erOVERSIZE).updPort port.val fun p =>
      { p with resync := satAdd p.resync 1 })) ∧
(∀ (port : Fin 16) (type : Byte) (fh : FrameHdr) (data : List Byte) (excess : Nat) (s : State), (s.sole.get
      port.val).live = true → fh.bodyLen.toNat ≤ 65584 → driveType type = false → exec (.badFrame port type fh data
      excess) s = .next (s.portErr port.val erBADTYPE)) ∧
(∀ (port : Fin 16) (fh : FrameHdr) (data : List Byte) (s : State), (s.sole.get port.val).live = true → fh.bodyLen.toNat
      = 16 → fh.flags.toNat / 4 = 0 → data.length = 20 → FrameHdrOk 1 { fh with crc := wordOf (data.drop 16) 0 }
      (data.take 16) = false → exec (.badFrame port 1 fh data 0) s = .next ((s.portErr port.val erCRC).updPort port.val
      fun p => { p with crc := satAdd p.crc 1 })) ∧
(∀ (port : Fin 16) (s : State), (s.sole.get port.val).live = true → exec (.idleSendTimer port) s = .next (s.sendFrame
      port.val 0x0F false [])) ∧
(∀ (port : Fin 16) (s : State), (s.sole.get port.val).live = true → (s.sole.get port.val).trained = .yes → exec
      (.creditSend port) s = .next ((s.sendFrame port.val 0x05 false (leBytes 4 (s.sole.get port.val).raised.toNat ++
      [0, 0, 0, 0])).updPort port.val fun p => { p with credit := p.raised })) ∧
(∀ (port : Fin 16) (fh : FrameHdr) (codeWord : Half) (keyId : Long) (iv : BitVec 96) (addr : Long) (k : Nat) (s :
      State), (s.sole.get port.val).live = true → fh.flags.toNat / 4 = 0 → codeWord.toNat < 3 → fh.bodyLen.toNat =
      sectorLen codeWord.toNat → ((s.sole.get port.val).credit - (s.sole.get port.val).received).toNat < 2 ^ 31 →
      (s.sole.get port.val).credit ≠ (s.sole.get port.val).received → portActive s (s.sole.get port.val) = true →
      s.rings.waitingRead port.val addr = some k → exec (.sector port fh 0x0153 codeWord keyId iv addr) s = .next
      (((s.updPort port.val fun p =>
      { p with received := p.received + 1, frame := some { fh := fh, hdr := sectorHeadBytes 0x0153 codeWord keyId iv addr, code := codeWord.setWidth 2, job := some k, discard := false, raises := true } }).rxFrame
      port.val fh).withRings fun rs => rs.updJob k fun j =>
      { j with pos := .key, frameHandle := (s.sole.get port.val).bound (BitVec.ofNat 24 (addr.toNat / 2 ^ 40)) keyId })) ∧
(∀ (port : Fin 16) (fh : FrameHdr) (codeWord : Half) (keyId : Long) (iv : BitVec 96) (addr : Long) (s : State),
      (s.sole.get port.val).live = true → fh.flags.toNat / 4 = 0 → codeWord.toNat < 3 → fh.bodyLen.toNat = sectorLen
      codeWord.toNat → (s.sole.get port.val).credit = (s.sole.get port.val).received → exec (.sector port fh 0x0153
      codeWord keyId iv addr) s = .next (((s.updPort port.val fun p =>
      { p with received := p.received + 1, frame := some { fh := fh, hdr := sectorHeadBytes 0x0153 codeWord keyId iv addr, code := codeWord.setWidth 2, job := none, discard := true, raises := false } }).rxFrame
      port.val fh).portErr port.val erOVERCREDIT)) ∧
(∀ (port : Fin 16) (data : List Byte) (excess : Nat) (s : State), (s.sole.get port.val).frame = none → exec
      (.sectorFrameEnd port data excess) s = .next s) ∧
(∀ (port : Fin 16) (data : List Byte) (x : RxFrame) (k : Nat) (j : Job) (s : State), (s.sole.get port.val).frame = some
      x → x.discard = false → x.job = some k → s.rings.job k = some j → j.desc.code.toNat = x.code.toNat → data.length =
      sectorLen x.code.toNat - 28 → ∃ t, exec (.sectorFrameEnd port data 0) s = .next t ∧ (FrameHdrOk 0x02
      { x.fh with crc := wordOf (data.drop (sectorLen x.code.toNat - 32)) 0 } (x.hdr ++ data.take (sectorLen
      x.code.toNat - 32)) = true → t.rings = s.rings.updJob k (fun j =>
      { j with frameEnd := some true, input := x.hdr ++ data.take (sectorLen x.code.toNat - 32) }) ∧ t.keys = s.keys ∧
      t.out = s.out ∧ t.alarm = s.alarm)) ∧
(∀ (port : Fin 16) (t : BitVec 48) (s : State), (s.sole.get port.val).trk.state ≠ 2 → exec (.windowOpen port t) s =
      .next (s.withSole fun x => if (t - x.time).toNat < 2 ^ 47 then { x with time := t } else x)) ∧
(∀ (port : Fin 16) (t : BitVec 48) (s : State), (s.sole.get port.val).trk.state = 2 → 0 < (s.sole.get
      port.val).spp.toNat → 0 < (s.sole.get port.val).tpp.toNat → exec (.windowOpen port t) s = .next (if canSend s
      port.val = true then ((s.sole.get port.val).openSlots t).foldl (State.openWindow port.val) ((s.withSole fun x =>
      if (t - x.time).toNat < 2 ^ 47 then { x with time := t } else x).updPort port.val fun q => q.reachTo ((s.sole.get
      port.val).leadAt t)) else (s.withSole fun x => if (t - x.time).toNat < 2 ^ 47 then { x with time := t } else
      x).updPort port.val fun q => q.reachTo ((s.sole.get port.val).leadAt t))) ∧
(∀ (port : Fin 16) (s : State), (s.sole.get port.val).trk.state ≠ 0 → exec (.stampTimeout port false) s = .next
      ((s.updPort port.val fun p =>
      { (if p.trk.state = 2 then p.reachTo (p.leadAt s.sole.time) else p) with trk := { (if p.trk.state = 2 then p.trk.acquire else { p.trk with stamps := 0 }) with tmoCnt := satAdd p.trk.tmoCnt 1 } }).settleHold
      port.val)) ∧
(∀ (port : Fin 16) (tie : Bool) (s : State), ((s.sole.get port.val).trk.state = 0 ∨ tie = true) → exec (.stampTimeout
      port tie) s = .next s) ∧
(∀ (port : Fin 16) (s : State), portState s (s.sole.get port.val) = 6 → exec (.holdLimit port) s = .next (((s.sole.get
      port.val).sched.foldl (fun (t : State) e => t.failJob e.job Status.portHold (BitVec.ofNat 32 port.val) 7)
      s).updPort port.val fun p => { p with holdOver := true })) ∧
(∀ (port : Fin 16) (s : State), exec (.sectorFrameSent port) s = .next (s.updPort port.val fun p =>
      { p with laneBusy := false }))

/-- Doorbells, fetching, the pipeline stages and ring control (06 R190-R217, 07 R231-R246, 09 R308). -/
def Obligations.CompletePipeline : Prop :=
(∀ (f : Fin 64) (ring : Fin 16384) (v : Long) (s : State), (Bank.get {} s.pcie.fns f.val).flr = false → s.boot.shelfDown
      = false → s.rings.pageFn (ring.val / 512) = some (BitVec.ofNat 6 f.val) → (s.rings.get ring.val).fn.toNat = f.val
      → (((s.rings.get ring.val).state = 1 ∧ v.setWidth 32 ≠ (s.rings.get ring.val).p) ∨ (s.rings.get ring.val).state =
      2) → (s.rings.get ring.val).accepts v = true → exec (.doorbellWrite f ring v) s = .next ((s.withRings fun rs =>
      rs.updRing ring.val fun x => { x with p := v.setWidth 32, state := 1, fetchErr := false }).mirrorCounts ring.val)) ∧
(∀ (f : Fin 64) (ring : Fin 16384) (v : Long) (s : State), (Bank.get {} s.pcie.fns f.val).flr = false → s.boot.shelfDown
      = false → s.rings.pageFn (ring.val / 512) = some (BitVec.ofNat 6 f.val) → (s.rings.get ring.val).fn.toNat = f.val
      → (s.rings.get ring.val).state = 1 → (s.rings.get ring.val).accepts v = true → v.setWidth 32 = (s.rings.get
      ring.val).p → (s.rings.get ring.val).fetchErr = false → exec (.doorbellWrite f ring v) s = .next s) ∧
(∀ (f : Fin 64) (ring : Fin 16384) (v : Long) (s : State), (Bank.get {} s.pcie.fns f.val).flr = false → s.boot.shelfDown
      = false → s.rings.pageFn (ring.val / 512) = some (BitVec.ofNat 6 f.val) → (s.rings.get ring.val).fn.toNat = f.val
      → (((s.rings.get ring.val).state = 1 ∨ (s.rings.get ring.val).state = 2) ∧ (s.rings.get ring.val).accepts v =
      false ∨ (s.rings.get ring.val).state = 3) → exec (.doorbellWrite f ring v) s = .next (s.withRings fun rs =>
      rs.updRing ring.val fun x => { x with dbBad := satAdd x.dbBad 1 })) ∧
(∀ (f : Fin 64) (ring : Fin 16384) (v : Long) (s : State), (Bank.get {} s.pcie.fns f.val).flr = false → s.boot.shelfDown
      = false → ((s.rings.get ring.val).fn.toNat ≠ f.val ∨ (s.rings.get ring.val).state = 0 ∨ (s.rings.get
      ring.val).state = 4) → exec (.doorbellWrite f ring v) s = .next (s.withMbx fun m => m.updPage f.val fun p =>
      { p with dbDrop := satAdd p.dbDrop 1 })) ∧
(∀ (ring : Fin 16384) (v : Long) (s : State), (s.rings.get ring.val).state = 4 → s.boot.shelfDown = false → exec
      (.tailShadowRead ring v) s = .next (s.withRings fun rs => rs.updRing ring.val (Ring.shadow v))) ∧
(∀ (ring : Fin 16384) (s : State), (s.rings.get ring.val).wanted ≠ 0 → (s.rings.get ring.val).issued = 0 → fetchStall
      s.rings = false → s.welt.ringsStopped = false → exec (.descriptorFetch ring) s = .next (s.withRings fun rs =>
      rs.updRing ring.val fun x =>
      { x with issued := min (min 8 (s.rings.get ring.val).wanted) (min (2 ^ (s.rings.get ring.val).size.toNat - (s.rings.get ring.val).nextFetch.toNat % 2 ^ (s.rings.get ring.val).size.toNat) (4000 - s.rings.list.length - s.rings.outstanding)) })) ∧
(∀ (g : Ring), (g.state = 1 ∨ g.state = 4) → g.reread = 0 → g.wanted = (g.p - g.f).toNat ∧ g.nextFetch = g.f) ∧
(∀ (ring : Fin 16384) (data : List Byte) (s : State), (s.rings.get ring.val).issued ≠ 0 → exec (.descriptorArrival ring
      data) s = .next (((((List.range (s.rings.get ring.val).issued).map fun i => descOf (sliceBytes data (64 * i)
      64)).foldl (State.fetchOne ring.val) s).withRings (Rings.endRead ring.val)).mirrorCounts ring.val)) ∧
(∀ (r : Nat) (d : Desc) (s : State), s.rings.abortReads.contains r = false → fetchCheck d = none → (s.rings.get
      r).reread = 0 → (s.fetchOne r d).rings.job (jobKey r (s.rings.get r).f) = ((s.rings.setJob (jobKey r (s.rings.get
      r).f) (some { desc := d, pos := .admission, carried := decide ((s.rings.get r).state = 4) })).job (jobKey r
      (s.rings.get r).f)) ∧ (s.fetchOne r d).keys = s.keys ∧ (s.fetchOne r d).out = s.out ∧ (s.fetchOne r d).rings.ring
      = Bank.upd {} r (fun x => { x with f := x.f + 1 }) s.rings.ring) ∧
(∀ (r : Nat) (d : Desc) (st : Half) (dt : Word) (s : State), s.rings.abortReads.contains r = false → fetchCheck d = some
      (st, dt) → s.fetchOne r d = (s.withRings fun rs => (rs.setJob (jobKey r (s.rings.get r).nextFetch) (some
      { desc := d, pos := .admission, carried := decide ((s.rings.get r).state = 4) })).updRing r fun x => if x.reread =
      0 then { x with f := x.f + 1 } else { x with reread := x.reread - 1 }).failJob (jobKey r (s.rings.get
      r).nextFetch) st dt 1) ∧
(∀ (ring : Fin 16384) (data : List Byte) (e : EarlyEnd) (s : State), (s.rings.get ring.val).issued ≠ 0 → data.length <
      64 * (s.rings.get ring.val).issued → exec (.descriptorReadEarlyEnd ring data e) s = .next ((((((descsOf
      (data.length / 64) data).foldl (State.fetchOne ring.val) s).withRings (Rings.endRead ring.val)).withRings fun rs
      => rs.updRing ring.val fun x => { x with state := 2, fetchErr := true }).withPcie (Pcie.early e)).mirrorCounts
      ring.val)) ∧
(∀ (ring : Fin 16384) (n : Word) (j : Job) (s : State), s.rings.job (jobKey ring.val n) = some j → j.pos = .admission →
      j.desc.opcode ≠ 0x21 → admitCheck (s.jobWindow j (s.rings.get ring.val).fn.toNat) j.desc = none → exec (.admission
      ring n) s = .next (s.withRings fun rs => rs.updJob (jobKey ring.val n) fun x => { x with pos := .key })) ∧
(∀ (ring : Fin 16384) (n : Word) (j : Job) (st : Half) (dt : Word) (s : State), s.rings.job (jobKey ring.val n) = some j
      → j.pos = .admission → admitCheck (s.jobWindow j (s.rings.get ring.val).fn.toNat) j.desc = some (st, dt) → exec
      (.admission ring n) s = .next (s.failJob (jobKey ring.val n) st dt 2)) ∧
(∀ (ring : Fin 16384) (n : Word) (j : Job) (s : State), s.rings.job (jobKey ring.val n) = some j → j.pos = .key →
      j.desc.opcode = 0x10 → exec (.keyStage ring n) s = .next (s.withRings fun rs => rs.updJob (jobKey ring.val n) fun
      x => { x with pos := .cut, slots := [], inverse := false, iv := 0 })) ∧
(∀ (ring : Fin 16384) (n : Word) (j : Job) (e : KeyErr) (s : State), s.rings.job (jobKey ring.val n) = some j → j.pos =
      .key → j.desc.opcode = 0x03 → s.jobKeyCheck j j.desc.handle (s.rings.get ring.val).tenant = .error e → exec
      (.keyStage ring n) s = .next (s.failJob (jobKey ring.val n) e.status e.detail 3)) ∧
(∀ (ring : Fin 16384) (n : Word) (j : Job) (slot : Nat) (r : KeyRun) (s : State), s.rings.job (jobKey ring.val n) = some
      j → j.pos = .key → j.desc.opcode = 0x03 → s.jobKeyCheck j j.desc.handle (s.rings.get ring.val).tenant = .ok (slot,
      r) → exec (.keyStage ring n) s = .next (s.keyPass (jobKey ring.val n) [slot] (decide (r.attr.check = 1)) 0)) ∧
(∀ (ring : Fin 16384) (n : Word) (j : Job) (s : State), s.rings.job (jobKey ring.val n) = some j → j.pos = .cut →
      opDigest j.desc.opcode = true → s.digOn ≠ 0 → (s.rings.list.filter fun p => decide (p.2.pos = .digest)).length <
      64 → exec (.cutStage ring n) s = .next (((s.withRings fun rs => rs.updJob (jobKey ring.val n) fun x =>
      { x with pos := .digest }).withDig fun g => { g with ready := g.ready ++ [.ring ring.val n] }).digDeal)) ∧
(∀ (ring : Fin 16384) (n : Word) (j : Job) (s : State), s.rings.job (jobKey ring.val n) = some j → j.pos = .cut →
      j.desc.opcode = 0x03 → s.cipherOn = 0 → exec (.cutStage ring n) s = .next (s.failJob (jobKey ring.val n)
      Status.notReady 4 4)) ∧
(∀ (core : Fin 16) (k : Nat) (j : Job) (ghash : Bool) (s : State), (Bank.get {} s.cipher.cores core.val).work = some k →
      s.rings.job k = some j → exec (.cutWriteBack core (.mismatch ghash)) s = .next (((s.coreMismatch core.val
      ghash).makeReady k true).dealAll)) ∧
(∀ (core : Fin 16) (k : Nat) (j : Job) (x : Context) (read : List Byte) (s : State), (Bank.get {} s.cipher.cores
      core.val).work = some k → s.rings.job k = some j → j.ctx = some x → j.desc.opcode ≠ 0x21 → exec (.cutWriteBack
      core (.pass read)) s = .next (match (Bank.get {} s.cipher.cores core.val).cut j.desc j.cutsDone j.cuts x j.out
      (hostInput j.desc j.cutsDone j.cuts read) with
        | none => ((s.coreMismatch core.val false).makeReady k true).dealAll
        | some v => (s.writeBack core.val k j x (hostInput j.desc j.cutsDone j.cuts read).tag v).dealAll)) ∧
(∀ (c k : Nat) (j : Job) (x : Context) (v : CutVal) (s : State), j.cutsDone + 1 < j.cuts → s.writeBack c k j x [] v =
      ((((((s.withRng fun _ => (s.rng.mask c 32).2).cutOutput k j v).coreDone c 1 (cutBlocks j.desc
      j.cutsDone)).withRings fun rs => rs.updJob k fun z =>
      { z with ctx := some (x.writeBack v (s.rng.mask c 32).1), ctxStart := some x, cutsDone := z.cutsDone + 1, lastCore := c, pos := .tag }).makeReady
      k false).mirror (contextRecord k (x.writeBack v (s.rng.mask c 32).1)))) ∧
(∀ (ring : Fin 16384) (n received : Word) (e : EarlyEnd) (j : Job) (s : State), s.rings.job (jobKey ring.val n) = some j
      → j.pos = .digest → j.desc.opcode ≠ 0x21 → exec (.dmaReadEarlyEnd ring n received e) s = .next ((((s.failJob
      (jobKey ring.val n) Status.lengthShort received 5).withPcie (Pcie.early e)).digDeal).dealAll)) ∧
(∀ (ring : Fin 16384) (n : Word) (g : Bool) (read : List Byte) (j : Job) (x : Context) (s : State), s.rings.job (jobKey
      ring.val n) = some j → j.pos = .tag → j.ctx = some x → j.desc.opcode = 0x03 → exec (.tagStage ring n g read) s =
      .next (s.tagPass (jobKey ring.val n) j.out)) ∧
(∀ (ring : Fin 16384) (n : Word) (g : Bool) (read : List Byte) (j : Job) (x : Context) (s : State), s.rings.job (jobKey
      ring.val n) = some j → j.pos = .tag → j.ctx = some x → j.desc.opcode = 0x0B → exec (.tagStage ring n g read) s =
      .next (if x.chain = j.desc.paramB then s.tagPass (jobKey ring.val n) [] else s.failJob (jobKey ring.val n)
      Status.authFail 0 6)) ∧
(∀ (ring : Fin 16384) (n : Word) (read : List Byte) (j : Job) (x : Context) (s : State), s.rings.job (jobKey ring.val n)
      = some j → j.pos = .tag → j.ctx = some x → j.desc.opcode = 0x02 → exec (.tagStage ring n true read) s = .next (if
      x.gcmTag (s.keyAt j.slots 0) = j.tag then (s.withCipher fun y =>
      { y with cores := Bank.upd {} j.lastCore (fun z => { z with blocks := z.blocks + 1 }) y.cores }).tagPass (jobKey
      ring.val n) j.out else (s.withCipher fun y =>
      { y with cores := Bank.upd {} j.lastCore (fun z => { z with blocks := z.blocks + 1 }) y.cores }).failJob (jobKey
      ring.val n) Status.authFail 0 6)) ∧
(∀ (ring : Fin 16384) (n : Word) (read : List Byte) (j : Job) (x : Context) (s : State), s.rings.job (jobKey ring.val n)
      = some j → j.pos = .tag → j.ctx = some x → opGcm j.desc.opcode = true → exec (.tagStage ring n false read) s =
      .next ((((s.coreMismatch j.lastCore true).withRings fun rs => rs.updJob (jobKey ring.val n) (Job.undoCut
      (s.newContext (jobKey ring.val n) j))).makeReady (jobKey ring.val n) true).dealAll)) ∧
(∀ (ring : Fin 16384) (n : Word) (j : Job) (s : State), s.rings.job (jobKey ring.val n) = some j → j.pos = .release →
      j.desc.opcode ≠ 0x20 → exec (.releaseStage ring n) s = .next ((s.hostWrite (j.desc.dst + j.outLen.setWidth 64)
      j.out).tokenise (jobKey ring.val n) Status.ok 0 0 (j.outLen + BitVec.ofNat 32 j.out.length))) ∧
(∀ (port : Fin 16) (ring : Fin 16384) (n : Word) (s : State), exec (.sectorStaged port ring n) s = .next (s.updPort
      port.val fun p =>
      { p with sched := p.sched.map fun e => if e.job = jobKey ring.val n then (if e.granule.isSome then { e with staged := true } else e) else e })) ∧
(∀ (f : Fin 64) (v : Fin 32) (s : State), s.rings.irqDue.contains (f.val * 32 + v.val) = true → exec (.ringMsixSend f v)
      s = .next ((s.withRings fun rs =>
      { rs with irqDue := rs.irqDue.filter fun x => decide (x ≠ f.val * 32 + v.val) }).msix f.val v.val)) ∧
(∀ (level : Level) (s : State), level ≠ .user → (s.rings.get s.rings.sel.toNat).state = 0 → exec (.ringCtlCreate level)
      s = .next (s.withRings fun rs => rs.updRing s.rings.sel.toNat fun x =>
      { x with state := 1, p := 0, f := 0, c := 0, dbBad := 0, fetchErr := false, issued := 0, reread := 0 })) ∧
(∀ (level : Level) (s : State), level ≠ .user → exec (.ringCtlDestroy level) s = .next (s.destroyRing
      s.rings.sel.toNat))

/-- The SD ports (15 R438-R446, R458). -/
def Obligations.CompleteSdPorts : Prop :=
(∀ (p : Fin 4) (x : SdPort) (s : State), s.sdPort p.val = x → x.det = false → x.en = true → exec (.sdCardInserted p) s =
      .next (s.updSd p.val fun _ => { x with det := true, irqPend := true, state := .settle })) ∧
(∀ (p : Fin 4) (x : SdPort) (s : State), s.sdPort p.val = x → x.state = .settle → x.det = true → exec (.sdSettleEnd p) s
      = .next (s.updSd p.val fun _ => { x with state := .init, power := true, discharge := false, v18 := false })) ∧
(∀ (p : Fin 4) (why : BitVec 4) (cSize : Nat) (modes : BitVec 7) (v18 cmd23 : Bool) (passes : List (BitVec 40)) (wp :
      Bool) (scan : CardScan) (x : SdPort) (s : State), s.sdPort p.val = x → x.state = .init → why ≠ 0 → x.run = none →
      exec (.sdInitDone p why cSize modes v18 cmd23 passes wp scan) s = .next (s.updSd p.val fun _ =>
      { x with state := .failed, why := why })) ∧
(∀ (p : Fin 4) (cSize : Nat) (modes : BitVec 7) (v18 cmd23 : Bool) (passes : List (BitVec 40)) (wp : Bool) (scan :
      CardScan) (x : SdPort) (s : State), s.sdPort p.val = x → x.state = .init → x.run = none → x.maxMode = 1 →
      modes.getLsbD 1 = true → headerGood (sliceBytes scan.headers 0 512) = false → headerGood (sliceBytes scan.headers
      512 512) = false → exec (.sdInitDone p 0 cSize modes v18 cmd23 passes wp scan) s = .next (s.updSd p.val fun _ =>
      { x with state := .ready, mode := 1, tap := 0, v18 := false, wp := wp, modes := modes, cmd23 := cmd23, tunedUs := s.cob.clockUs, cap := if 65375 < cSize then 2 else 1, why := 0, foreign := true, blocks := BitVec.ofNat 32 (1024 * (cSize + 1) - 1026) })) ∧
(∀ (p : Fin 4) (x : SdPort) (s : State), s.sdPort p.val = x → x.det = true → exec (.sdCardRemoved p) s = .next (s.updSd
      p.val fun _ => { x.dark with det := false, irqPend := true })) ∧
(∀ (x : SdPort), x.run = none → x.dark.state = (if x.en then .empty else .disabled) ∧ x.dark.power = false ∧
      x.dark.discharge = true ∧ x.dark.status = x.status ∧ x.dark.voids = [] ∧ x.dark.mode = 0) ∧
(∀ (x : SdPort) (r : SdRun), x.run = some r → x.dark.status = (if r.write = true ∧ x.state = .busy then
      Status.cardGoneInBusy else Status.cardRemoved) ∧ x.dark.done = true ∧ x.dark.run = none) ∧
(∀ (p : Fin 4) (x : SdPort) (s : State), s.sdPort p.val = x → x.run = none → x.count ≠ 0 → x.state = .ready →
      s.cob.clockUs ≤ x.tunedUs + 1000000 → exec (.sdRead p .machine) s = .next (s.updSd p.val fun _ =>
      { x with run := some { write := false, lba := x.lba, count := x.count, addr := x.addr }, done := false, xfer := 0, state := .xfer })) ∧
(∀ (p : Fin 4) (x : SdPort) (s : State), s.sdPort p.val = x → x.run = none → x.count ≠ 0 → x.state = .ready → x.tunedUs
      + 1000000 < s.cob.clockUs → exec (.sdRead p .machine) s = .next ((s.sdTune p.val).updSd p.val (SdPort.start false
      .machine))) ∧
(∀ (p : Fin 4) (x : SdPort) (s : State), s.sdPort p.val = x → x.run = none → x.count ≠ 0 → x.state = .ready →
      s.cob.clockUs ≤ x.tunedUs + 1000000 → exec (.sdWrite p .machine) s = .next (s.updSd p.val fun _ =>
      { x with run := some { write := true, lba := x.lba, count := x.count, addr := x.addr }, done := false, xfer := 0, state := .xfer })) ∧
(∀ (p : Fin 4) (x : SdPort) (s : State), s.sdPort p.val = x → x.run = none → x.count ≠ 0 → x.state = .ready → x.tunedUs
      + 1000000 < s.cob.clockUs → exec (.sdWrite p .machine) s = .next ((s.sdTune p.val).updSd p.val (SdPort.start true
      .machine))) ∧
(∀ (p : Fin 4) (x : SdPort) (s : State), s.sdPort p.val = x → x.run = none → x.count = 0 → exec (.sdRead p .machine) s =
      .next (s.updSd p.val fun _ =>
      { x with run := none, done := true, irqPend := true, status := Status.lengthRange, xfer := 0 })) ∧
(∀ (p : Fin 4) (x : SdPort) (s : State), s.sdPort p.val = x → x.run = none → x.count ≠ 0 → x.state ≠ .ready → exec
      (.sdRead p .machine) s = .next (s.updSd p.val fun _ =>
      { x with run := none, done := true, irqPend := true, status := Status.cardAbsent, xfer := 0 })) ∧
(∀ (p : Fin 4) (x : SdPort) (s : State), s.sdPort p.val = x → x.run.isSome = true → exec (.sdAbort p .machine) s = .next
      (s.updSd p.val fun _ =>
      { x with run := none, done := true, irqPend := true, status := Status.aborted, state := .ready })) ∧
(∀ (p : Fin 4) (passes : List (BitVec 40)) (x : SdPort) (s : State), s.sdPort p.val = x → x.run = none → x.state =
      .ready → exec (.sdRetune p .machine passes) s = .next (s.updSd p.val fun _ =>
      { x.retune s.cob.clockUs passes with run := none, status := Status.ok, done := true, irqPend := true })) ∧
(∀ (now : Nat) (m : BitVec 40) (ms : List (BitVec 40)) (x : SdPort), x.mode = 5 → x.modes.getLsbD 5 = true → 4 ≤
      (longestRun m).2 → x.retune now (m :: ms) =
      { x with mode := 5, tap := BitVec.ofNat 6 ((longestRun m).1 + ((longestRun m).2 - 1) / 2), tunedUs := now }) ∧
(∀ (now : Nat) (ms : List (BitVec 40)) (x : SdPort), x.mode.toNat < 5 → x.retune now ms = x) ∧
(∀ (p : Fin 4) (x : SdPort) (s : State), s.sdPort p.val = x → x.run = none → exec (.sdPowerOff p .machine) s = .next
      (s.updSd p.val fun _ => x.dark)) ∧
(∀ (p : Fin 4) (x : SdPort) (s : State), s.sdPort p.val = x → x.run = none → x.en = true → x.det = true → (x.state =
      .empty ∨ x.state = .failed) → exec (.sdPowerOn p .machine) s = .next (s.updSd p.val fun _ =>
      { x with state := .init, power := true, discharge := false, v18 := false })) ∧
(∀ (p : Fin 4) (r : SdRun) (x : SdPort) (s : State), s.sdPort p.val = x → x.state = .busy → x.run = some r → r.stopping
      = false → 512 * r.count.toNat ≤ r.confirmed + 512 → x.cmd23 = true → exec (.sdBusyEnd p) s = .next (s.updSd p.val
      fun _ =>
      { x with run := none, done := true, irqPend := true, status := Status.ok, state := .ready, xfer := BitVec.ofNat 32 (512 * r.count.toNat) })) ∧
(∀ (p : Fin 4) (r : SdRun) (x : SdPort) (s : State), s.sdPort p.val = x → x.state = .busy → x.run = some r → r.stopping
      = false → 512 * r.count.toNat ≤ r.confirmed + 512 → x.cmd23 = false → exec (.sdBusyEnd p) s = .next (s.updSd p.val
      fun _ => { x with run := some { r with confirmed := r.confirmed + 512, stopping := true } })) ∧
(∀ (p : Fin 4) (r : SdRun) (x : SdPort) (s : State), s.sdPort p.val = x → x.state = .busy → x.run = some r → r.stopping
      = false → r.confirmed + 512 < 512 * r.count.toNat → exec (.sdBusyEnd p) s = .next (s.updSd p.val fun _ =>
      { x with state := .xfer, run := some { r with confirmed := r.confirmed + 512 } })) ∧
(∀ (p : Fin 4) (r : SdRun) (s : State), (s.sdPort p.val).run = some r → (s.sdPort p.val).state = .busy → r.cycled =
      false → ∃ t, exec (.sdBusyTimeout p) s = .next t ∧ t.cards.sd = Bank.upd {} p.val (fun x =>
      { x with run := some { r with cycled := true }, state := .init, power := true, discharge := false, v18 := false })
      s.cards.sd ∧ t.mem = s.mem ∧ t.keys = s.keys) ∧
(∀ (p : Fin 4) (r : SdRun) (s : State), (s.sdPort p.val).run = some r → (s.sdPort p.val).state = .xfer → r.cycled =
      false → ∃ t, exec (.sdResponseTimeout p) s = .next t ∧ t.cards.sd = Bank.upd {} p.val (fun x =>
      { x with run := some { r with cycled := true }, state := .init, power := true, discharge := false, v18 := false })
      s.cards.sd ∧ t.mem = s.mem ∧ t.keys = s.keys) ∧
(∀ (p : Fin 4) (r : SdRun) (data : List Byte) (crcOk : Bool) (s : State), (s.sdPort p.val).run = some r → (s.sdPort
      p.val).state = .xfer → r.write = true → exec (.sdTransferEnd p data crcOk) s = .next (s.cardOut (r.addr.toNat +
      r.confirmed) 512 fun t => t.updSd p.val fun x => { x with state := .busy })) ∧
(∀ (a n : Nat) (k : State → State) (s : State), (s.mpu 11).stopped = none → s.dmaRefused 11 false a n = none → s.cardOut
      a n k = k s) ∧
(∀ (a : Nat) (bs : List Byte) (k : State → State) (s : State), (s.mpu 11).stopped = none → s.dmaRefused 11 true a
      bs.length = none → s.cardIn a bs k = k (s.sramWrite a bs)) ∧
(∀ (p : Fin 4) (r : SdRun) (data : List Byte) (s : State), (s.sdPort p.val).run = some r → (s.sdPort p.val).state =
      .xfer → r.write = false → exec (.sdTransferEnd p data true) s = .next (s.cardIn r.addr.toNat (padTo (512 *
      r.count.toNat) data) fun t => t.updSd p.val fun x =>
      { x with run := none, done := true, irqPend := true, status := Status.ok, state := .ready, xfer := BitVec.ofNat 32 (512 * r.count.toNat) })) ∧
(∀ (p : Fin 4) (v : Word) (x : SdPort) (s : State), s.sdPort p.val = x → x.en = v.getLsbD 0 → (v >>> 1).setWidth 3 ≠ (7
      : BitVec 3) → exec (.sdCfgWrite p .machine v) s = .next (s.updSd p.val fun _ =>
      { x with maxMode := (v >>> 1).setWidth 3 }))

/-- The contact slots (15 R451-R455, R458). -/
def Obligations.CompleteContactSlots : Prop :=
(∀ (n : Fin 2) (x : IccSlot) (s : State), s.iccSlot n.val = x → x.pres = false → x.en = true → exec (.iccCardInserted n)
      s = .next (s.updIcc n.val fun _ => { x with pres := true, irqPend := true, state := .present })) ∧
(∀ (n : Fin 2) (tie : Bool) (x : IccSlot) (s : State), s.iccSlot n.val = x → x.pres = true → exec (.iccCardRemoved n
      tie) s = .next (s.updIcc n.val fun _ =>
      { (if tie then { x with status := Status.cardRemoved } else x).deactivate (if x.en then .empty else .disabled) Status.cardRemoved with pres := false, irqPend := true })) ∧
(∀ (n : Fin 2) (x : IccSlot) (s : State), s.iccSlot n.val = x → x.run = none → x.state = .present → exec (.iccActivate n
      .machine) s = .next (s.updIcc n.val fun _ =>
      { x with state := .activating, power := true, classB := false, run := some false, done := false, clkKhz := 4000 })) ∧
(∀ (n : Fin 2) (x : IccSlot) (s : State), s.iccSlot n.val = x → x.run = none → x.state = .empty → exec (.iccActivate n
      .machine) s = .next (s.updIcc n.val fun _ =>
      { x with run := none, done := true, irqPend := true, status := Status.cardAbsent })) ∧
(∀ (n : Fin 2) (x : IccSlot) (s : State), s.iccSlot n.val = x → x.run = none → x.state = .active → exec (.iccDeactivate
      n .machine) s = .next (s.updIcc n.val fun _ =>
      { x with run := none, done := true, irqPend := true, status := Status.ok, state := .present, power := false, classB := false, t1 := false, fi := 0, di := 0, clkKhz := 0, stop := 0, clkHigh := false, atr := [] })) ∧
(∀ (n : Fin 2) (x : IccSlot) (s : State), s.iccSlot n.val = x → x.run = none → (x.state = .active ∨ x.state =
      .clockStopped) → apduLenOk x.t1 x.txLen.toNat = true → exec (.iccXchg n .machine) s = .next ((s.updIcc n.val fun x
      => { x with state := .active, clkHigh := false, run := some true, done := false, rxLen := 0 }).cardOut
      x.txAddr.toNat x.txLen.toNat id)) ∧
(∀ (n : Fin 2) (x : IccSlot) (s : State), s.iccSlot n.val = x → x.run = none → x.state = .active → apduLenOk x.t1
      x.txLen.toNat = false → exec (.iccXchg n .machine) s = .next (s.updIcc n.val fun x =>
      { x with run := none, done := true, irqPend := true, status := Status.inputInvalid })) ∧
(∀ (n : Fin 2) (atr : List Byte) (ppsOk : Bool) (b g : Byte) (x : IccSlot) (s : State), s.iccSlot n.val = x → x.state =
      .activating → (atrOf atr).specific = none → (atrOf atr).ta1 = some b → (atrOf atr).global = some g → (atrOf
      atr).proto ≤ 1 → (x.classB = true ∨ g.getLsbD 2 = true) → exec (.atrReceived n atr ppsOk) s = .next (s.updIcc
      n.val fun _ =>
      { x with run := none, done := true, irqPend := true, status := Status.ok, state := .active, atr := atr.take 33, t1 := decide ((atrOf atr).proto = 1), fi := BitVec.ofNat 4 (if ppsOk then b.toNat / 16 else 1), di := BitVec.ofNat 4 (if ppsOk then b.toNat % 16 else 1), stop := (g >>> 6).setWidth 2, clkKhz := BitVec.ofNat 16 (min (fmaxOf (if ppsOk then b.toNat / 16 else 1)) (1000 * x.fmax.toNat)) })) ∧
(∀ (n : Fin 2) (x : IccSlot) (s : State), s.iccSlot n.val = x → x.state = .activating → x.classB = false → exec
      (.atrTimeout n) s = .next (s.updIcc n.val fun _ => { x with classB := true })) ∧
(∀ (n : Fin 2) (x : IccSlot) (s : State), s.iccSlot n.val = x → x.state = .activating → x.classB = true → exec
      (.atrTimeout n) s = .next (s.updIcc n.val fun _ => x.deactivate .failed Status.cardAbsent)) ∧
(∀ (n : Fin 2) (s : State), (s.iccSlot n.val).run = some true → ∃ t, exec (.iccWwtExceeded n) s = .next t ∧ t.cards =
      (s.updIcc n.val (IccSlot.deactivate .present Status.cardRemoved)).cards ∧ t.mem = s.mem ∧ t.keys = s.keys) ∧
(∀ (n : Fin 2) (r : List Byte) (s : State), (s.iccSlot n.val).run = some true → exec (.iccExchangeEnd n (some r)) s =
      .next (s.cardIn (s.iccSlot n.val).rxAddr.toNat (r.take (s.iccSlot n.val).rxCap.toNat) fun t => t.updIcc n.val fun
      x =>
      { x with run := none, done := true, irqPend := true, status := Status.ok, rxLen := BitVec.ofNat 32 (r.take (s.iccSlot n.val).rxCap.toNat).length })) ∧
(∀ (n : Fin 2) (x : IccSlot) (s : State), s.iccSlot n.val = x → x.state = .active → x.run = none → x.cstopEn = true →
      x.stop ≠ 0 → exec (.iccClockStop n) s = .next (s.updIcc n.val fun _ =>
      { x with state := .clockStopped, clkHigh := decide (x.stop = 2) })) ∧
(∀ (n : Fin 2) (v : Word) (x : IccSlot) (s : State), s.iccSlot n.val = x → x.en = false → v.getLsbD 0 = true → x.pres =
      true → ∃ y : IccSlot, exec (.iccCfgWrite n .machine v) s = .next (s.updIcc n.val fun _ => y) ∧ y.en = true ∧
      y.state = .present ∧ y.cstopEn = v.getLsbD 1)

/-- The Cobbler (17 R485-R491, 21 R577): sensors, watchdogs, restart, unit enables and known-answer tests. -/
def Obligations.CompleteCobbler : Prop :=
(∀ (l : List Word) (s : State), s.boot.inReset = false → (hottest l).1 < 105000 → (100000 < (hottest l).1 ∨
      s.cipher.half = false) → exec (.sensorRefresh l) s = .next ((s.withCob (Cob.sample l)).withInsole fun i =>
      { i with vbatMv := (l.getD 18 0).setWidth 16 })) ∧
(∀ (l : List Word) (s : State), s.boot.inReset = false → s.cobRuns = true → 105000 ≤ (hottest l).1 → s.cipher.half =
      false → ∃ t, exec (.sensorRefresh l) s = .next t ∧ t.cipher = { s.cipher with half := true } ∧ t.insole.vbatMv =
      (l.getD 18 0).setWidth 16 ∧ t.keys = s.keys ∧ t.rings = s.rings) ∧
(∀ (c : Fin 4) (w : CoreNo) (v : Word) (s : State), w.val = c.val → v.getLsbD 0 = true → exec (.pwrWdogWrite c w v) s =
      .next (s.withCob fun x => { x with pets := Bank.set 0 c.val x.clockUs x.pets })) ∧
(∀ (c : Fin 4) (s : State), (s.core c.val).inReset = false → exec (.watchdogExpiry c false) s = .next ((s.withCob fun x
      => { x with clockUs := max x.clockUs (Bank.get 0 x.pets c.val + 10000) }).coreFails c.val true) ∧ exec
      (.watchdogExpiry c true) s = .next s) ∧
(∀ (c : CoreNo) (s : State), (s.core c.val).inReset = false → (s.core c.val).halted = false → exec (.lockstepMismatch c)
      s = .next (s.coreFails c.val false)) ∧
(∀ (c : Nat) (wedged : Bool) (t s : State), (s.updCore c fun k => { k with halted := true }).raise 43 (BitVec.ofNat 32
      (c + 8 * bit wedged)) = t → c < 4 → t.boot.inReset = false → s.coreFails c wedged = t.restartCore c) ∧
(∀ (c : Fin 4) (s : State), (s.core c.val).inReset = true → (s.core c.val).hold = false → s.coreUsable c.val = true →
      s.boot.state = .running → s.cob.image = none → ∃ t, exec (.coreRestartRelease c) s = .next t ∧ t.cores =
      (s.releaseCore c.val false).cores ∧ t.mpus = Bank.set {} c.val {} s.mpus ∧ t.keys = s.keys ∧ t.mem = s.mem) ∧
(∀ (s : State), (s.core 4).halted = true → exec .cobblerRestart s = .next ((s.withCob fun c =>
      { c with spdm := {}, eid := 0, pldm := [] }).releaseCore 4 false)) ∧
(∀ (m : Long) (s : State), exec (.pwrUnitEnWrite 4 m) s = .next (s.withCob fun c =>
      { c with unitEn := m &&& 0x7FFFFFFFF }).applyUnits) ∧
(∀ (w : CoreNo) (m : Long) (s : State), w.val ≠ 4 → exec (.pwrUnitEnWrite w m) s = .next s) ∧
(∀ (u : Fin 24) (s : State), s.cobRuns = true → u.val < 16 → (Bank.get {} s.cipher.cores u.val).quar = true → (Bank.get
      {} s.cipher.cores u.val).qcount.toNat < 3 → exec (.katSchedule u) s = .next (s.withCipher fun c =>
      { c with cores := Bank.upd {} u.val (fun x => { x with katRun := true, katDone := false }) c.cores })) ∧
(∀ (u : Fin 24) (s : State), s.cobRuns = true → 16 ≤ u.val → u.val < 20 → (s.engine (u.val - 16)).state = 6 → (s.engine
      (u.val - 16)).qcount.toNat < 3 → exec (.katSchedule u) s = .next ((if s.rng.serves (5 + (u.val - 16)) then
      s.instDraw (5 + (u.val - 16)) false 32 fun _ u => u else s).updEngine (u.val - 16) fun e =>
      { e with katRun := true })) ∧
(∀ (u : Fin 24) (s : State), s.cobRuns = true → 20 ≤ u.val → (s.dig.unitAt (u.val - 20)).quar = true → (s.dig.unitAt
      (u.val - 20)).qcount < 3 → exec (.katSchedule u) s = .next (s.withDig fun d =>
      { d with katUnit := BitVec.ofNat 2 (u.val - 20), katRun := true })) ∧
(∀ (s : State), exec .smbusSclTimeout s = .next s)

/-- The management protocols of the Cobbler (17 R493): MCTP control, PLDM and SPDM. -/
def Obligations.CompleteManagement : Prop :=
(∀ (e : Byte) (s : State), s.cobRuns = true → s.cob.mgtEn = true → e ≠ 0 → e ≠ 0xFF → exec (.setEndpointId e) s = .next
      ((s.withCob fun c => { c with eid := e }).withOut fun o => { o with reply := some (.endpoint e) })) ∧
(∀ (s : State), s.cobRuns = true → s.cob.mgtEn = true → exec (.getEndpointId) s = .next (s.withOut fun o =>
      { o with reply := some (.endpoint s.cob.eid) })) ∧
(∀ (t : Byte) (s : State), s.cobRuns = true → s.cob.mgtEn = true → mctpTypes.contains t = true → exec (.getMctpVersion
      t) s = .next (s.withOut fun o => { o with reply := some (.ok) })) ∧
(∀ (t : Byte) (s : State), s.cobRuns = true → s.cob.mgtEn = true → t ≠ 0xFF → mctpTypes.contains t = false → exec
      (.getMctpVersion t) s = .next (s.withOut fun o => { o with reply := some (.error 0x80) })) ∧
(∀ (s : State), s.cobRuns = true → s.cob.mgtEn = true → exec (.getMessageTypeSupport) s = .next (s.withOut fun o =>
      { o with reply := some (.types [0, 1, 5]) })) ∧
(∀ (r : Word) (s : State), s.cobRuns = true → s.cob.mgtEn = true → r.toNat ≤ 20 → exec (.getPdr r) s = .next (s.withOut
      fun o => { o with reply := some (.pdr r) })) ∧
(∀ (n : Half) (s : State), s.cobRuns = true → s.cob.mgtEn = true → n.toNat ≤ 18 → (Bank.get (0, 0) s.cob.pldm n.toNat).1
      = 0 → exec (.getSensorReading n) s = .next (s.withOut fun o =>
      { o with reply := some (.sensor (Bank.get 0 s.cob.sens n.toNat)) })) ∧
(∀ (n : Half) (op ev : Byte) (s : State), s.cobRuns = true → s.cob.mgtEn = true → n.toNat ≤ 18 → op.toNat ≤ 2 → exec
      (.setNumericSensorEnable n op ev) s = .next ((s.withCob fun c =>
      { c with pldm := Bank.set (0, 0) n.toNat (op, ev) c.pldm }).withOut fun o => { o with reply := some .ok })) ∧
(∀ (s : State), s.cobRuns = true → s.cob.mgtEn = true → exec (.getStateSensorReadings 19) s = .next (s.withOut fun o =>
      { o with reply := some (.state (bit s.cipher.half)) })) ∧
(∀ (s : State), s.cobRuns = true → s.cob.mgtEn = true → exec (.getStateSensorReadings 20) s = .next (s.withOut fun o =>
      { o with reply := some (.state (pairCode s.welt.state)) })) ∧
(∀ (s : State), s.cobRuns = true → exec .getVersion s = .next ((s.withCob fun c =>
      { c with spdm := { version := true } }).withOut fun o => { o with reply := some (.version 0x12) })) ∧
(∀ (s : State), s.cobRuns = true → s.cob.spdm.version = true → exec (.getCapabilities 0x12) s = .next ((s.withCob fun c
      => { c with spdm := { c.spdm with caps := true } }).withOut fun o => { o with reply := some .ok })) ∧
(∀ (s : State), s.cobRuns = true → s.cob.spdm.caps = true → exec (.negotiateAlgorithms true true) s = .next ((s.withCob
      fun c => { c with spdm := { c.spdm with algs := true } }).withOut fun o => { o with reply := some .ok })) ∧
(∀ (s : State), s.cobRuns = true → s.cob.spdm.algs = true → s.cob.chain ≠ [] → exec (.getDigests) s = .next (s.withOut
      fun o => { o with reply := some (.digests 1 (sha384 s.cob.chain)) })) ∧
(∀ (s : State), s.cobRuns = true → s.cob.spdm.algs = false → exec (.getDigests) s = .next (s.withOut fun o =>
      { o with reply := some (.error 0x04) })) ∧
(∀ (offset len : Half) (s : State), s.cobRuns = true → s.cob.spdm.algs = true → offset.toNat < s.cob.chain.length → exec
      (.getCertificate 0 offset len) s = .next (s.withOut fun o =>
      { o with reply := some (.certificate ((s.cob.chain.drop offset.toNat).take len.toNat)) })) ∧
(∀ (nonce : BitVec 256) (s : State), s.cobRuns = true → s.cob.spdm.algs = true → s.cob.chain ≠ [] → exec (.challenge 0
      nonce) s = .next (s.attest 0 [leBytes 32 nonce.toNat, s.cob.chain] fun msg sig u => u.withOut fun o =>
      { o with reply := some (.signed msg sig) })) ∧
(∀ (kind : Nat) (parts : List (List Byte)) (k : List Byte → List Byte → State → State) (s : State), ((List.range
      4).find? fun n => s.engineIdle n && !pkeWaits s n 0x11 true) = none → s.attest kind parts k = s.withOut fun o =>
      { o with reply := some (.error 0x03) }) ∧
(∀ (kind n : Nat) (parts : List (List Byte)) (k : List Byte → List Byte → State → State) (s : State), ((List.range
      4).find? fun n => s.engineIdle n && !pkeWaits s n 0x11 true) = some n → s.attest kind parts k = k
      (Config.spdmTranscript kind parts) ((s.fwEngine n 4
      { op := 0x11, set := 1, key := s.keys.handleOf 4, input := p384.eBytes (sha384 (Config.spdmTranscript kind parts)) }).fwOutput
      n) (s.fwEngine n 4
      { op := 0x11, set := 1, key := s.keys.handleOf 4, input := p384.eBytes (sha384 (Config.spdmTranscript kind parts)) })) ∧
(∀ (nonce : BitVec 256) (s : State), s.cobRuns = true → s.cob.spdm.algs = true → exec (.getMeasurements 0 false nonce) s
      = .next (s.withOut fun o => { o with reply := some (.measurements [] []) })) ∧
(∀ (index : Byte) (nonce : BitVec 256) (s : State), s.cobRuns = true → s.cob.spdm.algs = true → 1 ≤ index.toNat →
      index.toNat ≤ 32 → exec (.getMeasurements index false nonce) s = .next (s.withOut fun o =>
      { o with reply := some (.measurements [(index.toNat, (Bank.get {} s.dig.meas (index.toNat - 1)).bytes)] []) })) ∧
(∀ (random : BitVec 256) (doe : Bool) (s : State), s.cobRuns = true → s.cob.spdm.algs = true → s.cob.chain ≠ [] →
      s.cob.spdm.session = none → exec (.keyExchange 0 random doe) s = .next (s.attest 2 [leBytes 32 random.toNat,
      s.cob.chain] fun msg sig u => (u.withCob fun c =>
      { c with spdm := { c.spdm with session := some { doe := doe } } }).withOut fun o =>
      { o with reply := some (.signed msg sig) })) ∧
(∀ (x : SpdmSession) (s : State), s.cobRuns = true → s.cob.spdm.session = some x → x.finished = false → exec (.finish
      true) s = .next ((s.withCob fun c =>
      { c with spdm := { c.spdm with session := some { x with finished := true } } }).withOut fun o =>
      { o with reply := some .ok }) ∧ exec (.finish false) s = .next ((s.withCob fun c =>
      { c with spdm := { c.spdm with session := none } }).withOut fun o => { o with reply := some (.error 0x06) })) ∧
(∀ (x : SpdmSession) (s : State), s.cobRuns = true → s.cob.spdm.session = some x → exec .endSession s = .next
      ((s.withCob fun c => { c with spdm := { c.spdm with session := none } }).withOut fun o =>
      { o with reply := some .ok })) ∧
(∀ (n : Nat) (s : State), s.cobRuns = true → s.rng.audit = true → s.spdmOpen = true → exec (.vendorRawSamples n) s =
      .next ((s.withRng fun r => { r with raw := r.raw.drop n }).withOut fun o =>
      { o with reply := some (.samples (s.rng.raw.take n)) }))

/-- REGISTER_WRITE (01 R31-R37, and the register table of each block): one register of each block, and writes that change nothing. -/
def Obligations.CompleteRegisterWrites : Prop :=
(∀ (v : Word) (s : State), exec (.registerWrite (.core 0 .machine) 0x20000000 v) s = .next (s.withRings fun rs =>
      { rs with sel := v.setWidth 14 })) ∧
(∀ (v : Word) (s : State), exec (.registerWrite (.core 0 .user) 0x20000000 v) s = .next s) ∧
(∀ (v : Word) (s : State), 16 ≤ v.toNat % 65536 → exec (.registerWrite (.core 0 .machine) 0x22000008 v) s = .next
      (s.withCipher fun x => { x with age := v.setWidth 16 })) ∧
(∀ (v : Word) (s : State), v.toNat % 65536 < 16 → exec (.registerWrite (.core 0 .machine) 0x22000008 v) s = .next (s)) ∧
(∀ (v : Word) (s : State), exec (.registerWrite (.core 0 .supervisor) 0x23000004 v) s = .next (s.withDig fun d =>
      d.updChan 0 fun x => { x with key := v })) ∧
(∀ (v : Word) (s : State), (s.engine 0).state = 0 → exec (.registerWrite (.core 0 .machine) 0x24000004 v) s = .next
      (s.updEngine 0 fun e => { e with key := v })) ∧
(∀ (v : Word) (s : State), exec (.registerWrite (.core 0 .machine) 0x25000008 v) s = .next (s.withRng fun r =>
      { r with srcFail := r.srcFail &&& ~~~(v.setWidth 28) })) ∧
(∀ (v : Word) (s : State), exec (.registerWrite (.core 0 .machine) 0x26000004 v) s = .next (s.withKeys fun k =>
      k.updChan 0 fun x => { x with arg := v })) ∧
(∀ (v : Word) (s : State), exec (.registerWrite (.core 0 .machine) 0x280000A0 v) s = .next (s.withAlarm fun a =>
      { a with raiseDet := v })) ∧
(∀ (v : Word) (s : State), exec (.registerWrite (.core 2 .machine) 0x28000118 v) s = .next (s.withAlarm fun a =>
      { a with logSel := v })) ∧
(∀ (v : Word) (s : State), (s.sole.get 2).en = false → exec (.registerWrite (.core 0 .machine) 0x29011210 v) s = .next
      (s.updPort 2 fun p => { p with gate := v })) ∧
(∀ (v : Word) (s : State), exec (.registerWrite (.core 0 .machine) 0x27000C10 v) s = .next (s.updMpu 3 fun u =>
      { u with written := { u.written with base := Bank.set 0 1 (alignW 8 v) u.written.base } })) ∧
(∀ (f : Fin 64) (addr v : Word) (s : State), addr.toNat % 4 ≠ 0 → exec (.registerWrite (.host f) addr v) s = .next
      (s.withMbx fun m => m.updPage f.val fun p => { p with badAcc := satAdd p.badAcc 1 })) ∧
(∀ (v : Word) (s : State), s.boot.state = .ready → exec (.registerWrite (.host 0) 0x008 v) s = .next (s.withBoot fun b
      => { b with imgLo := alignW 12 v })) ∧
(∀ (f : Fin 64) (v : Word) (s : State), 1 ≤ v.toNat % 2 ^ 20 → v.toNat % 2 ^ 20 ≤ 1000000 → exec (.registerWrite (.host
      f) 0x101C v) s = .next (s.updBox f.val fun b => { b with tmoCfg := v.setWidth 20 }))

/-- The data-movement and integer instructions (18 R502-R509): the whole state after each, for every legal form, once its operand is read or its store is made. -/
def Obligations.CompleteAwlInteger : Prop :=
(∀ (c : CoreNo) (i : AwlIn) (v : Word) (t s : State), formReg i = true → (s.tick c.val).operand c.val i false false =
      .ok (v, t) → ((s.Fetches c.val 0x01 i → exec (.ld c i) s = .next (t.retire c.val fun k => ((k.postInc i).setReg
      (modOf i) (v)).setZN (v))) ∧
        (s.Fetches c.val 0x08 i → exec (.add c i) s = .next (t.retire c.val fun k => (k.postInc i).setSum (modOf i)
            (addWith (k.reg (modOf i)) v false))) ∧
        (s.Fetches c.val 0x09 i → exec (.adc c i) s = .next (t.retire c.val fun k => (k.postInc i).setSum (modOf i)
            (addWith (k.reg (modOf i)) v (k.flag stC)))) ∧
        (s.Fetches c.val 0x0A i → exec (.sub c i) s = .next (t.retire c.val fun k => (k.postInc i).setSum (modOf i)
            (subWith (k.reg (modOf i)) v false))) ∧
        (s.Fetches c.val 0x0B i → exec (.sbc c i) s = .next (t.retire c.val fun k => (k.postInc i).setSum (modOf i)
            (subWith (k.reg (modOf i)) v (k.flag stC)))) ∧
        (s.Fetches c.val 0x0C i → exec (.cmp c i) s = .next (t.retire c.val fun k => ((k.postInc i).setZN (subWith
            (k.reg (modOf i)) v false).value).setCV (subWith (k.reg (modOf i)) v false).carry (subWith (k.reg
            (modOf i)) v false).ovf)) ∧
        (s.Fetches c.val 0x10 i → exec (.shl c i) s = .next (t.retire c.val fun k => (k.postInc i).setShift (modOf i)
            (shl (k.reg (modOf i)) (v.toNat % 32)))) ∧
        (s.Fetches c.val 0x11 i → exec (.shr c i) s = .next (t.retire c.val fun k => (k.postInc i).setShift (modOf i)
            (shr (k.reg (modOf i)) (v.toNat % 32)))) ∧
        (s.Fetches c.val 0x12 i → exec (.asr c i) s = .next (t.retire c.val fun k => (k.postInc i).setShift (modOf i)
            (asr (k.reg (modOf i)) (v.toNat % 32)))) ∧
        (s.Fetches c.val 0x13 i → exec (.rol c i) s = .next (t.retire c.val fun k => (k.postInc i).setShift (modOf i)
            (rol (k.reg (modOf i)) (v.toNat % 32)))) ∧
        (s.Fetches c.val 0x16 i → exec (.mul c i) s = .next (t.retire c.val fun k => (((k.postInc i).setReg (modOf i)
            (BitVec.ofInt 32 (product (k.reg (modOf i)) v))).setZN (BitVec.ofInt 32 (product (k.reg (modOf i))
            v))).setFlag stV (over32 (product (k.reg (modOf i)) v)))) ∧
        (s.Fetches c.val 0x17 i → exec (.mulh c i) s = .next (t.retire c.val fun k => ((k.postInc i).setReg (modOf i)
            (BitVec.ofInt 32 (product (k.reg (modOf i)) v / 2 ^ 32))).setZN (BitVec.ofInt 32 (product (k.reg
            (modOf i)) v / 2 ^ 32)))))) ∧
(∀ (c : CoreNo) (i : AwlIn) (v : Word) (t s : State), formReg i = true → (s.tick c.val).operand c.val i true true = .ok
      (v, t) → ((s.Fetches c.val 0x02 i → exec (.ldu c i) s = .next (t.retire c.val fun k => ((k.postInc i).setReg
      (modOf i) (v)).setZN (v))) ∧
        (s.Fetches c.val 0x0D i → exec (.and c i) s = .next (t.retire c.val fun k => ((k.postInc i).setReg (modOf i)
            ((k.reg (modOf i)) &&& v)).setZN ((k.reg (modOf i)) &&& v))) ∧
        (s.Fetches c.val 0x0E i → exec (.or c i) s = .next (t.retire c.val fun k => ((k.postInc i).setReg (modOf i)
            ((k.reg (modOf i)) ||| v)).setZN ((k.reg (modOf i)) ||| v))) ∧
        (s.Fetches c.val 0x0F i → exec (.xor c i) s = .next (t.retire c.val fun k => ((k.postInc i).setReg (modOf i)
            ((k.reg (modOf i)) ^^^ v)).setZN ((k.reg (modOf i)) ^^^ v))) ∧
        (s.Fetches c.val 0x14 i → exec (.tst c i) s = .next (t.retire c.val fun k => (k.postInc i).setZN ((k.reg (modOf
            i)) &&& v))))) ∧
(∀ (c : CoreNo) (i : AwlIn) (v : Word) (t s : State), formReg i = true → (s.tick c.val).operand c.val i false false =
      .ok (v, t) → v ≠ 0 → ((s.Fetches c.val 0x1B i → exec (.divu c i) s = .next (t.retire c.val fun k => ((k.postInc
      i).setReg (modOf i) ((k.reg (modOf i)) / v)).setZN ((k.reg (modOf i)) / v))) ∧
        (s.Fetches c.val 0x1C i → exec (.divs c i) s = .next (t.retire c.val fun k => (((k.postInc i).setReg (modOf i)
            (divS (k.reg (modOf i)) v).1).setZN (divS (k.reg (modOf i)) v).1).setFlag stV (divS (k.reg (modOf
            i)) v).2)))) ∧
(∀ (c : CoreNo) (i : AwlIn) (t s : State), formReg i = true → (s.tick c.val).operand c.val i false false = .ok (0, t) →
      ((s.Fetches c.val 0x1B i → exec (.divu c i) s = .next ((s.tick c.val).takeExc c.val { slot := 11, info := 1 }
      ((s.tick c.val).core c.val).pc none i.entry)) ∧
        (s.Fetches c.val 0x1C i → exec (.divs c i) s = .next ((s.tick c.val).takeExc c.val { slot := 11, info := 1 }
            ((s.tick c.val).core c.val).pc none i.entry)))) ∧
(∀ (c : CoreNo) (i : AwlIn) (t s : State), s.Fetches c.val 0x03 i → formStore i = true → (s.tick c.val).storeEa c.val i
      (leBytes (Machine.sizeOf i) (((s.tick c.val).core c.val).reg (modOf i)).toNat) false = .ok t → exec (.st c i) s =
      .next (t.retire c.val fun k => k.postInc i)) ∧
(∀ (c : CoreNo) (i : AwlIn) (v : Word) (t s : State), s.Fetches c.val 0x04 i → formLong i = true → szOf i = 2 → (s.tick
      c.val).operand c.val i false false = .ok (v, t) → exec (.lda c i) s = .next (t.retire c.val fun k =>
      { k.postInc i with a := v.signExtend 40 }.setZNA (v.signExtend 40))) ∧
(∀ (c : CoreNo) (i : AwlIn) (bs : List Byte) (t s : State), s.Fetches c.val 0x04 i → formLong i = true → szOf i = 3 →
      (s.tick c.val).loadEa c.val i 8 false = .ok (bs, t) → exec (.lda c i) s = .next (t.retire c.val fun k =>
      { k.postInc i with a := (BitVec.ofNat 40 (ofLe (bs.take 5))) }.setZNA (BitVec.ofNat 40 (ofLe (bs.take 5))))) ∧
(∀ (c : CoreNo) (i : AwlIn) (t s : State), s.Fetches c.val 0x05 i → amMem i = true → formLong i = true → szOf i = 2 →
      (s.tick c.val).storeEa c.val i (leBytes 4 ((s.tick c.val).core c.val).aWord.1.toNat) false = .ok t → exec (.sta c
      i) s = .next (t.retire c.val fun k => (k.postInc i).stick ((s.tick c.val).core c.val).aWord.2)) ∧
(∀ (c : CoreNo) (i : AwlIn) (t s : State), s.Fetches c.val 0x05 i → amMem i = true → formLong i = true → szOf i = 3 →
      (s.tick c.val).storeEa c.val i (leBytes 4 (((s.tick c.val).core c.val).a.toNat % 2 ^ 32) ++ leBytes 4 (((s.tick
      c.val).core c.val).a.toNat / 2 ^ 32)) false = .ok t → exec (.sta c i) s = .next (t.retire c.val fun k => k.postInc
      i)) ∧
(∀ (c : CoreNo) (i : AwlIn) (s : State), s.Fetches c.val 0x00 i → formNone i = true → exec (.nop c i) s = .next ((s.tick
      c.val).retire c.val id)) ∧
(∀ (c : CoreNo) (i : AwlIn) (s : State), s.Fetches c.val 0x06 i → (formRegImm i && decide (d16Of i ≤ 4)) = true → exec
      (.mov c i) s = .next ((s.tick c.val).retire c.val fun k => (k.setReg (modOf i) (k.reg (d16Of i))).setZN (k.reg
      (d16Of i)))) ∧
(∀ (c : CoreNo) (i : AwlIn) (s : State), s.Fetches c.val 0x07 i → formRegImm i = true → exec (.ldh c i) s = .next
      ((s.tick c.val).retire c.val fun k => k.setReg (modOf i) (BitVec.ofNat 32 (d16Of i * 65536 + (k.reg (modOf
      i)).toNat % 65536)))) ∧
(∀ (c : CoreNo) (i : AwlIn) (s : State), s.Fetches c.val 0x15 i → (amMem i && szW i && regOk i) = true → exec (.lea c i)
      s = .next ((s.tick c.val).retire c.val fun k => (k.postInc i).setReg (modOf i) (k.ea i))) ∧
(∀ (c : CoreNo) (i : AwlIn) (s : State), s.Fetches c.val 0x18 i → (amImm i && decide (szOf i ≤ 1) && regOk i && d16Zero
      i) = true → exec (.ext c i) s = .next ((s.tick c.val).retire c.val fun k => (k.setReg (modOf i) (if szOf i = 0
      then ((k.reg (modOf i)).setWidth 8 : Byte).signExtend 32 else ((k.reg (modOf i)).setWidth 16 : Half).signExtend 32
      : Word)).setZN (if szOf i = 0 then ((k.reg (modOf i)).setWidth 8 : Byte).signExtend 32 else ((k.reg (modOf
      i)).setWidth 16 : Half).signExtend 32 : Word))) ∧
(∀ (c : CoreNo) (i : AwlIn) (t s : State), s.Fetches c.val 0x19 i → formStack i = true → (s.tick c.val).storeMem c.val
      ((s.tick c.val).core c.val).level (((s.tick c.val).core c.val).sp ((s.tick c.val).core c.val).level - 4).toNat
      (leBytes 4 (((s.tick c.val).core c.val).reg (modOf i)).toNat) true false i = .ok t → exec (.push c i) s = .next
      (t.updCore c.val fun k =>
      { (k.setSp k.level (((s.tick c.val).core c.val).sp ((s.tick c.val).core c.val).level - 4)) with pc := (k.setSp k.level (((s.tick c.val).core c.val).sp ((s.tick c.val).core c.val).level - 4)).pc + 4 })) ∧
(∀ (c : CoreNo) (i : AwlIn) (bs : List Byte) (t s : State), s.Fetches c.val 0x1A i → formStack i = true → (s.tick
      c.val).loadMem c.val ((s.tick c.val).core c.val).level (((s.tick c.val).core c.val).sp ((s.tick c.val).core
      c.val).level).toNat 4 true false i = .ok (bs, t) → exec (.pop c i) s = .next ((t.updCore c.val fun k => k.setSp
      k.level (k.sp k.level + 4)).retire c.val (Core.setReg (modOf i) (BitVec.ofNat 32 (ofLe bs)))))

/-- The fixed-point instructions (18 R510-R513): the whole state after each. -/
def Obligations.CompleteAwlFixedPoint : Prop :=
(∀ (c : CoreNo) (i : AwlIn) (v : Word) (t s : State), formMac i = true → (s.tick c.val).operand c.val i false false =
      .ok (v, t) → ((s.Fetches c.val 0x20 i → exec (.mpy c i) s = .next (t.retire c.val fun k => (k.postInc i).writeA
      (productTerm (k.flag stFRAC) k.rnd (if modOf i = 0 then k.x else k.y) v))) ∧
        (s.Fetches c.val 0x21 i → exec (.mac c i) s = .next (t.retire c.val fun k => (k.postInc i).writeA (k.a.toInt +
            productTerm (k.flag stFRAC) k.rnd (if modOf i = 0 then k.x else k.y) v))) ∧
        (s.Fetches c.val 0x22 i → exec (.msu c i) s = .next (t.retire c.val fun k => (k.postInc i).writeA (k.a.toInt -
            productTerm (k.flag stFRAC) k.rnd (if modOf i = 0 then k.x else k.y) v))))) ∧
(∀ (c : CoreNo) (i : AwlIn) (v : Word) (t s : State), formAcc i = true → (s.tick c.val).operand c.val i false false =
      .ok (v, t) → ((s.Fetches c.val 0x23 i → exec (.adda c i) s = .next (t.retire c.val fun k => (k.postInc i).writeA
      (k.a.toInt + v.toInt))) ∧
        (s.Fetches c.val 0x24 i → exec (.suba c i) s = .next (t.retire c.val fun k => (k.postInc i).writeA (k.a.toInt -
            v.toInt))) ∧
        (s.Fetches c.val 0x2C i → exec (.asla c i) s = .next (t.retire c.val fun k => (k.postInc i).writeA (k.a.toInt *
            2 ^ (v.toNat % 64)))) ∧
        (s.Fetches c.val 0x2D i → exec (.asra c i) s = .next (t.retire c.val fun k =>
            { (k.postInc i) with a := k.shiftA (v.toNat % 64) }.setZNA (k.shiftA (v.toNat % 64)))) ∧
        (s.Fetches c.val 0x2F i → exec (.cmpa c i) s = .next (t.retire c.val fun k => ((k.postInc i).setZNA (reduce40
            false (k.a.toInt - v.toInt)).1).setFlag stV (reduce40 false (k.a.toInt - v.toInt)).2)))) ∧
(∀ (c : CoreNo) (i : AwlIn) (v : Word) (t s : State), s.Fetches c.val 0x2B i → (szBHW i && modZero i) = true → (s.tick
      c.val).operand c.val i false false = .ok (v, t) → (exec (.ldf c i) s = .next (t.retire c.val fun k =>
      { (k.postInc i) with a := (BitVec.ofInt 40 (v.toInt * 2 ^ (32 - 8 * Machine.sizeOf i))) }.setZNA (BitVec.ofInt 40
      (v.toInt * 2 ^ (32 - 8 * Machine.sizeOf i)))))) ∧
(∀ (c : CoreNo) (i : AwlIn) (s : State), formNone i = true → ((s.Fetches c.val 0x26 i → exec (.sata c i) s = .next
      ((s.tick c.val).retire c.val fun k => ({ k with a := (clamp32 k.a).1 }.setZNA (clamp32 k.a).1).stick (clamp32
      k.a).2)) ∧
        (s.Fetches c.val 0x28 i → exec (.abs c i) s = .next ((s.tick c.val).retire c.val fun k => k.writeA
            k.a.toInt.natAbs)) ∧
        (s.Fetches c.val 0x29 i → exec (.neg c i) s = .next ((s.tick c.val).retire c.val fun k => k.writeA
            (-k.a.toInt))) ∧
        (s.Fetches c.val 0x2A i → exec (.clra c i) s = .next ((s.tick c.val).retire c.val fun k =>
            { k with a := 0 }.setZNA 0)))) ∧
(∀ (c : CoreNo) (i : AwlIn) (s : State), s.Fetches c.val 0x25 i → (amImm i && formAcc i && decide (d16Of i < 32)) = true
      → exec (.rnd c i) s = .next ((s.tick c.val).retire c.val fun k => k.writeA (k.roundA (d16Of i)))) ∧
(∀ (c : CoreNo) (i : AwlIn) (s : State), s.Fetches c.val 0x27 i → (amImm i && szNone i && decide (modOf i ≤ 1) &&
      d16Zero i) = true → exec (.nrm c i) s = .next ((s.tick c.val).retire c.val fun k =>
      ({ k with a := (normalise k.a).2 }.setReg (modOf i) (BitVec.ofInt 32 (normalise k.a).1)).setZNA (normalise
      k.a).2)) ∧
(∀ (c : CoreNo) (i : AwlIn) (s : State), s.Fetches c.val 0x2E i → (amImm i && szNone i && regOk i && d16Zero i) = true →
      exec (.mova c i) s = .next ((s.tick c.val).retire c.val fun k => ((k.setReg (modOf i) k.aWord.1).setZN
      k.aWord.1).stick k.aWord.2))

/-- Branches, calls, return from exception and trap (18 R507, R514; 19 R532, R540-R542). -/
def Obligations.CompleteAwlFlow : Prop :=
(∀ (c : CoreNo) (i : AwlIn) (s : State), formBranch i = true → (((s.tick c.val).core c.val).ea i).toNat % 4 = 0 →
      ((s.Fetches c.val 0x40 i → exec (.bra c i) s = .next ((s.tick c.val).branched c.val i (true))) ∧
        (s.Fetches c.val 0x41 i → exec (.beq c i) s = .next ((s.tick c.val).branched c.val i (((s.tick c.val).core
            c.val).flag stZ))) ∧
        (s.Fetches c.val 0x42 i → exec (.bne c i) s = .next ((s.tick c.val).branched c.val i (!((s.tick c.val).core
            c.val).flag stZ))) ∧
        (s.Fetches c.val 0x43 i → exec (.blt c i) s = .next ((s.tick c.val).branched c.val i (((s.tick c.val).core
            c.val).flag stN != ((s.tick c.val).core c.val).flag stV))) ∧
        (s.Fetches c.val 0x44 i → exec (.bge c i) s = .next ((s.tick c.val).branched c.val i (((s.tick c.val).core
            c.val).flag stN == ((s.tick c.val).core c.val).flag stV))) ∧
        (s.Fetches c.val 0x45 i → exec (.bgt c i) s = .next ((s.tick c.val).branched c.val i (!((s.tick c.val).core
            c.val).flag stZ && (((s.tick c.val).core c.val).flag stN == ((s.tick c.val).core c.val).flag stV))))
            ∧
        (s.Fetches c.val 0x46 i → exec (.ble c i) s = .next ((s.tick c.val).branched c.val i (((s.tick c.val).core
            c.val).flag stZ || (((s.tick c.val).core c.val).flag stN != ((s.tick c.val).core c.val).flag stV))))
            ∧
        (s.Fetches c.val 0x47 i → exec (.blo c i) s = .next ((s.tick c.val).branched c.val i (((s.tick c.val).core
            c.val).flag stC))) ∧
        (s.Fetches c.val 0x48 i → exec (.bhs c i) s = .next ((s.tick c.val).branched c.val i (!((s.tick c.val).core
            c.val).flag stC))) ∧
        (s.Fetches c.val 0x49 i → exec (.bhi c i) s = .next ((s.tick c.val).branched c.val i (!((s.tick c.val).core
            c.val).flag stC && !((s.tick c.val).core c.val).flag stZ))) ∧
        (s.Fetches c.val 0x4A i → exec (.bls c i) s = .next ((s.tick c.val).branched c.val i (((s.tick c.val).core
            c.val).flag stC || ((s.tick c.val).core c.val).flag stZ))) ∧
        (s.Fetches c.val 0x4B i → exec (.bmi c i) s = .next ((s.tick c.val).branched c.val i (((s.tick c.val).core
            c.val).flag stN))) ∧
        (s.Fetches c.val 0x4C i → exec (.bpl c i) s = .next ((s.tick c.val).branched c.val i (!((s.tick c.val).core
            c.val).flag stN))) ∧
        (s.Fetches c.val 0x4D i → exec (.bvs c i) s = .next ((s.tick c.val).branched c.val i (((s.tick c.val).core
            c.val).flag stV))) ∧
        (s.Fetches c.val 0x4E i → exec (.bvc c i) s = .next ((s.tick c.val).branched c.val i (!((s.tick c.val).core
            c.val).flag stV))) ∧
        (s.Fetches c.val 0x4F i → exec (.bsv c i) s = .next ((s.tick c.val).branched c.val i (((s.tick c.val).core
            c.val).flag stSV))))) ∧
(∀ (c : CoreNo) (i : AwlIn) (t s : State), s.Fetches c.val 0x50 i → formBranch i = true → (((s.tick c.val).core
      c.val).ea i).toNat % 4 = 0 → (s.tick c.val).storeMem c.val ((s.tick c.val).core c.val).level (((s.tick c.val).core
      c.val).sp ((s.tick c.val).core c.val).level - 4).toNat (leBytes 4 (((s.tick c.val).core c.val).pc + 4).toNat) true
      false i = .ok t → exec (.call c i) s = .next (t.updCore c.val fun k =>
      { (k.setSp k.level (((s.tick c.val).core c.val).sp ((s.tick c.val).core c.val).level - 4)) with pc := ((s.tick c.val).core c.val).ea i })) ∧
(∀ (c : CoreNo) (i : AwlIn) (bs : List Byte) (t s : State), s.Fetches c.val 0x51 i → formNone i = true → (s.tick
      c.val).loadMem c.val ((s.tick c.val).core c.val).level (((s.tick c.val).core c.val).sp ((s.tick c.val).core
      c.val).level).toNat 4 true false i = .ok (bs, t) → (BitVec.ofNat 32 (ofLe bs)).toNat % 4 = 0 → exec (.ret c i) s =
      .next ((t.updCore c.val fun k => k.setSp k.level (k.sp k.level + 4)).updCore c.val fun k =>
      { k with pc := BitVec.ofNat 32 (ofLe bs) })) ∧
(∀ (c : CoreNo) (i : AwlIn) (s : State), s.Fetches c.val 0x52 i → formNone i = true → ((s.tick c.val).core c.val).level
      ≠ .user → (((s.tick c.val).core c.val).inWindow ((s.tick c.val).core c.val).level (((s.tick c.val).core c.val).sp
      ((s.tick c.val).core c.val).level).toNat 32 && decide ((((s.tick c.val).core c.val).sp ((s.tick c.val).core
      c.val).level).toNat % 4 = 0) && (s.tick c.val).frameReadable c.val ((s.tick c.val).core c.val).level (((s.tick
      c.val).core c.val).sp ((s.tick c.val).core c.val).level).toNat) = true → i.accessErr = none → rteCheck ((s.tick
      c.val).core c.val) ((s.tick c.val).core c.val).level ((s.tick c.val).readFrame c.val ((s.tick c.val).core
      c.val).level (((s.tick c.val).core c.val).sp ((s.tick c.val).core c.val).level).toNat i).1 = none → exec (.rte c
      i) s = .next (((s.tick c.val).readFrame c.val ((s.tick c.val).core c.val).level (((s.tick c.val).core c.val).sp
      ((s.tick c.val).core c.val).level).toNat i).2.updCore c.val (Core.restore ((s.tick c.val).readFrame c.val ((s.tick
      c.val).core c.val).level (((s.tick c.val).core c.val).sp ((s.tick c.val).core c.val).level).toNat i).1 ((s.tick
      c.val).core c.val).level (BitVec.ofNat 32 (ofLe (Bank.readBytes (Bank.get [] ((s.tick c.val).readFrame c.val
      ((s.tick c.val).core c.val).level (((s.tick c.val).core c.val).sp ((s.tick c.val).core c.val).level).toNat
      i).2.mem.dtcm c.val) 0x9FFF0 4)))))) ∧
(∀ (c : CoreNo) (i : AwlIn) (s : State), s.Fetches c.val 0x52 i → formNone i = true → ((s.tick c.val).core c.val).level
      = .user → exec (.rte c i) s = .next ((s.tick c.val).takeExc c.val { slot := 5, info := 0xFE } ((s.tick c.val).core
      c.val).pc none i.entry)) ∧
(∀ (c : CoreNo) (i : AwlIn) (s : State), s.Fetches c.val 0x53 i → (amImm i && szW i && modZero i && decide (d16Of i <
      256)) = true → exec (.trap c i) s = .next ((s.tick c.val).takeExc c.val { slot := 12, info := d16Of i } ((s.tick
      c.val).core c.val).pc none i.entry))

/-- Atomics, barriers, WAIT, system registers, interrupts, the events of a core, reserved opcodes and user opcodes (18 R505, R515-R523; 19 R532, R543, R544; 20 R556, R559). -/
def Obligations.CompleteAwlSystem : Prop :=
(∀ (c : CoreNo) (i : AwlIn) (bs : List Byte) (t s : State), s.Fetches c.val 0x60 i → formAtomic i = true → (s.tick
      c.val).loadEa c.val i 4 true = .ok (bs, t) → t.dataCheck c.val ((s.tick c.val).core c.val).level (((s.tick
      c.val).core c.val).ea i).toNat 4 1 (decide (amOf i = 4)) true = none → exec (.tas c i) s = .next ((t.atomicStore
      c.val (((s.tick c.val).core c.val).ea i).toNat (BitVec.ofNat 32 (ofLe bs) ||| 1)).retire c.val fun k =>
      ((k.postInc i).setReg (modOf i) (BitVec.ofNat 32 (ofLe bs))).setFlag stZ (!(BitVec.ofNat 32 (ofLe bs)).getLsbD
      0))) ∧
(∀ (c : CoreNo) (i : AwlIn) (bs : List Byte) (t s : State), s.Fetches c.val 0x61 i → formAtomic i = true → (s.tick
      c.val).loadEa c.val i 4 true = .ok (bs, t) → exec (.ldrs c i) s = .next (t.retire c.val fun k =>
      { ((k.postInc i).setReg (modOf i) (BitVec.ofNat 32 (ofLe bs))).setZN (BitVec.ofNat 32 (ofLe bs)) with resv := some ((((s.tick c.val).core c.val).ea i).toNat / 64) })) ∧
(∀ (c : CoreNo) (i : AwlIn) (s : State), s.Fetches c.val 0x62 i → formAtomic i = true → (s.tick c.val).dataCheck c.val
      ((s.tick c.val).core c.val).level (((s.tick c.val).core c.val).ea i).toNat 4 1 (decide (amOf i = 4)) true = none →
      ((s.tick c.val).core c.val).resv = some ((((s.tick c.val).core c.val).ea i).toNat / 64) → i.accessErr = none →
      exec (.stcd c i) s = .next (((s.tick c.val).atomicStore c.val (((s.tick c.val).core c.val).ea i).toNat (((s.tick
      c.val).core c.val).reg (modOf i))).retire c.val fun k => { (k.postInc i).setFlag stZ true with resv := none })) ∧
(∀ (c : CoreNo) (i : AwlIn) (s : State), s.Fetches c.val 0x62 i → formAtomic i = true → (s.tick c.val).dataCheck c.val
      ((s.tick c.val).core c.val).level (((s.tick c.val).core c.val).ea i).toNat 4 1 (decide (amOf i = 4)) true = none →
      ((s.tick c.val).core c.val).resv ≠ some ((((s.tick c.val).core c.val).ea i).toNat / 64) → exec (.stcd c i) s =
      .next ((s.tick c.val).retire c.val fun k => { (k.postInc i).setFlag stZ false with resv := none })) ∧
(∀ (c : CoreNo) (i : AwlIn) (s : State), formNone i = true → ((s.Fetches c.val 0x63 i → exec (.mbar c i) s = .next
      (((s.tick c.val).drainAll c.val).retire c.val fun k => { k with rules := ((s.tick c.val).mpu c.val).written })) ∧
        (s.Fetches c.val 0x64 i → exec (.ibar c i) s = .next ((s.tick c.val).retire c.val fun k =>
            { k with decode := k.table, code := Bank.get [] (s.tick c.val).mem.itcm c.val })))) ∧
(∀ (c : CoreNo) (i : AwlIn) (s : State), s.Fetches c.val 0x72 i → formNone i = true → ((s.tick c.val).core c.val).level
      ≠ .user → exec (.wait c i) s = .next ((s.tick c.val).retire c.val fun k =>
      { k with waiting := true, resv := none })) ∧
(∀ (c : CoreNo) (i : AwlIn) (s : State), s.Fetches c.val 0x72 i → formNone i = true → ((s.tick c.val).core c.val).level
      = .user → exec (.wait c i) s = .next ((s.tick c.val).takeExc c.val { slot := 5, info := 0xFF } ((s.tick
      c.val).core c.val).pc none i.entry)) ∧
(∀ (c : CoreNo) (i : AwlIn) (u v m : SysAcc) (s : State), s.Fetches c.val 0x70 i → formRegImm i = true → sysRights
      (d16Of i) = some (u, v, m) → rightOf (u, v, m) ((s.tick c.val).core c.val).level ≠ .none → exec (.mfs c i) s =
      .next ((s.tick c.val).retire c.val fun k => (k.sysRead (d16Of i)).setReg (modOf i) (sysValue (s.tick c.val) c.val
      (d16Of i)))) ∧
(∀ (c : CoreNo) (i : AwlIn) (u v m : SysAcc) (s : State), s.Fetches c.val 0x71 i → formRegImm i = true → sysRights
      (d16Of i) = some (u, v, m) → rightOf (u, v, m) ((s.tick c.val).core c.val).level = .write → iplChange ((s.tick
      c.val).core c.val) (d16Of i) (((s.tick c.val).core c.val).reg (modOf i)) = false → exec (.mts c i) s = .next
      ((s.tick c.val).retire c.val (Core.sysWrite (d16Of i) (((s.tick c.val).core c.val).reg (modOf i))))) ∧
(∀ (c : CoreNo) (e : EntryEnv) (s : State), (s.core c.val).takes = true → (s.core c.val).nmiDue = true → ((((s.updCore
      c.val fun k => { k with nmi := false }).takeExc c.val { slot := 2 } (s.core c.val).pc none e).core c.val).dfault
      || (((s.updCore c.val fun k => { k with nmi := false }).takeExc c.val { slot := 2 } (s.core c.val).pc none e).core
      c.val).inReset) = false → exec (.nmi c e) s = .next (((s.updCore c.val fun k => { k with nmi := false }).takeExc
      c.val { slot := 2 } (s.core c.val).pc none e).updCore c.val fun k => { k with nmiSvc := true })) ∧
(∀ (c : CoreNo) (line : Fin 16) (e : EntryEnv) (s : State), (s.core c.val).takes = true → (s.core c.val).nmiDue = false
      → bestLine s c.val = some line.val → exec (.interrupt c line e) s = .next (s.takeExc c.val
      { slot := 16 + line.val, info := line.val + 16 * (s.core c.val).lineLevel line.val } (s.core c.val).pc (some
      ((s.core c.val).lineLevel line.val)) e)) ∧
(∀ (c : CoreNo) (s : State), exec (.reservationExpiry c) s = .next (s.updCore c.val fun k => { k with resv := none })) ∧
(∀ (c : CoreNo) (e : WbEntry) (r : List WbEntry) (s : State), (s.core c.val).wb = e :: r → exec (.writeBufferDrain c
      none) s = .next ((s.storeOut c.val e).updCore c.val fun k => { k with wb := r })) ∧
(∀ (c : CoreNo) (op : Byte) (i : AwlIn) (s : State), s.Fetches c.val op.toNat i → reservedOp op.toNat = true → exec
      (.reservedOpcode c op i) s = .next ((s.tick c.val).takeExc c.val { slot := 4 } ((s.tick c.val).core c.val).pc none
      i.entry)) ∧
(∀ (c : CoreNo) (n : Fin 16) (i : AwlIn) (g : Stage) (s : State), s.Fetches c.val (0xF0 + n.val) i → c.val ≠ 4 →
      (entryDesc ((s.tick c.val).core c.val).decode n.val).getLsbD 0 = true → (entryDesc ((s.tick c.val).core
      c.val).decode n.val).getLsbD (8 + amOf i) = true → (entryDesc ((s.tick c.val).core c.val).decode n.val).getLsbD
      (16 + szOf i) = true → (s.tick c.val).microRun ((s.tick c.val).userEnv c.val n.val i) 64 0
      { a := ((s.tick c.val).core c.val).a, st := ((s.tick c.val).core c.val).st } = .ok g → exec (.userDecode c n i) s
      = .next ((s.tick c.val).commit ((s.tick c.val).userEnv c.val n.val i) g))

/-- The Welt link and the pair (16 R459-R474, R484). -/
def Obligations.CompleteWelt : Prop :=
(∀ (v : Word) (s : State), exec (.wltCfgWrite .machine v) s = .next (s.withWelt fun w =>
      { w with en := v.getLsbD 0, lanes := if v.getLsbD 0 then w.lanes else 0 }) ∧ exec (.wltCfgWrite .supervisor v) s =
      .next s ∧ exec (.wltCfgWrite .user v) s = .next s) ∧
(∀ (l : Fin 2) (s : State), s.welt.en = true → s.welt.lanes.getLsbD l.val = false → s.welt.lanes ≠ 0 → exec
      (.weltLaneLock l) s = .next (s.withWelt fun w => { w with lanes := setBit w.lanes l.val true })) ∧
(∀ (l : Fin 2) (s : State), s.welt.en = true → s.welt.lanes = 0 → exec (.weltLaneLock l) s = .next (s.withWelt fun w =>
      { w with lanes := setBit w.lanes l.val true }).weltStart) ∧
(∀ (l : Fin 2) (s : State), s.welt.lanes.getLsbD l.val = true → exec (.weltLaneLoss l) s = .next ((s.withWelt fun w =>
      { w with lanes := setBit w.lanes l.val false, err := setBit w.err (4 + l.val) true }).eventFree 0x50 8)) ∧
(∀ (fr : WeltRx) (c : Bool) (s : State), s.weltHears fr = true → weltCrcOk 0x21 fr = true → fr.body.length = 56 →
      (Hello.ofBytes fr.body c).version = 1 → helloBad s (Hello.ofBytes fr.body c) = false → c = false → exec (.hello fr
      c) s = .next ((s.withWelt fun w =>
      { w with partner := (Hello.ofBytes fr.body c).device, partnerEpoch := (Hello.ofBytes fr.body c).epoch }).withWelt
      fun w => { w with hello := some (Hello.ofBytes fr.body c) })) ∧
(∀ (fr : WeltRx) (c : Bool) (s : State), s.weltHears fr = true → weltCrcOk 0x21 fr = true → fr.body.length = 56 →
      (Hello.ofBytes fr.body c).version = 1 → helloBad s (Hello.ofBytes fr.body c) = false → c = true → s.welt.state ≠
      .given → s.welt.state ≠ .fenced → exec (.hello fr c) s = .next ((((s.withWelt fun w =>
      { w with partner := (Hello.ofBytes fr.body c).device, partnerEpoch := (Hello.ofBytes fr.body c).epoch }).withWelt
      fun w => { w with hello := some (Hello.ofBytes fr.body c) }).withRings Rings.stopAll).enterPair .given)) ∧
(∀ (fr : WeltRx) (c : Bool) (s : State), s.weltHears fr = true → weltCrcOk 0x21 fr = true → fr.body.length = 56 →
      (Hello.ofBytes fr.body c).version = 1 → helloBad s (Hello.ofBytes fr.body c) = true → s.welt.state ≠ .linking →
      exec (.hello fr c) s = .next ((s.withWelt fun w =>
      { w with partner := (Hello.ofBytes fr.body c).device, partnerEpoch := (Hello.ofBytes fr.body c).epoch }).withWelt
      fun w => { w with err := setBit w.err 3 true, hello := none })) ∧
(∀ (b : Hello) (r : KeyRun) (c : Nat) (s : State), s.welt.hello = some b → s.keys.present 3 = some r → s.welt.up = true
      → s.welt.sessionKey = none → s.fwCore = some c → exec .weltSessionKeyReady s = .next (match s.fwKdf c r (ascii
      "CX-WELT") (s.sessionContext b) 32 with
        | (none, t) => t.dealAll
        | (some key, t) => (((t.withWelt fun w =>
            { w with sessionKey := some key, txCounter := 0, rxNext := 0, confirmed := false }).weltSealed 0
            0x22 ((t.withWelt fun w =>
            { w with sessionKey := some key, txCounter := 0, rxNext := 0, confirmed := false }).confirmBody
            b)).weltSealed 1 0x22 ((t.withWelt fun w =>
            { w with sessionKey := some key, txCounter := 0, rxNext := 0, confirmed := false }).confirmBody
            b)).dealAll)) ∧
(∀ (fr : WeltRx) (s : State), s.weltHears fr = true → exec (.confirm fr) s = .next (match s.weltGot 0x22 fr with
        | .plain p => s.confirmed p fr.counter.toNat
        | .tag => (s.withWelt fun w => { w with err := setBit w.err 3 true, tagFail := satAdd w.tagFail 1 }).raise 55
            (BitVec.ofNat 32 (fr.lane.val + 256 * 3))
        | g => s.weltDiscard g fr.lane.val)) ∧
(∀ (p : List Byte) (n : Nat) (b : Hello) (s : State), s.welt.hello = some b → p = s.confirmBody b → s.confirmed p n =
      ((s.withWelt fun w => { w with rxNext := n + 1 }).withWelt fun w => { w with confirmed := true }).weltAdvance
      true) ∧
(∀ (p : List Byte) (n : Nat) (b : Hello) (s : State), s.welt.hello = some b → p ≠ s.confirmBody b → s.confirmed p n =
      (s.withWelt fun w => { w with rxNext := n + 1 }).withWelt fun w => { w with err := setBit w.err 3 true }) ∧
(∀ (fr : WeltRx) (s : State), s.weltHears fr = true → exec (.heartbeat fr) s = .next (match s.weltGot 0x23 fr with
        | .plain _ => ((s.withWelt fun w => { w with rxNext := fr.counter.toNat + 1 }).withWelt fun w =>
            { w with whbAge := 0 }).weltAdvance true
        | g => s.weltDiscard g fr.lane.val)) ∧
(∀ (fr : WeltRx) (seq : Word) (r : MirrorRec) (s : State), s.weltHears fr = true → exec (.mirror fr seq r) s = .next
      (match s.weltGot 0x24 fr with
        | .plain _ => ((((s.withWelt fun w => { w with rxNext := fr.counter.toNat + 1 })).applyRecord r).withWelt fun w
            => { w with mirrorSeen := seq }).weltAck seq
        | g => s.weltDiscard g fr.lane.val)) ∧
(∀ (fr : WeltRx) (s : State), s.weltHears fr = true → exec (.ack fr) s = .next (match s.weltGot 0x25 fr with
        | .plain p => ((s.withWelt fun w => { w with rxNext := fr.counter.toNat + 1 }).ackRecord (BitVec.ofNat 32 (ofLe
            (p.take 4)))).settle
        | g => s.weltDiscard g fr.lane.val)) ∧
(∀ (fr : WeltRx) (s : State), s.weltHears fr = true → exec (.depart fr) s = .next (match s.weltGot 0x26 fr with
        | .plain p => ((((s.withWelt fun w => { w with rxNext := fr.counter.toNat + 1 })).departed (p.getD 0
            0).toNat).withWelt fun w => { w with mirrorSeen := s.welt.mirrorSeen + 1 }).weltAck
            (s.welt.mirrorSeen + 1)
        | g => s.weltDiscard g fr.lane.val)) ∧
(∀ (s : State), exec .weltIdle s = .next s) ∧
(∀ (type : Byte) (fr : WeltRx) (s : State), s.weltHears fr = true → weltIsClear type = false → exec (.weltBadFrame type
      fr) s = .next (s.weltDiscard (s.weltGot type fr) fr.lane.val)) ∧
(∀ (type : Byte) (fr : WeltRx) (s : State), s.weltHears fr = true → weltIsClear type = true → weltCrcOk type fr = false
      → exec (.weltBadFrame type fr) s = .next (s.withWelt fun w =>
      { w with err := setBit w.err 0 true, crcFail := satAdd w.crcFail 1 })) ∧
(∀ (type : Byte) (fr : WeltRx) (s : State), weltCrcOk type fr = false → s.weltGot type fr = .crc) ∧
(∀ (l : Nat) (s : State), s.weltDiscard .crc l = (s.withWelt fun w =>
      { w with err := setBit w.err 0 true, crcFail := satAdd w.crcFail 1 }) ∧ s.weltDiscard .tag l = ((s.withWelt fun w
      => { w with err := setBit w.err 1 true, tagFail := satAdd w.tagFail 1 }).raise 55 (BitVec.ofNat 32 (l + 256 *
      1))).weltStart ∧ s.weltDiscard .replay l = ((s.withWelt fun w => { w with err := setBit w.err 2 true }).raise 55
      (BitVec.ofNat 32 (l + 256 * 2))).weltStart ∧ s.weltDiscard .closed l = s) ∧
(∀ (s : State), s.welt.up = true → s.welt.confirmed = true → exec .weltHeartbeatSend s = .next ((s.weltSealed 0 0x23
      ((fun t : State => [BitVec.ofNat 8 (pairCode t.welt.state), 0, 0, 0] ++ leBytes 4 t.welt.mirrorSeen.toNat ++
      leBytes 4 t.welt.hb.toNat ++ [0, 0, 0, 0]) s)).weltSealed 1 0x23 ((fun t : State => [BitVec.ofNat 8 (pairCode
      t.welt.state), 0, 0, 0] ++ leBytes 4 t.welt.mirrorSeen.toNat ++ leBytes 4 t.welt.hb.toNat ++ [0, 0, 0, 0])
      (s.weltSealed 0 0x23 ((fun t : State => [BitVec.ofNat 8 (pairCode t.welt.state), 0, 0, 0] ++ leBytes 4
      t.welt.mirrorSeen.toNat ++ leBytes 4 t.welt.hb.toNat ++ [0, 0, 0, 0]) s))))) ∧
(∀ (word : Long) (s : State), s.welt.en = true → s.welt.state ≠ .fenced → s.welt.ownWord = true → wordState word = 3 →
      wordDevice word = s.welt.partner → exec (.hostWordWrite word) s = .next s.fence) ∧
(∀ (word a : Long) (s : State), s.welt.en = true → s.welt.state ≠ .fenced → (s.welt.ownWord = false ∨ wordState word ≠ 3
      ∨ wordDevice word ≠ s.welt.partner) → ownWordAddr s = some a → exec (.hostWordWrite word) s = .next (((s.hostWrite
      a (wordBytes (s.welt.hb + 1) s.devNo (if s.boot.shelfDown then 2 else 1))).withWelt fun w =>
      { w with hb := s.welt.hb + 1, ownWord := true }).weltAdvance false)) ∧
(∀ (word : Long) (s : State), (s.welt.en = false ∨ s.welt.state = .fenced) → exec (.hostWordWrite word) s = .next s) ∧
(∀ (word : Long) (scan : List (Fin 16384 × List Bool)) (s : State), s.welt.en = true → s.welt.state ≠ .fenced →
      s.welt.state ≠ .degraded → exec (.partnerWordRead word scan) s = .next ((s.withWelt fun w =>
      { w with phbAge := if w.partnerWord ∧ w.phb = wordCount word then w.phbAge else 0, phb := wordCount word, partnerWord := true, partnerDeparted := decide (wordState word = 2) || w.departSeen }).weltAdvance
      false)) ∧
(∀ (word : Long) (scan : List (Fin 16384 × List Bool)) (s : State), s.welt.en = true → s.welt.state = .degraded →
      s.welt.departSeen = false → wordState word = 2 → exec (.partnerWordRead word scan) s = .next ((s.withWelt fun w =>
      { w with phbAge := if w.partnerWord ∧ w.phb = wordCount word then w.phbAge else 0, phb := wordCount word, partnerWord := true, partnerDeparted := true }).draw
      4 fun us t => t.takeOver scan (BitVec.ofNat 32 (ofLe us)))) ∧
(∀ (scan : List (Fin 16384 × List Bool)) (us : Word) (s : State), s.welt.state = .degraded → s.welt.departSeen = false →
      exec (.partnerWordStale scan us false) s = .next (s.takeOver scan us)) ∧
(∀ (scan : List (Fin 16384 × List Bool)) (us : Word) (tie : Bool) (s : State), (s.welt.state ≠ .degraded ∨
      s.welt.departSeen = true ∨ tie = true) → exec (.partnerWordStale scan us tie) s = .next s) ∧
(∀ (seq : Word) (m : MirrorWait) (s : State), (s.welt.waiting.find? fun m => decide (m.seq = seq)) = some m → exec
      (.mirrorResend seq) s = .next ((s.withWelt fun w =>
      { w with waiting := w.waiting.map fun x => if x.seq = seq then { x with lane := s.welt.otherLane m.lane } else x }).putItem
      (s.welt.otherLane m.lane) m.item)) ∧
(∀ (seq : Word) (s : State), (s.welt.waiting.find? fun m => decide (m.seq = seq)) = none → exec (.mirrorResend seq) s =
      .next s)

/-- What takeover and fencing leave (16 R468-R470): CARRYING with nothing waiting for an ACK and one more takeover; FENCED with the own rings fetching no more; a member that has been fenced stays so whatever the pair does. -/
def Obligations.WeltTakeover : Prop :=
(∀ (f : State → State) (s : State), s.welt.state = .fenced → s.pairChange f = s) ∧
(∀ (scan : List (Fin 16384 × List Bool)) (us : Word) (s : State), s.welt.state ≠ .fenced → (s.takeOver scan
      us).welt.state = .carrying ∧ (s.takeOver scan us).welt.takeovers = satAdd s.welt.takeovers 1 ∧ (s.takeOver scan
      us).welt.tkTime = us ∧ (s.takeOver scan us).welt.waiting = [] ∧ ((s.takeOver scan us).mbx.get 64).dbell.getLsbD 1
      = true) ∧
(∀ (s : State), s.welt.state ≠ .fenced → s.fence.welt.state = .fenced ∧ s.fence.welt.waiting = [] ∧
      s.fence.welt.err.getLsbD 6 = true ∧ s.fence.rings.irqDue = []) ∧
(∀ (s : State), s.welt.state ≠ .fenced → s.degrade.welt.state = .degraded ∧ s.degrade.welt.waiting = [])

/-- Function-level resets, power states, configuration writes, refused accesses, MSI-X masks, IDE keys (03 R73-R95; 05 R158; 06 R212). -/
def Obligations.CompleteEndpoint : Prop :=
(∀ (f : Fin 64) (s : State), f.val ≠ 0 → exec (.functionLevelReset f) s = .next ((s.flr f.val).dealAll.settle)) ∧
(∀ (s : State), exec (.functionLevelReset 0) s = .next ((s.flrAll.withPcie fun p =>
      { p with vfEnable := false }).dealAll.settle)) ∧
(∀ (s : State), exec .hotReset s = .next (((s.flrAll.withPcie fun p => { p with vfEnable := false }).withPins fun p =>
      { p with linkL0 := false }).dealAll.settle)) ∧
(∀ (f : Fin 64) (s : State), (s.pcieFn f.val).flr = false → exec (.flrComplete f) s = .next s) ∧
(∀ (f : Fin 64) (s : State), (s.pcieFn f.val).flr = true → exec (.flrComplete f) s = .next ((((s.rings.ring.filter fun p
      => p.2.ofFn f.val).map Prod.fst).foldl (fun (t : State) r => (t.withRings fun x => (x.updRing r fun g =>
      { g with p := 0, f := 0, c := 0, reread := 0 }).freeIfDrained r).mirrorCounts r) (s.updFn f.val fun p =>
      { p with flr := false })).settle)) ∧
(∀ (f : Fin 64) (s : State), exec (.d0ToD3hot f) s = .next (s.updFn f.val fun p => { p with d3hot := true }) ∧ exec
      (.d3hotToD0 f) s = .next (s.updFn f.val fun p => { p with d3hot := false })) ∧
(∀ (f : Fin 64) (v : Bool) (s : State), exec (.memorySpaceEnableWrite f v) s = .next (s.updFn f.val fun p =>
      { p with memEnable := v })) ∧
(∀ (v : Half) (s : State), v.toNat ≤ 63 → exec (.numVfsWrite v) s = .next (s.withPcie fun p =>
      { p with numVfs := BitVec.ofNat 6 v.toNat })) ∧
(∀ (v : Half) (s : State), 63 < v.toNat → exec (.numVfsWrite v) s = .next s) ∧
(∀ (f : Fin 64) (s : State), exec (.poisonedWrite f) s = .next (s.withPcie fun p =>
      { p with aerPoisoned := p.aerPoisoned + 1 })) ∧
(∀ (f : Fin 64) (x : HostAccess) (s : State), x.offset < barSize x.space → hostAccepted x = false → x.data.isSome = true
      → exec (.barBadAccess f x) s = .next (s.withMbx fun m => m.updPage f.val fun p =>
      { p with badAcc := satAdd p.badAcc 1 })) ∧
(∀ (f : Fin 64) (x : HostAccess) (s : State), x.offset < barSize x.space → hostAccepted x = false → x.data = none → exec
      (.barBadAccess f x) s = .next (((s.withMbx fun m => m.updPage f.val fun p =>
      { p with badAcc := satAdd p.badAcc 1 }).setRead 0).withOut fun o => { o with readHigh := 0 })) ∧
(∀ (f : Fin 64) (x : HostAccess) (s : State), x.offset < barSize x.space → hostAccepted x = true → exec (.barBadAccess f
      x) s = .next (match x.data with
        | some v => s.hostStore f x v
        | none => s.hostLoad f x)) ∧
(∀ (f : Fin 64) (vector : Fin 32) (s : State), (s.pcieFn f.val).pend.getLsbD vector.val = true → exec (.msixVectorUnmask
      f vector) s = .next ((s.updFn f.val fun p =>
      { p with mask := setBit p.mask vector.val false, pend := setBit p.pend vector.val false }).msiSend f.val
      vector.val)) ∧
(∀ (f : Fin 64) (vector : Fin 32) (s : State), (s.pcieFn f.val).pend.getLsbD vector.val = false → exec
      (.msixVectorUnmask f vector) s = .next (s.updFn f.val fun p =>
      { p with mask := setBit p.mask vector.val false, pend := setBit p.pend vector.val false })) ∧
(∀ (stream : Fin 9) (sub : Fin 3) (dir : Fin 2) (key : List Byte) (s : State), (s.cob.spdm.session.any fun x => x.doe &&
      x.finished) = true → exec (.ideKmKeyProg stream sub dir key) s = .next (s.withKeys fun k => k.install (10 + 6 *
      stream.val + 2 * sub.val + dir.val) (reservedAttr 3) (padTo 32 key) 0)) ∧
(∀ (stream : Fin 9) (sub : Fin 3) (dir : Fin 2) (key : List Byte) (s : State), (s.cob.spdm.session.any fun x => x.doe &&
      x.finished) = false → exec (.ideKmKeyProg stream sub dir key) s = .next s)

/-- Timeouts, zeroised runs, conditioned blocks, completions, tag memory, live update and shutdown (02 R67; 04 R112, R117; 05 R177; 06 R209-R214; 12 R362-R378; 14 R421, R430; 16 R468; 17 R494, R495). -/
def Obligations.CompleteWaits : Prop :=
(∀ (f : Fin 64) (tag elapsed : Word) (i : Nat) (w : Waiting) (s : State), ((s.fw.findWait fun w => decide (w.hdr.fn = f
      ∧ w.hdr.tag = tag)) = some (i, w)) → w.why ≠ .shelf → w.why ≠ .stage → (∀ a b c, w.cmd ≠ .pairHandover a b c) →
      exec (.commandTimeout f tag elapsed) s = .next (s.endWait i w (w.expiry s.rng elapsed).1 (w.expiry s.rng
      elapsed).2 elapsed).settle) ∧
(∀ (f : Fin 64) (tag elapsed : Word) (s : State), ((s.fw.findWait fun w => decide (w.hdr.fn = f ∧ w.hdr.tag = tag)) =
      none) → exec (.commandTimeout f tag elapsed) s = .next s) ∧
(∀ (h : CmdHdr) (opcode : Half) (s : State), s.takes h.fn.val = true → definedOpcodes.contains opcode = false →
      refusalCode s h = none → headErr s h = none → exec (.undefinedOpcode h opcode) s = .next (s.respondAs h opcode
      Status.badOpcode 0 h.session [])) ∧
(∀ (slot : Fin 32768) (r : KeyRun) (s : State), Bank.get none s.keys.runs slot.val = some r → r.marked = true → r.refs =
      0 → exec (.runZeroise slot) s = .next ((s.withKeys (Keys.free · slot.val)).settle)) ∧
(∀ (slot : Fin 32768) (s : State), Bank.get none s.keys.runs slot.val = none → exec (.runZeroise slot) s = .next s) ∧
(∀ (scan : List (Fin 16384 × List Bool)) (s : State), s.welt.handover = none → exec (.weltHeartbeatTimeout false scan) s
      = .next (s.heartbeatLost scan).settle ∧ exec (.weltHeartbeatTimeout true scan) s = .next s) ∧
(∀ (s : State), exec .fieldHoldEnd s = .next (((s.withListen fun l => { l with held := none }).tagProceed).settle)) ∧
(∀ (s : State), s.listen.field = true → exec .fieldLost s = .next (s.withListen fun l =>
      { l.endSession with field := false, susp := false, answer := [], fieldStaging := [] }).holdEnd) ∧
(∀ (s : State), s.ins.hostWait.isSome = true → exec (.tagHostWaitExpiry false) s = .next s.tagBusy ∧ exec
      (.tagHostWaitExpiry true) s = .next s) ∧
(∀ (tie : Bool) (s : State), s.ins.hostWait.isSome = false → (s.fw.findWait fun w => decide (w.why = .tag)) = none →
      exec (.tagHostWaitExpiry tie) s = .next s) ∧
(∀ (i : Nat) (w : Waiting) (s : State), s.ins.hostWait.isSome = false → (s.fw.findWait fun w => decide (w.why = .tag)) =
      some (i, w) → exec (.tagHostWaitExpiry false) s = .next (s.endWait i w Status.busy 4 w.hdr.elapsed).settle) ∧
(∀ (m tie : Bool) (s : State), (s.rng.tested = false ∨ s.rng.audit = true) → exec (.conditionedBlock m tie) s = .next s) ∧
(∀ (m : Bool) (s : State), s.rng.tested = true → s.rng.audit = false → exec (.conditionedBlock m true) s = .next
      (s.withRng fun r => r.dropInput m)) ∧
(∀ (c : Nat) (s : State), s.rng.tested = true → s.rng.audit = false → s.rng.mAvail = true → s.rng.dueGen = some c → exec
      (.conditionedBlock true false) s = .next (s.condition true fun b t => t.withRng fun r => r.updGen c fun _ =>
      MaskGen.ofSeed false b)) ∧
(∀ (s : State), s.rng.tested = true → s.rng.audit = false → s.rng.kAvail = true → exec (.conditionedBlock false false) s
      = .next (s.condition false State.blockK)) ∧
(∀ (block : List Byte) (s : State), s.rng.mAvail = true → s.blockK block = ((s.withRng fun r =>
      { r with kBlocks := r.kBlocks + 1 }).withRng fun r => { r with buffer := (r.buffer ++ [block]).take 8 }).serveAll) ∧
(∀ (block : List Byte) (c : Nat) (s : State), s.rng.mAvail = false → s.rng.dueGen = some c → s.blockK block = (s.withRng
      fun r => { r with kBlocks := r.kBlocks + 1 }).withRng fun r => r.updGen c fun _ => MaskGen.ofSeed true block) ∧
(∀ (ring : Fin 16384) (s : State), ((s.completeAll ring.val).rings.get ring.val).c = (s.rings.get ring.val).c → exec
      (.completionWrite ring) s = .next (s.completeAll ring.val).settle) ∧
(∀ (ring : Fin 16384) (s : State), ((s.completeAll ring.val).rings.get ring.val).c ≠ (s.rings.get ring.val).c → exec
      (.completionWrite ring) s = .next ((s.completeAll ring.val).mirrorCounts ring.val).settle) ∧
(∀ (s : State), exec (.ringAbortAll .machine) s = .next s.abortAllRings.settle ∧ exec (.ringAbortAll .supervisor) s =
      .next s.abortAllRings.settle ∧ exec (.ringAbortAll .user) s = .next s) ∧
(∀ (i : Nat) (w : Waiting) (s : State), s.fw.shelf = some (i, w) → exec .shelfDownTimeout s = .next (((s.withFw fun f =>
      { f with waiting := f.waiting.set i { w with data := [1] } }).abortAllRings).settle)) ∧
(∀ (s : State), s.fw.shelf = none → exec .shelfDownTimeout s = .next s ∧ (∀ e, exec (.shelfDownComplete e) s = .next s)) ∧
(∀ (elapsed : Word) (i : Nat) (w : Waiting) (s : State), s.fw.shelf = some (i, w) → s.rings.drained (decide (w.data ≠
      [])) = true → (s.engineOn && s.signer.isNone) = false → ∃ t, exec (.shelfDownComplete elapsed) s = .next t ∧
      t.boot.state = .down ∧ t.keys.runs = [] ∧ t.mem.sram = [] ∧ t.mem.itcm = [] ∧ t.mem.dtcm = [] ∧ (∀ p ∈
      t.rings.jobs, ∀ j, p.2 = some j → j.ctx = none ∧ j.out = [])) ∧
(∀ (elapsed : Word) (i : Nat) (w : Waiting) (s : State), s.fw.shelf = some (i, w) → (s.rings.drained (decide (w.data ≠
      [])) = false ∨ s.engineOn = true ∧ s.signer = none) → exec (.shelfDownComplete elapsed) s = .next s) ∧
(∀ (img : Image) (elapsed : Word) (i len : Nat) (w : Waiting) (s : State), s.fw.staging = some (i, w, len) →
      s.cob.staged = none → exec (.fwStageVerifyDone img elapsed) s = .next (match imageCheck s.pins len s.pins.fwFloor
      s.pins.cobFloor img with
        | none => (s.earlyImage img).withCob fun c => { c with staged := some img }
        | some (code, _) => (((s.earlyImage img).endWait i w (stageStatus code img.data.length).1 (stageStatus code
            img.data.length).2 elapsed).settle))) ∧
(∀ (img : Image) (elapsed : Word) (s : State), s.fw.staging = none → exec (.fwStageVerifyDone img elapsed) s = .next s) ∧
(∀ (elapsed : Word) (img : Image) (i len : Nat) (w : Waiting) (s : State), s.cob.staged = some img → s.fw.staging = some
      (i, w, len) → s.fw.waiting.length = 1 → ((List.range 4).any (fun c => s.coreUsable c && (s.core c).inReset)) =
      false → ∃ t, exec (.quietPoint elapsed) s = .next t ∧ t.boot.fwVer = img.fwVer ∧ t.boot.cobVer = img.cobVer ∧
      t.cob.staged = none ∧ t.cob.image = some img ∧ t.keys = s.keys ∧ t.rings = s.rings) ∧
(∀ (elapsed : Word) (s : State), s.cob.staged = none → exec (.quietPoint elapsed) s = .next s) ∧
(∀ (f : Fin 64) (s : State), Bank.get [] s.fw.notices f.val = [] → exec (.evtNoticePost f) s = .next s) ∧
(∀ (f : Fin 64) (n : Long) (rest : List Long) (s : State), Bank.get [] s.fw.notices f.val = n :: rest → (s.mbx.get (64 +
      f.val)).full = false → s.boot.state = .running → receiverUp s (.evt f) = true → exec (.evtNoticePost f) s = .next
      ((((s.withFw fun x => { x with notices := Bank.set [] f.val rest x.notices }).updBox (64 + f.val) fun b =>
      (b.writeLo (n.setWidth 32)).writeHi true ((n >>> 32).setWidth 32)).updBox (64 + f.val) fun b =>
      { b with dbell := b.dbell ||| 1 })))

/-- Sessions and the quorum (04 R120-R126, R149-R155). -/
def Obligations.CompleteSessionCommands : Prop :=
(∀ (h : CmdHdr) (rsv : Byte) (tenant : Half) (seq : Word) (sigLen : Word) (sig : List Byte) (c : Call) (s : State),
      callSessionOpen h 1 rsv tenant seq sigLen sig s = c → c.Accepted s → s.fw.open.length < 4096 → (s.fw.open.filter
      fun p => decide (p.2.fn.toNat = h.fn.val)).length < 64 → s.rng.serves (c.core s) = true → exec (.sessionOpen h 1
      rsv tenant seq sigLen sig) s = .next (s.instDraw (c.core s) false 4 (fun b u => (u.withFw fun f =>
      { f with sessions := Bank.set none u.fw.freeSession (some { fn := BitVec.ofNat 6 h.fn.val, admin := true, tenant := 0, check := BitVec.ofNat 20 (ofLe b) }) f.sessions }).respondAs
      h 0x0101 Status.ok 0 (sessionNo u.fw.freeSession
      { fn := BitVec.ofNat 6 h.fn.val, admin := true, tenant := 0, check := BitVec.ofNat 20 (ofLe b) }) (leBytes 4
      u.boot.epoch.toNat ++ [0, 0, 0, 0])))) ∧
(∀ (h : CmdHdr) (rsv : Byte) (tenant : Half) (seq : Word) (sigLen : Word) (sig : List Byte) (r : KeyRun) (c : Call) (s :
      State), callSessionOpen h 2 rsv tenant seq sigLen sig s = c → c.Accepted s → s.insole.trusted = true →
      s.keys.sessionKey tenant = some r → s.fw.open.length < 4096 → (s.fw.open.filter fun p => decide (p.2.fn.toNat =
      h.fn.val)).length < 64 → exec (.sessionOpen h 2 rsv tenant seq sigLen sig) s = .next (c.verified (decide
      (r.attr.type ≠ 0x19)) r.material (s.statement h.fn.val tenant seq) sig (fun sigOk t => if sigOk = false ∨
      seq.toNat < Bank.get 0 s.fw.tenantSeq tenant.toNat then c.fail (Status.verifyFail, 0) t else c.withRandom (c.core
      t) false 4 (fun b u => (u.withFw fun f =>
      { f with sessions := Bank.set none u.fw.freeSession (some { fn := BitVec.ofNat 6 h.fn.val, admin := false, tenant := tenant.setWidth 10, check := BitVec.ofNat 20 (ofLe b) }) f.sessions, tenantSeq := Bank.set 0 tenant.toNat (seq.toNat + 1) f.tenantSeq }).respondAs
      h 0x0101 Status.ok 0 (sessionNo u.fw.freeSession
      { fn := BitVec.ofNat 6 h.fn.val, admin := false, tenant := tenant.setWidth 10, check := BitVec.ofNat 20 (ofLe b) })
      (leBytes 4 u.boot.epoch.toNat ++ [0, 0, 0, 0])) t) s)) ∧
(∀ (h : CmdHdr) (c : Call) (s : State), callSessionClose h = c → c.Accepted s → exec (.sessionClose h) s = .next (c.ok
      [] (s.withFw (Fw.endSession (h.session.toNat % 4096))))) ∧
(∀ (h : CmdHdr) (purpose : Half) (window : Half) (rsv : Word) (digest : BitVec 384) (b : Membership) (c : Call) (s :
      State), callQuorumBegin h purpose window rsv digest = c → c.Accepted s → s.fw.membership = some b → s.fw.quorum =
      none → exec (.quorumBegin h purpose window rsv digest) s = .next (s.draw 36 (fun r u => c.ok (leBytes 4
      (BitVec.ofNat 32 (ofLe (r.take 4))).toNat ++ [BitVec.ofNat 8 (quorumPolicy u b).1, BitVec.ofNat 8 (quorumPolicy u
      b).2, 0, 0] ++ r.drop 4) (u.withFw fun f =>
      { f with quorum := some { qid := BitVec.ofNat 32 (ofLe (r.take 4)), session := h.session, purpose := purpose, digest := digest, m := (quorumPolicy u b).1, n := (quorumPolicy u b).2, challenge := r.drop 4, operators := [], failures := 0, ticket := false } })))) ∧
(∀ (h : CmdHdr) (qid : Word) (source : Byte) (index : Byte) (rsv : Half) (file : Word) (cert : List Byte) (sig : List
      Byte) (q : Quorum) (c : Call) (s : State), callQuorumPresent h qid source index rsv file (.card cert sig) = c →
      c.Accepted s → s.fw.quorum = some q → q.qid = qid → q.ticket = false → source ≠ 2 → s.sourceReady source.toNat
      index.toNat = true → exec (.quorumPresent h qid source index rsv file (.card cert sig)) s = .next (if (s.certOk
      cert && Config.verdict .certVerify [cert, q.challenge, sig]) = true then (if operatorOf cert ∈ q.operators then
      c.respond Status.ok 1 (q.counted ++ leBytes 8 (operatorOf cert).toNat) s else c.ok ([BitVec.ofNat 8
      (q.operators.length + 1), BitVec.ofNat 8 q.m, 0, 0, 0, 0, 0, 0] ++ leBytes 8 (operatorOf cert).toNat) (s.withFw
      fun f => { f with quorum := some { q with operators := q.operators ++ [operatorOf cert] } })) else c.fail
      (Status.verifyFail, 0) (s.withFw fun f =>
      { f with quorum := if 3 ≤ q.failures + 1 then none else some { q with failures := q.failures + 1 } }))) ∧
(∀ (h : CmdHdr) (qid : Word) (source : Byte) (index : Byte) (rsv : Half) (file : Word) (q : Quorum) (c : Call) (s :
      State), callQuorumPresent h qid source index rsv file .absent = c → c.Accepted s → s.fw.quorum = some q → q.qid =
      qid → q.ticket = false → source ≠ 2 → s.sourceReady source.toNat index.toNat = true → exec (.quorumPresent h qid
      source index rsv file .absent) s = .next (c.fail (Status.cardAbsent, credentialCard source index) s)) ∧
(∀ (h : CmdHdr) (qid : Word) (rsv : Word) (q : Quorum) (c : Call) (s : State), callQuorumEnd h qid rsv = c → c.Accepted
      s → s.fw.quorum = some q → q.qid = qid → q.ticket = false → q.m ≤ q.operators.length → exec (.quorumEnd h qid rsv)
      s = .next (c.ok q.counted (s.withFw fun f => { f with quorum := some { q with ticket := true } }))) ∧
(∀ (s : State), exec .quorumWindowEnd s = .next (s.withFw fun f => { f with quorum := f.quorum.filter Quorum.ticket }) ∧
      exec .ticketExpiry s = .next (s.withFw fun f => { f with quorum := f.quorum.filter fun q => !q.ticket }))

/-- The key commands (04 R131, R132; 05 R161-R178). -/
def Obligations.CompleteKeyCommands : Prop :=
(∀ (h : CmdHdr) (t : Attr) (c : Call) (s : State), callKeyGenerate h t s = c → c.Accepted s → createErr s 64 t = none →
      (isAes t.type = true ∨ isHmac t.type = true) → s.rng.freshServes (c.core s) = true → s.rng.buffer ≠ [] →
      s.rng.freshQueue = [] → exec (.keyGenerate h t) s = .next (State.instDraw (c.core s) true (matLenOf t) (fun m v =>
      c.createKey 64 t m [] v) (s.withRng fun r =>
      { r with freshQueue := r.freshQueue.filter fun q => decide (q ≠ .cmd c.hdr.fn.val c.hdr.tag) }))) ∧
(∀ (h : CmdHdr) (t : Attr) (c : Call) (s : State), callKeyGenerate h t s = c → c.Accepted s → createErr s 64 t = none →
      isAes t.type = false → isHmac t.type = false → exec (.keyGenerate h t) s = .next (c.engineOp
      { op := (keygenOp t.type).1, set := (keygenOp t.type).2, template := some t } (c.engineKey 64 []) s)) ∧
(∀ (h : CmdHdr) (wrap : Word) (format : Byte) (rsv : BitVec 24) (t : Attr) (wrappedLen : Word) (rsv2 : Word) (wrapped :
      List Byte) (r : KeyRun) (c : Call) (s : State), callKeyImport h wrap format rsv t wrappedLen rsv2 wrapped s = c →
      c.Accepted s → s.keys.wrapKey wrap (c.owner s) uUNWRAP = .ok r → createErr s 72 t = none → exec (.keyImport h wrap
      format rsv t wrappedLen rsv2 wrapped) s = .next (match (if format = 1 then kwUnwrap r.material (padTo
      wrappedLen.toNat wrapped) else kwpUnwrap r.material (padTo wrappedLen.toNat wrapped)) with
        | none => c.fail (Status.authFail, 0) s
        | some m => (match matErr 0 t m with
        | some e => c.fail (keyDetail 72 e) s
        | none => if isRsaPriv t.type = true ∨ isEcPriv t.type = true ∨ t.type = 0x14 then c.importChecked t m s else
            c.createKey 72 t m [] s))) ∧
(∀ (h : CmdHdr) (handle : Word) (wrap : Word) (format : Byte) (rsv : BitVec 56) (r : KeyRun) (w : KeyRun) (c : Call) (s
      : State), callKeyExport h handle wrap format rsv = c → c.Accepted s → wrap ≠ 0 → s.keys.lookup handle (c.owner s)
      none = .ok r → s.keys.wrapKey wrap (c.owner s) uWRAP = .ok w → exportAllowed r.attr.exportability
      (w.attr.usage.getLsbD uTRUSTED) = true → (format = 1 → 16 ≤ r.material.length ∧ r.material.length % 8 = 0) → exec
      (.keyExport h handle wrap format rsv) s = .next (c.okSized (leBytes 4 (if format = 1 then kwWrap w.material
      r.material else kwpWrap w.material r.material).length ++ [0, 0, 0, 0] ++ (if format = 1 then kwWrap w.material
      r.material else kwpWrap w.material r.material)) s)) ∧
(∀ (h : CmdHdr) (format : Byte) (rsv : BitVec 56) (dk : KeyRun) (dwk : KeyRun) (c : Call) (s : State), callKeyExport h 2
      0 format rsv = c → c.Accepted s → c.owner s = none → s.keys.present 2 = some dk → s.keys.present 1 = some dwk →
      exec (.keyExport h 2 0 format rsv) s = .next (c.okSized (leBytes 4 (blobOf 1 dk dwk.material).length ++ [0, 0, 0,
      0] ++ blobOf 1 dk dwk.material) s)) ∧
(∀ (h : CmdHdr) (handle : Word) (rsv : Word) (r : KeyRun) (c : Call) (s : State), callKeyUnload h handle rsv = c →
      c.Accepted s → s.keys.lookup handle (c.owner s) none = .ok r → exec (.keyUnload h handle rsv) s = .next (c.unload
      (handleSlot handle) [] s)) ∧
(∀ (c : Call) (n : Nat) (body : List Byte) (s : State), s.welt.mirroring = false → c.unload n body s = c.wait (.run n
      none) body (s.withKeys (Keys.mark · n))) ∧
(∀ (h : CmdHdr) (base : Word) (func : Byte) (rsv : Byte) (ctxLen : Half) (t : Attr) (ctx : List Byte) (r : KeyRun) (c :
      Call) (s : State), callKeyDerive h base func rsv ctxLen t ctx s = c → c.Accepted s → func ≠ 1 → deriveBase s.keys
      base func (c.owner s) = .ok r → createErr s 72 t = none → s.rng.freshServes (c.core s) = true → s.rng.buffer ≠ []
      → s.rng.freshQueue = [] → exec (.keyDerive h base func rsv ctxLen t ctx) s = .next (State.instDraw (c.core s) true
      32 (fun _ v => c.withCluster (c.deriveOn func r (padTo ctxLen.toNat ctx) t) v) (s.withRng fun r =>
      { r with freshQueue := r.freshQueue.filter fun q => decide (q ≠ .cmd c.hdr.fn.val c.hdr.tag) }))) ∧
(∀ (h : CmdHdr) (base : Word) (rsv : Byte) (ctxLen : Half) (t : Attr) (ctx : List Byte) (r : KeyRun) (c : Call) (s :
      State), callKeyDerive h base 1 rsv ctxLen t ctx s = c → c.Accepted s → s.boot.phase ≠ .service → deriveBase s.keys
      base 1 (c.owner s) = .ok r → createErr s 72 t = none → s.rng.freshServes (c.core s) = true → s.rng.buffer ≠ [] →
      s.rng.freshQueue = [] → exec (.keyDerive h base 1 rsv ctxLen t ctx) s = .next (State.instDraw (c.core s) true 32
      (fun _ v => if v.digOn = 0 then c.fail (Status.notReady, 4) v else c.deliverKey 72 t (madeMaterial t (hmacKdf
      r.material (padTo ctxLen.toNat ctx) (makeLen t))) v) (s.withRng fun r =>
      { r with freshQueue := r.freshQueue.filter fun q => decide (q ≠ .cmd c.hdr.fn.val c.hdr.tag) }))) ∧
(∀ (c : Call) (func : Byte) (r : KeyRun) (ctx : List Byte) (t : Attr) (n : Nat) (s : State), c.deriveOn func r ctx t n s
      = (match s.derived n func r ctx t with
        | (some d, u) => c.deliverKey 72 t (madeMaterial t d) u
        | (none, u) => c.wait .cipher [] u)) ∧
(∀ (h : CmdHdr) (handle : Word) (rsv : Word) (keyId : Long) (r : KeyRun) (c : Call) (s : State), callKeyDestroy h handle
      rsv keyId = c → c.Accepted s → s.keys.lookup handle (c.owner s) none = .ok r → r.keyId = keyId → s.log.used + 2 ≤
      2048 → exec (.keyDestroy h handle rsv keyId) s = .next (s.draw (Config.freeNat s.freeCount) (fun rec v => match
      c.tooBig (8 + rec.length + 96) with
        | some e => c.fail e v
        | none => c.attested false rec (fun sig w => c.unload (handleSlot handle) (leBytes 4 (rec ++ sig).length ++ [0,
            0, 0, 0] ++ rec ++ sig) (w.withLog fun l => (l.record 0x83 w.insole.rtc (keyId.setWidth 32)).record
            0x84 w.insole.rtc ((keyId >>> 32).setWidth 32))) v))) ∧
(∀ (h : CmdHdr) (handle : Word) (alg : Byte) (rsv : BitVec 24) (nonce : BitVec 256) (r : KeyRun) (c : Call) (s : State),
      callKeyAttest h handle alg rsv nonce = c → c.Accepted s → s.keys.lookup handle (c.owner s) none = .ok r → exec
      (.keyAttest h handle alg rsv nonce) s = .next (s.draw (Config.freeNat s.freeCount) (fun st v => match c.tooBig (8
      + ceilTo 8 st.length + if alg = 1 then 3309 else 96) with
        | some e => c.fail e v
        | none => c.attested (decide (alg = 1)) st (fun sig w => c.ok (leBytes 4 st.length ++ leBytes 4 sig.length ++
            pad8 st ++ sig) w) v))) ∧
(∀ (h : CmdHdr) (handle : Word) (rsv : Word) (r : KeyRun) (c : Call) (s : State), callKeyInfo h handle rsv = c →
      c.Accepted s → s.keys.lookup handle (c.owner s) none = .ok r → exec (.keyInfo h handle rsv) s = .next (c.ok
      (leBytes 8 r.keyId.toNat ++ attrBytes r.attr ++ leBytes 4 r.counter.toNat ++ [0, 0, 0, 0]) s)) ∧
(∀ (c : Call) (off : Nat) (t : Attr) (m pre : List Byte) (n : Nat) (k : Keys) (s : State), s.keys.create s.createEnv t m
      none = .ok (n, k) → s.welt.mirroring = false → c.createKey off t m pre s = c.ok (pre ++ newKeyResult k n)
      (s.withKeys fun _ => k))

/-- The payment commands (04 R133-R135; 05 R176). -/
def Obligations.CompletePaymentCommands : Prop :=
(∀ (h : CmdHdr) (kbpk : Word) (len : Word) (block : List Byte) (r : KeyRun) (c : Call) (s : State), callPayBlockImport h
      kbpk len block = c → c.Accepted s → s.keys.wrapKey kbpk (c.owner s) uKBPK = .ok r → exec (.payBlockImport h kbpk
      len block) s = .next (match blockOpen r.material (padTo len.toNat block) with
        | none => c.fail (Status.authFail, 0) s
        | some key => if (payAttr (padTo len.toNat block) key.length (c.tenant s)).type = 0 then c.fail (invalidAt 79) s
            else (match c.tooBig (newKeyLen (payAttr (padTo len.toNat block) key.length (c.tenant s))) with
        | some e => c.fail e s
        | none => c.createKey 72 (payAttr (padTo len.toNat block) key.length (c.tenant s)) key [] s))) ∧
(∀ (h : CmdHdr) (handle : Word) (kbpk : Word) (optLen : Half) (rsv : BitVec 48) (opt : List Byte) (r : KeyRun) (w :
      KeyRun) (blocks : Nat) (c : Call) (s : State), callPayBlockExport h handle kbpk optLen rsv opt = c → c.Accepted s
      → s.keys.lookup handle (c.owner s) none = .ok r → s.keys.wrapKey kbpk (c.owner s) uKBPK = .ok w → exportAllowed
      r.attr.exportability (w.attr.usage.getLsbD uTRUSTED) = true → isAes r.attr.type = true → (payUsageMode
      r.attr.keyUsage r.attr.mode).isSome = true → r.attr.keyVersion ≠ 0 → optCount (padTo optLen.toNat opt) = some
      blocks → c.tooBig (8 + payBlockLen r.material.length optLen.toNat) = none → exec (.payBlockExport h handle kbpk
      optLen rsv opt) s = .next (s.draw 16 (fun rnd v => c.ok (leBytes 4 (payBlockLen r.material.length optLen.toNat) ++
      [0, 0, 0, 0] ++ blockSeal w.material (blockHead r.attr (payBlockLen r.material.length optLen.toNat) (padTo
      optLen.toNat opt) blocks) r.material rnd) v))) ∧
(∀ (h : CmdHdr) (inH : Word) (outH : Word) (inMode : Byte) (outMode : Byte) (rsv : BitVec 48) (inKsn : BitVec 96)
      (outKsn : BitVec 96) (pan : BitVec 128) (pin : BitVec 128) (a : KeyRun) (b : KeyRun) (c : Call) (s : State),
      callPayPinTranslate h inH outH inMode outMode rsv inKsn outKsn pan pin = c → c.Accepted s → pinKey s.keys inMode
      inH (c.owner s) = .ok a → pinKey s.keys outMode outH (c.owner s) = .ok b → exec (.payPinTranslate h inH outH
      inMode outMode rsv inKsn outKsn pan pin) s = .next (c.withCluster (fun n w => match w.pinIn n inMode a inKsn pan
      pin with
        | (none, u) => c.wait .cipher [] u
        | (some field, u) => if (pinRefill field []).isNone = true then c.fail (invalidAt 0x78) u else c.withRandom
            (c.core w) true 8 (fun rnd v => match v.pinOut n outMode b outKsn pan ((pinRefill field rnd).getD
            []) with
        | (none, x) => c.wait .cipher [] x
        | (some out, x) => c.ok out x) u) s)) ∧
(∀ (c : Call) (k : Nat → State → State) (n : Nat) (s : State), s.cipherOn ≠ 0 → s.fwCore = some n → c.withCluster k s =
      (k n s).dealAll) ∧
(∀ (c : Call) (k : Nat → State → State) (s : State), s.cipherOn = 0 → c.withCluster k s = c.fail (Status.notReady, 4) s)

/-- SIGN, VERIFY, SEAL, UNSEAL, AGREE, ENCAPS and DECAPS (04 R136, R137; 07 R226-R228; 10 R318-R328). -/
def Obligations.CompletePublicKeyCommands : Prop :=
(∀ (h : CmdHdr) (handle : Word) (input : Byte) (rsv : BitVec 24) (len : Word) (rsv2 : Word) (data : List Byte) (r :
      KeyRun) (c : Call) (s : State), callSign h handle input rsv len rsv2 data = c → c.Accepted s → s.keys.lookup
      handle (c.owner s) (some uSIGN) = .ok r → (input = 0 ∨ messageOnly r.attr.type = false) → c.tooBig (8 + sigLenOf
      r.attr.type) = none → exec (.sign h handle input rsv len rsv2 data) s = .next (c.engineOp (signOp r.attr.type
      handle (c.engineTenant s) input (padTo len.toNat data)) (fun e v => if (v.engine e).result = Status.ok then c.ok
      (leBytes 4 (sigLenOf r.attr.type) ++ [0, 0, 0, 0] ++ v.fwOutput e) v else c.engineFail e v) s)) ∧
(∀ (h : CmdHdr) (handle : Word) (input : Byte) (rsv : BitVec 24) (len : Word) (sigLen : Word) (data : List Byte) (sig :
      List Byte) (r : KeyRun) (c : Call) (s : State), callVerify h handle input rsv len sigLen data sig = c → c.Accepted
      s → s.keys.lookup handle (c.owner s) (some uVERIFY) = .ok r → (input = 0 ∨ messageOnly r.attr.type = false) →
      sigLen.toNat = sigLenOf r.attr.type → exec (.verify h handle input rsv len sigLen data sig) s = .next (c.engineOp
      (checkOp r.attr.type handle (c.engineTenant s) input (padTo len.toNat data) (padTo sigLen.toNat sig)) (fun n v =>
      if (v.engine n).result ≠ Status.ok then c.engineFail n v else if isRsaPub r.attr.type = true ∧ Config.verdict
      (.rsaEncode r.attr.type.toNat) [signedDigest r.attr.type input (padTo len.toNat data), v.fwOutput n] = false then
      c.fail (Status.verifyFail, 0) v else c.ok [] v) s)) ∧
(∀ (h : CmdHdr) (handle : Word) (aadLen : Half) (rsv : Half) (dataLen : Word) (rsv2 : Word) (aad : List Byte) (data :
      List Byte) (dev : Half) (core : Nat) (r : KeyRun) (c : Call) (s : State), callSeal h handle aadLen rsv dataLen
      rsv2 aad data = c → c.Accepted s → s.keys.wrapKey handle (c.owner s) uENCRYPT = .ok r → nonceCheck
      s.insole.trusted handle r = none → (s.welt.state ≠ .paired ∧ s.welt.state ≠ .resync) → s.fw.device = some dev →
      s.cipherOn ≠ 0 → s.fwCore = some core → exec (.seal h handle aadLen rsv dataLen rsv2 aad data) s = .next
      (c.withCluster (fun core x => match x.fwGcm core true r (ivBytes (ivBase r.attr.salt s.boot.epoch r.counter |||
      BitVec.ofNat 96 (dev.toNat * 2 ^ 64))) (padTo aadLen.toNat aad) (padTo dataLen.toNat data) with
        | (none, y) => c.wait .cipher [] y
        | (some (ct, tag), y) => c.ok (leBytes 4 (28 + dataLen.toNat) ++ [0, 0, 0, 0] ++ ivBytes (ivBase r.attr.salt
            s.boot.epoch r.counter ||| BitVec.ofNat 96 (dev.toNat * 2 ^ 64)) ++ ct ++ tag) y) (s.withKeys
            (Keys.reserve · (handleSlot handle))))) ∧
(∀ (h : CmdHdr) (handle : Word) (aadLen : Half) (rsv : Half) (sealedLen : Word) (rsv2 : Word) (aad : List Byte) (sealed
      : List Byte) (r : KeyRun) (c : Call) (s : State), callUnseal h handle aadLen rsv sealedLen rsv2 aad sealed = c →
      c.Accepted s → s.keys.wrapKey handle (c.owner s) uDECRYPT = .ok r → exec (.unseal h handle aadLen rsv sealedLen
      rsv2 aad sealed) s = .next (c.withCluster (fun core v => match v.fwGcm core false r ((padTo sealedLen.toNat
      sealed).take 12) (padTo aadLen.toNat aad) (sliceBytes (padTo sealedLen.toNat sealed) 12 (sealedLen.toNat - 28))
      with
        | (none, y) => c.wait .cipher [] y
        | (some (data, tag), y) => if tag = (padTo sealedLen.toNat sealed).drop (12 + (sealedLen.toNat - 28)) then c.ok
            (leBytes 4 (sealedLen.toNat - 28) ++ [0, 0, 0, 0] ++ data) y else c.fail (Status.authFail, 0) y) s)) ∧
(∀ (h : CmdHdr) (handle : Word) (peerLen : Word) (t : Attr) (peer : List Byte) (r : KeyRun) (c : Call) (s : State),
      callAgree h handle peerLen t peer s = c → c.Accepted s → s.keys.lookup handle (c.owner s) (some uAGREE) = .ok r →
      peerLen.toNat = peerLenOf r.attr.type → createErr s 72 t = none → exec (.agree h handle peerLen t peer) s = .next
      (c.engineOp
      { op := if r.attr.type = 0x15 then 0x23 else 0x13, set := engineSet r.attr.type, key := handle, tenant := c.engineTenant s, input := padTo peerLen.toNat peer, template := some t }
      (c.engineKey 72 []) s)) ∧
(∀ (h : CmdHdr) (handle : Word) (rsv : Word) (t : Attr) (r : KeyRun) (c : Call) (s : State), callEncaps h handle rsv t s
      = c → c.Accepted s → s.keys.lookup handle (c.owner s) (some uENCAPS) = .ok r → c.tooBig (8 + kemCt (engineSet
      r.attr.type) + newKeyLen t) = none → createErr s 72 t = none → exec (.encaps h handle rsv t) s = .next (c.engineOp
      { op := 0x31, set := engineSet r.attr.type, key := handle, tenant := c.engineTenant s, template := some t } (fun e
      v => c.engineKey 72 (leBytes 4 (kemCt (engineSet r.attr.type)) ++ [0, 0, 0, 0] ++ v.fwOutput e) e v) s)) ∧
(∀ (h : CmdHdr) (handle : Word) (ctLen : Word) (t : Attr) (ct : List Byte) (r : KeyRun) (c : Call) (s : State),
      callDecaps h handle ctLen t ct s = c → c.Accepted s → s.keys.lookup handle (c.owner s) (some uDECAPS) = .ok r →
      ctLen.toNat = kemCt (engineSet r.attr.type) → createErr s 72 t = none → exec (.decaps h handle ctLen t ct) s =
      .next (c.engineOp
      { op := 0x32, set := engineSet r.attr.type, key := handle, tenant := c.engineTenant s, input := padTo ctLen.toNat ct, template := some t }
      (c.engineKey 72 []) s)) ∧
(∀ (c : Call) (q : FwOp) (k : Nat → State → State) (n : Nat) (s : State), s.engineFree = some n → (pkeVerify q.op.toNat
      = true ∨ pkeKeygen q.op.toNat = false ∧ s.rng.serves (5 + n) = true) → c.engineOp q k s = k n (s.fwEngine n
      (c.core s) q)) ∧
(∀ (c : Call) (dsa : Bool) (d : List Byte) (k : List Byte → State → State) (n : Nat) (s : State), s.engineFree = some n
      → s.rng.serves (5 + n) = true → c.attested dsa d k s = (let t := s.fwEngine n (c.core s) (if dsa = true then
      { op := 0x39, set := 1, key := s.keys.handleOf 7, input := d } else
      { op := 0x11, set := 1, key := s.keys.handleOf 4, input := p384.eBytes (sha384 d) }); if (t.engine n).result =
      Status.ok then k (t.fwOutput n) t else c.engineFail n t))

/-- RING_CREATE to PORT_RELEASE (04 R138, R139; 06 R184-R187, R213, R587; 08 R282-R289; 09 R301). -/
def Obligations.CompleteRingCommands : Prop :=
(∀ (h : CmdHdr) (ring : Half) (fn : Byte) (vector : Byte) (tenant : Half) (size : Byte) (flags : Byte) (desc : Long)
      (cmpl : Long) (shd : Long) (g : Ring) (c : Call) (s : State), callRingCreate h ring fn vector tenant size flags
      desc cmpl shd = c → c.Accepted s → g =
      { fn := fn.setWidth 6, vector := vector.setWidth 5, size := size.setWidth 5, tenant := tenant.setWidth 10, irqEn := flags.getLsbD 0, desc := desc, cmpl := cmpl, shd := shd }
      → s.rings.areaOutside g 72 80 88 = none → (s.rings.get ring.toNat).state = 0 → (g.irqEn = true → 1 ≤ vector.toNat
      ∧ vector.toNat ≤ 31) → (∀ f, s.rings.pageFn (ring.toNat / 512) = some f → f = g.fn) → exec (.ringCreate h ring fn
      vector tenant size flags desc cmpl shd) s = .next (c.okMirrored ((s.rings.updRing ring.toNat fun _ => g.created
      (decide (s.welt.state = .given))).setPage (ring.toNat / 512) (some g.fn) |>.configRec ring.toNat false) []
      (s.withRings fun rs => (rs.updRing ring.toNat fun _ => g.created (decide (s.welt.state = .given))).setPage
      (ring.toNat / 512) (some g.fn)))) ∧
(∀ (h : CmdHdr) (ring : Half) (rsv : BitVec 48) (c : Call) (s : State), callRingDestroy h ring rsv = c → c.Accepted s →
      (s.rings.get ring.toNat).state ≠ 0 → (s.rings.get ring.toNat).state ≠ 3 → s.welt.mirroring = false → exec
      (.ringDestroy h ring rsv) s = .next (c.wait (.drain ring.toNat none) [] (s.destroyRing ring.toNat))) ∧
(∀ (h : CmdHdr) (fn : Byte) (win : Byte) (rsv : BitVec 48) (base : Long) (limit : Long) (c : Call) (s : State),
      callRingWindow h fn win rsv base limit = c → c.Accepted s → (((s.rings.setWindow fn.toNat win.toNat base
      limit).ring.any fun p => decide (p.2.state ≠ 0 ∧ p.2.fn.toNat = fn.toNat) && ((s.rings.setWindow fn.toNat
      win.toNat base limit).areaOutside p.2 0 0 0).isSome) = false) → s.welt.mirroring = false → exec (.ringWindow h fn
      win rsv base limit) s = .next ((c.ok [] s).withRings fun rs => rs.setWindow fn.toNat win.toNat base limit)) ∧
(∀ (h : CmdHdr) (fn : Byte) (win : Byte) (rsv : BitVec 48) (base : Long) (limit : Long) (c : Call) (s : State),
      callRingWindow h fn win rsv base limit = c → c.Accepted s → (((s.rings.setWindow fn.toNat win.toNat base
      limit).ring.any fun p => decide (p.2.state ≠ 0 ∧ p.2.fn.toNat = fn.toNat) && ((s.rings.setWindow fn.toNat
      win.toNat base limit).areaOutside p.2 0 0 0).isSome) = false) → s.welt.mirroring = true → exec (.ringWindow h fn
      win rsv base limit) s = .next (c.wait (.ack s.welt.mirrorSeq) [] (s.sendRecord ((s.rings.setWindow fn.toNat
      win.toNat base limit).windowRec fn.toNat win.toNat)))) ∧
(∀ (h : CmdHdr) (ring : Half) (rsv : BitVec 48) (c : Call) (s : State), callRingStatus h ring rsv = c → c.Accepted s →
      (c.owner s = none ∨ (c.owner s = some ((s.rings.get ring.toNat).tenant.setWidth 16) ∧ (s.rings.get
      ring.toNat).state ≠ 0)) → exec (.ringStatus h ring rsv) s = .next (c.ok (s.rings.record ring.toNat) s)) ∧
(∀ (h : CmdHdr) (port : Byte) (rsv : BitVec 24) (recLen : Word) (r : PortRecord) (c : Call) (s : State), callPortConfig
      h port rsv recLen r = c → c.Accepted s → exec (.portConfig h port rsv recLen r) s = .next (c.okMirrored
      (((((s.abortPort port.toNat).updPort port.toNat (Port.configured r)).roleFrame port.toNat (portActive s
      (s.sole.get port.toNat))).startTraining port.toNat).portRec port.toNat none) [] ((((s.abortPort
      port.toNat).updPort port.toNat (Port.configured r)).roleFrame port.toNat (portActive s (s.sole.get
      port.toNat))).startTraining port.toNat))) ∧
(∀ (h : CmdHdr) (port : Byte) (rsv : BitVec 56) (c : Call) (s : State), callPortStatus h port rsv = c → c.Accepted s →
      exec (.portStatus h port rsv) s = .next (c.ok (portRecord s port.toNat) s)) ∧
(∀ (h : CmdHdr) (port : Byte) (rsv : BitVec 24) (volume : Word) (keyId : Long) (handle : Word) (rsv2 : Word) (i : Nat)
      (r : KeyRun) (c : Call) (s : State), callVolumeBind h port rsv volume keyId handle rsv2 = c → c.Accepted s →
      handle ≠ 0 → s.keys.lookup handle none (some uDECRYPT) = .ok r → r.keyId = keyId → ((s.sole.get
      port.toNat).volIndex (volume.setWidth 24) keyId = some i ∨ (s.sole.get port.toNat).volIndex (volume.setWidth 24)
      keyId = none ∧ (s.sole.get port.toNat).volFree = some i) → exec (.volumeBind h port rsv volume keyId handle rsv2)
      s = .next (c.okMirrored ((s.updPort port.toNat fun p =>
      { p with vols := Bank.set {} i { keyId := keyId, vol := volume.setWidth 24, valid := true, handle := handle } p.vols }).portRec
      port.toNat (some { keyId := keyId, vol := volume.setWidth 24, valid := true, handle := handle })) [] (s.updPort
      port.toNat fun p =>
      { p with vols := Bank.set {} i { keyId := keyId, vol := volume.setWidth 24, valid := true, handle := handle } p.vols }))) ∧
(∀ (h : CmdHdr) (port : Byte) (rsv : BitVec 24) (volume : Word) (keyId : Long) (rsv2 : Word) (i : Nat) (c : Call) (s :
      State), callVolumeBind h port rsv volume keyId 0 rsv2 = c → c.Accepted s → (s.sole.get port.toNat).volIndex
      (volume.setWidth 24) keyId = some i → exec (.volumeBind h port rsv volume keyId 0 rsv2) s = .next (c.okMirrored
      ((s.updPort port.toNat fun p => { p with vols := Bank.set {} i {} p.vols }).portRec port.toNat (some
      { keyId := keyId, vol := volume.setWidth 24 })) [] (s.updPort port.toNat fun p =>
      { p with vols := Bank.set {} i {} p.vols }))) ∧
(∀ (h : CmdHdr) (port : Byte) (rsv : BitVec 56) (c : Call) (s : State), callPortHold h port rsv = c → c.Accepted s →
      exec (.portHold h port rsv) s = .next (c.ok [] (((s.updPort port.toNat fun p =>
      { p with hold := true }).holdWrites port.toNat port.toNat).settleHold port.toNat))) ∧
(∀ (h : CmdHdr) (port : Byte) (rsv : BitVec 56) (c : Call) (s : State), callPortRelease h port rsv = c → c.Accepted s →
      exec (.portRelease h port rsv) s = .next (c.ok [] (((s.updPort port.toNat fun p =>
      { p with hold := false }).sendResume port.toNat 0).settleHold port.toNat))) ∧
(∀ (c : Call) (r : MirrorRec) (body : List Byte) (s : State), s.welt.mirroring = false → c.okMirrored r body s = c.ok
      body s) ∧
(∀ (c : Call) (r : MirrorRec) (body : List Byte) (s : State), s.welt.mirroring = true → c.okMirrored r body s = c.wait
      (.ack s.welt.mirrorSeq) body (s.sendRecord r))

/-- Commands 0x07 and 0x08 (04 R140-R142; 12 R371-R381; 13 R395, R405-R409). -/
def Obligations.CompleteLogCommands : Prop :=
(∀ (h : CmdHdr) (qid : Word) (rsv : Word) (table : List Byte) (c : Call) (s : State), callAlarmTableSet h qid rsv table
      s = c → c.Accepted s → exec (.alarmTableSet h qid rsv table) s = .next (c.ok [] (((c.begun s).withAlarm fun a =>
      { a with resp := tableBank table }).withLog fun l => { l with kept := tableBank table }))) ∧
(∀ (h : CmdHdr) (c : Call) (s : State), callAlarmTableGet h = c → c.Accepted s → exec (.alarmTableGet h) s = .next (c.ok
      ((List.range 64).map fun i => (Bank.get 0 s.alarm.resp i).setWidth 8) s)) ∧
(∀ (h : CmdHdr) (first : Word) (max : Word) (c : Call) (s : State), callLogExport h first max = c → c.Accepted s → exec
      (.logExport h first max) s = .next (c.attested false (exportBody s first max.toNat (h.respCap.toNat - 160)).2.2
      (fun sig u => (c.ok ((exportBody s first max.toNat (h.respCap.toNat - 160)).2.1 ++ sig) u).withLog (Log.exported
      (exportBody s first max.toNat (h.respCap.toNat - 160)).1)) s)) ∧
(∀ (h : CmdHdr) (seq : Word) (rsv : Word) (c : Call) (s : State), callLogRelease h seq rsv = c → c.Accepted s → exec
      (.logRelease h seq rsv) s = .next (c.ok (leBytes 4 ((s.logRelease seq).log.first - 1).toNat ++ [0, 0, 0, 0])
      (s.logRelease seq))) ∧
(∀ (h : CmdHdr) (c : Call) (s : State), callLogStatus h = c → c.Accepted s → exec (.logStatus h) s = .next (c.ok
      (s.log.statusRecord s.alarm.backup) s)) ∧
(∀ (h : CmdHdr) (len : Word) (rsv : Word) (c : Call) (s : State), callRandomGet h len rsv = c → c.Accepted s →
      s.rng.serves (c.poolInst s) = true → exec (.randomGet h len rsv) s = .next (s.instDraw (c.poolInst s) false (min
      16384 len.toNat) (fun bs u => c.ok (bs ++ (u.rng.drawMany (c.poolInst s) (len.toNat - 16384)).1) (u.withRng fun _
      => (u.rng.drawMany (c.poolInst s) (len.toNat - 16384)).2)))) ∧
(∀ (h : CmdHdr) (c : Call) (s : State), callRngStatus h = c → c.Accepted s → exec (.rngStatus h) s = .next (c.ok
      s.rng.record s)) ∧
(∀ (h : CmdHdr) (qid : Word) (rsv : Word) (c : Call) (s : State), callRngAuditEnter h qid rsv s = c → c.Accepted s →
      exec (.rngAuditEnter h qid rsv) s = .next (c.ok [] (nextOr (c.begun s) (exec (.auditSet .machine) (c.begun s))))) ∧
(∀ (h : CmdHdr) (c : Call) (s : State), callRngAuditExit h = c → c.Accepted s → exec (.rngAuditExit h) s = .next (c.ok
      [] (nextOr s (exec (.auditClear .machine) s))))

/-- Commands 0x09 (04 R143, R144; 14 R418, R429-R432; 15 R443-R456). -/
def Obligations.CompleteCardCommands : Prop :=
(∀ (h : CmdHdr) (kind : Byte) (index : Byte) (rsv : BitVec 48) (c : Call) (s : State), callCardStatus h kind index rsv =
      c → c.Accepted s → exec (.cardStatus h kind index rsv) s = .next (c.ok (cardRecord s kind.toNat index.toNat) s)) ∧
(∀ (h : CmdHdr) (port : Byte) (rsv : BitVec 24) (first : Word) (count : Word) (rsv2 : Word) (data : List Byte) (c :
      Call) (s : State), callCardRead h port rsv first count rsv2 (.done data) = c → c.Accepted s → sdErr s port.toNat =
      none → s.cardBusy 0 port.toNat = false → (s.sdPort port.toNat).foreign = false → (s.sdPort port.toNat).outside
      first count = false → (s.sdPort port.toNat).inVoid first count = false → exec (.cardRead h port rsv first count
      rsv2 (.done data)) s = .next (c.sdMove port.toNat false (1026 + first.toNat) (padTo (512 * count.toNat) data)
      (c.ok (padTo (512 * count.toNat) data)) s)) ∧
(∀ (h : CmdHdr) (port : Byte) (rsv : BitVec 24) (first : Word) (count : Word) (rsv2 : Word) (data : List Byte) (back :
      List Byte) (c : Call) (s : State), callCardWrite h port rsv first count rsv2 data (.done back) = c → c.Accepted s
      → (¬ (first = 0xFFFFFFFF ∧ count = 1)) → sdErr s port.toNat = none → s.cardBusy 0 port.toNat = false → (s.sdPort
      port.toNat).wp = false → (s.sdPort port.toNat).foreign = false → (s.sdPort port.toNat).voids.length < 512 →
      (s.sdPort port.toNat).outside first count = false → exec (.cardWrite h port rsv first count rsv2 data (.done
      back)) s = .next (c.sdMove port.toNat true (1026 + first.toNat) (padTo (512 * count.toNat) data) (fun u => c.ok []
      (u.sdRecord port.toNat 2 first count (sha256 (padTo (512 * count.toNat) data)))) (s.sdRecord port.toNat 1 first
      count (sha256 (padTo (512 * count.toNat) data))))) ∧
(∀ (h : CmdHdr) (slot : Byte) (rsv : BitVec 24) (len : Word) (apdu : List Byte) (r : List Byte) (c : Call) (s : State),
      callIccApdu h slot rsv len apdu (.done r) = c → c.Accepted s → s.unitOn (31 + slot.toNat) = true → s.cardBusy 1
      slot.toNat = false → ((s.iccSlot slot.toNat).state = .active ∨ (s.iccSlot slot.toNat).state = .clockStopped) →
      apduLenOk (s.iccSlot slot.toNat).t1 len.toNat = true → exec (.iccApdu h slot rsv len apdu (.done r)) s = .next
      (c.iccMove slot.toNat (padTo len.toNat apdu) (r.take (h.respCap.toNat - 40)) (fun u => c.ok (leBytes 4 (r.take
      (h.respCap.toNat - 40)).length ++ [0, 0, 0, 0] ++ r.take (h.respCap.toNat - 40)) u) s)) ∧
(∀ (h : CmdHdr) (typeB : Bool) (uid : List Byte) (c : Call) (s : State), callBadgePoll h (.found typeB uid) = c →
      c.Accepted s → s.unitOn 33 = true → s.listen.field = false → s.listen.session = false → s.cls.mode = .off → exec
      (.badgePoll h (.found typeB uid)) s = .next (c.ok ([BitVec.ofNat 8 uid.length, 0, 0, 0, 0, 0, 0, 0] ++ padTo 10
      uid ++ List.replicate 6 0) (s.withCls fun x =>
      { (x.found typeB uid).finish Status.ok .off with uid := uid, uidTypeB := typeB }))) ∧
(∀ (h : CmdHdr) (page : Byte) (count : Byte) (rsv : BitVec 48) (data : List Byte) (c : Call) (s : State), callTagPost h
      page count rsv data = c → c.Accepted s → s.pageHeld page.toNat = false → exec (.tagPost h page count rsv data) s =
      .next (c.ok (leBytes 2 ((s.withIns fun r =>
      { r with tagSel := page.setWidth 7, latched := false, staging := bufferOf (padTo 64 data) }).tagCommit).ins.version.toNat
      ++ List.replicate 6 0) ((s.withIns fun r =>
      { r with tagSel := page.setWidth 7, latched := false, staging := bufferOf (padTo 64 data) }).tagCommit))) ∧
(∀ (h : CmdHdr) (first : Byte) (count : Byte) (rsv : BitVec 48) (c : Call) (s : State), callTagReadNotes h first count
      rsv = c → c.Accepted s → (((List.range count.toNat).map fun i => first.toNat + i).any s.pageHeld) = false → exec
      (.tagReadNotes h first count rsv) s = .next (c.ok (((List.range count.toNat).map fun i => first.toNat + i).flatMap
      fun n => leBytes 2 (s.listen.page n).version.toNat ++ List.replicate 6 0 ++ padTo 64 (s.listen.page n).data) s)) ∧
(∀ (h : CmdHdr) (len : Word) (rsv : Word) (blob : List Byte) (c : Call) (s : State), callTagSetAuditKey h len rsv blob =
      c → c.Accepted s → exec (.tagSetAuditKey h len rsv blob) s = .next (match s.keys.loadBlob (padTo len.toNat blob)
      none with
        | .error e => c.fail (keyDetail 72 e) s
        | .ok (n, k) => if (k.present n).any (fun r => decide (r.attr.type = 1 ∧ r.attr.usage = 0xC ∧
            r.attr.exportability = 0)) = true then c.ok [] ((((s.withKeys fun _ => k).withIns fun r =>
            { r with audHdl := k.handleOf n }).audLoad).withKeys (Keys.free · n)) else c.fail (invalidAt 72)
            ((s.withKeys fun _ => k).withKeys (Keys.free · n))))

/-- KEY_LOAD and commands 0x0A (02 R49; 04 R145, R146; 05 R160, R174; 16 R463, R474-R482). -/
def Obligations.CompleteDomainCommands : Prop :=
(∀ (h : CmdHdr) (slot : Half) (rsv : Half) (blobLen : Word) (blob : List Byte) (c : Call) (s : State), callKeyLoad h
      slot rsv blobLen blob = c → c.Accepted s → sliceBytes (padTo blobLen.toNat blob) 0 4 ≠ ascii "CXMB" → blobCls
      (padTo blobLen.toNat blob) = 0 → exec (.keyLoad h slot rsv blobLen blob) s = .next (match s.keys.loadBlob (padTo
      blobLen.toNat blob) (loadSlot slot) with
        | .error e => c.fail (keyDetail 72 e) s
        | .ok (n, k) => c.keyMade n (leBytes 4 (k.handleOf n).toNat ++ [0, 0, 0, 0]) (s.withKeys fun _ => k))) ∧
(∀ (h : CmdHdr) (slot : Half) (rsv : Half) (blobLen : Word) (blob : List Byte) (c : Call) (s : State), callKeyLoad h
      slot rsv blobLen blob = c → c.Accepted s → sliceBytes (padTo blobLen.toNat blob) 0 4 ≠ ascii "CXMB" → blobCls
      (padTo blobLen.toNat blob) = 2 → exec (.keyLoad h slot rsv blobLen blob) s = .next (match s.keys.loadBlob (padTo
      blobLen.toNat blob) (loadSlot slot) with
        | .error e => c.fail (keyDetail 72 e) s
        | .ok (n, k) => (c.ok (leBytes 4 (k.handleOf n).toNat ++ [0, 0, 0, 0]) (s.withKeys fun _ => k)).weltStart)) ∧
(∀ (h : CmdHdr) (slot : Half) (rsv : Half) (blobLen : Word) (blob : List Byte) (c : Call) (s : State), callKeyLoad h
      slot rsv blobLen blob = c → c.Accepted s → sliceBytes (padTo blobLen.toNat blob) 0 4 ≠ ascii "CXMB" → blobCls
      (padTo blobLen.toNat blob) = 1 → exec (.keyLoad h slot rsv blobLen blob) s = .next (match s.keys.loadBlob (padTo
      blobLen.toNat blob) (loadSlot slot) with
        | .error e => if e.status = Status.authFail then (c.fail (keyDetail 72 e) s).toRecovery else c.fail (keyDetail
            72 e) s
        | .ok (n, k) => if s.boot.phase ≠ .recovery ∧ (s.fw.membership.any fun m => decide (blobId (padTo blobLen.toNat
            blob) ≠ m.rootId)) = true then c.fail (invalidAt 80) s else c.ok (leBytes 4 (k.handleOf n).toNat ++
            [0, 0, 0, 0]) (s.withKeys fun _ => k))) ∧
(∀ (h : CmdHdr) (rsv : Half) (blobLen : Word) (blob : List Byte) (c : Call) (s : State), callKeyLoad h 0xFFFF rsv
      blobLen blob = c → c.Accepted s → sliceBytes (padTo blobLen.toNat blob) 0 4 = ascii "CXMB" → firstFail (memberForm
      (padTo blobLen.toNat blob) 68 72) = none → exec (.keyLoad h 0xFFFF rsv blobLen blob) s = .next (c.memberVerified
      (padTo blobLen.toNat blob) 72 (fun e t => match e with
        | some e => if e.1 = Status.verifyFail then (c.fail e t).toRecovery else c.fail e t
        | none => if t.memberOffDk (memberOf (padTo blobLen.toNat blob)) = true then c.fail (invalidAt 184) t else c.ok
            (List.replicate 8 0) (t.withFw fun f =>
            { f with membership := some (memberOf (padTo blobLen.toNat blob)) })) s)) ∧
(∀ (h : CmdHdr) (qid : Word) (mLen : Word) (dLen : Word) (rsv : Word) (m : List Byte) (d : List Byte) (c : Call) (s :
      State), callDomainJoin h qid mLen dLen rsv m d = c → c.Accepted s → exec (.domainJoin h qid mLen dLen rsv m d) s =
      .next (c.memberVerified m 80 (fun e t => match e with
        | some e => c.fail e t
        | none => (match c.tooBig 56 with
        | some e => c.fail e t
        | none => c.withTicket qid (purposeDigest (leBytes 4 mLen.toNat ++ leBytes 4 dLen.toNat ++ leBytes 4 rsv.toNat
            ++ pad8 (padTo mLen.toNat m) ++ pad8 (padTo dLen.toNat d))) (c.engineGrant 0x32 fun n v =>
            v.instDraw (5 + n) false (pkeDrawLen 0x32 2 0x32) (fun _ w => match w.joinUnwrap (padTo 1640 d) with
        | none => c.fail (Status.authFail, 0) w
        | some (dkId, dk) => if dkId ≠ (memberOf m).rootId then c.fail (invalidAt (80 + ceilTo 8 mLen.toNat + 1592)) w
            else c.withRandom 10 true 32 (fun ik u => c.ok (leBytes 2 (memberOf m).device.toNat ++
            List.replicate 6 0 ++ (memberOf m).rootDigest) (u.joined (memberOf m) dkId dk ik)) w)) t)) s)) ∧
(∀ (h : CmdHdr) (device : Half) (rsv : Half) (floor : Word) (sigLen : Word) (rsv2 : Word) (sig : List Byte) (m :
      Membership) (c : Call) (s : State), callEpochFloor h device rsv floor sigLen rsv2 sig = c → c.Accepted s →
      s.insole.trusted = false → s.insole.epoch ≠ 0xFFFFFFFF → floor ≠ 0xFFFFFFFF → s.fw.membership = some m → exec
      (.epochFloor h device rsv floor sigLen rsv2 sig) s = .next (c.rootSigned m (s.floorStatement device floor)
      (sig.take 96) (sliceBytes sig 96 3309) (fun good t => if good = false ∨ m.device ≠ device then c.fail
      (Status.verifyFail, 0) t else c.ok (leBytes 4 (t.applyFloor floor).boot.epoch.toNat ++ [0, 0, 0, 0]) (t.applyFloor
      floor)) s)) ∧
(∀ (c : Call) (m : Membership) (text ec dsa : List Byte) (k : Bool → State → State) (s : State), c.rootSigned m text ec
      dsa k s = c.verified false m.rootEc text ec (fun a t => c.verified true m.rootDsa text dsa (fun b u => k (a && b)
      u) t) s) ∧
(∀ (h : CmdHdr) (qid : Word) (partner : Half) (rsv : Half) (c : Call) (s : State), callPairBind h qid partner rsv = c →
      c.Accepted s → s.fw.device ≠ some partner → s.keys.present 3 = none → (s.keys.present 2).isSome = true →
      s.fw.membership.isSome = true → exec (.pairBind h qid partner rsv) s = .next (c.wait .bind [] (c.begun s))) ∧
(∀ (h : CmdHdr) (c : Call) (s : State), callPairStatus h = c → c.Accepted s → exec (.pairStatus h) s = .next (c.ok
      (pairRecord s) s)) ∧
(∀ (h : CmdHdr) (rsv : BitVec 56) (c : Call) (s : State), callPairHandover h 0 rsv = c → c.Accepted s → s.welt.state =
      .paired → exec (.pairHandover h 0 rsv) s = .next (c.wait (.ack (s.give.welt.mirrorSeq - 1)) [] (s.give.withWelt
      fun w => { w with handover := some false }))) ∧
(∀ (h : CmdHdr) (rsv : BitVec 56) (c : Call) (s : State), callPairHandover h 1 rsv = c → c.Accepted s → s.welt.state =
      .given → exec (.pairHandover h 1 rsv) s = .next (c.wait (.ack ((s.sendDepart 2).welt.mirrorSeq - 1)) []
      ((s.sendDepart 2).withWelt fun w => { w with handover := some true }))) ∧
(∀ (fr : WeltRx) (elapsed : Word) (w : Waiting) (partner : Half) (s : State), s.fw.binding = some (w, partner) →
      s.devNo.toNat < partner.toNat → s.keys.present 3 = none → (s.keys.present 1).isSome = true → s.rng.freshServes
      (s.mbx.route w.hdr.fn.val).core.toNat = true → s.rng.buffer ≠ [] → s.rng.freshQueue = [] → exec (.bind fr elapsed)
      s = .next (s.instDraw (s.mbx.route w.hdr.fn.val).core.toNat true 32 fun key t => (t.weltBoth 0x27 (kwpWrap
      (t.slotMat 2) (bindPlain s.devNo partner key))).bound w key elapsed)) ∧
(∀ (fr : WeltRx) (elapsed : Word) (w : Waiting) (partner : Half) (s : State), s.fw.binding = some (w, partner) →
      partner.toNat < s.devNo.toNat → s.keys.present 3 = none → (s.keys.present 1).isSome = true → s.weltHears fr = true
      → weltCrcOk 0x27 fr = true → exec (.bind fr elapsed) s = .next (match s.bindKey s.devNo partner fr.body with
        | none => s
        | some key => s.bound w key elapsed))

/-- Commands 0x0B and 0x0C (02 R59-R62, R67; 04 R145-R148; 17 R485-R495; 20 R564). -/
def Obligations.CompleteDeviceCommands : Prop :=
(∀ (h : CmdHdr) (c : Call) (s : State), callDeviceInfo h = c → c.Accepted s → s.fw.membership.isSome = true → exec
      (.deviceInfo h) s = .next (c.ok (deviceRecord s) s)) ∧
(∀ (h : CmdHdr) (c : Call) (s : State), callDeviceInfo h = c → c.Accepted s → s.fw.membership = none → exec (.deviceInfo
      h) s = .next (s.draw 2 fun n u => c.ok ((deviceRecord u).take 8 ++ padTo 2 n ++ (deviceRecord u).drop 10) u)) ∧
(∀ (h : CmdHdr) (alg : Byte) (rsv : BitVec 24) (mask : Word) (nonce : BitVec 256) (c : Call) (s : State), callAttestGet
      h alg rsv mask nonce = c → c.Accepted s → exec (.attestGet h alg rsv mask nonce) s = .next (s.draw (Config.freeNat
      s.freeCount) fun ev v => (match c.tooBig (8 + ceilTo 8 ev.length + if alg = 1 then 3309 else 96) with
        | some e => c.fail e v
        | none => c.attested (decide (alg = 1)) ev (fun sig w => c.ok (leBytes 4 ev.length ++ leBytes 4 sig.length ++
            pad8 ev ++ sig) w) v))) ∧
(∀ (h : CmdHdr) (index : Byte) (rsv : BitVec 56) (c : Call) (s : State), callMeasRead h index rsv = c → c.Accepted s →
      exec (.measRead h index rsv) s = .next (c.ok ([(Bank.get {} s.dig.meas index.toNat : MeasReg).alg] ++
      List.replicate 7 0 ++ (Bank.get {} s.dig.meas index.toNat : MeasReg).value) s)) ∧
(∀ (h : CmdHdr) (qid : Word) (len : Word) (p : List Byte) (c : Call) (s : State), callExtLoad h qid len p s = c →
      c.Accepted s → isDecodePackage qid p = false → exec (.extLoad h qid len p) s = .next (match firstFail
      [(!Config.verdict .extSigned [(padTo len.toNat p)], (Status.verifyFail, (0 : Word))), (s.badVersion ((Config.out
      .extVersion [(padTo len.toNat p)] 1).headD 0), invalidAt 72)] with
        | some e => c.fail e s
        | none => c.moduleId (State.installModule false ((Config.out .extVersion [(padTo len.toNat p)] 1).headD 0) []
            (padTo len.toNat p)) s)) ∧
(∀ (h : CmdHdr) (qid : Word) (len : Word) (p : List Byte) (m : Membership) (c : Call) (s : State), callExtLoad h qid len
      p s = c → c.Accepted s → isDecodePackage qid p = true → s.fw.membership = some m → exec (.extLoad h qid len p) s =
      .next (c.rootSigned m ((padTo len.toNat p).take (packageSigned (padTo len.toNat p))) (sliceBytes (padTo len.toNat
      p) (packageSigned (padTo len.toNat p)) 96) (sliceBytes (padTo len.toNat p) (packageSigned (padTo len.toNat p) +
      96) 3309) (fun good t => match firstFail ((!good, (Status.verifyFail, (0 : Word))) :: packageContent t (padTo
      len.toNat p)) with
        | some e => c.fail e t
        | none => (match c.tooBig 8 with
        | some e => c.fail e t
        | none => c.withTicket qid (purposeDigest (leBytes 4 len.toNat ++ pad8 (padTo len.toNat p))) (c.moduleId
            (State.installPackage (padTo len.toNat p))) t)) s)) ∧
(∀ (c : Call) (k : State → State) (s : State), c.tooBig 8 = none → c.moduleId k s = c.ok (leBytes 4
      s.fw.nextModule.toNat ++ [0, 0, 0, 0]) (k s)) ∧
(∀ (h : CmdHdr) (moduleId : Word) (rsv : Word) (m : Module) (c : Call) (s : State), callExtUnload h moduleId rsv = c →
      c.Accepted s → (s.fw.modules.find? fun m => decide (m.id = moduleId)) = some m → exec (.extUnload h moduleId rsv)
      s = .next (c.ok [] ((s.retable fun b => m.ops.foldl (fun b o => clearEntry o b) b).withFw fun f =>
      { f with modules := f.modules.filter fun x => !decide (x.id = moduleId) }))) ∧
(∀ (h : CmdHdr) (addr : Long) (len : Word) (rsv : Word) (c : Call) (s : State), callFwStage h addr len rsv = c →
      c.Accepted s → len ≠ 0 → len.toNat ≤ 0x400000 → addr.toNat + len.toNat ≤ 2 ^ 64 → exec (.fwStage h addr len rsv) s
      = .next (c.wait .stage [] s)) ∧
(∀ (h : CmdHdr) (qid : Word) (which : Byte) (value : Byte) (rsv : Half) (c : Call) (s : State), callFloorRaise h qid
      which value rsv = c → c.Accepted s → value.toNat ≤ 64 → (which = 0 → value.toNat ≤ s.boot.fwVer.toNat) → (which =
      1 → value.toNat ≤ s.boot.cobVer.toNat) → exec (.floorRaise h qid which value rsv) s = .next (c.ok [] ((c.begun
      s).withPins fun p => if which = 0 then { p with fwFloor := max p.fwFloor value.toNat } else if which = 1 then
      { p with cobFloor := max p.cobFloor value.toNat } else { p with extFloor := max p.extFloor value.toNat }))) ∧
(∀ (h : CmdHdr) (rsv : BitVec 56) (c : Call) (s : State), callPhaseAdvance h 2 rsv = c → c.Accepted s → s.boot.phase =
      .start → s.insole.ik.isSome = true → s.fw.membership.isSome = true → exec (.phaseAdvance h 2 rsv) s = .next (c.ok
      [] (s.setPhase .service))) ∧
(∀ (h : CmdHdr) (rsv : BitVec 56) (c : Call) (s : State), callPhaseAdvance h 3 rsv = c → c.Accepted s → s.boot.phase =
      .start → s.pins.lifecycle = .test → exec (.phaseAdvance h 3 rsv) s = .next (c.ok [] (s.setPhase .test))) ∧
(∀ (h : CmdHdr) (rsv : BitVec 56) (c : Call) (s : State), callPhaseAdvance h 2 rsv = c → c.Accepted s → s.boot.phase =
      .recovery → s.fw.joined = true → exec (.phaseAdvance h 2 rsv) s = .next (c.ok [] (s.setPhase .service))) ∧
(∀ (h : CmdHdr) (target : Byte) (rsv : BitVec 56) (c : Call) (s : State), callPhaseAdvance h target rsv = c → c.Accepted
      s → s.boot.phase = .recovery → target ≠ 2 → exec (.phaseAdvance h target rsv) s = .next (c.fail (Status.phase,
      phaseDetail s) s)) ∧
(∀ (h : CmdHdr) (shadows : List (Fin 16384 × Long)) (c : Call) (s : State), callShelfDown h shadows = c → c.Accepted s →
      s.welt.confirmed = false → exec (.shelfDown h shadows) s = .next (c.wait .shelf [] ((s.withRings fun rs =>
      shadows.foldl (fun (x : Rings) p => x.updRing p.1.val fun g => if g.state = 1 ∨ g.state = 2 ∨ g.state = 4 then
      g.shadow p.2 else g) rs).withBoot fun b => { b with shelfDown := true }))) ∧
(∀ (h : CmdHdr) (shadows : List (Fin 16384 × Long)) (c : Call) (s : State), callShelfDown h shadows = c → c.Accepted s →
      s.welt.confirmed = true → exec (.shelfDown h shadows) s = .next (c.wait .shelf [] (((s.withRings fun rs =>
      shadows.foldl (fun (x : Rings) p => x.updRing p.1.val fun g => if g.state = 1 ∨ g.state = 2 ∨ g.state = 4 then
      g.shadow p.2 else g) rs).withBoot fun b => { b with shelfDown := true }).sendDepart 0))) ∧
(∀ (h : CmdHdr) (index : Half) (rsv : BitVec 48) (c : Call) (s : State), callSensorRead h index rsv = c → c.Accepted s →
      exec (.sensorRead h index rsv) s = .next (c.ok (sensorRecord s index.toNat) s)) ∧
(∀ (h : CmdHdr) (first : Word) (max : Word) (c : Call) (s : State), callEventRead h first max = c → c.Accepted s → exec
      (.eventRead h first max) s = .next (c.respond Status.ok (eventsLost s.cob first) (eventBody s.cob first (min
      max.toNat ((h.respCap.toNat - 40) / 24))) s)) ∧
(∀ (h : CmdHdr) (map : Long) (addr : Byte) (rsv : BitVec 24) (chainLen : Word) (chain : List Byte) (c : Call) (s :
      State), callMgtConfig h map addr rsv chainLen chain = c → c.Accepted s → (s.boot.phase = .service → (map >>>
      24).toNat % 8 = (s.cob.unitEn >>> 24).toNat % 8) → exec (.mgtConfig h map addr rsv chainLen chain) s = .next (if
      chainLen ≠ 0 ∧ s.chainOk (padTo chainLen.toNat chain) = false then c.fail (Status.verifyFail, 0) s else c.ok
      (leBytes 8 map.toNat ++ List.replicate 8 0) ((s.withCob fun x =>
      { x with unitEn := map, smbus := addr.setWidth 7, mgtEn := true, chain := padTo chainLen.toNat chain }).applyUnits)))
end

