-- ==== Sys2Proof/Laws/State.lean ====
section
/-! SUPPORT. What each update of the state does to each field: one lemma for each, true by definition. -/

namespace Sys2Proof.Machine

variable (s : State)

section withPending
variable (g : List Instr → List Instr)
@[simp] theorem State.withPending_pending : (s.withPending g).pending = g s.pending := rfl
@[simp] theorem State.withPending_freeCount : (s.withPending g).freeCount = s.freeCount := rfl
@[simp] theorem State.withPending_out : (s.withPending g).out = s.out := rfl
@[simp] theorem State.withPending_mem : (s.withPending g).mem = s.mem := rfl
@[simp] theorem State.withPending_pins : (s.withPending g).pins = s.pins := rfl
@[simp] theorem State.withPending_boot : (s.withPending g).boot = s.boot := rfl
@[simp] theorem State.withPending_pcie : (s.withPending g).pcie = s.pcie := rfl
@[simp] theorem State.withPending_mbx : (s.withPending g).mbx = s.mbx := rfl
@[simp] theorem State.withPending_fw : (s.withPending g).fw = s.fw := rfl
@[simp] theorem State.withPending_keys : (s.withPending g).keys = s.keys := rfl
@[simp] theorem State.withPending_rings : (s.withPending g).rings = s.rings := rfl
@[simp] theorem State.withPending_cipher : (s.withPending g).cipher = s.cipher := rfl
@[simp] theorem State.withPending_sole : (s.withPending g).sole = s.sole := rfl
@[simp] theorem State.withPending_pke : (s.withPending g).pke = s.pke := rfl
@[simp] theorem State.withPending_dig : (s.withPending g).dig = s.dig := rfl
@[simp] theorem State.withPending_rng : (s.withPending g).rng = s.rng := rfl
@[simp] theorem State.withPending_alarm : (s.withPending g).alarm = s.alarm := rfl
@[simp] theorem State.withPending_log : (s.withPending g).log = s.log := rfl
@[simp] theorem State.withPending_insole : (s.withPending g).insole = s.insole := rfl
@[simp] theorem State.withPending_ins : (s.withPending g).ins = s.ins := rfl
@[simp] theorem State.withPending_listen : (s.withPending g).listen = s.listen := rfl
@[simp] theorem State.withPending_cls : (s.withPending g).cls = s.cls := rfl
@[simp] theorem State.withPending_cards : (s.withPending g).cards = s.cards := rfl
@[simp] theorem State.withPending_welt : (s.withPending g).welt = s.welt := rfl
@[simp] theorem State.withPending_cob : (s.withPending g).cob = s.cob := rfl
@[simp] theorem State.withPending_cores : (s.withPending g).cores = s.cores := rfl
@[simp] theorem State.withPending_mpus : (s.withPending g).mpus = s.mpus := rfl
end withPending

section withFreeCount
variable (g : Nat → Nat)
@[simp] theorem State.withFreeCount_pending : (s.withFreeCount g).pending = s.pending := rfl
@[simp] theorem State.withFreeCount_freeCount : (s.withFreeCount g).freeCount = g s.freeCount := rfl
@[simp] theorem State.withFreeCount_out : (s.withFreeCount g).out = s.out := rfl
@[simp] theorem State.withFreeCount_mem : (s.withFreeCount g).mem = s.mem := rfl
@[simp] theorem State.withFreeCount_pins : (s.withFreeCount g).pins = s.pins := rfl
@[simp] theorem State.withFreeCount_boot : (s.withFreeCount g).boot = s.boot := rfl
@[simp] theorem State.withFreeCount_pcie : (s.withFreeCount g).pcie = s.pcie := rfl
@[simp] theorem State.withFreeCount_mbx : (s.withFreeCount g).mbx = s.mbx := rfl
@[simp] theorem State.withFreeCount_fw : (s.withFreeCount g).fw = s.fw := rfl
@[simp] theorem State.withFreeCount_keys : (s.withFreeCount g).keys = s.keys := rfl
@[simp] theorem State.withFreeCount_rings : (s.withFreeCount g).rings = s.rings := rfl
@[simp] theorem State.withFreeCount_cipher : (s.withFreeCount g).cipher = s.cipher := rfl
@[simp] theorem State.withFreeCount_sole : (s.withFreeCount g).sole = s.sole := rfl
@[simp] theorem State.withFreeCount_pke : (s.withFreeCount g).pke = s.pke := rfl
@[simp] theorem State.withFreeCount_dig : (s.withFreeCount g).dig = s.dig := rfl
@[simp] theorem State.withFreeCount_rng : (s.withFreeCount g).rng = s.rng := rfl
@[simp] theorem State.withFreeCount_alarm : (s.withFreeCount g).alarm = s.alarm := rfl
@[simp] theorem State.withFreeCount_log : (s.withFreeCount g).log = s.log := rfl
@[simp] theorem State.withFreeCount_insole : (s.withFreeCount g).insole = s.insole := rfl
@[simp] theorem State.withFreeCount_ins : (s.withFreeCount g).ins = s.ins := rfl
@[simp] theorem State.withFreeCount_listen : (s.withFreeCount g).listen = s.listen := rfl
@[simp] theorem State.withFreeCount_cls : (s.withFreeCount g).cls = s.cls := rfl
@[simp] theorem State.withFreeCount_cards : (s.withFreeCount g).cards = s.cards := rfl
@[simp] theorem State.withFreeCount_welt : (s.withFreeCount g).welt = s.welt := rfl
@[simp] theorem State.withFreeCount_cob : (s.withFreeCount g).cob = s.cob := rfl
@[simp] theorem State.withFreeCount_cores : (s.withFreeCount g).cores = s.cores := rfl
@[simp] theorem State.withFreeCount_mpus : (s.withFreeCount g).mpus = s.mpus := rfl
end withFreeCount

section withOut
variable (g : Out → Out)
@[simp] theorem State.withOut_pending : (s.withOut g).pending = s.pending := rfl
@[simp] theorem State.withOut_freeCount : (s.withOut g).freeCount = s.freeCount := rfl
@[simp] theorem State.withOut_out : (s.withOut g).out = g s.out := rfl
@[simp] theorem State.withOut_mem : (s.withOut g).mem = s.mem := rfl
@[simp] theorem State.withOut_pins : (s.withOut g).pins = s.pins := rfl
@[simp] theorem State.withOut_boot : (s.withOut g).boot = s.boot := rfl
@[simp] theorem State.withOut_pcie : (s.withOut g).pcie = s.pcie := rfl
@[simp] theorem State.withOut_mbx : (s.withOut g).mbx = s.mbx := rfl
@[simp] theorem State.withOut_fw : (s.withOut g).fw = s.fw := rfl
@[simp] theorem State.withOut_keys : (s.withOut g).keys = s.keys := rfl
@[simp] theorem State.withOut_rings : (s.withOut g).rings = s.rings := rfl
@[simp] theorem State.withOut_cipher : (s.withOut g).cipher = s.cipher := rfl
@[simp] theorem State.withOut_sole : (s.withOut g).sole = s.sole := rfl
@[simp] theorem State.withOut_pke : (s.withOut g).pke = s.pke := rfl
@[simp] theorem State.withOut_dig : (s.withOut g).dig = s.dig := rfl
@[simp] theorem State.withOut_rng : (s.withOut g).rng = s.rng := rfl
@[simp] theorem State.withOut_alarm : (s.withOut g).alarm = s.alarm := rfl
@[simp] theorem State.withOut_log : (s.withOut g).log = s.log := rfl
@[simp] theorem State.withOut_insole : (s.withOut g).insole = s.insole := rfl
@[simp] theorem State.withOut_ins : (s.withOut g).ins = s.ins := rfl
@[simp] theorem State.withOut_listen : (s.withOut g).listen = s.listen := rfl
@[simp] theorem State.withOut_cls : (s.withOut g).cls = s.cls := rfl
@[simp] theorem State.withOut_cards : (s.withOut g).cards = s.cards := rfl
@[simp] theorem State.withOut_welt : (s.withOut g).welt = s.welt := rfl
@[simp] theorem State.withOut_cob : (s.withOut g).cob = s.cob := rfl
@[simp] theorem State.withOut_cores : (s.withOut g).cores = s.cores := rfl
@[simp] theorem State.withOut_mpus : (s.withOut g).mpus = s.mpus := rfl
end withOut

section withMem
variable (g : Mem → Mem)
@[simp] theorem State.withMem_pending : (s.withMem g).pending = s.pending := rfl
@[simp] theorem State.withMem_freeCount : (s.withMem g).freeCount = s.freeCount := rfl
@[simp] theorem State.withMem_out : (s.withMem g).out = s.out := rfl
@[simp] theorem State.withMem_mem : (s.withMem g).mem = g s.mem := rfl
@[simp] theorem State.withMem_pins : (s.withMem g).pins = s.pins := rfl
@[simp] theorem State.withMem_boot : (s.withMem g).boot = s.boot := rfl
@[simp] theorem State.withMem_pcie : (s.withMem g).pcie = s.pcie := rfl
@[simp] theorem State.withMem_mbx : (s.withMem g).mbx = s.mbx := rfl
@[simp] theorem State.withMem_fw : (s.withMem g).fw = s.fw := rfl
@[simp] theorem State.withMem_keys : (s.withMem g).keys = s.keys := rfl
@[simp] theorem State.withMem_rings : (s.withMem g).rings = s.rings := rfl
@[simp] theorem State.withMem_cipher : (s.withMem g).cipher = s.cipher := rfl
@[simp] theorem State.withMem_sole : (s.withMem g).sole = s.sole := rfl
@[simp] theorem State.withMem_pke : (s.withMem g).pke = s.pke := rfl
@[simp] theorem State.withMem_dig : (s.withMem g).dig = s.dig := rfl
@[simp] theorem State.withMem_rng : (s.withMem g).rng = s.rng := rfl
@[simp] theorem State.withMem_alarm : (s.withMem g).alarm = s.alarm := rfl
@[simp] theorem State.withMem_log : (s.withMem g).log = s.log := rfl
@[simp] theorem State.withMem_insole : (s.withMem g).insole = s.insole := rfl
@[simp] theorem State.withMem_ins : (s.withMem g).ins = s.ins := rfl
@[simp] theorem State.withMem_listen : (s.withMem g).listen = s.listen := rfl
@[simp] theorem State.withMem_cls : (s.withMem g).cls = s.cls := rfl
@[simp] theorem State.withMem_cards : (s.withMem g).cards = s.cards := rfl
@[simp] theorem State.withMem_welt : (s.withMem g).welt = s.welt := rfl
@[simp] theorem State.withMem_cob : (s.withMem g).cob = s.cob := rfl
@[simp] theorem State.withMem_cores : (s.withMem g).cores = s.cores := rfl
@[simp] theorem State.withMem_mpus : (s.withMem g).mpus = s.mpus := rfl
end withMem

section withPins
variable (g : Pins → Pins)
@[simp] theorem State.withPins_pending : (s.withPins g).pending = s.pending := rfl
@[simp] theorem State.withPins_freeCount : (s.withPins g).freeCount = s.freeCount := rfl
@[simp] theorem State.withPins_out : (s.withPins g).out = s.out := rfl
@[simp] theorem State.withPins_mem : (s.withPins g).mem = s.mem := rfl
@[simp] theorem State.withPins_pins : (s.withPins g).pins = g s.pins := rfl
@[simp] theorem State.withPins_boot : (s.withPins g).boot = s.boot := rfl
@[simp] theorem State.withPins_pcie : (s.withPins g).pcie = s.pcie := rfl
@[simp] theorem State.withPins_mbx : (s.withPins g).mbx = s.mbx := rfl
@[simp] theorem State.withPins_fw : (s.withPins g).fw = s.fw := rfl
@[simp] theorem State.withPins_keys : (s.withPins g).keys = s.keys := rfl
@[simp] theorem State.withPins_rings : (s.withPins g).rings = s.rings := rfl
@[simp] theorem State.withPins_cipher : (s.withPins g).cipher = s.cipher := rfl
@[simp] theorem State.withPins_sole : (s.withPins g).sole = s.sole := rfl
@[simp] theorem State.withPins_pke : (s.withPins g).pke = s.pke := rfl
@[simp] theorem State.withPins_dig : (s.withPins g).dig = s.dig := rfl
@[simp] theorem State.withPins_rng : (s.withPins g).rng = s.rng := rfl
@[simp] theorem State.withPins_alarm : (s.withPins g).alarm = s.alarm := rfl
@[simp] theorem State.withPins_log : (s.withPins g).log = s.log := rfl
@[simp] theorem State.withPins_insole : (s.withPins g).insole = s.insole := rfl
@[simp] theorem State.withPins_ins : (s.withPins g).ins = s.ins := rfl
@[simp] theorem State.withPins_listen : (s.withPins g).listen = s.listen := rfl
@[simp] theorem State.withPins_cls : (s.withPins g).cls = s.cls := rfl
@[simp] theorem State.withPins_cards : (s.withPins g).cards = s.cards := rfl
@[simp] theorem State.withPins_welt : (s.withPins g).welt = s.welt := rfl
@[simp] theorem State.withPins_cob : (s.withPins g).cob = s.cob := rfl
@[simp] theorem State.withPins_cores : (s.withPins g).cores = s.cores := rfl
@[simp] theorem State.withPins_mpus : (s.withPins g).mpus = s.mpus := rfl
end withPins

section withBoot
variable (g : Boot → Boot)
@[simp] theorem State.withBoot_pending : (s.withBoot g).pending = s.pending := rfl
@[simp] theorem State.withBoot_freeCount : (s.withBoot g).freeCount = s.freeCount := rfl
@[simp] theorem State.withBoot_out : (s.withBoot g).out = s.out := rfl
@[simp] theorem State.withBoot_mem : (s.withBoot g).mem = s.mem := rfl
@[simp] theorem State.withBoot_pins : (s.withBoot g).pins = s.pins := rfl
@[simp] theorem State.withBoot_boot : (s.withBoot g).boot = g s.boot := rfl
@[simp] theorem State.withBoot_pcie : (s.withBoot g).pcie = s.pcie := rfl
@[simp] theorem State.withBoot_mbx : (s.withBoot g).mbx = s.mbx := rfl
@[simp] theorem State.withBoot_fw : (s.withBoot g).fw = s.fw := rfl
@[simp] theorem State.withBoot_keys : (s.withBoot g).keys = s.keys := rfl
@[simp] theorem State.withBoot_rings : (s.withBoot g).rings = s.rings := rfl
@[simp] theorem State.withBoot_cipher : (s.withBoot g).cipher = s.cipher := rfl
@[simp] theorem State.withBoot_sole : (s.withBoot g).sole = s.sole := rfl
@[simp] theorem State.withBoot_pke : (s.withBoot g).pke = s.pke := rfl
@[simp] theorem State.withBoot_dig : (s.withBoot g).dig = s.dig := rfl
@[simp] theorem State.withBoot_rng : (s.withBoot g).rng = s.rng := rfl
@[simp] theorem State.withBoot_alarm : (s.withBoot g).alarm = s.alarm := rfl
@[simp] theorem State.withBoot_log : (s.withBoot g).log = s.log := rfl
@[simp] theorem State.withBoot_insole : (s.withBoot g).insole = s.insole := rfl
@[simp] theorem State.withBoot_ins : (s.withBoot g).ins = s.ins := rfl
@[simp] theorem State.withBoot_listen : (s.withBoot g).listen = s.listen := rfl
@[simp] theorem State.withBoot_cls : (s.withBoot g).cls = s.cls := rfl
@[simp] theorem State.withBoot_cards : (s.withBoot g).cards = s.cards := rfl
@[simp] theorem State.withBoot_welt : (s.withBoot g).welt = s.welt := rfl
@[simp] theorem State.withBoot_cob : (s.withBoot g).cob = s.cob := rfl
@[simp] theorem State.withBoot_cores : (s.withBoot g).cores = s.cores := rfl
@[simp] theorem State.withBoot_mpus : (s.withBoot g).mpus = s.mpus := rfl
end withBoot

section withPcie
variable (g : Pcie → Pcie)
@[simp] theorem State.withPcie_pending : (s.withPcie g).pending = s.pending := rfl
@[simp] theorem State.withPcie_freeCount : (s.withPcie g).freeCount = s.freeCount := rfl
@[simp] theorem State.withPcie_out : (s.withPcie g).out = s.out := rfl
@[simp] theorem State.withPcie_mem : (s.withPcie g).mem = s.mem := rfl
@[simp] theorem State.withPcie_pins : (s.withPcie g).pins = s.pins := rfl
@[simp] theorem State.withPcie_boot : (s.withPcie g).boot = s.boot := rfl
@[simp] theorem State.withPcie_pcie : (s.withPcie g).pcie = g s.pcie := rfl
@[simp] theorem State.withPcie_mbx : (s.withPcie g).mbx = s.mbx := rfl
@[simp] theorem State.withPcie_fw : (s.withPcie g).fw = s.fw := rfl
@[simp] theorem State.withPcie_keys : (s.withPcie g).keys = s.keys := rfl
@[simp] theorem State.withPcie_rings : (s.withPcie g).rings = s.rings := rfl
@[simp] theorem State.withPcie_cipher : (s.withPcie g).cipher = s.cipher := rfl
@[simp] theorem State.withPcie_sole : (s.withPcie g).sole = s.sole := rfl
@[simp] theorem State.withPcie_pke : (s.withPcie g).pke = s.pke := rfl
@[simp] theorem State.withPcie_dig : (s.withPcie g).dig = s.dig := rfl
@[simp] theorem State.withPcie_rng : (s.withPcie g).rng = s.rng := rfl
@[simp] theorem State.withPcie_alarm : (s.withPcie g).alarm = s.alarm := rfl
@[simp] theorem State.withPcie_log : (s.withPcie g).log = s.log := rfl
@[simp] theorem State.withPcie_insole : (s.withPcie g).insole = s.insole := rfl
@[simp] theorem State.withPcie_ins : (s.withPcie g).ins = s.ins := rfl
@[simp] theorem State.withPcie_listen : (s.withPcie g).listen = s.listen := rfl
@[simp] theorem State.withPcie_cls : (s.withPcie g).cls = s.cls := rfl
@[simp] theorem State.withPcie_cards : (s.withPcie g).cards = s.cards := rfl
@[simp] theorem State.withPcie_welt : (s.withPcie g).welt = s.welt := rfl
@[simp] theorem State.withPcie_cob : (s.withPcie g).cob = s.cob := rfl
@[simp] theorem State.withPcie_cores : (s.withPcie g).cores = s.cores := rfl
@[simp] theorem State.withPcie_mpus : (s.withPcie g).mpus = s.mpus := rfl
end withPcie

section withMbx
variable (g : Mbx → Mbx)
@[simp] theorem State.withMbx_pending : (s.withMbx g).pending = s.pending := rfl
@[simp] theorem State.withMbx_freeCount : (s.withMbx g).freeCount = s.freeCount := rfl
@[simp] theorem State.withMbx_out : (s.withMbx g).out = s.out := rfl
@[simp] theorem State.withMbx_mem : (s.withMbx g).mem = s.mem := rfl
@[simp] theorem State.withMbx_pins : (s.withMbx g).pins = s.pins := rfl
@[simp] theorem State.withMbx_boot : (s.withMbx g).boot = s.boot := rfl
@[simp] theorem State.withMbx_pcie : (s.withMbx g).pcie = s.pcie := rfl
@[simp] theorem State.withMbx_mbx : (s.withMbx g).mbx = g s.mbx := rfl
@[simp] theorem State.withMbx_fw : (s.withMbx g).fw = s.fw := rfl
@[simp] theorem State.withMbx_keys : (s.withMbx g).keys = s.keys := rfl
@[simp] theorem State.withMbx_rings : (s.withMbx g).rings = s.rings := rfl
@[simp] theorem State.withMbx_cipher : (s.withMbx g).cipher = s.cipher := rfl
@[simp] theorem State.withMbx_sole : (s.withMbx g).sole = s.sole := rfl
@[simp] theorem State.withMbx_pke : (s.withMbx g).pke = s.pke := rfl
@[simp] theorem State.withMbx_dig : (s.withMbx g).dig = s.dig := rfl
@[simp] theorem State.withMbx_rng : (s.withMbx g).rng = s.rng := rfl
@[simp] theorem State.withMbx_alarm : (s.withMbx g).alarm = s.alarm := rfl
@[simp] theorem State.withMbx_log : (s.withMbx g).log = s.log := rfl
@[simp] theorem State.withMbx_insole : (s.withMbx g).insole = s.insole := rfl
@[simp] theorem State.withMbx_ins : (s.withMbx g).ins = s.ins := rfl
@[simp] theorem State.withMbx_listen : (s.withMbx g).listen = s.listen := rfl
@[simp] theorem State.withMbx_cls : (s.withMbx g).cls = s.cls := rfl
@[simp] theorem State.withMbx_cards : (s.withMbx g).cards = s.cards := rfl
@[simp] theorem State.withMbx_welt : (s.withMbx g).welt = s.welt := rfl
@[simp] theorem State.withMbx_cob : (s.withMbx g).cob = s.cob := rfl
@[simp] theorem State.withMbx_cores : (s.withMbx g).cores = s.cores := rfl
@[simp] theorem State.withMbx_mpus : (s.withMbx g).mpus = s.mpus := rfl
end withMbx

section withFw
variable (g : Fw → Fw)
@[simp] theorem State.withFw_pending : (s.withFw g).pending = s.pending := rfl
@[simp] theorem State.withFw_freeCount : (s.withFw g).freeCount = s.freeCount := rfl
@[simp] theorem State.withFw_out : (s.withFw g).out = s.out := rfl
@[simp] theorem State.withFw_mem : (s.withFw g).mem = s.mem := rfl
@[simp] theorem State.withFw_pins : (s.withFw g).pins = s.pins := rfl
@[simp] theorem State.withFw_boot : (s.withFw g).boot = s.boot := rfl
@[simp] theorem State.withFw_pcie : (s.withFw g).pcie = s.pcie := rfl
@[simp] theorem State.withFw_mbx : (s.withFw g).mbx = s.mbx := rfl
@[simp] theorem State.withFw_fw : (s.withFw g).fw = g s.fw := rfl
@[simp] theorem State.withFw_keys : (s.withFw g).keys = s.keys := rfl
@[simp] theorem State.withFw_rings : (s.withFw g).rings = s.rings := rfl
@[simp] theorem State.withFw_cipher : (s.withFw g).cipher = s.cipher := rfl
@[simp] theorem State.withFw_sole : (s.withFw g).sole = s.sole := rfl
@[simp] theorem State.withFw_pke : (s.withFw g).pke = s.pke := rfl
@[simp] theorem State.withFw_dig : (s.withFw g).dig = s.dig := rfl
@[simp] theorem State.withFw_rng : (s.withFw g).rng = s.rng := rfl
@[simp] theorem State.withFw_alarm : (s.withFw g).alarm = s.alarm := rfl
@[simp] theorem State.withFw_log : (s.withFw g).log = s.log := rfl
@[simp] theorem State.withFw_insole : (s.withFw g).insole = s.insole := rfl
@[simp] theorem State.withFw_ins : (s.withFw g).ins = s.ins := rfl
@[simp] theorem State.withFw_listen : (s.withFw g).listen = s.listen := rfl
@[simp] theorem State.withFw_cls : (s.withFw g).cls = s.cls := rfl
@[simp] theorem State.withFw_cards : (s.withFw g).cards = s.cards := rfl
@[simp] theorem State.withFw_welt : (s.withFw g).welt = s.welt := rfl
@[simp] theorem State.withFw_cob : (s.withFw g).cob = s.cob := rfl
@[simp] theorem State.withFw_cores : (s.withFw g).cores = s.cores := rfl
@[simp] theorem State.withFw_mpus : (s.withFw g).mpus = s.mpus := rfl
end withFw

section withKeys
variable (g : Keys → Keys)
@[simp] theorem State.withKeys_pending : (s.withKeys g).pending = s.pending := rfl
@[simp] theorem State.withKeys_freeCount : (s.withKeys g).freeCount = s.freeCount := rfl
@[simp] theorem State.withKeys_out : (s.withKeys g).out = s.out := rfl
@[simp] theorem State.withKeys_mem : (s.withKeys g).mem = s.mem := rfl
@[simp] theorem State.withKeys_pins : (s.withKeys g).pins = s.pins := rfl
@[simp] theorem State.withKeys_boot : (s.withKeys g).boot = s.boot := rfl
@[simp] theorem State.withKeys_pcie : (s.withKeys g).pcie = s.pcie := rfl
@[simp] theorem State.withKeys_mbx : (s.withKeys g).mbx = s.mbx := rfl
@[simp] theorem State.withKeys_fw : (s.withKeys g).fw = s.fw := rfl
@[simp] theorem State.withKeys_keys : (s.withKeys g).keys = g s.keys := rfl
@[simp] theorem State.withKeys_rings : (s.withKeys g).rings = s.rings := rfl
@[simp] theorem State.withKeys_cipher : (s.withKeys g).cipher = s.cipher := rfl
@[simp] theorem State.withKeys_sole : (s.withKeys g).sole = s.sole := rfl
@[simp] theorem State.withKeys_pke : (s.withKeys g).pke = s.pke := rfl
@[simp] theorem State.withKeys_dig : (s.withKeys g).dig = s.dig := rfl
@[simp] theorem State.withKeys_rng : (s.withKeys g).rng = s.rng := rfl
@[simp] theorem State.withKeys_alarm : (s.withKeys g).alarm = s.alarm := rfl
@[simp] theorem State.withKeys_log : (s.withKeys g).log = s.log := rfl
@[simp] theorem State.withKeys_insole : (s.withKeys g).insole = s.insole := rfl
@[simp] theorem State.withKeys_ins : (s.withKeys g).ins = s.ins := rfl
@[simp] theorem State.withKeys_listen : (s.withKeys g).listen = s.listen := rfl
@[simp] theorem State.withKeys_cls : (s.withKeys g).cls = s.cls := rfl
@[simp] theorem State.withKeys_cards : (s.withKeys g).cards = s.cards := rfl
@[simp] theorem State.withKeys_welt : (s.withKeys g).welt = s.welt := rfl
@[simp] theorem State.withKeys_cob : (s.withKeys g).cob = s.cob := rfl
@[simp] theorem State.withKeys_cores : (s.withKeys g).cores = s.cores := rfl
@[simp] theorem State.withKeys_mpus : (s.withKeys g).mpus = s.mpus := rfl
end withKeys

section withRings
variable (g : Rings → Rings)
@[simp] theorem State.withRings_pending : (s.withRings g).pending = s.pending := rfl
@[simp] theorem State.withRings_freeCount : (s.withRings g).freeCount = s.freeCount := rfl
@[simp] theorem State.withRings_out : (s.withRings g).out = s.out := rfl
@[simp] theorem State.withRings_mem : (s.withRings g).mem = s.mem := rfl
@[simp] theorem State.withRings_pins : (s.withRings g).pins = s.pins := rfl
@[simp] theorem State.withRings_boot : (s.withRings g).boot = s.boot := rfl
@[simp] theorem State.withRings_pcie : (s.withRings g).pcie = s.pcie := rfl
@[simp] theorem State.withRings_mbx : (s.withRings g).mbx = s.mbx := rfl
@[simp] theorem State.withRings_fw : (s.withRings g).fw = s.fw := rfl
@[simp] theorem State.withRings_keys : (s.withRings g).keys = s.keys := rfl
@[simp] theorem State.withRings_rings : (s.withRings g).rings = g s.rings := rfl
@[simp] theorem State.withRings_cipher : (s.withRings g).cipher = s.cipher := rfl
@[simp] theorem State.withRings_sole : (s.withRings g).sole = s.sole := rfl
@[simp] theorem State.withRings_pke : (s.withRings g).pke = s.pke := rfl
@[simp] theorem State.withRings_dig : (s.withRings g).dig = s.dig := rfl
@[simp] theorem State.withRings_rng : (s.withRings g).rng = s.rng := rfl
@[simp] theorem State.withRings_alarm : (s.withRings g).alarm = s.alarm := rfl
@[simp] theorem State.withRings_log : (s.withRings g).log = s.log := rfl
@[simp] theorem State.withRings_insole : (s.withRings g).insole = s.insole := rfl
@[simp] theorem State.withRings_ins : (s.withRings g).ins = s.ins := rfl
@[simp] theorem State.withRings_listen : (s.withRings g).listen = s.listen := rfl
@[simp] theorem State.withRings_cls : (s.withRings g).cls = s.cls := rfl
@[simp] theorem State.withRings_cards : (s.withRings g).cards = s.cards := rfl
@[simp] theorem State.withRings_welt : (s.withRings g).welt = s.welt := rfl
@[simp] theorem State.withRings_cob : (s.withRings g).cob = s.cob := rfl
@[simp] theorem State.withRings_cores : (s.withRings g).cores = s.cores := rfl
@[simp] theorem State.withRings_mpus : (s.withRings g).mpus = s.mpus := rfl
end withRings

section withCipher
variable (g : Cipher → Cipher)
@[simp] theorem State.withCipher_pending : (s.withCipher g).pending = s.pending := rfl
@[simp] theorem State.withCipher_freeCount : (s.withCipher g).freeCount = s.freeCount := rfl
@[simp] theorem State.withCipher_out : (s.withCipher g).out = s.out := rfl
@[simp] theorem State.withCipher_mem : (s.withCipher g).mem = s.mem := rfl
@[simp] theorem State.withCipher_pins : (s.withCipher g).pins = s.pins := rfl
@[simp] theorem State.withCipher_boot : (s.withCipher g).boot = s.boot := rfl
@[simp] theorem State.withCipher_pcie : (s.withCipher g).pcie = s.pcie := rfl
@[simp] theorem State.withCipher_mbx : (s.withCipher g).mbx = s.mbx := rfl
@[simp] theorem State.withCipher_fw : (s.withCipher g).fw = s.fw := rfl
@[simp] theorem State.withCipher_keys : (s.withCipher g).keys = s.keys := rfl
@[simp] theorem State.withCipher_rings : (s.withCipher g).rings = s.rings := rfl
@[simp] theorem State.withCipher_cipher : (s.withCipher g).cipher = g s.cipher := rfl
@[simp] theorem State.withCipher_sole : (s.withCipher g).sole = s.sole := rfl
@[simp] theorem State.withCipher_pke : (s.withCipher g).pke = s.pke := rfl
@[simp] theorem State.withCipher_dig : (s.withCipher g).dig = s.dig := rfl
@[simp] theorem State.withCipher_rng : (s.withCipher g).rng = s.rng := rfl
@[simp] theorem State.withCipher_alarm : (s.withCipher g).alarm = s.alarm := rfl
@[simp] theorem State.withCipher_log : (s.withCipher g).log = s.log := rfl
@[simp] theorem State.withCipher_insole : (s.withCipher g).insole = s.insole := rfl
@[simp] theorem State.withCipher_ins : (s.withCipher g).ins = s.ins := rfl
@[simp] theorem State.withCipher_listen : (s.withCipher g).listen = s.listen := rfl
@[simp] theorem State.withCipher_cls : (s.withCipher g).cls = s.cls := rfl
@[simp] theorem State.withCipher_cards : (s.withCipher g).cards = s.cards := rfl
@[simp] theorem State.withCipher_welt : (s.withCipher g).welt = s.welt := rfl
@[simp] theorem State.withCipher_cob : (s.withCipher g).cob = s.cob := rfl
@[simp] theorem State.withCipher_cores : (s.withCipher g).cores = s.cores := rfl
@[simp] theorem State.withCipher_mpus : (s.withCipher g).mpus = s.mpus := rfl
end withCipher

section withSole
variable (g : Sole → Sole)
@[simp] theorem State.withSole_pending : (s.withSole g).pending = s.pending := rfl
@[simp] theorem State.withSole_freeCount : (s.withSole g).freeCount = s.freeCount := rfl
@[simp] theorem State.withSole_out : (s.withSole g).out = s.out := rfl
@[simp] theorem State.withSole_mem : (s.withSole g).mem = s.mem := rfl
@[simp] theorem State.withSole_pins : (s.withSole g).pins = s.pins := rfl
@[simp] theorem State.withSole_boot : (s.withSole g).boot = s.boot := rfl
@[simp] theorem State.withSole_pcie : (s.withSole g).pcie = s.pcie := rfl
@[simp] theorem State.withSole_mbx : (s.withSole g).mbx = s.mbx := rfl
@[simp] theorem State.withSole_fw : (s.withSole g).fw = s.fw := rfl
@[simp] theorem State.withSole_keys : (s.withSole g).keys = s.keys := rfl
@[simp] theorem State.withSole_rings : (s.withSole g).rings = s.rings := rfl
@[simp] theorem State.withSole_cipher : (s.withSole g).cipher = s.cipher := rfl
@[simp] theorem State.withSole_sole : (s.withSole g).sole = g s.sole := rfl
@[simp] theorem State.withSole_pke : (s.withSole g).pke = s.pke := rfl
@[simp] theorem State.withSole_dig : (s.withSole g).dig = s.dig := rfl
@[simp] theorem State.withSole_rng : (s.withSole g).rng = s.rng := rfl
@[simp] theorem State.withSole_alarm : (s.withSole g).alarm = s.alarm := rfl
@[simp] theorem State.withSole_log : (s.withSole g).log = s.log := rfl
@[simp] theorem State.withSole_insole : (s.withSole g).insole = s.insole := rfl
@[simp] theorem State.withSole_ins : (s.withSole g).ins = s.ins := rfl
@[simp] theorem State.withSole_listen : (s.withSole g).listen = s.listen := rfl
@[simp] theorem State.withSole_cls : (s.withSole g).cls = s.cls := rfl
@[simp] theorem State.withSole_cards : (s.withSole g).cards = s.cards := rfl
@[simp] theorem State.withSole_welt : (s.withSole g).welt = s.welt := rfl
@[simp] theorem State.withSole_cob : (s.withSole g).cob = s.cob := rfl
@[simp] theorem State.withSole_cores : (s.withSole g).cores = s.cores := rfl
@[simp] theorem State.withSole_mpus : (s.withSole g).mpus = s.mpus := rfl
end withSole

section withPke
variable (g : Bank PkeEngine → Bank PkeEngine)
@[simp] theorem State.withPke_pending : (s.withPke g).pending = s.pending := rfl
@[simp] theorem State.withPke_freeCount : (s.withPke g).freeCount = s.freeCount := rfl
@[simp] theorem State.withPke_out : (s.withPke g).out = s.out := rfl
@[simp] theorem State.withPke_mem : (s.withPke g).mem = s.mem := rfl
@[simp] theorem State.withPke_pins : (s.withPke g).pins = s.pins := rfl
@[simp] theorem State.withPke_boot : (s.withPke g).boot = s.boot := rfl
@[simp] theorem State.withPke_pcie : (s.withPke g).pcie = s.pcie := rfl
@[simp] theorem State.withPke_mbx : (s.withPke g).mbx = s.mbx := rfl
@[simp] theorem State.withPke_fw : (s.withPke g).fw = s.fw := rfl
@[simp] theorem State.withPke_keys : (s.withPke g).keys = s.keys := rfl
@[simp] theorem State.withPke_rings : (s.withPke g).rings = s.rings := rfl
@[simp] theorem State.withPke_cipher : (s.withPke g).cipher = s.cipher := rfl
@[simp] theorem State.withPke_sole : (s.withPke g).sole = s.sole := rfl
@[simp] theorem State.withPke_pke : (s.withPke g).pke = g s.pke := rfl
@[simp] theorem State.withPke_dig : (s.withPke g).dig = s.dig := rfl
@[simp] theorem State.withPke_rng : (s.withPke g).rng = s.rng := rfl
@[simp] theorem State.withPke_alarm : (s.withPke g).alarm = s.alarm := rfl
@[simp] theorem State.withPke_log : (s.withPke g).log = s.log := rfl
@[simp] theorem State.withPke_insole : (s.withPke g).insole = s.insole := rfl
@[simp] theorem State.withPke_ins : (s.withPke g).ins = s.ins := rfl
@[simp] theorem State.withPke_listen : (s.withPke g).listen = s.listen := rfl
@[simp] theorem State.withPke_cls : (s.withPke g).cls = s.cls := rfl
@[simp] theorem State.withPke_cards : (s.withPke g).cards = s.cards := rfl
@[simp] theorem State.withPke_welt : (s.withPke g).welt = s.welt := rfl
@[simp] theorem State.withPke_cob : (s.withPke g).cob = s.cob := rfl
@[simp] theorem State.withPke_cores : (s.withPke g).cores = s.cores := rfl
@[simp] theorem State.withPke_mpus : (s.withPke g).mpus = s.mpus := rfl
end withPke

section withDig
variable (g : Dig → Dig)
@[simp] theorem State.withDig_pending : (s.withDig g).pending = s.pending := rfl
@[simp] theorem State.withDig_freeCount : (s.withDig g).freeCount = s.freeCount := rfl
@[simp] theorem State.withDig_out : (s.withDig g).out = s.out := rfl
@[simp] theorem State.withDig_mem : (s.withDig g).mem = s.mem := rfl
@[simp] theorem State.withDig_pins : (s.withDig g).pins = s.pins := rfl
@[simp] theorem State.withDig_boot : (s.withDig g).boot = s.boot := rfl
@[simp] theorem State.withDig_pcie : (s.withDig g).pcie = s.pcie := rfl
@[simp] theorem State.withDig_mbx : (s.withDig g).mbx = s.mbx := rfl
@[simp] theorem State.withDig_fw : (s.withDig g).fw = s.fw := rfl
@[simp] theorem State.withDig_keys : (s.withDig g).keys = s.keys := rfl
@[simp] theorem State.withDig_rings : (s.withDig g).rings = s.rings := rfl
@[simp] theorem State.withDig_cipher : (s.withDig g).cipher = s.cipher := rfl
@[simp] theorem State.withDig_sole : (s.withDig g).sole = s.sole := rfl
@[simp] theorem State.withDig_pke : (s.withDig g).pke = s.pke := rfl
@[simp] theorem State.withDig_dig : (s.withDig g).dig = g s.dig := rfl
@[simp] theorem State.withDig_rng : (s.withDig g).rng = s.rng := rfl
@[simp] theorem State.withDig_alarm : (s.withDig g).alarm = s.alarm := rfl
@[simp] theorem State.withDig_log : (s.withDig g).log = s.log := rfl
@[simp] theorem State.withDig_insole : (s.withDig g).insole = s.insole := rfl
@[simp] theorem State.withDig_ins : (s.withDig g).ins = s.ins := rfl
@[simp] theorem State.withDig_listen : (s.withDig g).listen = s.listen := rfl
@[simp] theorem State.withDig_cls : (s.withDig g).cls = s.cls := rfl
@[simp] theorem State.withDig_cards : (s.withDig g).cards = s.cards := rfl
@[simp] theorem State.withDig_welt : (s.withDig g).welt = s.welt := rfl
@[simp] theorem State.withDig_cob : (s.withDig g).cob = s.cob := rfl
@[simp] theorem State.withDig_cores : (s.withDig g).cores = s.cores := rfl
@[simp] theorem State.withDig_mpus : (s.withDig g).mpus = s.mpus := rfl
end withDig

section withRng
variable (g : Rng → Rng)
@[simp] theorem State.withRng_pending : (s.withRng g).pending = s.pending := rfl
@[simp] theorem State.withRng_freeCount : (s.withRng g).freeCount = s.freeCount := rfl
@[simp] theorem State.withRng_out : (s.withRng g).out = s.out := rfl
@[simp] theorem State.withRng_mem : (s.withRng g).mem = s.mem := rfl
@[simp] theorem State.withRng_pins : (s.withRng g).pins = s.pins := rfl
@[simp] theorem State.withRng_boot : (s.withRng g).boot = s.boot := rfl
@[simp] theorem State.withRng_pcie : (s.withRng g).pcie = s.pcie := rfl
@[simp] theorem State.withRng_mbx : (s.withRng g).mbx = s.mbx := rfl
@[simp] theorem State.withRng_fw : (s.withRng g).fw = s.fw := rfl
@[simp] theorem State.withRng_keys : (s.withRng g).keys = s.keys := rfl
@[simp] theorem State.withRng_rings : (s.withRng g).rings = s.rings := rfl
@[simp] theorem State.withRng_cipher : (s.withRng g).cipher = s.cipher := rfl
@[simp] theorem State.withRng_sole : (s.withRng g).sole = s.sole := rfl
@[simp] theorem State.withRng_pke : (s.withRng g).pke = s.pke := rfl
@[simp] theorem State.withRng_dig : (s.withRng g).dig = s.dig := rfl
@[simp] theorem State.withRng_rng : (s.withRng g).rng = g s.rng := rfl
@[simp] theorem State.withRng_alarm : (s.withRng g).alarm = s.alarm := rfl
@[simp] theorem State.withRng_log : (s.withRng g).log = s.log := rfl
@[simp] theorem State.withRng_insole : (s.withRng g).insole = s.insole := rfl
@[simp] theorem State.withRng_ins : (s.withRng g).ins = s.ins := rfl
@[simp] theorem State.withRng_listen : (s.withRng g).listen = s.listen := rfl
@[simp] theorem State.withRng_cls : (s.withRng g).cls = s.cls := rfl
@[simp] theorem State.withRng_cards : (s.withRng g).cards = s.cards := rfl
@[simp] theorem State.withRng_welt : (s.withRng g).welt = s.welt := rfl
@[simp] theorem State.withRng_cob : (s.withRng g).cob = s.cob := rfl
@[simp] theorem State.withRng_cores : (s.withRng g).cores = s.cores := rfl
@[simp] theorem State.withRng_mpus : (s.withRng g).mpus = s.mpus := rfl
end withRng

section withAlarm
variable (g : Alarm → Alarm)
@[simp] theorem State.withAlarm_pending : (s.withAlarm g).pending = s.pending := rfl
@[simp] theorem State.withAlarm_freeCount : (s.withAlarm g).freeCount = s.freeCount := rfl
@[simp] theorem State.withAlarm_out : (s.withAlarm g).out = s.out := rfl
@[simp] theorem State.withAlarm_mem : (s.withAlarm g).mem = s.mem := rfl
@[simp] theorem State.withAlarm_pins : (s.withAlarm g).pins = s.pins := rfl
@[simp] theorem State.withAlarm_boot : (s.withAlarm g).boot = s.boot := rfl
@[simp] theorem State.withAlarm_pcie : (s.withAlarm g).pcie = s.pcie := rfl
@[simp] theorem State.withAlarm_mbx : (s.withAlarm g).mbx = s.mbx := rfl
@[simp] theorem State.withAlarm_fw : (s.withAlarm g).fw = s.fw := rfl
@[simp] theorem State.withAlarm_keys : (s.withAlarm g).keys = s.keys := rfl
@[simp] theorem State.withAlarm_rings : (s.withAlarm g).rings = s.rings := rfl
@[simp] theorem State.withAlarm_cipher : (s.withAlarm g).cipher = s.cipher := rfl
@[simp] theorem State.withAlarm_sole : (s.withAlarm g).sole = s.sole := rfl
@[simp] theorem State.withAlarm_pke : (s.withAlarm g).pke = s.pke := rfl
@[simp] theorem State.withAlarm_dig : (s.withAlarm g).dig = s.dig := rfl
@[simp] theorem State.withAlarm_rng : (s.withAlarm g).rng = s.rng := rfl
@[simp] theorem State.withAlarm_alarm : (s.withAlarm g).alarm = g s.alarm := rfl
@[simp] theorem State.withAlarm_log : (s.withAlarm g).log = s.log := rfl
@[simp] theorem State.withAlarm_insole : (s.withAlarm g).insole = s.insole := rfl
@[simp] theorem State.withAlarm_ins : (s.withAlarm g).ins = s.ins := rfl
@[simp] theorem State.withAlarm_listen : (s.withAlarm g).listen = s.listen := rfl
@[simp] theorem State.withAlarm_cls : (s.withAlarm g).cls = s.cls := rfl
@[simp] theorem State.withAlarm_cards : (s.withAlarm g).cards = s.cards := rfl
@[simp] theorem State.withAlarm_welt : (s.withAlarm g).welt = s.welt := rfl
@[simp] theorem State.withAlarm_cob : (s.withAlarm g).cob = s.cob := rfl
@[simp] theorem State.withAlarm_cores : (s.withAlarm g).cores = s.cores := rfl
@[simp] theorem State.withAlarm_mpus : (s.withAlarm g).mpus = s.mpus := rfl
end withAlarm

section withLog
variable (g : Log → Log)
@[simp] theorem State.withLog_pending : (s.withLog g).pending = s.pending := rfl
@[simp] theorem State.withLog_freeCount : (s.withLog g).freeCount = s.freeCount := rfl
@[simp] theorem State.withLog_out : (s.withLog g).out = s.out := rfl
@[simp] theorem State.withLog_mem : (s.withLog g).mem = s.mem := rfl
@[simp] theorem State.withLog_pins : (s.withLog g).pins = s.pins := rfl
@[simp] theorem State.withLog_boot : (s.withLog g).boot = s.boot := rfl
@[simp] theorem State.withLog_pcie : (s.withLog g).pcie = s.pcie := rfl
@[simp] theorem State.withLog_mbx : (s.withLog g).mbx = s.mbx := rfl
@[simp] theorem State.withLog_fw : (s.withLog g).fw = s.fw := rfl
@[simp] theorem State.withLog_keys : (s.withLog g).keys = s.keys := rfl
@[simp] theorem State.withLog_rings : (s.withLog g).rings = s.rings := rfl
@[simp] theorem State.withLog_cipher : (s.withLog g).cipher = s.cipher := rfl
@[simp] theorem State.withLog_sole : (s.withLog g).sole = s.sole := rfl
@[simp] theorem State.withLog_pke : (s.withLog g).pke = s.pke := rfl
@[simp] theorem State.withLog_dig : (s.withLog g).dig = s.dig := rfl
@[simp] theorem State.withLog_rng : (s.withLog g).rng = s.rng := rfl
@[simp] theorem State.withLog_alarm : (s.withLog g).alarm = s.alarm := rfl
@[simp] theorem State.withLog_log : (s.withLog g).log = g s.log := rfl
@[simp] theorem State.withLog_insole : (s.withLog g).insole = s.insole := rfl
@[simp] theorem State.withLog_ins : (s.withLog g).ins = s.ins := rfl
@[simp] theorem State.withLog_listen : (s.withLog g).listen = s.listen := rfl
@[simp] theorem State.withLog_cls : (s.withLog g).cls = s.cls := rfl
@[simp] theorem State.withLog_cards : (s.withLog g).cards = s.cards := rfl
@[simp] theorem State.withLog_welt : (s.withLog g).welt = s.welt := rfl
@[simp] theorem State.withLog_cob : (s.withLog g).cob = s.cob := rfl
@[simp] theorem State.withLog_cores : (s.withLog g).cores = s.cores := rfl
@[simp] theorem State.withLog_mpus : (s.withLog g).mpus = s.mpus := rfl
end withLog

section withInsole
variable (g : Insole → Insole)
@[simp] theorem State.withInsole_pending : (s.withInsole g).pending = s.pending := rfl
@[simp] theorem State.withInsole_freeCount : (s.withInsole g).freeCount = s.freeCount := rfl
@[simp] theorem State.withInsole_out : (s.withInsole g).out = s.out := rfl
@[simp] theorem State.withInsole_mem : (s.withInsole g).mem = s.mem := rfl
@[simp] theorem State.withInsole_pins : (s.withInsole g).pins = s.pins := rfl
@[simp] theorem State.withInsole_boot : (s.withInsole g).boot = s.boot := rfl
@[simp] theorem State.withInsole_pcie : (s.withInsole g).pcie = s.pcie := rfl
@[simp] theorem State.withInsole_mbx : (s.withInsole g).mbx = s.mbx := rfl
@[simp] theorem State.withInsole_fw : (s.withInsole g).fw = s.fw := rfl
@[simp] theorem State.withInsole_keys : (s.withInsole g).keys = s.keys := rfl
@[simp] theorem State.withInsole_rings : (s.withInsole g).rings = s.rings := rfl
@[simp] theorem State.withInsole_cipher : (s.withInsole g).cipher = s.cipher := rfl
@[simp] theorem State.withInsole_sole : (s.withInsole g).sole = s.sole := rfl
@[simp] theorem State.withInsole_pke : (s.withInsole g).pke = s.pke := rfl
@[simp] theorem State.withInsole_dig : (s.withInsole g).dig = s.dig := rfl
@[simp] theorem State.withInsole_rng : (s.withInsole g).rng = s.rng := rfl
@[simp] theorem State.withInsole_alarm : (s.withInsole g).alarm = s.alarm := rfl
@[simp] theorem State.withInsole_log : (s.withInsole g).log = s.log := rfl
@[simp] theorem State.withInsole_insole : (s.withInsole g).insole = g s.insole := rfl
@[simp] theorem State.withInsole_ins : (s.withInsole g).ins = s.ins := rfl
@[simp] theorem State.withInsole_listen : (s.withInsole g).listen = s.listen := rfl
@[simp] theorem State.withInsole_cls : (s.withInsole g).cls = s.cls := rfl
@[simp] theorem State.withInsole_cards : (s.withInsole g).cards = s.cards := rfl
@[simp] theorem State.withInsole_welt : (s.withInsole g).welt = s.welt := rfl
@[simp] theorem State.withInsole_cob : (s.withInsole g).cob = s.cob := rfl
@[simp] theorem State.withInsole_cores : (s.withInsole g).cores = s.cores := rfl
@[simp] theorem State.withInsole_mpus : (s.withInsole g).mpus = s.mpus := rfl
end withInsole

section withIns
variable (g : InsReg → InsReg)
@[simp] theorem State.withIns_pending : (s.withIns g).pending = s.pending := rfl
@[simp] theorem State.withIns_freeCount : (s.withIns g).freeCount = s.freeCount := rfl
@[simp] theorem State.withIns_out : (s.withIns g).out = s.out := rfl
@[simp] theorem State.withIns_mem : (s.withIns g).mem = s.mem := rfl
@[simp] theorem State.withIns_pins : (s.withIns g).pins = s.pins := rfl
@[simp] theorem State.withIns_boot : (s.withIns g).boot = s.boot := rfl
@[simp] theorem State.withIns_pcie : (s.withIns g).pcie = s.pcie := rfl
@[simp] theorem State.withIns_mbx : (s.withIns g).mbx = s.mbx := rfl
@[simp] theorem State.withIns_fw : (s.withIns g).fw = s.fw := rfl
@[simp] theorem State.withIns_keys : (s.withIns g).keys = s.keys := rfl
@[simp] theorem State.withIns_rings : (s.withIns g).rings = s.rings := rfl
@[simp] theorem State.withIns_cipher : (s.withIns g).cipher = s.cipher := rfl
@[simp] theorem State.withIns_sole : (s.withIns g).sole = s.sole := rfl
@[simp] theorem State.withIns_pke : (s.withIns g).pke = s.pke := rfl
@[simp] theorem State.withIns_dig : (s.withIns g).dig = s.dig := rfl
@[simp] theorem State.withIns_rng : (s.withIns g).rng = s.rng := rfl
@[simp] theorem State.withIns_alarm : (s.withIns g).alarm = s.alarm := rfl
@[simp] theorem State.withIns_log : (s.withIns g).log = s.log := rfl
@[simp] theorem State.withIns_insole : (s.withIns g).insole = s.insole := rfl
@[simp] theorem State.withIns_ins : (s.withIns g).ins = g s.ins := rfl
@[simp] theorem State.withIns_listen : (s.withIns g).listen = s.listen := rfl
@[simp] theorem State.withIns_cls : (s.withIns g).cls = s.cls := rfl
@[simp] theorem State.withIns_cards : (s.withIns g).cards = s.cards := rfl
@[simp] theorem State.withIns_welt : (s.withIns g).welt = s.welt := rfl
@[simp] theorem State.withIns_cob : (s.withIns g).cob = s.cob := rfl
@[simp] theorem State.withIns_cores : (s.withIns g).cores = s.cores := rfl
@[simp] theorem State.withIns_mpus : (s.withIns g).mpus = s.mpus := rfl
end withIns

section withListen
variable (g : Listen → Listen)
@[simp] theorem State.withListen_pending : (s.withListen g).pending = s.pending := rfl
@[simp] theorem State.withListen_freeCount : (s.withListen g).freeCount = s.freeCount := rfl
@[simp] theorem State.withListen_out : (s.withListen g).out = s.out := rfl
@[simp] theorem State.withListen_mem : (s.withListen g).mem = s.mem := rfl
@[simp] theorem State.withListen_pins : (s.withListen g).pins = s.pins := rfl
@[simp] theorem State.withListen_boot : (s.withListen g).boot = s.boot := rfl
@[simp] theorem State.withListen_pcie : (s.withListen g).pcie = s.pcie := rfl
@[simp] theorem State.withListen_mbx : (s.withListen g).mbx = s.mbx := rfl
@[simp] theorem State.withListen_fw : (s.withListen g).fw = s.fw := rfl
@[simp] theorem State.withListen_keys : (s.withListen g).keys = s.keys := rfl
@[simp] theorem State.withListen_rings : (s.withListen g).rings = s.rings := rfl
@[simp] theorem State.withListen_cipher : (s.withListen g).cipher = s.cipher := rfl
@[simp] theorem State.withListen_sole : (s.withListen g).sole = s.sole := rfl
@[simp] theorem State.withListen_pke : (s.withListen g).pke = s.pke := rfl
@[simp] theorem State.withListen_dig : (s.withListen g).dig = s.dig := rfl
@[simp] theorem State.withListen_rng : (s.withListen g).rng = s.rng := rfl
@[simp] theorem State.withListen_alarm : (s.withListen g).alarm = s.alarm := rfl
@[simp] theorem State.withListen_log : (s.withListen g).log = s.log := rfl
@[simp] theorem State.withListen_insole : (s.withListen g).insole = s.insole := rfl
@[simp] theorem State.withListen_ins : (s.withListen g).ins = s.ins := rfl
@[simp] theorem State.withListen_listen : (s.withListen g).listen = g s.listen := rfl
@[simp] theorem State.withListen_cls : (s.withListen g).cls = s.cls := rfl
@[simp] theorem State.withListen_cards : (s.withListen g).cards = s.cards := rfl
@[simp] theorem State.withListen_welt : (s.withListen g).welt = s.welt := rfl
@[simp] theorem State.withListen_cob : (s.withListen g).cob = s.cob := rfl
@[simp] theorem State.withListen_cores : (s.withListen g).cores = s.cores := rfl
@[simp] theorem State.withListen_mpus : (s.withListen g).mpus = s.mpus := rfl
end withListen

section withCls
variable (g : Cls → Cls)
@[simp] theorem State.withCls_pending : (s.withCls g).pending = s.pending := rfl
@[simp] theorem State.withCls_freeCount : (s.withCls g).freeCount = s.freeCount := rfl
@[simp] theorem State.withCls_out : (s.withCls g).out = s.out := rfl
@[simp] theorem State.withCls_mem : (s.withCls g).mem = s.mem := rfl
@[simp] theorem State.withCls_pins : (s.withCls g).pins = s.pins := rfl
@[simp] theorem State.withCls_boot : (s.withCls g).boot = s.boot := rfl
@[simp] theorem State.withCls_pcie : (s.withCls g).pcie = s.pcie := rfl
@[simp] theorem State.withCls_mbx : (s.withCls g).mbx = s.mbx := rfl
@[simp] theorem State.withCls_fw : (s.withCls g).fw = s.fw := rfl
@[simp] theorem State.withCls_keys : (s.withCls g).keys = s.keys := rfl
@[simp] theorem State.withCls_rings : (s.withCls g).rings = s.rings := rfl
@[simp] theorem State.withCls_cipher : (s.withCls g).cipher = s.cipher := rfl
@[simp] theorem State.withCls_sole : (s.withCls g).sole = s.sole := rfl
@[simp] theorem State.withCls_pke : (s.withCls g).pke = s.pke := rfl
@[simp] theorem State.withCls_dig : (s.withCls g).dig = s.dig := rfl
@[simp] theorem State.withCls_rng : (s.withCls g).rng = s.rng := rfl
@[simp] theorem State.withCls_alarm : (s.withCls g).alarm = s.alarm := rfl
@[simp] theorem State.withCls_log : (s.withCls g).log = s.log := rfl
@[simp] theorem State.withCls_insole : (s.withCls g).insole = s.insole := rfl
@[simp] theorem State.withCls_ins : (s.withCls g).ins = s.ins := rfl
@[simp] theorem State.withCls_listen : (s.withCls g).listen = s.listen := rfl
@[simp] theorem State.withCls_cls : (s.withCls g).cls = g s.cls := rfl
@[simp] theorem State.withCls_cards : (s.withCls g).cards = s.cards := rfl
@[simp] theorem State.withCls_welt : (s.withCls g).welt = s.welt := rfl
@[simp] theorem State.withCls_cob : (s.withCls g).cob = s.cob := rfl
@[simp] theorem State.withCls_cores : (s.withCls g).cores = s.cores := rfl
@[simp] theorem State.withCls_mpus : (s.withCls g).mpus = s.mpus := rfl
end withCls

section withCards
variable (g : Cards → Cards)
@[simp] theorem State.withCards_pending : (s.withCards g).pending = s.pending := rfl
@[simp] theorem State.withCards_freeCount : (s.withCards g).freeCount = s.freeCount := rfl
@[simp] theorem State.withCards_out : (s.withCards g).out = s.out := rfl
@[simp] theorem State.withCards_mem : (s.withCards g).mem = s.mem := rfl
@[simp] theorem State.withCards_pins : (s.withCards g).pins = s.pins := rfl
@[simp] theorem State.withCards_boot : (s.withCards g).boot = s.boot := rfl
@[simp] theorem State.withCards_pcie : (s.withCards g).pcie = s.pcie := rfl
@[simp] theorem State.withCards_mbx : (s.withCards g).mbx = s.mbx := rfl
@[simp] theorem State.withCards_fw : (s.withCards g).fw = s.fw := rfl
@[simp] theorem State.withCards_keys : (s.withCards g).keys = s.keys := rfl
@[simp] theorem State.withCards_rings : (s.withCards g).rings = s.rings := rfl
@[simp] theorem State.withCards_cipher : (s.withCards g).cipher = s.cipher := rfl
@[simp] theorem State.withCards_sole : (s.withCards g).sole = s.sole := rfl
@[simp] theorem State.withCards_pke : (s.withCards g).pke = s.pke := rfl
@[simp] theorem State.withCards_dig : (s.withCards g).dig = s.dig := rfl
@[simp] theorem State.withCards_rng : (s.withCards g).rng = s.rng := rfl
@[simp] theorem State.withCards_alarm : (s.withCards g).alarm = s.alarm := rfl
@[simp] theorem State.withCards_log : (s.withCards g).log = s.log := rfl
@[simp] theorem State.withCards_insole : (s.withCards g).insole = s.insole := rfl
@[simp] theorem State.withCards_ins : (s.withCards g).ins = s.ins := rfl
@[simp] theorem State.withCards_listen : (s.withCards g).listen = s.listen := rfl
@[simp] theorem State.withCards_cls : (s.withCards g).cls = s.cls := rfl
@[simp] theorem State.withCards_cards : (s.withCards g).cards = g s.cards := rfl
@[simp] theorem State.withCards_welt : (s.withCards g).welt = s.welt := rfl
@[simp] theorem State.withCards_cob : (s.withCards g).cob = s.cob := rfl
@[simp] theorem State.withCards_cores : (s.withCards g).cores = s.cores := rfl
@[simp] theorem State.withCards_mpus : (s.withCards g).mpus = s.mpus := rfl
end withCards

section withWelt
variable (g : Welt → Welt)
@[simp] theorem State.withWelt_pending : (s.withWelt g).pending = s.pending := rfl
@[simp] theorem State.withWelt_freeCount : (s.withWelt g).freeCount = s.freeCount := rfl
@[simp] theorem State.withWelt_out : (s.withWelt g).out = s.out := rfl
@[simp] theorem State.withWelt_mem : (s.withWelt g).mem = s.mem := rfl
@[simp] theorem State.withWelt_pins : (s.withWelt g).pins = s.pins := rfl
@[simp] theorem State.withWelt_boot : (s.withWelt g).boot = s.boot := rfl
@[simp] theorem State.withWelt_pcie : (s.withWelt g).pcie = s.pcie := rfl
@[simp] theorem State.withWelt_mbx : (s.withWelt g).mbx = s.mbx := rfl
@[simp] theorem State.withWelt_fw : (s.withWelt g).fw = s.fw := rfl
@[simp] theorem State.withWelt_keys : (s.withWelt g).keys = s.keys := rfl
@[simp] theorem State.withWelt_rings : (s.withWelt g).rings = s.rings := rfl
@[simp] theorem State.withWelt_cipher : (s.withWelt g).cipher = s.cipher := rfl
@[simp] theorem State.withWelt_sole : (s.withWelt g).sole = s.sole := rfl
@[simp] theorem State.withWelt_pke : (s.withWelt g).pke = s.pke := rfl
@[simp] theorem State.withWelt_dig : (s.withWelt g).dig = s.dig := rfl
@[simp] theorem State.withWelt_rng : (s.withWelt g).rng = s.rng := rfl
@[simp] theorem State.withWelt_alarm : (s.withWelt g).alarm = s.alarm := rfl
@[simp] theorem State.withWelt_log : (s.withWelt g).log = s.log := rfl
@[simp] theorem State.withWelt_insole : (s.withWelt g).insole = s.insole := rfl
@[simp] theorem State.withWelt_ins : (s.withWelt g).ins = s.ins := rfl
@[simp] theorem State.withWelt_listen : (s.withWelt g).listen = s.listen := rfl
@[simp] theorem State.withWelt_cls : (s.withWelt g).cls = s.cls := rfl
@[simp] theorem State.withWelt_cards : (s.withWelt g).cards = s.cards := rfl
@[simp] theorem State.withWelt_welt : (s.withWelt g).welt = g s.welt := rfl
@[simp] theorem State.withWelt_cob : (s.withWelt g).cob = s.cob := rfl
@[simp] theorem State.withWelt_cores : (s.withWelt g).cores = s.cores := rfl
@[simp] theorem State.withWelt_mpus : (s.withWelt g).mpus = s.mpus := rfl
end withWelt

section withCob
variable (g : Cob → Cob)
@[simp] theorem State.withCob_pending : (s.withCob g).pending = s.pending := rfl
@[simp] theorem State.withCob_freeCount : (s.withCob g).freeCount = s.freeCount := rfl
@[simp] theorem State.withCob_out : (s.withCob g).out = s.out := rfl
@[simp] theorem State.withCob_mem : (s.withCob g).mem = s.mem := rfl
@[simp] theorem State.withCob_pins : (s.withCob g).pins = s.pins := rfl
@[simp] theorem State.withCob_boot : (s.withCob g).boot = s.boot := rfl
@[simp] theorem State.withCob_pcie : (s.withCob g).pcie = s.pcie := rfl
@[simp] theorem State.withCob_mbx : (s.withCob g).mbx = s.mbx := rfl
@[simp] theorem State.withCob_fw : (s.withCob g).fw = s.fw := rfl
@[simp] theorem State.withCob_keys : (s.withCob g).keys = s.keys := rfl
@[simp] theorem State.withCob_rings : (s.withCob g).rings = s.rings := rfl
@[simp] theorem State.withCob_cipher : (s.withCob g).cipher = s.cipher := rfl
@[simp] theorem State.withCob_sole : (s.withCob g).sole = s.sole := rfl
@[simp] theorem State.withCob_pke : (s.withCob g).pke = s.pke := rfl
@[simp] theorem State.withCob_dig : (s.withCob g).dig = s.dig := rfl
@[simp] theorem State.withCob_rng : (s.withCob g).rng = s.rng := rfl
@[simp] theorem State.withCob_alarm : (s.withCob g).alarm = s.alarm := rfl
@[simp] theorem State.withCob_log : (s.withCob g).log = s.log := rfl
@[simp] theorem State.withCob_insole : (s.withCob g).insole = s.insole := rfl
@[simp] theorem State.withCob_ins : (s.withCob g).ins = s.ins := rfl
@[simp] theorem State.withCob_listen : (s.withCob g).listen = s.listen := rfl
@[simp] theorem State.withCob_cls : (s.withCob g).cls = s.cls := rfl
@[simp] theorem State.withCob_cards : (s.withCob g).cards = s.cards := rfl
@[simp] theorem State.withCob_welt : (s.withCob g).welt = s.welt := rfl
@[simp] theorem State.withCob_cob : (s.withCob g).cob = g s.cob := rfl
@[simp] theorem State.withCob_cores : (s.withCob g).cores = s.cores := rfl
@[simp] theorem State.withCob_mpus : (s.withCob g).mpus = s.mpus := rfl
end withCob

section withCores
variable (g : Bank Core → Bank Core)
@[simp] theorem State.withCores_pending : (s.withCores g).pending = s.pending := rfl
@[simp] theorem State.withCores_freeCount : (s.withCores g).freeCount = s.freeCount := rfl
@[simp] theorem State.withCores_out : (s.withCores g).out = s.out := rfl
@[simp] theorem State.withCores_mem : (s.withCores g).mem = s.mem := rfl
@[simp] theorem State.withCores_pins : (s.withCores g).pins = s.pins := rfl
@[simp] theorem State.withCores_boot : (s.withCores g).boot = s.boot := rfl
@[simp] theorem State.withCores_pcie : (s.withCores g).pcie = s.pcie := rfl
@[simp] theorem State.withCores_mbx : (s.withCores g).mbx = s.mbx := rfl
@[simp] theorem State.withCores_fw : (s.withCores g).fw = s.fw := rfl
@[simp] theorem State.withCores_keys : (s.withCores g).keys = s.keys := rfl
@[simp] theorem State.withCores_rings : (s.withCores g).rings = s.rings := rfl
@[simp] theorem State.withCores_cipher : (s.withCores g).cipher = s.cipher := rfl
@[simp] theorem State.withCores_sole : (s.withCores g).sole = s.sole := rfl
@[simp] theorem State.withCores_pke : (s.withCores g).pke = s.pke := rfl
@[simp] theorem State.withCores_dig : (s.withCores g).dig = s.dig := rfl
@[simp] theorem State.withCores_rng : (s.withCores g).rng = s.rng := rfl
@[simp] theorem State.withCores_alarm : (s.withCores g).alarm = s.alarm := rfl
@[simp] theorem State.withCores_log : (s.withCores g).log = s.log := rfl
@[simp] theorem State.withCores_insole : (s.withCores g).insole = s.insole := rfl
@[simp] theorem State.withCores_ins : (s.withCores g).ins = s.ins := rfl
@[simp] theorem State.withCores_listen : (s.withCores g).listen = s.listen := rfl
@[simp] theorem State.withCores_cls : (s.withCores g).cls = s.cls := rfl
@[simp] theorem State.withCores_cards : (s.withCores g).cards = s.cards := rfl
@[simp] theorem State.withCores_welt : (s.withCores g).welt = s.welt := rfl
@[simp] theorem State.withCores_cob : (s.withCores g).cob = s.cob := rfl
@[simp] theorem State.withCores_cores : (s.withCores g).cores = g s.cores := rfl
@[simp] theorem State.withCores_mpus : (s.withCores g).mpus = s.mpus := rfl
end withCores

section withMpus
variable (g : Bank Mpu → Bank Mpu)
@[simp] theorem State.withMpus_pending : (s.withMpus g).pending = s.pending := rfl
@[simp] theorem State.withMpus_freeCount : (s.withMpus g).freeCount = s.freeCount := rfl
@[simp] theorem State.withMpus_out : (s.withMpus g).out = s.out := rfl
@[simp] theorem State.withMpus_mem : (s.withMpus g).mem = s.mem := rfl
@[simp] theorem State.withMpus_pins : (s.withMpus g).pins = s.pins := rfl
@[simp] theorem State.withMpus_boot : (s.withMpus g).boot = s.boot := rfl
@[simp] theorem State.withMpus_pcie : (s.withMpus g).pcie = s.pcie := rfl
@[simp] theorem State.withMpus_mbx : (s.withMpus g).mbx = s.mbx := rfl
@[simp] theorem State.withMpus_fw : (s.withMpus g).fw = s.fw := rfl
@[simp] theorem State.withMpus_keys : (s.withMpus g).keys = s.keys := rfl
@[simp] theorem State.withMpus_rings : (s.withMpus g).rings = s.rings := rfl
@[simp] theorem State.withMpus_cipher : (s.withMpus g).cipher = s.cipher := rfl
@[simp] theorem State.withMpus_sole : (s.withMpus g).sole = s.sole := rfl
@[simp] theorem State.withMpus_pke : (s.withMpus g).pke = s.pke := rfl
@[simp] theorem State.withMpus_dig : (s.withMpus g).dig = s.dig := rfl
@[simp] theorem State.withMpus_rng : (s.withMpus g).rng = s.rng := rfl
@[simp] theorem State.withMpus_alarm : (s.withMpus g).alarm = s.alarm := rfl
@[simp] theorem State.withMpus_log : (s.withMpus g).log = s.log := rfl
@[simp] theorem State.withMpus_insole : (s.withMpus g).insole = s.insole := rfl
@[simp] theorem State.withMpus_ins : (s.withMpus g).ins = s.ins := rfl
@[simp] theorem State.withMpus_listen : (s.withMpus g).listen = s.listen := rfl
@[simp] theorem State.withMpus_cls : (s.withMpus g).cls = s.cls := rfl
@[simp] theorem State.withMpus_cards : (s.withMpus g).cards = s.cards := rfl
@[simp] theorem State.withMpus_welt : (s.withMpus g).welt = s.welt := rfl
@[simp] theorem State.withMpus_cob : (s.withMpus g).cob = s.cob := rfl
@[simp] theorem State.withMpus_cores : (s.withMpus g).cores = s.cores := rfl
@[simp] theorem State.withMpus_mpus : (s.withMpus g).mpus = g s.mpus := rfl
end withMpus

/-- A free value is taken from the counter, which advances. -/
@[simp] theorem State.draw_eq (n : Nat) (k : List Byte → State → State) :
    s.draw n k = k ((List.range n).map (Config.freeByte s.freeCount)) { s with freeCount := s.freeCount + 1 } := rfl

end Sys2Proof.Machine
end

