-- ==== Sys2Proof/Laws/Answer.lean ====
section
/-! SUPPORT. What sending an answer of the contactless port changes: the answer, and on VBAT the transmit budget. -/

namespace Sys2Proof.Machine

variable (bs : List Byte) (s : State)

@[simp] theorem State.chargeFrame_pending : s.chargeFrame.pending = s.pending := by
  unfold State.chargeFrame; split <;> simp [State.draw_eq]
@[simp] theorem State.chargeFrame_out : s.chargeFrame.out = s.out := by
  unfold State.chargeFrame; split <;> simp [State.draw_eq]
@[simp] theorem State.chargeFrame_mem : s.chargeFrame.mem = s.mem := by
  unfold State.chargeFrame; split <;> simp [State.draw_eq]
@[simp] theorem State.chargeFrame_pins : s.chargeFrame.pins = s.pins := by
  unfold State.chargeFrame; split <;> simp [State.draw_eq]
@[simp] theorem State.chargeFrame_boot : s.chargeFrame.boot = s.boot := by
  unfold State.chargeFrame; split <;> simp [State.draw_eq]
@[simp] theorem State.chargeFrame_pcie : s.chargeFrame.pcie = s.pcie := by
  unfold State.chargeFrame; split <;> simp [State.draw_eq]
@[simp] theorem State.chargeFrame_mbx : s.chargeFrame.mbx = s.mbx := by
  unfold State.chargeFrame; split <;> simp [State.draw_eq]
@[simp] theorem State.chargeFrame_fw : s.chargeFrame.fw = s.fw := by
  unfold State.chargeFrame; split <;> simp [State.draw_eq]
@[simp] theorem State.chargeFrame_keys : s.chargeFrame.keys = s.keys := by
  unfold State.chargeFrame; split <;> simp [State.draw_eq]
@[simp] theorem State.chargeFrame_rings : s.chargeFrame.rings = s.rings := by
  unfold State.chargeFrame; split <;> simp [State.draw_eq]
@[simp] theorem State.chargeFrame_cipher : s.chargeFrame.cipher = s.cipher := by
  unfold State.chargeFrame; split <;> simp [State.draw_eq]
@[simp] theorem State.chargeFrame_sole : s.chargeFrame.sole = s.sole := by
  unfold State.chargeFrame; split <;> simp [State.draw_eq]
@[simp] theorem State.chargeFrame_pke : s.chargeFrame.pke = s.pke := by
  unfold State.chargeFrame; split <;> simp [State.draw_eq]
@[simp] theorem State.chargeFrame_dig : s.chargeFrame.dig = s.dig := by
  unfold State.chargeFrame; split <;> simp [State.draw_eq]
@[simp] theorem State.chargeFrame_rng : s.chargeFrame.rng = s.rng := by
  unfold State.chargeFrame; split <;> simp [State.draw_eq]
@[simp] theorem State.chargeFrame_alarm : s.chargeFrame.alarm = s.alarm := by
  unfold State.chargeFrame; split <;> simp [State.draw_eq]
@[simp] theorem State.chargeFrame_log : s.chargeFrame.log = s.log := by
  unfold State.chargeFrame; split <;> simp [State.draw_eq]
@[simp] theorem State.chargeFrame_ins : s.chargeFrame.ins = s.ins := by
  unfold State.chargeFrame; split <;> simp [State.draw_eq]
@[simp] theorem State.chargeFrame_listen : s.chargeFrame.listen = s.listen := by
  unfold State.chargeFrame; split <;> simp [State.draw_eq]
@[simp] theorem State.chargeFrame_cls : s.chargeFrame.cls = s.cls := by
  unfold State.chargeFrame; split <;> simp [State.draw_eq]
@[simp] theorem State.chargeFrame_cards : s.chargeFrame.cards = s.cards := by
  unfold State.chargeFrame; split <;> simp [State.draw_eq]
@[simp] theorem State.chargeFrame_welt : s.chargeFrame.welt = s.welt := by
  unfold State.chargeFrame; split <;> simp [State.draw_eq]
@[simp] theorem State.chargeFrame_cob : s.chargeFrame.cob = s.cob := by
  unfold State.chargeFrame; split <;> simp [State.draw_eq]
@[simp] theorem State.chargeFrame_cores : s.chargeFrame.cores = s.cores := by
  unfold State.chargeFrame; split <;> simp [State.draw_eq]
@[simp] theorem State.chargeFrame_mpus : s.chargeFrame.mpus = s.mpus := by
  unfold State.chargeFrame; split <;> simp [State.draw_eq]
@[simp] theorem State.answer_pending : (s.answer bs).pending = s.pending := by simp [State.answer]
@[simp] theorem State.answer_out : (s.answer bs).out = s.out := by simp [State.answer]
@[simp] theorem State.answer_mem : (s.answer bs).mem = s.mem := by simp [State.answer]
@[simp] theorem State.answer_pins : (s.answer bs).pins = s.pins := by simp [State.answer]
@[simp] theorem State.answer_boot : (s.answer bs).boot = s.boot := by simp [State.answer]
@[simp] theorem State.answer_pcie : (s.answer bs).pcie = s.pcie := by simp [State.answer]
@[simp] theorem State.answer_mbx : (s.answer bs).mbx = s.mbx := by simp [State.answer]
@[simp] theorem State.answer_fw : (s.answer bs).fw = s.fw := by simp [State.answer]
@[simp] theorem State.answer_keys : (s.answer bs).keys = s.keys := by simp [State.answer]
@[simp] theorem State.answer_rings : (s.answer bs).rings = s.rings := by simp [State.answer]
@[simp] theorem State.answer_cipher : (s.answer bs).cipher = s.cipher := by simp [State.answer]
@[simp] theorem State.answer_sole : (s.answer bs).sole = s.sole := by simp [State.answer]
@[simp] theorem State.answer_pke : (s.answer bs).pke = s.pke := by simp [State.answer]
@[simp] theorem State.answer_dig : (s.answer bs).dig = s.dig := by simp [State.answer]
@[simp] theorem State.answer_rng : (s.answer bs).rng = s.rng := by simp [State.answer]
@[simp] theorem State.answer_alarm : (s.answer bs).alarm = s.alarm := by simp [State.answer]
@[simp] theorem State.answer_log : (s.answer bs).log = s.log := by simp [State.answer]
@[simp] theorem State.answer_ins : (s.answer bs).ins = s.ins := by simp [State.answer]
@[simp] theorem State.answer_listen : (s.answer bs).listen = { s.listen with answer := bs } := by simp [State.answer]
@[simp] theorem State.answer_cls : (s.answer bs).cls = s.cls := by simp [State.answer]
@[simp] theorem State.answer_cards : (s.answer bs).cards = s.cards := by simp [State.answer]
@[simp] theorem State.answer_welt : (s.answer bs).welt = s.welt := by simp [State.answer]
@[simp] theorem State.answer_cob : (s.answer bs).cob = s.cob := by simp [State.answer]
@[simp] theorem State.answer_cores : (s.answer bs).cores = s.cores := by simp [State.answer]
@[simp] theorem State.answer_mpus : (s.answer bs).mpus = s.mpus := by simp [State.answer]
@[simp] theorem State.chargeFrame_insole_onVbat : s.chargeFrame.insole.onVbat = s.insole.onVbat := by
  unfold State.chargeFrame; split <;> simp [State.draw_eq]
@[simp] theorem State.answer_insole_onVbat : (s.answer bs).insole.onVbat = s.insole.onVbat := by simp [State.answer]
@[simp] theorem State.chargeFrame_insole_rtc : s.chargeFrame.insole.rtc = s.insole.rtc := by
  unfold State.chargeFrame; split <;> simp [State.draw_eq]
@[simp] theorem State.answer_insole_rtc : (s.answer bs).insole.rtc = s.insole.rtc := by simp [State.answer]
@[simp] theorem State.chargeFrame_insole_rtcHi : s.chargeFrame.insole.rtcHi = s.insole.rtcHi := by
  unfold State.chargeFrame; split <;> simp [State.draw_eq]
@[simp] theorem State.answer_insole_rtcHi : (s.answer bs).insole.rtcHi = s.insole.rtcHi := by simp [State.answer]
@[simp] theorem State.chargeFrame_insole_epoch : s.chargeFrame.insole.epoch = s.insole.epoch := by
  unfold State.chargeFrame; split <;> simp [State.draw_eq]
@[simp] theorem State.answer_insole_epoch : (s.answer bs).insole.epoch = s.insole.epoch := by simp [State.answer]
@[simp] theorem State.chargeFrame_insole_trusted : s.chargeFrame.insole.trusted = s.insole.trusted := by
  unfold State.chargeFrame; split <;> simp [State.draw_eq]
@[simp] theorem State.answer_insole_trusted : (s.answer bs).insole.trusted = s.insole.trusted := by simp [State.answer]
@[simp] theorem State.chargeFrame_insole_ik : s.chargeFrame.insole.ik = s.insole.ik := by
  unfold State.chargeFrame; split <;> simp [State.draw_eq]
@[simp] theorem State.answer_insole_ik : (s.answer bs).insole.ik = s.insole.ik := by simp [State.answer]
@[simp] theorem State.chargeFrame_insole_auditKey : s.chargeFrame.insole.auditKey = s.insole.auditKey := by
  unfold State.chargeFrame; split <;> simp [State.draw_eq]
@[simp] theorem State.answer_insole_auditKey : (s.answer bs).insole.auditKey = s.insole.auditKey := by simp [State.answer]
@[simp] theorem State.chargeFrame_insole_auditId : s.chargeFrame.insole.auditId = s.insole.auditId := by
  unfold State.chargeFrame; split <;> simp [State.draw_eq]
@[simp] theorem State.answer_insole_auditId : (s.answer bs).insole.auditId = s.insole.auditId := by simp [State.answer]
@[simp] theorem State.chargeFrame_insole_drbg : s.chargeFrame.insole.drbg = s.insole.drbg := by
  unfold State.chargeFrame; split <;> simp [State.draw_eq]
@[simp] theorem State.answer_insole_drbg : (s.answer bs).insole.drbg = s.insole.drbg := by simp [State.answer]
@[simp] theorem State.chargeFrame_insole_seeded : s.chargeFrame.insole.seeded = s.insole.seeded := by
  unfold State.chargeFrame; split <;> simp [State.draw_eq]
@[simp] theorem State.answer_insole_seeded : (s.answer bs).insole.seeded = s.insole.seeded := by simp [State.answer]
@[simp] theorem State.chargeFrame_insole_c3Out : s.chargeFrame.insole.c3Out = s.insole.c3Out := by
  unfold State.chargeFrame; split <;> simp [State.draw_eq]
@[simp] theorem State.answer_insole_c3Out : (s.answer bs).insole.c3Out = s.insole.c3Out := by simp [State.answer]
@[simp] theorem State.chargeFrame_insole_vbatMv : s.chargeFrame.insole.vbatMv = s.insole.vbatMv := by
  unfold State.chargeFrame; split <;> simp [State.draw_eq]
@[simp] theorem State.answer_insole_vbatMv : (s.answer bs).insole.vbatMv = s.insole.vbatMv := by simp [State.answer]
@[simp] theorem State.chargeFrame_insole_failCount : s.chargeFrame.insole.failCount = s.insole.failCount := by
  unfold State.chargeFrame; split <;> simp [State.draw_eq]
@[simp] theorem State.answer_insole_failCount : (s.answer bs).insole.failCount = s.insole.failCount := by simp [State.answer]
@[simp] theorem State.chargeFrame_insole_blocked : s.chargeFrame.insole.blocked = s.insole.blocked := by
  unfold State.chargeFrame; split <;> simp [State.draw_eq]
@[simp] theorem State.answer_insole_blocked : (s.answer bs).insole.blocked = s.insole.blocked := by simp [State.answer]
@[simp] theorem State.chargeFrame_insole_failTotal : s.chargeFrame.insole.failTotal = s.insole.failTotal := by
  unfold State.chargeFrame; split <;> simp [State.draw_eq]
@[simp] theorem State.answer_insole_failTotal : (s.answer bs).insole.failTotal = s.insole.failTotal := by simp [State.answer]
@[simp] theorem State.chargeFrame_insole_vbatLost : s.chargeFrame.insole.vbatLost = s.insole.vbatLost := by
  unfold State.chargeFrame; split <;> simp [State.draw_eq]
@[simp] theorem State.answer_insole_vbatLost : (s.answer bs).insole.vbatLost = s.insole.vbatLost := by simp [State.answer]
@[simp] theorem State.chargeFrame_insole_tampOut : s.chargeFrame.insole.tampOut = s.insole.tampOut := by
  unfold State.chargeFrame; split <;> simp [State.draw_eq]
@[simp] theorem State.answer_insole_tampOut : (s.answer bs).insole.tampOut = s.insole.tampOut := by simp [State.answer]
@[simp] theorem State.chargeFrame_insole_unannounced : s.chargeFrame.insole.unannounced = s.insole.unannounced := by
  unfold State.chargeFrame; split <;> simp [State.draw_eq]
@[simp] theorem State.answer_insole_unannounced : (s.answer bs).insole.unannounced = s.insole.unannounced := by simp [State.answer]

end Sys2Proof.Machine
end

