-- ==== Sys2Proof/Laws/Awl.lean ====
section
/-! SUPPORT. What running an Awl instruction answers, by the ways its run can end (18; 19 R532). -/

namespace Sys2Proof.Machine

variable {c op : Nat} {i : AwlIn} {legal : Bool} {body : State → Except Exc State} {s u : State} {e : Exc}

/-- An instruction whose fetch is allowed, whose form is legal and whose body completes gives the body's state. -/
theorem State.runInstr_ok (h : s.Fetches c op i) (hl : legal = true) (hb : body (s.tick c) = .ok u) :
    s.runInstr c op i legal body = u := by
  simp [State.runInstr, h.1, h.2.1, h.2.2, hl, hb]

/-- An instruction that is fetched and legal and whose body raises an exception takes it. -/
theorem State.runInstr_error (h : s.Fetches c op i) (hl : legal = true) (hb : body (s.tick c) = .error e) :
    s.runInstr c op i legal body = (s.tick c).takeExc c e ((s.tick c).core c).pc none i.entry := by
  simp [State.runInstr, h.1, h.2.1, h.2.2, hl, hb]

/-- An illegal form takes the illegal-instruction exception. -/
theorem State.runInstr_illegal (h : s.Fetches c op i) (hl : legal = false) :
    s.runInstr c op i legal body = (s.tick c).takeExc c illegal ((s.tick c).core c).pc none i.entry := by
  simp [State.runInstr, h.1, h.2.1, h.2.2, hl]

/-- A refused fetch takes its exception. -/
theorem State.runInstr_fetch (hr : (s.core c).runs = true) (h : (s.tick c).fetchExc c i = some e) :
    s.runInstr c op i legal body = (s.tick c).takeExc c e ((s.tick c).core c).pc none i.entry := by
  simp [State.runInstr, hr, h]

/-- A core that does not run executes nothing. -/
theorem State.runInstr_stopped (hr : (s.core c).runs = false) : s.runInstr c op i legal body = s := by
  simp [State.runInstr, hr]

/-- Where another word stands at the PC, nothing changes. -/
theorem State.runInstr_other (hr : (s.core c).runs = true) (hf : (s.tick c).fetchExc c i = none)
    (h : (s.tick c).fetched c ≠ awlWord op i) : s.runInstr c op i legal body = s := by
  simp [State.runInstr, hr, hf, h]

end Sys2Proof.Machine
end

