-- ==== Sys2Proof/Laws/Bank.lean ====
section
/-! SUPPORT. Banks and memories: reading after writing, and the canonical form, which every write keeps. -/

namespace Sys2Proof.Machine

variable {α : Type} [DecidableEq α] (d : α)

/-- Writing key `k` leaves every other key alone. -/
theorem Bank.get_set_other (k j : Nat) (v : α) (h : j ≠ k) (b : Bank α) : Bank.get d (Bank.set d k v b) j = Bank.get d b j := by
  induction b with
  | nil => unfold Bank.set; split <;> simp [Bank.get, Ne.symm h]
  | cons p t ih =>
    obtain ⟨k', v'⟩ := p
    unfold Bank.set
    split
    · simp [Bank.get, ih]
    · split
      · rename_i h2
        split <;> simp [Bank.get, h2, Ne.symm h]
      · split <;> simp [Bank.get, Ne.symm h]

/-- A value other than the default is read back. -/
theorem Bank.get_set_ne (k : Nat) (v : α) (hv : v ≠ d) (b : Bank α) : Bank.get d (Bank.set d k v b) k = v := by
  induction b with
  | nil => simp [Bank.set, Bank.get, hv]
  | cons p t ih =>
    obtain ⟨k', v'⟩ := p
    unfold Bank.set
    split
    · rename_i h; simp [Bank.get, ih, Nat.ne_of_lt h]
    · split <;> simp [Bank.get, hv]

/-- A key below every listed key reads as the default. -/
theorem Bank.get_below (k : Nat) (b : Bank α) (h : ∀ p ∈ b, k < p.1) : Bank.get d b k = d := by
  induction b with
  | nil => rfl
  | cons p t ih =>
    have h1 := h p (by simp)
    have h2 : p.1 ≠ k := by omega
    simp [Bank.get, h2, ih fun q hq => h q (List.mem_cons_of_mem _ hq)]

/-- In canonical form every value is read back. -/
theorem Bank.get_set_same (k : Nat) (v : α) (b : Bank α) (hb : Bank.wf d b) : Bank.get d (Bank.set d k v b) k = v := by
  by_cases hv : v = d
  · subst hv
    induction b with
    | nil => simp [Bank.set, Bank.get]
    | cons p t ih =>
      obtain ⟨k', v'⟩ := p
      have hs := hb.1
      simp only [List.map_cons, List.pairwise_cons] at hs
      have ht : Bank.wf v t := ⟨hs.2, fun q hq => hb.2 q (List.mem_cons_of_mem _ hq)⟩
      have hlow : ∀ q ∈ t, k' < q.1 := fun q hq => hs.1 q.1 (List.mem_map_of_mem hq)
      unfold Bank.set
      split
      · rename_i h; simp [Bank.get, ih ht, Nat.ne_of_lt h]
      · split
        · rename_i h1 h2; subst h2; simp [Bank.get_below v k' t hlow]
        · rename_i h1 h2
          have h3 : k < k' := by omega
          simp [Bank.get, h2, Bank.get_below v k t fun q hq => by have := hlow q hq; omega]
  · exact Bank.get_set_ne d k v hv b

/-- The keys of a bank after a write: those it had, and the one written. -/
theorem Bank.mem_set (k : Nat) (v : α) (b : Bank α) (p : Nat × α) (hp : p ∈ Bank.set d k v b) : p ∈ b ∨ p = (k, v) ∧ v ≠ d := by
  induction b with
  | nil => unfold Bank.set at hp; split at hp <;> simp_all
  | cons q t ih =>
    obtain ⟨k', v'⟩ := q
    unfold Bank.set at hp
    split at hp
    · rcases List.mem_cons.1 hp with h | h
      · exact .inl (h ▸ List.mem_cons_self)
      · rcases ih h with h | h
        · exact .inl (List.mem_cons_of_mem _ h)
        · exact .inr h
    · split at hp
      · split at hp
        · exact .inl (List.mem_cons_of_mem _ hp)
        · rcases List.mem_cons.1 hp with h | h
          · exact .inr ⟨h, by assumption⟩
          · exact .inl (List.mem_cons_of_mem _ h)
      · split at hp
        · exact .inl hp
        · rcases List.mem_cons.1 hp with h | h
          · exact .inr ⟨h, by assumption⟩
          · exact .inl h

/-- A write keeps the canonical form. -/
theorem Bank.wf_set (k : Nat) (v : α) (b : Bank α) (hb : Bank.wf d b) : Bank.wf d (Bank.set d k v b) := by
  refine ⟨?_, fun p hp => ?_⟩
  · induction b with
    | nil => unfold Bank.set; split <;> simp
    | cons q t ih =>
      obtain ⟨k', v'⟩ := q
      have hs := hb.1
      simp only [List.map_cons, List.pairwise_cons] at hs
      have ht : Bank.wf d t := ⟨hs.2, fun q hq => hb.2 q (List.mem_cons_of_mem _ hq)⟩
      unfold Bank.set
      split
      · rename_i h
        simp only [List.map_cons, List.pairwise_cons]
        refine ⟨fun x hx => ?_, ih ht⟩
        obtain ⟨q, hq, rfl⟩ := List.mem_map.1 hx
        rcases Bank.mem_set d k v t q hq with h1 | h1
        · exact hs.1 _ (List.mem_map_of_mem h1)
        · rw [h1.1]; exact h
      · split
        · rename_i h1 h2; subst h2
          split
          · exact hs.2
          · simp only [List.map_cons, List.pairwise_cons]; exact hs
        · rename_i h1 h2
          split
          · simp only [List.map_cons, List.pairwise_cons]; exact hs
          · simp only [List.map_cons, List.pairwise_cons]
            refine ⟨fun x hx => ?_, hs⟩
            rcases List.mem_cons.1 hx with h3 | h3
            · omega
            · have := hs.1 x h3; omega
  · rcases Bank.mem_set d k v b p hp with h | h
    · exact hb.2 p h
    · rw [h.1]; exact h.2

/-- An update keeps the canonical form. -/
theorem Bank.wf_upd (k : Nat) (f : α → α) (b : Bank α) (hb : Bank.wf d b) : Bank.wf d (Bank.upd d k f b) :=
  Bank.wf_set d k _ b hb

/-- An update leaves every other key alone. -/
theorem Bank.get_upd_other (k j : Nat) (f : α → α) (h : j ≠ k) (b : Bank α) :
    Bank.get d (Bank.upd d k f b) j = Bank.get d b j := Bank.get_set_other d k j _ h b

/-- In canonical form an update is read back. -/
theorem Bank.get_upd_same (k : Nat) (f : α → α) (b : Bank α) (hb : Bank.wf d b) :
    Bank.get d (Bank.upd d k f b) k = f (Bank.get d b k) := Bank.get_set_same d k _ b hb

/-- A memory write keeps the canonical form. -/
theorem Bank.wf_writeBytes (bs : List Byte) : ∀ (m : Bank Byte) (a : Nat), Bank.wf 0 m → Bank.wf 0 (Bank.writeBytes m a bs) := by
  induction bs with
  | nil => exact fun m a h => h
  | cons x xs ih => exact fun m a h => ih _ _ (Bank.wf_set 0 a x m h)

/-- A memory write leaves every byte outside the bytes written alone. -/
theorem Bank.get_writeBytes_other (bs : List Byte) : ∀ (m : Bank Byte) (a j : Nat), j < a ∨ a + bs.length ≤ j →
    Bank.get 0 (Bank.writeBytes m a bs) j = Bank.get 0 m j := by
  induction bs with
  | nil => exact fun m a j h => rfl
  | cons x xs ih =>
    intro m a j h
    simp only [List.length_cons] at h
    simp only [Bank.writeBytes]
    rw [ih _ _ _ (by omega), Bank.get_set_other 0 a j x (by omega)]

/-- In canonical form the bytes written are read back. -/
theorem Bank.get_writeBytes_same (bs : List Byte) : ∀ (m : Bank Byte) (a i : Nat), Bank.wf 0 m → i < bs.length →
    Bank.get 0 (Bank.writeBytes m a bs) (a + i) = bs.getD i 0 := by
  induction bs with
  | nil => intro m a i _ h; simp at h
  | cons x xs ih =>
    intro m a i hm h
    simp only [Bank.writeBytes]
    cases i with
    | zero =>
      rw [Bank.get_writeBytes_other _ _ _ _ (.inl (by omega)), Nat.add_zero, Bank.get_set_same 0 a x m hm]
      rfl
    | succ i =>
      have := ih (Bank.set 0 a x m) (a + 1) i (Bank.wf_set 0 a x m hm) (by simpa using h)
      rw [show a + (i + 1) = a + 1 + i by omega, this]
      rfl

/-- What holds of every listed value, and of the new one, holds after a write. -/
theorem Bank.forall_set {P : α → Prop} (k : Nat) (v : α) (b : Bank α) (hb : ∀ p ∈ b, P p.2) (hv : P v) :
    ∀ p ∈ Bank.set d k v b, P p.2 := fun p hp =>
  (Bank.mem_set d k v b p hp).elim (hb p) fun h => h.1 ▸ hv

/-- A read answers a listed value or the default. -/
theorem Bank.get_of_forall {P : α → Prop} (hd : P d) (k : Nat) : ∀ b : Bank α, (∀ p ∈ b, P p.2) → P (Bank.get d b k)
  | [], _ => hd
  | q :: t, h => by
    unfold Bank.get
    split
    · exact h q (List.mem_cons_self ..)
    · exact Bank.get_of_forall hd k t fun p hp => h p (List.mem_cons_of_mem _ hp)

/-- A write to the memories of one core keeps the canonical form of all of them. -/
theorem Bank.wf_writeIn (c a : Nat) (bs : List Byte) (b : Bank (Bank Byte)) (hb : Bank.wf [] b) (hv : ∀ p ∈ b, Bank.wf 0 p.2) :
    Bank.wf [] (Bank.upd [] c (fun x => Bank.writeBytes x a bs) b)
      ∧ ∀ p ∈ Bank.upd [] c (fun x => Bank.writeBytes x a bs) b, Bank.wf 0 p.2 :=
  ⟨Bank.wf_upd [] c _ b hb, Bank.forall_set [] c _ b hv
    (Bank.wf_writeBytes bs _ a (Bank.get_of_forall (P := fun x => Bank.wf 0 x) [] ⟨List.Pairwise.nil, by simp⟩ c b hv))⟩

end Sys2Proof.Machine
end

