-- ==== Sys2Proof/Laws/Call.lean ====
section
/-! SUPPORT. What running a Cetrix command answers when it is accepted, and what an answer leaves alone (04 R114). -/

namespace Sys2Proof.Machine

variable {c : Call} {s : State} {run : Call → State → State}

/-- A command whose body and quorum pass has its effect. -/
theorem Call.start_ok (h8 : c.bodyErr = none) (h9 : (c.quorum.all fun q => s.fw.ticketOk c.opc q.1 q.2) = true) :
    c.start run s = run c (c.begun s) := by
  unfold Call.start Call.begun
  rw [h8]
  cases hq : c.quorum with
  | none => rfl
  | some q =>
    rw [hq] at h9
    have h11 : s.fw.ticketOk c.opc q.1 q.2 = true := h9
    simp only [h11, if_true, Option.isSome_some]

/-- An accepted command has its effect. -/
theorem Call.run_accepted (h : c.Accepted s) : c.run .new run s = run c (c.begun s) := by
  unfold Call.Accepted at h
  obtain ⟨h1, h2, h3, h4, h5, h6, h7, h8, h9⟩ := h
  unfold Call.run
  dsimp only
  rw [h1, h2, h3, h4, h5, h7, if_neg (Nat.not_le.mpr h6), Call.start_ok h8 h9]
  rfl

/-- A response changes host memory and firmware's notices, and nothing else. -/
theorem State.respondAs_eq (h : CmdHdr) (opc st : Half) (detail session : Word) (body : List Byte) (s : State) :
    ∃ o n, s.respondAs h opc st detail session body = (s.withOut fun _ => o).withFw fun f => { f with notices := n } := by
  unfold State.respondAs
  split
  · exact ⟨s.out, s.fw.notices, rfl⟩
  · have hw : ∀ a bs (u : State), (∃ o, u = s.withOut fun _ => o) → ∃ o, u.hostWrite a bs = s.withOut fun _ => o := by
      rintro a bs u ⟨o, rfl⟩
      exact ⟨{ o with hostMem := Bank.writeBytes o.hostMem a.toNat bs }, rfl⟩
    extract_lets b s1 s2
    obtain ⟨o, ho⟩ : ∃ o, s2 = s.withOut fun _ => o := hw _ _ _ (hw _ _ _ (hw _ _ _ ⟨s.out, rfl⟩))
    clear_value s2
    subst ho
    split
    · exact ⟨o, s.fw.notices, rfl⟩
    · unfold State.notice
      split
      · exact ⟨o, s.fw.notices, rfl⟩
      · exact ⟨o, _, rfl⟩

/-- A spent ticket leaves everything but firmware's open quorum. -/
theorem Call.begun_eq (c : Call) (s : State) : ∃ q, c.begun s = s.withFw fun f => { f with quorum := q } := by
  unfold Call.begun
  split
  · exact ⟨none, rfl⟩
  · exact ⟨s.fw.quorum, rfl⟩

end Sys2Proof.Machine
end

