-- ==== Sys2Proof/Laws/Exec.lean ====
section
/-! SUPPORT. The meaning that each command has: one lemma for each row of the table, true by definition. -/

namespace Sys2Proof.Machine

variable (s : State)

@[simp] theorem exec_pwrgdFall : exec .pwrgdFall s = execPwrgdFall s := rfl
@[simp] theorem exec_pwrgdRise : exec .pwrgdRise s = execPwrgdRise s := rfl
@[simp] theorem exec_perstAssert : exec .perstAssert s = execPerstAssert s := rfl
@[simp] theorem exec_perstRelease (late : Bool) : exec (.perstRelease late) s = execPerstRelease late s := rfl
@[simp] theorem exec_insoleSupplySwitch (toVbat : Bool) : exec (.insoleSupplySwitch toVbat) s = execInsoleSupplySwitch toVbat s := rfl
@[simp] theorem exec_insoleEmptyRestart : exec .insoleEmptyRestart s = execInsoleEmptyRestart s := rfl
@[simp] theorem exec_mainResetEnd : exec .mainResetEnd s = execMainResetEnd s := rfl
@[simp] theorem exec_rngReady (katM : Bool) (katK : Bool) : exec (.rngReady katM katK) s = execRngReady katM katK s := rfl
@[simp] theorem exec_pufReconstructionDone (ok : Bool) : exec (.pufReconstructionDone ok) s = execPufReconstructionDone ok s := rfl
@[simp] theorem exec_loaderLive : exec .loaderLive s = execLoaderLive s := rfl
@[simp] theorem exec_rngBootTimeout : exec .rngBootTimeout s = execRngBootTimeout s := rfl
@[simp] theorem exec_ldrGo (f : Fin 64) (v : Word) : exec (.ldrGo f v) s = execLdrGo f v s := rfl
@[simp] theorem exec_imageReadTimeout : exec .imageReadTimeout s = execImageReadTimeout s := rfl
@[simp] theorem exec_imageVerifyDone (img : Image) : exec (.imageVerifyDone img) s = execImageVerifyDone img s := rfl
@[simp] theorem exec_mbxMsgLoWrite (m : MbxId) (side : Side) (v : Word) : exec (.mbxMsgLoWrite m side v) s = execMbxMsgLoWrite m side v s := rfl
@[simp] theorem exec_mbxMsgHiWrite (m : MbxId) (side : Side) (v : Word) : exec (.mbxMsgHiWrite m side v) s = execMbxMsgHiWrite m side v s := rfl
@[simp] theorem exec_mbxMsgHiRead (m : MbxId) (side : Side) : exec (.mbxMsgHiRead m side) s = execMbxMsgHiRead m side s := rfl
@[simp] theorem exec_mbxTimeout (m : MbxId) : exec (.mbxTimeout m) s = execMbxTimeout m s := rfl
@[simp] theorem exec_mbxDbellWrite (m : MbxId) (side : Side) (v : Word) : exec (.mbxDbellWrite m side v) s = execMbxDbellWrite m side v s := rfl
@[simp] theorem exec_mbxDbclrWrite (m : MbxId) (side : Side) (v : Word) : exec (.mbxDbclrWrite m side v) s = execMbxDbclrWrite m side v s := rfl
@[simp] theorem exec_mbxLockRead (m : MbxId) (requester : Fin 70) : exec (.mbxLockRead m requester) s = execMbxLockRead m requester s := rfl
@[simp] theorem exec_mbxLockWrite (m : MbxId) (requester : Fin 70) (v : Word) : exec (.mbxLockWrite m requester v) s = execMbxLockWrite m requester v s := rfl
@[simp] theorem exec_mbxHrouteWrite (f : Fin 64) (level : Level) (v : Word) : exec (.mbxHrouteWrite f level v) s = execMbxHrouteWrite f level v s := rfl
@[simp] theorem exec_evtNoticePost (f : Fin 64) : exec (.evtNoticePost f) s = execEvtNoticePost f s := rfl
@[simp] theorem exec_functionLevelReset (f : Fin 64) : exec (.functionLevelReset f) s = execFunctionLevelReset f s := rfl
@[simp] theorem exec_flrComplete (f : Fin 64) : exec (.flrComplete f) s = execFlrComplete f s := rfl
@[simp] theorem exec_hotReset : exec .hotReset s = execHotReset s := rfl
@[simp] theorem exec_d3hotToD0 (f : Fin 64) : exec (.d3hotToD0 f) s = execD3hotToD0 f s := rfl
@[simp] theorem exec_numVfsWrite (v : Half) : exec (.numVfsWrite v) s = execNumVfsWrite v s := rfl
@[simp] theorem exec_poisonedWrite (f : Fin 64) : exec (.poisonedWrite f) s = execPoisonedWrite f s := rfl
@[simp] theorem exec_barBadAccess (f : Fin 64) (x : HostAccess) : exec (.barBadAccess f x) s = execBarBadAccess f x s := rfl
@[simp] theorem exec_ideKmKeyProg (stream : Fin 9) (sub : Fin 3) (dir : Fin 2) (key : List Byte) : exec (.ideKmKeyProg stream sub dir key) s = execIdeKmKeyProg stream sub dir key s := rfl
@[simp] theorem exec_undefinedOpcode (h : CmdHdr) (opcode : Half) : exec (.undefinedOpcode h opcode) s = execUndefinedOpcode h opcode s := rfl
@[simp] theorem exec_commandTimeout (f : Fin 64) (tag : Word) (elapsed : Word) : exec (.commandTimeout f tag elapsed) s = execCommandTimeout f tag elapsed s := rfl
@[simp] theorem exec_sessionOpen (h : CmdHdr) (role : Byte) (rsv : Byte) (tenant : Half) (seq : Word) (sigLen : Word) (sig : List Byte) : exec (.sessionOpen h role rsv tenant seq sigLen sig) s = execSessionOpen h role rsv tenant seq sigLen sig s := rfl
@[simp] theorem exec_sessionClose (h : CmdHdr) : exec (.sessionClose h) s = execSessionClose h s := rfl
@[simp] theorem exec_quorumBegin (h : CmdHdr) (purpose : Half) (window : Half) (rsv : Word) (digest : BitVec 384) : exec (.quorumBegin h purpose window rsv digest) s = execQuorumBegin h purpose window rsv digest s := rfl
@[simp] theorem exec_quorumPresent (h : CmdHdr) (qid : Word) (source : Byte) (index : Byte) (rsv : Half) (file : Word) (cred : Credential) : exec (.quorumPresent h qid source index rsv file cred) s = execQuorumPresent h qid source index rsv file cred s := rfl
@[simp] theorem exec_quorumEnd (h : CmdHdr) (qid : Word) (rsv : Word) : exec (.quorumEnd h qid rsv) s = execQuorumEnd h qid rsv s := rfl
@[simp] theorem exec_quorumWindowEnd : exec .quorumWindowEnd s = execQuorumWindowEnd s := rfl
@[simp] theorem exec_ticketExpiry : exec .ticketExpiry s = execTicketExpiry s := rfl
@[simp] theorem exec_keyGenerate (h : CmdHdr) (t : Attr) : exec (.keyGenerate h t) s = execKeyGenerate h t s := rfl
@[simp] theorem exec_keyImport (h : CmdHdr) (wrap : Word) (format : Byte) (rsv : BitVec 24) (t : Attr) (wrappedLen : Word) (rsv2 : Word) (wrapped : List Byte) : exec (.keyImport h wrap format rsv t wrappedLen rsv2 wrapped) s = execKeyImport h wrap format rsv t wrappedLen rsv2 wrapped s := rfl
@[simp] theorem exec_keyExport (h : CmdHdr) (handle : Word) (wrap : Word) (format : Byte) (rsv : BitVec 56) : exec (.keyExport h handle wrap format rsv) s = execKeyExport h handle wrap format rsv s := rfl
@[simp] theorem exec_keyLoad (h : CmdHdr) (slot : Half) (rsv : Half) (blobLen : Word) (blob : List Byte) : exec (.keyLoad h slot rsv blobLen blob) s = execKeyLoad h slot rsv blobLen blob s := rfl
@[simp] theorem exec_keyUnload (h : CmdHdr) (handle : Word) (rsv : Word) : exec (.keyUnload h handle rsv) s = execKeyUnload h handle rsv s := rfl
@[simp] theorem exec_keyDerive (h : CmdHdr) (base : Word) (func : Byte) (rsv : Byte) (ctxLen : Half) (t : Attr) (ctx : List Byte) : exec (.keyDerive h base func rsv ctxLen t ctx) s = execKeyDerive h base func rsv ctxLen t ctx s := rfl
@[simp] theorem exec_keyDestroy (h : CmdHdr) (handle : Word) (rsv : Word) (keyId : Long) : exec (.keyDestroy h handle rsv keyId) s = execKeyDestroy h handle rsv keyId s := rfl
@[simp] theorem exec_keyAttest (h : CmdHdr) (handle : Word) (alg : Byte) (rsv : BitVec 24) (nonce : BitVec 256) : exec (.keyAttest h handle alg rsv nonce) s = execKeyAttest h handle alg rsv nonce s := rfl
@[simp] theorem exec_keyInfo (h : CmdHdr) (handle : Word) (rsv : Word) : exec (.keyInfo h handle rsv) s = execKeyInfo h handle rsv s := rfl
@[simp] theorem exec_payBlockImport (h : CmdHdr) (kbpk : Word) (len : Word) (block : List Byte) : exec (.payBlockImport h kbpk len block) s = execPayBlockImport h kbpk len block s := rfl
@[simp] theorem exec_payBlockExport (h : CmdHdr) (handle : Word) (kbpk : Word) (optLen : Half) (rsv : BitVec 48) (opt : List Byte) : exec (.payBlockExport h handle kbpk optLen rsv opt) s = execPayBlockExport h handle kbpk optLen rsv opt s := rfl
@[simp] theorem exec_payPinTranslate (h : CmdHdr) (inH : Word) (outH : Word) (inMode : Byte) (outMode : Byte) (rsv : BitVec 48) (inKsn : BitVec 96) (outKsn : BitVec 96) (pan : BitVec 128) (pin : BitVec 128) : exec (.payPinTranslate h inH outH inMode outMode rsv inKsn outKsn pan pin) s = execPayPinTranslate h inH outH inMode outMode rsv inKsn outKsn pan pin s := rfl
@[simp] theorem exec_sign (h : CmdHdr) (handle : Word) (input : Byte) (rsv : BitVec 24) (len : Word) (rsv2 : Word) (data : List Byte) : exec (.sign h handle input rsv len rsv2 data) s = execSign h handle input rsv len rsv2 data s := rfl
@[simp] theorem exec_verify (h : CmdHdr) (handle : Word) (input : Byte) (rsv : BitVec 24) (len : Word) (sigLen : Word) (data : List Byte) (sig : List Byte) : exec (.verify h handle input rsv len sigLen data sig) s = execVerify h handle input rsv len sigLen data sig s := rfl
@[simp] theorem exec_seal (h : CmdHdr) (handle : Word) (aadLen : Half) (rsv : Half) (dataLen : Word) (rsv2 : Word) (aad : List Byte) (data : List Byte) : exec (.seal h handle aadLen rsv dataLen rsv2 aad data) s = execSeal h handle aadLen rsv dataLen rsv2 aad data s := rfl
@[simp] theorem exec_unseal (h : CmdHdr) (handle : Word) (aadLen : Half) (rsv : Half) (sealedLen : Word) (rsv2 : Word) (aad : List Byte) (sealed : List Byte) : exec (.unseal h handle aadLen rsv sealedLen rsv2 aad sealed) s = execUnseal h handle aadLen rsv sealedLen rsv2 aad sealed s := rfl
@[simp] theorem exec_agree (h : CmdHdr) (handle : Word) (peerLen : Word) (t : Attr) (peer : List Byte) : exec (.agree h handle peerLen t peer) s = execAgree h handle peerLen t peer s := rfl
@[simp] theorem exec_encaps (h : CmdHdr) (handle : Word) (rsv : Word) (t : Attr) : exec (.encaps h handle rsv t) s = execEncaps h handle rsv t s := rfl
@[simp] theorem exec_decaps (h : CmdHdr) (handle : Word) (ctLen : Word) (t : Attr) (ct : List Byte) : exec (.decaps h handle ctLen t ct) s = execDecaps h handle ctLen t ct s := rfl
@[simp] theorem exec_ringCreate (h : CmdHdr) (ring : Half) (fn : Byte) (vector : Byte) (tenant : Half) (size : Byte) (flags : Byte) (desc : Long) (cmpl : Long) (shd : Long) : exec (.ringCreate h ring fn vector tenant size flags desc cmpl shd) s = execRingCreate h ring fn vector tenant size flags desc cmpl shd s := rfl
@[simp] theorem exec_ringDestroy (h : CmdHdr) (ring : Half) (rsv : BitVec 48) : exec (.ringDestroy h ring rsv) s = execRingDestroy h ring rsv s := rfl
@[simp] theorem exec_ringWindow (h : CmdHdr) (fn : Byte) (win : Byte) (rsv : BitVec 48) (base : Long) (limit : Long) : exec (.ringWindow h fn win rsv base limit) s = execRingWindow h fn win rsv base limit s := rfl
@[simp] theorem exec_ringStatus (h : CmdHdr) (ring : Half) (rsv : BitVec 48) : exec (.ringStatus h ring rsv) s = execRingStatus h ring rsv s := rfl
@[simp] theorem exec_portConfig (h : CmdHdr) (port : Byte) (rsv : BitVec 24) (recLen : Word) (r : PortRecord) : exec (.portConfig h port rsv recLen r) s = execPortConfig h port rsv recLen r s := rfl
@[simp] theorem exec_portStatus (h : CmdHdr) (port : Byte) (rsv : BitVec 56) : exec (.portStatus h port rsv) s = execPortStatus h port rsv s := rfl
@[simp] theorem exec_volumeBind (h : CmdHdr) (port : Byte) (rsv : BitVec 24) (volume : Word) (keyId : Long) (handle : Word) (rsv2 : Word) : exec (.volumeBind h port rsv volume keyId handle rsv2) s = execVolumeBind h port rsv volume keyId handle rsv2 s := rfl
@[simp] theorem exec_portHold (h : CmdHdr) (port : Byte) (rsv : BitVec 56) : exec (.portHold h port rsv) s = execPortHold h port rsv s := rfl
@[simp] theorem exec_portRelease (h : CmdHdr) (port : Byte) (rsv : BitVec 56) : exec (.portRelease h port rsv) s = execPortRelease h port rsv s := rfl
@[simp] theorem exec_alarmTableSet (h : CmdHdr) (qid : Word) (rsv : Word) (table : List Byte) : exec (.alarmTableSet h qid rsv table) s = execAlarmTableSet h qid rsv table s := rfl
@[simp] theorem exec_alarmTableGet (h : CmdHdr) : exec (.alarmTableGet h) s = execAlarmTableGet h s := rfl
@[simp] theorem exec_logExport (h : CmdHdr) (first : Word) (max : Word) : exec (.logExport h first max) s = execLogExport h first max s := rfl
@[simp] theorem exec_logRelease (h : CmdHdr) (seq : Word) (rsv : Word) : exec (.logRelease h seq rsv) s = execLogRelease h seq rsv s := rfl
@[simp] theorem exec_logStatus (h : CmdHdr) : exec (.logStatus h) s = execLogStatus h s := rfl
@[simp] theorem exec_randomGet (h : CmdHdr) (len : Word) (rsv : Word) : exec (.randomGet h len rsv) s = execRandomGet h len rsv s := rfl
@[simp] theorem exec_rngStatus (h : CmdHdr) : exec (.rngStatus h) s = execRngStatus h s := rfl
@[simp] theorem exec_rngAuditEnter (h : CmdHdr) (qid : Word) (rsv : Word) : exec (.rngAuditEnter h qid rsv) s = execRngAuditEnter h qid rsv s := rfl
@[simp] theorem exec_rngAuditExit (h : CmdHdr) : exec (.rngAuditExit h) s = execRngAuditExit h s := rfl
@[simp] theorem exec_cardStatus (h : CmdHdr) (kind : Byte) (index : Byte) (rsv : BitVec 48) : exec (.cardStatus h kind index rsv) s = execCardStatus h kind index rsv s := rfl
@[simp] theorem exec_cardRead (h : CmdHdr) (port : Byte) (rsv : BitVec 24) (first : Word) (count : Word) (rsv2 : Word) (io : CardIo) : exec (.cardRead h port rsv first count rsv2 io) s = execCardRead h port rsv first count rsv2 io s := rfl
@[simp] theorem exec_cardWrite (h : CmdHdr) (port : Byte) (rsv : BitVec 24) (first : Word) (count : Word) (rsv2 : Word) (data : List Byte) (io : CardIo) : exec (.cardWrite h port rsv first count rsv2 data io) s = execCardWrite h port rsv first count rsv2 data io s := rfl
@[simp] theorem exec_iccApdu (h : CmdHdr) (slot : Byte) (rsv : BitVec 24) (len : Word) (apdu : List Byte) (io : ApduIo) : exec (.iccApdu h slot rsv len apdu io) s = execIccApdu h slot rsv len apdu io s := rfl
@[simp] theorem exec_badgePoll (h : CmdHdr) (io : PollIo) : exec (.badgePoll h io) s = execBadgePoll h io s := rfl
@[simp] theorem exec_tagPost (h : CmdHdr) (page : Byte) (count : Byte) (rsv : BitVec 48) (data : List Byte) : exec (.tagPost h page count rsv data) s = execTagPost h page count rsv data s := rfl
@[simp] theorem exec_tagReadNotes (h : CmdHdr) (first : Byte) (count : Byte) (rsv : BitVec 48) : exec (.tagReadNotes h first count rsv) s = execTagReadNotes h first count rsv s := rfl
@[simp] theorem exec_tagSetAuditKey (h : CmdHdr) (len : Word) (rsv : Word) (blob : List Byte) : exec (.tagSetAuditKey h len rsv blob) s = execTagSetAuditKey h len rsv blob s := rfl
@[simp] theorem exec_domainJoin (h : CmdHdr) (qid : Word) (mLen : Word) (dLen : Word) (rsv : Word) (m : List Byte) (d : List Byte) : exec (.domainJoin h qid mLen dLen rsv m d) s = execDomainJoin h qid mLen dLen rsv m d s := rfl
@[simp] theorem exec_epochFloor (h : CmdHdr) (device : Half) (rsv : Half) (floor : Word) (sigLen : Word) (rsv2 : Word) (sig : List Byte) : exec (.epochFloor h device rsv floor sigLen rsv2 sig) s = execEpochFloor h device rsv floor sigLen rsv2 sig s := rfl
@[simp] theorem exec_pairBind (h : CmdHdr) (qid : Word) (partner : Half) (rsv : Half) : exec (.pairBind h qid partner rsv) s = execPairBind h qid partner rsv s := rfl
@[simp] theorem exec_pairStatus (h : CmdHdr) : exec (.pairStatus h) s = execPairStatus h s := rfl
@[simp] theorem exec_pairHandover (h : CmdHdr) (dir : Byte) (rsv : BitVec 56) : exec (.pairHandover h dir rsv) s = execPairHandover h dir rsv s := rfl
@[simp] theorem exec_deviceInfo (h : CmdHdr) : exec (.deviceInfo h) s = execDeviceInfo h s := rfl
@[simp] theorem exec_attestGet (h : CmdHdr) (alg : Byte) (rsv : BitVec 24) (mask : Word) (nonce : BitVec 256) : exec (.attestGet h alg rsv mask nonce) s = execAttestGet h alg rsv mask nonce s := rfl
@[simp] theorem exec_measRead (h : CmdHdr) (index : Byte) (rsv : BitVec 56) : exec (.measRead h index rsv) s = execMeasRead h index rsv s := rfl
@[simp] theorem exec_extLoad (h : CmdHdr) (qid : Word) (len : Word) (p : List Byte) : exec (.extLoad h qid len p) s = execExtLoad h qid len p s := rfl
@[simp] theorem exec_extUnload (h : CmdHdr) (moduleId : Word) (rsv : Word) : exec (.extUnload h moduleId rsv) s = execExtUnload h moduleId rsv s := rfl
@[simp] theorem exec_fwStage (h : CmdHdr) (addr : Long) (len : Word) (rsv : Word) : exec (.fwStage h addr len rsv) s = execFwStage h addr len rsv s := rfl
@[simp] theorem exec_fwStageVerifyDone (img : Image) (elapsed : Word) : exec (.fwStageVerifyDone img elapsed) s = execFwStageVerifyDone img elapsed s := rfl
@[simp] theorem exec_floorRaise (h : CmdHdr) (qid : Word) (which : Byte) (value : Byte) (rsv : Half) : exec (.floorRaise h qid which value rsv) s = execFloorRaise h qid which value rsv s := rfl
@[simp] theorem exec_phaseAdvance (h : CmdHdr) (target : Byte) (rsv : BitVec 56) : exec (.phaseAdvance h target rsv) s = execPhaseAdvance h target rsv s := rfl
@[simp] theorem exec_shelfDown (h : CmdHdr) (shadows : List (Fin 16384 × Long)) : exec (.shelfDown h shadows) s = execShelfDown h shadows s := rfl
@[simp] theorem exec_shelfDownComplete (elapsed : Word) : exec (.shelfDownComplete elapsed) s = execShelfDownComplete elapsed s := rfl
@[simp] theorem exec_sensorRead (h : CmdHdr) (index : Half) (rsv : BitVec 48) : exec (.sensorRead h index rsv) s = execSensorRead h index rsv s := rfl
@[simp] theorem exec_eventRead (h : CmdHdr) (first : Word) (max : Word) : exec (.eventRead h first max) s = execEventRead h first max s := rfl
@[simp] theorem exec_mgtConfig (h : CmdHdr) (map : Long) (addr : Byte) (rsv : BitVec 24) (chainLen : Word) (chain : List Byte) : exec (.mgtConfig h map addr rsv chainLen chain) s = execMgtConfig h map addr rsv chainLen chain s := rfl
@[simp] theorem exec_doorbellWrite (f : Fin 64) (ring : Fin 16384) (v : Long) : exec (.doorbellWrite f ring v) s = execDoorbellWrite f ring v s := rfl
@[simp] theorem exec_tailShadowRead (ring : Fin 16384) (v : Long) : exec (.tailShadowRead ring v) s = execTailShadowRead ring v s := rfl
@[simp] theorem exec_descriptorFetch (ring : Fin 16384) : exec (.descriptorFetch ring) s = execDescriptorFetch ring s := rfl
@[simp] theorem exec_descriptorArrival (ring : Fin 16384) (data : List Byte) : exec (.descriptorArrival ring data) s = execDescriptorArrival ring data s := rfl
@[simp] theorem exec_descriptorReadEarlyEnd (ring : Fin 16384) (data : List Byte) (e : EarlyEnd) : exec (.descriptorReadEarlyEnd ring data e) s = execDescriptorReadEarlyEnd ring data e s := rfl
@[simp] theorem exec_admission (ring : Fin 16384) (n : Word) : exec (.admission ring n) s = execAdmission ring n s := rfl
@[simp] theorem exec_keyStage (ring : Fin 16384) (n : Word) : exec (.keyStage ring n) s = execKeyStage ring n s := rfl
@[simp] theorem exec_cutStage (ring : Fin 16384) (n : Word) : exec (.cutStage ring n) s = execCutStage ring n s := rfl
@[simp] theorem exec_cutWriteBack (core : Fin 16) (e : CutEnd) : exec (.cutWriteBack core e) s = execCutWriteBack core e s := rfl
@[simp] theorem exec_dmaReadEarlyEnd (ring : Fin 16384) (n : Word) (received : Word) (e : EarlyEnd) : exec (.dmaReadEarlyEnd ring n received e) s = execDmaReadEarlyEnd ring n received e s := rfl
@[simp] theorem exec_tagStage (ring : Fin 16384) (n : Word) (ghashOk : Bool) (read : List Byte) : exec (.tagStage ring n ghashOk read) s = execTagStage ring n ghashOk read s := rfl
@[simp] theorem exec_releaseStage (ring : Fin 16384) (n : Word) : exec (.releaseStage ring n) s = execReleaseStage ring n s := rfl
@[simp] theorem exec_sectorStaged (port : Fin 16) (ring : Fin 16384) (n : Word) : exec (.sectorStaged port ring n) s = execSectorStaged port ring n s := rfl
@[simp] theorem exec_completionWrite (ring : Fin 16384) : exec (.completionWrite ring) s = execCompletionWrite ring s := rfl
@[simp] theorem exec_ringMsixSend (f : Fin 64) (vector : Fin 32) : exec (.ringMsixSend f vector) s = execRingMsixSend f vector s := rfl
@[simp] theorem exec_ringCtlCreate (level : Level) : exec (.ringCtlCreate level) s = execRingCtlCreate level s := rfl
@[simp] theorem exec_ringCtlDestroy (level : Level) : exec (.ringCtlDestroy level) s = execRingCtlDestroy level s := rfl
@[simp] theorem exec_ringAbortAll (level : Level) : exec (.ringAbortAll level) s = execRingAbortAll level s := rfl
@[simp] theorem exec_shelfDownTimeout : exec .shelfDownTimeout s = execShelfDownTimeout s := rfl
@[simp] theorem exec_clkCtrlWrite (writer : CoreNo) (level : Level) (v : Word) : exec (.clkCtrlWrite writer level v) s = execClkCtrlWrite writer level v s := rfl
@[simp] theorem exec_cphKatRun (core : Fin 16) (level : Level) : exec (.cphKatRun core level) s = execCphKatRun core level s := rfl
@[simp] theorem exec_cphKatDone (core : Fin 16) (pass : Bool) : exec (.cphKatDone core pass) s = execCphKatDone core pass s := rfl
@[simp] theorem exec_maskingReseed (core : Fin 16) : exec (.maskingReseed core) s = execMaskingReseed core s := rfl
@[simp] theorem exec_maskingStop (core : Fin 16) : exec (.maskingStop core) s = execMaskingStop core s := rfl
@[simp] theorem exec_blockLockAcquired (port : Fin 16) : exec (.blockLockAcquired port) s = execBlockLockAcquired port s := rfl
@[simp] theorem exec_blockLockLost (port : Fin 16) : exec (.blockLockLost port) s = execBlockLockLost port s := rfl
@[simp] theorem exec_caps (port : Fin 16) (fh : FrameHdr) (version : Byte) (flags : Byte) (mask : Byte) (rsv : BitVec 32) (identity : BitVec 128) : exec (.caps port fh version flags mask rsv identity) s = execCaps port fh version flags mask rsv identity s := rfl
@[simp] theorem exec_geometry (port : Fin 16) (fh : FrameHdr) (tpp : Long) (pitch : Word) (spp : Word) (offs : Word) (code : Byte) (rsv : BitVec 48) : exec (.geometry port fh tpp pitch spp offs code rsv) s = execGeometry port fh tpp pitch spp offs code rsv s := rfl
@[simp] theorem exec_loopEcho (port : Fin 16) (fh : FrameHdr) (token : Word) (turnaroundNs : Half) (rsv : BitVec 40) (count : Nat) : exec (.loopEcho port fh token turnaroundNs rsv count) s = execLoopEcho port fh token turnaroundNs rsv count s := rfl
@[simp] theorem exec_trainingAnswerTimeout (port : Fin 16) : exec (.trainingAnswerTimeout port) s = execTrainingAnswerTimeout port s := rfl
@[simp] theorem exec_retrainTimer (port : Fin 16) : exec (.retrainTimer port) s = execRetrainTimer port s := rfl
@[simp] theorem exec_solRetrain (port : Fin 16) (level : Level) : exec (.solRetrain port level) s = execSolRetrain port level s := rfl
@[simp] theorem exec_pos (port : Fin 16) (fh : FrameHdr) (fine : BitVec 48) (pass : Half) (ackSeq : Half) (flags : Byte) (rsv : Byte) (skipMask : Word) (tRx : BitVec 48) (tUpd : BitVec 48) : exec (.pos port fh fine pass ackSeq flags rsv skipMask tRx tUpd) s = execPos port fh fine pass ackSeq flags rsv skipMask tRx tUpd s := rfl
@[simp] theorem exec_sector (port : Fin 16) (fh : FrameHdr) (format : Half) (codeWord : Half) (keyId : Long) (iv : BitVec 96) (addr : Long) : exec (.sector port fh format codeWord keyId iv addr) s = execSector port fh format codeWord keyId iv addr s := rfl
@[simp] theorem exec_sectorFrameEnd (port : Fin 16) (data : List Byte) (excess : Nat) : exec (.sectorFrameEnd port data excess) s = execSectorFrameEnd port data excess s := rfl
@[simp] theorem exec_holdResume (port : Fin 16) (fh : FrameHdr) (kind : Byte) (reason : Byte) (rsv : Half) : exec (.holdResume port fh kind reason rsv) s = execHoldResume port fh kind reason rsv s := rfl
@[simp] theorem exec_idle (port : Fin 16) (fh : FrameHdr) : exec (.idle port fh) s = execIdle port fh s := rfl
@[simp] theorem exec_badFrame (port : Fin 16) (type : Byte) (fh : FrameHdr) (data : List Byte) (excess : Nat) : exec (.badFrame port type fh data excess) s = execBadFrame port type fh data excess s := rfl
@[simp] theorem exec_idleSendTimer (port : Fin 16) : exec (.idleSendTimer port) s = execIdleSendTimer port s := rfl
@[simp] theorem exec_creditSend (port : Fin 16) : exec (.creditSend port) s = execCreditSend port s := rfl
@[simp] theorem exec_windowOpen (port : Fin 16) (t : BitVec 48) : exec (.windowOpen port t) s = execWindowOpen port t s := rfl
@[simp] theorem exec_stampTimeout (port : Fin 16) (tie : Bool) : exec (.stampTimeout port tie) s = execStampTimeout port tie s := rfl
@[simp] theorem exec_holdLimit (port : Fin 16) : exec (.holdLimit port) s = execHoldLimit port s := rfl
@[simp] theorem exec_pkeCmdBadOp (n : Fin 4) (op : Byte) (k : PkeCmd) : exec (.pkeCmdBadOp n op k) s = execPkeCmdBadOp n op k s := rfl
@[simp] theorem exec_rsaPriv (n : Fin 4) (k : PkeCmd) : exec (.rsaPriv n k) s = execRsaPriv n k s := rfl
@[simp] theorem exec_rsaPub (n : Fin 4) (k : PkeCmd) : exec (.rsaPub n k) s = execRsaPub n k s := rfl
@[simp] theorem exec_ecKeygen (n : Fin 4) (k : PkeCmd) : exec (.ecKeygen n k) s = execEcKeygen n k s := rfl
@[simp] theorem exec_ecdsaSign (n : Fin 4) (k : PkeCmd) : exec (.ecdsaSign n k) s = execEcdsaSign n k s := rfl
@[simp] theorem exec_ecdsaVerify (n : Fin 4) (k : PkeCmd) : exec (.ecdsaVerify n k) s = execEcdsaVerify n k s := rfl
@[simp] theorem exec_ecdh (n : Fin 4) (k : PkeCmd) : exec (.ecdh n k) s = execEcdh n k s := rfl
@[simp] theorem exec_cvKeygen (n : Fin 4) (k : PkeCmd) : exec (.cvKeygen n k) s = execCvKeygen n k s := rfl
@[simp] theorem exec_edSign (n : Fin 4) (k : PkeCmd) : exec (.edSign n k) s = execEdSign n k s := rfl
@[simp] theorem exec_edVerify (n : Fin 4) (k : PkeCmd) : exec (.edVerify n k) s = execEdVerify n k s := rfl
@[simp] theorem exec_x25519 (n : Fin 4) (k : PkeCmd) : exec (.x25519 n k) s = execX25519 n k s := rfl
@[simp] theorem exec_mlkemKeygen (n : Fin 4) (k : PkeCmd) : exec (.mlkemKeygen n k) s = execMlkemKeygen n k s := rfl
@[simp] theorem exec_mlkemEncaps (n : Fin 4) (k : PkeCmd) : exec (.mlkemEncaps n k) s = execMlkemEncaps n k s := rfl
@[simp] theorem exec_mlkemDecaps (n : Fin 4) (k : PkeCmd) : exec (.mlkemDecaps n k) s = execMlkemDecaps n k s := rfl
@[simp] theorem exec_mldsaKeygen (n : Fin 4) (k : PkeCmd) : exec (.mldsaKeygen n k) s = execMldsaKeygen n k s := rfl
@[simp] theorem exec_mldsaSign (n : Fin 4) (k : PkeCmd) : exec (.mldsaSign n k) s = execMldsaSign n k s := rfl
@[simp] theorem exec_mldsaVerify (n : Fin 4) (k : PkeCmd) : exec (.mldsaVerify n k) s = execMldsaVerify n k s := rfl
@[simp] theorem exec_checkKey (n : Fin 4) (k : PkeCmd) : exec (.checkKey n k) s = execCheckKey n k s := rfl
@[simp] theorem exec_pkeWaitEnd (n : Fin 4) : exec (.pkeWaitEnd n) s = execPkeWaitEnd n s := rfl
@[simp] theorem exec_pkeValidationEnd (n : Fin 4) : exec (.pkeValidationEnd n) s = execPkeValidationEnd n s := rfl
@[simp] theorem exec_pkeOpDone (n : Fin 4) (d : PkeDone) : exec (.pkeOpDone n d) s = execPkeOpDone n d s := rfl
@[simp] theorem exec_pkeAbort (n : Fin 4) (master : CoreNo) (level : Level) (v : Word) : exec (.pkeAbort n master level v) s = execPkeAbort n master level v s := rfl
@[simp] theorem exec_pkeClear (n : Fin 4) (master : CoreNo) (level : Level) (v : Word) : exec (.pkeClear n master level v) s = execPkeClear n master level v s := rfl
@[simp] theorem exec_pkeClearDone (n : Fin 4) : exec (.pkeClearDone n) s = execPkeClearDone n s := rfl
@[simp] theorem exec_pkeKatRun (n : Fin 4) (level : Level) : exec (.pkeKatRun n level) s = execPkeKatRun n level s := rfl
@[simp] theorem exec_pkeKatDone (n : Fin 4) (pass : Bool) : exec (.pkeKatDone n pass) s = execPkeKatDone n pass s := rfl
@[simp] theorem exec_digInit (m : CoreNo) (k : DigCmd) : exec (.digInit m k) s = execDigInit m k s := rfl
@[simp] theorem exec_digUpdate (m : CoreNo) (k : DigCmd) : exec (.digUpdate m k) s = execDigUpdate m k s := rfl
@[simp] theorem exec_digFinal (m : CoreNo) (k : DigCmd) : exec (.digFinal m k) s = execDigFinal m k s := rfl
@[simp] theorem exec_digSave (m : CoreNo) (k : DigCmd) : exec (.digSave m k) s = execDigSave m k s := rfl
@[simp] theorem exec_digRestore (m : CoreNo) (k : DigCmd) : exec (.digRestore m k) s = execDigRestore m k s := rfl
@[simp] theorem exec_digExtend (m : CoreNo) (k : DigCmd) : exec (.digExtend m k) s = execDigExtend m k s := rfl
@[simp] theorem exec_digAbort (m : CoreNo) (k : DigCmd) : exec (.digAbort m k) s = execDigAbort m k s := rfl
@[simp] theorem exec_digestSegmentEnd (unit : Fin 4) (mismatch : Bool) (rerunFails : Bool) : exec (.digestSegmentEnd unit mismatch rerunFails) s = execDigestSegmentEnd unit mismatch rerunFails s := rfl
@[simp] theorem exec_digestOpDone (m : CoreNo) (unit : Fin 4) : exec (.digestOpDone m unit) s = execDigestOpDone m unit s := rfl
@[simp] theorem exec_digKatRun (unit : Fin 4) (level : Level) : exec (.digKatRun unit level) s = execDigKatRun unit level s := rfl
@[simp] theorem exec_digKatDone (pass : Bool) : exec (.digKatDone pass) s = execDigKatDone pass s := rfl
@[simp] theorem exec_measWord0Read (n : Fin 32) : exec (.measWord0Read n) s = execMeasWord0Read n s := rfl
@[simp] theorem exec_sourceHealthFail (src : Fin 28) (run : Nat) (same : Nat) : exec (.sourceHealthFail src run same) s = execSourceHealthFail src run same s := rfl
@[simp] theorem exec_sourceRetestStart (src : Fin 28) : exec (.sourceRetestStart src) s = execSourceRetestStart src s := rfl
@[simp] theorem exec_sourceRetestEnd (src : Fin 28) (run : Nat) (same : Nat) : exec (.sourceRetestEnd src run same) s = execSourceRetestEnd src run same s := rfl
@[simp] theorem exec_conditionedBlock (classM : Bool) (tie : Bool) : exec (.conditionedBlock classM tie) s = execConditionedBlock classM tie s := rfl
@[simp] theorem exec_drbgInstantiate (i : Fin 32) : exec (.drbgInstantiate i) s = execDrbgInstantiate i s := rfl
@[simp] theorem exec_drbgBackgroundReseed (i : Fin 32) : exec (.drbgBackgroundReseed i) s = execDrbgBackgroundReseed i s := rfl
@[simp] theorem exec_rngReq (c : CoreNo) (writer : CoreNo) (level : Level) (v : Word) : exec (.rngReq c writer level v) s = execRngReq c writer level v s := rfl
@[simp] theorem exec_rngWaitLimit (c : CoreNo) : exec (.rngWaitLimit c) s = execRngWaitLimit c s := rfl
@[simp] theorem exec_rngDataRead (c : CoreNo) : exec (.rngDataRead c) s = execRngDataRead c s := rfl
@[simp] theorem exec_auditSet (level : Level) : exec (.auditSet level) s = execAuditSet level s := rfl
@[simp] theorem exec_auditClear (level : Level) : exec (.auditClear level) s = execAuditClear level s := rfl
@[simp] theorem exec_rngRawselWrite (c : CoreNo) (level : Level) (v : Word) : exec (.rngRawselWrite c level v) s = execRngRawselWrite c level v s := rfl
@[simp] theorem exec_rngRawRead (c : CoreNo) (level : Level) : exec (.rngRawRead c level) s = execRngRawRead c level s := rfl
@[simp] theorem exec_alarmAssert (tick : List (Fin 57 × Word)) : exec (.alarmAssert tick) s = execAlarmAssert tick s := rfl
@[simp] theorem exec_alarmAssertDark (src : Fin 57) (detail : Word) : exec (.alarmAssertDark src detail) s = execAlarmAssertDark src detail s := rfl
@[simp] theorem exec_mainResetAssert : exec .mainResetAssert s = execMainResetAssert s := rfl
@[simp] theorem exec_haltLift : exec .haltLift s = execHaltLift s := rfl
@[simp] theorem exec_logCommit : exec .logCommit s = execLogCommit s := rfl
@[simp] theorem exec_coalesceWindowEnd (src : Fin 57) : exec (.coalesceWindowEnd src) s = execCoalesceWindowEnd src s := rfl
@[simp] theorem exec_almRaise (writer : CoreNo) (level : Level) (v : Word) : exec (.almRaise writer level v) s = execAlmRaise writer level v s := rfl
@[simp] theorem exec_almRespWrite (level : Level) (k : Fin 16) (v : Word) : exec (.almRespWrite level k v) s = execAlmRespWrite level k v s := rfl
@[simp] theorem exec_almLogExpWrite (level : Level) (v : Word) : exec (.almLogExpWrite level v) s = execAlmLogExpWrite level v s := rfl
@[simp] theorem exec_almLogRelWrite (level : Level) (v : Word) : exec (.almLogRelWrite level v) s = execAlmLogRelWrite level v s := rfl
@[simp] theorem exec_almLogDataRead (w : Fin 8) : exec (.almLogDataRead w) s = execAlmLogDataRead w s := rfl
@[simp] theorem exec_tampStep (loop : Fin 4) (level : Bool) (detail : Word) : exec (.tampStep loop level detail) s = execTampStep loop level detail s := rfl
@[simp] theorem exec_insFloorWrite (level : Level) (v : Word) : exec (.insFloorWrite level v) s = execInsFloorWrite level v s := rfl
@[simp] theorem exec_insIkctlGen (level : Level) : exec (.insIkctlGen level) s = execInsIkctlGen level s := rfl
@[simp] theorem exec_ikStored : exec .ikStored s = execIkStored s := rfl
@[simp] theorem exec_insoleSeedDelivery : exec .insoleSeedDelivery s = execInsoleSeedDelivery s := rfl
@[simp] theorem exec_insAudctlLoad (level : Level) : exec (.insAudctlLoad level) s = execInsAudctlLoad level s := rfl
@[simp] theorem exec_insAudctlClear (level : Level) : exec (.insAudctlClear level) s = execInsAudctlClear level s := rfl
@[simp] theorem exec_insTagSelWrite (level : Level) (v : Word) : exec (.insTagSelWrite level v) s = execInsTagSelWrite level v s := rfl
@[simp] theorem exec_insTagCommit (level : Level) : exec (.insTagCommit level) s = execInsTagCommit level s := rfl
@[simp] theorem exec_tagHostWaitExpiry (tie : Bool) : exec (.tagHostWaitExpiry tie) s = execTagHostWaitExpiry tie s := rfl
@[simp] theorem exec_budgetRefill : exec .budgetRefill s = execBudgetRefill s := rfl
@[simp] theorem exec_fieldDetected : exec .fieldDetected s = execFieldDetected s := rfl
@[simp] theorem exec_fieldLost : exec .fieldLost s = execFieldLost s := rfl
@[simp] theorem exec_sessionInactivity (tie : Bool) : exec (.sessionInactivity tie) s = execSessionInactivity tie s := rfl
@[simp] theorem exec_reqa : exec .reqa s = execReqa s := rfl
@[simp] theorem exec_wupa : exec .wupa s = execWupa s := rfl
@[simp] theorem exec_anticollision : exec .anticollision s = execAnticollision s := rfl
@[simp] theorem exec_isoSelect (uid : Word) : exec (.isoSelect uid) s = execIsoSelect uid s := rfl
@[simp] theorem exec_hlta : exec .hlta s = execHlta s := rfl
@[simp] theorem exec_rats : exec .rats s = execRats s := rfl
@[simp] theorem exec_pps (dsi : BitVec 2) (dri : BitVec 2) : exec (.pps dsi dri) s = execPps dsi dri s := rfl
@[simp] theorem exec_rBlock (nak : Bool) (blockNo : Bool) : exec (.rBlock nak blockNo) s = execRBlock nak blockNo s := rfl
@[simp] theorem exec_sDeselect : exec .sDeselect s = execSDeselect s := rfl
@[simp] theorem exec_select (aid : List Byte) : exec (.select aid) s = execSelect aid s := rfl
@[simp] theorem exec_readPage (cla : Byte) (page : Byte) (data : List Byte) (leOk : Bool) : exec (.readPage cla page data leOk) s = execReadPage cla page data leOk s := rfl
@[simp] theorem exec_auth1 (data : List Byte) (leOk : Bool) : exec (.auth1 data leOk) s = execAuth1 data leOk s := rfl
@[simp] theorem exec_auth2 (data : List Byte) (leOk : Bool) : exec (.auth2 data leOk) s = execAuth2 data leOk s := rfl
@[simp] theorem exec_writeNotes (page : Byte) (data : List Byte) (leOk : Bool) (collapse : Option Bool) : exec (.writeNotes page data leOk collapse) s = execWriteNotes page data leOk collapse s := rfl
@[simp] theorem exec_readLog (data : List Byte) (leOk : Bool) : exec (.readLog data leOk) s = execReadLog data leOk s := rfl
@[simp] theorem exec_getStatus (data : List Byte) (leOk : Bool) : exec (.getStatus data leOk) s = execGetStatus data leOk s := rfl
@[simp] theorem exec_unsupportedApdu (cla : Byte) (ins : Byte) : exec (.unsupportedApdu cla ins) s = execUnsupportedApdu cla ins s := rfl
@[simp] theorem exec_authBlockEnd : exec .authBlockEnd s = execAuthBlockEnd s := rfl
@[simp] theorem exec_clsPoll (level : Level) : exec (.clsPoll level) s = execClsPoll level s := rfl
@[simp] theorem exec_clsAbort (level : Level) : exec (.clsAbort level) s = execClsAbort level s := rfl
@[simp] theorem exec_clsXchg (level : Level) : exec (.clsXchg level) s = execClsXchg level s := rfl
@[simp] theorem exec_pollRound (typeA : Option (List Byte)) (typeB : Option (List Byte)) (fieldSeen : Bool) : exec (.pollRound typeA typeB fieldSeen) s = execPollRound typeA typeB fieldSeen s := rfl
@[simp] theorem exec_pollTimeout : exec .pollTimeout s = execPollTimeout s := rfl
@[simp] theorem exec_badgeExchangeEnd (answer : Option (List Byte)) : exec (.badgeExchangeEnd answer) s = execBadgeExchangeEnd answer s := rfl
@[simp] theorem exec_sdCardInserted (p : Fin 4) : exec (.sdCardInserted p) s = execSdCardInserted p s := rfl
@[simp] theorem exec_sdSettleEnd (p : Fin 4) : exec (.sdSettleEnd p) s = execSdSettleEnd p s := rfl
@[simp] theorem exec_sdInitDone (p : Fin 4) (why : BitVec 4) (cSize : Nat) (modes : BitVec 7) (v18 : Bool) (cmd23 : Bool) (passes : List (BitVec 40)) (wp : Bool) (scan : CardScan) : exec (.sdInitDone p why cSize modes v18 cmd23 passes wp scan) s = execSdInitDone p why cSize modes v18 cmd23 passes wp scan s := rfl
@[simp] theorem exec_sdCardRemoved (p : Fin 4) : exec (.sdCardRemoved p) s = execSdCardRemoved p s := rfl
@[simp] theorem exec_sdRead (p : Fin 4) (level : Level) : exec (.sdRead p level) s = execSdRead p level s := rfl
@[simp] theorem exec_sdWrite (p : Fin 4) (level : Level) : exec (.sdWrite p level) s = execSdWrite p level s := rfl
@[simp] theorem exec_sdAbort (p : Fin 4) (level : Level) : exec (.sdAbort p level) s = execSdAbort p level s := rfl
@[simp] theorem exec_sdRetune (p : Fin 4) (level : Level) (passes : List (BitVec 40)) : exec (.sdRetune p level passes) s = execSdRetune p level passes s := rfl
@[simp] theorem exec_sdPowerOff (p : Fin 4) (level : Level) : exec (.sdPowerOff p level) s = execSdPowerOff p level s := rfl
@[simp] theorem exec_sdPowerOn (p : Fin 4) (level : Level) : exec (.sdPowerOn p level) s = execSdPowerOn p level s := rfl
@[simp] theorem exec_sdBusyEnd (p : Fin 4) : exec (.sdBusyEnd p) s = execSdBusyEnd p s := rfl
@[simp] theorem exec_sdBusyTimeout (p : Fin 4) : exec (.sdBusyTimeout p) s = execSdBusyTimeout p s := rfl
@[simp] theorem exec_sdResponseTimeout (p : Fin 4) : exec (.sdResponseTimeout p) s = execSdResponseTimeout p s := rfl
@[simp] theorem exec_sdTransferEnd (p : Fin 4) (data : List Byte) (crcOk : Bool) : exec (.sdTransferEnd p data crcOk) s = execSdTransferEnd p data crcOk s := rfl
@[simp] theorem exec_iccCardRemoved (k : Fin 2) (tie : Bool) : exec (.iccCardRemoved k tie) s = execIccCardRemoved k tie s := rfl
@[simp] theorem exec_iccActivate (k : Fin 2) (level : Level) : exec (.iccActivate k level) s = execIccActivate k level s := rfl
@[simp] theorem exec_iccDeactivate (k : Fin 2) (level : Level) : exec (.iccDeactivate k level) s = execIccDeactivate k level s := rfl
@[simp] theorem exec_iccXchg (k : Fin 2) (level : Level) : exec (.iccXchg k level) s = execIccXchg k level s := rfl
@[simp] theorem exec_atrReceived (k : Fin 2) (atr : List Byte) (ppsOk : Bool) : exec (.atrReceived k atr ppsOk) s = execAtrReceived k atr ppsOk s := rfl
@[simp] theorem exec_atrTimeout (k : Fin 2) : exec (.atrTimeout k) s = execAtrTimeout k s := rfl
@[simp] theorem exec_iccWwtExceeded (k : Fin 2) : exec (.iccWwtExceeded k) s = execIccWwtExceeded k s := rfl
@[simp] theorem exec_iccClockStop (k : Fin 2) : exec (.iccClockStop k) s = execIccClockStop k s := rfl
@[simp] theorem exec_weltLaneLock (l : Fin 2) : exec (.weltLaneLock l) s = execWeltLaneLock l s := rfl
@[simp] theorem exec_weltLaneLoss (l : Fin 2) : exec (.weltLaneLoss l) s = execWeltLaneLoss l s := rfl
@[simp] theorem exec_hello (fr : WeltRx) (carrying : Bool) : exec (.hello fr carrying) s = execHello fr carrying s := rfl
@[simp] theorem exec_weltSessionKeyReady : exec .weltSessionKeyReady s = execWeltSessionKeyReady s := rfl
@[simp] theorem exec_confirm (fr : WeltRx) : exec (.confirm fr) s = execConfirm fr s := rfl
@[simp] theorem exec_heartbeat (fr : WeltRx) : exec (.heartbeat fr) s = execHeartbeat fr s := rfl
@[simp] theorem exec_mirror (fr : WeltRx) (seq : Word) (r : MirrorRec) : exec (.mirror fr seq r) s = execMirror fr seq r s := rfl
@[simp] theorem exec_ack (fr : WeltRx) : exec (.ack fr) s = execAck fr s := rfl
@[simp] theorem exec_depart (fr : WeltRx) : exec (.depart fr) s = execDepart fr s := rfl
@[simp] theorem exec_bind (fr : WeltRx) (elapsed : Word) : exec (.bind fr elapsed) s = execBind fr elapsed s := rfl
@[simp] theorem exec_weltIdle : exec .weltIdle s = execWeltIdle s := rfl
@[simp] theorem exec_weltBadFrame (type : Byte) (fr : WeltRx) : exec (.weltBadFrame type fr) s = execWeltBadFrame type fr s := rfl
@[simp] theorem exec_weltHeartbeatSend : exec .weltHeartbeatSend s = execWeltHeartbeatSend s := rfl
@[simp] theorem exec_hostWordWrite (word : Long) : exec (.hostWordWrite word) s = execHostWordWrite word s := rfl
@[simp] theorem exec_partnerWordRead (word : Long) (scan : List (Fin 16384 × List Bool)) : exec (.partnerWordRead word scan) s = execPartnerWordRead word scan s := rfl
@[simp] theorem exec_weltHeartbeatTimeout (tie : Bool) (scan : List (Fin 16384 × List Bool)) : exec (.weltHeartbeatTimeout tie scan) s = execWeltHeartbeatTimeout tie scan s := rfl
@[simp] theorem exec_partnerWordStale (scan : List (Fin 16384 × List Bool)) (us : Word) (tie : Bool) : exec (.partnerWordStale scan us tie) s = execPartnerWordStale scan us tie s := rfl
@[simp] theorem exec_mirrorResend (seq : Word) : exec (.mirrorResend seq) s = execMirrorResend seq s := rfl
@[simp] theorem exec_sensorRefresh (readings : List (BitVec 32)) : exec (.sensorRefresh readings) s = execSensorRefresh readings s := rfl
@[simp] theorem exec_pwrWdogWrite (c : Fin 4) (writer : CoreNo) (v : Word) : exec (.pwrWdogWrite c writer v) s = execPwrWdogWrite c writer v s := rfl
@[simp] theorem exec_watchdogExpiry (c : Fin 4) (tie : Bool) : exec (.watchdogExpiry c tie) s = execWatchdogExpiry c tie s := rfl
@[simp] theorem exec_coreRestartRelease (c : Fin 4) : exec (.coreRestartRelease c) s = execCoreRestartRelease c s := rfl
@[simp] theorem exec_cobblerRestart : exec .cobblerRestart s = execCobblerRestart s := rfl
@[simp] theorem exec_katSchedule (unit : Fin 24) : exec (.katSchedule unit) s = execKatSchedule unit s := rfl
@[simp] theorem exec_quietPoint (elapsed : Word) : exec (.quietPoint elapsed) s = execQuietPoint elapsed s := rfl
@[simp] theorem exec_smbusSclTimeout : exec .smbusSclTimeout s = execSmbusSclTimeout s := rfl
@[simp] theorem exec_setEndpointId (eid : Byte) : exec (.setEndpointId eid) s = execSetEndpointId eid s := rfl
@[simp] theorem exec_getEndpointId : exec .getEndpointId s = execGetEndpointId s := rfl
@[simp] theorem exec_getMctpVersion (msgType : Byte) : exec (.getMctpVersion msgType) s = execGetMctpVersion msgType s := rfl
@[simp] theorem exec_getMessageTypeSupport : exec .getMessageTypeSupport s = execGetMessageTypeSupport s := rfl
@[simp] theorem exec_getPdr (record : Word) : exec (.getPdr record) s = execGetPdr record s := rfl
@[simp] theorem exec_getSensorReading (sensor : Half) : exec (.getSensorReading sensor) s = execGetSensorReading sensor s := rfl
@[simp] theorem exec_setNumericSensorEnable (sensor : Half) (opState : Byte) (events : Byte) : exec (.setNumericSensorEnable sensor opState events) s = execSetNumericSensorEnable sensor opState events s := rfl
@[simp] theorem exec_getStateSensorReadings (sensor : Half) : exec (.getStateSensorReadings sensor) s = execGetStateSensorReadings sensor s := rfl
@[simp] theorem exec_getVersion : exec .getVersion s = execGetVersion s := rfl
@[simp] theorem exec_getCapabilities (version : Byte) : exec (.getCapabilities version) s = execGetCapabilities version s := rfl
@[simp] theorem exec_negotiateAlgorithms (p384 : Bool) (sha384 : Bool) : exec (.negotiateAlgorithms p384 sha384) s = execNegotiateAlgorithms p384 sha384 s := rfl
@[simp] theorem exec_getDigests : exec .getDigests s = execGetDigests s := rfl
@[simp] theorem exec_getCertificate (slot : Byte) (offset : Half) (len : Half) : exec (.getCertificate slot offset len) s = execGetCertificate slot offset len s := rfl
@[simp] theorem exec_challenge (slot : Byte) (nonce : BitVec 256) : exec (.challenge slot nonce) s = execChallenge slot nonce s := rfl
@[simp] theorem exec_getMeasurements (index : Byte) (signed : Bool) (nonce : BitVec 256) : exec (.getMeasurements index signed nonce) s = execGetMeasurements index signed nonce s := rfl
@[simp] theorem exec_keyExchange (slot : Byte) (random : BitVec 256) (doe : Bool) : exec (.keyExchange slot random doe) s = execKeyExchange slot random doe s := rfl
@[simp] theorem exec_finish (hmacOk : Bool) : exec (.finish hmacOk) s = execFinish hmacOk s := rfl
@[simp] theorem exec_endSession : exec .endSession s = execEndSession s := rfl
@[simp] theorem exec_vendorRawSamples (words : Nat) : exec (.vendorRawSamples words) s = execVendorRawSamples words s := rfl
@[simp] theorem exec_keyCmdLoad (c : Fin 4) (w : RegWriter) (any : Bool) (slot : Fin 32768) : exec (.keyCmdLoad c w any slot) s = execKeyCmdLoad c w any slot s := rfl
@[simp] theorem exec_keyCmdImport (c : Fin 4) (w : RegWriter) (any : Bool) (kw : Bool) (slot : Fin 32768) : exec (.keyCmdImport c w any kw slot) s = execKeyCmdImport c w any kw slot s := rfl
@[simp] theorem exec_keyCmdExport (c : Fin 4) (w : RegWriter) (kw : Bool) : exec (.keyCmdExport c w kw) s = execKeyCmdExport c w kw s := rfl
@[simp] theorem exec_keyCmdBlob (c : Fin 4) (w : RegWriter) : exec (.keyCmdBlob c w) s = execKeyCmdBlob c w s := rfl
@[simp] theorem exec_keyCmdGenerate (c : Fin 4) (w : RegWriter) (any : Bool) (slot : Fin 32768) : exec (.keyCmdGenerate c w any slot) s = execKeyCmdGenerate c w any slot s := rfl
@[simp] theorem exec_keyCmdUnload (c : Fin 4) (w : RegWriter) : exec (.keyCmdUnload c w) s = execKeyCmdUnload c w s := rfl
@[simp] theorem exec_keyCmdQuery (c : Fin 4) (w : RegWriter) : exec (.keyCmdQuery c w) s = execKeyCmdQuery c w s := rfl
@[simp] theorem exec_keyBlobInWrite (c : Fin 4) (w : RegWriter) (v : Word) : exec (.keyBlobInWrite c w v) s = execKeyBlobInWrite c w v s := rfl
@[simp] theorem exec_keyBlobOutRead (c : Fin 4) (w : RegWriter) : exec (.keyBlobOutRead c w) s = execKeyBlobOutRead c w s := rfl
@[simp] theorem exec_keyChannelDone (c : Fin 4) : exec (.keyChannelDone c) s = execKeyChannelDone c s := rfl
@[simp] theorem exec_keyZeroAll (level : Level) : exec (.keyZeroAll level) s = execKeyZeroAll level s := rfl
@[simp] theorem exec_zeroisationDone : exec .zeroisationDone s = execZeroisationDone s := rfl
@[simp] theorem exec_runZeroise (slot : Fin 32768) : exec (.runZeroise slot) s = execRunZeroise slot s := rfl
@[simp] theorem exec_mpuFenceGo (m : Fin 13) (level : Level) : exec (.mpuFenceGo m level) s = execMpuFenceGo m level s := rfl
@[simp] theorem exec_mpuFenceDone (m : Fin 13) : exec (.mpuFenceDone m) s = execMpuFenceDone m s := rfl
@[simp] theorem exec_mpuFaultClear (m : Fin 13) (level : Level) : exec (.mpuFaultClear m level) s = execMpuFaultClear m level s := rfl
@[simp] theorem exec_dmaMpuFault (m : Fin 13) (addr : Word) (size : Nat) (write : Bool) : exec (.dmaMpuFault m addr size write) s = execDmaMpuFault m addr size write s := rfl
@[simp] theorem exec_interrupt (c : CoreNo) (line : Fin 16) (e : EntryEnv) : exec (.interrupt c line e) s = execInterrupt c line e s := rfl
@[simp] theorem exec_nmi (c : CoreNo) (e : EntryEnv) : exec (.nmi c e) s = execNmi c e s := rfl
@[simp] theorem exec_lockstepMismatch (c : CoreNo) : exec (.lockstepMismatch c) s = execLockstepMismatch c s := rfl
@[simp] theorem exec_reservationExpiry (c : CoreNo) : exec (.reservationExpiry c) s = execReservationExpiry c s := rfl
@[simp] theorem exec_writeBufferDrain (c : CoreNo) (err : Option Bool) : exec (.writeBufferDrain c err) s = execWriteBufferDrain c err s := rfl
@[simp] theorem exec_nop (c : CoreNo) (i : AwlIn) : exec (.nop c i) s = execNop c i s := rfl
@[simp] theorem exec_ld (c : CoreNo) (i : AwlIn) : exec (.ld c i) s = execLd c i s := rfl
@[simp] theorem exec_ldu (c : CoreNo) (i : AwlIn) : exec (.ldu c i) s = execLdu c i s := rfl
@[simp] theorem exec_st (c : CoreNo) (i : AwlIn) : exec (.st c i) s = execSt c i s := rfl
@[simp] theorem exec_lda (c : CoreNo) (i : AwlIn) : exec (.lda c i) s = execLda c i s := rfl
@[simp] theorem exec_sta (c : CoreNo) (i : AwlIn) : exec (.sta c i) s = execSta c i s := rfl
@[simp] theorem exec_mov (c : CoreNo) (i : AwlIn) : exec (.mov c i) s = execMov c i s := rfl
@[simp] theorem exec_ldh (c : CoreNo) (i : AwlIn) : exec (.ldh c i) s = execLdh c i s := rfl
@[simp] theorem exec_add (c : CoreNo) (i : AwlIn) : exec (.add c i) s = execAdd c i s := rfl
@[simp] theorem exec_adc (c : CoreNo) (i : AwlIn) : exec (.adc c i) s = execAdc c i s := rfl
@[simp] theorem exec_sub (c : CoreNo) (i : AwlIn) : exec (.sub c i) s = execSub c i s := rfl
@[simp] theorem exec_sbc (c : CoreNo) (i : AwlIn) : exec (.sbc c i) s = execSbc c i s := rfl
@[simp] theorem exec_cmp (c : CoreNo) (i : AwlIn) : exec (.cmp c i) s = execCmp c i s := rfl
@[simp] theorem exec_and (c : CoreNo) (i : AwlIn) : exec (.and c i) s = execAnd c i s := rfl
@[simp] theorem exec_or (c : CoreNo) (i : AwlIn) : exec (.or c i) s = execOr c i s := rfl
@[simp] theorem exec_xor (c : CoreNo) (i : AwlIn) : exec (.xor c i) s = execXor c i s := rfl
@[simp] theorem exec_shl (c : CoreNo) (i : AwlIn) : exec (.shl c i) s = execShl c i s := rfl
@[simp] theorem exec_shr (c : CoreNo) (i : AwlIn) : exec (.shr c i) s = execShr c i s := rfl
@[simp] theorem exec_asr (c : CoreNo) (i : AwlIn) : exec (.asr c i) s = execAsr c i s := rfl
@[simp] theorem exec_rol (c : CoreNo) (i : AwlIn) : exec (.rol c i) s = execRol c i s := rfl
@[simp] theorem exec_tst (c : CoreNo) (i : AwlIn) : exec (.tst c i) s = execTst c i s := rfl
@[simp] theorem exec_lea (c : CoreNo) (i : AwlIn) : exec (.lea c i) s = execLea c i s := rfl
@[simp] theorem exec_mul (c : CoreNo) (i : AwlIn) : exec (.mul c i) s = execMul c i s := rfl
@[simp] theorem exec_mulh (c : CoreNo) (i : AwlIn) : exec (.mulh c i) s = execMulh c i s := rfl
@[simp] theorem exec_ext (c : CoreNo) (i : AwlIn) : exec (.ext c i) s = execExt c i s := rfl
@[simp] theorem exec_push (c : CoreNo) (i : AwlIn) : exec (.push c i) s = execPush c i s := rfl
@[simp] theorem exec_pop (c : CoreNo) (i : AwlIn) : exec (.pop c i) s = execPop c i s := rfl
@[simp] theorem exec_divu (c : CoreNo) (i : AwlIn) : exec (.divu c i) s = execDivu c i s := rfl
@[simp] theorem exec_divs (c : CoreNo) (i : AwlIn) : exec (.divs c i) s = execDivs c i s := rfl
@[simp] theorem exec_mpy (c : CoreNo) (i : AwlIn) : exec (.mpy c i) s = execMpy c i s := rfl
@[simp] theorem exec_mac (c : CoreNo) (i : AwlIn) : exec (.mac c i) s = execMac c i s := rfl
@[simp] theorem exec_msu (c : CoreNo) (i : AwlIn) : exec (.msu c i) s = execMsu c i s := rfl
@[simp] theorem exec_adda (c : CoreNo) (i : AwlIn) : exec (.adda c i) s = execAdda c i s := rfl
@[simp] theorem exec_suba (c : CoreNo) (i : AwlIn) : exec (.suba c i) s = execSuba c i s := rfl
@[simp] theorem exec_rnd (c : CoreNo) (i : AwlIn) : exec (.rnd c i) s = execRnd c i s := rfl
@[simp] theorem exec_sata (c : CoreNo) (i : AwlIn) : exec (.sata c i) s = execSata c i s := rfl
@[simp] theorem exec_nrm (c : CoreNo) (i : AwlIn) : exec (.nrm c i) s = execNrm c i s := rfl
@[simp] theorem exec_abs (c : CoreNo) (i : AwlIn) : exec (.abs c i) s = execAbs c i s := rfl
@[simp] theorem exec_neg (c : CoreNo) (i : AwlIn) : exec (.neg c i) s = execNeg c i s := rfl
@[simp] theorem exec_clra (c : CoreNo) (i : AwlIn) : exec (.clra c i) s = execClra c i s := rfl
@[simp] theorem exec_ldf (c : CoreNo) (i : AwlIn) : exec (.ldf c i) s = execLdf c i s := rfl
@[simp] theorem exec_asla (c : CoreNo) (i : AwlIn) : exec (.asla c i) s = execAsla c i s := rfl
@[simp] theorem exec_asra (c : CoreNo) (i : AwlIn) : exec (.asra c i) s = execAsra c i s := rfl
@[simp] theorem exec_mova (c : CoreNo) (i : AwlIn) : exec (.mova c i) s = execMova c i s := rfl
@[simp] theorem exec_cmpa (c : CoreNo) (i : AwlIn) : exec (.cmpa c i) s = execCmpa c i s := rfl
@[simp] theorem exec_bra (c : CoreNo) (i : AwlIn) : exec (.bra c i) s = execBra c i s := rfl
@[simp] theorem exec_beq (c : CoreNo) (i : AwlIn) : exec (.beq c i) s = execBeq c i s := rfl
@[simp] theorem exec_bne (c : CoreNo) (i : AwlIn) : exec (.bne c i) s = execBne c i s := rfl
@[simp] theorem exec_blt (c : CoreNo) (i : AwlIn) : exec (.blt c i) s = execBlt c i s := rfl
@[simp] theorem exec_bge (c : CoreNo) (i : AwlIn) : exec (.bge c i) s = execBge c i s := rfl
@[simp] theorem exec_bgt (c : CoreNo) (i : AwlIn) : exec (.bgt c i) s = execBgt c i s := rfl
@[simp] theorem exec_ble (c : CoreNo) (i : AwlIn) : exec (.ble c i) s = execBle c i s := rfl
@[simp] theorem exec_blo (c : CoreNo) (i : AwlIn) : exec (.blo c i) s = execBlo c i s := rfl
@[simp] theorem exec_bhs (c : CoreNo) (i : AwlIn) : exec (.bhs c i) s = execBhs c i s := rfl
@[simp] theorem exec_bhi (c : CoreNo) (i : AwlIn) : exec (.bhi c i) s = execBhi c i s := rfl
@[simp] theorem exec_bls (c : CoreNo) (i : AwlIn) : exec (.bls c i) s = execBls c i s := rfl
@[simp] theorem exec_bmi (c : CoreNo) (i : AwlIn) : exec (.bmi c i) s = execBmi c i s := rfl
@[simp] theorem exec_bpl (c : CoreNo) (i : AwlIn) : exec (.bpl c i) s = execBpl c i s := rfl
@[simp] theorem exec_bvs (c : CoreNo) (i : AwlIn) : exec (.bvs c i) s = execBvs c i s := rfl
@[simp] theorem exec_bvc (c : CoreNo) (i : AwlIn) : exec (.bvc c i) s = execBvc c i s := rfl
@[simp] theorem exec_bsv (c : CoreNo) (i : AwlIn) : exec (.bsv c i) s = execBsv c i s := rfl
@[simp] theorem exec_call (c : CoreNo) (i : AwlIn) : exec (.call c i) s = execCall c i s := rfl
@[simp] theorem exec_ret (c : CoreNo) (i : AwlIn) : exec (.ret c i) s = execRet c i s := rfl
@[simp] theorem exec_rte (c : CoreNo) (i : AwlIn) : exec (.rte c i) s = execRte c i s := rfl
@[simp] theorem exec_trap (c : CoreNo) (i : AwlIn) : exec (.trap c i) s = execTrap c i s := rfl
@[simp] theorem exec_tas (c : CoreNo) (i : AwlIn) : exec (.tas c i) s = execTas c i s := rfl
@[simp] theorem exec_ldrs (c : CoreNo) (i : AwlIn) : exec (.ldrs c i) s = execLdrs c i s := rfl
@[simp] theorem exec_stcd (c : CoreNo) (i : AwlIn) : exec (.stcd c i) s = execStcd c i s := rfl
@[simp] theorem exec_mbar (c : CoreNo) (i : AwlIn) : exec (.mbar c i) s = execMbar c i s := rfl
@[simp] theorem exec_ibar (c : CoreNo) (i : AwlIn) : exec (.ibar c i) s = execIbar c i s := rfl
@[simp] theorem exec_mfs (c : CoreNo) (i : AwlIn) : exec (.mfs c i) s = execMfs c i s := rfl
@[simp] theorem exec_mts (c : CoreNo) (i : AwlIn) : exec (.mts c i) s = execMts c i s := rfl
@[simp] theorem exec_wait (c : CoreNo) (i : AwlIn) : exec (.wait c i) s = execWait c i s := rfl
@[simp] theorem exec_userDecode (c : CoreNo) (n : Fin 16) (i : AwlIn) : exec (.userDecode c n i) s = execUserDecode c n i s := rfl
@[simp] theorem exec_reservedOpcode (c : CoreNo) (op : Byte) (i : AwlIn) : exec (.reservedOpcode c op i) s = execReservedOpcode c op i s := rfl
@[simp] theorem exec_registerWrite (w : RegWriter) (addr : Word) (v : Word) : exec (.registerWrite w addr v) s = execRegisterWrite w addr v s := rfl
@[simp] theorem exec_linkL0 : exec .linkL0 s = execLinkL0 s := rfl
@[simp] theorem exec_fwReady : exec .fwReady s = execFwReady s := rfl
@[simp] theorem exec_d0ToD3hot (f : Fin 64) : exec (.d0ToD3hot f) s = execD0ToD3hot f s := rfl
@[simp] theorem exec_memorySpaceEnableWrite (f : Fin 64) (v : Bool) : exec (.memorySpaceEnableWrite f v) s = execMemorySpaceEnableWrite f v s := rfl
@[simp] theorem exec_msixVectorUnmask (f : Fin 64) (vector : Fin 32) : exec (.msixVectorUnmask f vector) s = execMsixVectorUnmask f vector s := rfl
@[simp] theorem exec_alarmSourceDeassert (src : Fin 57) : exec (.alarmSourceDeassert src) s = execAlarmSourceDeassert src s := rfl
@[simp] theorem exec_pkeLoadDone (n : Fin 4) : exec (.pkeLoadDone n) s = execPkeLoadDone n s := rfl
@[simp] theorem exec_fieldHoldEnd : exec .fieldHoldEnd s = execFieldHoldEnd s := rfl
@[simp] theorem exec_sectorFrameSent (port : Fin 16) : exec (.sectorFrameSent port) s = execSectorFrameSent port s := rfl
@[simp] theorem exec_iccCardInserted (k : Fin 2) : exec (.iccCardInserted k) s = execIccCardInserted k s := rfl
@[simp] theorem exec_iccExchangeEnd (k : Fin 2) (response : Option (List Byte)) : exec (.iccExchangeEnd k response) s = execIccExchangeEnd k response s := rfl
@[simp] theorem exec_sdCfgWrite (p : Fin 4) (level : Level) (v : Word) : exec (.sdCfgWrite p level v) s = execSdCfgWrite p level v s := rfl
@[simp] theorem exec_iccCfgWrite (k : Fin 2) (level : Level) (v : Word) : exec (.iccCfgWrite k level v) s = execIccCfgWrite k level v s := rfl
@[simp] theorem exec_digEnWrite (level : Level) (v : Word) : exec (.digEnWrite level v) s = execDigEnWrite level v s := rfl
@[simp] theorem exec_pwrUnitEnWrite (writer : CoreNo) (map : Long) : exec (.pwrUnitEnWrite writer map) s = execPwrUnitEnWrite writer map s := rfl
@[simp] theorem exec_wltCfgWrite (level : Level) (v : Word) : exec (.wltCfgWrite level v) s = execWltCfgWrite level v s := rfl

end Sys2Proof.Machine
end

