-- ==== Sys2Proof/Laws/FrameWrite.lean ====
section
/-! SUPPORT. What writing an exception frame to data TCM leaves in memory (19 R532). -/

namespace Sys2Proof.Machine

/-- Writing two lists of bytes one after the other is writing both as one. -/
theorem Bank.writeBytes_append (xs ys : List Byte) : ∀ (m : Bank Byte) (a : Nat),
    Bank.writeBytes m a (xs ++ ys) = Bank.writeBytes (Bank.writeBytes m a xs) (a + xs.length) ys := by
  induction xs with
  | nil => exact fun _ _ => rfl
  | cons x xs ih =>
    intro m a
    simp only [List.cons_append, Bank.writeBytes, List.length_cons]
    rw [ih, show a + 1 + xs.length = a + (xs.length + 1) by omega]

/-- A transfer that lies in data TCM is one to data TCM. -/
theorem areaOf_dtcm {a n : Nat} (hn : 0 < n) (h1 : 0x80000 ≤ a) (h2 : a + n ≤ 0xA0000) : areaOf a n = .dtcm := by
  unfold areaOf; rw [if_neg (by omega), if_neg (by omega), if_neg (by omega), if_pos (by omega)]

/-- A slice within a list is a take of a drop. -/
theorem sliceBytes_eq (l : List Byte) (i n : Nat) (h : i + n ≤ l.length) : sliceBytes l i n = (l.drop i).take n := by
  apply List.ext_getElem
  · simp [sliceBytes]; omega
  · intro j h1 h2
    simp only [sliceBytes, List.length_map, List.length_range] at h1
    simp only [sliceBytes, List.getElem_map, List.getElem_range, List.getElem_take, List.getElem_drop]
    simp [List.getD, List.getElem?_eq_getElem (show i + j < l.length by omega)]

/-- Words written one by one to data TCM are one write. -/
theorem State.writeWords_dtcm (c : Nat) (lv : Level) (a : Nat) (bs : List Byte) (s : State) (h1 : 0x80000 ≤ a) (n : Nat)
    (hn : 4 * n ≤ bs.length) (h2 : a + 4 * n ≤ 0xA0000) (hm : s.mem.wf) :
    ∃ d, (List.range n).foldl (fun t j => t.writeArea c lv (a + 4 * j) (sliceBytes bs (4 * j) 4)) s
        = s.withMem (fun m => { m with dtcm := d })
      ∧ Bank.get [] d c = Bank.writeBytes (Bank.get [] s.mem.dtcm c) a (bs.take (4 * n)) ∧ Bank.wf [] d := by
  induction n with
  | zero => exact ⟨s.mem.dtcm, rfl, by simp [Bank.writeBytes], hm.2.2.1⟩
  | succ n ih =>
    obtain ⟨d, e1, e2, e3⟩ := ih (by omega) (by omega)
    have hl : (sliceBytes bs (4 * n) 4).length = 4 := by simp [sliceBytes]
    rw [List.range_succ, List.foldl_append, e1, List.foldl_cons, List.foldl_nil]
    refine ⟨Bank.upd [] c (fun b => Bank.writeBytes b (a + 4 * n) (sliceBytes bs (4 * n) 4)) d, ?_, ?_, Bank.wf_upd _ _ _ _ e3⟩
    · unfold State.writeArea
      rw [hl, areaOf_dtcm (by omega) (by omega) (by omega)]
      unfold State.withMem Mem.tcmWrite
      dsimp only
      rw [if_neg (by omega)]
    · rw [Bank.get_upd_same _ _ _ _ e3, e2]
      have : bs.take (4 * (n + 1)) = bs.take (4 * n) ++ sliceBytes bs (4 * n) 4 := by
        rw [show 4 * (n + 1) = 4 * n + 4 by omega, List.take_add, sliceBytes_eq _ _ _ (by omega)]
      rw [this, Bank.writeBytes_append, List.length_take, Nat.min_eq_left (by omega)]

/-- A frame in data TCM of a core with an empty write buffer. -/
theorem State.writeFrame_dtcm (c : Nat) (lv : Level) (a : Nat) (bs : List Byte) (s : State) (h1 : 0x80000 ≤ a)
    (hn : bs.length = 32) (h2 : a + 32 ≤ 0xA0000) (hm : s.mem.wf) (hw : (s.core c).wb = []) :
    ∃ d, s.writeFrame c lv a bs = s.withMem (fun m => { m with dtcm := d })
      ∧ Bank.get [] d c = Bank.writeBytes (Bank.get [] s.mem.dtcm c) a bs := by
  obtain ⟨d, e1, e2, _⟩ := State.writeWords_dtcm c lv a bs s h1 8 (by omega) (by omega) hm
  refine ⟨d, ?_, by rw [e2, show 4 * 8 = bs.length by omega, List.take_length]⟩
  unfold State.writeFrame
  rw [hn]
  show State.drainAll c ((List.range 8).foldl _ s) = _
  rw [e1]
  have : ((s.withMem fun m => { m with dtcm := d }).core c).wb = [] := hw
  unfold State.drainAll
  rw [this]
  rfl
end Sys2Proof.Machine
end

