-- ==== Sys2Proof/Laws/Keeps.lean ====
section
/-! SUPPORT. What no operation of the block does: it leaves the pending queue alone, keeps the invariant of the random number
block and the canonical form of the memory, and never lowers a version floor.  `Keeps s0 s` says that `s` may follow `s0`; each lemma carries it across one
operation. -/

namespace Sys2Proof.Machine

/-- No version floor of `q` is below that of `p`, and the lifecycle is the same. -/
def Pins.FloorsUp (p q : Pins) : Prop :=
  p.fwFloor ≤ q.fwFloor ∧ p.cobFloor ≤ q.cobFloor ∧ p.extFloor ≤ q.extFloor ∧ q.lifecycle = p.lifecycle

/-- `s` keeps what `s0` has: the queue, the random number block's invariant, the fuses, and the form
of the memory and of the bank of cores. -/
def Keeps (s0 s : State) : Prop :=
  s.pending = s0.pending ∧ (s0.rng.Ok → s.rng.Ok) ∧ s0.pins.FloorsUp s.pins ∧ (s0.mem.wf → s.mem.wf)
    ∧ (Bank.wf {} s0.cores → Bank.wf {} s.cores)

variable {s0 s : State}

theorem Keeps.refl (s : State) : Keeps s s := ⟨rfl, id, ⟨Nat.le_refl _, Nat.le_refl _, Nat.le_refl _, rfl⟩, id, id⟩

/-- An update of another part of the state. -/
theorem Keeps.other {t : State} (h : Keeps s0 s) (h1 : t.pending = s.pending) (h2 : t.rng = s.rng) (h3 : t.pins = s.pins)
    (h4 : t.mem = s.mem) (h5 : t.cores = s.cores) : Keeps s0 t := by
  unfold Keeps; rw [h1, h2, h3, h4, h5]; exact h

theorem Rng.takeBlock_ok {r : Rng} (h : r.Ok) : r.takeBlock.Ok :=
  ⟨by have := h.1; simp only [takeBlock, List.length_drop]; omega, fun hu => by have := h.2 hu; simp only [takeBlock, this, List.drop_nil]⟩

theorem State.withRng_keeps (g : Rng → Rng) (hg : ∀ r : Rng, r.Ok → (g r).Ok) (h : Keeps s0 s) : Keeps s0 (s.withRng g) :=
  ⟨h.1, fun h0 => hg _ (h.2.1 h0), h.2.2⟩

theorem State.setRng_keeps {r : Rng} (hr : s0.rng.Ok → r.Ok) (h : Keeps s0 s) : Keeps s0 (s.withRng fun _ => r) :=
  ⟨h.1, hr, h.2.2⟩

theorem State.withPins_keeps (g : Pins → Pins) (hg : ∀ p : Pins, p.FloorsUp (g p)) (h : Keeps s0 s) : Keeps s0 (s.withPins g) :=
  ⟨h.1, h.2.1, ⟨Nat.le_trans h.2.2.1.1 (hg _).1, Nat.le_trans h.2.2.1.2.1 (hg _).2.1, Nat.le_trans h.2.2.1.2.2.1 (hg _).2.2.1,
    (hg _).2.2.2.trans h.2.2.1.2.2.2⟩, h.2.2.2⟩

theorem State.withMem_keeps (g : Mem → Mem) (hg : ∀ m : Mem, m.wf → (g m).wf) (h : Keeps s0 s) : Keeps s0 (s.withMem g) :=
  ⟨h.1, h.2.1, h.2.2.1, fun h0 => hg _ (h.2.2.2.1 h0), h.2.2.2.2⟩

theorem State.withCores_keeps (g : Bank Core → Bank Core) (hg : ∀ b : Bank Core, Bank.wf {} b → Bank.wf {} (g b)) (h : Keeps s0 s) :
    Keeps s0 (s.withCores g) :=
  ⟨h.1, h.2.1, h.2.2.1, h.2.2.2.1, fun h0 => hg _ (h.2.2.2.2 h0)⟩

/-- Updates of one entry after another keep the form of a bank. -/
theorem Bank.foldl_wf {α β : Type} [DecidableEq α] (d : α) (f : Bank α → β → Bank α) (l : List β)
    (hf : ∀ b i, Bank.wf d b → Bank.wf d (f b i)) : ∀ b, Bank.wf d b → Bank.wf d (l.foldl f b) := by
  induction l with
  | nil => exact fun _ h => h
  | cons i l ih => exact fun b h => ih _ (hf b i h)

theorem Mem.tcmWrite_wf (c a : Nat) (bs : List Byte) (m : Mem) (h : m.wf) : (m.tcmWrite c a bs).wf := by
  unfold Mem.tcmWrite
  split
  · exact ⟨h.1, Bank.wf_writeIn c a bs _ h.2.1.1 h.2.1.2, h.2.2⟩
  · exact ⟨h.1, h.2.1, Bank.wf_writeIn c a bs _ h.2.2.1 h.2.2.2⟩

theorem Mem.foldl_wf {α : Type} (f : Mem → α → Mem) (l : List α) (hf : ∀ m a, m.wf → (f m a).wf) : ∀ m, m.wf → (l.foldl f m).wf := by
  induction l with
  | nil => exact fun _ h => h
  | cons a l ih => exact fun m h => ih _ (hf m a h)

theorem Mem.sram_wf (a : Nat) (bs : List Byte) (m : Mem) (h : m.wf) : Mem.wf { m with sram := Bank.writeBytes m.sram a bs } :=
  ⟨Bank.wf_writeBytes bs _ a h.1, h.2⟩

theorem Mem.place_wf (g : Segment) (m : Mem) (h : m.wf) : (m.place g).wf := by
  unfold Mem.place
  split
  · exact Mem.sram_wf _ _ m h
  · exact Mem.tcmWrite_wf _ _ _ m h
  · exact Mem.foldl_wf _ _ (fun m c h => Mem.tcmWrite_wf c _ _ m h) m h

theorem Mem.reload_wf (c : Nat) (img : Image) (m : Mem) (h : m.wf) : (m.reload c img).wf :=
  Mem.foldl_wf _ _ (fun m g h => Mem.tcmWrite_wf c _ _ m h) m h

theorem Mem.empty_wf : Mem.wf {} := by decide

theorem foldl_keeps {α : Type} (f : State → α → State) (l : List α) (hf : ∀ a t, Keeps s0 t → Keeps s0 (f t a)) :
    ∀ s, Keeps s0 s → Keeps s0 (l.foldl f s) := by
  induction l with
  | nil => exact fun _ h => h
  | cons a l ih => exact fun s h => ih _ (hf a s h)

theorem foldl_snd_keeps {α β : Type} (f : β × State → α → β × State) (l : List α)
    (hf : ∀ p a, Keeps s0 p.2 → Keeps s0 (f p a).2) : ∀ p, Keeps s0 p.2 → Keeps s0 (l.foldl f p).2 := by
  induction l with
  | nil => exact fun _ h => h
  | cons a l ih => exact fun p h => ih _ (hf p a h)

/-- The state that a partial operation answers, if it answers one. -/
@[irreducible] def KeepsE (b0 : State) (x : Except Exc State) : Prop := ∀ t, x = .ok t → Keeps b0 t

/-- The same for an operation that answers a value beside the state. -/
@[irreducible] def KeepsP {α : Type} (b0 : State) (x : Except Exc (α × State)) : Prop := ∀ v t, x = .ok (v, t) → Keeps b0 t

variable {b0 : State}

theorem KeepsE.ok (h : Keeps b0 s) : KeepsE b0 (.ok s) := by unfold KeepsE; rintro t ⟨⟩; exact h
theorem KeepsE.error (e : Exc) : KeepsE b0 (.error e) := by unfold KeepsE; rintro t ⟨⟩
theorem KeepsP.ok {α : Type} {p : α × State} (h : Keeps b0 p.2) : KeepsP b0 (.ok p) := by unfold KeepsP; rintro v t ⟨⟩; exact h
theorem KeepsP.error {α : Type} (e : Exc) : KeepsP (α := α) b0 (.error e) := by unfold KeepsP; rintro v t ⟨⟩
theorem keeps_of_ok {x : Except Exc State} {t : State} (h : x = .ok t) (hx : KeepsE b0 x) : Keeps b0 t := by unfold KeepsE at hx; exact hx t h
theorem keeps_of_okP {α : Type} {x : Except Exc (α × State)} {v : α} {t : State} (h : x = .ok (v, t)) (hx : KeepsP b0 x) :
    Keeps b0 t := by unfold KeepsP at hx; exact hx v t h
theorem keeps_of_pair {α : Type} {x : α × State} {v : α} {t : State} (h : x = (v, t)) (hx : Keeps b0 x.2) : Keeps b0 t := by
  subst h; exact hx

theorem ite_keeps {c : Prop} [Decidable c] {a b : State} (ha : Keeps b0 a) (hb : Keeps b0 b) : Keeps b0 (if c then a else b) := by
  split <;> assumption

theorem ite_pair_keeps {α : Type} {c : Prop} [Decidable c] {a b : α × State} (ha : Keeps b0 a.2) (hb : Keeps b0 b.2) :
    Keeps b0 (if c then a else b).2 := by
  split <;> assumption

theorem nextOr_next_keeps {t : State} (h : Keeps b0 t) : Keeps b0 (nextOr s (.next t)) := h

theorem State.withFreeCount_keeps (g : Nat → Nat) (h : Keeps s0 s) : Keeps s0 (s.withFreeCount g) := h
theorem State.withOut_keeps (g : Out → Out) (h : Keeps s0 s) : Keeps s0 (s.withOut g) := h
theorem State.withBoot_keeps (g : Boot → Boot) (h : Keeps s0 s) : Keeps s0 (s.withBoot g) := h
theorem State.withPcie_keeps (g : Pcie → Pcie) (h : Keeps s0 s) : Keeps s0 (s.withPcie g) := h
theorem State.withMbx_keeps (g : Mbx → Mbx) (h : Keeps s0 s) : Keeps s0 (s.withMbx g) := h
theorem State.withFw_keeps (g : Fw → Fw) (h : Keeps s0 s) : Keeps s0 (s.withFw g) := h
theorem State.withKeys_keeps (g : Keys → Keys) (h : Keeps s0 s) : Keeps s0 (s.withKeys g) := h
theorem State.withRings_keeps (g : Rings → Rings) (h : Keeps s0 s) : Keeps s0 (s.withRings g) := h
theorem State.withCipher_keeps (g : Cipher → Cipher) (h : Keeps s0 s) : Keeps s0 (s.withCipher g) := h
theorem State.withSole_keeps (g : Sole → Sole) (h : Keeps s0 s) : Keeps s0 (s.withSole g) := h
theorem State.withPke_keeps (g : Bank PkeEngine → Bank PkeEngine) (h : Keeps s0 s) : Keeps s0 (s.withPke g) := h
theorem State.withDig_keeps (g : Dig → Dig) (h : Keeps s0 s) : Keeps s0 (s.withDig g) := h
theorem State.withAlarm_keeps (g : Alarm → Alarm) (h : Keeps s0 s) : Keeps s0 (s.withAlarm g) := h
theorem State.withLog_keeps (g : Log → Log) (h : Keeps s0 s) : Keeps s0 (s.withLog g) := h
theorem State.withInsole_keeps (g : Insole → Insole) (h : Keeps s0 s) : Keeps s0 (s.withInsole g) := h
theorem State.withIns_keeps (g : InsReg → InsReg) (h : Keeps s0 s) : Keeps s0 (s.withIns g) := h
theorem State.withListen_keeps (g : Listen → Listen) (h : Keeps s0 s) : Keeps s0 (s.withListen g) := h
theorem State.withCls_keeps (g : Cls → Cls) (h : Keeps s0 s) : Keeps s0 (s.withCls g) := h
theorem State.withCards_keeps (g : Cards → Cards) (h : Keeps s0 s) : Keeps s0 (s.withCards g) := h
theorem State.withWelt_keeps (g : Welt → Welt) (h : Keeps s0 s) : Keeps s0 (s.withWelt g) := h
theorem State.withCob_keeps (g : Cob → Cob) (h : Keeps s0 s) : Keeps s0 (s.withCob g) := h
theorem State.withMpus_keeps (g : Bank Mpu → Bank Mpu) (h : Keeps s0 s) : Keeps s0 (s.withMpus g) := h

end Sys2Proof.Machine
end

