-- ==== Sys2Proof/Laws/KeepsUnits.lean ====
section
/-! SUPPORT. `Keeps` of the units: one lemma for each of their operations and commands. -/

set_option linter.unusedVariables false
set_option linter.unusedTactic false
set_option linter.unreachableTactic false

namespace Sys2Proof.Machine

theorem State.draw_keeps {b0 : State} (n : Nat) (k : List Byte → State → State) (s : State) (h_s : Keeps b0 s)
    (h_k : ∀ x0 t', Keeps b0 t' → Keeps b0 (k x0 t')) : Keeps b0 (State.draw n k s) := h_k _ _ h_s

theorem State.hostWrite_keeps {b0 : State} (a : Long) (bs : List Byte) (s : State) (h_s : Keeps b0 s) :
    Keeps b0 (State.hostWrite a bs s) := by
  unfold State.hostWrite
  repeat' first | (with_reducible first | assumption | apply State.withOut_keeps) | intro _

theorem State.setRead_keeps {b0 : State} (v : Word) (s : State) (h_s : Keeps b0 s) :
    Keeps b0 (State.setRead v s) := by
  unfold State.setRead
  repeat' first | (with_reducible first | assumption | apply State.withOut_keeps) | intro _

theorem State.breakResv_keeps {b0 : State} (own : Option Nat) (a n : Nat) (s : State) (h_s : Keeps b0 s) :
    Keeps b0 (s.breakResv own a n) :=
  State.withCores_keeps _ (Bank.foldl_wf _ _ _ fun b i h => by split; exact h; exact Bank.wf_upd {} i _ b h) h_s

theorem State.sramStore_keeps {b0 : State} (own : Option Nat) (a : Nat) (bs : List Byte) (s : State) (h_s : Keeps b0 s) :
    Keeps b0 (State.sramStore own a bs s) := by
  unfold State.sramStore
  repeat' first
    | (with_reducible first
        | assumption | apply State.breakResv_keeps | apply State.withMem_keeps)
    | with_reducible exact fun (m : Mem) h => Mem.reload_wf _ _ m h | exact fun (m : Mem) h => Mem.sram_wf _ _ m h
    | exact fun (m : Mem) h => Mem.tcmWrite_wf _ _ _ m h | exact fun (m : Mem) _ => Mem.empty_wf
    | exact fun (m : Mem) h => Mem.foldl_wf _ _ (fun m g h => Mem.place_wf g m h) m h
    | exact fun (m : Mem) h => Mem.tcmWrite_wf _ _ _ _ (Mem.tcmWrite_wf _ _ _ m h) | intro _

theorem State.sramWrite_keeps {b0 : State} (a : Nat) (bs : List Byte) (s : State) (h_s : Keeps b0 s) :
    Keeps b0 (State.sramWrite a bs s) := by
  unfold State.sramWrite
  repeat' first | (with_reducible first | assumption | apply State.sramStore_keeps) | intro _

theorem State.msiSend_keeps {b0 : State} (f v : Nat) (s : State) (h_s : Keeps b0 s) :
    Keeps b0 (State.msiSend f v s) := by
  unfold State.msiSend
  repeat' first
    | (with_reducible first
        | assumption | apply State.hostWrite_keeps | apply State.withOut_keeps)
    | intro _ | split | (extract_lets x; refine (fun (hx : Keeps b0 x) => ?_) ?_; clear_value x) | extract_lets

theorem State.msix_keeps {b0 : State} (f v : Nat) (s : State) (h_s : Keeps b0 s) :
    Keeps b0 (State.msix f v s) := by
  unfold State.msix
  repeat' first
    | (with_reducible first
        | assumption | apply State.msiSend_keeps | apply State.withPcie_keeps | apply ite_keeps)
    | intro _ | split

theorem State.event_keeps {b0 : State} (unit cls : Nat) (detail : Word) (s : State) (h_s : Keeps b0 s) :
    Keeps b0 (State.event unit cls detail s) := by
  unfold State.event
  repeat' first
    | (with_reducible first
        | assumption | apply State.withCob_keeps | apply ite_keeps)
    | intro _ | split

theorem State.eventFree_keeps {b0 : State} (unit cls : Nat) (s : State) (h_s : Keeps b0 s) :
    Keeps b0 (State.eventFree unit cls s) := by
  unfold State.eventFree
  repeat' first
    | (refine fun _ _ (h : Keeps _ _) => ?_)
    | (with_reducible first
        | assumption | apply State.event_keeps | apply State.draw_keeps)
    | intro _

theorem State.releaseJob_keeps {b0 : State} (k : Nat) (j : Job) (s : State) (h_s : Keeps b0 s) :
    Keeps b0 (State.releaseJob k j s) := by
  unfold State.releaseJob
  repeat' first
    | (with_reducible first
        | assumption | apply State.withDig_keeps | apply State.withSole_keeps | apply State.withCipher_keeps
        | apply State.withKeys_keeps | apply foldl_keeps)
    | intro _ | split | (extract_lets x; refine (fun (hx : Keeps b0 x) => ?_) ?_; clear_value x) | extract_lets

theorem State.tokenise_keeps {b0 : State} (k : Nat) (status : Half) (detail : Word) (stage : BitVec 4) (outLen : Word) (s :
    State) (h_s : Keeps b0 s) :
    Keeps b0 (State.tokenise k status detail stage outLen s) := by
  unfold State.tokenise
  repeat' first
    | (with_reducible first
        | assumption | apply State.releaseJob_keeps | apply State.withRings_keeps | apply ite_keeps)
    | intro _ | split

theorem State.failJob_keeps {b0 : State} (k : Nat) (status : Half) (detail : Word) (stage : BitVec 4) (s : State)
    (h_s : Keeps b0 s) :
    Keeps b0 (State.failJob k status detail stage s) := by
  unfold State.failJob
  repeat' first | (with_reducible first | assumption | apply State.tokenise_keeps) | intro _

theorem State.abandonJob_keeps {b0 : State} (k : Nat) (s : State) (h_s : Keeps b0 s) :
    Keeps b0 (State.abandonJob k s) := by
  unfold State.abandonJob
  repeat' first
    | (with_reducible first
        | assumption | apply State.releaseJob_keeps | apply State.withRings_keeps)
    | intro _ | split

theorem State.complete_keeps {b0 : State} (r : Nat) (s : State) (h_s : Keeps b0 s) :
    Keeps b0 (State.complete r s) := by
  unfold State.complete
  repeat' first
    | (with_reducible first
        | assumption | apply State.hostWrite_keeps | apply State.withRings_keeps | apply ite_keeps)
    | intro _ | split | (extract_lets x; refine (fun (hx : Keeps b0 x) => ?_) ?_; clear_value x) | extract_lets

theorem State.completeAll_keeps {b0 : State} (r : Nat) (s : State) (h_s : Keeps b0 s) :
    Keeps b0 (State.completeAll r s) := by
  unfold State.completeAll
  repeat' first
    | (with_reducible first
        | assumption | apply State.complete_keeps | apply foldl_keeps)
    | intro _

theorem State.abortJobs_keeps {b0 : State} (p : Nat → Bool) (status : Half) (detail : Word) (s : State) (h_s : Keeps b0 s) :
    Keeps b0 (State.abortJobs p status detail s) := by
  unfold State.abortJobs
  repeat' first
    | (with_reducible first
        | assumption | apply State.completeAll_keeps | apply State.failJob_keeps | apply foldl_keeps)
    | intro _ | split | (extract_lets x; refine (fun (hx : Keeps b0 x) => ?_) ?_; clear_value x) | extract_lets

theorem State.weltFrame_keeps {b0 : State} (l : Nat) (type : Byte) (body : List Byte) (s : State) (h_s : Keeps b0 s) :
    Keeps b0 (State.weltFrame l type body s) := by
  unfold State.weltFrame
  repeat' first
    | (with_reducible first
        | assumption | apply State.withWelt_keeps | apply State.withOut_keeps | apply ite_keeps)
    | intro _ | split

theorem State.weltBoth_keeps {b0 : State} (type : Byte) (body : List Byte) (s : State) (h_s : Keeps b0 s) :
    Keeps b0 (State.weltBoth type body s) := by
  unfold State.weltBoth
  repeat' first | (with_reducible first | assumption | apply State.weltFrame_keeps) | intro _

theorem State.weltSealed_keeps {b0 : State} (l : Nat) (type : Byte) (plain : List Byte) (s : State) (h_s : Keeps b0 s) :
    Keeps b0 (State.weltSealed l type plain s) := by
  unfold State.weltSealed
  repeat' first
    | (with_reducible first
        | assumption | apply State.weltFrame_keeps | apply State.withWelt_keeps | apply ite_keeps)
    | intro _ | split | (extract_lets x; refine (fun (hx : Keeps b0 x) => ?_) ?_; clear_value x) | extract_lets

theorem State.putItem_keeps {b0 : State} (l : Nat) (it : MirrorItem) (s : State) (h_s : Keeps b0 s) :
    Keeps b0 (State.putItem l it s) := by
  unfold State.putItem
  repeat' first
    | (refine fun _ _ (h : Keeps _ _) => ?_)
    | (with_reducible first
        | assumption | apply State.weltSealed_keeps | apply State.draw_keeps)
    | intro _ | split

theorem State.sendItem_keeps {b0 : State} (it : MirrorItem) (lease : Option (Nat × Nat)) (s : State) (h_s : Keeps b0 s) :
    Keeps b0 (State.sendItem it lease s) := by
  unfold State.sendItem
  repeat' first
    | (with_reducible first
        | assumption | apply State.putItem_keeps | apply State.withWelt_keeps)
    | intro _ | split | (extract_lets x; refine (fun (hx : Keeps b0 x) => ?_) ?_; clear_value x) | extract_lets

theorem State.sendRecord_keeps {b0 : State} (r : MirrorRec) (s : State) (h_s : Keeps b0 s) :
    Keeps b0 (State.sendRecord r s) := by
  unfold State.sendRecord
  repeat' first | (with_reducible first | assumption | apply State.sendItem_keeps) | intro _

theorem State.mirror_keeps {b0 : State} (r : MirrorRec) (s : State) (h_s : Keeps b0 s) :
    Keeps b0 (State.mirror r s) := by
  unfold State.mirror
  repeat' first
    | (with_reducible first
        | assumption | apply State.sendRecord_keeps | apply ite_keeps)
    | intro _ | split

theorem State.mirrorCounts_keeps {b0 : State} (r : Nat) (s : State) (h_s : Keeps b0 s) :
    Keeps b0 (State.mirrorCounts r s) := by
  unfold State.mirrorCounts
  repeat' first | (with_reducible first | assumption | apply State.mirror_keeps) | intro _

theorem State.leaseGrant_keeps {b0 : State} (n : Nat) (r : KeyRun) (s : State) (h_s : Keeps b0 s) :
    Keeps b0 (State.leaseGrant n r s) := by
  unfold State.leaseGrant
  repeat' first
    | (with_reducible first
        | assumption | apply State.sendItem_keeps)
    | intro _ | split | (extract_lets x; refine (fun (hx : Keeps b0 x) => ?_) ?_; clear_value x) | extract_lets

theorem State.leaseSend_keeps {b0 : State} (n : Nat) (s : State) (h_s : Keeps b0 s) :
    Keeps b0 (State.leaseSend n s) := by
  unfold State.leaseSend
  repeat' first
    | (with_reducible first
        | assumption | apply State.leaseGrant_keeps | apply ite_keeps)
    | intro _ | split

theorem State.updPort_keeps {b0 : State} (n : Nat) (f : Port → Port) (s : State) (h_s : Keeps b0 s) :
    Keeps b0 (State.updPort n f s) := by
  unfold State.updPort
  repeat' first | (with_reducible first | assumption | apply State.withSole_keeps) | intro _

theorem State.sendFrame_keeps {b0 : State} (n : Nat) (type : Byte) (rewrite : Bool) (body : List Byte) (s : State)
    (h_s : Keeps b0 s) :
    Keeps b0 (State.sendFrame n type rewrite body s) := by
  unfold State.sendFrame
  repeat' first
    | (with_reducible first
        | assumption | apply State.updPort_keeps | apply State.withOut_keeps | apply ite_keeps)
    | intro _ | split | (extract_lets x; refine (fun (hx : Keeps b0 x) => ?_) ?_; clear_value x) | extract_lets

theorem State.sendHold_keeps {b0 : State} (n : Nat) (why : BitVec 2) (s : State) (h_s : Keeps b0 s) :
    Keeps b0 (State.sendHold n why s) := by
  unfold State.sendHold
  repeat' first
    | (with_reducible first
        | assumption | apply State.sendFrame_keeps | apply State.updPort_keeps)
    | intro _

theorem State.sendResume_keeps {b0 : State} (n : Nat) (why : BitVec 2) (s : State) (h_s : Keeps b0 s) :
    Keeps b0 (State.sendResume n why s) := by
  unfold State.sendResume
  repeat' first
    | (with_reducible first
        | assumption | apply State.sendFrame_keeps | apply State.updPort_keeps)
    | intro _

theorem State.announceHold_keeps {b0 : State} (n : Nat) (why : BitVec 2) (s : State) (h_s : Keeps b0 s) :
    Keeps b0 (State.announceHold n why s) := by
  unfold State.announceHold
  repeat' first
    | (with_reducible first
        | assumption | apply State.sendHold_keeps | apply State.updPort_keeps)
    | intro _ | split | (extract_lets x; refine (fun (hx : Keeps b0 x) => ?_) ?_; clear_value x) | extract_lets

theorem State.settleHold_keeps {b0 : State} (n : Nat) (s : State) (h_s : Keeps b0 s) :
    Keeps b0 (State.settleHold n s) := by
  unfold State.settleHold
  repeat' first
    | (with_reducible first
        | assumption | apply State.sendResume_keeps | apply State.sendHold_keeps | apply State.updPort_keeps | apply ite_keeps)
    | intro _ | split | (extract_lets x; refine (fun (hx : Keeps b0 x) => ?_) ?_; clear_value x) | extract_lets

theorem State.linkctl_keeps {b0 : State} (n : Nat) (sub : Byte) (fields : List Byte) (s : State) (h_s : Keeps b0 s) :
    Keeps b0 (State.linkctl n sub fields s) := by
  unfold State.linkctl
  repeat' first | (with_reducible first | assumption | apply State.sendFrame_keeps) | intro _

theorem State.roleFrame_keeps {b0 : State} (n : Nat) (was : Bool) (s : State) (h_s : Keeps b0 s) :
    Keeps b0 (State.roleFrame n was s) := by
  unfold State.roleFrame
  repeat' first
    | (with_reducible first
        | assumption | apply State.linkctl_keeps | apply ite_keeps)
    | intro _ | split | (extract_lets x; refine (fun (hx : Keeps b0 x) => ?_) ?_; clear_value x) | extract_lets

theorem State.endHostHold_keeps {b0 : State} (n : Nat) (s : State) (h_s : Keeps b0 s) :
    Keeps b0 (State.endHostHold n s) := by
  unfold State.endHostHold
  repeat' first
    | (with_reducible first
        | assumption | apply State.settleHold_keeps | apply State.sendResume_keeps | apply State.updPort_keeps)
    | intro _

theorem State.holdWrites_keeps {b0 : State} (n detail : Nat) (s : State) (h_s : Keeps b0 s) :
    Keeps b0 (State.holdWrites n detail s) := by
  unfold State.holdWrites
  repeat' first
    | (with_reducible first
        | assumption | apply State.failJob_keeps | apply foldl_keeps)
    | intro _

theorem State.updEntry_keeps {b0 : State} (n k : Nat) (f : SchedEntry → SchedEntry) (s : State) (h_s : Keeps b0 s) :
    Keeps b0 (State.updEntry n k f s) := by
  unfold State.updEntry
  repeat' first
    | (with_reducible first
        | assumption | apply State.updPort_keeps | apply ite_keeps)
    | intro _ | split

theorem State.mirrorStaged_keeps {b0 : State} (n k : Nat) (s : State) (h_s : Keeps b0 s) :
    Keeps b0 (State.mirrorStaged n k s) := by
  unfold State.mirrorStaged
  repeat' first | (with_reducible first | assumption | apply State.mirror_keeps) | intro _ | split

theorem State.deferEntry_keeps {b0 : State} (n k : Nat) (s : State) (h_s : Keeps b0 s) :
    Keeps b0 (State.deferEntry n k s) := by
  unfold State.deferEntry
  repeat' first
    | (with_reducible first
        | assumption | apply State.mirrorStaged_keeps | apply State.updEntry_keeps | apply State.updPort_keeps
        | apply State.failJob_keeps | apply ite_keeps)
    | intro _ | split | (extract_lets x; refine (fun (hx : Keeps b0 x) => ?_) ?_; clear_value x) | extract_lets

theorem State.haltCipher_keeps {b0 : State} (s : State) (h_s : Keeps b0 s) :
    Keeps b0 (State.haltCipher s) := by
  unfold State.haltCipher
  repeat' first
    | (with_reducible first
        | assumption | apply State.withCipher_keeps | apply State.withRings_keeps | apply foldl_keeps)
    | intro _ | split

theorem State.haltPke_keeps {b0 : State} (s : State) (h_s : Keeps b0 s) :
    Keeps b0 (State.haltPke s) := by
  unfold State.haltPke
  repeat' first
    | (with_reducible first
        | assumption | apply State.withPke_keeps | apply foldl_keeps)
    | intro _

theorem State.haltEngines_keeps {b0 : State} (s : State) (h_s : Keeps b0 s) :
    Keeps b0 (State.haltEngines s) := by
  unfold State.haltEngines
  repeat' first
    | (with_reducible first
        | assumption | apply State.haltPke_keeps | apply State.haltCipher_keeps)
    | intro _

theorem State.zeroiseStart_keeps {b0 : State} (s : State) (h_s : Keeps b0 s) :
    Keeps b0 (State.zeroiseStart s) := by
  unfold State.zeroiseStart
  repeat' first
    | (with_reducible first
        | assumption | apply State.withRng_keeps | apply State.withDig_keeps | apply State.withPke_keeps
        | apply State.withRings_keeps | apply State.withKeys_keeps | apply State.withBoot_keeps | apply foldl_keeps)
    | exact fun (_ : Rng) h => h | exact fun (_ : Rng) h => Rng.tests_ok _ _ h | exact fun (_ : Rng) h => Rng.takeBlock_ok h
    | (intro (r : Rng) h; (repeat' split) <;> first | exact h | exact Rng.takeBlock_ok h | simp_all [Rng.Ok]) | intro _ | split
    | (extract_lets x; refine (fun (hx : Keeps b0 x) => ?_) ?_; clear_value x) | extract_lets

theorem State.mainReset_keeps {b0 : State} (s : State) (h_s : Keeps b0 s) : Keeps b0 s.mainReset :=
  ⟨h_s.1, fun _ => ⟨Nat.zero_le 8, fun _ => rfl⟩, h_s.2.2.1, fun _ => Mem.empty_wf, fun _ => ⟨List.Pairwise.nil, fun _ h => nomatch h⟩⟩

theorem State.assertReset_keeps {b0 : State} (s : State) (h_s : Keeps b0 s) :
    Keeps b0 (State.assertReset s) := by
  unfold State.assertReset
  repeat' first
    | (with_reducible first
        | assumption | apply State.mainReset_keeps | apply State.withInsole_keeps | apply State.withLog_keeps | apply ite_keeps)
    | intro _ | split | (extract_lets x; refine (fun (hx : Keeps b0 x) => ?_) ?_; clear_value x) | extract_lets

theorem State.nmiAll_keeps {b0 : State} (s : State) (h_s : Keeps b0 s) : Keeps b0 s.nmiAll :=
  State.withCores_keeps _ (Bank.foldl_wf _ _ _ fun b i h => Bank.wf_upd {} i _ b h) h_s

theorem State.tickKeys_keeps {b0 : State} (tick : List (Nat × Word × Bool)) (code6 : Bool) (s : State) (h_s : Keeps b0 s) :
    Keeps b0 (State.tickKeys tick code6 s) := by
  unfold State.tickKeys
  repeat' first
    | (with_reducible first
        | assumption | apply State.withInsole_keeps | apply State.withKeys_keeps | apply ite_keeps)
    | intro _ | split | (extract_lets x; refine (fun (hx : Keeps b0 x) => ?_) ?_; clear_value x) | extract_lets

theorem State.c3Set_keeps {b0 : State} (src : Nat) (v : Bool) (s : State) (h_s : Keeps b0 s) :
    Keeps b0 (State.c3Set src v s) := by
  unfold State.c3Set
  repeat' first | (with_reducible first | assumption | apply State.withInsole_keeps) | intro _ | split

theorem State.tickMain_keeps {b0 : State} (tick : List (Nat × Word × Bool)) (withhold : Bool) (s : State) (h_s : Keeps b0 s) :
    Keeps b0 (State.tickMain tick withhold s) := by
  unfold State.tickMain
  repeat' first
    | (with_reducible first
        | assumption | apply State.tickKeys_keeps | apply State.nmiAll_keeps | apply State.zeroiseStart_keeps
        | apply State.haltEngines_keeps | apply State.withLog_keeps | apply State.withAlarm_keeps | apply State.withRng_keeps
        | apply foldl_keeps | apply ite_keeps)
    | exact fun (_ : Rng) h => h | exact fun (_ : Rng) h => Rng.tests_ok _ _ h | exact fun (_ : Rng) h => Rng.takeBlock_ok h
    | (intro (r : Rng) h; (repeat' split) <;> first | exact h | exact Rng.takeBlock_ok h | simp_all [Rng.Ok]) | intro _ | split
    | (extract_lets x; refine (fun (hx : Keeps b0 x) => ?_) ?_; clear_value x) | extract_lets

theorem State.assertDark_keeps {b0 : State} (src : Nat) (detail : Word) (most : BitVec 3) (s : State) (h_s : Keeps b0 s) :
    Keeps b0 (State.assertDark src detail most s) := by
  unfold State.assertDark
  repeat' first
    | (with_reducible first
        | assumption | apply State.withInsole_keeps | apply State.withLog_keeps | apply ite_keeps)
    | intro _ | split | (extract_lets x; refine (fun (hx : Keeps b0 x) => ?_) ?_; clear_value x) | extract_lets

theorem State.alarmTick_keeps {b0 : State} (tick : List (Nat × Word × Bool)) (s : State) (h_s : Keeps b0 s) :
    Keeps b0 (State.alarmTick tick s) := by
  unfold State.alarmTick
  repeat' first
    | (with_reducible first
        | assumption | apply State.assertDark_keeps | apply State.tickMain_keeps | apply foldl_keeps | apply ite_keeps)
    | intro _ | split

theorem State.c3Tick_keeps {b0 : State} (tick : List (Nat × Word × Bool)) (s : State) (h_s : Keeps b0 s) :
    Keeps b0 (State.c3Tick tick s) := by
  unfold State.c3Tick
  repeat' first | (with_reducible first | assumption | apply State.c3Set_keeps | apply foldl_keeps) | intro _

theorem State.raise_keeps {b0 : State} (src : Nat) (detail : Word) (s : State) (h_s : Keeps b0 s) :
    Keeps b0 (State.raise src detail s) := by
  unfold State.raise
  repeat' first | (with_reducible first | assumption | apply State.alarmTick_keeps) | intro _

theorem State.deassert_keeps {b0 : State} (src : Nat) (s : State) (h_s : Keeps b0 s) :
    Keeps b0 (State.deassert src s) := by
  unfold State.deassert
  repeat' first
    | (with_reducible first
        | assumption | apply State.c3Set_keeps | apply State.withAlarm_keeps)
    | intro _

theorem Rng.drawFrom_ok {r : Rng} (i : Nat) (fresh : Bool) (n : Nat) (h : r.Ok) : (r.drawFrom i fresh n).2.Ok := by
  unfold Rng.drawFrom
  cases fresh
  · exact h
  · exact Rng.takeBlock_ok h

theorem State.instDraw_keeps {b0 : State} (i : Nat) (fresh : Bool) (n : Nat) (k : List Byte → State → State) (s : State)
    (h_s : Keeps b0 s) (h_k : ∀ x0 t', Keeps b0 t' → Keeps b0 (k x0 t')) : Keeps b0 (State.instDraw i fresh n k s) :=
  h_k _ _ ⟨h_s.1, fun h0 => Rng.drawFrom_ok i fresh n (h_s.2.1 h0), h_s.2.2⟩

theorem State.fwDraw_keeps {b0 : State} (fresh : Bool) (n : Nat) (k : List Byte → State → State) (s : State)
    (h_s : Keeps b0 s) (h_k : ∀ x0 t', Keeps b0 t' → Keeps b0 (k x0 t')) : Keeps b0 (State.fwDraw fresh n k s) :=
  ite_keeps (State.instDraw_keeps _ _ _ _ _ h_s h_k) (State.draw_keeps _ _ _ h_s h_k)

theorem State.rngServe_keeps {b0 : State} (c : Nat) (q : RngRequest) (s : State) (h_s : Keeps b0 s) :
    Keeps b0 (State.rngServe c q s) := by
  unfold State.rngServe
  repeat' first
    | (refine fun _ _ (h : Keeps _ _) => ?_)
    | (with_reducible first
        | assumption | apply State.instDraw_keeps | apply State.withRng_keeps)
    | exact fun (_ : Rng) h => h | exact fun (_ : Rng) h => Rng.tests_ok _ _ h | exact fun (_ : Rng) h => Rng.takeBlock_ok h
    | (intro (r : Rng) h; (repeat' split) <;> first | exact h | exact Rng.takeBlock_ok h | simp_all [Rng.Ok]) | intro _

theorem State.rngServeWaiting_keeps {b0 : State} (s : State) (h_s : Keeps b0 s) :
    Keeps b0 (State.rngServeWaiting s) := by
  unfold State.rngServeWaiting
  repeat' first
    | (with_reducible first
        | assumption | apply State.rngServe_keeps | apply foldl_keeps | apply ite_keeps)
    | intro _ | split

theorem State.rngHealth_keeps {b0 : State} (kBefore : Bool) (s : State) (h_s : Keeps b0 s) :
    Keeps b0 (State.rngHealth kBefore s) := by
  unfold State.rngHealth
  repeat' first
    | (with_reducible first
        | assumption | apply State.deassert_keeps | apply State.raise_keeps | apply State.withRng_keeps | apply ite_keeps)
    | exact fun (_ : Rng) h => h | exact fun (_ : Rng) h => Rng.tests_ok _ _ h | exact fun (_ : Rng) h => Rng.takeBlock_ok h
    | (intro (r : Rng) h; (repeat' split) <;> first | exact h | exact Rng.takeBlock_ok h | simp_all [Rng.Ok]) | intro _ | split
    | (extract_lets x; refine (fun (hx : Keeps b0 x) => ?_) ?_; clear_value x) | extract_lets

theorem Rng.dropInput_ok {r : Rng} (m : Bool) (h : r.Ok) : (r.dropInput m).Ok := by
  unfold Rng.dropInput; split <;> exact h

theorem Rng.dropInput_buffer (r : Rng) (m : Bool) : (r.dropInput m).buffer = r.buffer := by cases m <;> rfl
theorem Rng.dropInput_tested (r : Rng) (m : Bool) : (r.dropInput m).tested = r.tested := by cases m <;> rfl
theorem Rng.dropInput_audit (r : Rng) (m : Bool) : (r.dropInput m).audit = r.audit := by cases m <;> rfl

theorem State.condition_keeps {b0 : State} (classM : Bool) (k : List Byte → State → State) (s : State) (h_s : Keeps b0 s)
    (h_k : ∀ x0 t', Keeps b0 t' → Keeps b0 (k x0 t')) : Keeps b0 (State.condition classM k s) := by
  unfold State.condition
  exact State.draw_keeps _ _ _ h_s fun x t ht => h_k _ _ (State.withRng_keeps _ (fun _ h => Rng.dropInput_ok classM h) ht)

theorem Rng.empty_ok {r : Rng} (h : r.buffer = []) : r.Ok := ⟨by rw [h]; exact Nat.zero_le 8, fun _ => h⟩

theorem Rng.tested_ok {r : Rng} (h : r.Ok) : Rng.Ok { r with tested := true } :=
  ⟨h.1, fun hu => h.2 (hu.elim (fun x => nomatch x) .inr)⟩

theorem Rng.tests_ok {r : Rng} (m k : Bool) (h : r.Ok) : (r.tests m k).Ok := by
  unfold Rng.tests
  split
  · exact h
  next ht => exact Rng.empty_ok (h.2 (.inl (by simpa using ht)))

theorem Rng.auditExit_ok {r : Rng} (h : r.Ok) : r.auditExit.Ok := by
  unfold Rng.auditExit
  split
  · exact h
  · exact Rng.empty_ok rfl

/-- After a change of source health `rngHealth` restores the invariant, given that it held with the class K availability
before the change. -/
theorem State.rngHealth_restores {b0 : State} (kb : Bool) (s : State) (hp : s.pending = b0.pending) (hq : b0.pins.FloorsUp s.pins)
    (hm : (b0.mem.wf → s.mem.wf) ∧ (Bank.wf {} b0.cores → Bank.wf {} s.cores))
    (hr : b0.rng.Ok → s.rng.buffer.length ≤ 8 ∧ (s.rng.tested = false ∨ s.rng.audit = true ∨ kb = false → s.rng.buffer = [])) :
    Keeps b0 (s.rngHealth kb) := by
  unfold State.rngHealth
  extract_lets s1
  have h1 : Keeps b0 (s1.withRng fun r => { r with kLow := true, buffer := [] }) :=
    ⟨hp, fun _ => Rng.empty_ok rfl, hq, hm⟩
  have h2 (h : (kb && !s1.rng.kAvail) = false ∨ s1.rng.tested = false) : Keeps b0 s1 := by
    refine ⟨hp, fun h0 => ⟨(hr h0).1, fun hu => (hr h0).2 ?_⟩, hq, hm⟩
    rcases hu with hu | hu | hu
    · exact .inl hu
    · exact .inr (.inl hu)
    · rcases h with h | h
      · rw [hu] at h; exact .inr (.inr (by simpa using h))
      · exact .inl h
  clear_value s1
  split
  next ht => exact h2 (.inr (by simpa only [Bool.not_eq_true'] using ht))
  next ht =>
    split
    · exact State.raise_keeps _ _ _ h1
    next hk =>
      have h3 : Keeps b0 s1 := h2 (.inl (by simpa only [Bool.not_eq_true] using hk))
      split
      · exact State.deassert_keeps _ _ (State.withRng_keeps _ (fun _ h => h) h3)
      · exact h3

theorem State.eventFree_rng_same {s : State} (u c : Nat) : (s.eventFree u c).rng = s.rng := by
  unfold State.eventFree State.event
  simp only [State.draw]
  split <;> rfl

/-- The same after an update of the random number block and an event. -/
theorem State.rngHealth_after {b0 : State} (g : Rng → Rng) (u c : Nat) (s : State) (h_s : Keeps b0 s)
    (hg : s.rng.Ok → (g s.rng).buffer.length ≤ 8 ∧
      ((g s.rng).tested = false ∨ (g s.rng).audit = true ∨ s.rng.kAvail = false → (g s.rng).buffer = [])) :
    Keeps b0 (((s.withRng g).eventFree u c).rngHealth s.rng.kAvail) := by
  have hk := State.eventFree_keeps (b0 := s.withRng g) u c _ (Keeps.refl _)
  have hp := h_s.2.2.1
  have hq := hk.2.2.1
  refine State.rngHealth_restores _ _ (hk.1.trans h_s.1)
    ⟨Nat.le_trans hp.1 hq.1, Nat.le_trans hp.2.1 hq.2.1, Nat.le_trans hp.2.2.1 hq.2.2.1, hq.2.2.2.trans hp.2.2.2⟩
    ⟨fun h => hk.2.2.2.1 (h_s.2.2.2.1 h), fun h => hk.2.2.2.2 (h_s.2.2.2.2 h)⟩ fun h0 => ?_
  rw [State.eventFree_rng_same]
  exact hg (h_s.2.1 h0)

theorem execSourceHealthFail_keeps {b0 : State} (src : Fin 28) (run same : Nat) (s u : State) (h_s : Keeps b0 s) (_ : Keeps b0 u) :
    Keeps b0 (nextOr u (execSourceHealthFail src run same s)) := by
  unfold execSourceHealthFail
  refine nextOr_next_keeps (ite_keeps (State.rngHealth_after _ _ _ s h_s fun h => ?_) h_s)
  show (Rng.dropInput _ _).buffer.length ≤ 8 ∧ ((Rng.dropInput _ _).tested = false ∨ (Rng.dropInput _ _).audit = true ∨ _ → (Rng.dropInput _ _).buffer = [])
  rw [Rng.dropInput_buffer, Rng.dropInput_tested, Rng.dropInput_audit]
  exact h

theorem execSourceRetestStart_keeps {b0 : State} (src : Fin 28) (s : State) (u : State) (h_s : Keeps b0 s) (h_u : Keeps b0 u) :
    Keeps b0 (nextOr u (execSourceRetestStart src s)) := by
  unfold execSourceRetestStart
  repeat' first
    | (with_reducible first
        | assumption | apply State.withRng_keeps | apply nextOr_next_keeps | apply ite_keeps)
    | exact fun (_ : Rng) h => h | exact fun (_ : Rng) h => Rng.tests_ok _ _ h | exact fun (_ : Rng) h => Rng.takeBlock_ok h
    | (intro (r : Rng) h; (repeat' split) <;> first | exact h | exact Rng.takeBlock_ok h | simp_all [Rng.Ok]) | intro _ | split

theorem execSourceRetestEnd_keeps {b0 : State} (src : Fin 28) (run same : Nat) (s u : State) (h_s : Keeps b0 s) (_ : Keeps b0 u) :
    Keeps b0 (nextOr u (execSourceRetestEnd src run same s)) := by
  unfold execSourceRetestEnd
  exact nextOr_next_keeps (ite_keeps h_s (ite_keeps (State.rngHealth_after _ _ _ s h_s fun h => h) (State.withRng_keeps _ (fun _ h => h) h_s)))

theorem State.rngStart_keeps {b0 : State} (s : State) (h_s : Keeps b0 s) : Keeps b0 s.rngStart := by
  unfold State.rngStart
  extract_lets s1
  have h1 : Keeps b0 s1 := State.withRng_keeps _ (fun _ h => Rng.tested_ok h) h_s
  split
  next hk =>
    split
    · exact h1
    next ha =>
      refine State.withBoot_keeps _ ⟨h1.1, fun h0 => ⟨by show 2 ≤ 8; omega, fun hu => ?_⟩, h1.2.2⟩
      rcases hu with hu | hu | hu
      · exact nomatch hu
      · exact absurd hu ha
      · exact nomatch hk.symm.trans hu
  · exact ite_keeps h1 (State.raise_keeps _ _ _ (State.withRng_keeps _ (fun _ _ => Rng.empty_ok rfl) h1))

theorem execDrbgInstantiate_keeps {b0 : State} (i : Fin 32) (s : State) (u : State) (h_s : Keeps b0 s) (h_u : Keeps b0 u) :
    Keeps b0 (nextOr u (execDrbgInstantiate i s)) := by
  unfold execDrbgInstantiate
  repeat' first
    | (with_reducible first
        | assumption | apply State.rngServeWaiting_keeps | apply State.withRng_keeps | apply nextOr_next_keeps | apply ite_keeps)
    | exact fun (_ : Rng) h => h | exact fun (_ : Rng) h => Rng.tests_ok _ _ h | exact fun (_ : Rng) h => Rng.takeBlock_ok h
    | (intro (r : Rng) h; (repeat' split) <;> first | exact h | exact Rng.takeBlock_ok h | simp_all [Rng.Ok]) | intro _ | split

theorem State.reseedDue_keeps {b0 : State} (n : Nat) : ∀ (s : State) (_ : Keeps b0 s), Keeps b0 (State.reseedDue n s) := by
  induction n with
  | zero => exact fun _ h => h
  | succ n ih =>
    intro s h_s
    unfold State.reseedDue
    split
    · exact ih _ (State.rngServeWaiting_keeps _ (State.withRng_keeps _ (fun _ h => Rng.takeBlock_ok h) h_s))
    · exact h_s

theorem execDrbgBackgroundReseed_keeps {b0 : State} (i : Fin 32) (s u : State) (h_s : Keeps b0 s) (h_u : Keeps b0 u) :
    Keeps b0 (nextOr u (execDrbgBackgroundReseed i s)) := by
  unfold execDrbgBackgroundReseed
  exact nextOr_next_keeps (ite_keeps (State.reseedDue_keeps _ _ (State.withRng_keeps _ (fun _ h => h) h_s)) h_s)

theorem execMaskingReseed_keeps {b0 : State} (core : Fin 16) (s : State) (u : State) (h_s : Keeps b0 s) (h_u : Keeps b0 u) :
    Keeps b0 (nextOr u (execMaskingReseed core s)) := by
  unfold execMaskingReseed
  repeat' first
    | (refine fun _ _ (h : Keeps _ _) => ?_)
    | (with_reducible first
        | assumption | apply State.condition_keeps | apply State.withRng_keeps | apply nextOr_next_keeps | apply ite_keeps)
    | exact fun (_ : Rng) h => h | exact fun (_ : Rng) h => Rng.tests_ok _ _ h | exact fun (_ : Rng) h => Rng.takeBlock_ok h
    | (intro (r : Rng) h; (repeat' split) <;> first | exact h | exact Rng.takeBlock_ok h | simp_all [Rng.Ok]) | intro _ | split

theorem execMaskingStop_keeps {b0 : State} (core : Fin 16) (s : State) (u : State) (h_s : Keeps b0 s) (h_u : Keeps b0 u) :
    Keeps b0 (nextOr u (execMaskingStop core s)) := by
  unfold execMaskingStop
  repeat' first
    | (with_reducible first
        | assumption | apply State.withRng_keeps | apply nextOr_next_keeps | apply ite_keeps)
    | exact fun (_ : Rng) h => h | exact fun (_ : Rng) h => Rng.tests_ok _ _ h | exact fun (_ : Rng) h => Rng.takeBlock_ok h
    | (intro (r : Rng) h; (repeat' split) <;> first | exact h | exact Rng.takeBlock_ok h | simp_all [Rng.Ok]) | intro _ | split

theorem State.rngRequest_keeps {b0 : State} (c : Nat) (q : RngRequest) (nowait : Bool) (s : State) (h_s : Keeps b0 s) :
    Keeps b0 (State.rngRequest c q nowait s) := by
  unfold State.rngRequest
  repeat' first
    | (with_reducible first
        | assumption | apply State.rngServe_keeps | apply State.withRng_keeps | apply ite_keeps)
    | exact fun (_ : Rng) h => h | exact fun (_ : Rng) h => Rng.tests_ok _ _ h | exact fun (_ : Rng) h => Rng.takeBlock_ok h
    | (intro (r : Rng) h; (repeat' split) <;> first | exact h | exact Rng.takeBlock_ok h | simp_all [Rng.Ok]) | intro _ | split

theorem execRngReq_keeps {b0 : State} (c writer : CoreNo) (level : Level) (v : Word) (s : State) (u : State)
    (h_s : Keeps b0 s) (h_u : Keeps b0 u) :
    Keeps b0 (nextOr u (execRngReq c writer level v s)) := by
  unfold execRngReq
  repeat' first
    | (with_reducible first
        | assumption | apply State.rngRequest_keeps | apply State.withRng_keeps | apply nextOr_next_keeps | apply ite_keeps)
    | exact fun (_ : Rng) h => h | exact fun (_ : Rng) h => Rng.tests_ok _ _ h | exact fun (_ : Rng) h => Rng.takeBlock_ok h
    | (intro (r : Rng) h; (repeat' split) <;> first | exact h | exact Rng.takeBlock_ok h | simp_all [Rng.Ok]) | intro _ | split
    | (extract_lets x; refine (fun (hx : Keeps b0 x) => ?_) ?_; clear_value x) | extract_lets

theorem execRngWaitLimit_keeps {b0 : State} (c : CoreNo) (s : State) (u : State) (h_s : Keeps b0 s) (h_u : Keeps b0 u) :
    Keeps b0 (nextOr u (execRngWaitLimit c s)) := by
  unfold execRngWaitLimit
  repeat' first
    | (with_reducible first
        | assumption | apply State.withRng_keeps | apply nextOr_next_keeps | apply ite_keeps)
    | exact fun (_ : Rng) h => h | exact fun (_ : Rng) h => Rng.tests_ok _ _ h | exact fun (_ : Rng) h => Rng.takeBlock_ok h
    | (intro (r : Rng) h; (repeat' split) <;> first | exact h | exact Rng.takeBlock_ok h | simp_all [Rng.Ok]) | intro _ | split
    | (extract_lets x; refine (fun (hx : Keeps b0 x) => ?_) ?_; clear_value x) | extract_lets

theorem execRngDataRead_keeps {b0 : State} (c : CoreNo) (s : State) (u : State) (h_s : Keeps b0 s) (h_u : Keeps b0 u) :
    Keeps b0 (nextOr u (execRngDataRead c s)) := by
  unfold execRngDataRead
  repeat' first
    | (with_reducible first
        | assumption | apply State.setRead_keeps | apply State.withRng_keeps | apply nextOr_next_keeps)
    | exact fun (_ : Rng) h => h | exact fun (_ : Rng) h => Rng.tests_ok _ _ h | exact fun (_ : Rng) h => Rng.takeBlock_ok h
    | (intro (r : Rng) h; (repeat' split) <;> first | exact h | exact Rng.takeBlock_ok h | simp_all [Rng.Ok]) | intro _

theorem execAuditSet_keeps {b0 : State} (level : Level) (s : State) (u : State) (h_s : Keeps b0 s) (h_u : Keeps b0 u) :
    Keeps b0 (nextOr u (execAuditSet level s)) := by
  unfold execAuditSet
  repeat' first
    | (with_reducible first
        | assumption | apply State.withRng_keeps | apply nextOr_next_keeps | apply ite_keeps)
    | exact fun (_ : Rng) h => h | exact fun (_ : Rng) h => Rng.tests_ok _ _ h | exact fun (_ : Rng) h => Rng.takeBlock_ok h
    | (intro (r : Rng) h; (repeat' split) <;> first | exact h | exact Rng.takeBlock_ok h | simp_all [Rng.Ok]) | intro _ | split

theorem execAuditClear_keeps {b0 : State} (level : Level) (s u : State) (h_s : Keeps b0 s) (_ : Keeps b0 u) :
    Keeps b0 (nextOr u (execAuditClear level s)) :=
  nextOr_next_keeps (ite_keeps (State.withRng_keeps _ (fun _ h => Rng.auditExit_ok h) h_s) h_s)

theorem execRngRawselWrite_keeps {b0 : State} (c : CoreNo) (level : Level) (v : Word) (s : State) (u : State)
    (h_s : Keeps b0 s) (h_u : Keeps b0 u) :
    Keeps b0 (nextOr u (execRngRawselWrite c level v s)) := by
  unfold execRngRawselWrite
  repeat' first
    | (with_reducible first
        | assumption | apply State.withRng_keeps | apply nextOr_next_keeps | apply ite_keeps)
    | exact fun (_ : Rng) h => h | exact fun (_ : Rng) h => Rng.tests_ok _ _ h | exact fun (_ : Rng) h => Rng.takeBlock_ok h
    | (intro (r : Rng) h; (repeat' split) <;> first | exact h | exact Rng.takeBlock_ok h | simp_all [Rng.Ok]) | intro _ | split

theorem execRngRawRead_keeps {b0 : State} (c : CoreNo) (level : Level) (s : State) (u : State) (h_s : Keeps b0 s)
    (h_u : Keeps b0 u) :
    Keeps b0 (nextOr u (execRngRawRead c level s)) := by
  unfold execRngRawRead
  repeat' first
    | (with_reducible first
        | assumption | apply State.setRead_keeps | apply State.withRng_keeps | apply nextOr_next_keeps | apply ite_keeps)
    | exact fun (_ : Rng) h => h | exact fun (_ : Rng) h => Rng.tests_ok _ _ h | exact fun (_ : Rng) h => Rng.takeBlock_ok h
    | (intro (r : Rng) h; (repeat' split) <;> first | exact h | exact Rng.takeBlock_ok h | simp_all [Rng.Ok]) | intro _ | split

theorem State.rawFill_keeps {b0 : State} (s : State) (h_s : Keeps b0 s) :
    Keeps b0 (State.rawFill s) := by
  unfold State.rawFill
  repeat' first
    | (refine fun _ _ (h : Keeps _ _) => ?_)
    | (with_reducible first
        | assumption | apply State.draw_keeps | apply State.withRng_keeps | apply ite_keeps)
    | exact fun (_ : Rng) h => h | exact fun (_ : Rng) h => Rng.tests_ok _ _ h | exact fun (_ : Rng) h => Rng.takeBlock_ok h
    | (intro (r : Rng) h; (repeat' split) <;> first | exact h | exact Rng.takeBlock_ok h | simp_all [Rng.Ok]) | intro _ | split
    | (extract_lets x; refine (fun (hx : Keeps b0 x) => ?_) ?_; clear_value x) | extract_lets

theorem State.absorb_keeps {b0 : State} (s : State) (h_s : Keeps b0 s) :
    Keeps b0 (State.absorb s) := by
  unfold State.absorb
  repeat' first
    | (refine fun _ _ (h : Keeps _ _) => ?_)
    | (with_reducible first
        | assumption | apply State.draw_keeps | apply State.withRng_keeps | apply ite_keeps)
    | exact fun (_ : Rng) h => h | exact fun (_ : Rng) h => Rng.tests_ok _ _ h | exact fun (_ : Rng) h => Rng.takeBlock_ok h
    | (intro (r : Rng) h; (repeat' split) <;> first | exact h | exact Rng.takeBlock_ok h | simp_all [Rng.Ok]) | intro _ | split
    | (extract_lets x; refine (fun (hx : Keeps b0 x) => ?_) ?_; clear_value x) | extract_lets

theorem State.keyCmd_keeps {b0 : State} (c : Fin 4) (w : RegWriter) (op : KeyOp) (any : Bool) (slot : Nat) (s : State)
    (h_s : Keeps b0 s) :
    Keeps b0 (State.keyCmd c w op any slot s) := by
  unfold State.keyCmd
  repeat' first
    | (with_reducible first
        | assumption | apply State.withKeys_keeps | apply ite_keeps)
    | intro _ | split

theorem execKeyCmdLoad_keeps {b0 : State} (c : Fin 4) (w : RegWriter) (any : Bool) (slot : Fin 32768) (s : State) (u : State)
    (h_s : Keeps b0 s) (h_u : Keeps b0 u) :
    Keeps b0 (nextOr u (execKeyCmdLoad c w any slot s)) := by
  unfold execKeyCmdLoad
  repeat' first
    | (with_reducible first
        | assumption | apply State.keyCmd_keeps | apply nextOr_next_keeps)
    | intro _

theorem execKeyCmdImport_keeps {b0 : State} (c : Fin 4) (w : RegWriter) (any kw : Bool) (slot : Fin 32768) (s : State) (u :
    State) (h_s : Keeps b0 s) (h_u : Keeps b0 u) :
    Keeps b0 (nextOr u (execKeyCmdImport c w any kw slot s)) := by
  unfold execKeyCmdImport
  repeat' first
    | (with_reducible first
        | assumption | apply State.keyCmd_keeps | apply nextOr_next_keeps)
    | intro _

theorem execKeyCmdExport_keeps {b0 : State} (c : Fin 4) (w : RegWriter) (kw : Bool) (s : State) (u : State) (h_s : Keeps b0 s)
    (h_u : Keeps b0 u) :
    Keeps b0 (nextOr u (execKeyCmdExport c w kw s)) := by
  unfold execKeyCmdExport
  repeat' first
    | (with_reducible first
        | assumption | apply State.keyCmd_keeps | apply nextOr_next_keeps)
    | intro _

theorem execKeyCmdBlob_keeps {b0 : State} (c : Fin 4) (w : RegWriter) (s : State) (u : State) (h_s : Keeps b0 s)
    (h_u : Keeps b0 u) :
    Keeps b0 (nextOr u (execKeyCmdBlob c w s)) := by
  unfold execKeyCmdBlob
  repeat' first
    | (with_reducible first
        | assumption | apply State.keyCmd_keeps | apply nextOr_next_keeps)
    | intro _

theorem execKeyCmdGenerate_keeps {b0 : State} (c : Fin 4) (w : RegWriter) (any : Bool) (slot : Fin 32768) (s : State) (u : State)
    (h_s : Keeps b0 s) (h_u : Keeps b0 u) :
    Keeps b0 (nextOr u (execKeyCmdGenerate c w any slot s)) := by
  unfold execKeyCmdGenerate
  repeat' first
    | (with_reducible first
        | assumption | apply State.keyCmd_keeps | apply nextOr_next_keeps)
    | intro _

theorem execKeyCmdUnload_keeps {b0 : State} (c : Fin 4) (w : RegWriter) (s : State) (u : State) (h_s : Keeps b0 s)
    (h_u : Keeps b0 u) :
    Keeps b0 (nextOr u (execKeyCmdUnload c w s)) := by
  unfold execKeyCmdUnload
  repeat' first
    | (with_reducible first
        | assumption | apply State.keyCmd_keeps | apply nextOr_next_keeps)
    | intro _

theorem execKeyCmdQuery_keeps {b0 : State} (c : Fin 4) (w : RegWriter) (s : State) (u : State) (h_s : Keeps b0 s)
    (h_u : Keeps b0 u) :
    Keeps b0 (nextOr u (execKeyCmdQuery c w s)) := by
  unfold execKeyCmdQuery
  repeat' first
    | (with_reducible first
        | assumption | apply State.keyCmd_keeps | apply nextOr_next_keeps)
    | intro _

theorem execKeyBlobInWrite_keeps {b0 : State} (c : Fin 4) (w : RegWriter) (v : Word) (s : State) (u : State)
    (h_s : Keeps b0 s) (h_u : Keeps b0 u) :
    Keeps b0 (nextOr u (execKeyBlobInWrite c w v s)) := by
  unfold execKeyBlobInWrite
  repeat' first
    | (with_reducible first
        | assumption | apply State.withKeys_keeps | apply nextOr_next_keeps | apply ite_keeps)
    | intro _ | split | (extract_lets x; refine (fun (hx : Keeps b0 x) => ?_) ?_; clear_value x) | extract_lets

theorem execKeyBlobOutRead_keeps {b0 : State} (c : Fin 4) (w : RegWriter) (s : State) (u : State) (h_s : Keeps b0 s)
    (h_u : Keeps b0 u) :
    Keeps b0 (nextOr u (execKeyBlobOutRead c w s)) := by
  unfold execKeyBlobOutRead
  repeat' first
    | (with_reducible first
        | assumption | apply State.setRead_keeps | apply State.withKeys_keeps | apply nextOr_next_keeps)
    | intro _ | split

theorem State.keyChanCreate_keeps {b0 : State} (c : Nat) (a : Attr) (material : List Byte) (slot : Option Nat) (s : State)
    (h_s : Keeps b0 s) :
    Keeps b0 (State.keyChanCreate c a material slot s) := by
  unfold State.keyChanCreate
  repeat' first | (with_reducible first | assumption | apply State.withKeys_keeps) | intro _ | split

theorem State.keyChanReserved_keeps {b0 : State} (c slot : Nat) (a : Attr) (material : List Byte) (s : State) (h_s : Keeps b0 s) :
    Keeps b0 (State.keyChanReserved c slot a material s) := by
  unfold State.keyChanReserved
  repeat' first
    | (refine fun _ _ (h : Keeps _ _) => ?_)
    | (with_reducible first
        | assumption | apply State.draw_keeps | apply State.withKeys_keeps | apply ite_keeps)
    | intro _ | split | (extract_lets x; refine (fun (hx : Keeps b0 x) => ?_) ?_; clear_value x) | extract_lets

theorem State.keyChanGenerate_keeps {b0 : State} (c : Nat) (s : State) (h_s : Keeps b0 s) :
    Keeps b0 (State.keyChanGenerate c s) := by
  unfold State.keyChanGenerate
  repeat' first
    | (refine fun _ _ (h : Keeps _ _) => ?_)
    | (with_reducible first
        | assumption | apply State.keyChanCreate_keeps | apply State.instDraw_keeps | apply State.withKeys_keeps
        | apply ite_keeps)
    | intro _ | split | (extract_lets x; refine (fun (hx : Keeps b0 x) => ?_) ?_; clear_value x) | extract_lets

theorem State.keyChanImport_keeps {b0 : State} (c : Nat) (kw : Bool) (s : State) (h_s : Keeps b0 s) :
    Keeps b0 (State.keyChanImport c kw s) := by
  unfold State.keyChanImport
  repeat' first
    | (with_reducible first
        | assumption | apply State.keyChanCreate_keeps | apply State.withKeys_keeps | apply ite_keeps)
    | intro _ | split | (extract_lets x; refine (fun (hx : Keeps b0 x) => ?_) ?_; clear_value x) | extract_lets

theorem State.keyChanExport_keeps {b0 : State} (c : Nat) (kw : Bool) (s : State) (h_s : Keeps b0 s) :
    Keeps b0 (State.keyChanExport c kw s) := by
  unfold State.keyChanExport
  repeat' first
    | (with_reducible first
        | assumption | apply State.withKeys_keeps | apply ite_keeps)
    | intro _ | split | (extract_lets x; refine (fun (hx : Keeps b0 x) => ?_) ?_; clear_value x) | extract_lets

theorem State.keyChanBlob_keeps {b0 : State} (c : Nat) (s : State) (h_s : Keeps b0 s) :
    Keeps b0 (State.keyChanBlob c s) := by
  unfold State.keyChanBlob
  repeat' first | (with_reducible first | assumption | apply State.withKeys_keeps) | intro _ | split

theorem State.keyChanUnloaded_keeps {b0 : State} (c n : Nat) (gen : Half) (s : State) (h_s : Keeps b0 s) :
    Keeps b0 (State.keyChanUnloaded c n gen s) := by
  unfold State.keyChanUnloaded
  repeat' first
    | (with_reducible first
        | assumption | apply State.withKeys_keeps | apply ite_keeps)
    | intro _ | split

theorem State.keyChanUnload_keeps {b0 : State} (c : Nat) (s : State) (h_s : Keeps b0 s) :
    Keeps b0 (State.keyChanUnload c s) := by
  unfold State.keyChanUnload
  repeat' first
    | (with_reducible first
        | assumption | apply State.keyChanUnloaded_keeps | apply State.withKeys_keeps)
    | intro _ | split | (extract_lets x; refine (fun (hx : Keeps b0 x) => ?_) ?_; clear_value x) | extract_lets

theorem State.keyChanQuery_keeps {b0 : State} (c : Nat) (s : State) (h_s : Keeps b0 s) :
    Keeps b0 (State.keyChanQuery c s) := by
  unfold State.keyChanQuery
  repeat' first
    | (with_reducible first
        | assumption | apply State.withKeys_keeps | apply foldl_keeps)
    | intro _ | split

theorem State.keyChanLoad_keeps {b0 : State} (c : Nat) (s : State) (h_s : Keeps b0 s) :
    Keeps b0 (State.keyChanLoad c s) := by
  unfold State.keyChanLoad
  repeat' first | (with_reducible first | assumption | apply State.withKeys_keeps) | intro _ | split

theorem State.keyChanRun_keeps {b0 : State} (c : Nat) (op : KeyOp) (s : State) (h_s : Keeps b0 s) :
    Keeps b0 (State.keyChanRun c op s) := by
  unfold State.keyChanRun
  repeat' first
    | (with_reducible first
        | assumption | apply State.keyChanLoad_keeps | apply State.keyChanQuery_keeps | apply State.keyChanUnload_keeps
        | apply State.keyChanUnloaded_keeps | apply State.keyChanBlob_keeps | apply State.keyChanExport_keeps
        | apply State.keyChanImport_keeps | apply State.keyChanGenerate_keeps)
    | intro _ | split

theorem execKeyChannelDone_keeps {b0 : State} (c : Fin 4) (s : State) (u : State) (h_s : Keeps b0 s) (h_u : Keeps b0 u) :
    Keeps b0 (nextOr u (execKeyChannelDone c s)) := by
  unfold execKeyChannelDone
  repeat' first
    | (with_reducible first
        | assumption | apply State.keyChanRun_keeps | apply nextOr_next_keeps | apply ite_keeps)
    | intro _ | split | (extract_lets x; refine (fun (hx : Keeps b0 x) => ?_) ?_; clear_value x) | extract_lets

theorem execKeyZeroAll_keeps {b0 : State} (level : Level) (s : State) (u : State) (h_s : Keeps b0 s) (h_u : Keeps b0 u) :
    Keeps b0 (nextOr u (execKeyZeroAll level s)) := by
  unfold execKeyZeroAll
  repeat' first
    | (with_reducible first
        | assumption | apply State.withKeys_keeps | apply nextOr_next_keeps | apply ite_keeps)
    | intro _ | split

theorem execZeroisationDone_keeps {b0 : State} (s : State) (u : State) (h_s : Keeps b0 s) (h_u : Keeps b0 u) :
    Keeps b0 (nextOr u (execZeroisationDone s)) := by
  unfold execZeroisationDone
  repeat' first
    | (with_reducible first
        | assumption | apply State.withInsole_keeps | apply State.withAlarm_keeps | apply State.withKeys_keeps
        | apply nextOr_next_keeps | apply ite_keeps)
    | intro _ | split | (extract_lets x; refine (fun (hx : Keeps b0 x) => ?_) ?_; clear_value x) | extract_lets

theorem State.applyFloor_keeps {b0 : State} (f : Word) (s : State) (h_s : Keeps b0 s) :
    Keeps b0 (State.applyFloor f s) := by
  unfold State.applyFloor
  repeat' first
    | (with_reducible first
        | assumption | apply State.withInsole_keeps | apply State.withBoot_keeps | apply ite_keeps)
    | intro _ | split | (extract_lets x; refine (fun (hx : Keeps b0 x) => ?_) ?_; clear_value x) | extract_lets

theorem execInsFloorWrite_keeps {b0 : State} (level : Level) (v : Word) (s : State) (u : State) (h_s : Keeps b0 s)
    (h_u : Keeps b0 u) :
    Keeps b0 (nextOr u (execInsFloorWrite level v s)) := by
  unfold execInsFloorWrite
  repeat' first
    | (with_reducible first
        | assumption | apply State.applyFloor_keeps | apply nextOr_next_keeps | apply ite_keeps)
    | intro _ | split

theorem State.ikGen_keeps {b0 : State} (s : State) (h_s : Keeps b0 s) :
    Keeps b0 (State.ikGen s) := by
  unfold State.ikGen
  repeat' first
    | (with_reducible first
        | assumption | apply State.withIns_keeps | apply ite_keeps)
    | intro _ | split

theorem execInsIkctlGen_keeps {b0 : State} (level : Level) (s : State) (u : State) (h_s : Keeps b0 s) (h_u : Keeps b0 u) :
    Keeps b0 (nextOr u (execInsIkctlGen level s)) := by
  unfold execInsIkctlGen
  repeat' first
    | (with_reducible first
        | assumption | apply State.ikGen_keeps | apply nextOr_next_keeps | apply ite_keeps)
    | intro _ | split

theorem State.ikStore_keeps {b0 : State} (s : State) (h_s : Keeps b0 s) :
    Keeps b0 (State.ikStore s) := by
  unfold State.ikStore
  repeat' first
    | (refine fun _ _ (h : Keeps _ _) => ?_)
    | (with_reducible first
        | assumption | apply State.instDraw_keeps | apply State.withIns_keeps | apply State.withInsole_keeps)
    | intro _

theorem execIkStored_keeps {b0 : State} (s : State) (u : State) (h_s : Keeps b0 s) (h_u : Keeps b0 u) :
    Keeps b0 (nextOr u (execIkStored s)) := by
  unfold execIkStored
  repeat' first
    | (with_reducible first
        | assumption | apply State.ikStore_keeps | apply nextOr_next_keeps | apply ite_keeps)
    | intro _ | split

theorem execInsoleSeedDelivery_keeps {b0 : State} (s : State) (u : State) (h_s : Keeps b0 s) (h_u : Keeps b0 u) :
    Keeps b0 (nextOr u (execInsoleSeedDelivery s)) := by
  unfold execInsoleSeedDelivery
  repeat' first
    | (refine fun _ _ (h : Keeps _ _) => ?_)
    | (with_reducible first
        | assumption | apply State.instDraw_keeps | apply State.withIns_keeps | apply State.withInsole_keeps
        | apply nextOr_next_keeps | apply ite_keeps)
    | intro _ | split

theorem State.audLoad_keeps {b0 : State} (s : State) (h_s : Keeps b0 s) :
    Keeps b0 (State.audLoad s) := by
  unfold State.audLoad
  repeat' first
    | (with_reducible first
        | assumption | apply State.withListen_keeps | apply State.withIns_keeps | apply State.withInsole_keeps)
    | intro _ | split

theorem execInsAudctlLoad_keeps {b0 : State} (level : Level) (s : State) (u : State) (h_s : Keeps b0 s) (h_u : Keeps b0 u) :
    Keeps b0 (nextOr u (execInsAudctlLoad level s)) := by
  unfold execInsAudctlLoad
  repeat' first
    | (with_reducible first
        | assumption | apply State.audLoad_keeps | apply nextOr_next_keeps | apply ite_keeps)
    | intro _ | split

theorem execInsAudctlClear_keeps {b0 : State} (level : Level) (s : State) (u : State) (h_s : Keeps b0 s) (h_u : Keeps b0 u) :
    Keeps b0 (nextOr u (execInsAudctlClear level s)) := by
  unfold execInsAudctlClear
  repeat' first
    | (with_reducible first
        | assumption | apply State.withIns_keeps | apply State.withInsole_keeps | apply nextOr_next_keeps | apply ite_keeps)
    | intro _ | split

theorem State.tagLatch_keeps {b0 : State} (s : State) (h_s : Keeps b0 s) :
    Keeps b0 (State.tagLatch s) := by
  unfold State.tagLatch
  repeat' first
    | (with_reducible first
        | assumption | apply State.withIns_keeps)
    | intro _ | split | (extract_lets x; refine (fun (hx : Keeps b0 x) => ?_) ?_; clear_value x) | extract_lets

theorem State.tagCommit_keeps {b0 : State} (s : State) (h_s : Keeps b0 s) :
    Keeps b0 (State.tagCommit s) := by
  unfold State.tagCommit
  repeat' first
    | (with_reducible first
        | assumption | apply State.withListen_keeps | apply State.withIns_keeps | apply ite_keeps)
    | intro _ | split | (extract_lets x; refine (fun (hx : Keeps b0 x) => ?_) ?_; clear_value x) | extract_lets

theorem execInsTagSelWrite_keeps {b0 : State} (level : Level) (v : Word) (s : State) (u : State) (h_s : Keeps b0 s)
    (h_u : Keeps b0 u) :
    Keeps b0 (nextOr u (execInsTagSelWrite level v s)) := by
  unfold execInsTagSelWrite
  repeat' first
    | (with_reducible first
        | assumption | apply State.tagLatch_keeps | apply State.withIns_keeps | apply nextOr_next_keeps | apply ite_keeps)
    | intro _ | split | (extract_lets x; refine (fun (hx : Keeps b0 x) => ?_) ?_; clear_value x) | extract_lets

theorem execInsTagCommit_keeps {b0 : State} (level : Level) (s : State) (u : State) (h_s : Keeps b0 s) (h_u : Keeps b0 u) :
    Keeps b0 (nextOr u (execInsTagCommit level s)) := by
  unfold execInsTagCommit
  repeat' first
    | (with_reducible first
        | assumption | apply State.tagCommit_keeps | apply State.withIns_keeps | apply nextOr_next_keeps | apply ite_keeps)
    | intro _ | split

theorem State.tagProceed_keeps {b0 : State} (s : State) (h_s : Keeps b0 s) :
    Keeps b0 (State.tagProceed s) := by
  unfold State.tagProceed
  repeat' first
    | (with_reducible first
        | assumption | apply State.tagCommit_keeps | apply State.tagLatch_keeps)
    | intro _ | split

theorem State.tagBusy_keeps {b0 : State} (s : State) (h_s : Keeps b0 s) :
    Keeps b0 (State.tagBusy s) := by
  unfold State.tagBusy
  repeat' first
    | (with_reducible first
        | assumption | apply State.withIns_keeps | apply ite_keeps)
    | intro _ | split

theorem execBudgetRefill_keeps {b0 : State} (s : State) (u : State) (h_s : Keeps b0 s) (h_u : Keeps b0 u) :
    Keeps b0 (nextOr u (execBudgetRefill s)) := by
  unfold execBudgetRefill
  repeat' first
    | (with_reducible first
        | assumption | apply State.withInsole_keeps | apply nextOr_next_keeps)
    | intro _

theorem State.chargeFrame_keeps {b0 : State} (s : State) (h_s : Keeps b0 s) :
    Keeps b0 (State.chargeFrame s) := by
  unfold State.chargeFrame
  repeat' first
    | (refine fun _ _ (h : Keeps _ _) => ?_)
    | (with_reducible first
        | assumption | apply State.draw_keeps | apply State.withInsole_keeps | apply ite_keeps)
    | intro _ | split

theorem State.answer_keeps {b0 : State} (bs : List Byte) (s : State) (h_s : Keeps b0 s) :
    Keeps b0 (State.answer bs s) := by
  unfold State.answer
  repeat' first
    | (with_reducible first
        | assumption | apply State.chargeFrame_keeps | apply State.withListen_keeps)
    | intro _

theorem State.updCls_keeps {b0 : State} (g : Cls → Cls) (s : State) (h_s : Keeps b0 s) :
    Keeps b0 (State.updCls g s) := by
  unfold State.updCls
  repeat' first
    | (with_reducible first
        | assumption | apply State.withCls_keeps | apply ite_keeps)
    | intro _ | split

theorem execFieldDetected_keeps {b0 : State} (s : State) (u : State) (h_s : Keeps b0 s) (h_u : Keeps b0 u) :
    Keeps b0 (nextOr u (execFieldDetected s)) := by
  unfold execFieldDetected
  repeat' first
    | (with_reducible first
        | assumption | apply State.updCls_keeps | apply State.withListen_keeps | apply State.withInsole_keeps
        | apply nextOr_next_keeps | apply ite_keeps)
    | intro _ | split | (extract_lets x; refine (fun (hx : Keeps b0 x) => ?_) ?_; clear_value x) | extract_lets

theorem execSessionInactivity_keeps {b0 : State} (tie : Bool) (s : State) (u : State) (h_s : Keeps b0 s) (h_u : Keeps b0 u) :
    Keeps b0 (nextOr u (execSessionInactivity tie s)) := by
  unfold execSessionInactivity
  repeat' first
    | (with_reducible first
        | assumption | apply State.withListen_keeps | apply nextOr_next_keeps | apply ite_keeps)
    | intro _ | split

theorem State.heard_keeps {b0 : State} (f : State → State) (s : State) (h_s : Keeps b0 s)
    (h_f : ∀  t', Keeps b0 t' → Keeps b0 (f  t')) :
    Keeps b0 (State.heard f s) := by
  unfold State.heard
  repeat' first
    | (with_reducible first
        | assumption | apply h_f | apply State.withListen_keeps | apply ite_keeps)
    | intro _ | split

theorem execReqa_keeps {b0 : State} (s : State) (u : State) (h_s : Keeps b0 s) (h_u : Keeps b0 u) :
    Keeps b0 (nextOr u (execReqa s)) := by
  unfold execReqa
  repeat' first
    | (refine fun _ (h : Keeps _ _) => ?_)
    | (with_reducible first
        | assumption | apply State.heard_keeps | apply State.answer_keeps | apply State.withListen_keeps
        | apply nextOr_next_keeps | apply ite_keeps)
    | intro _ | split

theorem execWupa_keeps {b0 : State} (s : State) (u : State) (h_s : Keeps b0 s) (h_u : Keeps b0 u) :
    Keeps b0 (nextOr u (execWupa s)) := by
  unfold execWupa
  repeat' first
    | (refine fun _ (h : Keeps _ _) => ?_)
    | (with_reducible first
        | assumption | apply State.heard_keeps | apply State.answer_keeps | apply State.withListen_keeps
        | apply nextOr_next_keeps | apply ite_keeps)
    | intro _ | split

theorem execAnticollision_keeps {b0 : State} (s : State) (u : State) (h_s : Keeps b0 s) (h_u : Keeps b0 u) :
    Keeps b0 (nextOr u (execAnticollision s)) := by
  unfold execAnticollision
  repeat' first
    | (refine fun _ (h : Keeps _ _) => ?_)
    | (with_reducible first
        | assumption | apply State.heard_keeps | apply State.answer_keeps | apply nextOr_next_keeps | apply ite_keeps)
    | intro _ | split

theorem execIsoSelect_keeps {b0 : State} (uid : Word) (s : State) (u : State) (h_s : Keeps b0 s) (h_u : Keeps b0 u) :
    Keeps b0 (nextOr u (execIsoSelect uid s)) := by
  unfold execIsoSelect
  repeat' first
    | (refine fun _ (h : Keeps _ _) => ?_)
    | (with_reducible first
        | assumption | apply State.heard_keeps | apply State.answer_keeps | apply State.withListen_keeps
        | apply nextOr_next_keeps | apply ite_keeps)
    | intro _ | split

theorem execHlta_keeps {b0 : State} (s : State) (u : State) (h_s : Keeps b0 s) (h_u : Keeps b0 u) :
    Keeps b0 (nextOr u (execHlta s)) := by
  unfold execHlta
  repeat' first
    | (refine fun _ (h : Keeps _ _) => ?_)
    | (with_reducible first
        | assumption | apply State.heard_keeps | apply State.withListen_keeps | apply nextOr_next_keeps | apply ite_keeps)
    | intro _ | split

theorem execRats_keeps {b0 : State} (s : State) (u : State) (h_s : Keeps b0 s) (h_u : Keeps b0 u) :
    Keeps b0 (nextOr u (execRats s)) := by
  unfold execRats
  repeat' first
    | (refine fun _ (h : Keeps _ _) => ?_)
    | (with_reducible first
        | assumption | apply State.heard_keeps | apply State.answer_keeps | apply State.withListen_keeps
        | apply nextOr_next_keeps | apply ite_keeps)
    | intro _ | split

theorem execPps_keeps {b0 : State} (dsi dri : BitVec 2) (s : State) (u : State) (h_s : Keeps b0 s) (h_u : Keeps b0 u) :
    Keeps b0 (nextOr u (execPps dsi dri s)) := by
  unfold execPps
  repeat' first
    | (refine fun _ (h : Keeps _ _) => ?_)
    | (with_reducible first
        | assumption | apply State.heard_keeps | apply State.answer_keeps | apply State.withListen_keeps
        | apply nextOr_next_keeps | apply ite_keeps)
    | intro _ | split

theorem execRBlock_keeps {b0 : State} (nak blockNo : Bool) (s : State) (u : State) (h_s : Keeps b0 s) (h_u : Keeps b0 u) :
    Keeps b0 (nextOr u (execRBlock nak blockNo s)) := by
  unfold execRBlock
  repeat' first
    | (refine fun _ (h : Keeps _ _) => ?_)
    | (with_reducible first
        | assumption | apply State.heard_keeps | apply State.answer_keeps | apply nextOr_next_keeps | apply ite_keeps)
    | intro _ | split

theorem execSDeselect_keeps {b0 : State} (s : State) (u : State) (h_s : Keeps b0 s) (h_u : Keeps b0 u) :
    Keeps b0 (nextOr u (execSDeselect s)) := by
  unfold execSDeselect
  repeat' first
    | (with_reducible first
        | assumption | apply State.answer_keeps | apply State.withListen_keeps | apply nextOr_next_keeps | apply ite_keeps)
    | intro _ | split

theorem State.apdu_keeps {b0 : State} (data : List Byte) (sw : Nat) (s : State) (h_s : Keeps b0 s) :
    Keeps b0 (State.apdu data sw s) := by
  unfold State.apdu
  repeat' first
    | (with_reducible first
        | assumption | apply State.answer_keeps | apply State.withListen_keeps)
    | intro _

theorem State.inSession_keeps {b0 : State} (f : State → State) (s : State) (h_s : Keeps b0 s)
    (h_f : ∀  t', Keeps b0 t' → Keeps b0 (f  t')) :
    Keeps b0 (State.inSession f s) := by
  unfold State.inSession
  repeat' first | (with_reducible first | assumption | apply h_f | apply ite_keeps) | intro _ | split

theorem State.apduSecured_keeps {b0 : State} (data : List Byte) (sw : Nat) (s : State) (h_s : Keeps b0 s) :
    Keeps b0 (State.apduSecured data sw s) := by
  unfold State.apduSecured
  repeat' first
    | (with_reducible first
        | assumption | apply State.apdu_keeps | apply State.withListen_keeps | apply ite_keeps)
    | intro _ | split | (extract_lets x; refine (fun (hx : Keeps b0 x) => ?_) ?_; clear_value x) | extract_lets

theorem State.secured_keeps {b0 : State} (hdr data : List Byte) (f : List Byte → State → State) (s : State) (h_s : Keeps b0 s)
    (h_f : ∀ x0 t', Keeps b0 t' → Keeps b0 (f x0 t')) :
    Keeps b0 (State.secured hdr data f s) := by
  unfold State.secured
  repeat' first
    | (with_reducible first
        | assumption | apply h_f | apply State.apdu_keeps | apply State.withListen_keeps | apply ite_keeps)
    | intro _ | split

theorem State.application_keeps {b0 : State} (lc : Nat) (data : List Byte) (leOk : Bool) (f : State → State) (s : State)
    (h_s : Keeps b0 s) (h_f : ∀  t', Keeps b0 t' → Keeps b0 (f  t')) :
    Keeps b0 (State.application lc data leOk f s) := by
  unfold State.application
  repeat' first
    | (refine fun _ (h : Keeps _ _) => ?_)
    | (with_reducible first
        | assumption | apply h_f | apply State.inSession_keeps | apply State.apdu_keeps | apply State.withListen_keeps
        | apply ite_keeps)
    | intro _ | split | (extract_lets x; refine (fun (hx : Keeps b0 x) => ?_) ?_; clear_value x) | extract_lets

theorem execSelect_keeps {b0 : State} (aid : List Byte) (s : State) (u : State) (h_s : Keeps b0 s) (h_u : Keeps b0 u) :
    Keeps b0 (nextOr u (execSelect aid s)) := by
  unfold execSelect
  repeat' first
    | (refine fun _ (h : Keeps _ _) => ?_)
    | (with_reducible first
        | assumption | apply State.inSession_keeps | apply State.apdu_keeps | apply State.withListen_keeps
        | apply nextOr_next_keeps | apply ite_keeps)
    | intro _ | split | (extract_lets x; refine (fun (hx : Keeps b0 x) => ?_) ?_; clear_value x) | extract_lets

theorem State.hold_keeps {b0 : State} (page : Byte) (s : State) (h_s : Keeps b0 s) :
    Keeps b0 (State.hold page s) := by
  unfold State.hold
  repeat' first
    | (refine fun _ (h : Keeps _ _) => ?_)
    | (with_reducible first
        | assumption | apply State.inSession_keeps | apply State.withListen_keeps | apply ite_keeps)
    | intro _ | split

theorem execReadPage_keeps {b0 : State} (cla page : Byte) (data : List Byte) (leOk : Bool) (s : State) (u : State)
    (h_s : Keeps b0 s) (h_u : Keeps b0 u) :
    Keeps b0 (nextOr u (execReadPage cla page data leOk s)) := by
  unfold execReadPage
  repeat' first
    | (refine fun _ (h : Keeps _ _) => ?_)
    | (refine fun _ _ (h : Keeps _ _) => ?_)
    | (with_reducible first
        | assumption | apply State.hold_keeps | apply State.application_keeps | apply State.secured_keeps
        | apply State.apduSecured_keeps | apply State.inSession_keeps | apply State.apdu_keeps | apply State.answer_keeps
        | apply State.withListen_keeps | apply nextOr_next_keeps | apply ite_keeps)
    | intro _ | split | (extract_lets x; refine (fun (hx : Keeps b0 x) => ?_) ?_; clear_value x) | extract_lets

theorem execAuth1_keeps {b0 : State} (data : List Byte) (leOk : Bool) (s : State) (u : State) (h_s : Keeps b0 s)
    (h_u : Keeps b0 u) :
    Keeps b0 (nextOr u (execAuth1 data leOk s)) := by
  unfold execAuth1
  repeat' first
    | (refine fun _ (h : Keeps _ _) => ?_)
    | (refine fun _ _ (h : Keeps _ _) => ?_)
    | (with_reducible first
        | assumption | apply State.application_keeps | apply State.secured_keeps | apply State.apdu_keeps
        | apply State.withListen_keeps | apply State.withInsole_keeps | apply nextOr_next_keeps | apply ite_keeps)
    | intro _ | split | (extract_lets x; refine (fun (hx : Keeps b0 x) => ?_) ?_; clear_value x) | extract_lets

theorem execAuth2_keeps {b0 : State} (data : List Byte) (leOk : Bool) (s : State) (u : State) (h_s : Keeps b0 s)
    (h_u : Keeps b0 u) :
    Keeps b0 (nextOr u (execAuth2 data leOk s)) := by
  unfold execAuth2
  repeat' first
    | (refine fun _ (h : Keeps _ _) => ?_)
    | (with_reducible first
        | assumption | apply State.inSession_keeps | apply State.apdu_keeps | apply State.withListen_keeps
        | apply State.withInsole_keeps | apply nextOr_next_keeps | apply ite_keeps)
    | intro _ | split | (extract_lets x; refine (fun (hx : Keeps b0 x) => ?_) ?_; clear_value x) | extract_lets

theorem execWriteNotes_keeps {b0 : State} (page : Byte) (data : List Byte) (leOk : Bool) (collapse : Option Bool) (s : State) (u
    : State) (h_s : Keeps b0 s) (h_u : Keeps b0 u) :
    Keeps b0 (nextOr u (execWriteNotes page data leOk collapse s)) := by
  unfold execWriteNotes
  repeat' first
    | (refine fun _ (h : Keeps _ _) => ?_)
    | (refine fun _ _ (h : Keeps _ _) => ?_)
    | (with_reducible first
        | assumption | apply State.hold_keeps | apply State.application_keeps | apply State.secured_keeps
        | apply State.apduSecured_keeps | apply State.withListen_keeps | apply nextOr_next_keeps | apply ite_keeps)
    | intro _ | split | (extract_lets x; refine (fun (hx : Keeps b0 x) => ?_) ?_; clear_value x) | extract_lets

theorem execReadLog_keeps {b0 : State} (data : List Byte) (leOk : Bool) (s : State) (u : State) (h_s : Keeps b0 s)
    (h_u : Keeps b0 u) :
    Keeps b0 (nextOr u (execReadLog data leOk s)) := by
  unfold execReadLog
  repeat' first
    | (refine fun _ (h : Keeps _ _) => ?_)
    | (refine fun _ _ (h : Keeps _ _) => ?_)
    | (with_reducible first
        | assumption | apply State.application_keeps | apply State.secured_keeps | apply State.apduSecured_keeps
        | apply nextOr_next_keeps)
    | intro _ | split | (extract_lets x; refine (fun (hx : Keeps b0 x) => ?_) ?_; clear_value x) | extract_lets

theorem execGetStatus_keeps {b0 : State} (data : List Byte) (leOk : Bool) (s : State) (u : State) (h_s : Keeps b0 s)
    (h_u : Keeps b0 u) :
    Keeps b0 (nextOr u (execGetStatus data leOk s)) := by
  unfold execGetStatus
  repeat' first
    | (refine fun _ (h : Keeps _ _) => ?_)
    | (refine fun _ _ (h : Keeps _ _) => ?_)
    | (with_reducible first
        | assumption | apply State.application_keeps | apply State.secured_keeps | apply State.apduSecured_keeps
        | apply nextOr_next_keeps)
    | intro _

theorem execUnsupportedApdu_keeps {b0 : State} (cla ins : Byte) (s : State) (u : State) (h_s : Keeps b0 s) (h_u : Keeps b0 u) :
    Keeps b0 (nextOr u (execUnsupportedApdu cla ins s)) := by
  unfold execUnsupportedApdu
  repeat' first
    | (refine fun _ (h : Keeps _ _) => ?_)
    | (with_reducible first
        | assumption | apply State.inSession_keeps | apply State.apdu_keeps | apply State.withListen_keeps
        | apply nextOr_next_keeps | apply ite_keeps)
    | intro _ | split

theorem execAuthBlockEnd_keeps {b0 : State} (s : State) (u : State) (h_s : Keeps b0 s) (h_u : Keeps b0 u) :
    Keeps b0 (nextOr u (execAuthBlockEnd s)) := by
  unfold execAuthBlockEnd
  repeat' first
    | (with_reducible first
        | assumption | apply State.withInsole_keeps | apply nextOr_next_keeps | apply ite_keeps)
    | intro _ | split

theorem execClsPoll_keeps {b0 : State} (level : Level) (s : State) (u : State) (h_s : Keeps b0 s) (h_u : Keeps b0 u) :
    Keeps b0 (nextOr u (execClsPoll level s)) := by
  unfold execClsPoll
  repeat' first
    | (with_reducible first
        | assumption | apply State.updCls_keeps | apply nextOr_next_keeps | apply ite_keeps)
    | intro _ | split

theorem execClsAbort_keeps {b0 : State} (level : Level) (s : State) (u : State) (h_s : Keeps b0 s) (h_u : Keeps b0 u) :
    Keeps b0 (nextOr u (execClsAbort level s)) := by
  unfold execClsAbort
  repeat' first
    | (with_reducible first
        | assumption | apply State.updCls_keeps | apply nextOr_next_keeps | apply ite_keeps)
    | intro _ | split

theorem execClsXchg_keeps {b0 : State} (level : Level) (s : State) (u : State) (h_s : Keeps b0 s) (h_u : Keeps b0 u) :
    Keeps b0 (nextOr u (execClsXchg level s)) := by
  unfold execClsXchg
  repeat' first
    | (with_reducible first
        | assumption | apply State.updCls_keeps | apply nextOr_next_keeps | apply ite_keeps)
    | intro _ | split

theorem execPollRound_keeps {b0 : State} (typeA typeB : Option (List Byte)) (fieldSeen : Bool) (s : State) (u : State)
    (h_s : Keeps b0 s) (h_u : Keeps b0 u) :
    Keeps b0 (nextOr u (execPollRound typeA typeB fieldSeen s)) := by
  unfold execPollRound
  repeat' first
    | (with_reducible first
        | assumption | apply State.updCls_keeps | apply nextOr_next_keeps | apply ite_keeps)
    | intro _ | split

theorem execPollTimeout_keeps {b0 : State} (s : State) (u : State) (h_s : Keeps b0 s) (h_u : Keeps b0 u) :
    Keeps b0 (nextOr u (execPollTimeout s)) := by
  unfold execPollTimeout
  repeat' first
    | (with_reducible first
        | assumption | apply State.updCls_keeps | apply nextOr_next_keeps | apply ite_keeps)
    | intro _ | split

theorem execBadgeExchangeEnd_keeps {b0 : State} (answer : Option (List Byte)) (s : State) (u : State) (h_s : Keeps b0 s)
    (h_u : Keeps b0 u) :
    Keeps b0 (nextOr u (execBadgeExchangeEnd answer s)) := by
  unfold execBadgeExchangeEnd
  repeat' first
    | (with_reducible first
        | assumption | apply State.updCls_keeps | apply nextOr_next_keeps | apply ite_keeps)
    | intro _ | split

theorem State.updBox_keeps {b0 : State} (k : Nat) (g : Mailbox → Mailbox) (s : State) (h_s : Keeps b0 s) :
    Keeps b0 (State.updBox k g s) := by
  unfold State.updBox
  repeat' first
    | (with_reducible first
        | assumption | apply State.msix_keeps | apply State.withMbx_keeps | apply ite_keeps)
    | intro _ | split | (extract_lets x; refine (fun (hx : Keeps b0 x) => ?_) ?_; clear_value x) | extract_lets

theorem execMbxMsgLoWrite_keeps {b0 : State} (m : MbxId) (side : Side) (v : Word) (s : State) (u : State) (h_s : Keeps b0 s)
    (h_u : Keeps b0 u) :
    Keeps b0 (nextOr u (execMbxMsgLoWrite m side v s)) := by
  unfold execMbxMsgLoWrite
  repeat' first
    | (with_reducible first
        | assumption | apply State.updBox_keeps | apply nextOr_next_keeps | apply ite_keeps)
    | intro _ | split

theorem execMbxMsgHiWrite_keeps {b0 : State} (m : MbxId) (side : Side) (v : Word) (s : State) (u : State) (h_s : Keeps b0 s)
    (h_u : Keeps b0 u) :
    Keeps b0 (nextOr u (execMbxMsgHiWrite m side v s)) := by
  unfold execMbxMsgHiWrite
  repeat' first
    | (with_reducible first
        | assumption | apply State.updBox_keeps | apply nextOr_next_keeps | apply ite_keeps)
    | intro _ | split

theorem execMbxMsgHiRead_keeps {b0 : State} (m : MbxId) (side : Side) (s : State) (u : State) (h_s : Keeps b0 s)
    (h_u : Keeps b0 u) :
    Keeps b0 (nextOr u (execMbxMsgHiRead m side s)) := by
  unfold execMbxMsgHiRead
  repeat' first
    | (with_reducible first
        | assumption | apply State.updBox_keeps | apply State.setRead_keeps | apply nextOr_next_keeps | apply ite_keeps)
    | intro _ | split | (extract_lets x; refine (fun (hx : Keeps b0 x) => ?_) ?_; clear_value x) | extract_lets

theorem execMbxTimeout_keeps {b0 : State} (m : MbxId) (s : State) (u : State) (h_s : Keeps b0 s) (h_u : Keeps b0 u) :
    Keeps b0 (nextOr u (execMbxTimeout m s)) := by
  unfold execMbxTimeout
  repeat' first
    | (with_reducible first
        | assumption | apply State.updBox_keeps | apply State.withMbx_keeps | apply nextOr_next_keeps | apply ite_keeps)
    | intro _ | split | (extract_lets x; refine (fun (hx : Keeps b0 x) => ?_) ?_; clear_value x) | extract_lets

theorem execMbxDbellWrite_keeps {b0 : State} (m : MbxId) (side : Side) (v : Word) (s : State) (u : State) (h_s : Keeps b0 s)
    (h_u : Keeps b0 u) :
    Keeps b0 (nextOr u (execMbxDbellWrite m side v s)) := by
  unfold execMbxDbellWrite
  repeat' first
    | (with_reducible first
        | assumption | apply State.updBox_keeps | apply nextOr_next_keeps | apply ite_keeps)
    | intro _ | split

theorem execMbxDbclrWrite_keeps {b0 : State} (m : MbxId) (side : Side) (v : Word) (s : State) (u : State) (h_s : Keeps b0 s)
    (h_u : Keeps b0 u) :
    Keeps b0 (nextOr u (execMbxDbclrWrite m side v s)) := by
  unfold execMbxDbclrWrite
  repeat' first
    | (with_reducible first
        | assumption | apply State.updBox_keeps | apply nextOr_next_keeps | apply ite_keeps)
    | intro _ | split

theorem execMbxLockRead_keeps {b0 : State} (m : MbxId) (requester : Fin 70) (s : State) (u : State) (h_s : Keeps b0 s)
    (h_u : Keeps b0 u) :
    Keeps b0 (nextOr u (execMbxLockRead m requester s)) := by
  unfold execMbxLockRead
  repeat' first
    | (with_reducible first
        | assumption | apply State.updBox_keeps | apply State.setRead_keeps | apply nextOr_next_keeps | apply ite_keeps)
    | intro _ | split | (extract_lets x; refine (fun (hx : Keeps b0 x) => ?_) ?_; clear_value x) | extract_lets

theorem execMbxLockWrite_keeps {b0 : State} (m : MbxId) (requester : Fin 70) (v : Word) (s : State) (u : State)
    (h_s : Keeps b0 s) (h_u : Keeps b0 u) :
    Keeps b0 (nextOr u (execMbxLockWrite m requester v s)) := by
  unfold execMbxLockWrite
  repeat' first
    | (with_reducible first
        | assumption | apply State.updBox_keeps | apply nextOr_next_keeps | apply ite_keeps)
    | intro _ | split | (extract_lets x; refine (fun (hx : Keeps b0 x) => ?_) ?_; clear_value x) | extract_lets

theorem execMbxHrouteWrite_keeps {b0 : State} (f : Fin 64) (level : Level) (v : Word) (s : State) (u : State)
    (h_s : Keeps b0 s) (h_u : Keeps b0 u) :
    Keeps b0 (nextOr u (execMbxHrouteWrite f level v s)) := by
  unfold execMbxHrouteWrite
  repeat' first
    | (with_reducible first
        | assumption | apply State.updBox_keeps | apply State.withMbx_keeps | apply nextOr_next_keeps | apply ite_keeps)
    | intro _ | split | (extract_lets x; refine (fun (hx : Keeps b0 x) => ?_) ?_; clear_value x) | extract_lets

theorem State.statusPages_keeps {b0 : State} (g : StatusPage → StatusPage) (s : State) (h_s : Keeps b0 s) :
    Keeps b0 (State.statusPages g s) := by
  unfold State.statusPages
  repeat' first
    | (with_reducible first
        | assumption | apply State.updBox_keeps | apply State.withMbx_keeps | apply foldl_keeps)
    | intro _

theorem State.setPhase_keeps {b0 : State} (p : Phase) (s : State) (h_s : Keeps b0 s) :
    Keeps b0 (State.setPhase p s) := by
  unfold State.setPhase
  repeat' first
    | (with_reducible first
        | assumption | apply State.statusPages_keeps | apply State.withBoot_keeps)
    | intro _

theorem State.updCore_keeps {b0 : State} (c : Nat) (g : Core → Core) (s : State) (h_s : Keeps b0 s) : Keeps b0 (s.updCore c g) :=
  State.withCores_keeps _ (fun b h => Bank.wf_upd {} c g b h) h_s

theorem State.updMpu_keeps {b0 : State} (m : Nat) (g : Mpu → Mpu) (s : State) (h_s : Keeps b0 s) :
    Keeps b0 (State.updMpu m g s) := by
  unfold State.updMpu
  repeat' first | (with_reducible first | assumption | apply State.withMpus_keeps) | intro _

theorem State.releaseCore_keeps {b0 : State} (c : Nat) (nmi : Bool) (s : State) (h_s : Keeps b0 s) :
    Keeps b0 (State.releaseCore c nmi s) := by
  unfold State.releaseCore
  repeat' first
    | (with_reducible first
        | assumption | apply State.updCore_keeps | apply State.withMpus_keeps)
    | intro _ | split | (extract_lets x; refine (fun (hx : Keeps b0 x) => ?_) ?_; clear_value x) | extract_lets

theorem State.dmaFault_keeps {b0 : State} (m : Nat) (acc : Access) (r : Refused) (s : State) (h_s : Keeps b0 s) :
    Keeps b0 (State.dmaFault m acc r s) := by
  unfold State.dmaFault
  repeat' first
    | (refine fun _ _ (h : Keeps _ _) => ?_)
    | (with_reducible first
        | assumption | apply State.updMpu_keeps | apply State.draw_keeps)
    | intro _

theorem State.updEngine_keeps {b0 : State} (n : Nat) (f : PkeEngine → PkeEngine) (s : State) (h_s : Keeps b0 s) :
    Keeps b0 (State.updEngine n f s) := by
  unfold State.updEngine
  repeat' first | (with_reducible first | assumption | apply State.withPke_keeps) | intro _

theorem State.pkeHold_keeps {b0 : State} (n op : Nat) (s : State) (h_s : Keeps b0 s) :
    Keeps b0 (State.pkeHold n op s) := by
  unfold State.pkeHold
  repeat' first
    | (with_reducible first
        | assumption | apply State.updEngine_keeps | apply State.withRng_keeps | apply ite_keeps)
    | exact fun (_ : Rng) h => h | exact fun (_ : Rng) h => Rng.tests_ok _ _ h | exact fun (_ : Rng) h => Rng.takeBlock_ok h
    | (intro (r : Rng) h; (repeat' split) <;> first | exact h | exact Rng.takeBlock_ok h | simp_all [Rng.Ok]) | intro _ | split

theorem State.pkeBegin_keeps {b0 : State} (n : Nat) (j : PkeJob) (s : State) (h_s : Keeps b0 s) :
    Keeps b0 (State.pkeBegin n j s) := by
  unfold State.pkeBegin
  repeat' first
    | (refine fun _ _ (h : Keeps _ _) => ?_)
    | (with_reducible first
        | assumption | apply State.updEngine_keeps | apply State.instDraw_keeps | apply State.withRng_keeps | apply ite_keeps)
    | exact fun (_ : Rng) h => h | exact fun (_ : Rng) h => Rng.tests_ok _ _ h | exact fun (_ : Rng) h => Rng.takeBlock_ok h
    | (intro (r : Rng) h; (repeat' split) <;> first | exact h | exact Rng.takeBlock_ok h | simp_all [Rng.Ok]) | intro _ | split
    | (extract_lets x; refine (fun (hx : Keeps b0 x) => ?_) ?_; clear_value x) | extract_lets

theorem State.pkeRun_keeps {b0 : State} (n : Nat) (j : PkeJob) (machine : Bool) (s : State) (h_s : Keeps b0 s) :
    Keeps b0 (State.pkeRun n j machine s) := by
  unfold State.pkeRun
  repeat' first
    | (with_reducible first
        | assumption | apply State.pkeBegin_keeps | apply State.pkeHold_keeps | apply ite_keeps)
    | intro _ | split

theorem State.pkeTimed_keeps {b0 : State} (n : Nat) (s : State) (h_s : Keeps b0 s) :
    Keeps b0 (State.pkeTimed n s) := by
  unfold State.pkeTimed
  repeat' first
    | (refine fun _ _ (h : Keeps _ _) => ?_)
    | (with_reducible first
        | assumption | apply State.updEngine_keeps | apply State.draw_keeps)
    | intro _

theorem State.pkeEnd_keeps {b0 : State} (n : Nat) (st : Half) (detail : Word) (outLen : Nat) (state : BitVec 3) (s : State)
    (h_s : Keeps b0 s) :
    Keeps b0 (State.pkeEnd n st detail outLen state s) := by
  unfold State.pkeEnd
  repeat' first
    | (with_reducible first
        | assumption | apply State.updEngine_keeps | apply State.withKeys_keeps | apply ite_keeps)
    | intro _ | split | (extract_lets x; refine (fun (hx : Keeps b0 x) => ?_) ?_; clear_value x) | extract_lets

theorem State.pkeChanFail_keeps {b0 : State} (j : PkeJob) (st : Half) (s : State) (h_s : Keeps b0 s) :
    Keeps b0 (State.pkeChanFail j st s) := by
  unfold State.pkeChanFail
  repeat' first
    | (with_reducible first
        | assumption | apply State.withKeys_keeps | apply ite_keeps)
    | intro _ | split

theorem State.pkeStart_keeps {b0 : State} (n : Nat) (op : Byte) (k : PkeCmd) (s : State) (h_s : Keeps b0 s) :
    Keeps b0 (State.pkeStart n op k s) := by
  unfold State.pkeStart
  repeat' first
    | (with_reducible first
        | assumption | apply State.pkeRun_keeps | apply State.updEngine_keeps | apply State.withKeys_keeps | apply ite_keeps)
    | intro _ | split | (extract_lets x; refine (fun (hx : Keeps b0 x) => ?_) ?_; clear_value x) | extract_lets

theorem State.pkeCmd_keeps {b0 : State} (n : Nat) (op : Byte) (k : PkeCmd) (s : State) (h_s : Keeps b0 s) :
    Keeps b0 (State.pkeCmd n op k s) := by
  unfold State.pkeCmd
  repeat' first
    | (with_reducible first
        | assumption | apply State.pkeStart_keeps | apply State.pkeChanFail_keeps | apply State.pkeEnd_keeps
        | apply State.pkeTimed_keeps | apply State.updEngine_keeps | apply ite_keeps)
    | intro _ | split | (extract_lets x; refine (fun (hx : Keeps b0 x) => ?_) ?_; clear_value x) | extract_lets

theorem execPkeCmdBadOp_keeps {b0 : State} (n : Fin 4) (op : Byte) (k : PkeCmd) (s : State) (u : State) (h_s : Keeps b0 s)
    (h_u : Keeps b0 u) :
    Keeps b0 (nextOr u (execPkeCmdBadOp n op k s)) := by
  unfold execPkeCmdBadOp
  repeat' first
    | (with_reducible first
        | assumption | apply State.pkeCmd_keeps | apply nextOr_next_keeps)
    | intro _

theorem execRsaPriv_keeps {b0 : State} (n : Fin 4) (k : PkeCmd) (s : State) (u : State) (h_s : Keeps b0 s) (h_u : Keeps b0 u) :
    Keeps b0 (nextOr u (execRsaPriv n k s)) := by
  unfold execRsaPriv
  repeat' first
    | (with_reducible first
        | assumption | apply State.pkeCmd_keeps | apply nextOr_next_keeps)
    | intro _

theorem execRsaPub_keeps {b0 : State} (n : Fin 4) (k : PkeCmd) (s : State) (u : State) (h_s : Keeps b0 s) (h_u : Keeps b0 u) :
    Keeps b0 (nextOr u (execRsaPub n k s)) := by
  unfold execRsaPub
  repeat' first
    | (with_reducible first
        | assumption | apply State.pkeCmd_keeps | apply nextOr_next_keeps)
    | intro _

theorem execEcKeygen_keeps {b0 : State} (n : Fin 4) (k : PkeCmd) (s : State) (u : State) (h_s : Keeps b0 s) (h_u : Keeps b0 u) :
    Keeps b0 (nextOr u (execEcKeygen n k s)) := by
  unfold execEcKeygen
  repeat' first
    | (with_reducible first
        | assumption | apply State.pkeCmd_keeps | apply nextOr_next_keeps)
    | intro _

theorem execEcdsaSign_keeps {b0 : State} (n : Fin 4) (k : PkeCmd) (s : State) (u : State) (h_s : Keeps b0 s) (h_u : Keeps b0 u) :
    Keeps b0 (nextOr u (execEcdsaSign n k s)) := by
  unfold execEcdsaSign
  repeat' first
    | (with_reducible first
        | assumption | apply State.pkeCmd_keeps | apply nextOr_next_keeps)
    | intro _

theorem execEcdsaVerify_keeps {b0 : State} (n : Fin 4) (k : PkeCmd) (s : State) (u : State) (h_s : Keeps b0 s)
    (h_u : Keeps b0 u) :
    Keeps b0 (nextOr u (execEcdsaVerify n k s)) := by
  unfold execEcdsaVerify
  repeat' first
    | (with_reducible first
        | assumption | apply State.pkeCmd_keeps | apply nextOr_next_keeps)
    | intro _

theorem execEcdh_keeps {b0 : State} (n : Fin 4) (k : PkeCmd) (s : State) (u : State) (h_s : Keeps b0 s) (h_u : Keeps b0 u) :
    Keeps b0 (nextOr u (execEcdh n k s)) := by
  unfold execEcdh
  repeat' first
    | (with_reducible first
        | assumption | apply State.pkeCmd_keeps | apply nextOr_next_keeps)
    | intro _

theorem execCvKeygen_keeps {b0 : State} (n : Fin 4) (k : PkeCmd) (s : State) (u : State) (h_s : Keeps b0 s) (h_u : Keeps b0 u) :
    Keeps b0 (nextOr u (execCvKeygen n k s)) := by
  unfold execCvKeygen
  repeat' first
    | (with_reducible first
        | assumption | apply State.pkeCmd_keeps | apply nextOr_next_keeps)
    | intro _

theorem execEdSign_keeps {b0 : State} (n : Fin 4) (k : PkeCmd) (s : State) (u : State) (h_s : Keeps b0 s) (h_u : Keeps b0 u) :
    Keeps b0 (nextOr u (execEdSign n k s)) := by
  unfold execEdSign
  repeat' first
    | (with_reducible first
        | assumption | apply State.pkeCmd_keeps | apply nextOr_next_keeps)
    | intro _

theorem execEdVerify_keeps {b0 : State} (n : Fin 4) (k : PkeCmd) (s : State) (u : State) (h_s : Keeps b0 s) (h_u : Keeps b0 u) :
    Keeps b0 (nextOr u (execEdVerify n k s)) := by
  unfold execEdVerify
  repeat' first
    | (with_reducible first
        | assumption | apply State.pkeCmd_keeps | apply nextOr_next_keeps)
    | intro _

theorem execX25519_keeps {b0 : State} (n : Fin 4) (k : PkeCmd) (s : State) (u : State) (h_s : Keeps b0 s) (h_u : Keeps b0 u) :
    Keeps b0 (nextOr u (execX25519 n k s)) := by
  unfold execX25519
  repeat' first
    | (with_reducible first
        | assumption | apply State.pkeCmd_keeps | apply nextOr_next_keeps)
    | intro _

theorem execMlkemKeygen_keeps {b0 : State} (n : Fin 4) (k : PkeCmd) (s : State) (u : State) (h_s : Keeps b0 s)
    (h_u : Keeps b0 u) :
    Keeps b0 (nextOr u (execMlkemKeygen n k s)) := by
  unfold execMlkemKeygen
  repeat' first
    | (with_reducible first
        | assumption | apply State.pkeCmd_keeps | apply nextOr_next_keeps)
    | intro _

theorem execMlkemEncaps_keeps {b0 : State} (n : Fin 4) (k : PkeCmd) (s : State) (u : State) (h_s : Keeps b0 s)
    (h_u : Keeps b0 u) :
    Keeps b0 (nextOr u (execMlkemEncaps n k s)) := by
  unfold execMlkemEncaps
  repeat' first
    | (with_reducible first
        | assumption | apply State.pkeCmd_keeps | apply nextOr_next_keeps)
    | intro _

theorem execMlkemDecaps_keeps {b0 : State} (n : Fin 4) (k : PkeCmd) (s : State) (u : State) (h_s : Keeps b0 s)
    (h_u : Keeps b0 u) :
    Keeps b0 (nextOr u (execMlkemDecaps n k s)) := by
  unfold execMlkemDecaps
  repeat' first
    | (with_reducible first
        | assumption | apply State.pkeCmd_keeps | apply nextOr_next_keeps)
    | intro _

theorem execMldsaKeygen_keeps {b0 : State} (n : Fin 4) (k : PkeCmd) (s : State) (u : State) (h_s : Keeps b0 s)
    (h_u : Keeps b0 u) :
    Keeps b0 (nextOr u (execMldsaKeygen n k s)) := by
  unfold execMldsaKeygen
  repeat' first
    | (with_reducible first
        | assumption | apply State.pkeCmd_keeps | apply nextOr_next_keeps)
    | intro _

theorem execMldsaSign_keeps {b0 : State} (n : Fin 4) (k : PkeCmd) (s : State) (u : State) (h_s : Keeps b0 s) (h_u : Keeps b0 u) :
    Keeps b0 (nextOr u (execMldsaSign n k s)) := by
  unfold execMldsaSign
  repeat' first
    | (with_reducible first
        | assumption | apply State.pkeCmd_keeps | apply nextOr_next_keeps)
    | intro _

theorem execMldsaVerify_keeps {b0 : State} (n : Fin 4) (k : PkeCmd) (s : State) (u : State) (h_s : Keeps b0 s)
    (h_u : Keeps b0 u) :
    Keeps b0 (nextOr u (execMldsaVerify n k s)) := by
  unfold execMldsaVerify
  repeat' first
    | (with_reducible first
        | assumption | apply State.pkeCmd_keeps | apply nextOr_next_keeps)
    | intro _

theorem execCheckKey_keeps {b0 : State} (n : Fin 4) (k : PkeCmd) (s : State) (u : State) (h_s : Keeps b0 s) (h_u : Keeps b0 u) :
    Keeps b0 (nextOr u (execCheckKey n k s)) := by
  unfold execCheckKey
  repeat' first
    | (with_reducible first
        | assumption | apply State.pkeCmd_keeps | apply nextOr_next_keeps)
    | intro _

theorem execPkeWaitEnd_keeps {b0 : State} (n : Fin 4) (s : State) (u : State) (h_s : Keeps b0 s) (h_u : Keeps b0 u) :
    Keeps b0 (nextOr u (execPkeWaitEnd n s)) := by
  unfold execPkeWaitEnd
  repeat' first
    | (with_reducible first
        | assumption | apply State.pkeBegin_keeps | apply nextOr_next_keeps | apply ite_keeps)
    | intro _ | split | (extract_lets x; refine (fun (hx : Keeps b0 x) => ?_) ?_; clear_value x) | extract_lets

theorem State.pkeLoad_keeps {b0 : State} (n : Nat) (j : PkeJob) (s : State) (h_s : Keeps b0 s) :
    Keeps b0 (State.pkeLoad n j s) := by
  unfold State.pkeLoad
  repeat' first
    | (with_reducible first
        | assumption | apply State.updEngine_keeps | apply ite_keeps)
    | intro _ | split | (extract_lets x; refine (fun (hx : Keeps b0 x) => ?_) ?_; clear_value x) | extract_lets

theorem execPkeLoadDone_keeps {b0 : State} (n : Fin 4) (s : State) (u : State) (h_s : Keeps b0 s) (h_u : Keeps b0 u) :
    Keeps b0 (nextOr u (execPkeLoadDone n s)) := by
  unfold execPkeLoadDone
  repeat' first
    | (with_reducible first
        | assumption | apply State.pkeLoad_keeps | apply State.dmaFault_keeps | apply nextOr_next_keeps | apply ite_keeps)
    | intro _ | split | (extract_lets x; refine (fun (hx : Keeps b0 x) => ?_) ?_; clear_value x) | extract_lets

theorem State.pkeKeep_keeps {b0 : State} (n : Nat) (avoid : Option Nat) (s : State) (h_s : Keeps b0 s) :
    Keeps b0 (State.pkeKeep n avoid s) := by
  unfold State.pkeKeep
  repeat' first
    | (with_reducible first
        | assumption | apply State.withFw_keeps)
    | intro _ | split | (extract_lets x; refine (fun (hx : Keeps b0 x) => ?_) ?_; clear_value x) | extract_lets

theorem State.pkeTake_keeps {b0 : State} (n : Nat) (s : State) (h_s : Keeps b0 s) :
    Keeps b0 (State.pkeTake n s) := by
  unfold State.pkeTake
  repeat' first
    | (with_reducible first
        | assumption | apply State.pkeCmd_keeps | apply State.updEngine_keeps | apply State.withFw_keeps | apply ite_keeps)
    | intro _ | split

theorem State.pkeReissue_keeps {b0 : State} (s : State) (h_s : Keeps b0 s) :
    Keeps b0 (State.pkeReissue s) := by
  unfold State.pkeReissue
  repeat' first
    | (with_reducible first
        | assumption | apply State.pkeTake_keeps | apply foldl_keeps)
    | intro _

theorem State.pkeValidate_keeps {b0 : State} (n : Nat) (j : PkeJob) (s : State) (h_s : Keeps b0 s) :
    Keeps b0 (State.pkeValidate n j s) := by
  unfold State.pkeValidate
  repeat' first
    | (with_reducible first
        | assumption | apply State.pkeChanFail_keeps | apply State.pkeEnd_keeps | apply State.pkeTimed_keeps
        | apply State.updEngine_keeps)
    | intro _ | split | (extract_lets x; refine (fun (hx : Keeps b0 x) => ?_) ?_; clear_value x) | extract_lets

theorem execPkeValidationEnd_keeps {b0 : State} (n : Fin 4) (s : State) (u : State) (h_s : Keeps b0 s) (h_u : Keeps b0 u) :
    Keeps b0 (nextOr u (execPkeValidationEnd n s)) := by
  unfold execPkeValidationEnd
  repeat' first
    | (with_reducible first
        | assumption | apply State.pkeValidate_keeps | apply State.pkeReissue_keeps | apply nextOr_next_keeps | apply ite_keeps)
    | intro _ | split | (extract_lets x; refine (fun (hx : Keeps b0 x) => ?_) ?_; clear_value x) | extract_lets

theorem State.pkeDeliver_keeps {b0 : State} (j : PkeJob) (secret : List Byte) (s : State) (h_s : Keeps b0 s) :
    Keeps b0 (State.pkeDeliver j secret s) := by
  unfold State.pkeDeliver
  repeat' first
    | (with_reducible first
        | assumption | apply State.keyChanCreate_keeps | apply State.withKeys_keeps | apply ite_keeps)
    | intro _ | split | (extract_lets x; refine (fun (hx : Keeps b0 x) => ?_) ?_; clear_value x) | extract_lets

theorem State.pkeCopy_keeps {b0 : State} (n m : Nat) (j : PkeJob) (checked : Bool) (s : State) (h_s : Keeps b0 s) :
    Keeps b0 (State.pkeCopy n m j checked s) := by
  unfold State.pkeCopy
  repeat' first
    | (with_reducible first
        | assumption | apply State.pkeDeliver_keeps | apply State.pkeEnd_keeps | apply State.updEngine_keeps
        | apply State.dmaFault_keeps | apply State.sramWrite_keeps | apply ite_keeps)
    | intro _ | split | (extract_lets x; refine (fun (hx : Keeps b0 x) => ?_) ?_; clear_value x) | extract_lets

theorem State.pkeFinish_keeps {b0 : State} (n : Nat) (j : PkeJob) (d : PkeDone) (checked : Bool) (s : State) (h_s : Keeps b0 s) :
    Keeps b0 (State.pkeFinish n j d checked s) := by
  unfold State.pkeFinish
  repeat' first
    | (with_reducible first
        | assumption | apply State.pkeCopy_keeps | apply State.pkeChanFail_keeps | apply State.pkeEnd_keeps
        | apply State.updEngine_keeps | apply ite_keeps)
    | intro _ | split | (extract_lets x; refine (fun (hx : Keeps b0 x) => ?_) ?_; clear_value x) | extract_lets

theorem State.pkeFail_keeps {b0 : State} (n : Nat) (j : PkeJob) (d : PkeDone) (s : State) (h_s : Keeps b0 s) :
    Keeps b0 (State.pkeFail n j d s) := by
  unfold State.pkeFail
  repeat' first
    | (with_reducible first
        | assumption | apply State.pkeKeep_keeps | apply State.pkeChanFail_keeps | apply State.pkeEnd_keeps
        | apply State.pkeRun_keeps | apply State.updEngine_keeps | apply State.raise_keeps | apply State.eventFree_keeps
        | apply State.event_keeps | apply ite_keeps)
    | intro _ | split | (extract_lets x; refine (fun (hx : Keeps b0 x) => ?_) ?_; clear_value x) | extract_lets

theorem execPkeOpDone_keeps {b0 : State} (n : Fin 4) (d : PkeDone) (s : State) (u : State) (h_s : Keeps b0 s) (h_u : Keeps b0 u) :
    Keeps b0 (nextOr u (execPkeOpDone n d s)) := by
  unfold execPkeOpDone
  repeat' first
    | (with_reducible first
        | assumption | apply State.pkeFail_keeps | apply State.pkeFinish_keeps | apply State.pkeCopy_keeps
        | apply State.pkeReissue_keeps | apply nextOr_next_keeps | apply ite_keeps)
    | intro _ | split | (extract_lets x; refine (fun (hx : Keeps b0 x) => ?_) ?_; clear_value x) | extract_lets

theorem execPkeAbort_keeps {b0 : State} (n : Fin 4) (master : CoreNo) (level : Level) (v : Word) (s : State) (u : State)
    (h_s : Keeps b0 s) (h_u : Keeps b0 u) :
    Keeps b0 (nextOr u (execPkeAbort n master level v s)) := by
  unfold execPkeAbort
  repeat' first
    | (with_reducible first
        | assumption | apply State.updEngine_keeps | apply nextOr_next_keeps | apply ite_keeps)
    | intro _ | split | (extract_lets x; refine (fun (hx : Keeps b0 x) => ?_) ?_; clear_value x) | extract_lets

theorem execPkeClear_keeps {b0 : State} (n : Fin 4) (master : CoreNo) (level : Level) (v : Word) (s : State) (u : State)
    (h_s : Keeps b0 s) (h_u : Keeps b0 u) :
    Keeps b0 (nextOr u (execPkeClear n master level v s)) := by
  unfold execPkeClear
  repeat' first
    | (with_reducible first
        | assumption | apply State.updEngine_keeps | apply nextOr_next_keeps | apply ite_keeps)
    | intro _ | split

theorem execPkeClearDone_keeps {b0 : State} (n : Fin 4) (s : State) (u : State) (h_s : Keeps b0 s) (h_u : Keeps b0 u) :
    Keeps b0 (nextOr u (execPkeClearDone n s)) := by
  unfold execPkeClearDone
  repeat' first
    | (with_reducible first
        | assumption | apply State.pkeReissue_keeps | apply State.pkeKeep_keeps | apply State.pkeChanFail_keeps
        | apply State.pkeEnd_keeps | apply State.pkeTimed_keeps | apply State.updEngine_keeps | apply State.withRng_keeps
        | apply nextOr_next_keeps | apply ite_keeps)
    | exact fun (_ : Rng) h => h | exact fun (_ : Rng) h => Rng.tests_ok _ _ h | exact fun (_ : Rng) h => Rng.takeBlock_ok h
    | (intro (r : Rng) h; (repeat' split) <;> first | exact h | exact Rng.takeBlock_ok h | simp_all [Rng.Ok]) | intro _ | split
    | (extract_lets x; refine (fun (hx : Keeps b0 x) => ?_) ?_; clear_value x) | extract_lets

theorem execPkeKatRun_keeps {b0 : State} (n : Fin 4) (level : Level) (s : State) (u : State) (h_s : Keeps b0 s)
    (h_u : Keeps b0 u) :
    Keeps b0 (nextOr u (execPkeKatRun n level s)) := by
  unfold execPkeKatRun
  repeat' first
    | (refine fun _ _ (h : Keeps _ _) => ?_)
    | (with_reducible first
        | assumption | apply State.updEngine_keeps | apply State.instDraw_keeps | apply nextOr_next_keeps | apply ite_keeps)
    | intro _ | split | (extract_lets x; refine (fun (hx : Keeps b0 x) => ?_) ?_; clear_value x) | extract_lets

theorem execPkeKatDone_keeps {b0 : State} (n : Fin 4) (pass : Bool) (s : State) (u : State) (h_s : Keeps b0 s)
    (h_u : Keeps b0 u) :
    Keeps b0 (nextOr u (execPkeKatDone n pass s)) := by
  unfold execPkeKatDone
  repeat' first
    | (with_reducible first
        | assumption | apply State.pkeReissue_keeps | apply State.updEngine_keeps | apply nextOr_next_keeps | apply ite_keeps)
    | intro _ | split

theorem State.fwEngine_keeps {b0 : State} (n c : Nat) (q : FwOp) (s : State) (h_s : Keeps b0 s) :
    Keeps b0 (State.fwEngine n c q s) := by
  unfold State.fwEngine
  repeat' first
    | (refine fun _ _ (h : Keeps _ _) => ?_)
    | (with_reducible first
        | assumption | apply State.pkeFinish_keeps | apply State.pkeValidate_keeps | apply State.pkeLoad_keeps
        | apply State.pkeCmd_keeps | apply State.updEngine_keeps | apply State.sramWrite_keeps | apply State.draw_keeps
        | apply State.withKeys_keeps | apply foldl_keeps | apply ite_keeps)
    | intro _ | split | (extract_lets x; refine (fun (hx : Keeps b0 x) => ?_) ?_; clear_value x) | extract_lets

theorem execAlarmAssert_keeps {b0 : State} (tick : List (Fin 57 × Word)) (s : State) (u : State) (h_s : Keeps b0 s)
    (h_u : Keeps b0 u) :
    Keeps b0 (nextOr u (execAlarmAssert tick s)) := by
  unfold execAlarmAssert
  repeat' first
    | (with_reducible first
        | assumption | apply State.c3Tick_keeps | apply State.alarmTick_keeps | apply nextOr_next_keeps)
    | intro _ | split | (extract_lets x; refine (fun (hx : Keeps b0 x) => ?_) ?_; clear_value x) | extract_lets

theorem execAlarmAssertDark_keeps {b0 : State} (src : Fin 57) (detail : Word) (s : State) (u : State) (h_s : Keeps b0 s)
    (h_u : Keeps b0 u) :
    Keeps b0 (nextOr u (execAlarmAssertDark src detail s)) := by
  unfold execAlarmAssertDark
  repeat' first
    | (with_reducible first
        | assumption | apply State.assertDark_keeps | apply State.c3Set_keeps | apply nextOr_next_keeps | apply ite_keeps)
    | intro _ | split

theorem execMainResetAssert_keeps {b0 : State} (s : State) (u : State) (h_s : Keeps b0 s) (h_u : Keeps b0 u) :
    Keeps b0 (nextOr u (execMainResetAssert s)) := by
  unfold execMainResetAssert
  repeat' first
    | (with_reducible first
        | assumption | apply State.assertReset_keeps | apply State.abortJobs_keeps | apply nextOr_next_keeps | apply ite_keeps)
    | intro _ | split

theorem execHaltLift_keeps {b0 : State} (s : State) (u : State) (h_s : Keeps b0 s) (h_u : Keeps b0 u) :
    Keeps b0 (nextOr u (execHaltLift s)) := by
  unfold execHaltLift
  repeat' first
    | (with_reducible first
        | assumption | apply State.pkeReissue_keeps | apply State.withAlarm_keeps | apply nextOr_next_keeps | apply ite_keeps)
    | intro _ | split

theorem State.mirrorHead_keeps {b0 : State} (s : State) (h_s : Keeps b0 s) :
    Keeps b0 (State.mirrorHead s) := by
  unfold State.mirrorHead
  repeat' first | (with_reducible first | assumption | apply State.mirror_keeps) | intro _

theorem execLogCommit_keeps {b0 : State} (s : State) (u : State) (h_s : Keeps b0 s) (h_u : Keeps b0 u) :
    Keeps b0 (nextOr u (execLogCommit s)) := by
  unfold execLogCommit
  repeat' first
    | (with_reducible first
        | assumption | apply State.mirrorHead_keeps | apply State.withLog_keeps | apply nextOr_next_keeps | apply ite_keeps)
    | intro _ | split

theorem execCoalesceWindowEnd_keeps {b0 : State} (src : Fin 57) (s : State) (u : State) (h_s : Keeps b0 s) (h_u : Keeps b0 u) :
    Keeps b0 (nextOr u (execCoalesceWindowEnd src s)) := by
  unfold execCoalesceWindowEnd
  repeat' first
    | (with_reducible first
        | assumption | apply State.withLog_keeps | apply nextOr_next_keeps)
    | intro _

theorem execAlmRaise_keeps {b0 : State} (writer : CoreNo) (level : Level) (v : Word) (s : State) (u : State)
    (h_s : Keeps b0 s) (h_u : Keeps b0 u) :
    Keeps b0 (nextOr u (execAlmRaise writer level v s)) := by
  unfold execAlmRaise
  repeat' first
    | (with_reducible first
        | assumption | apply State.alarmTick_keeps | apply nextOr_next_keeps | apply ite_keeps)
    | intro _ | split

theorem execAlmRespWrite_keeps {b0 : State} (level : Level) (k : Fin 16) (v : Word) (s : State) (u : State) (h_s : Keeps b0 s)
    (h_u : Keeps b0 u) :
    Keeps b0 (nextOr u (execAlmRespWrite level k v s)) := by
  unfold execAlmRespWrite
  repeat' first
    | (with_reducible first
        | assumption | apply State.withLog_keeps | apply State.withAlarm_keeps | apply nextOr_next_keeps | apply ite_keeps)
    | intro _ | split

theorem execAlmLogExpWrite_keeps {b0 : State} (level : Level) (v : Word) (s : State) (u : State) (h_s : Keeps b0 s)
    (h_u : Keeps b0 u) :
    Keeps b0 (nextOr u (execAlmLogExpWrite level v s)) := by
  unfold execAlmLogExpWrite
  repeat' first
    | (with_reducible first
        | assumption | apply State.withLog_keeps | apply nextOr_next_keeps | apply ite_keeps)
    | intro _ | split

theorem State.logRelease_keeps {b0 : State} (v : Word) (s : State) (h_s : Keeps b0 s) :
    Keeps b0 (State.logRelease v s) := by
  unfold State.logRelease
  repeat' first
    | (refine fun _ _ (h : Keeps _ _) => ?_)
    | (with_reducible first
        | assumption | apply State.draw_keeps | apply State.withLog_keeps)
    | intro _

theorem execAlmLogRelWrite_keeps {b0 : State} (level : Level) (v : Word) (s : State) (u : State) (h_s : Keeps b0 s)
    (h_u : Keeps b0 u) :
    Keeps b0 (nextOr u (execAlmLogRelWrite level v s)) := by
  unfold execAlmLogRelWrite
  repeat' first
    | (with_reducible first
        | assumption | apply State.logRelease_keeps | apply nextOr_next_keeps | apply ite_keeps)
    | intro _ | split

theorem execAlmLogDataRead_keeps {b0 : State} (w : Fin 8) (s : State) (u : State) (h_s : Keeps b0 s) (h_u : Keeps b0 u) :
    Keeps b0 (nextOr u (execAlmLogDataRead w s)) := by
  unfold execAlmLogDataRead
  repeat' first
    | (with_reducible first
        | assumption | apply State.setRead_keeps | apply State.withLog_keeps | apply nextOr_next_keeps)
    | intro _ | split

theorem execTampStep_keeps {b0 : State} (loop : Fin 4) (level : Bool) (detail : Word) (s : State) (u : State)
    (h_s : Keeps b0 s) (h_u : Keeps b0 u) :
    Keeps b0 (nextOr u (execTampStep loop level detail s)) := by
  unfold execTampStep
  repeat' first
    | (refine fun _ _ (h : Keeps _ _) => ?_)
    | (with_reducible first
        | assumption | apply State.alarmTick_keeps | apply State.draw_keeps | apply State.withInsole_keeps
        | apply nextOr_next_keeps | apply ite_keeps)
    | intro _ | split | (extract_lets x; refine (fun (hx : Keeps b0 x) => ?_) ?_; clear_value x) | extract_lets

theorem execAlarmSourceDeassert_keeps {b0 : State} (src : Fin 57) (s : State) (u : State) (h_s : Keeps b0 s) (h_u : Keeps b0 u) :
    Keeps b0 (nextOr u (execAlarmSourceDeassert src s)) := by
  unfold execAlarmSourceDeassert
  repeat' first
    | (with_reducible first
        | assumption | apply State.deassert_keeps | apply nextOr_next_keeps)
    | intro _

theorem State.digDeal_keeps {b0 : State} (s : State) (h_s : Keeps b0 s) :
    Keeps b0 (State.digDeal s) := by
  unfold State.digDeal
  repeat' first | (with_reducible first | assumption | apply State.withDig_keeps) | intro _

theorem State.digEnd_keeps {b0 : State} (m : Nat) (st : Half) (detail : Word) (s : State) (h_s : Keeps b0 s) :
    Keeps b0 (State.digEnd m st detail s) := by
  unfold State.digEnd
  repeat' first
    | (with_reducible first
        | assumption | apply State.withDig_keeps | apply State.withKeys_keeps)
    | intro _ | split | (extract_lets x; refine (fun (hx : Keeps b0 x) => ?_) ?_; clear_value x) | extract_lets

theorem State.digMask_keeps {b0 : State} (k : List Byte → State → State) (s : State) (h_s : Keeps b0 s)
    (h_k : ∀ x0 t', Keeps b0 t' → Keeps b0 (k x0 t')) :
    Keeps b0 (State.digMask k s) := by
  unfold State.digMask
  repeat' first | (refine fun _ _ (h : Keeps _ _) => ?_) | (with_reducible first | assumption | apply h_k | apply State.instDraw_keeps) | intro _

theorem State.digStart_keeps {b0 : State} (m : Nat) (op : Byte) (k : DigCmd) (s : State) (h_s : Keeps b0 s) :
    Keeps b0 (State.digStart m op k s) := by
  unfold State.digStart
  repeat' first
    | (with_reducible first
        | assumption | apply State.digDeal_keeps | apply State.withDig_keeps | apply State.withKeys_keeps | apply ite_keeps)
    | intro _ | split | (extract_lets x; refine (fun (hx : Keeps b0 x) => ?_) ?_; clear_value x) | extract_lets

theorem State.digCmd_keeps {b0 : State} (m : Nat) (op : Byte) (k : DigCmd) (s : State) (h_s : Keeps b0 s) :
    Keeps b0 (State.digCmd m op k s) := by
  unfold State.digCmd
  repeat' first
    | (with_reducible first
        | assumption | apply State.digStart_keeps | apply State.digEnd_keeps | apply State.withDig_keeps | apply ite_keeps)
    | intro _ | split | (extract_lets x; refine (fun (hx : Keeps b0 x) => ?_) ?_; clear_value x) | extract_lets

theorem execDigInit_keeps {b0 : State} (m : CoreNo) (k : DigCmd) (s : State) (u : State) (h_s : Keeps b0 s) (h_u : Keeps b0 u) :
    Keeps b0 (nextOr u (execDigInit m k s)) := by
  unfold execDigInit
  repeat' first
    | (with_reducible first
        | assumption | apply State.digCmd_keeps | apply nextOr_next_keeps)
    | intro _

theorem execDigUpdate_keeps {b0 : State} (m : CoreNo) (k : DigCmd) (s : State) (u : State) (h_s : Keeps b0 s) (h_u : Keeps b0 u) :
    Keeps b0 (nextOr u (execDigUpdate m k s)) := by
  unfold execDigUpdate
  repeat' first
    | (with_reducible first
        | assumption | apply State.digCmd_keeps | apply nextOr_next_keeps)
    | intro _

theorem execDigFinal_keeps {b0 : State} (m : CoreNo) (k : DigCmd) (s : State) (u : State) (h_s : Keeps b0 s) (h_u : Keeps b0 u) :
    Keeps b0 (nextOr u (execDigFinal m k s)) := by
  unfold execDigFinal
  repeat' first
    | (with_reducible first
        | assumption | apply State.digCmd_keeps | apply nextOr_next_keeps)
    | intro _

theorem execDigSave_keeps {b0 : State} (m : CoreNo) (k : DigCmd) (s : State) (u : State) (h_s : Keeps b0 s) (h_u : Keeps b0 u) :
    Keeps b0 (nextOr u (execDigSave m k s)) := by
  unfold execDigSave
  repeat' first
    | (with_reducible first
        | assumption | apply State.digCmd_keeps | apply nextOr_next_keeps)
    | intro _

theorem execDigRestore_keeps {b0 : State} (m : CoreNo) (k : DigCmd) (s : State) (u : State) (h_s : Keeps b0 s)
    (h_u : Keeps b0 u) :
    Keeps b0 (nextOr u (execDigRestore m k s)) := by
  unfold execDigRestore
  repeat' first
    | (with_reducible first
        | assumption | apply State.digCmd_keeps | apply nextOr_next_keeps)
    | intro _

theorem execDigExtend_keeps {b0 : State} (m : CoreNo) (k : DigCmd) (s : State) (u : State) (h_s : Keeps b0 s) (h_u : Keeps b0 u) :
    Keeps b0 (nextOr u (execDigExtend m k s)) := by
  unfold execDigExtend
  repeat' first
    | (with_reducible first
        | assumption | apply State.digCmd_keeps | apply nextOr_next_keeps)
    | intro _

theorem execDigAbort_keeps {b0 : State} (m : CoreNo) (k : DigCmd) (s : State) (u : State) (h_s : Keeps b0 s) (h_u : Keeps b0 u) :
    Keeps b0 (nextOr u (execDigAbort m k s)) := by
  unfold execDigAbort
  repeat' first
    | (with_reducible first
        | assumption | apply State.digCmd_keeps | apply nextOr_next_keeps)
    | intro _

theorem State.digFinish_keeps {b0 : State} (m : Nat) (x : DigChan) (c : DigCtx) (k : DigCmd) (s : State) (h_s : Keeps b0 s) :
    Keeps b0 (State.digFinish m x c k s) := by
  unfold State.digFinish
  repeat' first
    | (with_reducible first
        | assumption | apply State.digEnd_keeps | apply State.dmaFault_keeps | apply State.keyChanReserved_keeps
        | apply State.keyChanCreate_keeps | apply State.sramWrite_keeps | apply State.withDig_keeps | apply State.withKeys_keeps
        | apply ite_keeps)
    | intro _ | split | (extract_lets x; refine (fun (hx : Keeps b0 x) => ?_) ?_; clear_value x) | extract_lets

theorem State.digRun_keeps {b0 : State} (m : Nat) (op : Byte) (k : DigCmd) (s : State) (h_s : Keeps b0 s) :
    Keeps b0 (State.digRun m op k s) := by
  unfold State.digRun
  repeat' first
    | (with_reducible first
        | assumption | apply State.digFinish_keeps | apply State.digEnd_keeps | apply State.withDig_keeps | apply ite_keeps)
    | intro _ | split | (extract_lets x; refine (fun (hx : Keeps b0 x) => ?_) ?_; clear_value x) | extract_lets

theorem State.digOp_keeps {b0 : State} (m : Nat) (x : DigChan) (op : Byte) (k : DigCmd) (unit : Nat) (s : State)
    (h_s : Keeps b0 s) :
    Keeps b0 (State.digOp m x op k unit s) := by
  unfold State.digOp
  repeat' first
    | (refine fun _ _ (h : Keeps _ _) => ?_)
    | (with_reducible first
        | assumption | apply State.digRun_keeps | apply State.digMask_keeps | apply State.digDeal_keeps
        | apply State.dmaFault_keeps | apply State.withDig_keeps | apply ite_keeps)
    | intro _ | split | (extract_lets x; refine (fun (hx : Keeps b0 x) => ?_) ?_; clear_value x) | extract_lets

theorem execDigestOpDone_keeps {b0 : State} (m : CoreNo) (unit : Fin 4) (s : State) (u : State) (h_s : Keeps b0 s)
    (h_u : Keeps b0 u) :
    Keeps b0 (nextOr u (execDigestOpDone m unit s)) := by
  unfold execDigestOpDone
  repeat' first
    | (with_reducible first
        | assumption | apply State.digOp_keeps | apply State.digDeal_keeps | apply State.withDig_keeps | apply nextOr_next_keeps
        | apply ite_keeps)
    | intro _ | split | (extract_lets x; refine (fun (hx : Keeps b0 x) => ?_) ?_; clear_value x) | extract_lets

theorem execDigestSegmentEnd_keeps {b0 : State} (unit : Fin 4) (mismatch rerunFails : Bool) (s : State) (u : State)
    (h_s : Keeps b0 s) (h_u : Keeps b0 u) :
    Keeps b0 (nextOr u (execDigestSegmentEnd unit mismatch rerunFails s)) := by
  unfold execDigestSegmentEnd
  repeat' first
    | (with_reducible first
        | assumption | apply State.digDeal_keeps | apply State.raise_keeps | apply State.eventFree_keeps
        | apply State.event_keeps | apply State.withDig_keeps | apply nextOr_next_keeps | apply ite_keeps)
    | intro _ | split | (extract_lets x; refine (fun (hx : Keeps b0 x) => ?_) ?_; clear_value x) | extract_lets

theorem execDigKatRun_keeps {b0 : State} (unit : Fin 4) (level : Level) (s : State) (u : State) (h_s : Keeps b0 s)
    (h_u : Keeps b0 u) :
    Keeps b0 (nextOr u (execDigKatRun unit level s)) := by
  unfold execDigKatRun
  repeat' first
    | (with_reducible first
        | assumption | apply State.withDig_keeps | apply nextOr_next_keeps | apply ite_keeps)
    | intro _ | split | (extract_lets x; refine (fun (hx : Keeps b0 x) => ?_) ?_; clear_value x) | extract_lets

theorem execDigKatDone_keeps {b0 : State} (pass : Bool) (s : State) (u : State) (h_s : Keeps b0 s) (h_u : Keeps b0 u) :
    Keeps b0 (nextOr u (execDigKatDone pass s)) := by
  unfold execDigKatDone
  repeat' first
    | (with_reducible first
        | assumption | apply State.digDeal_keeps | apply State.withDig_keeps | apply nextOr_next_keeps | apply ite_keeps)
    | intro _ | split | (extract_lets x; refine (fun (hx : Keeps b0 x) => ?_) ?_; clear_value x) | extract_lets

theorem execMeasWord0Read_keeps {b0 : State} (n : Fin 32) (s : State) (u : State) (h_s : Keeps b0 s) (h_u : Keeps b0 u) :
    Keeps b0 (nextOr u (execMeasWord0Read n s)) := by
  unfold execMeasWord0Read
  repeat' first
    | (with_reducible first
        | assumption | apply State.setRead_keeps | apply State.withDig_keeps | apply nextOr_next_keeps)
    | intro _ | split | (extract_lets x; refine (fun (hx : Keeps b0 x) => ?_) ?_; clear_value x) | extract_lets

theorem execDigEnWrite_keeps {b0 : State} (level : Level) (v : Word) (s : State) (u : State) (h_s : Keeps b0 s)
    (h_u : Keeps b0 u) :
    Keeps b0 (nextOr u (execDigEnWrite level v s)) := by
  unfold execDigEnWrite
  repeat' first
    | (with_reducible first
        | assumption | apply State.digDeal_keeps | apply State.withDig_keeps | apply nextOr_next_keeps | apply ite_keeps)
    | intro _ | split

theorem execPwrgdFall_keeps {b0 : State} (s : State) (u : State) (h_s : Keeps b0 s) (h_u : Keeps b0 u) :
    Keeps b0 (nextOr u (execPwrgdFall s)) := by
  unfold execPwrgdFall
  repeat' first
    | (with_reducible first
        | assumption | apply State.assertReset_keeps | apply State.withPins_keeps | apply nextOr_next_keeps | apply ite_keeps)
    | exact fun (_ : Pins) => ⟨Nat.le_refl _, Nat.le_refl _, Nat.le_refl _, rfl⟩
    | (intro (p : Pins); refine ⟨?_, ?_, ?_, ?_⟩ <;> (repeat' split) <;> first | rfl | exact Nat.le_refl _ | exact Nat.le_max_left _ _)
    | intro _ | split

theorem execPwrgdRise_keeps {b0 : State} (s : State) (u : State) (h_s : Keeps b0 s) (h_u : Keeps b0 u) :
    Keeps b0 (nextOr u (execPwrgdRise s)) := by
  unfold execPwrgdRise
  repeat' first
    | (with_reducible first
        | assumption | apply State.withPins_keeps | apply nextOr_next_keeps)
    | exact fun (_ : Pins) => ⟨Nat.le_refl _, Nat.le_refl _, Nat.le_refl _, rfl⟩
    | (intro (p : Pins); refine ⟨?_, ?_, ?_, ?_⟩ <;> (repeat' split) <;> first | rfl | exact Nat.le_refl _ | exact Nat.le_max_left _ _)
    | intro _

theorem execPerstAssert_keeps {b0 : State} (s : State) (u : State) (h_s : Keeps b0 s) (h_u : Keeps b0 u) :
    Keeps b0 (nextOr u (execPerstAssert s)) := by
  unfold execPerstAssert
  repeat' first
    | (with_reducible first
        | assumption | apply State.assertReset_keeps | apply State.withBoot_keeps | apply State.withPins_keeps
        | apply nextOr_next_keeps | apply ite_keeps)
    | exact fun (_ : Pins) => ⟨Nat.le_refl _, Nat.le_refl _, Nat.le_refl _, rfl⟩
    | (intro (p : Pins); refine ⟨?_, ?_, ?_, ?_⟩ <;> (repeat' split) <;> first | rfl | exact Nat.le_refl _ | exact Nat.le_max_left _ _)
    | intro _ | split

theorem execPerstRelease_keeps {b0 : State} (late : Bool) (s : State) (u : State) (h_s : Keeps b0 s) (h_u : Keeps b0 u) :
    Keeps b0 (nextOr u (execPerstRelease late s)) := by
  unfold execPerstRelease
  repeat' first
    | (with_reducible first
        | assumption | apply State.withBoot_keeps | apply State.withPins_keeps | apply nextOr_next_keeps | apply ite_keeps)
    | exact fun (_ : Pins) => ⟨Nat.le_refl _, Nat.le_refl _, Nat.le_refl _, rfl⟩
    | (intro (p : Pins); refine ⟨?_, ?_, ?_, ?_⟩ <;> (repeat' split) <;> first | rfl | exact Nat.le_refl _ | exact Nat.le_max_left _ _)
    | intro _ | split

theorem execInsoleSupplySwitch_keeps {b0 : State} (toVbat : Bool) (s : State) (u : State) (h_s : Keeps b0 s) (h_u : Keeps b0 u) :
    Keeps b0 (nextOr u (execInsoleSupplySwitch toVbat s)) := by
  unfold execInsoleSupplySwitch
  repeat' first
    | (with_reducible first
        | assumption | apply State.withInsole_keeps | apply nextOr_next_keeps)
    | intro _

theorem execInsoleEmptyRestart_keeps {b0 : State} (s : State) (u : State) (h_s : Keeps b0 s) (h_u : Keeps b0 u) :
    Keeps b0 (nextOr u (execInsoleEmptyRestart s)) := by
  unfold execInsoleEmptyRestart
  repeat' first
    | (refine fun _ _ (h : Keeps _ _) => ?_)
    | (with_reducible first
        | assumption | apply State.draw_keeps | apply State.withListen_keeps | apply State.withInsole_keeps
        | apply State.withLog_keeps | apply nextOr_next_keeps)
    | intro _

theorem execMainResetEnd_keeps {b0 : State} (s : State) (u : State) (h_s : Keeps b0 s) (h_u : Keeps b0 u) :
    Keeps b0 (nextOr u (execMainResetEnd s)) := by
  unfold execMainResetEnd
  repeat' first
    | (with_reducible first
        | assumption | apply State.withCob_keeps | apply State.withInsole_keeps | apply State.withLog_keeps
        | apply State.withAlarm_keeps | apply State.withKeys_keeps | apply State.withBoot_keeps | apply nextOr_next_keeps
        | apply ite_keeps)
    | intro _ | split | (extract_lets x; refine (fun (hx : Keeps b0 x) => ?_) ?_; clear_value x) | extract_lets

theorem execRngReady_keeps {b0 : State} (katM katK : Bool) (s : State) (u : State) (h_s : Keeps b0 s) (h_u : Keeps b0 u) :
    Keeps b0 (nextOr u (execRngReady katM katK s)) := by
  unfold execRngReady
  repeat' first
    | (with_reducible first
        | assumption | apply State.rngStart_keeps | apply State.withRng_keeps | apply nextOr_next_keeps | apply ite_keeps)
    | exact fun (_ : Rng) h => h | exact fun (_ : Rng) h => Rng.tests_ok _ _ h | exact fun (_ : Rng) h => Rng.takeBlock_ok h
    | (intro (r : Rng) h; (repeat' split) <;> first | exact h | exact Rng.takeBlock_ok h | simp_all [Rng.Ok]) | intro _ | split

theorem execPufReconstructionDone_keeps {b0 : State} (ok : Bool) (s : State) (u : State) (h_s : Keeps b0 s) (h_u : Keeps b0 u) :
    Keeps b0 (nextOr u (execPufReconstructionDone ok s)) := by
  unfold execPufReconstructionDone
  repeat' first
    | (with_reducible first
        | assumption | apply State.tickMain_keeps | apply State.withKeys_keeps | apply State.withBoot_keeps
        | apply nextOr_next_keeps | apply ite_keeps)
    | intro _ | split | (extract_lets x; refine (fun (hx : Keeps b0 x) => ?_) ?_; clear_value x) | extract_lets

theorem State.goLive_keeps {b0 : State} (s : State) (h_s : Keeps b0 s) :
    Keeps b0 (State.goLive s) := by
  unfold State.goLive
  repeat' first
    | (refine fun _ _ (h : Keeps _ _) => ?_)
    | (with_reducible first
        | assumption | apply State.draw_keeps | apply State.withDig_keeps | apply State.withKeys_keeps
        | apply State.withBoot_keeps | apply ite_keeps)
    | intro _ | split | (extract_lets x; refine (fun (hx : Keeps b0 x) => ?_) ?_; clear_value x) | extract_lets

theorem execLoaderLive_keeps {b0 : State} (s : State) (u : State) (h_s : Keeps b0 s) (h_u : Keeps b0 u) :
    Keeps b0 (nextOr u (execLoaderLive s)) := by
  unfold execLoaderLive
  repeat' first
    | (with_reducible first
        | assumption | apply State.goLive_keeps | apply nextOr_next_keeps | apply ite_keeps)
    | intro _ | split

theorem execLinkL0_keeps {b0 : State} (s : State) (u : State) (h_s : Keeps b0 s) (h_u : Keeps b0 u) :
    Keeps b0 (nextOr u (execLinkL0 s)) := by
  unfold execLinkL0
  repeat' first
    | (with_reducible first
        | assumption | apply State.goLive_keeps | apply State.withPins_keeps | apply nextOr_next_keeps | apply ite_keeps)
    | exact fun (_ : Pins) => ⟨Nat.le_refl _, Nat.le_refl _, Nat.le_refl _, rfl⟩
    | (intro (p : Pins); refine ⟨?_, ?_, ?_, ?_⟩ <;> (repeat' split) <;> first | rfl | exact Nat.le_refl _ | exact Nat.le_max_left _ _)
    | intro _ | split | (extract_lets x; refine (fun (hx : Keeps b0 x) => ?_) ?_; clear_value x) | extract_lets

theorem execRngBootTimeout_keeps {b0 : State} (s : State) (u : State) (h_s : Keeps b0 s) (h_u : Keeps b0 u) :
    Keeps b0 (nextOr u (execRngBootTimeout s)) := by
  unfold execRngBootTimeout
  repeat' first
    | (with_reducible first
        | assumption | apply State.withBoot_keeps | apply nextOr_next_keeps | apply ite_keeps)
    | intro _ | split

theorem State.refuseImage_keeps {b0 : State} (code seg : Nat) (s : State) (h_s : Keeps b0 s) :
    Keeps b0 (State.refuseImage code seg s) := by
  unfold State.refuseImage
  repeat' first | (with_reducible first | assumption | apply State.withBoot_keeps) | intro _

theorem execLdrGo_keeps {b0 : State} (f : Fin 64) (v : Word) (s : State) (u : State) (h_s : Keeps b0 s) (h_u : Keeps b0 u) :
    Keeps b0 (nextOr u (execLdrGo f v s)) := by
  unfold execLdrGo
  repeat' first
    | (with_reducible first
        | assumption | apply State.refuseImage_keeps | apply State.withBoot_keeps | apply nextOr_next_keeps | apply ite_keeps)
    | intro _ | split

theorem execImageReadTimeout_keeps {b0 : State} (s : State) (u : State) (h_s : Keeps b0 s) (h_u : Keeps b0 u) :
    Keeps b0 (nextOr u (execImageReadTimeout s)) := by
  unfold execImageReadTimeout
  repeat' first
    | (with_reducible first
        | assumption | apply State.refuseImage_keeps | apply nextOr_next_keeps | apply ite_keeps)
    | intro _ | split

theorem State.releaseCores_keeps {b0 : State} (s : State) (h_s : Keeps b0 s) :
    Keeps b0 (State.releaseCores s) := by
  unfold State.releaseCores
  repeat' first
    | (with_reducible first
        | assumption | apply State.releaseCore_keeps | apply foldl_keeps)
    | intro _

theorem State.earlyImage_keeps {b0 : State} (g : Image) (s : State) (h_s : Keeps b0 s) :
    Keeps b0 (State.earlyImage g s) := by
  unfold State.earlyImage
  repeat' first | (with_reducible first | assumption | apply State.withPcie_keeps) | intro _ | split

theorem execImageVerifyDone_keeps {b0 : State} (img : Image) (s u : State) (h_s : Keeps b0 s) (_ : Keeps b0 u) :
    Keeps b0 (nextOr u (execImageVerifyDone img s)) := by
  unfold execImageVerifyDone
  refine nextOr_next_keeps (ite_keeps h_s ?_)
  have h0 := State.earlyImage_keeps img s h_s
  generalize s.earlyImage img = s0 at h0 ⊢
  generalize imageCheck _ _ _ _ img = x
  cases x with
  | some e => exact State.refuseImage_keeps _ _ _ h0
  | none =>
    refine State.releaseCores_keeps _ (State.withCob_keeps _ (State.withBoot_keeps _ ?_))
    exact State.withMem_keeps _ (fun m h => Mem.foldl_wf _ _ (fun m g h => Mem.place_wf g m h) m h) (State.withDig_keeps _ h0)

theorem State.fillReserved_keeps {b0 : State} (s : State) (h_s : Keeps b0 s) :
    Keeps b0 (State.fillReserved s) := by
  unfold State.fillReserved
  repeat' first
    | (refine fun _ _ (h : Keeps _ _) => ?_)
    | (with_reducible first
        | assumption | apply State.fwDraw_keeps | apply State.withKeys_keeps)
    | intro _ | split | (extract_lets x; refine (fun (hx : Keeps b0 x) => ?_) ?_; clear_value x) | extract_lets

theorem execFwReady_keeps {b0 : State} (s : State) (u : State) (h_s : Keeps b0 s) (h_u : Keeps b0 u) :
    Keeps b0 (nextOr u (execFwReady s)) := by
  unfold execFwReady
  repeat' first
    | (with_reducible first
        | assumption | apply State.fillReserved_keeps | apply State.setPhase_keeps | apply State.statusPages_keeps
        | apply nextOr_next_keeps | apply ite_keeps)
    | intro _ | split | (extract_lets x; refine (fun (hx : Keeps b0 x) => ?_) ?_; clear_value x) | extract_lets

theorem Rng.mask_ok {r : Rng} (c n : Nat) (h : r.Ok) : (r.mask c n).2.Ok := h

theorem State.withRng_mask_keeps {b0 s t : State} (c n : Nat) (h_s : Keeps b0 s) (h_t : Keeps b0 t) :
    Keeps b0 (t.withRng fun _ => (s.rng.mask c n).2) :=
  ⟨h_t.1, fun h0 => Rng.mask_ok c n (h_s.2.1 h0), h_t.2.2⟩

theorem State.masks_keeps {b0 : State} (c n : Nat) (k : List Byte → State → State) (s : State) (h_s : Keeps b0 s)
    (h_k : ∀ x0 t', Keeps b0 t' → Keeps b0 (k x0 t')) : Keeps b0 (State.masks c n k s) := by
  unfold State.masks
  exact h_k _ _ (State.withCipher_keeps _ ⟨h_s.1, fun h0 => Rng.mask_ok _ _ (h_s.2.1 h0), h_s.2.2⟩)

theorem State.loadKeys_keeps {b0 : State} (c : Nat) (inverse : Bool) (key tweak : List Byte) (s : State) (h_s : Keeps b0 s) :
    Keeps b0 (State.loadKeys c inverse key tweak s) := by
  unfold State.loadKeys
  repeat' first
    | (refine fun _ _ (h : Keeps _ _) => ?_)
    | (with_reducible first
        | assumption | apply State.masks_keeps | apply State.withCipher_keeps)
    | intro _

theorem State.dealCore_keeps {b0 : State} (c : Nat) (s : State) (h_s : Keeps b0 s) :
    Keeps b0 (State.dealCore c s) := by
  unfold State.dealCore
  repeat' first
    | (with_reducible first
        | assumption | apply State.loadKeys_keeps | apply State.withCipher_keeps | apply State.withRings_keeps | apply ite_keeps)
    | intro _ | split

theorem State.dealAll_keeps {b0 : State} (s : State) (h_s : Keeps b0 s) :
    Keeps b0 (State.dealAll s) := by
  unfold State.dealAll
  repeat' first
    | (with_reducible first
        | assumption | apply State.dealCore_keeps | apply State.withCipher_keeps | apply foldl_keeps)
    | intro _

theorem State.makeReady_keeps {b0 : State} (k : Nat) (redeal : Bool) (s : State) (h_s : Keeps b0 s) :
    Keeps b0 (State.makeReady k redeal s) := by
  unfold State.makeReady
  repeat' first
    | (with_reducible first
        | assumption | apply State.withRings_keeps | apply ite_keeps)
    | intro _ | split

theorem State.coreMismatch_keeps {b0 : State} (c : Nat) (ghash : Bool) (s : State) (h_s : Keeps b0 s) :
    Keeps b0 (State.coreMismatch c ghash s) := by
  unfold State.coreMismatch
  repeat' first
    | (with_reducible first
        | assumption | apply State.raise_keeps | apply State.event_keeps | apply State.withCipher_keeps
        | apply State.withRings_keeps | apply ite_keeps)
    | intro _ | split | (extract_lets x; refine (fun (hx : Keeps b0 x) => ?_) ?_; clear_value x) | extract_lets

theorem State.coreDone_keeps {b0 : State} (c cuts blocks : Nat) (s : State) (h_s : Keeps b0 s) :
    Keeps b0 (State.coreDone c cuts blocks s) := by
  unfold State.coreDone
  repeat' first | (with_reducible first | assumption | apply State.withCipher_keeps) | intro _

theorem State.fwCut_keeps {b0 : State} (c : Nat) (d : Desc) (n : Nat) (inverse : Bool) (key aad src : List Byte)
    (p : Option (Context × List Byte) × State) (i : Nat) (h_p : Keeps b0 p.2) :
    Keeps b0 (State.fwCut c d n inverse key aad src p i).2 := by
  unfold State.fwCut
  split
  · exact h_p
  · extract_lets t off inp
    have h : Keeps b0 t := State.loadKeys_keeps c inverse key [] p.2 h_p
    clear_value t
    split
    · exact State.coreMismatch_keeps _ _ _ h
    · exact State.coreDone_keeps _ _ _ _ ⟨h.1, fun h0 => Rng.mask_ok _ _ (h.2.1 h0), h.2.2⟩

theorem State.fwJob_keeps {b0 : State} (c : Nat) (op : Byte) (key : KeyRun) (iv paramB aad src : List Byte) (s : State)
    (h_s : Keeps b0 s) : Keeps b0 (State.fwJob c op key iv paramB aad src s).2 := by
  unfold State.fwJob
  exact foldl_snd_keeps _ _ (fun p i h => State.fwCut_keeps _ _ _ _ _ _ _ p i h) _ (State.withCipher_keeps _ h_s)

theorem State.fwCmac_keeps {b0 : State} (c : Nat) (key : KeyRun) (data : List Byte) (s : State) (h_s : Keeps b0 s) :
    Keeps b0 (State.fwCmac c key data s).2 := by
  unfold State.fwCmac
  repeat' first
    | (with_reducible first
        | assumption | apply State.fwJob_keeps | apply ite_pair_keeps)
    | intro _ | split | (refine keeps_of_pair (by assumption) ?_)
    | (extract_lets x; refine (fun (hx : Keeps b0 x) => ?_) ?_; clear_value x) | extract_lets

theorem State.fwBlock_keeps {b0 : State} (c : Nat) (enc : Bool) (key : KeyRun) (block : List Byte) (s : State)
    (h_s : Keeps b0 s) :
    Keeps b0 (State.fwBlock c enc key block s).2 := by
  unfold State.fwBlock
  repeat' first
    | (with_reducible first
        | assumption | apply State.fwJob_keeps | apply ite_keeps | apply ite_pair_keeps)
    | intro _ | split | (refine keeps_of_pair (by assumption) ?_)
    | (extract_lets x; refine (fun (hx : Keeps b0 x) => ?_) ?_; clear_value x) | extract_lets

theorem State.fwDerive_keeps {b0 : State} (c : Nat) (key : KeyRun) (data : List Byte) (n : Nat) (s : State) (h_s : Keeps b0 s) :
    Keeps b0 (State.fwDerive c key data n s).2 := by
  unfold State.fwDerive
  refine foldl_snd_keeps _ _ (fun p i h => ?_) _ h_s
  split
  · exact h
  · exact State.fwBlock_keeps _ _ _ _ _ h

theorem State.fwDukpt_keeps {b0 : State} (c : Nat) (bdk : KeyRun) (ksn : List Byte) (usage alg n : Nat) (s : State) (h_s : Keeps b0 s) :
    Keeps b0 (State.fwDukpt c bdk ksn usage alg n s).2 := by
  unfold State.fwDukpt
  refine foldl_snd_keeps _ _ (fun p i h => ?_) _ h_s
  split
  · exact h
  · exact State.fwDerive_keeps _ _ _ _ _ h

theorem State.fwKdf_keeps {b0 : State} (c : Nat) (key : KeyRun) (label context : List Byte) (n : Nat) (s : State) (h_s : Keeps b0 s) :
    Keeps b0 (State.fwKdf c key label context n s).2 := by
  unfold State.fwKdf
  refine foldl_snd_keeps _ _ (fun p i h => ?_) _ h_s
  split
  · exact h
  · exact State.fwCmac_keeps _ _ _ _ h

theorem State.dbDrop_keeps {b0 : State} (f : Nat) (s : State) (h_s : Keeps b0 s) :
    Keeps b0 (State.dbDrop f s) := by
  unfold State.dbDrop
  repeat' first | (with_reducible first | assumption | apply State.withMbx_keeps) | intro _

theorem execDoorbellWrite_keeps {b0 : State} (f : Fin 64) (ring : Fin 16384) (v : Long) (s : State) (u : State)
    (h_s : Keeps b0 s) (h_u : Keeps b0 u) :
    Keeps b0 (nextOr u (execDoorbellWrite f ring v s)) := by
  unfold execDoorbellWrite
  repeat' first
    | (with_reducible first
        | assumption | apply State.dbDrop_keeps | apply State.mirrorCounts_keeps | apply State.withRings_keeps
        | apply nextOr_next_keeps | apply ite_keeps)
    | intro _ | split | (extract_lets x; refine (fun (hx : Keeps b0 x) => ?_) ?_; clear_value x) | extract_lets

theorem execTailShadowRead_keeps {b0 : State} (ring : Fin 16384) (v : Long) (s : State) (u : State) (h_s : Keeps b0 s)
    (h_u : Keeps b0 u) :
    Keeps b0 (nextOr u (execTailShadowRead ring v s)) := by
  unfold execTailShadowRead
  repeat' first
    | (with_reducible first
        | assumption | apply State.withRings_keeps | apply nextOr_next_keeps | apply ite_keeps)
    | intro _ | split

theorem execDescriptorFetch_keeps {b0 : State} (ring : Fin 16384) (s : State) (u : State) (h_s : Keeps b0 s) (h_u : Keeps b0 u) :
    Keeps b0 (nextOr u (execDescriptorFetch ring s)) := by
  unfold execDescriptorFetch
  repeat' first
    | (with_reducible first
        | assumption | apply State.withRings_keeps | apply nextOr_next_keeps | apply ite_keeps)
    | intro _ | split | (extract_lets x; refine (fun (hx : Keeps b0 x) => ?_) ?_; clear_value x) | extract_lets

theorem State.fetchOne_keeps {b0 : State} (r : Nat) (s : State) (d : Desc) (h_s : Keeps b0 s) :
    Keeps b0 (State.fetchOne r s d) := by
  unfold State.fetchOne
  repeat' first
    | (with_reducible first
        | assumption | apply State.failJob_keeps | apply State.withRings_keeps | apply ite_keeps)
    | intro _ | split | (extract_lets x; refine (fun (hx : Keeps b0 x) => ?_) ?_; clear_value x) | extract_lets

theorem execDescriptorArrival_keeps {b0 : State} (ring : Fin 16384) (data : List Byte) (s : State) (u : State)
    (h_s : Keeps b0 s) (h_u : Keeps b0 u) :
    Keeps b0 (nextOr u (execDescriptorArrival ring data s)) := by
  unfold execDescriptorArrival
  repeat' first
    | (with_reducible first
        | assumption | apply State.fetchOne_keeps | apply State.mirrorCounts_keeps | apply State.withRings_keeps
        | apply foldl_keeps | apply nextOr_next_keeps | apply ite_keeps)
    | intro _ | split | (extract_lets x; refine (fun (hx : Keeps b0 x) => ?_) ?_; clear_value x) | extract_lets

theorem execDescriptorReadEarlyEnd_keeps {b0 : State} (ring : Fin 16384) (data : List Byte) (e : EarlyEnd) (s : State) (u :
    State) (h_s : Keeps b0 s) (h_u : Keeps b0 u) :
    Keeps b0 (nextOr u (execDescriptorReadEarlyEnd ring data e s)) := by
  unfold execDescriptorReadEarlyEnd
  repeat' first
    | (with_reducible first
        | assumption | apply State.fetchOne_keeps | apply State.mirrorCounts_keeps | apply State.withRings_keeps
        | apply State.withPcie_keeps | apply foldl_keeps | apply nextOr_next_keeps | apply ite_keeps)
    | intro _ | split | (extract_lets x; refine (fun (hx : Keeps b0 x) => ?_) ?_; clear_value x) | extract_lets

theorem execAdmission_keeps {b0 : State} (ring : Fin 16384) (n : Word) (s : State) (u : State) (h_s : Keeps b0 s)
    (h_u : Keeps b0 u) :
    Keeps b0 (nextOr u (execAdmission ring n s)) := by
  unfold execAdmission
  repeat' first
    | (with_reducible first
        | assumption | apply State.failJob_keeps | apply State.withRings_keeps | apply nextOr_next_keeps | apply ite_keeps)
    | intro _ | split | (extract_lets x; refine (fun (hx : Keeps b0 x) => ?_) ?_; clear_value x) | extract_lets

theorem State.keyPass_keeps {b0 : State} (k : Nat) (slots : List Nat) (inverse : Bool) (iv : BitVec 96) (s : State)
    (h_s : Keeps b0 s) :
    Keeps b0 (State.keyPass k slots inverse iv s) := by
  unfold State.keyPass
  repeat' first
    | (with_reducible first
        | assumption | apply State.withRings_keeps | apply State.withKeys_keeps | apply foldl_keeps)
    | intro _

theorem execKeyStage_keeps {b0 : State} (ring : Fin 16384) (n : Word) (s : State) (u : State) (h_s : Keeps b0 s)
    (h_u : Keeps b0 u) :
    Keeps b0 (nextOr u (execKeyStage ring n s)) := by
  unfold execKeyStage
  repeat' first
    | (with_reducible first
        | assumption | apply State.keyPass_keeps | apply State.leaseSend_keeps | apply State.failJob_keeps
        | apply State.withRings_keeps | apply State.withKeys_keeps | apply nextOr_next_keeps | apply ite_keeps)
    | intro _ | split | (extract_lets x; refine (fun (hx : Keeps b0 x) => ?_) ?_; clear_value x) | extract_lets

theorem State.cutEnter_keeps {b0 : State} (k : Nat) (j : Job) (s : State) (h_s : Keeps b0 s) :
    Keeps b0 (State.cutEnter k j s) := by
  unfold State.cutEnter
  repeat' first
    | (with_reducible first
        | assumption | apply State.makeReady_keeps | apply State.dealAll_keeps | apply State.withCipher_keeps
        | apply State.withRings_keeps | apply ite_keeps)
    | intro _ | split | (extract_lets x; refine (fun (hx : Keeps b0 x) => ?_) ?_; clear_value x) | extract_lets

theorem execCutStage_keeps {b0 : State} (ring : Fin 16384) (n : Word) (s : State) (u : State) (h_s : Keeps b0 s)
    (h_u : Keeps b0 u) :
    Keeps b0 (nextOr u (execCutStage ring n s)) := by
  unfold execCutStage
  repeat' first
    | (with_reducible first
        | assumption | apply State.cutEnter_keeps | apply State.digDeal_keeps | apply State.updPort_keeps
        | apply State.failJob_keeps | apply State.withDig_keeps | apply State.withRings_keeps | apply nextOr_next_keeps
        | apply ite_keeps)
    | intro _ | split | (extract_lets x; refine (fun (hx : Keeps b0 x) => ?_) ?_; clear_value x) | extract_lets

theorem State.cutOutput_keeps {b0 : State} (k : Nat) (j : Job) (v : CutVal) (s : State) (h_s : Keeps b0 s) :
    Keeps b0 (State.cutOutput k j v s) := by
  unfold State.cutOutput
  repeat' first
    | (with_reducible first
        | assumption | apply State.hostWrite_keeps | apply State.withRings_keeps | apply ite_keeps)
    | intro _ | split | (extract_lets x; refine (fun (hx : Keeps b0 x) => ?_) ?_; clear_value x) | extract_lets

theorem State.writeBack_keeps {b0 : State} (c k : Nat) (j : Job) (x : Context) (tag : List Byte) (v : CutVal) (s : State)
    (h_s : Keeps b0 s) :
    Keeps b0 (State.writeBack c k j x tag v s) := by
  unfold State.writeBack
  repeat' first
    | (with_reducible first
        | assumption | apply State.withRng_mask_keeps | apply State.cutOutput_keeps | apply State.coreDone_keeps
        | apply State.makeReady_keeps | apply State.mirror_keeps | apply State.withRng_keeps | apply State.withRings_keeps
        | apply ite_keeps)
    | exact fun (_ : Rng) h => h | exact fun (_ : Rng) h => Rng.tests_ok _ _ h | exact fun (_ : Rng) h => Rng.takeBlock_ok h
    | (intro (r : Rng) h; (repeat' split) <;> first | exact h | exact Rng.takeBlock_ok h | simp_all [Rng.Ok]) | intro _ | split
    | (extract_lets x; refine (fun (hx : Keeps b0 x) => ?_) ?_; clear_value x) | extract_lets

theorem execCutWriteBack_keeps {b0 : State} (core : Fin 16) (e : CutEnd) (s : State) (u : State) (h_s : Keeps b0 s)
    (h_u : Keeps b0 u) :
    Keeps b0 (nextOr u (execCutWriteBack core e s)) := by
  unfold execCutWriteBack
  repeat' first
    | (with_reducible first
        | assumption | apply State.writeBack_keeps | apply State.coreDone_keeps | apply State.coreMismatch_keeps
        | apply State.makeReady_keeps | apply State.dealAll_keeps | apply nextOr_next_keeps | apply ite_keeps)
    | intro _ | split | (extract_lets x; refine (fun (hx : Keeps b0 x) => ?_) ?_; clear_value x) | extract_lets

theorem execDmaReadEarlyEnd_keeps {b0 : State} (ring : Fin 16384) (n received : Word) (e : EarlyEnd) (s : State) (u : State)
    (h_s : Keeps b0 s) (h_u : Keeps b0 u) :
    Keeps b0 (nextOr u (execDmaReadEarlyEnd ring n received e s)) := by
  unfold execDmaReadEarlyEnd
  repeat' first
    | (with_reducible first
        | assumption | apply State.coreDone_keeps | apply State.dealAll_keeps | apply State.digDeal_keeps
        | apply State.failJob_keeps | apply State.withPcie_keeps | apply nextOr_next_keeps | apply ite_keeps)
    | intro _ | split | (extract_lets x; refine (fun (hx : Keeps b0 x) => ?_) ?_; clear_value x) | extract_lets

theorem State.tagPass_keeps {b0 : State} (k : Nat) (out : List Byte) (s : State) (h_s : Keeps b0 s) :
    Keeps b0 (State.tagPass k out s) := by
  unfold State.tagPass
  repeat' first | (with_reducible first | assumption | apply State.withRings_keeps) | intro _

theorem State.tagCheck_keeps {b0 : State} (k : Nat) (pass : Bool) (out : List Byte) (s : State) (h_s : Keeps b0 s) :
    Keeps b0 (State.tagCheck k pass out s) := by
  unfold State.tagCheck
  repeat' first
    | (with_reducible first
        | assumption | apply State.tagPass_keeps | apply State.failJob_keeps | apply ite_keeps)
    | intro _ | split

theorem State.digestTag_keeps {b0 : State} (k : Nat) (j : Job) (read : List Byte) (s : State) (h_s : Keeps b0 s) :
    Keeps b0 (State.digestTag k j read s) := by
  unfold State.digestTag
  repeat' first
    | (refine fun _ _ (h : Keeps _ _) => ?_)
    | (with_reducible first
        | assumption | apply State.tagCheck_keeps | apply State.tagPass_keeps | apply State.digMask_keeps
        | apply State.digDeal_keeps | apply State.withDig_keeps | apply ite_keeps)
    | intro _ | split | (extract_lets x; refine (fun (hx : Keeps b0 x) => ?_) ?_; clear_value x) | extract_lets

theorem State.gcmTag_keeps {b0 : State} (k : Nat) (j : Job) (x : Context) (s : State) (h_s : Keeps b0 s) :
    Keeps b0 (State.gcmTag k j x s) := by
  unfold State.gcmTag
  repeat' first
    | (with_reducible first
        | assumption | apply State.tagCheck_keeps | apply State.tagPass_keeps | apply State.withCipher_keeps | apply ite_keeps)
    | intro _ | split | (extract_lets x; refine (fun (hx : Keeps b0 x) => ?_) ?_; clear_value x) | extract_lets

theorem State.plainTag_keeps {b0 : State} (k : Nat) (j : Job) (x : Context) (s : State) (h_s : Keeps b0 s) :
    Keeps b0 (State.plainTag k j x s) := by
  unfold State.plainTag
  repeat' first
    | (with_reducible first
        | assumption | apply State.tagCheck_keeps | apply State.tagPass_keeps)
    | intro _ | split

theorem execTagStage_keeps {b0 : State} (ring : Fin 16384) (n : Word) (ghashOk : Bool) (read : List Byte) (s : State) (u : State)
    (h_s : Keeps b0 s) (h_u : Keeps b0 u) :
    Keeps b0 (nextOr u (execTagStage ring n ghashOk read s)) := by
  unfold execTagStage
  repeat' first
    | (with_reducible first
        | assumption | apply State.plainTag_keeps | apply State.gcmTag_keeps | apply State.digestTag_keeps
        | apply State.coreMismatch_keeps | apply State.makeReady_keeps | apply State.dealAll_keeps | apply State.withRings_keeps
        | apply nextOr_next_keeps | apply ite_keeps)
    | intro _ | split | (extract_lets x; refine (fun (hx : Keeps b0 x) => ?_) ?_; clear_value x) | extract_lets

theorem State.releaseSole_keeps {b0 : State} (k : Nat) (j : Job) (s : State) (h_s : Keeps b0 s) :
    Keeps b0 (State.releaseSole k j s) := by
  unfold State.releaseSole
  repeat' first
    | (with_reducible first
        | assumption | apply State.dmaFault_keeps | apply State.hold_keeps | apply State.mirrorStaged_keeps
        | apply State.updEntry_keeps | apply State.failJob_keeps | apply State.withRings_keeps | apply State.withMem_keeps
        | apply ite_keeps)
    | with_reducible exact fun (m : Mem) h => Mem.reload_wf _ _ m h | exact fun (m : Mem) h => Mem.sram_wf _ _ m h
    | exact fun (m : Mem) h => Mem.tcmWrite_wf _ _ _ m h | exact fun (m : Mem) _ => Mem.empty_wf
    | exact fun (m : Mem) h => Mem.foldl_wf _ _ (fun m g h => Mem.place_wf g m h) m h
    | exact fun (m : Mem) h => Mem.tcmWrite_wf _ _ _ _ (Mem.tcmWrite_wf _ _ _ m h) | intro _ | split
    | (extract_lets x; refine (fun (hx : Keeps b0 x) => ?_) ?_; clear_value x) | extract_lets

theorem execReleaseStage_keeps {b0 : State} (ring : Fin 16384) (n : Word) (s : State) (u : State) (h_s : Keeps b0 s)
    (h_u : Keeps b0 u) :
    Keeps b0 (nextOr u (execReleaseStage ring n s)) := by
  unfold execReleaseStage
  repeat' first
    | (with_reducible first
        | assumption | apply State.releaseSole_keeps | apply State.tokenise_keeps | apply State.hostWrite_keeps
        | apply nextOr_next_keeps | apply ite_keeps)
    | intro _ | split | (extract_lets x; refine (fun (hx : Keeps b0 x) => ?_) ?_; clear_value x) | extract_lets

theorem execSectorStaged_keeps {b0 : State} (port : Fin 16) (ring : Fin 16384) (n : Word) (s : State) (u : State)
    (h_s : Keeps b0 s) (h_u : Keeps b0 u) :
    Keeps b0 (nextOr u (execSectorStaged port ring n s)) := by
  unfold execSectorStaged
  repeat' first
    | (with_reducible first
        | assumption | apply State.updEntry_keeps | apply nextOr_next_keeps | apply ite_keeps)
    | intro _ | split

theorem execRingMsixSend_keeps {b0 : State} (f : Fin 64) (vector : Fin 32) (s : State) (u : State) (h_s : Keeps b0 s)
    (h_u : Keeps b0 u) :
    Keeps b0 (nextOr u (execRingMsixSend f vector s)) := by
  unfold execRingMsixSend
  repeat' first
    | (with_reducible first
        | assumption | apply State.msix_keeps | apply State.withRings_keeps | apply nextOr_next_keeps | apply ite_keeps)
    | intro _ | split | (extract_lets x; refine (fun (hx : Keeps b0 x) => ?_) ?_; clear_value x) | extract_lets

theorem execRingCtlCreate_keeps {b0 : State} (level : Level) (s : State) (u : State) (h_s : Keeps b0 s) (h_u : Keeps b0 u) :
    Keeps b0 (nextOr u (execRingCtlCreate level s)) := by
  unfold execRingCtlCreate
  repeat' first
    | (with_reducible first
        | assumption | apply State.withRings_keeps | apply nextOr_next_keeps | apply ite_keeps)
    | intro _ | split | (extract_lets x; refine (fun (hx : Keeps b0 x) => ?_) ?_; clear_value x) | extract_lets

theorem State.destroyRing_keeps {b0 : State} (r : Nat) (s : State) (h_s : Keeps b0 s) :
    Keeps b0 (State.destroyRing r s) := by
  unfold State.destroyRing
  repeat' first
    | (with_reducible first
        | assumption | apply State.failJob_keeps | apply State.withRings_keeps | apply foldl_keeps | apply ite_keeps)
    | intro _ | split | (extract_lets x; refine (fun (hx : Keeps b0 x) => ?_) ?_; clear_value x) | extract_lets

theorem execRingCtlDestroy_keeps {b0 : State} (level : Level) (s : State) (u : State) (h_s : Keeps b0 s) (h_u : Keeps b0 u) :
    Keeps b0 (nextOr u (execRingCtlDestroy level s)) := by
  unfold execRingCtlDestroy
  repeat' first
    | (with_reducible first
        | assumption | apply State.destroyRing_keeps | apply nextOr_next_keeps | apply ite_keeps)
    | intro _ | split

theorem State.abortAllRings_keeps {b0 : State} (s : State) (h_s : Keeps b0 s) :
    Keeps b0 (State.abortAllRings s) := by
  unfold State.abortAllRings
  repeat' first
    | (with_reducible first
        | assumption | apply State.abortJobs_keeps | apply State.withRings_keeps)
    | intro _ | split | (extract_lets x; refine (fun (hx : Keeps b0 x) => ?_) ?_; clear_value x) | extract_lets

theorem execClkCtrlWrite_keeps {b0 : State} (_writer : CoreNo) (level : Level) (v : Word) (s : State) (u : State)
    (h_s : Keeps b0 s) (h_u : Keeps b0 u) :
    Keeps b0 (nextOr u (execClkCtrlWrite _writer level v s)) := by
  unfold execClkCtrlWrite
  repeat' first
    | (with_reducible first
        | assumption | apply State.dealAll_keeps | apply State.withCipher_keeps | apply nextOr_next_keeps | apply ite_keeps)
    | intro _ | split

theorem execCphKatRun_keeps {b0 : State} (core : Fin 16) (level : Level) (s : State) (u : State) (h_s : Keeps b0 s)
    (h_u : Keeps b0 u) :
    Keeps b0 (nextOr u (execCphKatRun core level s)) := by
  unfold execCphKatRun
  repeat' first
    | (with_reducible first
        | assumption | apply State.withCipher_keeps | apply nextOr_next_keeps | apply ite_keeps)
    | intro _ | split

theorem execCphKatDone_keeps {b0 : State} (core : Fin 16) (pass : Bool) (s : State) (u : State) (h_s : Keeps b0 s)
    (h_u : Keeps b0 u) :
    Keeps b0 (nextOr u (execCphKatDone core pass s)) := by
  unfold execCphKatDone
  repeat' first
    | (with_reducible first
        | assumption | apply State.dealAll_keeps | apply State.withCipher_keeps | apply nextOr_next_keeps | apply ite_keeps)
    | intro _ | split

theorem State.portErr_keeps {b0 : State} (n i : Nat) (s : State) (h_s : Keeps b0 s) :
    Keeps b0 (State.portErr n i s) := by
  unfold State.portErr
  repeat' first | (with_reducible first | assumption | apply State.updPort_keeps) | intro _

theorem State.rxFrame_keeps {b0 : State} (n : Nat) (fh : FrameHdr) (s : State) (h_s : Keeps b0 s) :
    Keeps b0 (State.rxFrame n fh s) := by
  unfold State.rxFrame
  repeat' first | (with_reducible first | assumption | apply State.updPort_keeps) | intro _

theorem State.oversize_keeps {b0 : State} (n : Nat) (s : State) (h_s : Keeps b0 s) :
    Keeps b0 (State.oversize n s) := by
  unfold State.oversize
  repeat' first
    | (with_reducible first
        | assumption | apply State.portErr_keeps | apply State.updPort_keeps)
    | intro _

theorem State.badCrc_keeps {b0 : State} (n : Nat) (s : State) (h_s : Keeps b0 s) :
    Keeps b0 (State.badCrc n s) := by
  unfold State.badCrc
  repeat' first
    | (with_reducible first
        | assumption | apply State.portErr_keeps | apply State.updPort_keeps)
    | intro _

theorem State.frameIn_keeps {b0 : State} (n : Nat) (type : Byte) (fh : FrameHdr) (body : List Byte) (k : State → State) (s :
    State) (h_s : Keeps b0 s) (h_k : ∀  t', Keeps b0 t' → Keeps b0 (k  t')) :
    Keeps b0 (State.frameIn n type fh body k s) := by
  unfold State.frameIn
  repeat' first
    | (with_reducible first
        | assumption | apply h_k | apply State.badCrc_keeps | apply State.oversize_keeps | apply State.portErr_keeps
        | apply ite_keeps)
    | intro _ | split

theorem State.sendCaps_keeps {b0 : State} (n : Nat) (s : State) (h_s : Keeps b0 s) :
    Keeps b0 (State.sendCaps n s) := by
  unfold State.sendCaps
  repeat' first
    | (refine fun _ _ (h : Keeps _ _) => ?_)
    | (with_reducible first
        | assumption | apply State.linkctl_keeps | apply State.draw_keeps)
    | intro _ | split | (extract_lets x; refine (fun (hx : Keeps b0 x) => ?_) ?_; clear_value x) | extract_lets

theorem State.sendLoop_keeps {b0 : State} (n : Nat) (s : State) (h_s : Keeps b0 s) :
    Keeps b0 (State.sendLoop n s) := by
  unfold State.sendLoop
  repeat' first
    | (refine fun _ _ (h : Keeps _ _) => ?_)
    | (with_reducible first
        | assumption | apply State.linkctl_keeps | apply State.updPort_keeps | apply State.draw_keeps)
    | intro _

theorem State.sendRequest_keeps {b0 : State} (n : Nat) (s : State) (h_s : Keeps b0 s) :
    Keeps b0 (State.sendRequest n s) := by
  unfold State.sendRequest
  repeat' first
    | (with_reducible first
        | assumption | apply State.sendLoop_keeps | apply State.sendCaps_keeps | apply State.linkctl_keeps
        | apply State.updPort_keeps)
    | intro _ | split | (extract_lets x; refine (fun (hx : Keeps b0 x) => ?_) ?_; clear_value x) | extract_lets

theorem State.startTraining_keeps {b0 : State} (n : Nat) (s : State) (h_s : Keeps b0 s) :
    Keeps b0 (State.startTraining n s) := by
  unfold State.startTraining
  repeat' first
    | (with_reducible first
        | assumption | apply State.sendRequest_keeps | apply State.announceHold_keeps | apply State.updPort_keeps
        | apply ite_keeps)
    | intro _ | split | (extract_lets x; refine (fun (hx : Keeps b0 x) => ?_) ?_; clear_value x) | extract_lets

theorem State.failTraining_keeps {b0 : State} (n : Nat) (s : State) (h_s : Keeps b0 s) :
    Keeps b0 (State.failTraining n s) := by
  unfold State.failTraining
  repeat' first
    | (with_reducible first
        | assumption | apply State.settleHold_keeps | apply State.updPort_keeps)
    | intro _

theorem State.trainDone_keeps {b0 : State} (n : Nat) (s : State) (h_s : Keeps b0 s) :
    Keeps b0 (State.trainDone n s) := by
  unfold State.trainDone
  repeat' first
    | (with_reducible first
        | assumption | apply State.linkctl_keeps | apply State.settleHold_keeps | apply State.sendFrame_keeps
        | apply State.updPort_keeps)
    | intro _ | split | (extract_lets x; refine (fun (hx : Keeps b0 x) => ?_) ?_; clear_value x) | extract_lets

theorem execBlockLockAcquired_keeps {b0 : State} (port : Fin 16) (s : State) (u : State) (h_s : Keeps b0 s) (h_u : Keeps b0 u) :
    Keeps b0 (nextOr u (execBlockLockAcquired port s)) := by
  unfold execBlockLockAcquired
  repeat' first
    | (with_reducible first
        | assumption | apply State.startTraining_keeps | apply State.updPort_keeps | apply nextOr_next_keeps)
    | intro _

theorem execBlockLockLost_keeps {b0 : State} (port : Fin 16) (s : State) (u : State) (h_s : Keeps b0 s) (h_u : Keeps b0 u) :
    Keeps b0 (nextOr u (execBlockLockLost port s)) := by
  unfold execBlockLockLost
  repeat' first
    | (refine fun _ _ (h : Keeps _ _) => ?_)
    | (with_reducible first
        | assumption | apply State.updPort_keeps | apply State.failJob_keeps | apply State.draw_keeps | apply nextOr_next_keeps
        | apply ite_keeps)
    | intro _ | split | (extract_lets x; refine (fun (hx : Keeps b0 x) => ?_) ?_; clear_value x) | extract_lets

theorem execCaps_keeps {b0 : State} (port : Fin 16) (fh : FrameHdr) (version flags mask : Byte) (rsv : BitVec 32) (identity :
    BitVec 128) (s : State) (u : State) (h_s : Keeps b0 s) (h_u : Keeps b0 u) :
    Keeps b0 (nextOr u (execCaps port fh version flags mask rsv identity s)) := by
  unfold execCaps
  repeat' first
    | (refine fun _ (h : Keeps _ _) => ?_)
    | (with_reducible first
        | assumption | apply State.failTraining_keeps | apply State.sendRequest_keeps | apply State.frameIn_keeps
        | apply State.rxFrame_keeps | apply State.updPort_keeps | apply nextOr_next_keeps | apply ite_keeps)
    | intro _ | split | (extract_lets x; refine (fun (hx : Keeps b0 x) => ?_) ?_; clear_value x) | extract_lets

theorem execGeometry_keeps {b0 : State} (port : Fin 16) (fh : FrameHdr) (tpp : Long) (pitch spp offs : Word) (code : Byte) (rsv :
    BitVec 48) (s : State) (u : State) (h_s : Keeps b0 s) (h_u : Keeps b0 u) :
    Keeps b0 (nextOr u (execGeometry port fh tpp pitch spp offs code rsv s)) := by
  unfold execGeometry
  repeat' first
    | (refine fun _ (h : Keeps _ _) => ?_)
    | (with_reducible first
        | assumption | apply State.failTraining_keeps | apply State.sendRequest_keeps | apply State.frameIn_keeps
        | apply State.rxFrame_keeps | apply State.updPort_keeps | apply nextOr_next_keeps | apply ite_keeps)
    | intro _ | split | (extract_lets x; refine (fun (hx : Keeps b0 x) => ?_) ?_; clear_value x) | extract_lets

theorem execLoopEcho_keeps {b0 : State} (port : Fin 16) (fh : FrameHdr) (token : Word) (turnaroundNs : Half) (rsv : BitVec 40)
    (count : Nat) (s : State) (u : State) (h_s : Keeps b0 s) (h_u : Keeps b0 u) :
    Keeps b0 (nextOr u (execLoopEcho port fh token turnaroundNs rsv count s)) := by
  unfold execLoopEcho
  repeat' first
    | (refine fun _ (h : Keeps _ _) => ?_)
    | (with_reducible first
        | assumption | apply State.trainDone_keeps | apply State.failTraining_keeps | apply State.sendRequest_keeps
        | apply State.frameIn_keeps | apply State.rxFrame_keeps | apply State.updPort_keeps | apply nextOr_next_keeps
        | apply ite_keeps)
    | intro _ | split | (extract_lets x; refine (fun (hx : Keeps b0 x) => ?_) ?_; clear_value x) | extract_lets

theorem execTrainingAnswerTimeout_keeps {b0 : State} (port : Fin 16) (s : State) (u : State) (h_s : Keeps b0 s)
    (h_u : Keeps b0 u) :
    Keeps b0 (nextOr u (execTrainingAnswerTimeout port s)) := by
  unfold execTrainingAnswerTimeout
  repeat' first
    | (with_reducible first
        | assumption | apply State.failTraining_keeps | apply State.sendRequest_keeps | apply nextOr_next_keeps
        | apply ite_keeps)
    | intro _ | split | (extract_lets x; refine (fun (hx : Keeps b0 x) => ?_) ?_; clear_value x) | extract_lets

theorem execRetrainTimer_keeps {b0 : State} (port : Fin 16) (s : State) (u : State) (h_s : Keeps b0 s) (h_u : Keeps b0 u) :
    Keeps b0 (nextOr u (execRetrainTimer port s)) := by
  unfold execRetrainTimer
  repeat' first
    | (with_reducible first
        | assumption | apply State.startTraining_keeps | apply nextOr_next_keeps | apply ite_keeps)
    | intro _ | split

theorem execSolRetrain_keeps {b0 : State} (port : Fin 16) (level : Level) (s : State) (u : State) (h_s : Keeps b0 s)
    (h_u : Keeps b0 u) :
    Keeps b0 (nextOr u (execSolRetrain port level s)) := by
  unfold execSolRetrain
  repeat' first
    | (with_reducible first
        | assumption | apply State.startTraining_keeps | apply nextOr_next_keeps | apply ite_keeps)
    | intro _ | split

theorem execStampTimeout_keeps {b0 : State} (port : Fin 16) (tie : Bool) (s : State) (u : State) (h_s : Keeps b0 s)
    (h_u : Keeps b0 u) :
    Keeps b0 (nextOr u (execStampTimeout port tie s)) := by
  unfold execStampTimeout
  repeat' first
    | (with_reducible first
        | assumption | apply State.settleHold_keeps | apply State.updPort_keeps | apply nextOr_next_keeps | apply ite_keeps)
    | intro _ | split | (extract_lets x; refine (fun (hx : Keeps b0 x) => ?_) ?_; clear_value x) | extract_lets

theorem State.ackEntry_keeps {b0 : State} (n : Nat) (ackSeq : Half) (skipMask : Word) (s : State) (e : SchedEntry)
    (h_s : Keeps b0 s) :
    Keeps b0 (State.ackEntry n ackSeq skipMask s e) := by
  unfold State.ackEntry
  repeat' first
    | (with_reducible first
        | assumption | apply State.hold_keeps | apply State.deferEntry_keeps | apply State.updPort_keeps
        | apply State.failJob_keeps | apply State.tokenise_keeps | apply ite_keeps)
    | intro _ | split | (extract_lets x; refine (fun (hx : Keeps b0 x) => ?_) ?_; clear_value x) | extract_lets

theorem execPos_keeps {b0 : State} (port : Fin 16) (fh : FrameHdr) (fine : BitVec 48) (pass : Half) (ackSeq : Half) (flags rsv :
    Byte) (skipMask : Word) (tRx tUpd : BitVec 48) (s : State) (u : State) (h_s : Keeps b0 s) (h_u : Keeps b0 u) :
    Keeps b0 (nextOr u (execPos port fh fine pass ackSeq flags rsv skipMask tRx tUpd s)) := by
  unfold execPos
  repeat' first
    | (refine fun _ (h : Keeps _ _) => ?_)
    | (with_reducible first
        | assumption | apply State.ackEntry_keeps | apply State.frameIn_keeps | apply State.rxFrame_keeps
        | apply State.portErr_keeps | apply State.settleHold_keeps | apply State.updPort_keeps | apply State.withSole_keeps
        | apply foldl_keeps | apply nextOr_next_keeps | apply ite_keeps)
    | intro _ | split | (extract_lets x; refine (fun (hx : Keeps b0 x) => ?_) ?_; clear_value x) | extract_lets

theorem execHoldResume_keeps {b0 : State} (port : Fin 16) (fh : FrameHdr) (kind reason : Byte) (rsv : Half) (s : State) (u :
    State) (h_s : Keeps b0 s) (h_u : Keeps b0 u) :
    Keeps b0 (nextOr u (execHoldResume port fh kind reason rsv s)) := by
  unfold execHoldResume
  repeat' first
    | (refine fun _ (h : Keeps _ _) => ?_)
    | (with_reducible first
        | assumption | apply State.frameIn_keeps | apply State.rxFrame_keeps | apply State.settleHold_keeps
        | apply State.announceHold_keeps | apply State.sendResume_keeps | apply State.updPort_keeps | apply nextOr_next_keeps
        | apply ite_keeps)
    | intro _ | split | (extract_lets x; refine (fun (hx : Keeps b0 x) => ?_) ?_; clear_value x) | extract_lets

theorem execIdle_keeps {b0 : State} (port : Fin 16) (fh : FrameHdr) (s : State) (u : State) (h_s : Keeps b0 s)
    (h_u : Keeps b0 u) :
    Keeps b0 (nextOr u (execIdle port fh s)) := by
  unfold execIdle
  repeat' first
    | (refine fun _ (h : Keeps _ _) => ?_)
    | (with_reducible first
        | assumption | apply State.frameIn_keeps | apply State.updPort_keeps | apply nextOr_next_keeps)
    | intro _

theorem State.raiseCredit_keeps {b0 : State} (n : Nat) (s : State) (h_s : Keeps b0 s) :
    Keeps b0 (State.raiseCredit n s) := by
  unfold State.raiseCredit
  repeat' first | (with_reducible first | assumption | apply State.updPort_keeps) | intro _

theorem execBadFrame_keeps {b0 : State} (port : Fin 16) (type : Byte) (fh : FrameHdr) (data : List Byte) (excess : Nat) (s :
    State) (u : State) (h_s : Keeps b0 s) (h_u : Keeps b0 u) :
    Keeps b0 (nextOr u (execBadFrame port type fh data excess s)) := by
  unfold execBadFrame
  repeat' first
    | (with_reducible first
        | assumption | apply State.raiseCredit_keeps | apply State.badCrc_keeps | apply State.oversize_keeps
        | apply State.portErr_keeps | apply State.updPort_keeps | apply nextOr_next_keeps | apply ite_keeps)
    | intro _ | split | (extract_lets x; refine (fun (hx : Keeps b0 x) => ?_) ?_; clear_value x) | extract_lets

theorem execIdleSendTimer_keeps {b0 : State} (port : Fin 16) (s : State) (u : State) (h_s : Keeps b0 s) (h_u : Keeps b0 u) :
    Keeps b0 (nextOr u (execIdleSendTimer port s)) := by
  unfold execIdleSendTimer
  repeat' first
    | (with_reducible first
        | assumption | apply State.sendFrame_keeps | apply nextOr_next_keeps | apply ite_keeps)
    | intro _ | split

theorem execCreditSend_keeps {b0 : State} (port : Fin 16) (s : State) (u : State) (h_s : Keeps b0 s) (h_u : Keeps b0 u) :
    Keeps b0 (nextOr u (execCreditSend port s)) := by
  unfold execCreditSend
  repeat' first
    | (with_reducible first
        | assumption | apply State.sendFrame_keeps | apply State.updPort_keeps | apply nextOr_next_keeps | apply ite_keeps)
    | intro _ | split | (extract_lets x; refine (fun (hx : Keeps b0 x) => ?_) ?_; clear_value x) | extract_lets

theorem execSector_keeps {b0 : State} (port : Fin 16) (fh : FrameHdr) (format codeWord : Half) (keyId : Long) (iv : BitVec 96)
    (addr : Long) (s : State) (u : State) (h_s : Keeps b0 s) (h_u : Keeps b0 u) :
    Keeps b0 (nextOr u (execSector port fh format codeWord keyId iv addr s)) := by
  unfold execSector
  repeat' first
    | (with_reducible first
        | assumption | apply State.oversize_keeps | apply State.rxFrame_keeps | apply State.portErr_keeps
        | apply State.updPort_keeps | apply State.withRings_keeps | apply nextOr_next_keeps | apply ite_keeps)
    | intro _ | split | (extract_lets x; refine (fun (hx : Keeps b0 x) => ?_) ?_; clear_value x) | extract_lets

theorem execSectorFrameEnd_keeps {b0 : State} (port : Fin 16) (data : List Byte) (excess : Nat) (s : State) (u : State)
    (h_s : Keeps b0 s) (h_u : Keeps b0 u) :
    Keeps b0 (nextOr u (execSectorFrameEnd port data excess s)) := by
  unfold execSectorFrameEnd
  repeat' first
    | (with_reducible first
        | assumption | apply State.raiseCredit_keeps | apply State.updPort_keeps | apply State.failJob_keeps
        | apply State.withRings_keeps | apply nextOr_next_keeps | apply ite_keeps)
    | intro _ | split | (extract_lets x; refine (fun (hx : Keeps b0 x) => ?_) ?_; clear_value x) | extract_lets

theorem State.sendSector_keeps {b0 : State} (n : Nat) (e : SchedEntry) (s : State) (h_s : Keeps b0 s) :
    Keeps b0 (State.sendSector n e s) := by
  unfold State.sendSector
  repeat' first
    | (with_reducible first
        | assumption | apply State.dmaFault_keeps | apply State.updEntry_keeps | apply State.sendFrame_keeps
        | apply State.updPort_keeps | apply State.withRings_keeps | apply ite_keeps)
    | intro _ | split | (extract_lets x; refine (fun (hx : Keeps b0 x) => ?_) ?_; clear_value x) | extract_lets

theorem State.openWindow_keeps {b0 : State} (n : Nat) (s : State) (k : Nat) (h_s : Keeps b0 s) :
    Keeps b0 (State.openWindow n s k) := by
  unfold State.openWindow
  repeat' first
    | (with_reducible first
        | assumption | apply State.sendSector_keeps | apply State.deferEntry_keeps | apply State.sendFrame_keeps
        | apply State.updPort_keeps | apply ite_keeps)
    | intro _ | split | (extract_lets x; refine (fun (hx : Keeps b0 x) => ?_) ?_; clear_value x) | extract_lets

theorem execWindowOpen_keeps {b0 : State} (port : Fin 16) (t : BitVec 48) (s : State) (u : State) (h_s : Keeps b0 s)
    (h_u : Keeps b0 u) :
    Keeps b0 (nextOr u (execWindowOpen port t s)) := by
  unfold execWindowOpen
  repeat' first
    | (with_reducible first
        | assumption | apply State.openWindow_keeps | apply State.updPort_keeps | apply State.withSole_keeps | apply foldl_keeps
        | apply nextOr_next_keeps | apply ite_keeps)
    | intro _ | split | (extract_lets x; refine (fun (hx : Keeps b0 x) => ?_) ?_; clear_value x) | extract_lets

theorem execSectorFrameSent_keeps {b0 : State} (port : Fin 16) (s : State) (u : State) (h_s : Keeps b0 s) (h_u : Keeps b0 u) :
    Keeps b0 (nextOr u (execSectorFrameSent port s)) := by
  unfold execSectorFrameSent
  repeat' first
    | (with_reducible first
        | assumption | apply State.updPort_keeps | apply nextOr_next_keeps)
    | intro _

theorem execHoldLimit_keeps {b0 : State} (port : Fin 16) (s : State) (u : State) (h_s : Keeps b0 s) (h_u : Keeps b0 u) :
    Keeps b0 (nextOr u (execHoldLimit port s)) := by
  unfold execHoldLimit
  repeat' first
    | (with_reducible first
        | assumption | apply State.updPort_keeps | apply State.failJob_keeps | apply foldl_keeps | apply nextOr_next_keeps
        | apply ite_keeps)
    | intro _ | split | (extract_lets x; refine (fun (hx : Keeps b0 x) => ?_) ?_; clear_value x) | extract_lets

theorem State.updSd_keeps {b0 : State} (p : Nat) (g : SdPort → SdPort) (s : State) (h_s : Keeps b0 s) :
    Keeps b0 (State.updSd p g s) := by
  unfold State.updSd
  repeat' first
    | (with_reducible first
        | assumption | apply State.withCards_keeps | apply ite_keeps)
    | intro _ | split | (extract_lets x; refine (fun (hx : Keeps b0 x) => ?_) ?_; clear_value x) | extract_lets

theorem State.updIcc_keeps {b0 : State} (n : Nat) (g : IccSlot → IccSlot) (s : State) (h_s : Keeps b0 s) :
    Keeps b0 (State.updIcc n g s) := by
  unfold State.updIcc
  repeat' first
    | (with_reducible first
        | assumption | apply State.withCards_keeps | apply ite_keeps)
    | intro _ | split | (extract_lets x; refine (fun (hx : Keeps b0 x) => ?_) ?_; clear_value x) | extract_lets

theorem State.cardIn_keeps {b0 : State} (a : Nat) (bs : List Byte) (k : State → State) (s : State) (h_s : Keeps b0 s)
    (h_k : ∀  t', Keeps b0 t' → Keeps b0 (k  t')) :
    Keeps b0 (State.cardIn a bs k s) := by
  unfold State.cardIn
  repeat' first
    | (with_reducible first
        | assumption | apply h_k | apply State.dmaFault_keeps | apply State.sramWrite_keeps | apply ite_keeps)
    | intro _ | split

theorem State.cardOut_keeps {b0 : State} (a n : Nat) (k : State → State) (s : State) (h_s : Keeps b0 s)
    (h_k : ∀  t', Keeps b0 t' → Keeps b0 (k  t')) :
    Keeps b0 (State.cardOut a n k s) := by
  unfold State.cardOut
  repeat' first
    | (with_reducible first
        | assumption | apply h_k | apply State.dmaFault_keeps | apply ite_keeps)
    | intro _ | split

theorem execSdCardInserted_keeps {b0 : State} (p : Fin 4) (s : State) (u : State) (h_s : Keeps b0 s) (h_u : Keeps b0 u) :
    Keeps b0 (nextOr u (execSdCardInserted p s)) := by
  unfold execSdCardInserted
  repeat' first
    | (with_reducible first
        | assumption | apply State.updSd_keeps | apply nextOr_next_keeps | apply ite_keeps)
    | intro _ | split

theorem execSdSettleEnd_keeps {b0 : State} (p : Fin 4) (s : State) (u : State) (h_s : Keeps b0 s) (h_u : Keeps b0 u) :
    Keeps b0 (nextOr u (execSdSettleEnd p s)) := by
  unfold execSdSettleEnd
  repeat' first
    | (with_reducible first
        | assumption | apply State.updSd_keeps | apply nextOr_next_keeps | apply ite_keeps)
    | intro _ | split

theorem State.sdTune_keeps {b0 : State} (p : Nat) (s : State) (h_s : Keeps b0 s) :
    Keeps b0 (State.sdTune p s) := by
  unfold State.sdTune
  repeat' first
    | (refine fun _ _ (h : Keeps _ _) => ?_)
    | (with_reducible first
        | assumption | apply State.updSd_keeps | apply State.draw_keeps | apply ite_keeps)
    | intro _ | split

theorem execSdInitDone_keeps {b0 : State} (p : Fin 4) (why : BitVec 4) (cSize : Nat) (modes : BitVec 7) (v18 cmd23 : Bool)
    (passes : List (BitVec 40)) (wp : Bool) (scan : CardScan) (s : State) (u : State) (h_s : Keeps b0 s) (h_u : Keeps b0 u) :
    Keeps b0 (nextOr u (execSdInitDone p why cSize modes v18 cmd23 passes wp scan s)) := by
  unfold execSdInitDone
  repeat' first
    | (with_reducible first
        | assumption | apply State.updSd_keeps | apply nextOr_next_keeps | apply ite_keeps)
    | intro _ | split | (extract_lets x; refine (fun (hx : Keeps b0 x) => ?_) ?_; clear_value x) | extract_lets

theorem execSdCardRemoved_keeps {b0 : State} (p : Fin 4) (s : State) (u : State) (h_s : Keeps b0 s) (h_u : Keeps b0 u) :
    Keeps b0 (nextOr u (execSdCardRemoved p s)) := by
  unfold execSdCardRemoved
  repeat' first
    | (with_reducible first
        | assumption | apply State.updSd_keeps | apply nextOr_next_keeps | apply ite_keeps)
    | intro _ | split

theorem State.sdFresh_keeps {b0 : State} (p : Nat) (s : State) (h_s : Keeps b0 s) :
    Keeps b0 (State.sdFresh p s) := by
  unfold State.sdFresh
  repeat' first
    | (with_reducible first
        | assumption | apply State.sdTune_keeps | apply ite_keeps)
    | intro _ | split

theorem State.sdStart_keeps {b0 : State} (p : Nat) (write : Bool) (level : Level) (s : State) (h_s : Keeps b0 s) :
    Keeps b0 (State.sdStart p write level s) := by
  unfold State.sdStart
  repeat' first
    | (with_reducible first
        | assumption | apply State.sdFresh_keeps | apply State.updSd_keeps | apply ite_keeps)
    | intro _ | split | (extract_lets x; refine (fun (hx : Keeps b0 x) => ?_) ?_; clear_value x) | extract_lets

theorem execSdRead_keeps {b0 : State} (p : Fin 4) (level : Level) (s : State) (u : State) (h_s : Keeps b0 s) (h_u : Keeps b0 u) :
    Keeps b0 (nextOr u (execSdRead p level s)) := by
  unfold execSdRead
  repeat' first
    | (with_reducible first
        | assumption | apply State.sdStart_keeps | apply nextOr_next_keeps)
    | intro _

theorem execSdWrite_keeps {b0 : State} (p : Fin 4) (level : Level) (s : State) (u : State) (h_s : Keeps b0 s) (h_u : Keeps b0 u) :
    Keeps b0 (nextOr u (execSdWrite p level s)) := by
  unfold execSdWrite
  repeat' first
    | (with_reducible first
        | assumption | apply State.sdStart_keeps | apply nextOr_next_keeps)
    | intro _

theorem execSdAbort_keeps {b0 : State} (p : Fin 4) (level : Level) (s : State) (u : State) (h_s : Keeps b0 s) (h_u : Keeps b0 u) :
    Keeps b0 (nextOr u (execSdAbort p level s)) := by
  unfold execSdAbort
  repeat' first
    | (with_reducible first
        | assumption | apply State.updSd_keeps | apply nextOr_next_keeps | apply ite_keeps)
    | intro _ | split

theorem execSdRetune_keeps {b0 : State} (p : Fin 4) (level : Level) (passes : List (BitVec 40)) (s : State) (u : State)
    (h_s : Keeps b0 s) (h_u : Keeps b0 u) :
    Keeps b0 (nextOr u (execSdRetune p level passes s)) := by
  unfold execSdRetune
  repeat' first
    | (with_reducible first
        | assumption | apply State.updSd_keeps | apply nextOr_next_keeps | apply ite_keeps)
    | intro _ | split

theorem execSdPowerOff_keeps {b0 : State} (p : Fin 4) (level : Level) (s : State) (u : State) (h_s : Keeps b0 s)
    (h_u : Keeps b0 u) :
    Keeps b0 (nextOr u (execSdPowerOff p level s)) := by
  unfold execSdPowerOff
  repeat' first
    | (with_reducible first
        | assumption | apply State.updSd_keeps | apply nextOr_next_keeps | apply ite_keeps)
    | intro _ | split

theorem execSdPowerOn_keeps {b0 : State} (p : Fin 4) (level : Level) (s : State) (u : State) (h_s : Keeps b0 s)
    (h_u : Keeps b0 u) :
    Keeps b0 (nextOr u (execSdPowerOn p level s)) := by
  unfold execSdPowerOn
  repeat' first
    | (with_reducible first
        | assumption | apply State.updSd_keeps | apply nextOr_next_keeps | apply ite_keeps)
    | intro _ | split

theorem execSdBusyEnd_keeps {b0 : State} (p : Fin 4) (s : State) (u : State) (h_s : Keeps b0 s) (h_u : Keeps b0 u) :
    Keeps b0 (nextOr u (execSdBusyEnd p s)) := by
  unfold execSdBusyEnd
  repeat' first
    | (with_reducible first
        | assumption | apply State.updSd_keeps | apply nextOr_next_keeps)
    | intro _

theorem State.sdFault_keeps {b0 : State} (p : Nat) (why : BitVec 4) (s : State) (h_s : Keeps b0 s) :
    Keeps b0 (State.sdFault p why s) := by
  unfold State.sdFault
  repeat' first
    | (with_reducible first
        | assumption | apply State.updSd_keeps | apply State.eventFree_keeps | apply ite_keeps)
    | intro _ | split

theorem execSdBusyTimeout_keeps {b0 : State} (p : Fin 4) (s : State) (u : State) (h_s : Keeps b0 s) (h_u : Keeps b0 u) :
    Keeps b0 (nextOr u (execSdBusyTimeout p s)) := by
  unfold execSdBusyTimeout
  repeat' first
    | (with_reducible first
        | assumption | apply State.sdFault_keeps | apply nextOr_next_keeps | apply ite_keeps)
    | intro _ | split

theorem execSdResponseTimeout_keeps {b0 : State} (p : Fin 4) (s : State) (u : State) (h_s : Keeps b0 s) (h_u : Keeps b0 u) :
    Keeps b0 (nextOr u (execSdResponseTimeout p s)) := by
  unfold execSdResponseTimeout
  repeat' first
    | (with_reducible first
        | assumption | apply State.sdFault_keeps | apply nextOr_next_keeps | apply ite_keeps)
    | intro _ | split

theorem State.sdBadCrc_keeps {b0 : State} (p : Nat) (s : State) (h_s : Keeps b0 s) :
    Keeps b0 (State.sdBadCrc p s) := by
  unfold State.sdBadCrc
  repeat' first
    | (refine fun _ _ (h : Keeps _ _) => ?_)
    | (with_reducible first
        | assumption | apply State.updSd_keeps | apply State.draw_keeps | apply ite_keeps)
    | intro _ | split

theorem execSdTransferEnd_keeps {b0 : State} (p : Fin 4) (data : List Byte) (crcOk : Bool) (s : State) (u : State)
    (h_s : Keeps b0 s) (h_u : Keeps b0 u) :
    Keeps b0 (nextOr u (execSdTransferEnd p data crcOk s)) := by
  unfold execSdTransferEnd
  repeat' first
    | (refine fun _ (h : Keeps _ _) => ?_)
    | (with_reducible first
        | assumption | apply State.sdBadCrc_keeps | apply State.sdTune_keeps | apply State.cardOut_keeps
        | apply State.cardIn_keeps | apply State.updSd_keeps | apply State.eventFree_keeps | apply nextOr_next_keeps
        | apply ite_keeps)
    | intro _ | split | (extract_lets x; refine (fun (hx : Keeps b0 x) => ?_) ?_; clear_value x) | extract_lets

theorem execSdCfgWrite_keeps {b0 : State} (p : Fin 4) (level : Level) (v : Word) (s : State) (u : State) (h_s : Keeps b0 s)
    (h_u : Keeps b0 u) :
    Keeps b0 (nextOr u (execSdCfgWrite p level v s)) := by
  unfold execSdCfgWrite
  repeat' first
    | (with_reducible first
        | assumption | apply State.updSd_keeps | apply nextOr_next_keeps | apply ite_keeps)
    | intro _ | split | (extract_lets x; refine (fun (hx : Keeps b0 x) => ?_) ?_; clear_value x) | extract_lets

theorem execIccCardInserted_keeps {b0 : State} (n : Fin 2) (s : State) (u : State) (h_s : Keeps b0 s) (h_u : Keeps b0 u) :
    Keeps b0 (nextOr u (execIccCardInserted n s)) := by
  unfold execIccCardInserted
  repeat' first
    | (with_reducible first
        | assumption | apply State.updIcc_keeps | apply nextOr_next_keeps | apply ite_keeps)
    | intro _ | split

theorem execIccCardRemoved_keeps {b0 : State} (n : Fin 2) (tie : Bool) (s : State) (u : State) (h_s : Keeps b0 s)
    (h_u : Keeps b0 u) :
    Keeps b0 (nextOr u (execIccCardRemoved n tie s)) := by
  unfold execIccCardRemoved
  repeat' first
    | (with_reducible first
        | assumption | apply State.updIcc_keeps | apply nextOr_next_keeps | apply ite_keeps)
    | intro _ | split | (extract_lets x; refine (fun (hx : Keeps b0 x) => ?_) ?_; clear_value x) | extract_lets

theorem execIccActivate_keeps {b0 : State} (n : Fin 2) (level : Level) (s : State) (u : State) (h_s : Keeps b0 s)
    (h_u : Keeps b0 u) :
    Keeps b0 (nextOr u (execIccActivate n level s)) := by
  unfold execIccActivate
  repeat' first
    | (with_reducible first
        | assumption | apply State.updIcc_keeps | apply nextOr_next_keeps | apply ite_keeps)
    | intro _ | split

theorem execIccDeactivate_keeps {b0 : State} (n : Fin 2) (level : Level) (s : State) (u : State) (h_s : Keeps b0 s)
    (h_u : Keeps b0 u) :
    Keeps b0 (nextOr u (execIccDeactivate n level s)) := by
  unfold execIccDeactivate
  repeat' first
    | (with_reducible first
        | assumption | apply State.updIcc_keeps | apply nextOr_next_keeps | apply ite_keeps)
    | intro _ | split

theorem execIccXchg_keeps {b0 : State} (n : Fin 2) (level : Level) (s : State) (u : State) (h_s : Keeps b0 s) (h_u : Keeps b0 u) :
    Keeps b0 (nextOr u (execIccXchg n level s)) := by
  unfold execIccXchg
  repeat' first
    | (refine fun _ (h : Keeps _ _) => ?_)
    | (with_reducible first
        | assumption | apply State.cardOut_keeps | apply State.updIcc_keeps | apply nextOr_next_keeps | apply ite_keeps)
    | exact h | intro _ | split | (extract_lets x; refine (fun (hx : Keeps b0 x) => ?_) ?_; clear_value x) | extract_lets

theorem execAtrReceived_keeps {b0 : State} (n : Fin 2) (atr : List Byte) (ppsOk : Bool) (s : State) (u : State)
    (h_s : Keeps b0 s) (h_u : Keeps b0 u) :
    Keeps b0 (nextOr u (execAtrReceived n atr ppsOk s)) := by
  unfold execAtrReceived
  repeat' first
    | (with_reducible first
        | assumption | apply State.updIcc_keeps | apply nextOr_next_keeps | apply ite_keeps)
    | intro _ | split | (extract_lets x; refine (fun (hx : Keeps b0 x) => ?_) ?_; clear_value x) | extract_lets

theorem execAtrTimeout_keeps {b0 : State} (n : Fin 2) (s : State) (u : State) (h_s : Keeps b0 s) (h_u : Keeps b0 u) :
    Keeps b0 (nextOr u (execAtrTimeout n s)) := by
  unfold execAtrTimeout
  repeat' first
    | (with_reducible first
        | assumption | apply State.updIcc_keeps | apply nextOr_next_keeps | apply ite_keeps)
    | intro _ | split

theorem State.iccFail_keeps {b0 : State} (n : Nat) (s : State) (h_s : Keeps b0 s) :
    Keeps b0 (State.iccFail n s) := by
  unfold State.iccFail
  repeat' first
    | (with_reducible first
        | assumption | apply State.updIcc_keeps | apply State.eventFree_keeps | apply ite_keeps)
    | intro _ | split

theorem execIccWwtExceeded_keeps {b0 : State} (n : Fin 2) (s : State) (u : State) (h_s : Keeps b0 s) (h_u : Keeps b0 u) :
    Keeps b0 (nextOr u (execIccWwtExceeded n s)) := by
  unfold execIccWwtExceeded
  repeat' first
    | (with_reducible first
        | assumption | apply State.iccFail_keeps | apply nextOr_next_keeps)
    | intro _

theorem execIccExchangeEnd_keeps {b0 : State} (n : Fin 2) (response : Option (List Byte)) (s : State) (u : State)
    (h_s : Keeps b0 s) (h_u : Keeps b0 u) :
    Keeps b0 (nextOr u (execIccExchangeEnd n response s)) := by
  unfold execIccExchangeEnd
  repeat' first
    | (refine fun _ (h : Keeps _ _) => ?_)
    | (with_reducible first
        | assumption | apply State.iccFail_keeps | apply State.cardIn_keeps | apply State.updIcc_keeps | apply nextOr_next_keeps
        | apply ite_keeps)
    | intro _ | split | (extract_lets x; refine (fun (hx : Keeps b0 x) => ?_) ?_; clear_value x) | extract_lets

theorem execIccClockStop_keeps {b0 : State} (n : Fin 2) (s : State) (u : State) (h_s : Keeps b0 s) (h_u : Keeps b0 u) :
    Keeps b0 (nextOr u (execIccClockStop n s)) := by
  unfold execIccClockStop
  repeat' first
    | (with_reducible first
        | assumption | apply State.updIcc_keeps | apply nextOr_next_keeps | apply ite_keeps)
    | intro _ | split

theorem execIccCfgWrite_keeps {b0 : State} (n : Fin 2) (level : Level) (v : Word) (s : State) (u : State) (h_s : Keeps b0 s)
    (h_u : Keeps b0 u) :
    Keeps b0 (nextOr u (execIccCfgWrite n level v s)) := by
  unfold execIccCfgWrite
  repeat' first
    | (with_reducible first
        | assumption | apply State.updIcc_keeps | apply nextOr_next_keeps | apply ite_keeps)
    | intro _ | split | (extract_lets x; refine (fun (hx : Keeps b0 x) => ?_) ?_; clear_value x) | extract_lets

theorem execSensorRefresh_keeps {b0 : State} (readings : List (BitVec 32)) (s : State) (u : State) (h_s : Keeps b0 s)
    (h_u : Keeps b0 u) :
    Keeps b0 (nextOr u (execSensorRefresh readings s)) := by
  unfold execSensorRefresh
  repeat' first
    | (with_reducible first
        | assumption | apply State.event_keeps | apply State.withCob_keeps | apply State.withInsole_keeps
        | apply State.withCipher_keeps | apply nextOr_next_keeps | apply ite_keeps)
    | intro _ | split | (extract_lets x; refine (fun (hx : Keeps b0 x) => ?_) ?_; clear_value x) | extract_lets

theorem State.holdCore_keeps {b0 : State} (c : Nat) (s : State) (h_s : Keeps b0 s) :
    Keeps b0 (State.holdCore c s) := by
  unfold State.holdCore
  repeat' first
    | (with_reducible first
        | assumption | apply State.updCore_keeps | apply State.withPke_keeps | apply State.withFw_keeps
        | apply State.withMbx_keeps | apply foldl_keeps | apply ite_keeps)
    | intro _ | split | (extract_lets x; refine (fun (hx : Keeps b0 x) => ?_) ?_; clear_value x) | extract_lets

theorem State.restartCore_keeps {b0 : State} (c : Nat) (s : State) (h_s : Keeps b0 s) :
    Keeps b0 (State.restartCore c s) := by
  unfold State.restartCore
  repeat' first
    | (with_reducible first
        | assumption | apply State.holdCore_keeps | apply State.updCore_keeps | apply State.alarmTick_keeps
        | apply State.event_keeps | apply ite_keeps)
    | intro _ | split | (extract_lets x; refine (fun (hx : Keeps b0 x) => ?_) ?_; clear_value x) | extract_lets

theorem State.coreFails_keeps {b0 : State} (c : Nat) (wedged : Bool) (s : State) (h_s : Keeps b0 s) :
    Keeps b0 (State.coreFails c wedged s) := by
  unfold State.coreFails
  repeat' first
    | (with_reducible first
        | assumption | apply State.restartCore_keeps | apply State.updCore_keeps | apply State.raise_keeps | apply ite_keeps)
    | intro _ | split | (extract_lets x; refine (fun (hx : Keeps b0 x) => ?_) ?_; clear_value x) | extract_lets

theorem execWatchdogExpiry_keeps {b0 : State} (c : Fin 4) (tie : Bool) (s : State) (u : State) (h_s : Keeps b0 s)
    (h_u : Keeps b0 u) :
    Keeps b0 (nextOr u (execWatchdogExpiry c tie s)) := by
  unfold execWatchdogExpiry
  repeat' first
    | (with_reducible first
        | assumption | apply State.coreFails_keeps | apply State.withCob_keeps | apply nextOr_next_keeps | apply ite_keeps)
    | intro _ | split

theorem execLockstepMismatch_keeps {b0 : State} (c : CoreNo) (s : State) (u : State) (h_s : Keeps b0 s) (h_u : Keeps b0 u) :
    Keeps b0 (nextOr u (execLockstepMismatch c s)) := by
  unfold execLockstepMismatch
  repeat' first
    | (with_reducible first
        | assumption | apply State.coreFails_keeps | apply nextOr_next_keeps | apply ite_keeps)
    | intro _ | split

theorem execPwrWdogWrite_keeps {b0 : State} (c : Fin 4) (writer : CoreNo) (v : Word) (s : State) (u : State)
    (h_s : Keeps b0 s) (h_u : Keeps b0 u) :
    Keeps b0 (nextOr u (execPwrWdogWrite c writer v s)) := by
  unfold execPwrWdogWrite
  repeat' first
    | (with_reducible first
        | assumption | apply State.withCob_keeps | apply nextOr_next_keeps | apply ite_keeps)
    | intro _ | split

theorem execCoreRestartRelease_keeps {b0 : State} (c : Fin 4) (s : State) (u : State) (h_s : Keeps b0 s) (h_u : Keeps b0 u) :
    Keeps b0 (nextOr u (execCoreRestartRelease c s)) := by
  unfold execCoreRestartRelease
  repeat' first
    | (with_reducible first
        | assumption | apply State.releaseCore_keeps | apply State.hold_keeps | apply State.eventFree_keeps
        | apply State.withMem_keeps | apply nextOr_next_keeps | apply ite_keeps)
    | with_reducible exact fun (m : Mem) h => Mem.reload_wf _ _ m h | exact fun (m : Mem) h => Mem.sram_wf _ _ m h
    | exact fun (m : Mem) h => Mem.tcmWrite_wf _ _ _ m h | exact fun (m : Mem) _ => Mem.empty_wf
    | exact fun (m : Mem) h => Mem.foldl_wf _ _ (fun m g h => Mem.place_wf g m h) m h
    | exact fun (m : Mem) h => Mem.tcmWrite_wf _ _ _ _ (Mem.tcmWrite_wf _ _ _ m h) | intro _ | split
    | (extract_lets x; refine (fun (hx : Keeps b0 x) => ?_) ?_; clear_value x) | extract_lets

theorem execCobblerRestart_keeps {b0 : State} (s : State) (u : State) (h_s : Keeps b0 s) (h_u : Keeps b0 u) :
    Keeps b0 (nextOr u (execCobblerRestart s)) := by
  unfold execCobblerRestart
  repeat' first
    | (with_reducible first
        | assumption | apply State.releaseCore_keeps | apply State.withCob_keeps | apply nextOr_next_keeps | apply ite_keeps)
    | intro _ | split

theorem State.applyUnits_keeps {b0 : State} (s : State) (h_s : Keeps b0 s) :
    Keeps b0 (State.applyUnits s) := by
  unfold State.applyUnits
  repeat' first
    | (with_reducible first
        | assumption | apply State.holdCore_keeps | apply State.updIcc_keeps | apply State.updSd_keeps
        | apply State.dealAll_keeps | apply State.digDeal_keeps | apply State.pkeReissue_keeps | apply State.updCls_keeps
        | apply State.withWelt_keeps | apply State.withPke_keeps | apply foldl_keeps | apply ite_keeps)
    | intro _ | split | (extract_lets x; refine (fun (hx : Keeps b0 x) => ?_) ?_; clear_value x) | extract_lets

theorem execPwrUnitEnWrite_keeps {b0 : State} (writer : CoreNo) (map : Long) (s : State) (u : State) (h_s : Keeps b0 s)
    (h_u : Keeps b0 u) :
    Keeps b0 (nextOr u (execPwrUnitEnWrite writer map s)) := by
  unfold execPwrUnitEnWrite
  repeat' first
    | (with_reducible first
        | assumption | apply State.applyUnits_keeps | apply State.withCob_keeps | apply nextOr_next_keeps | apply ite_keeps)
    | intro _ | split

theorem execKatSchedule_keeps {b0 : State} (unit : Fin 24) (s : State) (u : State) (h_s : Keeps b0 s) (h_u : Keeps b0 u) :
    Keeps b0 (nextOr u (execKatSchedule unit s)) := by
  unfold execKatSchedule
  repeat' first
    | (with_reducible first
        | assumption | apply execCphKatRun_keeps | apply execDigKatRun_keeps | apply execPkeKatRun_keeps
        | apply nextOr_next_keeps | apply ite_keeps)
    | intro _ | split | (extract_lets x; refine (fun (hx : Keeps b0 x) => ?_) ?_; clear_value x) | extract_lets

theorem State.reply_keeps {b0 : State} (r : MgtReply) (s : State) (h_s : Keeps b0 s) :
    Keeps b0 (State.reply r s) := by
  unfold State.reply
  repeat' first | (with_reducible first | assumption | apply State.withOut_keeps) | intro _

theorem State.onPort_keeps {b0 : State} (f : State → State) (s : State) (h_s : Keeps b0 s)
    (h_f : ∀  t', Keeps b0 t' → Keeps b0 (f  t')) :
    Keeps b0 (State.onPort f s) := by
  unfold State.onPort
  repeat' first | (with_reducible first | assumption | apply h_f | apply ite_keeps) | intro _ | split

theorem execSmbusSclTimeout_keeps {b0 : State} (s : State) (u : State) (h_s : Keeps b0 s) (h_u : Keeps b0 u) :
    Keeps b0 (nextOr u (execSmbusSclTimeout s)) := by
  unfold execSmbusSclTimeout
  repeat' first | (with_reducible first | assumption | apply nextOr_next_keeps) | intro _

theorem execSetEndpointId_keeps {b0 : State} (eid : Byte) (s : State) (u : State) (h_s : Keeps b0 s) (h_u : Keeps b0 u) :
    Keeps b0 (nextOr u (execSetEndpointId eid s)) := by
  unfold execSetEndpointId
  repeat' first
    | (refine fun _ (h : Keeps _ _) => ?_)
    | (with_reducible first
        | assumption | apply State.onPort_keeps | apply State.reply_keeps | apply State.withCob_keeps | apply nextOr_next_keeps
        | apply ite_keeps)
    | intro _ | split

theorem execGetEndpointId_keeps {b0 : State} (s : State) (u : State) (h_s : Keeps b0 s) (h_u : Keeps b0 u) :
    Keeps b0 (nextOr u (execGetEndpointId s)) := by
  unfold execGetEndpointId
  repeat' first
    | (refine fun _ (h : Keeps _ _) => ?_)
    | (with_reducible first
        | assumption | apply State.onPort_keeps | apply State.reply_keeps | apply nextOr_next_keeps)
    | intro _

theorem execGetMctpVersion_keeps {b0 : State} (msgType : Byte) (s : State) (u : State) (h_s : Keeps b0 s) (h_u : Keeps b0 u) :
    Keeps b0 (nextOr u (execGetMctpVersion msgType s)) := by
  unfold execGetMctpVersion
  repeat' first
    | (refine fun _ (h : Keeps _ _) => ?_)
    | (with_reducible first
        | assumption | apply State.onPort_keeps | apply State.reply_keeps | apply nextOr_next_keeps | apply ite_keeps)
    | intro _ | split

theorem execGetMessageTypeSupport_keeps {b0 : State} (s : State) (u : State) (h_s : Keeps b0 s) (h_u : Keeps b0 u) :
    Keeps b0 (nextOr u (execGetMessageTypeSupport s)) := by
  unfold execGetMessageTypeSupport
  repeat' first
    | (refine fun _ (h : Keeps _ _) => ?_)
    | (with_reducible first
        | assumption | apply State.onPort_keeps | apply State.reply_keeps | apply nextOr_next_keeps)
    | intro _

theorem execGetPdr_keeps {b0 : State} (record : Word) (s : State) (u : State) (h_s : Keeps b0 s) (h_u : Keeps b0 u) :
    Keeps b0 (nextOr u (execGetPdr record s)) := by
  unfold execGetPdr
  repeat' first
    | (refine fun _ (h : Keeps _ _) => ?_)
    | (with_reducible first
        | assumption | apply State.onPort_keeps | apply State.reply_keeps | apply nextOr_next_keeps | apply ite_keeps)
    | intro _ | split

theorem execGetSensorReading_keeps {b0 : State} (sensor : Half) (s : State) (u : State) (h_s : Keeps b0 s) (h_u : Keeps b0 u) :
    Keeps b0 (nextOr u (execGetSensorReading sensor s)) := by
  unfold execGetSensorReading
  repeat' first
    | (refine fun _ (h : Keeps _ _) => ?_)
    | (with_reducible first
        | assumption | apply State.onPort_keeps | apply State.reply_keeps | apply nextOr_next_keeps | apply ite_keeps)
    | intro _ | split

theorem execSetNumericSensorEnable_keeps {b0 : State} (sensor : Half) (opState events : Byte) (s : State) (u : State)
    (h_s : Keeps b0 s) (h_u : Keeps b0 u) :
    Keeps b0 (nextOr u (execSetNumericSensorEnable sensor opState events s)) := by
  unfold execSetNumericSensorEnable
  repeat' first
    | (refine fun _ (h : Keeps _ _) => ?_)
    | (with_reducible first
        | assumption | apply State.onPort_keeps | apply State.reply_keeps | apply State.withCob_keeps | apply nextOr_next_keeps
        | apply ite_keeps)
    | intro _ | split

theorem execGetStateSensorReadings_keeps {b0 : State} (sensor : Half) (s : State) (u : State) (h_s : Keeps b0 s)
    (h_u : Keeps b0 u) :
    Keeps b0 (nextOr u (execGetStateSensorReadings sensor s)) := by
  unfold execGetStateSensorReadings
  repeat' first
    | (refine fun _ (h : Keeps _ _) => ?_)
    | (with_reducible first
        | assumption | apply State.onPort_keeps | apply State.reply_keeps | apply nextOr_next_keeps | apply ite_keeps)
    | intro _ | split

theorem State.updSpdm_keeps {b0 : State} (g : Spdm → Spdm) (s : State) (h_s : Keeps b0 s) :
    Keeps b0 (State.updSpdm g s) := by
  unfold State.updSpdm
  repeat' first | (with_reducible first | assumption | apply State.withCob_keeps) | intro _

theorem State.onCob_keeps {b0 : State} (f : State → State) (s : State) (h_s : Keeps b0 s)
    (h_f : ∀  t', Keeps b0 t' → Keeps b0 (f  t')) :
    Keeps b0 (State.onCob f s) := by
  unfold State.onCob
  repeat' first | (with_reducible first | assumption | apply h_f | apply ite_keeps) | intro _ | split

theorem execGetVersion_keeps {b0 : State} (s : State) (u : State) (h_s : Keeps b0 s) (h_u : Keeps b0 u) :
    Keeps b0 (nextOr u (execGetVersion s)) := by
  unfold execGetVersion
  repeat' first
    | (refine fun _ (h : Keeps _ _) => ?_)
    | (with_reducible first
        | assumption | apply State.onCob_keeps | apply State.updSpdm_keeps | apply State.reply_keeps | apply nextOr_next_keeps)
    | intro _

theorem execGetCapabilities_keeps {b0 : State} (version : Byte) (s : State) (u : State) (h_s : Keeps b0 s) (h_u : Keeps b0 u) :
    Keeps b0 (nextOr u (execGetCapabilities version s)) := by
  unfold execGetCapabilities
  repeat' first
    | (refine fun _ (h : Keeps _ _) => ?_)
    | (with_reducible first
        | assumption | apply State.onCob_keeps | apply State.updSpdm_keeps | apply State.reply_keeps | apply nextOr_next_keeps
        | apply ite_keeps)
    | intro _ | split

theorem execNegotiateAlgorithms_keeps {b0 : State} (p384 sha384 : Bool) (s : State) (u : State) (h_s : Keeps b0 s)
    (h_u : Keeps b0 u) :
    Keeps b0 (nextOr u (execNegotiateAlgorithms p384 sha384 s)) := by
  unfold execNegotiateAlgorithms
  repeat' first
    | (refine fun _ (h : Keeps _ _) => ?_)
    | (with_reducible first
        | assumption | apply State.onCob_keeps | apply State.updSpdm_keeps | apply State.reply_keeps | apply nextOr_next_keeps
        | apply ite_keeps)
    | intro _ | split

theorem State.negotiated_keeps {b0 : State} (f : State → State) (s : State) (h_s : Keeps b0 s)
    (h_f : ∀  t', Keeps b0 t' → Keeps b0 (f  t')) :
    Keeps b0 (State.negotiated f s) := by
  unfold State.negotiated
  repeat' first
    | (refine fun _ (h : Keeps _ _) => ?_)
    | (with_reducible first
        | assumption | apply h_f | apply State.onCob_keeps | apply State.reply_keeps | apply ite_keeps)
    | intro _ | split

theorem execGetDigests_keeps {b0 : State} (s : State) (u : State) (h_s : Keeps b0 s) (h_u : Keeps b0 u) :
    Keeps b0 (nextOr u (execGetDigests s)) := by
  unfold execGetDigests
  repeat' first
    | (refine fun _ (h : Keeps _ _) => ?_)
    | (with_reducible first
        | assumption | apply State.negotiated_keeps | apply State.reply_keeps | apply nextOr_next_keeps | apply ite_keeps)
    | intro _ | split

theorem State.withChain_keeps {b0 : State} (slot : Byte) (f : State → State) (s : State) (h_s : Keeps b0 s)
    (h_f : ∀  t', Keeps b0 t' → Keeps b0 (f  t')) :
    Keeps b0 (State.withChain slot f s) := by
  unfold State.withChain
  repeat' first
    | (refine fun _ (h : Keeps _ _) => ?_)
    | (with_reducible first
        | assumption | apply h_f | apply State.negotiated_keeps | apply State.reply_keeps | apply ite_keeps)
    | intro _ | split

theorem execGetCertificate_keeps {b0 : State} (slot : Byte) (offset len : Half) (s : State) (u : State) (h_s : Keeps b0 s)
    (h_u : Keeps b0 u) :
    Keeps b0 (nextOr u (execGetCertificate slot offset len s)) := by
  unfold execGetCertificate
  repeat' first
    | (refine fun _ (h : Keeps _ _) => ?_)
    | (with_reducible first
        | assumption | apply State.withChain_keeps | apply State.reply_keeps | apply nextOr_next_keeps | apply ite_keeps)
    | intro _ | split

theorem State.attest_keeps {b0 : State} (kind : Nat) (parts : List (List Byte)) (k : List Byte → List Byte → State → State) (s :
    State) (h_s : Keeps b0 s) (h_k : ∀ x0 x1 t', Keeps b0 t' → Keeps b0 (k x0 x1 t')) :
    Keeps b0 (State.attest kind parts k s) := by
  unfold State.attest
  repeat' first
    | (with_reducible first
        | assumption | apply h_k | apply State.reply_keeps | apply State.fwEngine_keeps)
    | intro _ | split | (extract_lets x; refine (fun (hx : Keeps b0 x) => ?_) ?_; clear_value x) | extract_lets

theorem execChallenge_keeps {b0 : State} (slot : Byte) (nonce : BitVec 256) (s : State) (u : State) (h_s : Keeps b0 s)
    (h_u : Keeps b0 u) :
    Keeps b0 (nextOr u (execChallenge slot nonce s)) := by
  unfold execChallenge
  repeat' first
    | (refine fun _ (h : Keeps _ _) => ?_)
    | (refine fun _ _ _ (h : Keeps _ _) => ?_)
    | (with_reducible first
        | assumption | apply State.attest_keeps | apply State.withChain_keeps | apply State.reply_keeps
        | apply nextOr_next_keeps)
    | intro _

theorem execGetMeasurements_keeps {b0 : State} (index : Byte) (signed : Bool) (nonce : BitVec 256) (s : State) (u : State)
    (h_s : Keeps b0 s) (h_u : Keeps b0 u) :
    Keeps b0 (nextOr u (execGetMeasurements index signed nonce s)) := by
  unfold execGetMeasurements
  repeat' first
    | (refine fun _ (h : Keeps _ _) => ?_)
    | (refine fun _ _ _ (h : Keeps _ _) => ?_)
    | (with_reducible first
        | assumption | apply State.attest_keeps | apply State.negotiated_keeps | apply State.reply_keeps
        | apply nextOr_next_keeps | apply ite_keeps)
    | intro _ | split | (extract_lets x; refine (fun (hx : Keeps b0 x) => ?_) ?_; clear_value x) | extract_lets

theorem execKeyExchange_keeps {b0 : State} (slot : Byte) (random : BitVec 256) (doe : Bool) (s : State) (u : State)
    (h_s : Keeps b0 s) (h_u : Keeps b0 u) :
    Keeps b0 (nextOr u (execKeyExchange slot random doe s)) := by
  unfold execKeyExchange
  repeat' first
    | (refine fun _ (h : Keeps _ _) => ?_)
    | (refine fun _ _ _ (h : Keeps _ _) => ?_)
    | (with_reducible first
        | assumption | apply State.attest_keeps | apply State.withChain_keeps | apply State.updSpdm_keeps
        | apply State.reply_keeps | apply nextOr_next_keeps | apply ite_keeps)
    | intro _ | split

theorem execFinish_keeps {b0 : State} (hmacOk : Bool) (s : State) (u : State) (h_s : Keeps b0 s) (h_u : Keeps b0 u) :
    Keeps b0 (nextOr u (execFinish hmacOk s)) := by
  unfold execFinish
  repeat' first
    | (refine fun _ (h : Keeps _ _) => ?_)
    | (with_reducible first
        | assumption | apply State.onCob_keeps | apply State.updSpdm_keeps | apply State.reply_keeps | apply nextOr_next_keeps
        | apply ite_keeps)
    | intro _ | split

theorem execEndSession_keeps {b0 : State} (s : State) (u : State) (h_s : Keeps b0 s) (h_u : Keeps b0 u) :
    Keeps b0 (nextOr u (execEndSession s)) := by
  unfold execEndSession
  repeat' first
    | (refine fun _ (h : Keeps _ _) => ?_)
    | (with_reducible first
        | assumption | apply State.onCob_keeps | apply State.updSpdm_keeps | apply State.reply_keeps | apply nextOr_next_keeps
        | apply ite_keeps)
    | intro _ | split

theorem execVendorRawSamples_keeps {b0 : State} (words : Nat) (s : State) (u : State) (h_s : Keeps b0 s) (h_u : Keeps b0 u) :
    Keeps b0 (nextOr u (execVendorRawSamples words s)) := by
  unfold execVendorRawSamples
  repeat' first
    | (refine fun _ (h : Keeps _ _) => ?_)
    | (with_reducible first
        | assumption | apply State.onCob_keeps | apply State.reply_keeps | apply State.withRng_keeps | apply nextOr_next_keeps
        | apply ite_keeps)
    | exact fun (_ : Rng) h => h | exact fun (_ : Rng) h => Rng.tests_ok _ _ h | exact fun (_ : Rng) h => Rng.takeBlock_ok h
    | (intro (r : Rng) h; (repeat' split) <;> first | exact h | exact Rng.takeBlock_ok h | simp_all [Rng.Ok]) | intro _ | split

theorem State.pairChange_keeps {b0 : State} (f : State → State) (s : State) (h_s : Keeps b0 s)
    (h_f : ∀  t', Keeps b0 t' → Keeps b0 (f  t')) :
    Keeps b0 (State.pairChange f s) := by
  unfold State.pairChange
  repeat' first
    | (with_reducible first
        | assumption | apply h_f | apply State.statusPages_keeps | apply State.linkctl_keeps | apply State.settleHold_keeps
        | apply foldl_keeps | apply ite_keeps)
    | intro _ | split | (extract_lets x; refine (fun (hx : Keeps b0 x) => ?_) ?_; clear_value x) | extract_lets

theorem State.enterPair_keeps {b0 : State} (st : PairState) (s : State) (h_s : Keeps b0 s) :
    Keeps b0 (State.enterPair st s) := by
  unfold State.enterPair
  repeat' first
    | (refine fun _ (h : Keeps _ _) => ?_)
    | (with_reducible first
        | assumption | apply State.pairChange_keeps | apply State.withWelt_keeps)
    | intro _

theorem State.weltAck_keeps {b0 : State} (seq : Word) (s : State) (h_s : Keeps b0 s) :
    Keeps b0 (State.weltAck seq s) := by
  unfold State.weltAck
  repeat' first | (with_reducible first | assumption | apply State.weltSealed_keeps) | intro _

theorem State.weltLink_keeps {b0 : State} (s : State) (h_s : Keeps b0 s) :
    Keeps b0 (State.weltLink s) := by
  unfold State.weltLink
  repeat' first
    | (with_reducible first
        | assumption | apply State.enterPair_keeps | apply ite_keeps)
    | intro _ | split

theorem State.weltStart_keeps {b0 : State} (s : State) (h_s : Keeps b0 s) :
    Keeps b0 (State.weltStart s) := by
  unfold State.weltStart
  repeat' first
    | (refine fun _ _ (h : Keeps _ _) => ?_)
    | (with_reducible first
        | assumption | apply State.weltLink_keeps | apply State.weltBoth_keeps | apply State.fwDraw_keeps
        | apply State.withWelt_keeps | apply ite_keeps)
    | intro _ | split | (extract_lets x; refine (fun (hx : Keeps b0 x) => ?_) ?_; clear_value x) | extract_lets

theorem State.weltAlarm_keeps {b0 : State} (kind lane : Nat) (s : State) (h_s : Keeps b0 s) :
    Keeps b0 (State.weltAlarm kind lane s) := by
  unfold State.weltAlarm
  repeat' first | (with_reducible first | assumption | apply State.raise_keeps) | intro _

theorem State.weltReplay_keeps {b0 : State} (lane : Nat) (s : State) (h_s : Keeps b0 s) :
    Keeps b0 (State.weltReplay lane s) := by
  unfold State.weltReplay
  repeat' first
    | (with_reducible first
        | assumption | apply State.weltAlarm_keeps | apply State.weltStart_keeps | apply State.withWelt_keeps)
    | intro _ | split

theorem State.weltDiscard_keeps {b0 : State} (g : WeltGot) (lane : Nat) (s : State) (h_s : Keeps b0 s) :
    Keeps b0 (State.weltDiscard g lane s) := by
  unfold State.weltDiscard
  repeat' first
    | (with_reducible first
        | assumption | apply State.weltReplay_keeps | apply State.weltAlarm_keeps | apply State.weltStart_keeps
        | apply State.withWelt_keeps)
    | intro _ | split

theorem State.weltTake_keeps {b0 : State} (type : Byte) (fr : WeltRx) (k : List Byte → State → State) (s : State)
    (h_s : Keeps b0 s) (h_k : ∀ x0 t', Keeps b0 t' → Keeps b0 (k x0 t')) :
    Keeps b0 (State.weltTake type fr k s) := by
  unfold State.weltTake
  repeat' first
    | (with_reducible first
        | assumption | apply h_k | apply State.weltDiscard_keeps | apply State.withWelt_keeps | apply ite_keeps)
    | intro _ | split

theorem State.weltClear_keeps {b0 : State} (type : Byte) (fr : WeltRx) (k : List Byte → State → State) (s : State)
    (h_s : Keeps b0 s) (h_k : ∀ x0 t', Keeps b0 t' → Keeps b0 (k x0 t')) :
    Keeps b0 (State.weltClear type fr k s) := by
  unfold State.weltClear
  repeat' first
    | (with_reducible first
        | assumption | apply h_k | apply State.weltDiscard_keeps | apply ite_keeps)
    | intro _ | split

theorem State.resync_keeps {b0 : State} (s : State) (h_s : Keeps b0 s) :
    Keeps b0 (State.resync s) := by
  unfold State.resync
  repeat' first
    | (with_reducible first
        | assumption | apply State.enterPair_keeps | apply State.leaseGrant_keeps | apply State.sendRecord_keeps
        | apply foldl_keeps)
    | intro _ | split | (extract_lets x; refine (fun (hx : Keeps b0 x) => ?_) ?_; clear_value x) | extract_lets

theorem State.weltAdvance_keeps {b0 : State} (linkBack : Bool) (s : State) (h_s : Keeps b0 s) :
    Keeps b0 (State.weltAdvance linkBack s) := by
  unfold State.weltAdvance
  repeat' first
    | (with_reducible first
        | assumption | apply State.resync_keeps | apply State.weltLink_keeps | apply ite_keeps)
    | intro _ | split | (extract_lets x; refine (fun (hx : Keeps b0 x) => ?_) ?_; clear_value x) | extract_lets

theorem execWltCfgWrite_keeps {b0 : State} (level : Level) (v : Word) (s : State) (u : State) (h_s : Keeps b0 s)
    (h_u : Keeps b0 u) :
    Keeps b0 (nextOr u (execWltCfgWrite level v s)) := by
  unfold execWltCfgWrite
  repeat' first
    | (with_reducible first
        | assumption | apply State.withWelt_keeps | apply nextOr_next_keeps | apply ite_keeps)
    | intro _ | split

theorem execWeltLaneLock_keeps {b0 : State} (l : Fin 2) (s : State) (u : State) (h_s : Keeps b0 s) (h_u : Keeps b0 u) :
    Keeps b0 (nextOr u (execWeltLaneLock l s)) := by
  unfold execWeltLaneLock
  repeat' first
    | (with_reducible first
        | assumption | apply State.weltStart_keeps | apply State.withWelt_keeps | apply nextOr_next_keeps | apply ite_keeps)
    | intro _ | split | (extract_lets x; refine (fun (hx : Keeps b0 x) => ?_) ?_; clear_value x) | extract_lets

theorem execWeltLaneLoss_keeps {b0 : State} (l : Fin 2) (s : State) (u : State) (h_s : Keeps b0 s) (h_u : Keeps b0 u) :
    Keeps b0 (nextOr u (execWeltLaneLoss l s)) := by
  unfold execWeltLaneLoss
  repeat' first
    | (with_reducible first
        | assumption | apply State.eventFree_keeps | apply State.withWelt_keeps | apply nextOr_next_keeps | apply ite_keeps)
    | intro _ | split

theorem execHello_keeps {b0 : State} (fr : WeltRx) (carrying : Bool) (s : State) (u : State) (h_s : Keeps b0 s)
    (h_u : Keeps b0 u) :
    Keeps b0 (nextOr u (execHello fr carrying s)) := by
  unfold execHello
  repeat' first
    | (refine fun _ _ (h : Keeps _ _) => ?_)
    | (with_reducible first
        | assumption | apply State.weltClear_keeps | apply State.enterPair_keeps | apply State.withWelt_keeps
        | apply State.withRings_keeps | apply nextOr_next_keeps | apply ite_keeps)
    | intro _ | split | (extract_lets x; refine (fun (hx : Keeps b0 x) => ?_) ?_; clear_value x) | extract_lets

theorem execWeltSessionKeyReady_keeps {b0 : State} (s : State) (u : State) (h_s : Keeps b0 s) (h_u : Keeps b0 u) :
    Keeps b0 (nextOr u (execWeltSessionKeyReady s)) := by
  unfold execWeltSessionKeyReady
  repeat' first
    | (with_reducible first
        | assumption | apply State.fwKdf_keeps | apply State.dealAll_keeps | apply State.weltSealed_keeps
        | apply State.withWelt_keeps | apply nextOr_next_keeps)
    | intro _ | split | (refine keeps_of_pair (by assumption) ?_)
    | (extract_lets x; refine (fun (hx : Keeps b0 x) => ?_) ?_; clear_value x) | extract_lets

theorem State.confirmed_keeps {b0 : State} (plain : List Byte) (counter : Nat) (s : State) (h_s : Keeps b0 s) :
    Keeps b0 (State.confirmed plain counter s) := by
  unfold State.confirmed
  repeat' first
    | (with_reducible first
        | assumption | apply State.weltAdvance_keeps | apply State.withWelt_keeps | apply ite_keeps)
    | intro _ | split | (extract_lets x; refine (fun (hx : Keeps b0 x) => ?_) ?_; clear_value x) | extract_lets

theorem execConfirm_keeps {b0 : State} (fr : WeltRx) (s : State) (u : State) (h_s : Keeps b0 s) (h_u : Keeps b0 u) :
    Keeps b0 (nextOr u (execConfirm fr s)) := by
  unfold execConfirm
  repeat' first
    | (with_reducible first
        | assumption | apply State.confirmed_keeps | apply State.weltDiscard_keeps | apply State.weltAlarm_keeps
        | apply State.withWelt_keeps | apply nextOr_next_keeps | apply ite_keeps)
    | intro _ | split

theorem execWeltBadFrame_keeps {b0 : State} (type : Byte) (fr : WeltRx) (s : State) (u : State) (h_s : Keeps b0 s)
    (h_u : Keeps b0 u) :
    Keeps b0 (nextOr u (execWeltBadFrame type fr s)) := by
  unfold execWeltBadFrame
  repeat' first
    | (refine fun _ _ (h : Keeps _ _) => ?_)
    | (with_reducible first
        | assumption | apply State.weltClear_keeps | apply State.weltDiscard_keeps | apply nextOr_next_keeps | apply ite_keeps)
    | intro _ | split

theorem execWeltIdle_keeps {b0 : State} (s : State) (u : State) (h_s : Keeps b0 s) (h_u : Keeps b0 u) :
    Keeps b0 (nextOr u (execWeltIdle s)) := by
  unfold execWeltIdle
  repeat' first | (with_reducible first | assumption | apply nextOr_next_keeps) | intro _

theorem State.mirrorKey_keeps {b0 : State} (h : Word) (b : List Byte) (s : State) (h_s : Keeps b0 s) :
    Keeps b0 (State.mirrorKey h b s) := by
  unfold State.mirrorKey
  repeat' first
    | (with_reducible first
        | assumption | apply State.withWelt_keeps | apply State.withKeys_keeps | apply ite_keeps)
    | intro _ | split

theorem State.mirrorUnload_keeps {b0 : State} (h : Word) (s : State) (h_s : Keeps b0 s) :
    Keeps b0 (State.mirrorUnload h s) := by
  unfold State.mirrorUnload
  repeat' first
    | (with_reducible first
        | assumption | apply State.withWelt_keeps | apply State.withKeys_keeps | apply ite_keeps)
    | intro _ | split

theorem State.updBack_keeps {b0 : State} (r : Nat) (f : PartnerRing → PartnerRing) (s : State) (h_s : Keeps b0 s) :
    Keeps b0 (State.updBack r f s) := by
  unfold State.updBack
  repeat' first | (with_reducible first | assumption | apply State.withWelt_keeps) | intro _

theorem State.ringRecord_keeps {b0 : State} (r : Nat) (f : PartnerRing → PartnerRing) (s : State) (h_s : Keeps b0 s) :
    Keeps b0 (State.ringRecord r f s) := by
  unfold State.ringRecord
  repeat' first
    | (with_reducible first
        | assumption | apply State.updBack_keeps | apply State.withWelt_keeps | apply ite_keeps)
    | intro _ | split

theorem State.applyRecord_keeps {b0 : State} (r : MirrorRec) (s : State) (h_s : Keeps b0 s) :
    Keeps b0 (State.applyRecord r s) := by
  unfold State.applyRecord
  repeat' first
    | (with_reducible first
        | assumption | apply State.ringRecord_keeps | apply State.mirrorUnload_keeps | apply State.mirrorKey_keeps
        | apply State.withWelt_keeps | apply ite_keeps)
    | intro _ | split | (extract_lets x; refine (fun (hx : Keeps b0 x) => ?_) ?_; clear_value x) | extract_lets

theorem execMirror_keeps {b0 : State} (fr : WeltRx) (seq : Word) (r : MirrorRec) (s : State) (u : State) (h_s : Keeps b0 s)
    (h_u : Keeps b0 u) :
    Keeps b0 (nextOr u (execMirror fr seq r s)) := by
  unfold execMirror
  repeat' first
    | (refine fun _ _ (h : Keeps _ _) => ?_)
    | (with_reducible first
        | assumption | apply State.applyRecord_keeps | apply State.weltTake_keeps | apply State.weltAck_keeps
        | apply State.withWelt_keeps | apply nextOr_next_keeps)
    | intro _

theorem State.ackRecord_keeps {b0 : State} (seq : Word) (s : State) (h_s : Keeps b0 s) :
    Keeps b0 (State.ackRecord seq s) := by
  unfold State.ackRecord
  repeat' first
    | (with_reducible first
        | assumption | apply State.resync_keeps | apply State.enterPair_keeps | apply State.withWelt_keeps | apply ite_keeps)
    | intro _ | split | (extract_lets x; refine (fun (hx : Keeps b0 x) => ?_) ?_; clear_value x) | extract_lets

theorem execMirrorResend_keeps {b0 : State} (seq : Word) (s : State) (u : State) (h_s : Keeps b0 s) (h_u : Keeps b0 u) :
    Keeps b0 (nextOr u (execMirrorResend seq s)) := by
  unfold execMirrorResend
  repeat' first
    | (with_reducible first
        | assumption | apply State.putItem_keeps | apply State.withWelt_keeps | apply nextOr_next_keeps | apply ite_keeps)
    | intro _ | split | (extract_lets x; refine (fun (hx : Keeps b0 x) => ?_) ?_; clear_value x) | extract_lets

theorem State.carryRings_keeps {b0 : State} (scan : List (Fin 16384 × List Bool)) (s : State) (h_s : Keeps b0 s) :
    Keeps b0 (State.carryRings scan s) := by
  unfold State.carryRings
  repeat' first
    | (with_reducible first
        | assumption | apply State.withWelt_keeps | apply State.withRings_keeps | apply foldl_keeps | apply ite_keeps)
    | intro _ | split | (extract_lets x; refine (fun (hx : Keeps b0 x) => ?_) ?_; clear_value x) | extract_lets

theorem State.releaseCarried_keeps {b0 : State} (s : State) (h_s : Keeps b0 s) :
    Keeps b0 (State.releaseCarried s) := by
  unfold State.releaseCarried
  repeat' first
    | (with_reducible first
        | assumption | apply State.sendRecord_keeps | apply State.abandonJob_keeps | apply State.withWelt_keeps
        | apply State.withRings_keeps | apply foldl_keeps | apply ite_keeps)
    | intro _ | split | (extract_lets x; refine (fun (hx : Keeps b0 x) => ?_) ?_; clear_value x) | extract_lets

theorem State.takeOver_keeps {b0 : State} (scan : List (Fin 16384 × List Bool)) (us : Word) (s : State) (h_s : Keeps b0 s) :
    Keeps b0 (State.takeOver scan us s) := by
  unfold State.takeOver
  repeat' first
    | (refine fun _ (h : Keeps _ _) => ?_)
    | (refine fun _ _ (h : Keeps _ _) => ?_)
    | (with_reducible first
        | assumption | apply State.carryRings_keeps | apply State.pairChange_keeps | apply State.updBox_keeps
        | apply State.hostWrite_keeps | apply State.draw_keeps | apply State.withWelt_keeps | apply State.withSole_keeps)
    | intro _ | split | (extract_lets x; refine (fun (hx : Keeps b0 x) => ?_) ?_; clear_value x) | extract_lets

theorem execPartnerWordStale_keeps {b0 : State} (scan : List (Fin 16384 × List Bool)) (us : Word) (tie : Bool) (s : State) (u :
    State) (h_s : Keeps b0 s) (h_u : Keeps b0 u) :
    Keeps b0 (nextOr u (execPartnerWordStale scan us tie s)) := by
  unfold execPartnerWordStale
  repeat' first
    | (with_reducible first
        | assumption | apply State.takeOver_keeps | apply nextOr_next_keeps | apply ite_keeps)
    | intro _ | split

theorem State.takeGiven_keeps {b0 : State} (s : State) (h_s : Keeps b0 s) :
    Keeps b0 (State.takeGiven s) := by
  unfold State.takeGiven
  repeat' first
    | (refine fun _ (h : Keeps _ _) => ?_)
    | (with_reducible first
        | assumption | apply State.carryRings_keeps | apply State.pairChange_keeps | apply State.withWelt_keeps
        | apply State.withSole_keeps)
    | intro _

theorem State.departed_keeps {b0 : State} (reason : Nat) (s : State) (h_s : Keeps b0 s) :
    Keeps b0 (State.departed reason s) := by
  unfold State.departed
  repeat' first
    | (with_reducible first
        | assumption | apply State.takeGiven_keeps | apply State.releaseCarried_keeps | apply State.enterPair_keeps
        | apply State.withWelt_keeps | apply ite_keeps)
    | intro _ | split

theorem execDepart_keeps {b0 : State} (fr : WeltRx) (s : State) (u : State) (h_s : Keeps b0 s) (h_u : Keeps b0 u) :
    Keeps b0 (nextOr u (execDepart fr s)) := by
  unfold execDepart
  repeat' first
    | (refine fun _ _ (h : Keeps _ _) => ?_)
    | (with_reducible first
        | assumption | apply State.departed_keeps | apply State.weltTake_keeps | apply State.weltAck_keeps
        | apply State.withWelt_keeps | apply nextOr_next_keeps)
    | intro _

theorem execWeltHeartbeatSend_keeps {b0 : State} (s : State) (u : State) (h_s : Keeps b0 s) (h_u : Keeps b0 u) :
    Keeps b0 (nextOr u (execWeltHeartbeatSend s)) := by
  unfold execWeltHeartbeatSend
  repeat' first
    | (with_reducible first
        | assumption | apply State.confirmed_keeps | apply State.weltSealed_keeps | apply nextOr_next_keeps | apply ite_keeps)
    | intro _ | split | (extract_lets x; refine (fun (hx : Keeps b0 x) => ?_) ?_; clear_value x) | extract_lets

theorem execHeartbeat_keeps {b0 : State} (fr : WeltRx) (s : State) (u : State) (h_s : Keeps b0 s) (h_u : Keeps b0 u) :
    Keeps b0 (nextOr u (execHeartbeat fr s)) := by
  unfold execHeartbeat
  repeat' first
    | (refine fun _ _ (h : Keeps _ _) => ?_)
    | (with_reducible first
        | assumption | apply State.weltAdvance_keeps | apply State.weltTake_keeps | apply State.withWelt_keeps
        | apply nextOr_next_keeps)
    | intro _

theorem State.fence_keeps {b0 : State} (s : State) (h_s : Keeps b0 s) :
    Keeps b0 (State.fence s) := by
  unfold State.fence
  repeat' first
    | (refine fun _ (h : Keeps _ _) => ?_)
    | (refine fun _ _ (h : Keeps _ _) => ?_)
    | (with_reducible first
        | assumption | apply State.weltAlarm_keeps | apply State.pairChange_keeps | apply State.abandonJob_keeps
        | apply State.draw_keeps | apply State.withWelt_keeps | apply State.withRings_keeps | apply foldl_keeps)
    | intro _ | split | (extract_lets x; refine (fun (hx : Keeps b0 x) => ?_) ?_; clear_value x) | extract_lets

theorem execHostWordWrite_keeps {b0 : State} (word : Long) (s : State) (u : State) (h_s : Keeps b0 s) (h_u : Keeps b0 u) :
    Keeps b0 (nextOr u (execHostWordWrite word s)) := by
  unfold execHostWordWrite
  repeat' first
    | (with_reducible first
        | assumption | apply State.fence_keeps | apply State.weltAdvance_keeps | apply State.hostWrite_keeps
        | apply State.withWelt_keeps | apply nextOr_next_keeps | apply ite_keeps)
    | intro _ | split | (extract_lets x; refine (fun (hx : Keeps b0 x) => ?_) ?_; clear_value x) | extract_lets

theorem State.degrade_keeps {b0 : State} (s : State) (h_s : Keeps b0 s) :
    Keeps b0 (State.degrade s) := by
  unfold State.degrade
  repeat' first
    | (with_reducible first
        | assumption | apply State.enterPair_keeps | apply State.withWelt_keeps)
    | intro _

theorem execPartnerWordRead_keeps {b0 : State} (word : Long) (scan : List (Fin 16384 × List Bool)) (s : State) (u : State)
    (h_s : Keeps b0 s) (h_u : Keeps b0 u) :
    Keeps b0 (nextOr u (execPartnerWordRead word scan s)) := by
  unfold execPartnerWordRead
  repeat' first
    | (refine fun _ _ (h : Keeps _ _) => ?_)
    | (with_reducible first
        | assumption | apply State.takeOver_keeps | apply State.weltAdvance_keeps | apply State.draw_keeps
        | apply State.withWelt_keeps | apply nextOr_next_keeps | apply ite_keeps)
    | intro _ | split | (extract_lets x; refine (fun (hx : Keeps b0 x) => ?_) ?_; clear_value x) | extract_lets

theorem State.heartbeatLost_keeps {b0 : State} (scan : List (Fin 16384 × List Bool)) (s : State) (h_s : Keeps b0 s) :
    Keeps b0 (State.heartbeatLost scan s) := by
  unfold State.heartbeatLost
  repeat' first
    | (refine fun _ _ (h : Keeps _ _) => ?_)
    | (with_reducible first
        | assumption | apply State.degrade_keeps | apply State.takeOver_keeps | apply State.resync_keeps
        | apply State.draw_keeps | apply ite_keeps)
    | intro _ | split | (extract_lets x; refine (fun (hx : Keeps b0 x) => ?_) ?_; clear_value x) | extract_lets

end Sys2Proof.Machine
end

