-- ==== Sys2Proof/Laws/KeepsCmds.lean ====
section
/-! SUPPORT. `Keeps` of the commands of the firmware: what their shared operations and each of them keep. -/

set_option linter.unusedVariables false
set_option linter.unusedTactic false
set_option linter.unreachableTactic false

namespace Sys2Proof.Machine

theorem State.notice_keeps {b0 : State} (f : Nat) (n : Long) (s : State) (h_s : Keeps b0 s) :
    Keeps b0 (State.notice f n s) := by
  unfold State.notice
  repeat' first
    | (with_reducible first
        | assumption | apply State.withFw_keeps | apply ite_keeps)
    | intro _ | split

theorem State.respondAs_keeps {b0 : State} (h : CmdHdr) (opc st : Half) (detail session : Word) (body : List Byte) (s : State)
    (h_s : Keeps b0 s) :
    Keeps b0 (State.respondAs h opc st detail session body s) := by
  unfold State.respondAs
  repeat' first
    | (with_reducible first
        | assumption | apply State.notice_keeps | apply State.hostWrite_keeps | apply ite_keeps)
    | intro _ | split | (extract_lets x; refine (fun (hx : Keeps b0 x) => ?_) ?_; clear_value x) | extract_lets

theorem Call.respond_keeps {b0 : State} (c : Call) (st : Half) (detail : Word) (body : List Byte) (s : State) (h_s : Keeps b0 s) :
    Keeps b0 (Call.respond c st detail body s) := by
  unfold Call.respond
  repeat' first | (with_reducible first | assumption | apply State.respondAs_keeps) | intro _

theorem Call.ok_keeps {b0 : State} (c : Call) (body : List Byte) (s : State) (h_s : Keeps b0 s) :
    Keeps b0 (Call.ok c body s) := by
  unfold Call.ok
  repeat' first | (with_reducible first | assumption | apply Call.respond_keeps) | intro _

theorem Call.fail_keeps {b0 : State} (c : Call) (e : Half × Word) (s : State) (h_s : Keeps b0 s) :
    Keeps b0 (Call.fail c e s) := by
  unfold Call.fail
  repeat' first | (with_reducible first | assumption | apply Call.respond_keeps) | intro _

theorem State.refusal_keeps {b0 : State} (h : CmdHdr) (code : Nat) (s : State) (h_s : Keeps b0 s) :
    Keeps b0 (State.refusal h code s) := by
  unfold State.refusal
  repeat' first | (with_reducible first | assumption | apply State.notice_keeps) | intro _

theorem Call.wait_keeps {b0 : State} (c : Call) (why : WaitWhy) (data : List Byte) (s : State) (h_s : Keeps b0 s) :
    Keeps b0 (Call.wait c why data s) := by
  unfold Call.wait
  repeat' first | (with_reducible first | assumption | apply State.withFw_keeps) | intro _

theorem State.earlyRead_keeps {b0 : State} (early : Bool) (e : EarlyEnd) (s : State) (h_s : Keeps b0 s) :
    Keeps b0 (State.earlyRead early e s) := by
  unfold State.earlyRead
  repeat' first
    | (with_reducible first
        | assumption | apply State.withPcie_keeps | apply ite_keeps)
    | intro _ | split

theorem Call.start_keeps {b0 : State} (c : Call) (run : Call → State → State) (s : State) (h_s : Keeps b0 s)
    (h_run : ∀ x0 t', Keeps b0 t' → Keeps b0 (run x0 t')) :
    Keeps b0 (Call.start c run s) := by
  unfold Call.start
  repeat' first
    | (with_reducible first
        | assumption | apply h_run | apply State.earlyRead_keeps | apply Call.fail_keeps | apply State.withFw_keeps
        | apply ite_keeps)
    | intro _ | split

theorem Call.withTicket_keeps {b0 : State} (c : Call) (qid : Word) (d : BitVec 384) (k : State → State) (s : State)
    (h_s : Keeps b0 s) (h_k : ∀  t', Keeps b0 t' → Keeps b0 (k  t')) :
    Keeps b0 (Call.withTicket c qid d k s) := by
  unfold Call.withTicket
  repeat' first
    | (with_reducible first
        | assumption | apply h_k | apply Call.fail_keeps | apply State.withFw_keeps | apply ite_keeps)
    | intro _ | split

theorem Call.run_keeps {b0 : State} (c : Call) (mode : Mode) (run : Call → State → State) (s : State) (h_s : Keeps b0 s)
    (h_run : ∀ x0 t', Keeps b0 t' → Keeps b0 (run x0 t')) :
    Keeps b0 (Call.run c mode run s) := by
  unfold Call.run
  repeat' first
    | (refine fun _ _ (h : Keeps _ _) => ?_)
    | (with_reducible first
        | assumption | apply h_run | apply Call.start_keeps | apply State.earlyRead_keeps | apply Call.wait_keeps
        | apply State.refusal_keeps | apply Call.fail_keeps | apply ite_keeps)
    | intro _ | split

theorem Call.withGrant_keeps {b0 : State} (c : Call) (inst : Nat) (fresh : Bool) (k : State → State) (s : State)
    (h_s : Keeps b0 s) (h_k : ∀  t', Keeps b0 t' → Keeps b0 (k  t')) :
    Keeps b0 (Call.withGrant c inst fresh k s) := by
  unfold Call.withGrant
  repeat' first
    | (with_reducible first
        | assumption | apply h_k | apply Call.wait_keeps | apply Call.fail_keeps | apply State.withRng_keeps | apply ite_keeps)
    | exact fun (_ : Rng) h => h | exact fun (_ : Rng) h => Rng.tests_ok _ _ h | exact fun (_ : Rng) h => Rng.takeBlock_ok h
    | (intro (r : Rng) h; (repeat' split) <;> first | exact h | exact Rng.takeBlock_ok h | simp_all [Rng.Ok]) | intro _ | split
    | (extract_lets x; refine (fun (hx : Keeps b0 x) => ?_) ?_; clear_value x) | extract_lets

theorem Call.withRandom_keeps {b0 : State} (c : Call) (inst : Nat) (fresh : Bool) (n : Nat) (k : List Byte → State → State) (s :
    State) (h_s : Keeps b0 s) (h_k : ∀ x0 t', Keeps b0 t' → Keeps b0 (k x0 t')) :
    Keeps b0 (Call.withRandom c inst fresh n k s) := by
  unfold Call.withRandom
  repeat' first
    | (refine fun _ (h : Keeps _ _) => ?_)
    | (refine fun _ _ (h : Keeps _ _) => ?_)
    | (with_reducible first
        | assumption | apply h_k | apply Call.withGrant_keeps | apply State.instDraw_keeps)
    | intro _

theorem Call.waitCluster_keeps {b0 : State} (c : Call) (s : State) (h_s : Keeps b0 s) :
    Keeps b0 (Call.waitCluster c s) := by
  unfold Call.waitCluster
  repeat' first
    | (with_reducible first
        | assumption | apply Call.wait_keeps | apply Call.fail_keeps | apply ite_keeps)
    | intro _ | split

theorem Call.withCluster_keeps {b0 : State} (c : Call) (k : Nat → State → State) (s : State) (h_s : Keeps b0 s)
    (h_k : ∀ x0 t', Keeps b0 t' → Keeps b0 (k x0 t')) :
    Keeps b0 (Call.withCluster c k s) := by
  unfold Call.withCluster
  repeat' first
    | (with_reducible first
        | assumption | apply h_k | apply Call.waitCluster_keeps | apply Call.fail_keeps | apply State.dealAll_keeps
        | apply ite_keeps)
    | intro _ | split

theorem Call.okSized_keeps {b0 : State} (c : Call) (body : List Byte) (s : State) (h_s : Keeps b0 s) :
    Keeps b0 (Call.okSized c body s) := by
  unfold Call.okSized
  repeat' first
    | (with_reducible first
        | assumption | apply Call.fail_keeps | apply Call.ok_keeps)
    | intro _ | split

theorem Call.refuse_keeps {b0 : State} (c : Call) (e : KeyErr) (s : State) (h_s : Keeps b0 s) :
    Keeps b0 (Call.refuse c e s) := by
  unfold Call.refuse
  repeat' first | (with_reducible first | assumption | apply Call.fail_keeps) | intro _

theorem Call.cardWait_keeps {b0 : State} (c : Call) (kind index : Nat) (s : State) (h_s : Keeps b0 s) :
    Keeps b0 (Call.cardWait c kind index s) := by
  unfold Call.cardWait
  repeat' first
    | (with_reducible first
        | assumption | apply Call.wait_keeps | apply Call.fail_keeps | apply ite_keeps)
    | intro _ | split

theorem State.sdGone_keeps {b0 : State} (p : Nat) (s : State) (h_s : Keeps b0 s) :
    Keeps b0 (State.sdGone p s) := by
  unfold State.sdGone
  repeat' first | (with_reducible first | assumption | apply State.updSd_keeps) | intro _

theorem Call.withSd_keeps {b0 : State} (c : Call) (p : Nat) (k : State → State) (s : State) (h_s : Keeps b0 s)
    (h_k : ∀  t', Keeps b0 t' → Keeps b0 (k  t')) :
    Keeps b0 (Call.withSd c p k s) := by
  unfold Call.withSd
  repeat' first
    | (with_reducible first
        | assumption | apply h_k | apply Call.cardWait_keeps | apply Call.fail_keeps | apply ite_keeps)
    | intro _ | split

theorem Call.withIcc_keeps {b0 : State} (c : Call) (n : Nat) (k : State → State) (s : State) (h_s : Keeps b0 s)
    (h_k : ∀  t', Keeps b0 t' → Keeps b0 (k  t')) :
    Keeps b0 (Call.withIcc c n k s) := by
  unfold Call.withIcc
  repeat' first
    | (with_reducible first
        | assumption | apply h_k | apply Call.cardWait_keeps | apply Call.fail_keeps | apply execIccActivate_keeps
        | apply nextOr_next_keeps | apply ite_keeps)
    | intro _ | split | (extract_lets x; refine (fun (hx : Keeps b0 x) => ?_) ?_; clear_value x) | extract_lets

theorem Call.sdMove_keeps {b0 : State} (c : Call) (p : Nat) (write : Bool) (lba : Nat) (bs : List Byte) (k : State → State) (s :
    State) (h_s : Keeps b0 s) (h_k : ∀  t', Keeps b0 t' → Keeps b0 (k  t')) :
    Keeps b0 (Call.sdMove c p write lba bs k s) := by
  unfold Call.sdMove
  repeat' first
    | (refine fun _ _ (h : Keeps _ _) => ?_)
    | (with_reducible first
        | assumption | apply h_k | apply Call.start_keeps | apply Call.wait_keeps | apply Call.ok_keeps
        | apply State.sdFresh_keeps | apply State.updSd_keeps | apply State.dmaFault_keeps | apply State.sramWrite_keeps)
    | intro _ | split | (extract_lets x; refine (fun (hx : Keeps b0 x) => ?_) ?_; clear_value x) | extract_lets

theorem Call.iccMove_keeps {b0 : State} (c : Call) (n : Nat) (apdu response : List Byte) (k : State → State) (s : State)
    (h_s : Keeps b0 s) (h_k : ∀  t', Keeps b0 t' → Keeps b0 (k  t')) :
    Keeps b0 (Call.iccMove c n apdu response k s) := by
  unfold Call.iccMove
  repeat' first
    | (with_reducible first
        | assumption | apply h_k | apply Call.wait_keeps | apply Call.ok_keeps | apply State.updIcc_keeps
        | apply State.dmaFault_keeps | apply State.sramWrite_keeps)
    | intro _ | split | (extract_lets x; refine (fun (hx : Keeps b0 x) => ?_) ?_; clear_value x) | extract_lets

theorem State.iccGone_keeps {b0 : State} (n : Nat) (s : State) (h_s : Keeps b0 s) :
    Keeps b0 (State.iccGone n s) := by
  unfold State.iccGone
  repeat' first | (with_reducible first | assumption | apply State.updIcc_keeps) | intro _

theorem Call.okMirrored_keeps {b0 : State} (c : Call) (r : MirrorRec) (body : List Byte) (s : State) (h_s : Keeps b0 s) :
    Keeps b0 (Call.okMirrored c r body s) := by
  unfold Call.okMirrored
  repeat' first
    | (with_reducible first
        | assumption | apply Call.wait_keeps | apply Call.ok_keeps | apply State.sendRecord_keeps | apply ite_keeps)
    | intro _ | split

theorem Call.keyMade_keeps {b0 : State} (c : Call) (n : Nat) (body : List Byte) (s : State) (h_s : Keeps b0 s) :
    Keeps b0 (Call.keyMade c n body s) := by
  unfold Call.keyMade
  repeat' first
    | (with_reducible first
        | assumption | apply Call.okMirrored_keeps | apply Call.ok_keeps)
    | intro _ | split

theorem Call.withEngine_keeps {b0 : State} (c : Call) (k : Nat → State → State) (s : State) (h_s : Keeps b0 s)
    (h_k : ∀ x0 t', Keeps b0 t' → Keeps b0 (k x0 t')) :
    Keeps b0 (Call.withEngine c k s) := by
  unfold Call.withEngine
  repeat' first
    | (with_reducible first
        | assumption | apply h_k | apply Call.wait_keeps | apply Call.fail_keeps | apply ite_keeps)
    | intro _ | split

theorem Call.engineGrant_keeps {b0 : State} (c : Call) (op : Byte) (k : Nat → State → State) (s : State) (h_s : Keeps b0 s)
    (h_k : ∀ x0 t', Keeps b0 t' → Keeps b0 (k x0 t')) :
    Keeps b0 (Call.engineGrant c op k s) := by
  unfold Call.engineGrant
  repeat' first
    | (refine fun _ (h : Keeps _ _) => ?_)
    | (refine fun _ _ (h : Keeps _ _) => ?_)
    | (with_reducible first
        | assumption | apply h_k | apply Call.withEngine_keeps | apply Call.withGrant_keeps | apply State.withRng_keeps
        | apply ite_keeps)
    | exact fun (_ : Rng) h => h | exact fun (_ : Rng) h => Rng.tests_ok _ _ h | exact fun (_ : Rng) h => Rng.takeBlock_ok h
    | (intro (r : Rng) h; (repeat' split) <;> first | exact h | exact Rng.takeBlock_ok h | simp_all [Rng.Ok]) | intro _ | split

theorem Call.engineOp_keeps {b0 : State} (c : Call) (q : FwOp) (k : Nat → State → State) (s : State) (h_s : Keeps b0 s)
    (h_k : ∀ x0 t', Keeps b0 t' → Keeps b0 (k x0 t')) :
    Keeps b0 (Call.engineOp c q k s) := by
  unfold Call.engineOp
  repeat' first
    | (refine fun _ _ (h : Keeps _ _) => ?_)
    | (with_reducible first
        | assumption | apply h_k | apply Call.engineGrant_keeps | apply State.fwEngine_keeps)
    | intro _

theorem Call.engineFail_keeps {b0 : State} (c : Call) (n : Nat) (s : State) (h_s : Keeps b0 s) :
    Keeps b0 (Call.engineFail c n s) := by
  unfold Call.engineFail
  repeat' first | (with_reducible first | assumption | apply Call.fail_keeps) | intro _

theorem Call.engineKey_keeps {b0 : State} (c : Call) (tmplOff : Nat) (pre : List Byte) (n : Nat) (s : State) (h_s : Keeps b0 s) :
    Keeps b0 (Call.engineKey c tmplOff pre n s) := by
  unfold Call.engineKey
  repeat' first
    | (with_reducible first
        | assumption | apply Call.engineFail_keeps | apply Call.keyMade_keeps | apply Call.fail_keeps | apply Call.ok_keeps
        | apply ite_keeps)
    | intro _ | split | (extract_lets x; refine (fun (hx : Keeps b0 x) => ?_) ?_; clear_value x) | extract_lets

theorem Call.verified_keeps {b0 : State} (c : Call) (mldsa : Bool) (pub msg sig : List Byte) (k : Bool → State → State) (s :
    State) (h_s : Keeps b0 s) (h_k : ∀ x0 t', Keeps b0 t' → Keeps b0 (k x0 t')) :
    Keeps b0 (Call.verified c mldsa pub msg sig k s) := by
  unfold Call.verified
  repeat' first
    | (refine fun _ _ (h : Keeps _ _) => ?_)
    | (with_reducible first
        | assumption | apply h_k | apply Call.engineOp_keeps | apply Call.ok_keeps)
    | intro _

theorem Call.attested_keeps {b0 : State} (c : Call) (mldsa : Bool) (data : List Byte) (k : List Byte → State → State) (s : State)
    (h_s : Keeps b0 s) (h_k : ∀ x0 t', Keeps b0 t' → Keeps b0 (k x0 t')) :
    Keeps b0 (Call.attested c mldsa data k s) := by
  unfold Call.attested
  repeat' first
    | (refine fun _ _ (h : Keeps _ _) => ?_)
    | (with_reducible first
        | assumption | apply h_k | apply Call.engineFail_keeps | apply Call.engineOp_keeps | apply Call.ok_keeps
        | apply ite_keeps)
    | intro _ | split

theorem Call.createKey_keeps {b0 : State} (c : Call) (tmplOff : Nat) (t : Attr) (material : List Byte) (pre : List Byte) (s :
    State) (h_s : Keeps b0 s) :
    Keeps b0 (Call.createKey c tmplOff t material pre s) := by
  unfold Call.createKey
  repeat' first
    | (with_reducible first
        | assumption | apply Call.keyMade_keeps | apply Call.fail_keeps | apply Call.ok_keeps | apply State.withKeys_keeps)
    | intro _ | split

theorem bodySessionOpen_keeps {b0 : State} (h : CmdHdr) (role : Byte) (tenant : Half) (seq : Word) (sig : List Byte) (c : Call)
    (t : State) (h_t : Keeps b0 t) :
    Keeps b0 (bodySessionOpen h role tenant seq sig c t) := by
  unfold bodySessionOpen
  repeat' first
    | (refine fun _ _ (h : Keeps _ _) => ?_)
    | (with_reducible first
        | assumption | apply Call.verified_keeps | apply Call.withRandom_keeps | apply Call.fail_keeps | apply Call.ok_keeps
        | apply State.respondAs_keeps | apply State.withFw_keeps | apply ite_keeps)
    | intro _ | split | (extract_lets x; refine (fun (hx : Keeps b0 x) => ?_) ?_; clear_value x) | extract_lets

theorem cmdSessionOpen_keeps {b0 : State} (mode : Mode) (h : CmdHdr) (role rsv : Byte) (tenant : Half) (seq sigLen : Word) (sig :
    List Byte) (s : State) (h_s : Keeps b0 s) :
    Keeps b0 (cmdSessionOpen mode h role rsv tenant seq sigLen sig s) := by
  unfold cmdSessionOpen
  repeat' first
    | (refine fun _ _ (h : Keeps _ _) => ?_)
    | (with_reducible first
        | assumption | apply bodySessionOpen_keeps | apply Call.run_keeps)
    | intro _

theorem execSessionOpen_keeps {b0 : State} (h : CmdHdr) (role rsv : Byte) (tenant : Half) (seq sigLen : Word) (sig : List Byte)
    (s : State) (u : State) (h_s : Keeps b0 s) (h_u : Keeps b0 u) :
    Keeps b0 (nextOr u (execSessionOpen h role rsv tenant seq sigLen sig s)) := by
  unfold execSessionOpen
  repeat' first
    | (with_reducible first
        | assumption | apply cmdSessionOpen_keeps | apply nextOr_next_keeps)
    | intro _

theorem bodySessionClose_keeps {b0 : State} (h : CmdHdr) (c : Call) (t : State) (h_t : Keeps b0 t) :
    Keeps b0 (bodySessionClose h c t) := by
  unfold bodySessionClose
  repeat' first
    | (with_reducible first
        | assumption | apply Call.ok_keeps | apply State.withFw_keeps)
    | intro _

theorem cmdSessionClose_keeps {b0 : State} (mode : Mode) (h : CmdHdr) (s : State) (h_s : Keeps b0 s) :
    Keeps b0 (cmdSessionClose mode h s) := by
  unfold cmdSessionClose
  repeat' first
    | (refine fun _ _ (h : Keeps _ _) => ?_)
    | (with_reducible first
        | assumption | apply bodySessionClose_keeps | apply Call.run_keeps)
    | intro _

theorem execSessionClose_keeps {b0 : State} (h : CmdHdr) (s : State) (u : State) (h_s : Keeps b0 s) (h_u : Keeps b0 u) :
    Keeps b0 (nextOr u (execSessionClose h s)) := by
  unfold execSessionClose
  repeat' first
    | (with_reducible first
        | assumption | apply cmdSessionClose_keeps | apply nextOr_next_keeps)
    | intro _

theorem bodyQuorumBegin_keeps {b0 : State} (h : CmdHdr) (purpose : Half) (digest : BitVec 384) (c : Call) (t : State)
    (h_t : Keeps b0 t) :
    Keeps b0 (bodyQuorumBegin h purpose digest c t) := by
  unfold bodyQuorumBegin
  repeat' first
    | (refine fun _ _ (h : Keeps _ _) => ?_)
    | (with_reducible first
        | assumption | apply Call.fail_keeps | apply Call.ok_keeps | apply State.draw_keeps | apply State.withFw_keeps
        | apply ite_keeps)
    | intro _ | split | (extract_lets x; refine (fun (hx : Keeps b0 x) => ?_) ?_; clear_value x) | extract_lets

theorem cmdQuorumBegin_keeps {b0 : State} (mode : Mode) (h : CmdHdr) (purpose window : Half) (rsv : Word) (digest : BitVec 384)
    (s : State) (h_s : Keeps b0 s) :
    Keeps b0 (cmdQuorumBegin mode h purpose window rsv digest s) := by
  unfold cmdQuorumBegin
  repeat' first
    | (refine fun _ _ (h : Keeps _ _) => ?_)
    | (with_reducible first
        | assumption | apply bodyQuorumBegin_keeps | apply Call.run_keeps)
    | intro _

theorem execQuorumBegin_keeps {b0 : State} (h : CmdHdr) (purpose window : Half) (rsv : Word) (digest : BitVec 384) (s : State) (u
    : State) (h_s : Keeps b0 s) (h_u : Keeps b0 u) :
    Keeps b0 (nextOr u (execQuorumBegin h purpose window rsv digest s)) := by
  unfold execQuorumBegin
  repeat' first
    | (with_reducible first
        | assumption | apply cmdQuorumBegin_keeps | apply nextOr_next_keeps)
    | intro _

theorem Call.withSource_keeps {b0 : State} (c : Call) (source index : Nat) (k : State → State) (s : State) (h_s : Keeps b0 s)
    (h_k : ∀  t', Keeps b0 t' → Keeps b0 (k  t')) :
    Keeps b0 (Call.withSource c source index k s) := by
  unfold Call.withSource
  repeat' first
    | (refine fun _ (h : Keeps _ _) => ?_)
    | (with_reducible first
        | assumption | apply h_k | apply Call.withIcc_keeps | apply Call.withSd_keeps | apply Call.fail_keeps | apply ite_keeps)
    | intro _ | split

theorem State.sourceGone_keeps {b0 : State} (source index : Nat) (s : State) (h_s : Keeps b0 s) :
    Keeps b0 (State.sourceGone source index s) := by
  unfold State.sourceGone
  repeat' first
    | (with_reducible first
        | assumption | apply State.iccGone_keeps | apply State.sdGone_keeps | apply ite_keeps)
    | intro _ | split

theorem bodyQuorumPresent_keeps {b0 : State} (qid : Word) (source index : Byte) (file : Word) (cred : Credential) (c : Call) (t :
    State) (h_t : Keeps b0 t) :
    Keeps b0 (bodyQuorumPresent qid source index file cred c t) := by
  unfold bodyQuorumPresent
  repeat' first
    | (refine fun _ (h : Keeps _ _) => ?_)
    | (refine fun _ _ (h : Keeps _ _) => ?_)
    | (with_reducible first
        | assumption | apply State.sourceGone_keeps | apply Call.withSource_keeps | apply Call.engineGrant_keeps
        | apply Call.sdMove_keeps | apply Call.fail_keeps | apply Call.ok_keeps | apply Call.respond_keeps
        | apply State.fwEngine_keeps | apply State.withKeys_keeps | apply State.withFw_keeps | apply ite_keeps)
    | intro _ | split | (extract_lets x; refine (fun (hx : Keeps b0 x) => ?_) ?_; clear_value x) | extract_lets

theorem cmdQuorumPresent_keeps {b0 : State} (mode : Mode) (h : CmdHdr) (qid : Word) (source index : Byte) (rsv : Half) (file :
    Word) (cred : Credential) (s : State) (h_s : Keeps b0 s) :
    Keeps b0 (cmdQuorumPresent mode h qid source index rsv file cred s) := by
  unfold cmdQuorumPresent
  repeat' first
    | (refine fun _ _ (h : Keeps _ _) => ?_)
    | (with_reducible first
        | assumption | apply bodyQuorumPresent_keeps | apply Call.run_keeps)
    | intro _

theorem execQuorumPresent_keeps {b0 : State} (h : CmdHdr) (qid : Word) (source index : Byte) (rsv : Half) (file : Word) (cred :
    Credential) (s : State) (u : State) (h_s : Keeps b0 s) (h_u : Keeps b0 u) :
    Keeps b0 (nextOr u (execQuorumPresent h qid source index rsv file cred s)) := by
  unfold execQuorumPresent
  repeat' first
    | (with_reducible first
        | assumption | apply cmdQuorumPresent_keeps | apply nextOr_next_keeps)
    | intro _

theorem bodyQuorumEnd_keeps {b0 : State} (qid : Word) (c : Call) (t : State) (h_t : Keeps b0 t) :
    Keeps b0 (bodyQuorumEnd qid c t) := by
  unfold bodyQuorumEnd
  repeat' first
    | (with_reducible first
        | assumption | apply Call.fail_keeps | apply Call.ok_keeps | apply State.withFw_keeps | apply ite_keeps)
    | intro _ | split

theorem cmdQuorumEnd_keeps {b0 : State} (mode : Mode) (h : CmdHdr) (qid rsv : Word) (s : State) (h_s : Keeps b0 s) :
    Keeps b0 (cmdQuorumEnd mode h qid rsv s) := by
  unfold cmdQuorumEnd
  repeat' first
    | (refine fun _ _ (h : Keeps _ _) => ?_)
    | (with_reducible first
        | assumption | apply bodyQuorumEnd_keeps | apply Call.run_keeps)
    | intro _

theorem execQuorumEnd_keeps {b0 : State} (h : CmdHdr) (qid rsv : Word) (s : State) (u : State) (h_s : Keeps b0 s)
    (h_u : Keeps b0 u) :
    Keeps b0 (nextOr u (execQuorumEnd h qid rsv s)) := by
  unfold execQuorumEnd
  repeat' first
    | (with_reducible first
        | assumption | apply cmdQuorumEnd_keeps | apply nextOr_next_keeps)
    | intro _

theorem execQuorumWindowEnd_keeps {b0 : State} (s : State) (u : State) (h_s : Keeps b0 s) (h_u : Keeps b0 u) :
    Keeps b0 (nextOr u (execQuorumWindowEnd s)) := by
  unfold execQuorumWindowEnd
  repeat' first
    | (with_reducible first
        | assumption | apply State.withFw_keeps | apply nextOr_next_keeps)
    | intro _

theorem execTicketExpiry_keeps {b0 : State} (s : State) (u : State) (h_s : Keeps b0 s) (h_u : Keeps b0 u) :
    Keeps b0 (nextOr u (execTicketExpiry s)) := by
  unfold execTicketExpiry
  repeat' first
    | (with_reducible first
        | assumption | apply State.withFw_keeps | apply nextOr_next_keeps)
    | intro _

theorem bodyKeyGenerate_keeps {b0 : State} (t : Attr) (c : Call) (u : State) (h_u : Keeps b0 u) :
    Keeps b0 (bodyKeyGenerate t c u) := by
  unfold bodyKeyGenerate
  repeat' first
    | (refine fun _ _ (h : Keeps _ _) => ?_)
    | (with_reducible first
        | assumption | apply Call.createKey_keeps | apply Call.engineKey_keeps | apply Call.engineOp_keeps
        | apply Call.withRandom_keeps | apply Call.fail_keeps | apply ite_keeps)
    | intro _ | split

theorem cmdKeyGenerate_keeps {b0 : State} (mode : Mode) (h : CmdHdr) (t : Attr) (s : State) (h_s : Keeps b0 s) :
    Keeps b0 (cmdKeyGenerate mode h t s) := by
  unfold cmdKeyGenerate
  repeat' first
    | (refine fun _ _ (h : Keeps _ _) => ?_)
    | (with_reducible first
        | assumption | apply bodyKeyGenerate_keeps | apply Call.run_keeps)
    | intro _

theorem execKeyGenerate_keeps {b0 : State} (h : CmdHdr) (t : Attr) (s : State) (u : State) (h_s : Keeps b0 s) (h_u : Keeps b0 u) :
    Keeps b0 (nextOr u (execKeyGenerate h t s)) := by
  unfold execKeyGenerate
  repeat' first
    | (with_reducible first
        | assumption | apply cmdKeyGenerate_keeps | apply nextOr_next_keeps)
    | intro _

theorem Call.importChecked_keeps {b0 : State} (c : Call) (t : Attr) (m : List Byte) (s : State) (h_s : Keeps b0 s) :
    Keeps b0 (Call.importChecked c t m s) := by
  unfold Call.importChecked
  repeat' first
    | (refine fun _ _ (h : Keeps _ _) => ?_)
    | (with_reducible first
        | assumption | apply Call.engineFail_keeps | apply Call.engineGrant_keeps | apply Call.keyMade_keeps
        | apply Call.fail_keeps | apply Call.ok_keeps | apply State.fwEngine_keeps | apply State.withKeys_keeps
        | apply ite_keeps)
    | intro _ | split | (extract_lets x; refine (fun (hx : Keeps b0 x) => ?_) ?_; clear_value x) | extract_lets

theorem bodyKeyImport_keeps {b0 : State} (wrap : Word) (format : Byte) (t : Attr) (wrappedLen : Word) (wrapped : List Byte) (c :
    Call) (u : State) (h_u : Keeps b0 u) :
    Keeps b0 (bodyKeyImport wrap format t wrappedLen wrapped c u) := by
  unfold bodyKeyImport
  repeat' first
    | (with_reducible first
        | assumption | apply Call.importChecked_keeps | apply Call.createKey_keeps | apply Call.refuse_keeps
        | apply Call.fail_keeps | apply Call.ok_keeps | apply ite_keeps)
    | intro _ | split | (extract_lets x; refine (fun (hx : Keeps b0 x) => ?_) ?_; clear_value x) | extract_lets

theorem cmdKeyImport_keeps {b0 : State} (mode : Mode) (h : CmdHdr) (wrap : Word) (format : Byte) (rsv : BitVec 24) (t : Attr)
    (wrappedLen rsv2 : Word) (wrapped : List Byte) (s : State) (h_s : Keeps b0 s) :
    Keeps b0 (cmdKeyImport mode h wrap format rsv t wrappedLen rsv2 wrapped s) := by
  unfold cmdKeyImport
  repeat' first
    | (refine fun _ _ (h : Keeps _ _) => ?_)
    | (with_reducible first
        | assumption | apply bodyKeyImport_keeps | apply Call.run_keeps)
    | intro _

theorem execKeyImport_keeps {b0 : State} (h : CmdHdr) (wrap : Word) (format : Byte) (rsv : BitVec 24) (t : Attr) (wrappedLen rsv2
    : Word) (wrapped : List Byte) (s : State) (u : State) (h_s : Keeps b0 s) (h_u : Keeps b0 u) :
    Keeps b0 (nextOr u (execKeyImport h wrap format rsv t wrappedLen rsv2 wrapped s)) := by
  unfold execKeyImport
  repeat' first
    | (with_reducible first
        | assumption | apply cmdKeyImport_keeps | apply nextOr_next_keeps)
    | intro _

theorem Call.exportDk_keeps {b0 : State} (c : Call) (s : State) (h_s : Keeps b0 s) :
    Keeps b0 (Call.exportDk c s) := by
  unfold Call.exportDk
  repeat' first
    | (with_reducible first
        | assumption | apply Call.okSized_keeps | apply Call.fail_keeps)
    | intro _ | split | (extract_lets x; refine (fun (hx : Keeps b0 x) => ?_) ?_; clear_value x) | extract_lets

theorem bodyKeyExport_keeps {b0 : State} (handle wrap : Word) (format : Byte) (c : Call) (u : State) (h_u : Keeps b0 u) :
    Keeps b0 (bodyKeyExport handle wrap format c u) := by
  unfold bodyKeyExport
  repeat' first
    | (with_reducible first
        | assumption | apply Call.exportDk_keeps | apply Call.refuse_keeps | apply Call.okSized_keeps | apply Call.fail_keeps
        | apply Call.ok_keeps | apply ite_keeps)
    | intro _ | split | (extract_lets x; refine (fun (hx : Keeps b0 x) => ?_) ?_; clear_value x) | extract_lets

theorem cmdKeyExport_keeps {b0 : State} (mode : Mode) (h : CmdHdr) (handle wrap : Word) (format : Byte) (rsv : BitVec 56) (s :
    State) (h_s : Keeps b0 s) :
    Keeps b0 (cmdKeyExport mode h handle wrap format rsv s) := by
  unfold cmdKeyExport
  repeat' first
    | (refine fun _ _ (h : Keeps _ _) => ?_)
    | (with_reducible first
        | assumption | apply bodyKeyExport_keeps | apply Call.run_keeps)
    | intro _

theorem execKeyExport_keeps {b0 : State} (h : CmdHdr) (handle wrap : Word) (format : Byte) (rsv : BitVec 56) (s : State) (u :
    State) (h_s : Keeps b0 s) (h_u : Keeps b0 u) :
    Keeps b0 (nextOr u (execKeyExport h handle wrap format rsv s)) := by
  unfold execKeyExport
  repeat' first
    | (with_reducible first
        | assumption | apply cmdKeyExport_keeps | apply nextOr_next_keeps)
    | intro _

theorem Call.unload_keeps {b0 : State} (c : Call) (n : Nat) (body : List Byte) (s : State) (h_s : Keeps b0 s) :
    Keeps b0 (Call.unload c n body s) := by
  unfold Call.unload
  repeat' first
    | (refine fun _ _ (h : Keeps _ _) => ?_)
    | (with_reducible first
        | assumption | apply Call.run_keeps | apply Call.wait_keeps | apply State.mirror_keeps | apply State.withKeys_keeps
        | apply ite_keeps)
    | intro _ | split | (extract_lets x; refine (fun (hx : Keeps b0 x) => ?_) ?_; clear_value x) | extract_lets

theorem bodyKeyUnload_keeps {b0 : State} (handle : Word) (c : Call) (u : State) (h_u : Keeps b0 u) :
    Keeps b0 (bodyKeyUnload handle c u) := by
  unfold bodyKeyUnload
  repeat' first
    | (with_reducible first
        | assumption | apply Call.unload_keeps | apply Call.refuse_keeps | apply Call.ok_keeps)
    | intro _ | split

theorem cmdKeyUnload_keeps {b0 : State} (mode : Mode) (h : CmdHdr) (handle rsv : Word) (s : State) (h_s : Keeps b0 s) :
    Keeps b0 (cmdKeyUnload mode h handle rsv s) := by
  unfold cmdKeyUnload
  repeat' first
    | (refine fun _ _ (h : Keeps _ _) => ?_)
    | (with_reducible first
        | assumption | apply bodyKeyUnload_keeps | apply Call.run_keeps)
    | intro _

theorem execKeyUnload_keeps {b0 : State} (h : CmdHdr) (handle rsv : Word) (s : State) (u : State) (h_s : Keeps b0 s)
    (h_u : Keeps b0 u) :
    Keeps b0 (nextOr u (execKeyUnload h handle rsv s)) := by
  unfold execKeyUnload
  repeat' first
    | (with_reducible first
        | assumption | apply cmdKeyUnload_keeps | apply nextOr_next_keeps)
    | intro _

theorem State.derived_keeps {b0 : State} (n : Nat) (func : Byte) (r : KeyRun) (ctx : List Byte) (t : Attr) (s : State)
    (h_s : Keeps b0 s) :
    Keeps b0 (State.derived n func r ctx t s).2 := by
  unfold State.derived
  repeat' first
    | (with_reducible first
        | assumption | apply State.fwKdf_keeps | apply State.fwDukpt_keeps | apply ite_keeps | apply ite_pair_keeps)
    | intro _ | split | (refine keeps_of_pair (by assumption) ?_)
    | (extract_lets x; refine (fun (hx : Keeps b0 x) => ?_) ?_; clear_value x) | extract_lets

theorem Call.deliverKey_keeps {b0 : State} (c : Call) (tmplOff : Nat) (t : Attr) (material : List Byte) (s : State)
    (h_s : Keeps b0 s) :
    Keeps b0 (Call.deliverKey c tmplOff t material s) := by
  unfold Call.deliverKey
  repeat' first
    | (with_reducible first
        | assumption | apply Call.keyMade_keeps | apply Call.fail_keeps | apply Call.ok_keeps | apply State.keyChanCreate_keeps
        | apply ite_keeps)
    | intro _ | split | (extract_lets x; refine (fun (hx : Keeps b0 x) => ?_) ?_; clear_value x) | extract_lets

theorem Call.deriveOn_keeps {b0 : State} (c : Call) (func : Byte) (r : KeyRun) (ctx : List Byte) (t : Attr) (n : Nat) (s : State)
    (h_s : Keeps b0 s) :
    Keeps b0 (Call.deriveOn c func r ctx t n s) := by
  unfold Call.deriveOn
  repeat' first
    | (with_reducible first
        | assumption | apply Call.deliverKey_keeps | apply State.derived_keeps | apply Call.wait_keeps)
    | intro _ | split | (refine keeps_of_pair (by assumption) ?_)
    | (extract_lets x; refine (fun (hx : Keeps b0 x) => ?_) ?_; clear_value x) | extract_lets

theorem bodyKeyDerive_keeps {b0 : State} (base : Word) (func : Byte) (ctxLen : Half) (t : Attr) (ctx : List Byte) (c : Call) (u :
    State) (h_u : Keeps b0 u) :
    Keeps b0 (bodyKeyDerive base func ctxLen t ctx c u) := by
  unfold bodyKeyDerive
  repeat' first
    | (refine fun _ _ (h : Keeps _ _) => ?_)
    | (with_reducible first
        | assumption | apply Call.deriveOn_keeps | apply Call.refuse_keeps | apply Call.withCluster_keeps
        | apply Call.withRandom_keeps | apply Call.fail_keeps | apply Call.ok_keeps | apply ite_keeps)
    | intro _ | split | (extract_lets x; refine (fun (hx : Keeps b0 x) => ?_) ?_; clear_value x) | extract_lets

theorem cmdKeyDerive_keeps {b0 : State} (mode : Mode) (h : CmdHdr) (base : Word) (func rsv : Byte) (ctxLen : Half) (t : Attr)
    (ctx : List Byte) (s : State) (h_s : Keeps b0 s) :
    Keeps b0 (cmdKeyDerive mode h base func rsv ctxLen t ctx s) := by
  unfold cmdKeyDerive
  repeat' first
    | (refine fun _ _ (h : Keeps _ _) => ?_)
    | (with_reducible first
        | assumption | apply bodyKeyDerive_keeps | apply Call.run_keeps)
    | intro _

theorem execKeyDerive_keeps {b0 : State} (h : CmdHdr) (base : Word) (func rsv : Byte) (ctxLen : Half) (t : Attr) (ctx : List
    Byte) (s : State) (u : State) (h_s : Keeps b0 s) (h_u : Keeps b0 u) :
    Keeps b0 (nextOr u (execKeyDerive h base func rsv ctxLen t ctx s)) := by
  unfold execKeyDerive
  repeat' first
    | (with_reducible first
        | assumption | apply cmdKeyDerive_keeps | apply nextOr_next_keeps)
    | intro _

theorem bodyKeyDestroy_keeps {b0 : State} (handle : Word) (keyId : Long) (c : Call) (u : State) (h_u : Keeps b0 u) :
    Keeps b0 (bodyKeyDestroy handle keyId c u) := by
  unfold bodyKeyDestroy
  repeat' first
    | (refine fun _ _ (h : Keeps _ _) => ?_)
    | (with_reducible first
        | assumption | apply Call.unload_keeps | apply Call.attested_keeps | apply Call.refuse_keeps | apply Call.fail_keeps
        | apply Call.ok_keeps | apply State.draw_keeps | apply State.withLog_keeps | apply ite_keeps)
    | intro _ | split | (extract_lets x; refine (fun (hx : Keeps b0 x) => ?_) ?_; clear_value x) | extract_lets

theorem cmdKeyDestroy_keeps {b0 : State} (mode : Mode) (h : CmdHdr) (handle rsv : Word) (keyId : Long) (s : State)
    (h_s : Keeps b0 s) :
    Keeps b0 (cmdKeyDestroy mode h handle rsv keyId s) := by
  unfold cmdKeyDestroy
  repeat' first
    | (refine fun _ _ (h : Keeps _ _) => ?_)
    | (with_reducible first
        | assumption | apply bodyKeyDestroy_keeps | apply Call.run_keeps)
    | intro _

theorem execKeyDestroy_keeps {b0 : State} (h : CmdHdr) (handle rsv : Word) (keyId : Long) (s : State) (u : State)
    (h_s : Keeps b0 s) (h_u : Keeps b0 u) :
    Keeps b0 (nextOr u (execKeyDestroy h handle rsv keyId s)) := by
  unfold execKeyDestroy
  repeat' first
    | (with_reducible first
        | assumption | apply cmdKeyDestroy_keeps | apply nextOr_next_keeps)
    | intro _

theorem bodyKeyAttest_keeps {b0 : State} (handle : Word) (alg : Byte) (c : Call) (u : State) (h_u : Keeps b0 u) :
    Keeps b0 (bodyKeyAttest handle alg c u) := by
  unfold bodyKeyAttest
  repeat' first
    | (refine fun _ _ (h : Keeps _ _) => ?_)
    | (with_reducible first
        | assumption | apply Call.attested_keeps | apply Call.refuse_keeps | apply Call.fail_keeps | apply Call.ok_keeps
        | apply State.draw_keeps | apply ite_keeps)
    | intro _ | split

theorem cmdKeyAttest_keeps {b0 : State} (mode : Mode) (h : CmdHdr) (handle : Word) (alg : Byte) (rsv : BitVec 24) (nonce : BitVec
    256) (s : State) (h_s : Keeps b0 s) :
    Keeps b0 (cmdKeyAttest mode h handle alg rsv nonce s) := by
  unfold cmdKeyAttest
  repeat' first
    | (refine fun _ _ (h : Keeps _ _) => ?_)
    | (with_reducible first
        | assumption | apply bodyKeyAttest_keeps | apply Call.run_keeps)
    | intro _

theorem execKeyAttest_keeps {b0 : State} (h : CmdHdr) (handle : Word) (alg : Byte) (rsv : BitVec 24) (nonce : BitVec 256) (s :
    State) (u : State) (h_s : Keeps b0 s) (h_u : Keeps b0 u) :
    Keeps b0 (nextOr u (execKeyAttest h handle alg rsv nonce s)) := by
  unfold execKeyAttest
  repeat' first
    | (with_reducible first
        | assumption | apply cmdKeyAttest_keeps | apply nextOr_next_keeps)
    | intro _

theorem bodyKeyInfo_keeps {b0 : State} (handle : Word) (c : Call) (u : State) (h_u : Keeps b0 u) :
    Keeps b0 (bodyKeyInfo handle c u) := by
  unfold bodyKeyInfo
  repeat' first
    | (with_reducible first
        | assumption | apply Call.refuse_keeps | apply Call.ok_keeps)
    | intro _ | split

theorem cmdKeyInfo_keeps {b0 : State} (mode : Mode) (h : CmdHdr) (handle rsv : Word) (s : State) (h_s : Keeps b0 s) :
    Keeps b0 (cmdKeyInfo mode h handle rsv s) := by
  unfold cmdKeyInfo
  repeat' first
    | (refine fun _ _ (h : Keeps _ _) => ?_)
    | (with_reducible first
        | assumption | apply bodyKeyInfo_keeps | apply Call.run_keeps)
    | intro _

theorem execKeyInfo_keeps {b0 : State} (h : CmdHdr) (handle rsv : Word) (s : State) (u : State) (h_s : Keeps b0 s)
    (h_u : Keeps b0 u) :
    Keeps b0 (nextOr u (execKeyInfo h handle rsv s)) := by
  unfold execKeyInfo
  repeat' first
    | (with_reducible first
        | assumption | apply cmdKeyInfo_keeps | apply nextOr_next_keeps)
    | intro _

theorem bodyPayBlockImport_keeps {b0 : State} (kbpk len : Word) (block : List Byte) (c : Call) (u : State) (h_u : Keeps b0 u) :
    Keeps b0 (bodyPayBlockImport kbpk len block c u) := by
  unfold bodyPayBlockImport
  repeat' first
    | (with_reducible first
        | assumption | apply Call.createKey_keeps | apply Call.refuse_keeps | apply Call.fail_keeps | apply Call.ok_keeps
        | apply ite_keeps)
    | intro _ | split | (extract_lets x; refine (fun (hx : Keeps b0 x) => ?_) ?_; clear_value x) | extract_lets

theorem cmdPayBlockImport_keeps {b0 : State} (mode : Mode) (h : CmdHdr) (kbpk len : Word) (block : List Byte) (s : State)
    (h_s : Keeps b0 s) :
    Keeps b0 (cmdPayBlockImport mode h kbpk len block s) := by
  unfold cmdPayBlockImport
  repeat' first
    | (refine fun _ _ (h : Keeps _ _) => ?_)
    | (with_reducible first
        | assumption | apply bodyPayBlockImport_keeps | apply Call.run_keeps)
    | intro _

theorem execPayBlockImport_keeps {b0 : State} (h : CmdHdr) (kbpk len : Word) (block : List Byte) (s : State) (u : State)
    (h_s : Keeps b0 s) (h_u : Keeps b0 u) :
    Keeps b0 (nextOr u (execPayBlockImport h kbpk len block s)) := by
  unfold execPayBlockImport
  repeat' first
    | (with_reducible first
        | assumption | apply cmdPayBlockImport_keeps | apply nextOr_next_keeps)
    | intro _

theorem bodyPayBlockExport_keeps {b0 : State} (handle kbpk : Word) (optLen : Half) (opt : List Byte) (c : Call) (u : State)
    (h_u : Keeps b0 u) :
    Keeps b0 (bodyPayBlockExport handle kbpk optLen opt c u) := by
  unfold bodyPayBlockExport
  repeat' first
    | (refine fun _ _ (h : Keeps _ _) => ?_)
    | (with_reducible first
        | assumption | apply Call.refuse_keeps | apply Call.fail_keeps | apply Call.ok_keeps | apply State.draw_keeps
        | apply ite_keeps)
    | intro _ | split | (extract_lets x; refine (fun (hx : Keeps b0 x) => ?_) ?_; clear_value x) | extract_lets

theorem cmdPayBlockExport_keeps {b0 : State} (mode : Mode) (h : CmdHdr) (handle kbpk : Word) (optLen : Half) (rsv : BitVec 48)
    (opt : List Byte) (s : State) (h_s : Keeps b0 s) :
    Keeps b0 (cmdPayBlockExport mode h handle kbpk optLen rsv opt s) := by
  unfold cmdPayBlockExport
  repeat' first
    | (refine fun _ _ (h : Keeps _ _) => ?_)
    | (with_reducible first
        | assumption | apply bodyPayBlockExport_keeps | apply Call.run_keeps)
    | intro _

theorem execPayBlockExport_keeps {b0 : State} (h : CmdHdr) (handle kbpk : Word) (optLen : Half) (rsv : BitVec 48) (opt : List
    Byte) (s : State) (u : State) (h_s : Keeps b0 s) (h_u : Keeps b0 u) :
    Keeps b0 (nextOr u (execPayBlockExport h handle kbpk optLen rsv opt s)) := by
  unfold execPayBlockExport
  repeat' first
    | (with_reducible first
        | assumption | apply cmdPayBlockExport_keeps | apply nextOr_next_keeps)
    | intro _

theorem State.pinWorking_keeps {b0 : State} (n : Nat) (mode : Byte) (k : KeyRun) (ksn : BitVec 96) (s : State)
    (h_s : Keeps b0 s) :
    Keeps b0 (State.pinWorking n mode k ksn s).2 := by
  unfold State.pinWorking
  repeat' first
    | (with_reducible first
        | assumption | apply State.fwDukpt_keeps | apply ite_keeps | apply ite_pair_keeps)
    | intro _ | split | (refine keeps_of_pair (by assumption) ?_)
    | (extract_lets x; refine (fun (hx : Keeps b0 x) => ?_) ?_; clear_value x) | extract_lets

theorem State.pinBlock_keeps {b0 : State} (n : Nat) (enc : Bool) (k : KeyRun) (pan block : List Byte) (s : State)
    (h_s : Keeps b0 s) :
    Keeps b0 (State.pinBlock n enc k pan block s).2 := by
  unfold State.pinBlock
  repeat' first
    | (with_reducible first
        | assumption | apply State.fwBlock_keeps | apply ite_pair_keeps)
    | intro _ | split | (refine keeps_of_pair (by assumption) ?_)
    | (extract_lets x; refine (fun (hx : Keeps b0 x) => ?_) ?_; clear_value x) | extract_lets

theorem State.pinIn_keeps {b0 : State} (n : Nat) (inMode : Byte) (a : KeyRun) (inKsn : BitVec 96) (pan pin : BitVec 128) (s :
    State) (h_s : Keeps b0 s) :
    Keeps b0 (State.pinIn n inMode a inKsn pan pin s).2 := by
  unfold State.pinIn
  repeat' first
    | (with_reducible first
        | assumption | apply State.pinBlock_keeps | apply State.pinWorking_keeps | apply ite_pair_keeps)
    | intro _ | split | (refine keeps_of_pair (by assumption) ?_)
    | (extract_lets x; refine (fun (hx : Keeps b0 x) => ?_) ?_; clear_value x) | extract_lets

theorem State.pinOut_keeps {b0 : State} (n : Nat) (outMode : Byte) (b : KeyRun) (outKsn : BitVec 96) (pan : BitVec 128) (field :
    List Byte) (s : State) (h_s : Keeps b0 s) :
    Keeps b0 (State.pinOut n outMode b outKsn pan field s).2 := by
  unfold State.pinOut
  repeat' first
    | (with_reducible first
        | assumption | apply State.pinBlock_keeps | apply State.pinWorking_keeps | apply ite_pair_keeps)
    | intro _ | split | (refine keeps_of_pair (by assumption) ?_)
    | (extract_lets x; refine (fun (hx : Keeps b0 x) => ?_) ?_; clear_value x) | extract_lets

theorem bodyPayPinTranslate_keeps {b0 : State} (inH outH : Word) (inMode outMode : Byte) (inKsn outKsn : BitVec 96) (pan pin :
    BitVec 128) (c : Call) (u : State) (h_u : Keeps b0 u) :
    Keeps b0 (bodyPayPinTranslate inH outH inMode outMode inKsn outKsn pan pin c u) := by
  unfold bodyPayPinTranslate
  repeat' first
    | (refine fun _ _ (h : Keeps _ _) => ?_)
    | (with_reducible first
        | assumption | apply State.pinOut_keeps | apply State.pinIn_keeps | apply Call.refuse_keeps
        | apply Call.withCluster_keeps | apply Call.withRandom_keeps | apply Call.wait_keeps | apply Call.fail_keeps
        | apply Call.ok_keeps | apply ite_keeps)
    | intro _ | split | (refine keeps_of_pair (by assumption) ?_)
    | (extract_lets x; refine (fun (hx : Keeps b0 x) => ?_) ?_; clear_value x) | extract_lets

theorem cmdPayPinTranslate_keeps {b0 : State} (mode : Mode) (h : CmdHdr) (inH outH : Word) (inMode outMode : Byte) (rsv : BitVec
    48) (inKsn outKsn : BitVec 96) (pan pin : BitVec 128) (s : State) (h_s : Keeps b0 s) :
    Keeps b0 (cmdPayPinTranslate mode h inH outH inMode outMode rsv inKsn outKsn pan pin s) := by
  unfold cmdPayPinTranslate
  repeat' first
    | (refine fun _ _ (h : Keeps _ _) => ?_)
    | (with_reducible first
        | assumption | apply bodyPayPinTranslate_keeps | apply Call.run_keeps)
    | intro _

theorem execPayPinTranslate_keeps {b0 : State} (h : CmdHdr) (inH outH : Word) (inMode outMode : Byte) (rsv : BitVec 48) (inKsn
    outKsn : BitVec 96) (pan pin : BitVec 128) (s : State) (u : State) (h_s : Keeps b0 s) (h_u : Keeps b0 u) :
    Keeps b0 (nextOr u (execPayPinTranslate h inH outH inMode outMode rsv inKsn outKsn pan pin s)) := by
  unfold execPayPinTranslate
  repeat' first
    | (with_reducible first
        | assumption | apply cmdPayPinTranslate_keeps | apply nextOr_next_keeps)
    | intro _

theorem bodySign_keeps {b0 : State} (handle : Word) (input : Byte) (len : Word) (data : List Byte) (c : Call) (u : State)
    (h_u : Keeps b0 u) :
    Keeps b0 (bodySign handle input len data c u) := by
  unfold bodySign
  repeat' first
    | (refine fun _ _ (h : Keeps _ _) => ?_)
    | (with_reducible first
        | assumption | apply Call.engineFail_keeps | apply Call.engineOp_keeps | apply Call.refuse_keeps | apply Call.fail_keeps
        | apply Call.ok_keeps | apply ite_keeps)
    | intro _ | split | (extract_lets x; refine (fun (hx : Keeps b0 x) => ?_) ?_; clear_value x) | extract_lets

theorem cmdSign_keeps {b0 : State} (mode : Mode) (h : CmdHdr) (handle : Word) (input : Byte) (rsv : BitVec 24) (len rsv2 : Word)
    (data : List Byte) (s : State) (h_s : Keeps b0 s) :
    Keeps b0 (cmdSign mode h handle input rsv len rsv2 data s) := by
  unfold cmdSign
  repeat' first | (refine fun _ _ (h : Keeps _ _) => ?_) | (with_reducible first | assumption | apply bodySign_keeps | apply Call.run_keeps) | intro _

theorem execSign_keeps {b0 : State} (h : CmdHdr) (handle : Word) (input : Byte) (rsv : BitVec 24) (len rsv2 : Word) (data : List
    Byte) (s : State) (u : State) (h_s : Keeps b0 s) (h_u : Keeps b0 u) :
    Keeps b0 (nextOr u (execSign h handle input rsv len rsv2 data s)) := by
  unfold execSign
  repeat' first
    | (with_reducible first
        | assumption | apply cmdSign_keeps | apply nextOr_next_keeps)
    | intro _

theorem bodyVerify_keeps {b0 : State} (handle : Word) (input : Byte) (len sigLen : Word) (data sig : List Byte) (c : Call) (u :
    State) (h_u : Keeps b0 u) :
    Keeps b0 (bodyVerify handle input len sigLen data sig c u) := by
  unfold bodyVerify
  repeat' first
    | (refine fun _ _ (h : Keeps _ _) => ?_)
    | (with_reducible first
        | assumption | apply Call.engineFail_keeps | apply Call.engineOp_keeps | apply Call.refuse_keeps | apply Call.fail_keeps
        | apply Call.ok_keeps | apply ite_keeps)
    | intro _ | split | (extract_lets x; refine (fun (hx : Keeps b0 x) => ?_) ?_; clear_value x) | extract_lets

theorem cmdVerify_keeps {b0 : State} (mode : Mode) (h : CmdHdr) (handle : Word) (input : Byte) (rsv : BitVec 24) (len sigLen :
    Word) (data sig : List Byte) (s : State) (h_s : Keeps b0 s) :
    Keeps b0 (cmdVerify mode h handle input rsv len sigLen data sig s) := by
  unfold cmdVerify
  repeat' first
    | (refine fun _ _ (h : Keeps _ _) => ?_)
    | (with_reducible first
        | assumption | apply bodyVerify_keeps | apply Call.run_keeps)
    | intro _

theorem execVerify_keeps {b0 : State} (h : CmdHdr) (handle : Word) (input : Byte) (rsv : BitVec 24) (len sigLen : Word) (data sig
    : List Byte) (s : State) (u : State) (h_s : Keeps b0 s) (h_u : Keeps b0 u) :
    Keeps b0 (nextOr u (execVerify h handle input rsv len sigLen data sig s)) := by
  unfold execVerify
  repeat' first
    | (with_reducible first
        | assumption | apply cmdVerify_keeps | apply nextOr_next_keeps)
    | intro _

theorem State.fwGcm_keeps {b0 : State} (n : Nat) (enc : Bool) (r : KeyRun) (iv aad data : List Byte) (s : State)
    (h_s : Keeps b0 s) :
    Keeps b0 (State.fwGcm n enc r iv aad data s).2 := by
  unfold State.fwGcm
  repeat' first
    | (with_reducible first
        | assumption | apply State.gcmTag_keeps | apply State.fwJob_keeps | apply ite_keeps | apply ite_pair_keeps)
    | intro _ | split | (refine keeps_of_pair (by assumption) ?_)
    | (extract_lets x; refine (fun (hx : Keeps b0 x) => ?_) ?_; clear_value x) | extract_lets

theorem bodySeal_keeps {b0 : State} (handle : Word) (aadLen : Half) (dataLen : Word) (aad data : List Byte) (c : Call) (u :
    State) (h_u : Keeps b0 u) :
    Keeps b0 (bodySeal handle aadLen dataLen aad data c u) := by
  unfold bodySeal
  repeat' first
    | (refine fun _ _ (h : Keeps _ _) => ?_)
    | (with_reducible first
        | assumption | apply State.fwGcm_keeps | apply Call.refuse_keeps | apply Call.withCluster_keeps
        | apply Call.waitCluster_keeps | apply Call.wait_keeps | apply Call.fail_keeps | apply Call.ok_keeps
        | apply State.leaseSend_keeps | apply State.withKeys_keeps | apply ite_keeps)
    | intro _ | split | (refine keeps_of_pair (by assumption) ?_)
    | (extract_lets x; refine (fun (hx : Keeps b0 x) => ?_) ?_; clear_value x) | extract_lets

theorem cmdSeal_keeps {b0 : State} (mode : Mode) (h : CmdHdr) (handle : Word) (aadLen rsv : Half) (dataLen rsv2 : Word) (aad data
    : List Byte) (s : State) (h_s : Keeps b0 s) :
    Keeps b0 (cmdSeal mode h handle aadLen rsv dataLen rsv2 aad data s) := by
  unfold cmdSeal
  repeat' first | (refine fun _ _ (h : Keeps _ _) => ?_) | (with_reducible first | assumption | apply bodySeal_keeps | apply Call.run_keeps) | intro _

theorem execSeal_keeps {b0 : State} (h : CmdHdr) (handle : Word) (aadLen rsv : Half) (dataLen rsv2 : Word) (aad data : List Byte)
    (s : State) (u : State) (h_s : Keeps b0 s) (h_u : Keeps b0 u) :
    Keeps b0 (nextOr u (execSeal h handle aadLen rsv dataLen rsv2 aad data s)) := by
  unfold execSeal
  repeat' first
    | (with_reducible first
        | assumption | apply cmdSeal_keeps | apply nextOr_next_keeps)
    | intro _

theorem bodyUnseal_keeps {b0 : State} (handle : Word) (aadLen : Half) (sealedLen : Word) (aad sealed : List Byte) (c : Call) (u :
    State) (h_u : Keeps b0 u) :
    Keeps b0 (bodyUnseal handle aadLen sealedLen aad sealed c u) := by
  unfold bodyUnseal
  repeat' first
    | (refine fun _ _ (h : Keeps _ _) => ?_)
    | (with_reducible first
        | assumption | apply State.fwGcm_keeps | apply Call.refuse_keeps | apply Call.withCluster_keeps | apply Call.wait_keeps
        | apply Call.fail_keeps | apply Call.ok_keeps | apply ite_keeps)
    | intro _ | split | (refine keeps_of_pair (by assumption) ?_)
    | (extract_lets x; refine (fun (hx : Keeps b0 x) => ?_) ?_; clear_value x) | extract_lets

theorem cmdUnseal_keeps {b0 : State} (mode : Mode) (h : CmdHdr) (handle : Word) (aadLen rsv : Half) (sealedLen rsv2 : Word) (aad
    sealed : List Byte) (s : State) (h_s : Keeps b0 s) :
    Keeps b0 (cmdUnseal mode h handle aadLen rsv sealedLen rsv2 aad sealed s) := by
  unfold cmdUnseal
  repeat' first
    | (refine fun _ _ (h : Keeps _ _) => ?_)
    | (with_reducible first
        | assumption | apply bodyUnseal_keeps | apply Call.run_keeps)
    | intro _

theorem execUnseal_keeps {b0 : State} (h : CmdHdr) (handle : Word) (aadLen rsv : Half) (sealedLen rsv2 : Word) (aad sealed : List
    Byte) (s : State) (u : State) (h_s : Keeps b0 s) (h_u : Keeps b0 u) :
    Keeps b0 (nextOr u (execUnseal h handle aadLen rsv sealedLen rsv2 aad sealed s)) := by
  unfold execUnseal
  repeat' first
    | (with_reducible first
        | assumption | apply cmdUnseal_keeps | apply nextOr_next_keeps)
    | intro _

theorem bodyAgree_keeps {b0 : State} (handle peerLen : Word) (t : Attr) (peer : List Byte) (c : Call) (u : State)
    (h_u : Keeps b0 u) :
    Keeps b0 (bodyAgree handle peerLen t peer c u) := by
  unfold bodyAgree
  repeat' first
    | (refine fun _ _ (h : Keeps _ _) => ?_)
    | (with_reducible first
        | assumption | apply Call.engineKey_keeps | apply Call.engineOp_keeps | apply Call.refuse_keeps | apply Call.fail_keeps
        | apply Call.ok_keeps | apply ite_keeps)
    | intro _ | split

theorem cmdAgree_keeps {b0 : State} (mode : Mode) (h : CmdHdr) (handle peerLen : Word) (t : Attr) (peer : List Byte) (s : State)
    (h_s : Keeps b0 s) :
    Keeps b0 (cmdAgree mode h handle peerLen t peer s) := by
  unfold cmdAgree
  repeat' first
    | (refine fun _ _ (h : Keeps _ _) => ?_)
    | (with_reducible first
        | assumption | apply bodyAgree_keeps | apply Call.run_keeps)
    | intro _

theorem execAgree_keeps {b0 : State} (h : CmdHdr) (handle peerLen : Word) (t : Attr) (peer : List Byte) (s : State) (u : State)
    (h_s : Keeps b0 s) (h_u : Keeps b0 u) :
    Keeps b0 (nextOr u (execAgree h handle peerLen t peer s)) := by
  unfold execAgree
  repeat' first
    | (with_reducible first
        | assumption | apply cmdAgree_keeps | apply nextOr_next_keeps)
    | intro _

theorem bodyEncaps_keeps {b0 : State} (handle : Word) (t : Attr) (c : Call) (u : State) (h_u : Keeps b0 u) :
    Keeps b0 (bodyEncaps handle t c u) := by
  unfold bodyEncaps
  repeat' first
    | (refine fun _ _ (h : Keeps _ _) => ?_)
    | (with_reducible first
        | assumption | apply Call.engineKey_keeps | apply Call.engineOp_keeps | apply Call.refuse_keeps | apply Call.fail_keeps
        | apply Call.ok_keeps)
    | intro _ | split | (extract_lets x; refine (fun (hx : Keeps b0 x) => ?_) ?_; clear_value x) | extract_lets

theorem cmdEncaps_keeps {b0 : State} (mode : Mode) (h : CmdHdr) (handle rsv : Word) (t : Attr) (s : State) (h_s : Keeps b0 s) :
    Keeps b0 (cmdEncaps mode h handle rsv t s) := by
  unfold cmdEncaps
  repeat' first
    | (refine fun _ _ (h : Keeps _ _) => ?_)
    | (with_reducible first
        | assumption | apply bodyEncaps_keeps | apply Call.run_keeps)
    | intro _

theorem execEncaps_keeps {b0 : State} (h : CmdHdr) (handle rsv : Word) (t : Attr) (s : State) (u : State) (h_s : Keeps b0 s)
    (h_u : Keeps b0 u) :
    Keeps b0 (nextOr u (execEncaps h handle rsv t s)) := by
  unfold execEncaps
  repeat' first
    | (with_reducible first
        | assumption | apply cmdEncaps_keeps | apply nextOr_next_keeps)
    | intro _

theorem bodyDecaps_keeps {b0 : State} (handle ctLen : Word) (t : Attr) (ct : List Byte) (c : Call) (u : State)
    (h_u : Keeps b0 u) :
    Keeps b0 (bodyDecaps handle ctLen t ct c u) := by
  unfold bodyDecaps
  repeat' first
    | (refine fun _ _ (h : Keeps _ _) => ?_)
    | (with_reducible first
        | assumption | apply Call.engineKey_keeps | apply Call.engineOp_keeps | apply Call.refuse_keeps | apply Call.fail_keeps
        | apply Call.ok_keeps | apply ite_keeps)
    | intro _ | split

theorem cmdDecaps_keeps {b0 : State} (mode : Mode) (h : CmdHdr) (handle ctLen : Word) (t : Attr) (ct : List Byte) (s : State)
    (h_s : Keeps b0 s) :
    Keeps b0 (cmdDecaps mode h handle ctLen t ct s) := by
  unfold cmdDecaps
  repeat' first
    | (refine fun _ _ (h : Keeps _ _) => ?_)
    | (with_reducible first
        | assumption | apply bodyDecaps_keeps | apply Call.run_keeps)
    | intro _

theorem execDecaps_keeps {b0 : State} (h : CmdHdr) (handle ctLen : Word) (t : Attr) (ct : List Byte) (s : State) (u : State)
    (h_s : Keeps b0 s) (h_u : Keeps b0 u) :
    Keeps b0 (nextOr u (execDecaps h handle ctLen t ct s)) := by
  unfold execDecaps
  repeat' first
    | (with_reducible first
        | assumption | apply cmdDecaps_keeps | apply nextOr_next_keeps)
    | intro _

theorem bodyRingCreate_keeps {b0 : State} (ring : Half) (fn vector : Byte) (tenant : Half) (size flags : Byte) (desc cmpl shd :
    Long) (c : Call) (t : State) (h_t : Keeps b0 t) :
    Keeps b0 (bodyRingCreate ring fn vector tenant size flags desc cmpl shd c t) := by
  unfold bodyRingCreate
  repeat' first
    | (with_reducible first
        | assumption | apply Call.okMirrored_keeps | apply Call.fail_keeps | apply State.withRings_keeps)
    | intro _ | split | (extract_lets x; refine (fun (hx : Keeps b0 x) => ?_) ?_; clear_value x) | extract_lets

theorem cmdRingCreate_keeps {b0 : State} (mode : Mode) (h : CmdHdr) (ring : Half) (fn vector : Byte) (tenant : Half) (size flags
    : Byte) (desc cmpl shd : Long) (s : State) (h_s : Keeps b0 s) :
    Keeps b0 (cmdRingCreate mode h ring fn vector tenant size flags desc cmpl shd s) := by
  unfold cmdRingCreate
  repeat' first
    | (refine fun _ _ (h : Keeps _ _) => ?_)
    | (with_reducible first
        | assumption | apply bodyRingCreate_keeps | apply Call.run_keeps)
    | intro _

theorem execRingCreate_keeps {b0 : State} (h : CmdHdr) (ring : Half) (fn vector : Byte) (tenant : Half) (size flags : Byte) (desc
    cmpl shd : Long) (s : State) (u : State) (h_s : Keeps b0 s) (h_u : Keeps b0 u) :
    Keeps b0 (nextOr u (execRingCreate h ring fn vector tenant size flags desc cmpl shd s)) := by
  unfold execRingCreate
  repeat' first
    | (with_reducible first
        | assumption | apply cmdRingCreate_keeps | apply nextOr_next_keeps)
    | intro _

theorem bodyRingDestroy_keeps {b0 : State} (ring : Half) (c : Call) (t : State) (h_t : Keeps b0 t) :
    Keeps b0 (bodyRingDestroy ring c t) := by
  unfold bodyRingDestroy
  repeat' first
    | (with_reducible first
        | assumption | apply Call.wait_keeps | apply Call.fail_keeps | apply State.destroyRing_keeps | apply State.mirror_keeps
        | apply ite_keeps)
    | intro _ | split | (extract_lets x; refine (fun (hx : Keeps b0 x) => ?_) ?_; clear_value x) | extract_lets

theorem cmdRingDestroy_keeps {b0 : State} (mode : Mode) (h : CmdHdr) (ring : Half) (rsv : BitVec 48) (s : State)
    (h_s : Keeps b0 s) :
    Keeps b0 (cmdRingDestroy mode h ring rsv s) := by
  unfold cmdRingDestroy
  repeat' first
    | (refine fun _ _ (h : Keeps _ _) => ?_)
    | (with_reducible first
        | assumption | apply bodyRingDestroy_keeps | apply Call.run_keeps)
    | intro _

theorem execRingDestroy_keeps {b0 : State} (h : CmdHdr) (ring : Half) (rsv : BitVec 48) (s : State) (u : State)
    (h_s : Keeps b0 s) (h_u : Keeps b0 u) :
    Keeps b0 (nextOr u (execRingDestroy h ring rsv s)) := by
  unfold execRingDestroy
  repeat' first
    | (with_reducible first
        | assumption | apply cmdRingDestroy_keeps | apply nextOr_next_keeps)
    | intro _

theorem State.endWindow_keeps {b0 : State} (fn win : Byte) (base limit : Long) (s : State) (h_s : Keeps b0 s) :
    Keeps b0 (State.endWindow fn win base limit s) := by
  unfold State.endWindow
  repeat' first | (with_reducible first | assumption | apply State.withRings_keeps) | intro _

theorem bodyRingWindow_keeps {b0 : State} (fn win : Byte) (base limit : Long) (c : Call) (t : State) (h_t : Keeps b0 t) :
    Keeps b0 (bodyRingWindow fn win base limit c t) := by
  unfold bodyRingWindow
  repeat' first
    | (with_reducible first
        | assumption | apply State.endWindow_keeps | apply Call.wait_keeps | apply Call.fail_keeps | apply Call.ok_keeps
        | apply State.sendRecord_keeps | apply ite_keeps)
    | intro _ | split | (extract_lets x; refine (fun (hx : Keeps b0 x) => ?_) ?_; clear_value x) | extract_lets

theorem cmdRingWindow_keeps {b0 : State} (mode : Mode) (h : CmdHdr) (fn win : Byte) (rsv : BitVec 48) (base limit : Long) (s :
    State) (h_s : Keeps b0 s) :
    Keeps b0 (cmdRingWindow mode h fn win rsv base limit s) := by
  unfold cmdRingWindow
  repeat' first
    | (refine fun _ _ (h : Keeps _ _) => ?_)
    | (with_reducible first
        | assumption | apply bodyRingWindow_keeps | apply Call.run_keeps)
    | intro _

theorem execRingWindow_keeps {b0 : State} (h : CmdHdr) (fn win : Byte) (rsv : BitVec 48) (base limit : Long) (s : State) (u :
    State) (h_s : Keeps b0 s) (h_u : Keeps b0 u) :
    Keeps b0 (nextOr u (execRingWindow h fn win rsv base limit s)) := by
  unfold execRingWindow
  repeat' first
    | (with_reducible first
        | assumption | apply cmdRingWindow_keeps | apply nextOr_next_keeps)
    | intro _

theorem bodyRingStatus_keeps {b0 : State} (ring : Half) (c : Call) (t : State) (h_t : Keeps b0 t) :
    Keeps b0 (bodyRingStatus ring c t) := by
  unfold bodyRingStatus
  repeat' first
    | (with_reducible first
        | assumption | apply Call.fail_keeps | apply Call.ok_keeps | apply ite_keeps)
    | intro _ | split | (extract_lets x; refine (fun (hx : Keeps b0 x) => ?_) ?_; clear_value x) | extract_lets

theorem cmdRingStatus_keeps {b0 : State} (mode : Mode) (h : CmdHdr) (ring : Half) (rsv : BitVec 48) (s : State)
    (h_s : Keeps b0 s) :
    Keeps b0 (cmdRingStatus mode h ring rsv s) := by
  unfold cmdRingStatus
  repeat' first
    | (refine fun _ _ (h : Keeps _ _) => ?_)
    | (with_reducible first
        | assumption | apply bodyRingStatus_keeps | apply Call.run_keeps)
    | intro _

theorem execRingStatus_keeps {b0 : State} (h : CmdHdr) (ring : Half) (rsv : BitVec 48) (s : State) (u : State)
    (h_s : Keeps b0 s) (h_u : Keeps b0 u) :
    Keeps b0 (nextOr u (execRingStatus h ring rsv s)) := by
  unfold execRingStatus
  repeat' first
    | (with_reducible first
        | assumption | apply cmdRingStatus_keeps | apply nextOr_next_keeps)
    | intro _

theorem State.abortPort_keeps {b0 : State} (n : Nat) (s : State) (h_s : Keeps b0 s) :
    Keeps b0 (State.abortPort n s) := by
  unfold State.abortPort
  repeat' first
    | (with_reducible first
        | assumption | apply State.failJob_keeps | apply foldl_keeps)
    | intro _ | split | (extract_lets x; refine (fun (hx : Keeps b0 x) => ?_) ?_; clear_value x) | extract_lets

theorem bodyPortConfig_keeps {b0 : State} (port : Byte) (r : PortRecord) (c : Call) (t : State) (h_t : Keeps b0 t) :
    Keeps b0 (bodyPortConfig port r c t) := by
  unfold bodyPortConfig
  repeat' first
    | (with_reducible first
        | assumption | apply State.abortPort_keeps | apply Call.okMirrored_keeps | apply State.startTraining_keeps
        | apply State.roleFrame_keeps | apply State.updPort_keeps)
    | intro _ | split | (extract_lets x; refine (fun (hx : Keeps b0 x) => ?_) ?_; clear_value x) | extract_lets

theorem cmdPortConfig_keeps {b0 : State} (mode : Mode) (h : CmdHdr) (port : Byte) (rsv : BitVec 24) (recLen : Word) (r :
    PortRecord) (s : State) (h_s : Keeps b0 s) :
    Keeps b0 (cmdPortConfig mode h port rsv recLen r s) := by
  unfold cmdPortConfig
  repeat' first
    | (refine fun _ _ (h : Keeps _ _) => ?_)
    | (with_reducible first
        | assumption | apply bodyPortConfig_keeps | apply Call.run_keeps)
    | intro _

theorem execPortConfig_keeps {b0 : State} (h : CmdHdr) (port : Byte) (rsv : BitVec 24) (recLen : Word) (r : PortRecord) (s :
    State) (u : State) (h_s : Keeps b0 s) (h_u : Keeps b0 u) :
    Keeps b0 (nextOr u (execPortConfig h port rsv recLen r s)) := by
  unfold execPortConfig
  repeat' first
    | (with_reducible first
        | assumption | apply cmdPortConfig_keeps | apply nextOr_next_keeps)
    | intro _

theorem bodyPortStatus_keeps {b0 : State} (port : Byte) (c : Call) (t : State) (h_t : Keeps b0 t) :
    Keeps b0 (bodyPortStatus port c t) := by
  unfold bodyPortStatus
  repeat' first | (with_reducible first | assumption | apply Call.ok_keeps) | intro _

theorem cmdPortStatus_keeps {b0 : State} (mode : Mode) (h : CmdHdr) (port : Byte) (rsv : BitVec 56) (s : State)
    (h_s : Keeps b0 s) :
    Keeps b0 (cmdPortStatus mode h port rsv s) := by
  unfold cmdPortStatus
  repeat' first
    | (refine fun _ _ (h : Keeps _ _) => ?_)
    | (with_reducible first
        | assumption | apply bodyPortStatus_keeps | apply Call.run_keeps)
    | intro _

theorem execPortStatus_keeps {b0 : State} (h : CmdHdr) (port : Byte) (rsv : BitVec 56) (s : State) (u : State)
    (h_s : Keeps b0 s) (h_u : Keeps b0 u) :
    Keeps b0 (nextOr u (execPortStatus h port rsv s)) := by
  unfold execPortStatus
  repeat' first
    | (with_reducible first
        | assumption | apply cmdPortStatus_keeps | apply nextOr_next_keeps)
    | intro _

theorem bodyVolumeBind_keeps {b0 : State} (port : Byte) (volume : Word) (keyId : Long) (handle : Word) (c : Call) (t : State)
    (h_t : Keeps b0 t) :
    Keeps b0 (bodyVolumeBind port volume keyId handle c t) := by
  unfold bodyVolumeBind
  repeat' first
    | (with_reducible first
        | assumption | apply Call.okMirrored_keeps | apply Call.refuse_keeps | apply Call.fail_keeps | apply Call.ok_keeps
        | apply State.updPort_keeps | apply ite_keeps)
    | intro _ | split | (extract_lets x; refine (fun (hx : Keeps b0 x) => ?_) ?_; clear_value x) | extract_lets

theorem cmdVolumeBind_keeps {b0 : State} (mode : Mode) (h : CmdHdr) (port : Byte) (rsv : BitVec 24) (volume : Word) (keyId :
    Long) (handle rsv2 : Word) (s : State) (h_s : Keeps b0 s) :
    Keeps b0 (cmdVolumeBind mode h port rsv volume keyId handle rsv2 s) := by
  unfold cmdVolumeBind
  repeat' first
    | (refine fun _ _ (h : Keeps _ _) => ?_)
    | (with_reducible first
        | assumption | apply bodyVolumeBind_keeps | apply Call.run_keeps)
    | intro _

theorem execVolumeBind_keeps {b0 : State} (h : CmdHdr) (port : Byte) (rsv : BitVec 24) (volume : Word) (keyId : Long) (handle
    rsv2 : Word) (s : State) (u : State) (h_s : Keeps b0 s) (h_u : Keeps b0 u) :
    Keeps b0 (nextOr u (execVolumeBind h port rsv volume keyId handle rsv2 s)) := by
  unfold execVolumeBind
  repeat' first
    | (with_reducible first
        | assumption | apply cmdVolumeBind_keeps | apply nextOr_next_keeps)
    | intro _

theorem bodyPortHold_keeps {b0 : State} (port : Byte) (c : Call) (t : State) (h_t : Keeps b0 t) :
    Keeps b0 (bodyPortHold port c t) := by
  unfold bodyPortHold
  repeat' first
    | (with_reducible first
        | assumption | apply Call.ok_keeps | apply State.holdWrites_keeps | apply State.settleHold_keeps
        | apply State.updPort_keeps)
    | intro _

theorem cmdPortHold_keeps {b0 : State} (mode : Mode) (h : CmdHdr) (port : Byte) (rsv : BitVec 56) (s : State) (h_s : Keeps b0 s) :
    Keeps b0 (cmdPortHold mode h port rsv s) := by
  unfold cmdPortHold
  repeat' first
    | (refine fun _ _ (h : Keeps _ _) => ?_)
    | (with_reducible first
        | assumption | apply bodyPortHold_keeps | apply Call.run_keeps)
    | intro _

theorem execPortHold_keeps {b0 : State} (h : CmdHdr) (port : Byte) (rsv : BitVec 56) (s : State) (u : State)
    (h_s : Keeps b0 s) (h_u : Keeps b0 u) :
    Keeps b0 (nextOr u (execPortHold h port rsv s)) := by
  unfold execPortHold
  repeat' first
    | (with_reducible first
        | assumption | apply cmdPortHold_keeps | apply nextOr_next_keeps)
    | intro _

theorem bodyPortRelease_keeps {b0 : State} (port : Byte) (c : Call) (t : State) (h_t : Keeps b0 t) :
    Keeps b0 (bodyPortRelease port c t) := by
  unfold bodyPortRelease
  repeat' first
    | (with_reducible first
        | assumption | apply Call.ok_keeps | apply State.endHostHold_keeps)
    | intro _

theorem cmdPortRelease_keeps {b0 : State} (mode : Mode) (h : CmdHdr) (port : Byte) (rsv : BitVec 56) (s : State)
    (h_s : Keeps b0 s) :
    Keeps b0 (cmdPortRelease mode h port rsv s) := by
  unfold cmdPortRelease
  repeat' first
    | (refine fun _ _ (h : Keeps _ _) => ?_)
    | (with_reducible first
        | assumption | apply bodyPortRelease_keeps | apply Call.run_keeps)
    | intro _

theorem execPortRelease_keeps {b0 : State} (h : CmdHdr) (port : Byte) (rsv : BitVec 56) (s : State) (u : State)
    (h_s : Keeps b0 s) (h_u : Keeps b0 u) :
    Keeps b0 (nextOr u (execPortRelease h port rsv s)) := by
  unfold execPortRelease
  repeat' first
    | (with_reducible first
        | assumption | apply cmdPortRelease_keeps | apply nextOr_next_keeps)
    | intro _

theorem bodyAlarmTableSet_keeps {b0 : State} (table : List Byte) (c : Call) (t : State) (h_t : Keeps b0 t) :
    Keeps b0 (bodyAlarmTableSet table c t) := by
  unfold bodyAlarmTableSet
  repeat' first
    | (with_reducible first
        | assumption | apply Call.ok_keeps | apply State.withLog_keeps | apply State.withAlarm_keeps)
    | intro _

theorem cmdAlarmTableSet_keeps {b0 : State} (mode : Mode) (h : CmdHdr) (qid rsv : Word) (table : List Byte) (s : State)
    (h_s : Keeps b0 s) :
    Keeps b0 (cmdAlarmTableSet mode h qid rsv table s) := by
  unfold cmdAlarmTableSet
  repeat' first
    | (refine fun _ _ (h : Keeps _ _) => ?_)
    | (with_reducible first
        | assumption | apply bodyAlarmTableSet_keeps | apply Call.run_keeps)
    | intro _

theorem execAlarmTableSet_keeps {b0 : State} (h : CmdHdr) (qid rsv : Word) (table : List Byte) (s : State) (u : State)
    (h_s : Keeps b0 s) (h_u : Keeps b0 u) :
    Keeps b0 (nextOr u (execAlarmTableSet h qid rsv table s)) := by
  unfold execAlarmTableSet
  repeat' first
    | (with_reducible first
        | assumption | apply cmdAlarmTableSet_keeps | apply nextOr_next_keeps)
    | intro _

theorem bodyAlarmTableGet_keeps {b0 : State} (c : Call) (t : State) (h_t : Keeps b0 t) :
    Keeps b0 (bodyAlarmTableGet c t) := by
  unfold bodyAlarmTableGet
  repeat' first | (with_reducible first | assumption | apply Call.ok_keeps) | intro _

theorem cmdAlarmTableGet_keeps {b0 : State} (mode : Mode) (h : CmdHdr) (s : State) (h_s : Keeps b0 s) :
    Keeps b0 (cmdAlarmTableGet mode h s) := by
  unfold cmdAlarmTableGet
  repeat' first
    | (refine fun _ _ (h : Keeps _ _) => ?_)
    | (with_reducible first
        | assumption | apply bodyAlarmTableGet_keeps | apply Call.run_keeps)
    | intro _

theorem execAlarmTableGet_keeps {b0 : State} (h : CmdHdr) (s : State) (u : State) (h_s : Keeps b0 s) (h_u : Keeps b0 u) :
    Keeps b0 (nextOr u (execAlarmTableGet h s)) := by
  unfold execAlarmTableGet
  repeat' first
    | (with_reducible first
        | assumption | apply cmdAlarmTableGet_keeps | apply nextOr_next_keeps)
    | intro _

theorem bodyLogExport_keeps {b0 : State} (h : CmdHdr) (first max : Word) (c : Call) (t : State) (h_t : Keeps b0 t) :
    Keeps b0 (bodyLogExport h first max c t) := by
  unfold bodyLogExport
  repeat' first
    | (refine fun _ _ (h : Keeps _ _) => ?_)
    | (with_reducible first
        | assumption | apply Call.attested_keeps | apply Call.ok_keeps | apply State.withLog_keeps)
    | intro _ | split | (extract_lets x; refine (fun (hx : Keeps b0 x) => ?_) ?_; clear_value x) | extract_lets

theorem cmdLogExport_keeps {b0 : State} (mode : Mode) (h : CmdHdr) (first max : Word) (s : State) (h_s : Keeps b0 s) :
    Keeps b0 (cmdLogExport mode h first max s) := by
  unfold cmdLogExport
  repeat' first
    | (refine fun _ _ (h : Keeps _ _) => ?_)
    | (with_reducible first
        | assumption | apply bodyLogExport_keeps | apply Call.run_keeps)
    | intro _

theorem execLogExport_keeps {b0 : State} (h : CmdHdr) (first max : Word) (s : State) (u : State) (h_s : Keeps b0 s)
    (h_u : Keeps b0 u) :
    Keeps b0 (nextOr u (execLogExport h first max s)) := by
  unfold execLogExport
  repeat' first
    | (with_reducible first
        | assumption | apply cmdLogExport_keeps | apply nextOr_next_keeps)
    | intro _

theorem bodyLogRelease_keeps {b0 : State} (seq : Word) (c : Call) (t : State) (h_t : Keeps b0 t) :
    Keeps b0 (bodyLogRelease seq c t) := by
  unfold bodyLogRelease
  repeat' first
    | (with_reducible first
        | assumption | apply Call.ok_keeps | apply State.logRelease_keeps)
    | intro _ | split | (extract_lets x; refine (fun (hx : Keeps b0 x) => ?_) ?_; clear_value x) | extract_lets

theorem cmdLogRelease_keeps {b0 : State} (mode : Mode) (h : CmdHdr) (seq rsv : Word) (s : State) (h_s : Keeps b0 s) :
    Keeps b0 (cmdLogRelease mode h seq rsv s) := by
  unfold cmdLogRelease
  repeat' first
    | (refine fun _ _ (h : Keeps _ _) => ?_)
    | (with_reducible first
        | assumption | apply bodyLogRelease_keeps | apply Call.run_keeps)
    | intro _

theorem execLogRelease_keeps {b0 : State} (h : CmdHdr) (seq rsv : Word) (s : State) (u : State) (h_s : Keeps b0 s)
    (h_u : Keeps b0 u) :
    Keeps b0 (nextOr u (execLogRelease h seq rsv s)) := by
  unfold execLogRelease
  repeat' first
    | (with_reducible first
        | assumption | apply cmdLogRelease_keeps | apply nextOr_next_keeps)
    | intro _

theorem bodyLogStatus_keeps {b0 : State} (c : Call) (t : State) (h_t : Keeps b0 t) :
    Keeps b0 (bodyLogStatus c t) := by
  unfold bodyLogStatus
  repeat' first | (with_reducible first | assumption | apply Call.ok_keeps) | intro _

theorem cmdLogStatus_keeps {b0 : State} (mode : Mode) (h : CmdHdr) (s : State) (h_s : Keeps b0 s) :
    Keeps b0 (cmdLogStatus mode h s) := by
  unfold cmdLogStatus
  repeat' first
    | (refine fun _ _ (h : Keeps _ _) => ?_)
    | (with_reducible first
        | assumption | apply bodyLogStatus_keeps | apply Call.run_keeps)
    | intro _

theorem execLogStatus_keeps {b0 : State} (h : CmdHdr) (s : State) (u : State) (h_s : Keeps b0 s) (h_u : Keeps b0 u) :
    Keeps b0 (nextOr u (execLogStatus h s)) := by
  unfold execLogStatus
  repeat' first
    | (with_reducible first
        | assumption | apply cmdLogStatus_keeps | apply nextOr_next_keeps)
    | intro _

theorem Rng.foldl_snd_ok {α β : Type} (f : β × Rng → α → β × Rng) (l : List α) (hf : ∀ p a, p.2.Ok → (f p a).2.Ok) :
    ∀ p, p.2.Ok → (l.foldl f p).2.Ok := by
  induction l with
  | nil => exact fun _ h => h
  | cons a l ih => exact fun p h => ih _ (hf p a h)

theorem Rng.drawMany_ok {r : Rng} (i n : Nat) (h : r.Ok) : (r.drawMany i n).2.Ok := by
  unfold Rng.drawMany
  refine Rng.foldl_snd_ok _ _ (fun p k hp => ?_) _ h
  exact Rng.drawFrom_ok _ _ _ hp

theorem bodyRandomGet_keeps {b0 : State} (len : Word) (c : Call) (t : State) (h_t : Keeps b0 t) :
    Keeps b0 (bodyRandomGet len c t) := by
  unfold bodyRandomGet
  refine Call.withRandom_keeps c _ _ _ _ t h_t ?_
  intro bs u hu
  exact Call.ok_keeps _ _ _ (State.setRng_keeps (fun h0 => Rng.drawMany_ok _ _ (hu.2.1 h0)) hu)

theorem cmdRandomGet_keeps {b0 : State} (mode : Mode) (h : CmdHdr) (len rsv : Word) (s : State) (h_s : Keeps b0 s) :
    Keeps b0 (cmdRandomGet mode h len rsv s) := by
  unfold cmdRandomGet
  repeat' first
    | (refine fun _ _ (h : Keeps _ _) => ?_)
    | (with_reducible first
        | assumption | apply bodyRandomGet_keeps | apply Call.run_keeps)
    | intro _

theorem execRandomGet_keeps {b0 : State} (h : CmdHdr) (len rsv : Word) (s : State) (u : State) (h_s : Keeps b0 s)
    (h_u : Keeps b0 u) :
    Keeps b0 (nextOr u (execRandomGet h len rsv s)) := by
  unfold execRandomGet
  repeat' first
    | (with_reducible first
        | assumption | apply cmdRandomGet_keeps | apply nextOr_next_keeps)
    | intro _

theorem bodyRngStatus_keeps {b0 : State} (c : Call) (t : State) (h_t : Keeps b0 t) :
    Keeps b0 (bodyRngStatus c t) := by
  unfold bodyRngStatus
  repeat' first | (with_reducible first | assumption | apply Call.ok_keeps) | intro _

theorem cmdRngStatus_keeps {b0 : State} (mode : Mode) (h : CmdHdr) (s : State) (h_s : Keeps b0 s) :
    Keeps b0 (cmdRngStatus mode h s) := by
  unfold cmdRngStatus
  repeat' first
    | (refine fun _ _ (h : Keeps _ _) => ?_)
    | (with_reducible first
        | assumption | apply bodyRngStatus_keeps | apply Call.run_keeps)
    | intro _

theorem execRngStatus_keeps {b0 : State} (h : CmdHdr) (s : State) (u : State) (h_s : Keeps b0 s) (h_u : Keeps b0 u) :
    Keeps b0 (nextOr u (execRngStatus h s)) := by
  unfold execRngStatus
  repeat' first
    | (with_reducible first
        | assumption | apply cmdRngStatus_keeps | apply nextOr_next_keeps)
    | intro _

theorem bodyRngAuditEnter_keeps {b0 : State} (c : Call) (t : State) (h_t : Keeps b0 t) :
    Keeps b0 (bodyRngAuditEnter c t) := by
  unfold bodyRngAuditEnter
  repeat' first
    | (with_reducible first
        | assumption | apply Call.ok_keeps | apply execAuditSet_keeps | apply nextOr_next_keeps)
    | intro _

theorem cmdRngAuditEnter_keeps {b0 : State} (mode : Mode) (h : CmdHdr) (qid rsv : Word) (s : State) (h_s : Keeps b0 s) :
    Keeps b0 (cmdRngAuditEnter mode h qid rsv s) := by
  unfold cmdRngAuditEnter
  repeat' first
    | (refine fun _ _ (h : Keeps _ _) => ?_)
    | (with_reducible first
        | assumption | apply bodyRngAuditEnter_keeps | apply Call.run_keeps)
    | intro _

theorem execRngAuditEnter_keeps {b0 : State} (h : CmdHdr) (qid rsv : Word) (s : State) (u : State) (h_s : Keeps b0 s)
    (h_u : Keeps b0 u) :
    Keeps b0 (nextOr u (execRngAuditEnter h qid rsv s)) := by
  unfold execRngAuditEnter
  repeat' first
    | (with_reducible first
        | assumption | apply cmdRngAuditEnter_keeps | apply nextOr_next_keeps)
    | intro _

theorem bodyRngAuditExit_keeps {b0 : State} (c : Call) (t : State) (h_t : Keeps b0 t) :
    Keeps b0 (bodyRngAuditExit c t) := by
  unfold bodyRngAuditExit
  repeat' first
    | (with_reducible first
        | assumption | apply Call.ok_keeps | apply execAuditClear_keeps | apply nextOr_next_keeps)
    | intro _

theorem cmdRngAuditExit_keeps {b0 : State} (mode : Mode) (h : CmdHdr) (s : State) (h_s : Keeps b0 s) :
    Keeps b0 (cmdRngAuditExit mode h s) := by
  unfold cmdRngAuditExit
  repeat' first
    | (refine fun _ _ (h : Keeps _ _) => ?_)
    | (with_reducible first
        | assumption | apply bodyRngAuditExit_keeps | apply Call.run_keeps)
    | intro _

theorem execRngAuditExit_keeps {b0 : State} (h : CmdHdr) (s : State) (u : State) (h_s : Keeps b0 s) (h_u : Keeps b0 u) :
    Keeps b0 (nextOr u (execRngAuditExit h s)) := by
  unfold execRngAuditExit
  repeat' first
    | (with_reducible first
        | assumption | apply cmdRngAuditExit_keeps | apply nextOr_next_keeps)
    | intro _

theorem bodyCardStatus_keeps {b0 : State} (kind index : Byte) (c : Call) (t : State) (h_t : Keeps b0 t) :
    Keeps b0 (bodyCardStatus kind index c t) := by
  unfold bodyCardStatus
  repeat' first | (with_reducible first | assumption | apply Call.ok_keeps) | intro _

theorem cmdCardStatus_keeps {b0 : State} (mode : Mode) (h : CmdHdr) (kind index : Byte) (rsv : BitVec 48) (s : State)
    (h_s : Keeps b0 s) :
    Keeps b0 (cmdCardStatus mode h kind index rsv s) := by
  unfold cmdCardStatus
  repeat' first
    | (refine fun _ _ (h : Keeps _ _) => ?_)
    | (with_reducible first
        | assumption | apply bodyCardStatus_keeps | apply Call.run_keeps)
    | intro _

theorem execCardStatus_keeps {b0 : State} (h : CmdHdr) (kind index : Byte) (rsv : BitVec 48) (s : State) (u : State)
    (h_s : Keeps b0 s) (h_u : Keeps b0 u) :
    Keeps b0 (nextOr u (execCardStatus h kind index rsv s)) := by
  unfold execCardStatus
  repeat' first
    | (with_reducible first
        | assumption | apply cmdCardStatus_keeps | apply nextOr_next_keeps)
    | intro _

theorem State.sdRecord_keeps {b0 : State} (p : Nat) (kind : Byte) (first count : Word) (digest : List Byte) (s : State)
    (h_s : Keeps b0 s) :
    Keeps b0 (State.sdRecord p kind first count digest s) := by
  unfold State.sdRecord
  repeat' first
    | (with_reducible first
        | assumption | apply Call.ok_keeps | apply State.updSd_keeps | apply State.sramWrite_keeps)
    | intro _ | split | (extract_lets x; refine (fun (hx : Keeps b0 x) => ?_) ?_; clear_value x) | extract_lets

theorem State.sdVoid_keeps {b0 : State} (p : Nat) (first count : Word) (s : State) (h_s : Keeps b0 s) :
    Keeps b0 (State.sdVoid p first count s) := by
  unfold State.sdVoid
  repeat' first
    | (with_reducible first
        | assumption | apply State.sdRecord_keeps | apply ite_keeps)
    | intro _ | split

theorem State.sdShort_keeps {b0 : State} (p : Nat) (first count : Word) (confirmed : Nat) (s : State) (h_s : Keeps b0 s) :
    Keeps b0 (State.sdShort p first count confirmed s) := by
  unfold State.sdShort
  repeat' first
    | (refine fun _ _ (h : Keeps _ _) => ?_)
    | (with_reducible first
        | assumption | apply State.sdVoid_keeps | apply State.updSd_keeps | apply State.draw_keeps | apply ite_keeps)
    | intro _ | split

theorem bodyCardRead_keeps {b0 : State} (port : Byte) (first count : Word) (io : CardIo) (c : Call) (t : State)
    (h_t : Keeps b0 t) :
    Keeps b0 (bodyCardRead port first count io c t) := by
  unfold bodyCardRead
  repeat' first
    | (refine fun _ (h : Keeps _ _) => ?_)
    | (with_reducible first
        | assumption | apply State.sdShort_keeps | apply State.sdVoid_keeps | apply Call.sdMove_keeps | apply State.sdGone_keeps
        | apply Call.cardWait_keeps | apply Call.fail_keeps | apply Call.ok_keeps | apply ite_keeps)
    | intro _ | split | (extract_lets x; refine (fun (hx : Keeps b0 x) => ?_) ?_; clear_value x) | extract_lets

theorem cmdCardRead_keeps {b0 : State} (mode : Mode) (h : CmdHdr) (port : Byte) (rsv : BitVec 24) (first count rsv2 : Word) (io :
    CardIo) (s : State) (h_s : Keeps b0 s) :
    Keeps b0 (cmdCardRead mode h port rsv first count rsv2 io s) := by
  unfold cmdCardRead
  repeat' first
    | (refine fun _ _ (h : Keeps _ _) => ?_)
    | (with_reducible first
        | assumption | apply bodyCardRead_keeps | apply Call.run_keeps)
    | intro _

theorem execCardRead_keeps {b0 : State} (h : CmdHdr) (port : Byte) (rsv : BitVec 24) (first count rsv2 : Word) (io : CardIo) (s :
    State) (u : State) (h_s : Keeps b0 s) (h_u : Keeps b0 u) :
    Keeps b0 (nextOr u (execCardRead h port rsv first count rsv2 io s)) := by
  unfold execCardRead
  repeat' first
    | (with_reducible first
        | assumption | apply cmdCardRead_keeps | apply nextOr_next_keeps)
    | intro _

theorem bodyCardWrite_keeps {b0 : State} (port : Byte) (first count : Word) (data : List Byte) (io : CardIo) (c : Call) (t :
    State) (h_t : Keeps b0 t) :
    Keeps b0 (bodyCardWrite port first count data io c t) := by
  unfold bodyCardWrite
  repeat' first
    | (refine fun _ (h : Keeps _ _) => ?_)
    | (with_reducible first
        | assumption | apply State.sdShort_keeps | apply State.sdVoid_keeps | apply State.sdRecord_keeps
        | apply Call.sdMove_keeps | apply State.sdGone_keeps | apply Call.cardWait_keeps | apply Call.fail_keeps
        | apply Call.ok_keeps | apply State.updSd_keeps | apply ite_keeps)
    | intro _ | split | (extract_lets x; refine (fun (hx : Keeps b0 x) => ?_) ?_; clear_value x) | extract_lets

theorem cmdCardWrite_keeps {b0 : State} (mode : Mode) (h : CmdHdr) (port : Byte) (rsv : BitVec 24) (first count rsv2 : Word)
    (data : List Byte) (io : CardIo) (s : State) (h_s : Keeps b0 s) :
    Keeps b0 (cmdCardWrite mode h port rsv first count rsv2 data io s) := by
  unfold cmdCardWrite
  repeat' first
    | (refine fun _ _ (h : Keeps _ _) => ?_)
    | (with_reducible first
        | assumption | apply bodyCardWrite_keeps | apply Call.run_keeps)
    | intro _

theorem execCardWrite_keeps {b0 : State} (h : CmdHdr) (port : Byte) (rsv : BitVec 24) (first count rsv2 : Word) (data : List
    Byte) (io : CardIo) (s : State) (u : State) (h_s : Keeps b0 s) (h_u : Keeps b0 u) :
    Keeps b0 (nextOr u (execCardWrite h port rsv first count rsv2 data io s)) := by
  unfold execCardWrite
  repeat' first
    | (with_reducible first
        | assumption | apply cmdCardWrite_keeps | apply nextOr_next_keeps)
    | intro _

theorem bodyIccApdu_keeps {b0 : State} (slot : Byte) (len : Word) (apdu : List Byte) (io : ApduIo) (c : Call) (t : State)
    (h_t : Keeps b0 t) :
    Keeps b0 (bodyIccApdu slot len apdu io c t) := by
  unfold bodyIccApdu
  repeat' first
    | (refine fun _ (h : Keeps _ _) => ?_)
    | (with_reducible first
        | assumption | apply State.iccGone_keeps | apply Call.iccMove_keeps | apply Call.withIcc_keeps | apply Call.fail_keeps
        | apply Call.ok_keeps | apply State.updIcc_keeps | apply State.eventFree_keeps | apply ite_keeps)
    | intro _ | split | (extract_lets x; refine (fun (hx : Keeps b0 x) => ?_) ?_; clear_value x) | extract_lets

theorem cmdIccApdu_keeps {b0 : State} (mode : Mode) (h : CmdHdr) (slot : Byte) (rsv : BitVec 24) (len : Word) (apdu : List Byte)
    (io : ApduIo) (s : State) (h_s : Keeps b0 s) :
    Keeps b0 (cmdIccApdu mode h slot rsv len apdu io s) := by
  unfold cmdIccApdu
  repeat' first
    | (refine fun _ _ (h : Keeps _ _) => ?_)
    | (with_reducible first
        | assumption | apply bodyIccApdu_keeps | apply Call.run_keeps)
    | intro _

theorem execIccApdu_keeps {b0 : State} (h : CmdHdr) (slot : Byte) (rsv : BitVec 24) (len : Word) (apdu : List Byte) (io : ApduIo)
    (s : State) (u : State) (h_s : Keeps b0 s) (h_u : Keeps b0 u) :
    Keeps b0 (nextOr u (execIccApdu h slot rsv len apdu io s)) := by
  unfold execIccApdu
  repeat' first
    | (with_reducible first
        | assumption | apply cmdIccApdu_keeps | apply nextOr_next_keeps)
    | intro _

theorem bodyBadgePoll_keeps {b0 : State} (io : PollIo) (c : Call) (t : State) (h_t : Keeps b0 t) :
    Keeps b0 (bodyBadgePoll io c t) := by
  unfold bodyBadgePoll
  repeat' first
    | (with_reducible first
        | assumption | apply Call.fail_keeps | apply Call.ok_keeps | apply State.withCls_keeps | apply ite_keeps)
    | intro _ | split

theorem cmdBadgePoll_keeps {b0 : State} (mode : Mode) (h : CmdHdr) (io : PollIo) (s : State) (h_s : Keeps b0 s) :
    Keeps b0 (cmdBadgePoll mode h io s) := by
  unfold cmdBadgePoll
  repeat' first
    | (refine fun _ _ (h : Keeps _ _) => ?_)
    | (with_reducible first
        | assumption | apply bodyBadgePoll_keeps | apply Call.run_keeps)
    | intro _

theorem execBadgePoll_keeps {b0 : State} (h : CmdHdr) (io : PollIo) (s : State) (u : State) (h_s : Keeps b0 s)
    (h_u : Keeps b0 u) :
    Keeps b0 (nextOr u (execBadgePoll h io s)) := by
  unfold execBadgePoll
  repeat' first
    | (with_reducible first
        | assumption | apply cmdBadgePoll_keeps | apply nextOr_next_keeps)
    | intro _

theorem bodyTagPost_keeps {b0 : State} (page : Byte) (data : List Byte) (c : Call) (t : State) (h_t : Keeps b0 t) :
    Keeps b0 (bodyTagPost page data c t) := by
  unfold bodyTagPost
  repeat' first
    | (with_reducible first
        | assumption | apply Call.wait_keeps | apply Call.ok_keeps | apply State.tagCommit_keeps | apply State.withIns_keeps
        | apply ite_keeps)
    | intro _ | split | (extract_lets x; refine (fun (hx : Keeps b0 x) => ?_) ?_; clear_value x) | extract_lets

theorem cmdTagPost_keeps {b0 : State} (mode : Mode) (h : CmdHdr) (page count : Byte) (rsv : BitVec 48) (data : List Byte) (s :
    State) (h_s : Keeps b0 s) :
    Keeps b0 (cmdTagPost mode h page count rsv data s) := by
  unfold cmdTagPost
  repeat' first
    | (refine fun _ _ (h : Keeps _ _) => ?_)
    | (with_reducible first
        | assumption | apply bodyTagPost_keeps | apply Call.run_keeps)
    | intro _

theorem execTagPost_keeps {b0 : State} (h : CmdHdr) (page count : Byte) (rsv : BitVec 48) (data : List Byte) (s : State) (u :
    State) (h_s : Keeps b0 s) (h_u : Keeps b0 u) :
    Keeps b0 (nextOr u (execTagPost h page count rsv data s)) := by
  unfold execTagPost
  repeat' first
    | (with_reducible first
        | assumption | apply cmdTagPost_keeps | apply nextOr_next_keeps)
    | intro _

theorem bodyTagReadNotes_keeps {b0 : State} (first count : Byte) (c : Call) (t : State) (h_t : Keeps b0 t) :
    Keeps b0 (bodyTagReadNotes first count c t) := by
  unfold bodyTagReadNotes
  repeat' first
    | (with_reducible first
        | assumption | apply Call.wait_keeps | apply Call.ok_keeps | apply ite_keeps)
    | intro _ | split | (extract_lets x; refine (fun (hx : Keeps b0 x) => ?_) ?_; clear_value x) | extract_lets

theorem cmdTagReadNotes_keeps {b0 : State} (mode : Mode) (h : CmdHdr) (first count : Byte) (rsv : BitVec 48) (s : State)
    (h_s : Keeps b0 s) :
    Keeps b0 (cmdTagReadNotes mode h first count rsv s) := by
  unfold cmdTagReadNotes
  repeat' first
    | (refine fun _ _ (h : Keeps _ _) => ?_)
    | (with_reducible first
        | assumption | apply bodyTagReadNotes_keeps | apply Call.run_keeps)
    | intro _

theorem execTagReadNotes_keeps {b0 : State} (h : CmdHdr) (first count : Byte) (rsv : BitVec 48) (s : State) (u : State)
    (h_s : Keeps b0 s) (h_u : Keeps b0 u) :
    Keeps b0 (nextOr u (execTagReadNotes h first count rsv s)) := by
  unfold execTagReadNotes
  repeat' first
    | (with_reducible first
        | assumption | apply cmdTagReadNotes_keeps | apply nextOr_next_keeps)
    | intro _

theorem bodyTagSetAuditKey_keeps {b0 : State} (len : Word) (blob : List Byte) (c : Call) (t : State) (h_t : Keeps b0 t) :
    Keeps b0 (bodyTagSetAuditKey len blob c t) := by
  unfold bodyTagSetAuditKey
  repeat' first
    | (with_reducible first
        | assumption | apply Call.fail_keeps | apply Call.ok_keeps | apply State.audLoad_keeps | apply State.withIns_keeps
        | apply State.withKeys_keeps | apply ite_keeps)
    | intro _ | split | (extract_lets x; refine (fun (hx : Keeps b0 x) => ?_) ?_; clear_value x) | extract_lets

theorem cmdTagSetAuditKey_keeps {b0 : State} (mode : Mode) (h : CmdHdr) (len rsv : Word) (blob : List Byte) (s : State)
    (h_s : Keeps b0 s) :
    Keeps b0 (cmdTagSetAuditKey mode h len rsv blob s) := by
  unfold cmdTagSetAuditKey
  repeat' first
    | (refine fun _ _ (h : Keeps _ _) => ?_)
    | (with_reducible first
        | assumption | apply bodyTagSetAuditKey_keeps | apply Call.run_keeps)
    | intro _

theorem execTagSetAuditKey_keeps {b0 : State} (h : CmdHdr) (len rsv : Word) (blob : List Byte) (s : State) (u : State)
    (h_s : Keeps b0 s) (h_u : Keeps b0 u) :
    Keeps b0 (nextOr u (execTagSetAuditKey h len rsv blob s)) := by
  unfold execTagSetAuditKey
  repeat' first
    | (with_reducible first
        | assumption | apply cmdTagSetAuditKey_keeps | apply nextOr_next_keeps)
    | intro _

theorem Call.rootSigned_keeps {b0 : State} (c : Call) (m : Membership) (text ec dsa : List Byte) (k : Bool → State → State) (s :
    State) (h_s : Keeps b0 s) (h_k : ∀ x0 t', Keeps b0 t' → Keeps b0 (k x0 t')) :
    Keeps b0 (Call.rootSigned c m text ec dsa k s) := by
  unfold Call.rootSigned
  repeat' first | (refine fun _ _ (h : Keeps _ _) => ?_) | (with_reducible first | assumption | apply h_k | apply Call.verified_keeps) | intro _

theorem Call.memberVerified_keeps {b0 : State} (c : Call) (b : List Byte) (base : Nat) (k : Option (Half × Word) → State → State)
    (s : State) (h_s : Keeps b0 s) (h_k : ∀ x0 t', Keeps b0 t' → Keeps b0 (k x0 t')) :
    Keeps b0 (Call.memberVerified c b base k s) := by
  unfold Call.memberVerified
  repeat' first
    | (refine fun _ _ (h : Keeps _ _) => ?_)
    | (with_reducible first
        | assumption | apply h_k | apply Call.rootSigned_keeps | apply ite_keeps)
    | exact h | intro _ | split | (extract_lets x; refine (fun (hx : Keeps b0 x) => ?_) ?_; clear_value x) | extract_lets

theorem State.toRecovery_keeps {b0 : State} (s : State) (h_s : Keeps b0 s) :
    Keeps b0 (State.toRecovery s) := by
  unfold State.toRecovery
  repeat' first
    | (refine fun _ _ (h : Keeps _ _) => ?_)
    | (with_reducible first
        | assumption | apply Call.start_keeps | apply State.setPhase_keeps | apply ite_keeps)
    | intro _ | split

theorem Call.loadKey_keeps {b0 : State} (c : Call) (slot : Option Nat) (b : List Byte) (s : State) (h_s : Keeps b0 s) :
    Keeps b0 (Call.loadKey c slot b s) := by
  unfold Call.loadKey
  repeat' first
    | (with_reducible first
        | assumption | apply State.toRecovery_keeps | apply Call.keyMade_keeps | apply Call.fail_keeps | apply Call.ok_keeps
        | apply State.weltStart_keeps | apply State.withKeys_keeps | apply ite_keeps)
    | intro _ | split | (extract_lets x; refine (fun (hx : Keeps b0 x) => ?_) ?_; clear_value x) | extract_lets

theorem Call.loadMember_keeps {b0 : State} (c : Call) (slot : Option Nat) (b : List Byte) (s : State) (h_s : Keeps b0 s) :
    Keeps b0 (Call.loadMember c slot b s) := by
  unfold Call.loadMember
  repeat' first
    | (refine fun _ _ (h : Keeps _ _) => ?_)
    | (with_reducible first
        | assumption | apply State.toRecovery_keeps | apply Call.memberVerified_keeps | apply Call.fail_keeps
        | apply Call.ok_keeps | apply State.withFw_keeps | apply ite_keeps)
    | intro _ | split | (extract_lets x; refine (fun (hx : Keeps b0 x) => ?_) ?_; clear_value x) | extract_lets

theorem bodyKeyLoad_keeps {b0 : State} (slot : Half) (blobLen : Word) (blob : List Byte) (c : Call) (t : State)
    (h_t : Keeps b0 t) :
    Keeps b0 (bodyKeyLoad slot blobLen blob c t) := by
  unfold bodyKeyLoad
  repeat' first
    | (with_reducible first
        | assumption | apply Call.loadMember_keeps | apply Call.loadKey_keeps | apply ite_keeps)
    | intro _ | split | (extract_lets x; refine (fun (hx : Keeps b0 x) => ?_) ?_; clear_value x) | extract_lets

theorem cmdKeyLoad_keeps {b0 : State} (mode : Mode) (h : CmdHdr) (slot rsv : Half) (blobLen : Word) (blob : List Byte) (s :
    State) (h_s : Keeps b0 s) :
    Keeps b0 (cmdKeyLoad mode h slot rsv blobLen blob s) := by
  unfold cmdKeyLoad
  repeat' first
    | (refine fun _ _ (h : Keeps _ _) => ?_)
    | (with_reducible first
        | assumption | apply bodyKeyLoad_keeps | apply Call.run_keeps)
    | intro _

theorem execKeyLoad_keeps {b0 : State} (h : CmdHdr) (slot rsv : Half) (blobLen : Word) (blob : List Byte) (s : State) (u : State)
    (h_s : Keeps b0 s) (h_u : Keeps b0 u) :
    Keeps b0 (nextOr u (execKeyLoad h slot rsv blobLen blob s)) := by
  unfold execKeyLoad
  repeat' first
    | (with_reducible first
        | assumption | apply cmdKeyLoad_keeps | apply nextOr_next_keeps)
    | intro _

theorem State.joined_keeps {b0 : State} (m : Membership) (dkId : Long) (dk ik : List Byte) (s : State) (h_s : Keeps b0 s) :
    Keeps b0 (State.joined m dkId dk ik s) := by
  unfold State.joined
  repeat' first
    | (with_reducible first
        | assumption | apply State.withInsole_keeps | apply State.withKeys_keeps | apply State.withFw_keeps)
    | intro _ | split | (extract_lets x; refine (fun (hx : Keeps b0 x) => ?_) ?_; clear_value x) | extract_lets

theorem bodyDomainJoin_keeps {b0 : State} (qid mLen dLen rsv : Word) (m d : List Byte) (c : Call) (t : State) (h_t : Keeps b0 t) :
    Keeps b0 (bodyDomainJoin qid mLen dLen rsv m d c t) := by
  unfold bodyDomainJoin
  repeat' first
    | (refine fun _ (h : Keeps _ _) => ?_)
    | (refine fun _ _ (h : Keeps _ _) => ?_)
    | (with_reducible first
        | assumption | apply State.joined_keeps | apply Call.memberVerified_keeps | apply Call.engineGrant_keeps
        | apply Call.withRandom_keeps | apply Call.withTicket_keeps | apply Call.fail_keeps | apply Call.ok_keeps
        | apply State.instDraw_keeps | apply ite_keeps)
    | intro _ | split | (extract_lets x; refine (fun (hx : Keeps b0 x) => ?_) ?_; clear_value x) | extract_lets

theorem cmdDomainJoin_keeps {b0 : State} (mode : Mode) (h : CmdHdr) (qid mLen dLen rsv : Word) (m d : List Byte) (s : State)
    (h_s : Keeps b0 s) :
    Keeps b0 (cmdDomainJoin mode h qid mLen dLen rsv m d s) := by
  unfold cmdDomainJoin
  repeat' first
    | (refine fun _ _ (h : Keeps _ _) => ?_)
    | (with_reducible first
        | assumption | apply bodyDomainJoin_keeps | apply Call.run_keeps)
    | intro _

theorem execDomainJoin_keeps {b0 : State} (h : CmdHdr) (qid mLen dLen rsv : Word) (m d : List Byte) (s : State) (u : State)
    (h_s : Keeps b0 s) (h_u : Keeps b0 u) :
    Keeps b0 (nextOr u (execDomainJoin h qid mLen dLen rsv m d s)) := by
  unfold execDomainJoin
  repeat' first
    | (with_reducible first
        | assumption | apply cmdDomainJoin_keeps | apply nextOr_next_keeps)
    | intro _

theorem bodyEpochFloor_keeps {b0 : State} (device : Half) (floor : Word) (sig : List Byte) (c : Call) (t : State)
    (h_t : Keeps b0 t) :
    Keeps b0 (bodyEpochFloor device floor sig c t) := by
  unfold bodyEpochFloor
  repeat' first
    | (refine fun _ _ (h : Keeps _ _) => ?_)
    | (with_reducible first
        | assumption | apply Call.rootSigned_keeps | apply Call.fail_keeps | apply Call.ok_keeps | apply State.applyFloor_keeps
        | apply ite_keeps)
    | intro _ | split | (extract_lets x; refine (fun (hx : Keeps b0 x) => ?_) ?_; clear_value x) | extract_lets

theorem cmdEpochFloor_keeps {b0 : State} (mode : Mode) (h : CmdHdr) (device rsv : Half) (floor sigLen rsv2 : Word) (sig : List
    Byte) (s : State) (h_s : Keeps b0 s) :
    Keeps b0 (cmdEpochFloor mode h device rsv floor sigLen rsv2 sig s) := by
  unfold cmdEpochFloor
  repeat' first
    | (refine fun _ _ (h : Keeps _ _) => ?_)
    | (with_reducible first
        | assumption | apply bodyEpochFloor_keeps | apply Call.run_keeps)
    | intro _

theorem execEpochFloor_keeps {b0 : State} (h : CmdHdr) (device rsv : Half) (floor sigLen rsv2 : Word) (sig : List Byte) (s :
    State) (u : State) (h_s : Keeps b0 s) (h_u : Keeps b0 u) :
    Keeps b0 (nextOr u (execEpochFloor h device rsv floor sigLen rsv2 sig s)) := by
  unfold execEpochFloor
  repeat' first
    | (with_reducible first
        | assumption | apply cmdEpochFloor_keeps | apply nextOr_next_keeps)
    | intro _

theorem bodyPairBind_keeps {b0 : State} (partner : Half) (c : Call) (t : State) (h_t : Keeps b0 t) :
    Keeps b0 (bodyPairBind partner c t) := by
  unfold bodyPairBind
  repeat' first
    | (with_reducible first
        | assumption | apply Call.wait_keeps | apply Call.fail_keeps | apply ite_keeps)
    | intro _ | split

theorem cmdPairBind_keeps {b0 : State} (mode : Mode) (h : CmdHdr) (qid : Word) (partner rsv : Half) (s : State)
    (h_s : Keeps b0 s) :
    Keeps b0 (cmdPairBind mode h qid partner rsv s) := by
  unfold cmdPairBind
  repeat' first
    | (refine fun _ _ (h : Keeps _ _) => ?_)
    | (with_reducible first
        | assumption | apply bodyPairBind_keeps | apply Call.run_keeps)
    | intro _

theorem execPairBind_keeps {b0 : State} (h : CmdHdr) (qid : Word) (partner rsv : Half) (s : State) (u : State)
    (h_s : Keeps b0 s) (h_u : Keeps b0 u) :
    Keeps b0 (nextOr u (execPairBind h qid partner rsv s)) := by
  unfold execPairBind
  repeat' first
    | (with_reducible first
        | assumption | apply cmdPairBind_keeps | apply nextOr_next_keeps)
    | intro _

theorem State.bound_keeps {b0 : State} (w : Waiting) (key : List Byte) (elapsed : Word) (s : State) (h_s : Keeps b0 s) :
    Keeps b0 (State.bound w key elapsed s) := by
  unfold State.bound
  repeat' first
    | (with_reducible first
        | assumption | apply Call.ok_keeps | apply State.respondAs_keeps | apply State.weltStart_keeps
        | apply State.withKeys_keeps | apply State.withFw_keeps | apply ite_keeps)
    | intro _ | split | (extract_lets x; refine (fun (hx : Keeps b0 x) => ?_) ?_; clear_value x) | extract_lets

theorem execBind_keeps {b0 : State} (fr : WeltRx) (elapsed : Word) (s : State) (u : State) (h_s : Keeps b0 s) (h_u : Keeps b0 u) :
    Keeps b0 (nextOr u (execBind fr elapsed s)) := by
  unfold execBind
  repeat' first
    | (refine fun _ _ (h : Keeps _ _) => ?_)
    | (with_reducible first
        | assumption | apply State.bound_keeps | apply State.weltClear_keeps | apply State.instDraw_keeps
        | apply State.weltBoth_keeps | apply nextOr_next_keeps | apply ite_keeps)
    | intro _ | split | (extract_lets x; refine (fun (hx : Keeps b0 x) => ?_) ?_; clear_value x) | extract_lets

theorem bodyPairStatus_keeps {b0 : State} (c : Call) (t : State) (h_t : Keeps b0 t) :
    Keeps b0 (bodyPairStatus c t) := by
  unfold bodyPairStatus
  repeat' first | (with_reducible first | assumption | apply Call.ok_keeps) | intro _

theorem cmdPairStatus_keeps {b0 : State} (mode : Mode) (h : CmdHdr) (s : State) (h_s : Keeps b0 s) :
    Keeps b0 (cmdPairStatus mode h s) := by
  unfold cmdPairStatus
  repeat' first
    | (refine fun _ _ (h : Keeps _ _) => ?_)
    | (with_reducible first
        | assumption | apply bodyPairStatus_keeps | apply Call.run_keeps)
    | intro _

theorem execPairStatus_keeps {b0 : State} (h : CmdHdr) (s : State) (u : State) (h_s : Keeps b0 s) (h_u : Keeps b0 u) :
    Keeps b0 (nextOr u (execPairStatus h s)) := by
  unfold execPairStatus
  repeat' first
    | (with_reducible first
        | assumption | apply cmdPairStatus_keeps | apply nextOr_next_keeps)
    | intro _

theorem State.sendDepart_keeps {b0 : State} (reason : Byte) (s : State) (h_s : Keeps b0 s) :
    Keeps b0 (State.sendDepart reason s) := by
  unfold State.sendDepart
  repeat' first | (with_reducible first | assumption | apply State.sendItem_keeps) | intro _

theorem State.give_keeps {b0 : State} (s : State) (h_s : Keeps b0 s) :
    Keeps b0 (State.give s) := by
  unfold State.give
  repeat' first
    | (refine fun _ (h : Keeps _ _) => ?_)
    | (with_reducible first
        | assumption | apply State.sendDepart_keeps | apply State.pairChange_keeps | apply State.sendRecord_keeps
        | apply State.abandonJob_keeps | apply State.withWelt_keeps | apply State.withSole_keeps | apply State.withRings_keeps
        | apply foldl_keeps)
    | intro _ | split | (extract_lets x; refine (fun (hx : Keeps b0 x) => ?_) ?_; clear_value x) | extract_lets

theorem State.takenBack_keeps {b0 : State} (s : State) (h_s : Keeps b0 s) :
    Keeps b0 (State.takenBack s) := by
  unfold State.takenBack
  repeat' first
    | (with_reducible first
        | assumption | apply State.enterPair_keeps | apply State.withRings_keeps)
    | intro _

theorem bodyPairHandover_keeps {b0 : State} (dir : Byte) (c : Call) (t : State) (h_t : Keeps b0 t) :
    Keeps b0 (bodyPairHandover dir c t) := by
  unfold bodyPairHandover
  repeat' first
    | (with_reducible first
        | assumption | apply State.give_keeps | apply State.sendDepart_keeps | apply Call.wait_keeps | apply Call.fail_keeps
        | apply State.withWelt_keeps | apply ite_keeps)
    | intro _ | split | (extract_lets x; refine (fun (hx : Keeps b0 x) => ?_) ?_; clear_value x) | extract_lets

theorem cmdPairHandover_keeps {b0 : State} (mode : Mode) (h : CmdHdr) (dir : Byte) (rsv : BitVec 56) (s : State)
    (h_s : Keeps b0 s) :
    Keeps b0 (cmdPairHandover mode h dir rsv s) := by
  unfold cmdPairHandover
  repeat' first
    | (refine fun _ _ (h : Keeps _ _) => ?_)
    | (with_reducible first
        | assumption | apply bodyPairHandover_keeps | apply Call.run_keeps)
    | intro _

theorem execPairHandover_keeps {b0 : State} (h : CmdHdr) (dir : Byte) (rsv : BitVec 56) (s : State) (u : State)
    (h_s : Keeps b0 s) (h_u : Keeps b0 u) :
    Keeps b0 (nextOr u (execPairHandover h dir rsv s)) := by
  unfold execPairHandover
  repeat' first
    | (with_reducible first
        | assumption | apply cmdPairHandover_keeps | apply nextOr_next_keeps)
    | intro _

theorem State.retable_keeps {b0 : State} (f : Bank Byte → Bank Byte) (s : State) (h_s : Keeps b0 s) :
    Keeps b0 (State.retable f s) := by
  unfold State.retable
  repeat' first
    | (with_reducible first
        | assumption | apply State.updCore_keeps | apply foldl_keeps)
    | intro _

theorem bodyDeviceInfo_keeps {b0 : State} (c : Call) (t : State) (h_t : Keeps b0 t) :
    Keeps b0 (bodyDeviceInfo c t) := by
  unfold bodyDeviceInfo
  repeat' first
    | (refine fun _ _ (h : Keeps _ _) => ?_)
    | (with_reducible first
        | assumption | apply Call.ok_keeps | apply State.draw_keeps | apply ite_keeps)
    | intro _ | split

theorem cmdDeviceInfo_keeps {b0 : State} (mode : Mode) (h : CmdHdr) (s : State) (h_s : Keeps b0 s) :
    Keeps b0 (cmdDeviceInfo mode h s) := by
  unfold cmdDeviceInfo
  repeat' first
    | (refine fun _ _ (h : Keeps _ _) => ?_)
    | (with_reducible first
        | assumption | apply bodyDeviceInfo_keeps | apply Call.run_keeps)
    | intro _

theorem execDeviceInfo_keeps {b0 : State} (h : CmdHdr) (s : State) (u : State) (h_s : Keeps b0 s) (h_u : Keeps b0 u) :
    Keeps b0 (nextOr u (execDeviceInfo h s)) := by
  unfold execDeviceInfo
  repeat' first
    | (with_reducible first
        | assumption | apply cmdDeviceInfo_keeps | apply nextOr_next_keeps)
    | intro _

theorem bodyAttestGet_keeps {b0 : State} (alg : Byte) (c : Call) (t : State) (h_t : Keeps b0 t) :
    Keeps b0 (bodyAttestGet alg c t) := by
  unfold bodyAttestGet
  repeat' first
    | (refine fun _ _ (h : Keeps _ _) => ?_)
    | (with_reducible first
        | assumption | apply Call.attested_keeps | apply Call.fail_keeps | apply Call.ok_keeps | apply State.draw_keeps
        | apply ite_keeps)
    | intro _ | split

theorem cmdAttestGet_keeps {b0 : State} (mode : Mode) (h : CmdHdr) (alg : Byte) (rsv : BitVec 24) (mask : Word) (nonce : BitVec
    256) (s : State) (h_s : Keeps b0 s) :
    Keeps b0 (cmdAttestGet mode h alg rsv mask nonce s) := by
  unfold cmdAttestGet
  repeat' first
    | (refine fun _ _ (h : Keeps _ _) => ?_)
    | (with_reducible first
        | assumption | apply bodyAttestGet_keeps | apply Call.run_keeps)
    | intro _

theorem execAttestGet_keeps {b0 : State} (h : CmdHdr) (alg : Byte) (rsv : BitVec 24) (mask : Word) (nonce : BitVec 256) (s :
    State) (u : State) (h_s : Keeps b0 s) (h_u : Keeps b0 u) :
    Keeps b0 (nextOr u (execAttestGet h alg rsv mask nonce s)) := by
  unfold execAttestGet
  repeat' first
    | (with_reducible first
        | assumption | apply cmdAttestGet_keeps | apply nextOr_next_keeps)
    | intro _

theorem bodyMeasRead_keeps {b0 : State} (index : Byte) (c : Call) (t : State) (h_t : Keeps b0 t) :
    Keeps b0 (bodyMeasRead index c t) := by
  unfold bodyMeasRead
  repeat' first
    | (with_reducible first
        | assumption | apply Call.ok_keeps)
    | intro _ | split | (extract_lets x; refine (fun (hx : Keeps b0 x) => ?_) ?_; clear_value x) | extract_lets

theorem cmdMeasRead_keeps {b0 : State} (mode : Mode) (h : CmdHdr) (index : Byte) (rsv : BitVec 56) (s : State)
    (h_s : Keeps b0 s) :
    Keeps b0 (cmdMeasRead mode h index rsv s) := by
  unfold cmdMeasRead
  repeat' first
    | (refine fun _ _ (h : Keeps _ _) => ?_)
    | (with_reducible first
        | assumption | apply bodyMeasRead_keeps | apply Call.run_keeps)
    | intro _

theorem execMeasRead_keeps {b0 : State} (h : CmdHdr) (index : Byte) (rsv : BitVec 56) (s : State) (u : State)
    (h_s : Keeps b0 s) (h_u : Keeps b0 u) :
    Keeps b0 (nextOr u (execMeasRead h index rsv s)) := by
  unfold execMeasRead
  repeat' first
    | (with_reducible first
        | assumption | apply cmdMeasRead_keeps | apply nextOr_next_keeps)
    | intro _

theorem State.installModule_keeps {b0 : State} (decode : Bool) (version : Byte) (ops p : List Byte) (s : State)
    (h_s : Keeps b0 s) :
    Keeps b0 (State.installModule decode version ops p s) := by
  unfold State.installModule
  repeat' first | (with_reducible first | assumption | apply State.withFw_keeps) | intro _

theorem State.installPackage_keeps {b0 : State} (p : List Byte) (s : State) (h_s : Keeps b0 s) :
    Keeps b0 (State.installPackage p s) := by
  unfold State.installPackage
  repeat' first
    | (with_reducible first
        | assumption | apply State.installModule_keeps | apply State.retable_keeps | apply foldl_keeps)
    | intro _ | split | (extract_lets x; refine (fun (hx : Keeps b0 x) => ?_) ?_; clear_value x) | extract_lets

theorem Call.moduleId_keeps {b0 : State} (c : Call) (k : State → State) (s : State) (h_s : Keeps b0 s)
    (h_k : ∀  t', Keeps b0 t' → Keeps b0 (k  t')) :
    Keeps b0 (Call.moduleId c k s) := by
  unfold Call.moduleId
  repeat' first
    | (with_reducible first
        | assumption | apply h_k | apply Call.fail_keeps | apply Call.ok_keeps)
    | intro _ | split

theorem bodyExtLoad_keeps {b0 : State} (qid len : Word) (p : List Byte) (c : Call) (t : State) (h_t : Keeps b0 t) :
    Keeps b0 (bodyExtLoad qid len p c t) := by
  unfold bodyExtLoad
  repeat' first
    | (refine fun _ (h : Keeps _ _) => ?_)
    | (refine fun _ _ (h : Keeps _ _) => ?_)
    | (with_reducible first
        | assumption | apply Call.moduleId_keeps | apply State.installPackage_keeps | apply State.installModule_keeps
        | apply Call.rootSigned_keeps | apply Call.withTicket_keeps | apply Call.fail_keeps | apply ite_keeps)
    | intro _ | split | (extract_lets x; refine (fun (hx : Keeps b0 x) => ?_) ?_; clear_value x) | extract_lets

theorem cmdExtLoad_keeps {b0 : State} (mode : Mode) (h : CmdHdr) (qid len : Word) (p : List Byte) (s : State) (h_s : Keeps b0 s) :
    Keeps b0 (cmdExtLoad mode h qid len p s) := by
  unfold cmdExtLoad
  repeat' first
    | (refine fun _ _ (h : Keeps _ _) => ?_)
    | (with_reducible first
        | assumption | apply bodyExtLoad_keeps | apply Call.run_keeps)
    | intro _

theorem execExtLoad_keeps {b0 : State} (h : CmdHdr) (qid len : Word) (p : List Byte) (s : State) (u : State)
    (h_s : Keeps b0 s) (h_u : Keeps b0 u) :
    Keeps b0 (nextOr u (execExtLoad h qid len p s)) := by
  unfold execExtLoad
  repeat' first
    | (with_reducible first
        | assumption | apply cmdExtLoad_keeps | apply nextOr_next_keeps)
    | intro _

theorem bodyExtUnload_keeps {b0 : State} (moduleId : Word) (c : Call) (t : State) (h_t : Keeps b0 t) :
    Keeps b0 (bodyExtUnload moduleId c t) := by
  unfold bodyExtUnload
  repeat' first
    | (with_reducible first
        | assumption | apply State.retable_keeps | apply Call.fail_keeps | apply Call.ok_keeps | apply State.withFw_keeps
        | apply foldl_keeps)
    | intro _ | split

theorem cmdExtUnload_keeps {b0 : State} (mode : Mode) (h : CmdHdr) (moduleId rsv : Word) (s : State) (h_s : Keeps b0 s) :
    Keeps b0 (cmdExtUnload mode h moduleId rsv s) := by
  unfold cmdExtUnload
  repeat' first
    | (refine fun _ _ (h : Keeps _ _) => ?_)
    | (with_reducible first
        | assumption | apply bodyExtUnload_keeps | apply Call.run_keeps)
    | intro _

theorem execExtUnload_keeps {b0 : State} (h : CmdHdr) (moduleId rsv : Word) (s : State) (u : State) (h_s : Keeps b0 s)
    (h_u : Keeps b0 u) :
    Keeps b0 (nextOr u (execExtUnload h moduleId rsv s)) := by
  unfold execExtUnload
  repeat' first
    | (with_reducible first
        | assumption | apply cmdExtUnload_keeps | apply nextOr_next_keeps)
    | intro _

theorem bodyFwStage_keeps {b0 : State} (addr : Long) (len : Word) (c : Call) (t : State) (h_t : Keeps b0 t) :
    Keeps b0 (bodyFwStage addr len c t) := by
  unfold bodyFwStage
  repeat' first
    | (with_reducible first
        | assumption | apply Call.wait_keeps | apply Call.fail_keeps | apply ite_keeps)
    | intro _ | split

theorem cmdFwStage_keeps {b0 : State} (mode : Mode) (h : CmdHdr) (addr : Long) (len rsv : Word) (s : State) (h_s : Keeps b0 s) :
    Keeps b0 (cmdFwStage mode h addr len rsv s) := by
  unfold cmdFwStage
  repeat' first
    | (refine fun _ _ (h : Keeps _ _) => ?_)
    | (with_reducible first
        | assumption | apply bodyFwStage_keeps | apply Call.run_keeps)
    | intro _

theorem execFwStage_keeps {b0 : State} (h : CmdHdr) (addr : Long) (len rsv : Word) (s : State) (u : State) (h_s : Keeps b0 s)
    (h_u : Keeps b0 u) :
    Keeps b0 (nextOr u (execFwStage h addr len rsv s)) := by
  unfold execFwStage
  repeat' first
    | (with_reducible first
        | assumption | apply cmdFwStage_keeps | apply nextOr_next_keeps)
    | intro _

theorem bodyFloorRaise_keeps {b0 : State} (which value : Byte) (c : Call) (t : State) (h_t : Keeps b0 t) :
    Keeps b0 (bodyFloorRaise which value c t) := by
  unfold bodyFloorRaise
  repeat' first
    | (with_reducible first
        | assumption | apply Call.fail_keeps | apply Call.ok_keeps | apply State.withPins_keeps | apply ite_keeps)
    | exact fun (_ : Pins) => ⟨Nat.le_refl _, Nat.le_refl _, Nat.le_refl _, rfl⟩
    | (intro (p : Pins); refine ⟨?_, ?_, ?_, ?_⟩ <;> (repeat' split) <;> first | rfl | exact Nat.le_refl _ | exact Nat.le_max_left _ _)
    | intro _ | split | (extract_lets x; refine (fun (hx : Keeps b0 x) => ?_) ?_; clear_value x) | extract_lets

theorem cmdFloorRaise_keeps {b0 : State} (mode : Mode) (h : CmdHdr) (qid : Word) (which value : Byte) (rsv : Half) (s : State)
    (h_s : Keeps b0 s) :
    Keeps b0 (cmdFloorRaise mode h qid which value rsv s) := by
  unfold cmdFloorRaise
  repeat' first
    | (refine fun _ _ (h : Keeps _ _) => ?_)
    | (with_reducible first
        | assumption | apply bodyFloorRaise_keeps | apply Call.run_keeps)
    | intro _

theorem execFloorRaise_keeps {b0 : State} (h : CmdHdr) (qid : Word) (which value : Byte) (rsv : Half) (s : State) (u : State)
    (h_s : Keeps b0 s) (h_u : Keeps b0 u) :
    Keeps b0 (nextOr u (execFloorRaise h qid which value rsv s)) := by
  unfold execFloorRaise
  repeat' first
    | (with_reducible first
        | assumption | apply cmdFloorRaise_keeps | apply nextOr_next_keeps)
    | intro _

theorem bodyPhaseAdvance_keeps {b0 : State} (target : Byte) (c : Call) (t : State) (h_t : Keeps b0 t) :
    Keeps b0 (bodyPhaseAdvance target c t) := by
  unfold bodyPhaseAdvance
  repeat' first
    | (refine fun _ _ (h : Keeps _ _) => ?_)
    | (with_reducible first
        | assumption | apply State.joined_keeps | apply Call.start_keeps | apply Call.fail_keeps | apply Call.ok_keeps
        | apply State.setPhase_keeps | apply ite_keeps)
    | intro _ | split | (extract_lets x; refine (fun (hx : Keeps b0 x) => ?_) ?_; clear_value x) | extract_lets

theorem cmdPhaseAdvance_keeps {b0 : State} (mode : Mode) (h : CmdHdr) (target : Byte) (rsv : BitVec 56) (s : State)
    (h_s : Keeps b0 s) :
    Keeps b0 (cmdPhaseAdvance mode h target rsv s) := by
  unfold cmdPhaseAdvance
  repeat' first
    | (refine fun _ _ (h : Keeps _ _) => ?_)
    | (with_reducible first
        | assumption | apply bodyPhaseAdvance_keeps | apply Call.run_keeps)
    | intro _

theorem execPhaseAdvance_keeps {b0 : State} (h : CmdHdr) (target : Byte) (rsv : BitVec 56) (s : State) (u : State)
    (h_s : Keeps b0 s) (h_u : Keeps b0 u) :
    Keeps b0 (nextOr u (execPhaseAdvance h target rsv s)) := by
  unfold execPhaseAdvance
  repeat' first
    | (with_reducible first
        | assumption | apply cmdPhaseAdvance_keeps | apply nextOr_next_keeps)
    | intro _

theorem bodyShelfDown_keeps {b0 : State} (shadows : List (Fin 16384 × Long)) (c : Call) (t : State) (h_t : Keeps b0 t) :
    Keeps b0 (bodyShelfDown shadows c t) := by
  unfold bodyShelfDown
  repeat' first
    | (with_reducible first
        | assumption | apply State.sendDepart_keeps | apply Call.wait_keeps | apply State.confirmed_keeps
        | apply State.withRings_keeps | apply State.withBoot_keeps | apply foldl_keeps | apply ite_keeps)
    | intro _ | split | (extract_lets x; refine (fun (hx : Keeps b0 x) => ?_) ?_; clear_value x) | extract_lets

theorem cmdShelfDown_keeps {b0 : State} (mode : Mode) (h : CmdHdr) (shadows : List (Fin 16384 × Long)) (s : State)
    (h_s : Keeps b0 s) :
    Keeps b0 (cmdShelfDown mode h shadows s) := by
  unfold cmdShelfDown
  repeat' first
    | (refine fun _ _ (h : Keeps _ _) => ?_)
    | (with_reducible first
        | assumption | apply bodyShelfDown_keeps | apply Call.run_keeps)
    | intro _

theorem execShelfDown_keeps {b0 : State} (h : CmdHdr) (shadows : List (Fin 16384 × Long)) (s : State) (u : State)
    (h_s : Keeps b0 s) (h_u : Keeps b0 u) :
    Keeps b0 (nextOr u (execShelfDown h shadows s)) := by
  unfold execShelfDown
  repeat' first
    | (with_reducible first
        | assumption | apply cmdShelfDown_keeps | apply nextOr_next_keeps)
    | intro _

theorem bodySensorRead_keeps {b0 : State} (index : Half) (c : Call) (t : State) (h_t : Keeps b0 t) :
    Keeps b0 (bodySensorRead index c t) := by
  unfold bodySensorRead
  repeat' first | (with_reducible first | assumption | apply Call.ok_keeps) | intro _

theorem cmdSensorRead_keeps {b0 : State} (mode : Mode) (h : CmdHdr) (index : Half) (rsv : BitVec 48) (s : State)
    (h_s : Keeps b0 s) :
    Keeps b0 (cmdSensorRead mode h index rsv s) := by
  unfold cmdSensorRead
  repeat' first
    | (refine fun _ _ (h : Keeps _ _) => ?_)
    | (with_reducible first
        | assumption | apply bodySensorRead_keeps | apply Call.run_keeps)
    | intro _

theorem execSensorRead_keeps {b0 : State} (h : CmdHdr) (index : Half) (rsv : BitVec 48) (s : State) (u : State)
    (h_s : Keeps b0 s) (h_u : Keeps b0 u) :
    Keeps b0 (nextOr u (execSensorRead h index rsv s)) := by
  unfold execSensorRead
  repeat' first
    | (with_reducible first
        | assumption | apply cmdSensorRead_keeps | apply nextOr_next_keeps)
    | intro _

theorem bodyEventRead_keeps {b0 : State} (h : CmdHdr) (first max : Word) (c : Call) (t : State) (h_t : Keeps b0 t) :
    Keeps b0 (bodyEventRead h first max c t) := by
  unfold bodyEventRead
  repeat' first
    | (with_reducible first
        | assumption | apply Call.ok_keeps | apply Call.respond_keeps)
    | intro _

theorem cmdEventRead_keeps {b0 : State} (mode : Mode) (h : CmdHdr) (first max : Word) (s : State) (h_s : Keeps b0 s) :
    Keeps b0 (cmdEventRead mode h first max s) := by
  unfold cmdEventRead
  repeat' first
    | (refine fun _ _ (h : Keeps _ _) => ?_)
    | (with_reducible first
        | assumption | apply bodyEventRead_keeps | apply Call.run_keeps)
    | intro _

theorem execEventRead_keeps {b0 : State} (h : CmdHdr) (first max : Word) (s : State) (u : State) (h_s : Keeps b0 s)
    (h_u : Keeps b0 u) :
    Keeps b0 (nextOr u (execEventRead h first max s)) := by
  unfold execEventRead
  repeat' first
    | (with_reducible first
        | assumption | apply cmdEventRead_keeps | apply nextOr_next_keeps)
    | intro _

theorem bodyMgtConfig_keeps {b0 : State} (map : Long) (addr : Byte) (chainLen : Word) (chain : List Byte) (c : Call) (t : State)
    (h_t : Keeps b0 t) :
    Keeps b0 (bodyMgtConfig map addr chainLen chain c t) := by
  unfold bodyMgtConfig
  repeat' first
    | (with_reducible first
        | assumption | apply Call.fail_keeps | apply Call.ok_keeps | apply State.applyUnits_keeps | apply State.withCob_keeps
        | apply ite_keeps)
    | intro _ | split | (extract_lets x; refine (fun (hx : Keeps b0 x) => ?_) ?_; clear_value x) | extract_lets

theorem cmdMgtConfig_keeps {b0 : State} (mode : Mode) (h : CmdHdr) (map : Long) (addr : Byte) (rsv : BitVec 24) (chainLen : Word)
    (chain : List Byte) (s : State) (h_s : Keeps b0 s) :
    Keeps b0 (cmdMgtConfig mode h map addr rsv chainLen chain s) := by
  unfold cmdMgtConfig
  repeat' first
    | (refine fun _ _ (h : Keeps _ _) => ?_)
    | (with_reducible first
        | assumption | apply bodyMgtConfig_keeps | apply Call.run_keeps)
    | intro _

theorem execMgtConfig_keeps {b0 : State} (h : CmdHdr) (map : Long) (addr : Byte) (rsv : BitVec 24) (chainLen : Word) (chain :
    List Byte) (s : State) (u : State) (h_s : Keeps b0 s) (h_u : Keeps b0 u) :
    Keeps b0 (nextOr u (execMgtConfig h map addr rsv chainLen chain s)) := by
  unfold execMgtConfig
  repeat' first
    | (with_reducible first
        | assumption | apply cmdMgtConfig_keeps | apply nextOr_next_keeps)
    | intro _

end Sys2Proof.Machine
end

