-- ==== Sys2Proof/Laws/KeepsCores.lean ====
section
/-! SUPPORT. `Keeps` of the register map and the instructions of the cores. -/

set_option linter.unusedVariables false
set_option linter.unusedTactic false
set_option linter.unreachableTactic false

namespace Sys2Proof.Machine

theorem readBy_keeps {b0 : State} (r : Host.Outcome State Fault Refusal) (s : State) (h_r : Keeps b0 (nextOr s r)) :
    Keeps b0 (readBy r s).2 := h_r

theorem State.mbxRead_keeps {b0 : State} (c : Nat) (m : MbxId) (o : Nat) (s : State) (h_s : Keeps b0 s) :
    Keeps b0 (State.mbxRead c m o s).2 := by
  unfold State.mbxRead
  repeat' first
    | (with_reducible first
        | assumption | apply readBy_keeps | apply execMbxLockRead_keeps | apply execMbxMsgHiRead_keeps | apply ite_keeps
        | apply ite_pair_keeps)
    | intro _ | split | (refine keeps_of_pair (by assumption) ?_)
    | (extract_lets x; refine (fun (hx : Keeps b0 x) => ?_) ?_; clear_value x) | extract_lets

theorem State.readFree_keeps {b0 : State} (s : State) (h_s : Keeps b0 s) :
    Keeps b0 (State.readFree s).2 := by
  unfold State.readFree
  repeat' first
    | (with_reducible first
        | assumption | apply State.withFreeCount_keeps | apply ite_pair_keeps)
    | intro _

theorem State.regRead_keeps {b0 : State} (c : Nat) (lv : Level) (a : Nat) (s : State) (h_s : Keeps b0 s) :
    Keeps b0 (State.regRead c lv a s).2 := by
  unfold State.regRead
  repeat' first
    | (with_reducible first
        | assumption | apply State.readFree_keeps | apply State.mbxRead_keeps | apply readBy_keeps
        | apply execMeasWord0Read_keeps | apply execAlmLogDataRead_keeps | apply execKeyBlobOutRead_keeps
        | apply execRngRawRead_keeps | apply execRngDataRead_keeps | apply State.setRead_keeps | apply State.withCls_keeps
        | apply State.withInsole_keeps | apply State.withDig_keeps | apply State.withSole_keeps | apply ite_keeps
        | apply ite_pair_keeps)
    | intro _ | split | (refine keeps_of_pair (by assumption) ?_)
    | (extract_lets x; refine (fun (hx : Keeps b0 x) => ?_) ?_; clear_value x) | extract_lets

theorem execMpuFenceGo_keeps {b0 : State} (m : Fin 13) (level : Level) (s : State) (u : State) (h_s : Keeps b0 s)
    (h_u : Keeps b0 u) :
    Keeps b0 (nextOr u (execMpuFenceGo m level s)) := by
  unfold execMpuFenceGo
  repeat' first
    | (with_reducible first
        | assumption | apply State.updMpu_keeps | apply nextOr_next_keeps | apply ite_keeps)
    | intro _ | split

theorem execMpuFenceDone_keeps {b0 : State} (m : Fin 13) (s : State) (u : State) (h_s : Keeps b0 s) (h_u : Keeps b0 u) :
    Keeps b0 (nextOr u (execMpuFenceDone m s)) := by
  unfold execMpuFenceDone
  repeat' first
    | (with_reducible first
        | assumption | apply State.updMpu_keeps | apply nextOr_next_keeps)
    | intro _

theorem execDmaMpuFault_keeps {b0 : State} (m : Fin 13) (addr : Word) (size : Nat) (write : Bool) (s : State) (u : State)
    (h_s : Keeps b0 s) (h_u : Keeps b0 u) :
    Keeps b0 (nextOr u (execDmaMpuFault m addr size write s)) := by
  unfold execDmaMpuFault
  repeat' first
    | (with_reducible first
        | assumption | apply State.dmaFault_keeps | apply nextOr_next_keeps | apply ite_keeps)
    | intro _ | split | (extract_lets x; refine (fun (hx : Keeps b0 x) => ?_) ?_; clear_value x) | extract_lets

theorem execMpuFaultClear_keeps {b0 : State} (m : Fin 13) (level : Level) (s : State) (u : State) (h_s : Keeps b0 s)
    (h_u : Keeps b0 u) :
    Keeps b0 (nextOr u (execMpuFaultClear m level s)) := by
  unfold execMpuFaultClear
  repeat' first
    | (with_reducible first
        | assumption | apply State.dmaFault_keeps | apply State.updMpu_keeps | apply nextOr_next_keeps | apply ite_keeps)
    | intro _ | split | (extract_lets x; refine (fun (hx : Keeps b0 x) => ?_) ?_; clear_value x) | extract_lets

theorem State.ringCfg_keeps {b0 : State} (f : Ring → Ring) (s : State) (h_s : Keeps b0 s) :
    Keeps b0 (State.ringCfg f s) := by
  unfold State.ringCfg
  repeat' first
    | (with_reducible first
        | assumption | apply State.withRings_keeps | apply ite_keeps)
    | intro _ | split | (extract_lets x; refine (fun (hx : Keeps b0 x) => ?_) ?_; clear_value x) | extract_lets

theorem State.windowWrite_keeps {b0 : State} (limit : Bool) (f : Long → Long) (s : State) (h_s : Keeps b0 s) :
    Keeps b0 (State.windowWrite limit f s) := by
  unfold State.windowWrite
  repeat' first
    | (with_reducible first
        | assumption | apply State.withRings_keeps | apply ite_keeps)
    | intro _ | split

theorem State.ringWrite_keeps {b0 : State} (lv : Level) (o : Nat) (v : Word) (s : State) (h_s : Keeps b0 s) :
    Keeps b0 (State.ringWrite lv o v s) := by
  unfold State.ringWrite
  repeat' first
    | (with_reducible first
        | assumption | apply State.windowWrite_keeps | apply State.ringCfg_keeps | apply State.abortAllRings_keeps
        | apply execRingCtlDestroy_keeps | apply execRingCtlCreate_keeps | apply State.withRings_keeps | apply nextOr_next_keeps
        | apply ite_keeps)
    | intro _ | split | (extract_lets x; refine (fun (hx : Keeps b0 x) => ?_) ?_; clear_value x) | extract_lets

theorem State.irouteWrite_keeps {b0 : State} (i : Nat) (lv : Level) (v : Word) (s : State) (h_s : Keeps b0 s) :
    Keeps b0 (State.irouteWrite i lv v s) := by
  unfold State.irouteWrite
  repeat' first
    | (with_reducible first
        | assumption | apply State.withMbx_keeps | apply ite_keeps)
    | intro _ | split | (extract_lets x; refine (fun (hx : Keeps b0 x) => ?_) ?_; clear_value x) | extract_lets

theorem State.mbxWrite_keeps {b0 : State} (m : MbxId) (side : Option Side) (who : Fin 70) (o : Nat) (v : Word) (s : State)
    (h_s : Keeps b0 s) :
    Keeps b0 (State.mbxWrite m side who o v s) := by
  unfold State.mbxWrite
  repeat' first
    | (with_reducible first
        | assumption | apply execMbxLockWrite_keeps | apply execMbxDbclrWrite_keeps | apply execMbxDbellWrite_keeps
        | apply execMbxMsgHiWrite_keeps | apply execMbxMsgLoWrite_keeps | apply State.updBox_keeps | apply nextOr_next_keeps
        | apply ite_keeps)
    | intro _ | split

theorem State.pageWrite_keeps {b0 : State} (f o : Nat) (v : Word) (s : State) (h_s : Keeps b0 s) :
    Keeps b0 (State.pageWrite f o v s) := by
  unfold State.pageWrite
  repeat' first | (with_reducible first | assumption | apply State.withMbx_keeps) | intro _ | split

theorem State.mbxBlockWrite_keeps {b0 : State} (c : Nat) (lv : Level) (o : Nat) (v : Word) (s : State) (h_s : Keeps b0 s) :
    Keeps b0 (State.mbxBlockWrite c lv o v s) := by
  unfold State.mbxBlockWrite
  repeat' first
    | (with_reducible first
        | assumption | apply State.pageWrite_keeps | apply State.mbxWrite_keeps | apply State.irouteWrite_keeps
        | apply execMbxHrouteWrite_keeps | apply nextOr_next_keeps | apply ite_keeps)
    | intro _ | split

theorem State.clkWrite_keeps {b0 : State} (c : Nat) (lv : Level) (o : Nat) (v : Word) (s : State) (h_s : Keeps b0 s) :
    Keeps b0 (State.clkWrite c lv o v s) := by
  unfold State.clkWrite
  repeat' first
    | (with_reducible first
        | assumption | apply execCphKatRun_keeps | apply execClkCtrlWrite_keeps | apply State.withCipher_keeps
        | apply nextOr_next_keeps | apply ite_keeps)
    | intro _ | split

theorem State.digWrite_keeps {b0 : State} (c : Nat) (lv : Level) (o : Nat) (v : Word) (s : State) (h_s : Keeps b0 s) :
    Keeps b0 (State.digWrite c lv o v s) := by
  unfold State.digWrite
  repeat' first
    | (with_reducible first
        | assumption | apply execDigEnWrite_keeps | apply execDigKatRun_keeps | apply State.digCmd_keeps
        | apply State.withDig_keeps | apply nextOr_next_keeps | apply ite_keeps)
    | intro _ | split | (extract_lets x; refine (fun (hx : Keeps b0 x) => ?_) ?_; clear_value x) | extract_lets

theorem State.pkeWrite_keeps {b0 : State} (c : Nat) (lv : Level) (n o : Nat) (v : Word) (s : State) (h_s : Keeps b0 s) :
    Keeps b0 (State.pkeWrite c lv n o v s) := by
  unfold State.pkeWrite
  repeat' first
    | (with_reducible first
        | assumption | apply execPkeKatRun_keeps | apply execPkeClear_keeps | apply execPkeAbort_keeps
        | apply State.pkeCmd_keeps | apply State.updEngine_keeps | apply nextOr_next_keeps | apply ite_keeps)
    | intro _ | split | (extract_lets x; refine (fun (hx : Keeps b0 x) => ?_) ?_; clear_value x) | extract_lets

theorem State.rngWrite_keeps {b0 : State} (c : Nat) (lv : Level) (o : Nat) (v : Word) (s : State) (h_s : Keeps b0 s) :
    Keeps b0 (State.rngWrite c lv o v s) := by
  unfold State.rngWrite
  repeat' first
    | (with_reducible first
        | assumption | apply execRngRawselWrite_keeps | apply execAuditClear_keeps | apply execAuditSet_keeps
        | apply execRngReq_keeps | apply State.withRng_keeps | apply nextOr_next_keeps | apply ite_keeps)
    | exact fun (_ : Rng) h => h | exact fun (_ : Rng) h => Rng.tests_ok _ _ h | exact fun (_ : Rng) h => Rng.takeBlock_ok h
    | (intro (r : Rng) h; (repeat' split) <;> first | exact h | exact Rng.takeBlock_ok h | simp_all [Rng.Ok]) | intro _ | split
    | (extract_lets x; refine (fun (hx : Keeps b0 x) => ?_) ?_; clear_value x) | extract_lets

theorem State.keyCmdPlace_keeps {b0 : State} (c : Fin 4) (w : RegWriter) (any : Bool) (slot : Fin 32768) (s : State)
    (h_s : Keeps b0 s) :
    Keeps b0 (State.keyCmdPlace c w any slot s) := by
  unfold State.keyCmdPlace
  repeat' first
    | (with_reducible first
        | assumption | apply State.withKeys_keeps | apply ite_keeps)
    | intro _ | split

theorem State.keyCmdWrite_keeps {b0 : State} (c : Fin 4) (w : RegWriter) (v : Word) (s : State) (h_s : Keeps b0 s) :
    Keeps b0 (State.keyCmdWrite c w v s) := by
  unfold State.keyCmdWrite
  repeat' first
    | (with_reducible first
        | assumption | apply State.keyCmdPlace_keeps | apply execKeyCmdQuery_keeps | apply execKeyCmdUnload_keeps
        | apply execKeyCmdGenerate_keeps | apply execKeyCmdBlob_keeps | apply execKeyCmdExport_keeps
        | apply execKeyCmdImport_keeps | apply execKeyCmdLoad_keeps | apply nextOr_next_keeps)
    | intro _ | split | (extract_lets x; refine (fun (hx : Keeps b0 x) => ?_) ?_; clear_value x) | extract_lets

theorem State.keyWrite_keeps {b0 : State} (c : Nat) (lv : Level) (o : Nat) (v : Word) (s : State) (h_s : Keeps b0 s) :
    Keeps b0 (State.keyWrite c lv o v s) := by
  unfold State.keyWrite
  repeat' first
    | (with_reducible first
        | assumption | apply State.keyCmdWrite_keeps | apply execKeyZeroAll_keeps | apply execKeyBlobInWrite_keeps
        | apply State.withKeys_keeps | apply nextOr_next_keeps | apply ite_keeps)
    | intro _ | split | (extract_lets x; refine (fun (hx : Keeps b0 x) => ?_) ?_; clear_value x) | extract_lets

theorem State.mpuWrite_keeps {b0 : State} (lv : Level) (m o : Nat) (v : Word) (s : State) (h_s : Keeps b0 s) :
    Keeps b0 (State.mpuWrite lv m o v s) := by
  unfold State.mpuWrite
  repeat' first
    | (with_reducible first
        | assumption | apply execMpuFaultClear_keeps | apply execMpuFenceGo_keeps | apply State.updMpu_keeps
        | apply nextOr_next_keeps | apply ite_keeps)
    | intro _ | split

theorem State.almWrite_keeps {b0 : State} (c : Nat) (lv : Level) (o : Nat) (v : Word) (s : State) (h_s : Keeps b0 s) :
    Keeps b0 (State.almWrite c lv o v s) := by
  unfold State.almWrite
  repeat' first
    | (with_reducible first
        | assumption | apply execAlmLogRelWrite_keeps | apply execAlmLogExpWrite_keeps | apply execAlmRespWrite_keeps
        | apply execAlmRaise_keeps | apply State.withAlarm_keeps | apply nextOr_next_keeps | apply ite_keeps)
    | intro _ | split

theorem State.solCfgWrite_keeps {b0 : State} (n : Nat) (v : Word) (s : State) (h_s : Keeps b0 s) :
    Keeps b0 (State.solCfgWrite n v s) := by
  unfold State.solCfgWrite
  repeat' first
    | (with_reducible first
        | assumption | apply State.startTraining_keeps | apply State.hold_keeps | apply State.holdWrites_keeps
        | apply State.endHostHold_keeps | apply State.roleFrame_keeps | apply State.settleHold_keeps | apply State.updPort_keeps
        | apply ite_keeps)
    | intro _ | split | (extract_lets x; refine (fun (hx : Keeps b0 x) => ?_) ?_; clear_value x) | extract_lets

theorem State.solWrite_keeps {b0 : State} (lv : Level) (o : Nat) (v : Word) (s : State) (h_s : Keeps b0 s) :
    Keeps b0 (State.solWrite lv o v s) := by
  unfold State.solWrite
  repeat' first
    | (with_reducible first
        | assumption | apply State.solCfgWrite_keeps | apply State.updPort_keeps | apply ite_keeps)
    | intro _ | split | (extract_lets x; refine (fun (hx : Keeps b0 x) => ?_) ?_; clear_value x) | extract_lets

theorem State.sdCmdWrite_keeps {b0 : State} (p : Fin 4) (lv : Level) (v : Word) (s : State) (h_s : Keeps b0 s) :
    Keeps b0 (State.sdCmdWrite p lv v s) := by
  unfold State.sdCmdWrite
  repeat' first
    | (refine fun _ _ (h : Keeps _ _) => ?_)
    | (with_reducible first
        | assumption | apply execSdPowerOn_keeps | apply execSdPowerOff_keeps | apply execSdRetune_keeps
        | apply execSdAbort_keeps | apply execSdWrite_keeps | apply execSdRead_keeps | apply State.draw_keeps
        | apply nextOr_next_keeps)
    | intro _ | split

theorem State.iccCmdWrite_keeps {b0 : State} (n : Fin 2) (lv : Level) (v : Word) (s : State) (h_s : Keeps b0 s) :
    Keeps b0 (State.iccCmdWrite n lv v s) := by
  unfold State.iccCmdWrite
  repeat' first
    | (with_reducible first
        | assumption | apply execIccXchg_keeps | apply execIccDeactivate_keeps | apply execIccActivate_keeps
        | apply nextOr_next_keeps)
    | intro _ | split

theorem State.cardRegWrite_keeps {b0 : State} (lv : Level) (o : Nat) (v : Word) (s : State) (h_s : Keeps b0 s) :
    Keeps b0 (State.cardRegWrite lv o v s) := by
  unfold State.cardRegWrite
  repeat' first
    | (with_reducible first
        | assumption | apply State.iccCmdWrite_keeps | apply State.sdCmdWrite_keeps | apply execIccCfgWrite_keeps
        | apply execSdCfgWrite_keeps | apply State.updIcc_keeps | apply State.updSd_keeps | apply nextOr_next_keeps
        | apply ite_keeps)
    | intro _ | split | (extract_lets x; refine (fun (hx : Keeps b0 x) => ?_) ?_; clear_value x) | extract_lets

theorem State.clsCtrlWrite_keeps {b0 : State} (lv : Level) (v : Word) (s : State) (h_s : Keeps b0 s) :
    Keeps b0 (State.clsCtrlWrite lv v s) := by
  unfold State.clsCtrlWrite
  repeat' first
    | (with_reducible first
        | assumption | apply execClsXchg_keeps | apply execClsAbort_keeps | apply execClsPoll_keeps | apply State.updCls_keeps
        | apply nextOr_next_keeps | apply ite_keeps)
    | intro _ | split | (extract_lets x; refine (fun (hx : Keeps b0 x) => ?_) ?_; clear_value x) | extract_lets

theorem State.insWrite_keeps {b0 : State} (lv : Level) (o : Nat) (v : Word) (s : State) (h_s : Keeps b0 s) :
    Keeps b0 (State.insWrite lv o v s) := by
  unfold State.insWrite
  repeat' first
    | (with_reducible first
        | assumption | apply execInsTagCommit_keeps | apply execInsTagSelWrite_keeps | apply execInsAudctlClear_keeps
        | apply execInsAudctlLoad_keeps | apply execInsIkctlGen_keeps | apply execInsFloorWrite_keeps
        | apply State.withIns_keeps | apply nextOr_next_keeps | apply ite_keeps)
    | intro _ | split | (extract_lets x; refine (fun (hx : Keeps b0 x) => ?_) ?_; clear_value x) | extract_lets

theorem State.clsWrite_keeps {b0 : State} (lv : Level) (o : Nat) (v : Word) (s : State) (h_s : Keeps b0 s) :
    Keeps b0 (State.clsWrite lv o v s) := by
  unfold State.clsWrite
  repeat' first
    | (with_reducible first
        | assumption | apply State.insWrite_keeps | apply State.clsCtrlWrite_keeps | apply State.updCls_keeps | apply ite_keeps)
    | intro _ | split

theorem State.wltWrite_keeps {b0 : State} (lv : Level) (o : Nat) (v : Word) (s : State) (h_s : Keeps b0 s) :
    Keeps b0 (State.wltWrite lv o v s) := by
  unfold State.wltWrite
  repeat' first
    | (with_reducible first
        | assumption | apply execWltCfgWrite_keeps | apply State.withWelt_keeps | apply nextOr_next_keeps | apply ite_keeps)
    | intro _ | split

theorem State.pwrWrite_keeps {b0 : State} (c o : Nat) (v : Word) (s : State) (h_s : Keeps b0 s) :
    Keeps b0 (State.pwrWrite c o v s) := by
  unfold State.pwrWrite
  repeat' first
    | (with_reducible first
        | assumption | apply execPwrUnitEnWrite_keeps | apply execPwrWdogWrite_keeps | apply nextOr_next_keeps | apply ite_keeps)
    | intro _ | split | (extract_lets x; refine (fun (hx : Keeps b0 x) => ?_) ?_; clear_value x) | extract_lets

theorem State.mgtWrite_keeps {b0 : State} (c o : Nat) (v : Word) (s : State) (h_s : Keeps b0 s) :
    Keeps b0 (State.mgtWrite c o v s) := by
  unfold State.mgtWrite
  repeat' first
    | (with_reducible first
        | assumption | apply State.holdCore_keeps | apply State.releaseCore_keeps | apply State.updCore_keeps
        | apply State.hold_keeps | apply State.withCob_keeps | apply ite_keeps)
    | intro _ | split | (extract_lets x; refine (fun (hx : Keeps b0 x) => ?_) ?_; clear_value x) | extract_lets

theorem State.coreRegWrite_keeps {b0 : State} (c : Nat) (lv : Level) (a : Nat) (v : Word) (s : State) (h_s : Keeps b0 s) :
    Keeps b0 (State.coreRegWrite c lv a v s) := by
  unfold State.coreRegWrite
  repeat' first
    | (with_reducible first
        | assumption | apply State.mgtWrite_keeps | apply State.pwrWrite_keeps | apply State.wltWrite_keeps
        | apply State.clsWrite_keeps | apply State.cardRegWrite_keeps | apply State.solWrite_keeps | apply State.almWrite_keeps
        | apply State.mpuWrite_keeps | apply State.keyWrite_keeps | apply State.rngWrite_keeps | apply State.pkeWrite_keeps
        | apply State.digWrite_keeps | apply State.clkWrite_keeps | apply State.mbxBlockWrite_keeps
        | apply State.ringWrite_keeps)
    | intro _ | split | (extract_lets x; refine (fun (hx : Keeps b0 x) => ?_) ?_; clear_value x) | extract_lets

theorem State.ldrWrite_keeps {b0 : State} (f : Fin 64) (o : Nat) (v : Word) (s : State) (h_s : Keeps b0 s) :
    Keeps b0 (State.ldrWrite f o v s) := by
  unfold State.ldrWrite
  repeat' first
    | (with_reducible first
        | assumption | apply execLdrGo_keeps | apply State.withBoot_keeps | apply nextOr_next_keeps | apply ite_keeps)
    | intro _ | split

theorem State.hostRegWrite_keeps {b0 : State} (f : Fin 64) (a : Nat) (v : Word) (s : State) (h_s : Keeps b0 s) :
    Keeps b0 (State.hostRegWrite f a v s) := by
  unfold State.hostRegWrite
  repeat' first
    | (with_reducible first
        | assumption | apply State.ldrWrite_keeps | apply State.mbxWrite_keeps | apply State.withMbx_keeps | apply ite_keeps)
    | intro _ | split

theorem State.regWrite_keeps {b0 : State} (w : RegWriter) (a : Nat) (v : Word) (s : State) (h_s : Keeps b0 s) :
    Keeps b0 (State.regWrite w a v s) := by
  unfold State.regWrite
  repeat' first
    | (with_reducible first
        | assumption | apply State.hostRegWrite_keeps | apply State.coreRegWrite_keeps | apply ite_keeps)
    | intro _ | split

theorem execRegisterWrite_keeps {b0 : State} (w : RegWriter) (addr v : Word) (s : State) (u : State) (h_s : Keeps b0 s)
    (h_u : Keeps b0 u) :
    Keeps b0 (nextOr u (execRegisterWrite w addr v s)) := by
  unfold execRegisterWrite
  repeat' first
    | (with_reducible first
        | assumption | apply State.regWrite_keeps | apply nextOr_next_keeps)
    | intro _

theorem State.storeOut_keeps {b0 : State} (c : Nat) (e : WbEntry) (s : State) (h_s : Keeps b0 s) :
    Keeps b0 (State.storeOut c e s) := by
  unfold State.storeOut
  repeat' first
    | (with_reducible first
        | assumption | apply State.sramStore_keeps | apply State.hostWrite_keeps | apply KeepsE.ok | apply KeepsE.error
        | apply KeepsP.ok | apply KeepsP.error)
    | intro _ | split | (refine keeps_of_ok (by assumption) ?_) | (refine keeps_of_okP (by assumption) ?_)

theorem State.drainOne_keeps {b0 : State} (c : Nat) (s : State) (h_s : Keeps b0 s) :
    Keeps b0 (State.drainOne c s) := by
  unfold State.drainOne
  repeat' first
    | (with_reducible first
        | assumption | apply State.storeOut_keeps | apply State.updCore_keeps | apply KeepsE.ok | apply KeepsE.error
        | apply KeepsP.ok | apply KeepsP.error)
    | intro _ | split | (refine keeps_of_ok (by assumption) ?_) | (refine keeps_of_okP (by assumption) ?_)

theorem State.drainAll_keeps {b0 : State} (c : Nat) (s : State) (h_s : Keeps b0 s) :
    Keeps b0 (State.drainAll c s) := by
  unfold State.drainAll
  repeat' first
    | (with_reducible first
        | assumption | apply State.drainOne_keeps | apply foldl_keeps | apply KeepsE.ok | apply KeepsE.error | apply KeepsP.ok
        | apply KeepsP.error)
    | intro _ | (refine keeps_of_ok (by assumption) ?_) | (refine keeps_of_okP (by assumption) ?_)

theorem State.readArea_keeps {b0 : State} (c : Nat) (lv : Level) (a n : Nat) (i : AwlIn) (s : State) (h_s : Keeps b0 s) :
    Keeps b0 (State.readArea c lv a n i s).2 := by
  unfold State.readArea
  repeat' first
    | (with_reducible first
        | assumption | apply State.regRead_keeps | apply State.updCore_keeps | apply State.withPcie_keeps | apply ite_keeps
        | apply KeepsE.ok | apply KeepsE.error | apply KeepsP.ok | apply KeepsP.error)
    | intro _ | split | (refine keeps_of_pair (by assumption) ?_) | (refine keeps_of_ok (by assumption) ?_)
    | (refine keeps_of_okP (by assumption) ?_) | (extract_lets x; refine (fun (hx : Keeps b0 x) => ?_) ?_; clear_value x)
    | extract_lets

theorem State.writeArea_keeps {b0 : State} (c : Nat) (lv : Level) (a : Nat) (bs : List Byte) (s : State) (h_s : Keeps b0 s) :
    Keeps b0 (State.writeArea c lv a bs s) := by
  unfold State.writeArea
  repeat' first
    | (with_reducible first
        | assumption | apply State.drainOne_keeps | apply State.regWrite_keeps | apply State.updCore_keeps
        | apply State.withMem_keeps | apply ite_keeps | apply KeepsE.ok | apply KeepsE.error | apply KeepsP.ok
        | apply KeepsP.error)
    | with_reducible exact fun (m : Mem) h => Mem.reload_wf _ _ m h | exact fun (m : Mem) h => Mem.sram_wf _ _ m h
    | exact fun (m : Mem) h => Mem.tcmWrite_wf _ _ _ m h | exact fun (m : Mem) _ => Mem.empty_wf
    | exact fun (m : Mem) h => Mem.foldl_wf _ _ (fun m g h => Mem.place_wf g m h) m h
    | exact fun (m : Mem) h => Mem.tcmWrite_wf _ _ _ _ (Mem.tcmWrite_wf _ _ _ m h) | intro _ | split
    | (refine keeps_of_ok (by assumption) ?_) | (refine keeps_of_okP (by assumption) ?_)
    | (extract_lets x; refine (fun (hx : Keeps b0 x) => ?_) ?_; clear_value x) | extract_lets

theorem State.loadMem_keeps {b0 : State} (c : Nat) (lv : Level) (a n : Nat) (stack atomic : Bool) (i : AwlIn) (s : State)
    (h_s : Keeps b0 s) :
    KeepsP b0 (State.loadMem c lv a n stack atomic i s) := by
  unfold State.loadMem
  repeat' first
    | (with_reducible first
        | assumption | apply State.readArea_keeps | apply Call.ok_keeps | apply KeepsE.ok | apply KeepsE.error | apply KeepsP.ok
        | apply KeepsP.error)
    | intro _ | split | (refine keeps_of_pair (by assumption) ?_) | (refine keeps_of_ok (by assumption) ?_)
    | (refine keeps_of_okP (by assumption) ?_)

theorem State.storeMem_keeps {b0 : State} (c : Nat) (lv : Level) (a : Nat) (bs : List Byte) (stack atomic : Bool) (i : AwlIn) (s
    : State) (h_s : Keeps b0 s) :
    KeepsE b0 (State.storeMem c lv a bs stack atomic i s) := by
  unfold State.storeMem
  repeat' first
    | (with_reducible first
        | assumption | apply State.writeArea_keeps | apply Call.ok_keeps | apply KeepsE.ok | apply KeepsE.error
        | apply KeepsP.ok | apply KeepsP.error)
    | intro _ | split | (refine keeps_of_ok (by assumption) ?_) | (refine keeps_of_okP (by assumption) ?_)

theorem State.writeFrame_keeps {b0 : State} (c : Nat) (lv : Level) (a : Nat) (bs : List Byte) (s : State) (h_s : Keeps b0 s) :
    Keeps b0 (State.writeFrame c lv a bs s) := by
  unfold State.writeFrame
  repeat' first
    | (with_reducible first
        | assumption | apply State.writeArea_keeps | apply State.drainAll_keeps | apply foldl_keeps | apply KeepsE.ok
        | apply KeepsE.error | apply KeepsP.ok | apply KeepsP.error)
    | intro _ | (refine keeps_of_ok (by assumption) ?_) | (refine keeps_of_okP (by assumption) ?_)

theorem State.escalate_keeps {b0 : State} (c : Nat) (e : Exc) (l : Level) (kind : Nat) (pc : Word) (env : EntryEnv) (s : State)
    (h_s : Keeps b0 s) : Keeps b0 (State.escalate c e l kind pc env s) := by
  unfold State.escalate
  extract_lets k save info cause s1
  refine ite_keeps (State.coreFails_keeps _ _ _ h_s) (State.updCore_keeps _ _ _ ?_)
  exact State.withMem_keeps _ (fun m h => Mem.tcmWrite_wf _ _ _ _ (Mem.tcmWrite_wf _ _ _ m h)) h_s

theorem State.recordMpu_keeps {b0 : State} (c : Nat) (e : Exc) (s : State) (h_s : Keeps b0 s) :
    Keeps b0 (State.recordMpu c e s) := by
  unfold State.recordMpu
  repeat' first
    | (refine fun _ _ (h : Keeps _ _) => ?_)
    | (with_reducible first
        | assumption | apply State.updMpu_keeps | apply State.draw_keeps | apply KeepsE.ok | apply KeepsE.error
        | apply KeepsP.ok | apply KeepsP.error)
    | intro _ | split | (refine keeps_of_ok (by assumption) ?_) | (refine keeps_of_okP (by assumption) ?_)

theorem State.errAlarm_keeps {b0 : State} (c : Nat) (ecc : Option Bool) (s : State) (h_s : Keeps b0 s) :
    Keeps b0 (State.errAlarm c ecc s) := by
  unfold State.errAlarm
  repeat' first
    | (refine fun _ _ (h : Keeps _ _) => ?_)
    | (with_reducible first
        | assumption | apply State.raise_keeps | apply State.draw_keeps | apply KeepsE.ok | apply KeepsE.error | apply KeepsP.ok
        | apply KeepsP.error)
    | intro _ | split | (refine keeps_of_ok (by assumption) ?_) | (refine keeps_of_okP (by assumption) ?_)

theorem State.countReturnFault_keeps {b0 : State} (c : Nat) (s : State) (h_s : Keeps b0 s) :
    Keeps b0 (State.countReturnFault c s) := by
  unfold State.countReturnFault
  repeat' first
    | (with_reducible first
        | assumption | apply State.updCore_keeps | apply State.raise_keeps | apply ite_keeps | apply KeepsE.ok
        | apply KeepsE.error | apply KeepsP.ok | apply KeepsP.error)
    | intro _ | split | (refine keeps_of_ok (by assumption) ?_) | (refine keeps_of_okP (by assumption) ?_)
    | (extract_lets x; refine (fun (hx : Keeps b0 x) => ?_) ?_; clear_value x) | extract_lets

theorem State.takeExc_keeps {b0 : State} (c : Nat) (e : Exc) (pc : Word) (ipl : Option Nat) (env : EntryEnv) (s : State)
    (h_s : Keeps b0 s) :
    Keeps b0 (State.takeExc c e pc ipl env s) := by
  unfold State.takeExc
  repeat' first
    | (with_reducible first
        | assumption | apply State.countReturnFault_keeps | apply State.errAlarm_keeps | apply State.recordMpu_keeps
        | apply State.escalate_keeps | apply State.writeFrame_keeps | apply State.updCore_keeps | apply ite_keeps
        | apply KeepsE.ok | apply KeepsE.error | apply KeepsP.ok | apply KeepsP.error)
    | intro _ | split | (refine keeps_of_ok (by assumption) ?_) | (refine keeps_of_okP (by assumption) ?_)
    | (extract_lets x; refine (fun (hx : Keeps b0 x) => ?_) ?_; clear_value x) | extract_lets

theorem State.tick_keeps {b0 : State} (c : Nat) (s : State) (h_s : Keeps b0 s) :
    Keeps b0 (State.tick c s) := by
  unfold State.tick
  repeat' first
    | (with_reducible first
        | assumption | apply State.updCore_keeps | apply State.withFreeCount_keeps | apply KeepsE.ok | apply KeepsE.error
        | apply KeepsP.ok | apply KeepsP.error)
    | intro _ | (refine keeps_of_ok (by assumption) ?_) | (refine keeps_of_okP (by assumption) ?_)

theorem State.runInstr_keeps {b0 : State} (c op : Nat) (i : AwlIn) (legal : Bool) (body : State → Except Exc State) (s : State)
    (h_s : Keeps b0 s) (h_body : ∀ t', Keeps b0 t' → KeepsE b0 (body t')) :
    Keeps b0 (State.runInstr c op i legal body s) := by
  unfold State.runInstr
  repeat' first
    | (with_reducible first
        | assumption | apply h_body | apply State.tick_keeps | apply State.takeExc_keeps | apply Call.ok_keeps | apply ite_keeps
        | apply KeepsE.ok | apply KeepsE.error | apply KeepsP.ok | apply KeepsP.error)
    | intro _ | split | (refine keeps_of_ok (by assumption) ?_) | (refine keeps_of_okP (by assumption) ?_)
    | (extract_lets x; refine (fun (hx : Keeps b0 x) => ?_) ?_; clear_value x) | extract_lets

theorem State.retire_keeps {b0 : State} (c : Nat) (f : Core → Core) (s : State) (h_s : Keeps b0 s) :
    Keeps b0 (State.retire c f s) := by
  unfold State.retire
  repeat' first
    | (with_reducible first
        | assumption | apply State.updCore_keeps | apply KeepsE.ok | apply KeepsE.error | apply KeepsP.ok | apply KeepsP.error)
    | intro _ | split | (refine keeps_of_ok (by assumption) ?_) | (refine keeps_of_okP (by assumption) ?_)
    | (extract_lets x; refine (fun (hx : Keeps b0 x) => ?_) ?_; clear_value x) | extract_lets

theorem State.loadEa_keeps {b0 : State} (c : Nat) (i : AwlIn) (n : Nat) (atomic : Bool) (s : State) (h_s : Keeps b0 s) :
    KeepsP b0 (State.loadEa c i n atomic s) := by
  unfold State.loadEa
  repeat' first
    | (with_reducible first
        | assumption | apply State.loadMem_keeps | apply KeepsE.ok | apply KeepsE.error | apply KeepsP.ok | apply KeepsP.error)
    | intro _ | split | (refine keeps_of_ok (by assumption) ?_) | (refine keeps_of_okP (by assumption) ?_)
    | (extract_lets x; refine (fun (hx : Keeps b0 x) => ?_) ?_; clear_value x) | extract_lets

theorem State.storeEa_keeps {b0 : State} (c : Nat) (i : AwlIn) (bs : List Byte) (atomic : Bool) (s : State) (h_s : Keeps b0 s) :
    KeepsE b0 (State.storeEa c i bs atomic s) := by
  unfold State.storeEa
  repeat' first
    | (with_reducible first
        | assumption | apply State.storeMem_keeps | apply KeepsE.ok | apply KeepsE.error | apply KeepsP.ok | apply KeepsP.error)
    | intro _ | split | (refine keeps_of_ok (by assumption) ?_) | (refine keeps_of_okP (by assumption) ?_)
    | (extract_lets x; refine (fun (hx : Keeps b0 x) => ?_) ?_; clear_value x) | extract_lets

theorem State.operand_keeps {b0 : State} (c : Nat) (i : AwlIn) (zi zm : Bool) (s : State) (h_s : Keeps b0 s) :
    KeepsP b0 (State.operand c i zi zm s) := by
  unfold State.operand
  repeat' first
    | (with_reducible first
        | assumption | apply State.loadEa_keeps | apply Call.ok_keeps | apply ite_keeps | apply KeepsE.ok | apply KeepsE.error
        | apply KeepsP.ok | apply KeepsP.error)
    | intro _ | split | (refine keeps_of_ok (by assumption) ?_) | (refine keeps_of_okP (by assumption) ?_)

theorem State.withOperand_keeps {b0 : State} (c : Nat) (i : AwlIn) (zi zm : Bool) (f : Word → Core → Core → Core) (s : State)
    (h_s : Keeps b0 s) :
    KeepsE b0 (State.withOperand c i zi zm f s) := by
  unfold State.withOperand
  repeat' first
    | (with_reducible first
        | assumption | apply State.operand_keeps | apply State.retire_keeps | apply Call.ok_keeps | apply KeepsE.ok
        | apply KeepsE.error | apply KeepsP.ok | apply KeepsP.error)
    | intro _ | split | (refine keeps_of_ok (by assumption) ?_) | (refine keeps_of_okP (by assumption) ?_)

theorem execNop_keeps {b0 : State} (c : CoreNo) (i : AwlIn) (s : State) (u : State) (h_s : Keeps b0 s) (h_u : Keeps b0 u) :
    Keeps b0 (nextOr u (execNop c i s)) := by
  unfold execNop
  repeat' first
    | (with_reducible first
        | assumption | apply State.retire_keeps | apply State.runInstr_keeps | apply Call.ok_keeps | apply nextOr_next_keeps
        | apply KeepsE.ok | apply KeepsE.error | apply KeepsP.ok | apply KeepsP.error)
    | intro _ | (refine keeps_of_ok (by assumption) ?_) | (refine keeps_of_okP (by assumption) ?_)

theorem execLd_keeps {b0 : State} (c : CoreNo) (i : AwlIn) (s : State) (u : State) (h_s : Keeps b0 s) (h_u : Keeps b0 u) :
    Keeps b0 (nextOr u (execLd c i s)) := by
  unfold execLd
  repeat' first
    | (with_reducible first
        | assumption | apply State.withOperand_keeps | apply State.runInstr_keeps | apply nextOr_next_keeps | apply KeepsE.ok
        | apply KeepsE.error | apply KeepsP.ok | apply KeepsP.error)
    | intro _ | (refine keeps_of_ok (by assumption) ?_) | (refine keeps_of_okP (by assumption) ?_)

theorem execLdu_keeps {b0 : State} (c : CoreNo) (i : AwlIn) (s : State) (u : State) (h_s : Keeps b0 s) (h_u : Keeps b0 u) :
    Keeps b0 (nextOr u (execLdu c i s)) := by
  unfold execLdu
  repeat' first
    | (with_reducible first
        | assumption | apply State.withOperand_keeps | apply State.runInstr_keeps | apply nextOr_next_keeps | apply KeepsE.ok
        | apply KeepsE.error | apply KeepsP.ok | apply KeepsP.error)
    | intro _ | (refine keeps_of_ok (by assumption) ?_) | (refine keeps_of_okP (by assumption) ?_)

theorem State.storeThen_keeps {b0 : State} (c : Nat) (i : AwlIn) (bs : List Byte) (f : Core → Core) (s : State)
    (h_s : Keeps b0 s) :
    KeepsE b0 (State.storeThen c i bs f s) := by
  unfold State.storeThen
  repeat' first
    | (with_reducible first
        | assumption | apply State.storeEa_keeps | apply State.retire_keeps | apply Call.ok_keeps | apply KeepsE.ok
        | apply KeepsE.error | apply KeepsP.ok | apply KeepsP.error)
    | intro _ | split | (refine keeps_of_ok (by assumption) ?_) | (refine keeps_of_okP (by assumption) ?_)

theorem execSt_keeps {b0 : State} (c : CoreNo) (i : AwlIn) (s : State) (u : State) (h_s : Keeps b0 s) (h_u : Keeps b0 u) :
    Keeps b0 (nextOr u (execSt c i s)) := by
  unfold execSt
  repeat' first
    | (with_reducible first
        | assumption | apply State.storeThen_keeps | apply State.runInstr_keeps | apply nextOr_next_keeps | apply KeepsE.ok
        | apply KeepsE.error | apply KeepsP.ok | apply KeepsP.error)
    | intro _ | (refine keeps_of_ok (by assumption) ?_) | (refine keeps_of_okP (by assumption) ?_)

theorem State.loadLong_keeps {b0 : State} (c : Nat) (i : AwlIn) (s : State) (h_s : Keeps b0 s) :
    KeepsE b0 (State.loadLong c i s) := by
  unfold State.loadLong
  repeat' first
    | (with_reducible first
        | assumption | apply State.loadEa_keeps | apply State.retire_keeps | apply Call.ok_keeps | apply KeepsE.ok
        | apply KeepsE.error | apply KeepsP.ok | apply KeepsP.error)
    | intro _ | split | (refine keeps_of_ok (by assumption) ?_) | (refine keeps_of_okP (by assumption) ?_)
    | (extract_lets x; refine (fun (hx : Keeps b0 x) => ?_) ?_; clear_value x) | extract_lets

theorem execLda_keeps {b0 : State} (c : CoreNo) (i : AwlIn) (s : State) (u : State) (h_s : Keeps b0 s) (h_u : Keeps b0 u) :
    Keeps b0 (nextOr u (execLda c i s)) := by
  unfold execLda
  repeat' first
    | (with_reducible first
        | assumption | apply State.loadLong_keeps | apply State.withOperand_keeps | apply State.runInstr_keeps
        | apply nextOr_next_keeps | apply ite_keeps | apply KeepsE.ok | apply KeepsE.error | apply KeepsP.ok
        | apply KeepsP.error)
    | intro _ | split | (refine keeps_of_ok (by assumption) ?_) | (refine keeps_of_okP (by assumption) ?_)

theorem execSta_keeps {b0 : State} (c : CoreNo) (i : AwlIn) (s : State) (u : State) (h_s : Keeps b0 s) (h_u : Keeps b0 u) :
    Keeps b0 (nextOr u (execSta c i s)) := by
  unfold execSta
  repeat' first
    | (with_reducible first
        | assumption | apply State.storeThen_keeps | apply State.runInstr_keeps | apply nextOr_next_keeps | apply ite_keeps
        | apply KeepsE.ok | apply KeepsE.error | apply KeepsP.ok | apply KeepsP.error)
    | intro _ | split | (refine keeps_of_ok (by assumption) ?_) | (refine keeps_of_okP (by assumption) ?_)
    | (extract_lets x; refine (fun (hx : Keeps b0 x) => ?_) ?_; clear_value x) | extract_lets

theorem execMov_keeps {b0 : State} (c : CoreNo) (i : AwlIn) (s : State) (u : State) (h_s : Keeps b0 s) (h_u : Keeps b0 u) :
    Keeps b0 (nextOr u (execMov c i s)) := by
  unfold execMov
  repeat' first
    | (with_reducible first
        | assumption | apply State.retire_keeps | apply State.runInstr_keeps | apply Call.ok_keeps | apply nextOr_next_keeps
        | apply KeepsE.ok | apply KeepsE.error | apply KeepsP.ok | apply KeepsP.error)
    | intro _ | (refine keeps_of_ok (by assumption) ?_) | (refine keeps_of_okP (by assumption) ?_)

theorem execLdh_keeps {b0 : State} (c : CoreNo) (i : AwlIn) (s : State) (u : State) (h_s : Keeps b0 s) (h_u : Keeps b0 u) :
    Keeps b0 (nextOr u (execLdh c i s)) := by
  unfold execLdh
  repeat' first
    | (with_reducible first
        | assumption | apply State.retire_keeps | apply State.runInstr_keeps | apply Call.ok_keeps | apply nextOr_next_keeps
        | apply KeepsE.ok | apply KeepsE.error | apply KeepsP.ok | apply KeepsP.error)
    | intro _ | (refine keeps_of_ok (by assumption) ?_) | (refine keeps_of_okP (by assumption) ?_)

theorem execAdd_keeps {b0 : State} (c : CoreNo) (i : AwlIn) (s : State) (u : State) (h_s : Keeps b0 s) (h_u : Keeps b0 u) :
    Keeps b0 (nextOr u (execAdd c i s)) := by
  unfold execAdd
  repeat' first
    | (with_reducible first
        | assumption | apply State.withOperand_keeps | apply State.runInstr_keeps | apply nextOr_next_keeps | apply KeepsE.ok
        | apply KeepsE.error | apply KeepsP.ok | apply KeepsP.error)
    | intro _ | (refine keeps_of_ok (by assumption) ?_) | (refine keeps_of_okP (by assumption) ?_)

theorem execAdc_keeps {b0 : State} (c : CoreNo) (i : AwlIn) (s : State) (u : State) (h_s : Keeps b0 s) (h_u : Keeps b0 u) :
    Keeps b0 (nextOr u (execAdc c i s)) := by
  unfold execAdc
  repeat' first
    | (with_reducible first
        | assumption | apply State.withOperand_keeps | apply State.runInstr_keeps | apply nextOr_next_keeps | apply KeepsE.ok
        | apply KeepsE.error | apply KeepsP.ok | apply KeepsP.error)
    | intro _ | (refine keeps_of_ok (by assumption) ?_) | (refine keeps_of_okP (by assumption) ?_)

theorem execSub_keeps {b0 : State} (c : CoreNo) (i : AwlIn) (s : State) (u : State) (h_s : Keeps b0 s) (h_u : Keeps b0 u) :
    Keeps b0 (nextOr u (execSub c i s)) := by
  unfold execSub
  repeat' first
    | (with_reducible first
        | assumption | apply State.withOperand_keeps | apply State.runInstr_keeps | apply nextOr_next_keeps | apply KeepsE.ok
        | apply KeepsE.error | apply KeepsP.ok | apply KeepsP.error)
    | intro _ | (refine keeps_of_ok (by assumption) ?_) | (refine keeps_of_okP (by assumption) ?_)

theorem execSbc_keeps {b0 : State} (c : CoreNo) (i : AwlIn) (s : State) (u : State) (h_s : Keeps b0 s) (h_u : Keeps b0 u) :
    Keeps b0 (nextOr u (execSbc c i s)) := by
  unfold execSbc
  repeat' first
    | (with_reducible first
        | assumption | apply State.withOperand_keeps | apply State.runInstr_keeps | apply nextOr_next_keeps | apply KeepsE.ok
        | apply KeepsE.error | apply KeepsP.ok | apply KeepsP.error)
    | intro _ | (refine keeps_of_ok (by assumption) ?_) | (refine keeps_of_okP (by assumption) ?_)

theorem execCmp_keeps {b0 : State} (c : CoreNo) (i : AwlIn) (s : State) (u : State) (h_s : Keeps b0 s) (h_u : Keeps b0 u) :
    Keeps b0 (nextOr u (execCmp c i s)) := by
  unfold execCmp
  repeat' first
    | (with_reducible first
        | assumption | apply State.withOperand_keeps | apply State.runInstr_keeps | apply nextOr_next_keeps | apply KeepsE.ok
        | apply KeepsE.error | apply KeepsP.ok | apply KeepsP.error)
    | intro _ | split | (refine keeps_of_ok (by assumption) ?_) | (refine keeps_of_okP (by assumption) ?_)
    | (extract_lets x; refine (fun (hx : Keeps b0 x) => ?_) ?_; clear_value x) | extract_lets

theorem execAnd_keeps {b0 : State} (c : CoreNo) (i : AwlIn) (s : State) (u : State) (h_s : Keeps b0 s) (h_u : Keeps b0 u) :
    Keeps b0 (nextOr u (execAnd c i s)) := by
  unfold execAnd
  repeat' first
    | (with_reducible first
        | assumption | apply State.withOperand_keeps | apply State.runInstr_keeps | apply nextOr_next_keeps | apply KeepsE.ok
        | apply KeepsE.error | apply KeepsP.ok | apply KeepsP.error)
    | intro _ | split | (refine keeps_of_ok (by assumption) ?_) | (refine keeps_of_okP (by assumption) ?_)
    | (extract_lets x; refine (fun (hx : Keeps b0 x) => ?_) ?_; clear_value x) | extract_lets

theorem execOr_keeps {b0 : State} (c : CoreNo) (i : AwlIn) (s : State) (u : State) (h_s : Keeps b0 s) (h_u : Keeps b0 u) :
    Keeps b0 (nextOr u (execOr c i s)) := by
  unfold execOr
  repeat' first
    | (with_reducible first
        | assumption | apply State.withOperand_keeps | apply State.runInstr_keeps | apply nextOr_next_keeps | apply KeepsE.ok
        | apply KeepsE.error | apply KeepsP.ok | apply KeepsP.error)
    | intro _ | split | (refine keeps_of_ok (by assumption) ?_) | (refine keeps_of_okP (by assumption) ?_)
    | (extract_lets x; refine (fun (hx : Keeps b0 x) => ?_) ?_; clear_value x) | extract_lets

theorem execXor_keeps {b0 : State} (c : CoreNo) (i : AwlIn) (s : State) (u : State) (h_s : Keeps b0 s) (h_u : Keeps b0 u) :
    Keeps b0 (nextOr u (execXor c i s)) := by
  unfold execXor
  repeat' first
    | (with_reducible first
        | assumption | apply State.withOperand_keeps | apply State.runInstr_keeps | apply nextOr_next_keeps | apply KeepsE.ok
        | apply KeepsE.error | apply KeepsP.ok | apply KeepsP.error)
    | intro _ | split | (refine keeps_of_ok (by assumption) ?_) | (refine keeps_of_okP (by assumption) ?_)
    | (extract_lets x; refine (fun (hx : Keeps b0 x) => ?_) ?_; clear_value x) | extract_lets

theorem execShl_keeps {b0 : State} (c : CoreNo) (i : AwlIn) (s : State) (u : State) (h_s : Keeps b0 s) (h_u : Keeps b0 u) :
    Keeps b0 (nextOr u (execShl c i s)) := by
  unfold execShl
  repeat' first
    | (with_reducible first
        | assumption | apply State.withOperand_keeps | apply State.runInstr_keeps | apply nextOr_next_keeps | apply KeepsE.ok
        | apply KeepsE.error | apply KeepsP.ok | apply KeepsP.error)
    | intro _ | (refine keeps_of_ok (by assumption) ?_) | (refine keeps_of_okP (by assumption) ?_)

theorem execShr_keeps {b0 : State} (c : CoreNo) (i : AwlIn) (s : State) (u : State) (h_s : Keeps b0 s) (h_u : Keeps b0 u) :
    Keeps b0 (nextOr u (execShr c i s)) := by
  unfold execShr
  repeat' first
    | (with_reducible first
        | assumption | apply State.withOperand_keeps | apply State.runInstr_keeps | apply nextOr_next_keeps | apply KeepsE.ok
        | apply KeepsE.error | apply KeepsP.ok | apply KeepsP.error)
    | intro _ | (refine keeps_of_ok (by assumption) ?_) | (refine keeps_of_okP (by assumption) ?_)

theorem execAsr_keeps {b0 : State} (c : CoreNo) (i : AwlIn) (s : State) (u : State) (h_s : Keeps b0 s) (h_u : Keeps b0 u) :
    Keeps b0 (nextOr u (execAsr c i s)) := by
  unfold execAsr
  repeat' first
    | (with_reducible first
        | assumption | apply State.withOperand_keeps | apply State.runInstr_keeps | apply nextOr_next_keeps | apply KeepsE.ok
        | apply KeepsE.error | apply KeepsP.ok | apply KeepsP.error)
    | intro _ | (refine keeps_of_ok (by assumption) ?_) | (refine keeps_of_okP (by assumption) ?_)

theorem execRol_keeps {b0 : State} (c : CoreNo) (i : AwlIn) (s : State) (u : State) (h_s : Keeps b0 s) (h_u : Keeps b0 u) :
    Keeps b0 (nextOr u (execRol c i s)) := by
  unfold execRol
  repeat' first
    | (with_reducible first
        | assumption | apply State.withOperand_keeps | apply State.runInstr_keeps | apply nextOr_next_keeps | apply KeepsE.ok
        | apply KeepsE.error | apply KeepsP.ok | apply KeepsP.error)
    | intro _ | (refine keeps_of_ok (by assumption) ?_) | (refine keeps_of_okP (by assumption) ?_)

theorem execTst_keeps {b0 : State} (c : CoreNo) (i : AwlIn) (s : State) (u : State) (h_s : Keeps b0 s) (h_u : Keeps b0 u) :
    Keeps b0 (nextOr u (execTst c i s)) := by
  unfold execTst
  repeat' first
    | (with_reducible first
        | assumption | apply State.withOperand_keeps | apply State.runInstr_keeps | apply nextOr_next_keeps | apply KeepsE.ok
        | apply KeepsE.error | apply KeepsP.ok | apply KeepsP.error)
    | intro _ | (refine keeps_of_ok (by assumption) ?_) | (refine keeps_of_okP (by assumption) ?_)

theorem execLea_keeps {b0 : State} (c : CoreNo) (i : AwlIn) (s : State) (u : State) (h_s : Keeps b0 s) (h_u : Keeps b0 u) :
    Keeps b0 (nextOr u (execLea c i s)) := by
  unfold execLea
  repeat' first
    | (with_reducible first
        | assumption | apply State.retire_keeps | apply State.runInstr_keeps | apply Call.ok_keeps | apply nextOr_next_keeps
        | apply KeepsE.ok | apply KeepsE.error | apply KeepsP.ok | apply KeepsP.error)
    | intro _ | (refine keeps_of_ok (by assumption) ?_) | (refine keeps_of_okP (by assumption) ?_)

theorem execMul_keeps {b0 : State} (c : CoreNo) (i : AwlIn) (s : State) (u : State) (h_s : Keeps b0 s) (h_u : Keeps b0 u) :
    Keeps b0 (nextOr u (execMul c i s)) := by
  unfold execMul
  repeat' first
    | (with_reducible first
        | assumption | apply State.withOperand_keeps | apply State.runInstr_keeps | apply nextOr_next_keeps | apply KeepsE.ok
        | apply KeepsE.error | apply KeepsP.ok | apply KeepsP.error)
    | intro _ | split | (refine keeps_of_ok (by assumption) ?_) | (refine keeps_of_okP (by assumption) ?_)
    | (extract_lets x; refine (fun (hx : Keeps b0 x) => ?_) ?_; clear_value x) | extract_lets

theorem execMulh_keeps {b0 : State} (c : CoreNo) (i : AwlIn) (s : State) (u : State) (h_s : Keeps b0 s) (h_u : Keeps b0 u) :
    Keeps b0 (nextOr u (execMulh c i s)) := by
  unfold execMulh
  repeat' first
    | (with_reducible first
        | assumption | apply State.withOperand_keeps | apply State.runInstr_keeps | apply nextOr_next_keeps | apply KeepsE.ok
        | apply KeepsE.error | apply KeepsP.ok | apply KeepsP.error)
    | intro _ | split | (refine keeps_of_ok (by assumption) ?_) | (refine keeps_of_okP (by assumption) ?_)
    | (extract_lets x; refine (fun (hx : Keeps b0 x) => ?_) ?_; clear_value x) | extract_lets

theorem execExt_keeps {b0 : State} (c : CoreNo) (i : AwlIn) (s : State) (u : State) (h_s : Keeps b0 s) (h_u : Keeps b0 u) :
    Keeps b0 (nextOr u (execExt c i s)) := by
  unfold execExt
  repeat' first
    | (with_reducible first
        | assumption | apply State.retire_keeps | apply State.runInstr_keeps | apply Call.ok_keeps | apply nextOr_next_keeps
        | apply ite_keeps | apply KeepsE.ok | apply KeepsE.error | apply KeepsP.ok | apply KeepsP.error)
    | intro _ | split | (refine keeps_of_ok (by assumption) ?_) | (refine keeps_of_okP (by assumption) ?_)
    | (extract_lets x; refine (fun (hx : Keeps b0 x) => ?_) ?_; clear_value x) | extract_lets

theorem State.pushWord_keeps {b0 : State} (c : Nat) (i : AwlIn) (v : Word) (f : Core → Core) (s : State) (h_s : Keeps b0 s) :
    KeepsE b0 (State.pushWord c i v f s) := by
  unfold State.pushWord
  repeat' first
    | (with_reducible first
        | assumption | apply State.storeMem_keeps | apply Call.ok_keeps | apply State.updCore_keeps | apply KeepsE.ok
        | apply KeepsE.error | apply KeepsP.ok | apply KeepsP.error)
    | intro _ | split | (refine keeps_of_ok (by assumption) ?_) | (refine keeps_of_okP (by assumption) ?_)
    | (extract_lets x; refine (fun (hx : Keeps b0 x) => ?_) ?_; clear_value x) | extract_lets

theorem State.popWord_keeps {b0 : State} (c : Nat) (i : AwlIn) (s : State) (h_s : Keeps b0 s) :
    KeepsP b0 (State.popWord c i s) := by
  unfold State.popWord
  repeat' first
    | (with_reducible first
        | assumption | apply State.loadMem_keeps | apply Call.ok_keeps | apply State.updCore_keeps | apply KeepsE.ok
        | apply KeepsE.error | apply KeepsP.ok | apply KeepsP.error)
    | intro _ | split | (refine keeps_of_ok (by assumption) ?_) | (refine keeps_of_okP (by assumption) ?_)
    | (extract_lets x; refine (fun (hx : Keeps b0 x) => ?_) ?_; clear_value x) | extract_lets

theorem execPush_keeps {b0 : State} (c : CoreNo) (i : AwlIn) (s : State) (u : State) (h_s : Keeps b0 s) (h_u : Keeps b0 u) :
    Keeps b0 (nextOr u (execPush c i s)) := by
  unfold execPush
  repeat' first
    | (with_reducible first
        | assumption | apply State.pushWord_keeps | apply State.runInstr_keeps | apply nextOr_next_keeps | apply KeepsE.ok
        | apply KeepsE.error | apply KeepsP.ok | apply KeepsP.error)
    | intro _ | (refine keeps_of_ok (by assumption) ?_) | (refine keeps_of_okP (by assumption) ?_)

theorem execPop_keeps {b0 : State} (c : CoreNo) (i : AwlIn) (s : State) (u : State) (h_s : Keeps b0 s) (h_u : Keeps b0 u) :
    Keeps b0 (nextOr u (execPop c i s)) := by
  unfold execPop
  repeat' first
    | (with_reducible first
        | assumption | apply State.popWord_keeps | apply State.retire_keeps | apply State.runInstr_keeps | apply Call.ok_keeps
        | apply nextOr_next_keeps | apply KeepsE.ok | apply KeepsE.error | apply KeepsP.ok | apply KeepsP.error)
    | intro _ | split | (refine keeps_of_ok (by assumption) ?_) | (refine keeps_of_okP (by assumption) ?_)

theorem State.divide_keeps {b0 : State} (c : Nat) (i : AwlIn) (f : Word → Core → Core → Core) (s : State) (h_s : Keeps b0 s) :
    KeepsE b0 (State.divide c i f s) := by
  unfold State.divide
  repeat' first
    | (with_reducible first
        | assumption | apply State.operand_keeps | apply State.retire_keeps | apply Call.ok_keeps | apply ite_keeps
        | apply KeepsE.ok | apply KeepsE.error | apply KeepsP.ok | apply KeepsP.error)
    | intro _ | split | (refine keeps_of_ok (by assumption) ?_) | (refine keeps_of_okP (by assumption) ?_)

theorem execDivu_keeps {b0 : State} (c : CoreNo) (i : AwlIn) (s : State) (u : State) (h_s : Keeps b0 s) (h_u : Keeps b0 u) :
    Keeps b0 (nextOr u (execDivu c i s)) := by
  unfold execDivu
  repeat' first
    | (with_reducible first
        | assumption | apply State.divide_keeps | apply State.runInstr_keeps | apply nextOr_next_keeps | apply KeepsE.ok
        | apply KeepsE.error | apply KeepsP.ok | apply KeepsP.error)
    | intro _ | (refine keeps_of_ok (by assumption) ?_) | (refine keeps_of_okP (by assumption) ?_)

theorem execDivs_keeps {b0 : State} (c : CoreNo) (i : AwlIn) (s : State) (u : State) (h_s : Keeps b0 s) (h_u : Keeps b0 u) :
    Keeps b0 (nextOr u (execDivs c i s)) := by
  unfold execDivs
  repeat' first
    | (with_reducible first
        | assumption | apply State.divide_keeps | apply State.runInstr_keeps | apply nextOr_next_keeps | apply KeepsE.ok
        | apply KeepsE.error | apply KeepsP.ok | apply KeepsP.error)
    | intro _ | split | (refine keeps_of_ok (by assumption) ?_) | (refine keeps_of_okP (by assumption) ?_)
    | (extract_lets x; refine (fun (hx : Keeps b0 x) => ?_) ?_; clear_value x) | extract_lets

theorem execMpy_keeps {b0 : State} (c : CoreNo) (i : AwlIn) (s : State) (u : State) (h_s : Keeps b0 s) (h_u : Keeps b0 u) :
    Keeps b0 (nextOr u (execMpy c i s)) := by
  unfold execMpy
  repeat' first
    | (with_reducible first
        | assumption | apply State.withOperand_keeps | apply State.runInstr_keeps | apply nextOr_next_keeps | apply ite_keeps
        | apply KeepsE.ok | apply KeepsE.error | apply KeepsP.ok | apply KeepsP.error)
    | intro _ | split | (refine keeps_of_ok (by assumption) ?_) | (refine keeps_of_okP (by assumption) ?_)

theorem execMac_keeps {b0 : State} (c : CoreNo) (i : AwlIn) (s : State) (u : State) (h_s : Keeps b0 s) (h_u : Keeps b0 u) :
    Keeps b0 (nextOr u (execMac c i s)) := by
  unfold execMac
  repeat' first
    | (with_reducible first
        | assumption | apply State.withOperand_keeps | apply State.runInstr_keeps | apply nextOr_next_keeps | apply ite_keeps
        | apply KeepsE.ok | apply KeepsE.error | apply KeepsP.ok | apply KeepsP.error)
    | intro _ | split | (refine keeps_of_ok (by assumption) ?_) | (refine keeps_of_okP (by assumption) ?_)

theorem execMsu_keeps {b0 : State} (c : CoreNo) (i : AwlIn) (s : State) (u : State) (h_s : Keeps b0 s) (h_u : Keeps b0 u) :
    Keeps b0 (nextOr u (execMsu c i s)) := by
  unfold execMsu
  repeat' first
    | (with_reducible first
        | assumption | apply State.withOperand_keeps | apply State.runInstr_keeps | apply nextOr_next_keeps | apply ite_keeps
        | apply KeepsE.ok | apply KeepsE.error | apply KeepsP.ok | apply KeepsP.error)
    | intro _ | split | (refine keeps_of_ok (by assumption) ?_) | (refine keeps_of_okP (by assumption) ?_)

theorem execAdda_keeps {b0 : State} (c : CoreNo) (i : AwlIn) (s : State) (u : State) (h_s : Keeps b0 s) (h_u : Keeps b0 u) :
    Keeps b0 (nextOr u (execAdda c i s)) := by
  unfold execAdda
  repeat' first
    | (with_reducible first
        | assumption | apply State.withOperand_keeps | apply State.runInstr_keeps | apply nextOr_next_keeps | apply KeepsE.ok
        | apply KeepsE.error | apply KeepsP.ok | apply KeepsP.error)
    | intro _ | (refine keeps_of_ok (by assumption) ?_) | (refine keeps_of_okP (by assumption) ?_)

theorem execSuba_keeps {b0 : State} (c : CoreNo) (i : AwlIn) (s : State) (u : State) (h_s : Keeps b0 s) (h_u : Keeps b0 u) :
    Keeps b0 (nextOr u (execSuba c i s)) := by
  unfold execSuba
  repeat' first
    | (with_reducible first
        | assumption | apply State.withOperand_keeps | apply State.runInstr_keeps | apply nextOr_next_keeps | apply KeepsE.ok
        | apply KeepsE.error | apply KeepsP.ok | apply KeepsP.error)
    | intro _ | (refine keeps_of_ok (by assumption) ?_) | (refine keeps_of_okP (by assumption) ?_)

theorem execRnd_keeps {b0 : State} (c : CoreNo) (i : AwlIn) (s : State) (u : State) (h_s : Keeps b0 s) (h_u : Keeps b0 u) :
    Keeps b0 (nextOr u (execRnd c i s)) := by
  unfold execRnd
  repeat' first
    | (with_reducible first
        | assumption | apply State.retire_keeps | apply State.runInstr_keeps | apply Call.ok_keeps | apply nextOr_next_keeps
        | apply KeepsE.ok | apply KeepsE.error | apply KeepsP.ok | apply KeepsP.error)
    | intro _ | (refine keeps_of_ok (by assumption) ?_) | (refine keeps_of_okP (by assumption) ?_)

theorem execSata_keeps {b0 : State} (c : CoreNo) (i : AwlIn) (s : State) (u : State) (h_s : Keeps b0 s) (h_u : Keeps b0 u) :
    Keeps b0 (nextOr u (execSata c i s)) := by
  unfold execSata
  repeat' first
    | (with_reducible first
        | assumption | apply State.retire_keeps | apply State.runInstr_keeps | apply Call.ok_keeps | apply nextOr_next_keeps
        | apply KeepsE.ok | apply KeepsE.error | apply KeepsP.ok | apply KeepsP.error)
    | intro _ | split | (refine keeps_of_ok (by assumption) ?_) | (refine keeps_of_okP (by assumption) ?_)
    | (extract_lets x; refine (fun (hx : Keeps b0 x) => ?_) ?_; clear_value x) | extract_lets

theorem execNrm_keeps {b0 : State} (c : CoreNo) (i : AwlIn) (s : State) (u : State) (h_s : Keeps b0 s) (h_u : Keeps b0 u) :
    Keeps b0 (nextOr u (execNrm c i s)) := by
  unfold execNrm
  repeat' first
    | (with_reducible first
        | assumption | apply State.retire_keeps | apply State.runInstr_keeps | apply Call.ok_keeps | apply nextOr_next_keeps
        | apply KeepsE.ok | apply KeepsE.error | apply KeepsP.ok | apply KeepsP.error)
    | intro _ | split | (refine keeps_of_ok (by assumption) ?_) | (refine keeps_of_okP (by assumption) ?_)
    | (extract_lets x; refine (fun (hx : Keeps b0 x) => ?_) ?_; clear_value x) | extract_lets

theorem execAbs_keeps {b0 : State} (c : CoreNo) (i : AwlIn) (s : State) (u : State) (h_s : Keeps b0 s) (h_u : Keeps b0 u) :
    Keeps b0 (nextOr u (execAbs c i s)) := by
  unfold execAbs
  repeat' first
    | (with_reducible first
        | assumption | apply State.retire_keeps | apply State.runInstr_keeps | apply Call.ok_keeps | apply nextOr_next_keeps
        | apply KeepsE.ok | apply KeepsE.error | apply KeepsP.ok | apply KeepsP.error)
    | intro _ | (refine keeps_of_ok (by assumption) ?_) | (refine keeps_of_okP (by assumption) ?_)

theorem execNeg_keeps {b0 : State} (c : CoreNo) (i : AwlIn) (s : State) (u : State) (h_s : Keeps b0 s) (h_u : Keeps b0 u) :
    Keeps b0 (nextOr u (execNeg c i s)) := by
  unfold execNeg
  repeat' first
    | (with_reducible first
        | assumption | apply State.retire_keeps | apply State.runInstr_keeps | apply Call.ok_keeps | apply nextOr_next_keeps
        | apply KeepsE.ok | apply KeepsE.error | apply KeepsP.ok | apply KeepsP.error)
    | intro _ | (refine keeps_of_ok (by assumption) ?_) | (refine keeps_of_okP (by assumption) ?_)

theorem execClra_keeps {b0 : State} (c : CoreNo) (i : AwlIn) (s : State) (u : State) (h_s : Keeps b0 s) (h_u : Keeps b0 u) :
    Keeps b0 (nextOr u (execClra c i s)) := by
  unfold execClra
  repeat' first
    | (with_reducible first
        | assumption | apply State.retire_keeps | apply State.runInstr_keeps | apply Call.ok_keeps | apply nextOr_next_keeps
        | apply KeepsE.ok | apply KeepsE.error | apply KeepsP.ok | apply KeepsP.error)
    | intro _ | (refine keeps_of_ok (by assumption) ?_) | (refine keeps_of_okP (by assumption) ?_)

theorem execLdf_keeps {b0 : State} (c : CoreNo) (i : AwlIn) (s : State) (u : State) (h_s : Keeps b0 s) (h_u : Keeps b0 u) :
    Keeps b0 (nextOr u (execLdf c i s)) := by
  unfold execLdf
  repeat' first
    | (with_reducible first
        | assumption | apply State.withOperand_keeps | apply State.runInstr_keeps | apply nextOr_next_keeps | apply KeepsE.ok
        | apply KeepsE.error | apply KeepsP.ok | apply KeepsP.error)
    | intro _ | split | (refine keeps_of_ok (by assumption) ?_) | (refine keeps_of_okP (by assumption) ?_)
    | (extract_lets x; refine (fun (hx : Keeps b0 x) => ?_) ?_; clear_value x) | extract_lets

theorem execAsla_keeps {b0 : State} (c : CoreNo) (i : AwlIn) (s : State) (u : State) (h_s : Keeps b0 s) (h_u : Keeps b0 u) :
    Keeps b0 (nextOr u (execAsla c i s)) := by
  unfold execAsla
  repeat' first
    | (with_reducible first
        | assumption | apply State.withOperand_keeps | apply State.runInstr_keeps | apply nextOr_next_keeps | apply KeepsE.ok
        | apply KeepsE.error | apply KeepsP.ok | apply KeepsP.error)
    | intro _ | (refine keeps_of_ok (by assumption) ?_) | (refine keeps_of_okP (by assumption) ?_)

theorem execAsra_keeps {b0 : State} (c : CoreNo) (i : AwlIn) (s : State) (u : State) (h_s : Keeps b0 s) (h_u : Keeps b0 u) :
    Keeps b0 (nextOr u (execAsra c i s)) := by
  unfold execAsra
  repeat' first
    | (with_reducible first
        | assumption | apply State.withOperand_keeps | apply State.runInstr_keeps | apply nextOr_next_keeps | apply KeepsE.ok
        | apply KeepsE.error | apply KeepsP.ok | apply KeepsP.error)
    | intro _ | split | (refine keeps_of_ok (by assumption) ?_) | (refine keeps_of_okP (by assumption) ?_)
    | (extract_lets x; refine (fun (hx : Keeps b0 x) => ?_) ?_; clear_value x) | extract_lets

theorem execMova_keeps {b0 : State} (c : CoreNo) (i : AwlIn) (s : State) (u : State) (h_s : Keeps b0 s) (h_u : Keeps b0 u) :
    Keeps b0 (nextOr u (execMova c i s)) := by
  unfold execMova
  repeat' first
    | (with_reducible first
        | assumption | apply State.retire_keeps | apply State.runInstr_keeps | apply Call.ok_keeps | apply nextOr_next_keeps
        | apply KeepsE.ok | apply KeepsE.error | apply KeepsP.ok | apply KeepsP.error)
    | intro _ | (refine keeps_of_ok (by assumption) ?_) | (refine keeps_of_okP (by assumption) ?_)

theorem execCmpa_keeps {b0 : State} (c : CoreNo) (i : AwlIn) (s : State) (u : State) (h_s : Keeps b0 s) (h_u : Keeps b0 u) :
    Keeps b0 (nextOr u (execCmpa c i s)) := by
  unfold execCmpa
  repeat' first
    | (with_reducible first
        | assumption | apply State.withOperand_keeps | apply State.runInstr_keeps | apply nextOr_next_keeps | apply KeepsE.ok
        | apply KeepsE.error | apply KeepsP.ok | apply KeepsP.error)
    | intro _ | split | (refine keeps_of_ok (by assumption) ?_) | (refine keeps_of_okP (by assumption) ?_)
    | (extract_lets x; refine (fun (hx : Keeps b0 x) => ?_) ?_; clear_value x) | extract_lets

theorem State.jump_keeps {b0 : State} (c : Nat) (v : Word) (s : State) (h_s : Keeps b0 s) :
    KeepsE b0 (State.jump c v s) := by
  unfold State.jump
  repeat' first
    | (with_reducible first
        | assumption | apply Call.ok_keeps | apply State.updCore_keeps | apply KeepsE.ok | apply KeepsE.error | apply KeepsP.ok
        | apply KeepsP.error)
    | intro _ | split | (refine keeps_of_ok (by assumption) ?_) | (refine keeps_of_okP (by assumption) ?_)

theorem State.branch_keeps {b0 : State} (c : Nat) (i : AwlIn) (cc : Nat) (s : State) (h_s : Keeps b0 s) :
    KeepsE b0 (State.branch c i cc s) := by
  unfold State.branch
  repeat' first
    | (with_reducible first
        | assumption | apply State.jump_keeps | apply State.retire_keeps | apply Call.ok_keeps | apply ite_keeps
        | apply KeepsE.ok | apply KeepsE.error | apply KeepsP.ok | apply KeepsP.error)
    | intro _ | split | (refine keeps_of_ok (by assumption) ?_) | (refine keeps_of_okP (by assumption) ?_)
    | (extract_lets x; refine (fun (hx : Keeps b0 x) => ?_) ?_; clear_value x) | extract_lets

theorem execBra_keeps {b0 : State} (c : CoreNo) (i : AwlIn) (s : State) (u : State) (h_s : Keeps b0 s) (h_u : Keeps b0 u) :
    Keeps b0 (nextOr u (execBra c i s)) := by
  unfold execBra
  repeat' first
    | (with_reducible first
        | assumption | apply State.branch_keeps | apply State.runInstr_keeps | apply nextOr_next_keeps | apply KeepsE.ok
        | apply KeepsE.error | apply KeepsP.ok | apply KeepsP.error)
    | intro _ | (refine keeps_of_ok (by assumption) ?_) | (refine keeps_of_okP (by assumption) ?_)

theorem execBeq_keeps {b0 : State} (c : CoreNo) (i : AwlIn) (s : State) (u : State) (h_s : Keeps b0 s) (h_u : Keeps b0 u) :
    Keeps b0 (nextOr u (execBeq c i s)) := by
  unfold execBeq
  repeat' first
    | (with_reducible first
        | assumption | apply State.branch_keeps | apply State.runInstr_keeps | apply nextOr_next_keeps | apply KeepsE.ok
        | apply KeepsE.error | apply KeepsP.ok | apply KeepsP.error)
    | intro _ | (refine keeps_of_ok (by assumption) ?_) | (refine keeps_of_okP (by assumption) ?_)

theorem execBne_keeps {b0 : State} (c : CoreNo) (i : AwlIn) (s : State) (u : State) (h_s : Keeps b0 s) (h_u : Keeps b0 u) :
    Keeps b0 (nextOr u (execBne c i s)) := by
  unfold execBne
  repeat' first
    | (with_reducible first
        | assumption | apply State.branch_keeps | apply State.runInstr_keeps | apply nextOr_next_keeps | apply KeepsE.ok
        | apply KeepsE.error | apply KeepsP.ok | apply KeepsP.error)
    | intro _ | (refine keeps_of_ok (by assumption) ?_) | (refine keeps_of_okP (by assumption) ?_)

theorem execBlt_keeps {b0 : State} (c : CoreNo) (i : AwlIn) (s : State) (u : State) (h_s : Keeps b0 s) (h_u : Keeps b0 u) :
    Keeps b0 (nextOr u (execBlt c i s)) := by
  unfold execBlt
  repeat' first
    | (with_reducible first
        | assumption | apply State.branch_keeps | apply State.runInstr_keeps | apply nextOr_next_keeps | apply KeepsE.ok
        | apply KeepsE.error | apply KeepsP.ok | apply KeepsP.error)
    | intro _ | (refine keeps_of_ok (by assumption) ?_) | (refine keeps_of_okP (by assumption) ?_)

theorem execBge_keeps {b0 : State} (c : CoreNo) (i : AwlIn) (s : State) (u : State) (h_s : Keeps b0 s) (h_u : Keeps b0 u) :
    Keeps b0 (nextOr u (execBge c i s)) := by
  unfold execBge
  repeat' first
    | (with_reducible first
        | assumption | apply State.branch_keeps | apply State.runInstr_keeps | apply nextOr_next_keeps | apply KeepsE.ok
        | apply KeepsE.error | apply KeepsP.ok | apply KeepsP.error)
    | intro _ | (refine keeps_of_ok (by assumption) ?_) | (refine keeps_of_okP (by assumption) ?_)

theorem execBgt_keeps {b0 : State} (c : CoreNo) (i : AwlIn) (s : State) (u : State) (h_s : Keeps b0 s) (h_u : Keeps b0 u) :
    Keeps b0 (nextOr u (execBgt c i s)) := by
  unfold execBgt
  repeat' first
    | (with_reducible first
        | assumption | apply State.branch_keeps | apply State.runInstr_keeps | apply nextOr_next_keeps | apply KeepsE.ok
        | apply KeepsE.error | apply KeepsP.ok | apply KeepsP.error)
    | intro _ | (refine keeps_of_ok (by assumption) ?_) | (refine keeps_of_okP (by assumption) ?_)

theorem execBle_keeps {b0 : State} (c : CoreNo) (i : AwlIn) (s : State) (u : State) (h_s : Keeps b0 s) (h_u : Keeps b0 u) :
    Keeps b0 (nextOr u (execBle c i s)) := by
  unfold execBle
  repeat' first
    | (with_reducible first
        | assumption | apply State.branch_keeps | apply State.runInstr_keeps | apply nextOr_next_keeps | apply KeepsE.ok
        | apply KeepsE.error | apply KeepsP.ok | apply KeepsP.error)
    | intro _ | (refine keeps_of_ok (by assumption) ?_) | (refine keeps_of_okP (by assumption) ?_)

theorem execBlo_keeps {b0 : State} (c : CoreNo) (i : AwlIn) (s : State) (u : State) (h_s : Keeps b0 s) (h_u : Keeps b0 u) :
    Keeps b0 (nextOr u (execBlo c i s)) := by
  unfold execBlo
  repeat' first
    | (with_reducible first
        | assumption | apply State.branch_keeps | apply State.runInstr_keeps | apply nextOr_next_keeps | apply KeepsE.ok
        | apply KeepsE.error | apply KeepsP.ok | apply KeepsP.error)
    | intro _ | (refine keeps_of_ok (by assumption) ?_) | (refine keeps_of_okP (by assumption) ?_)

theorem execBhs_keeps {b0 : State} (c : CoreNo) (i : AwlIn) (s : State) (u : State) (h_s : Keeps b0 s) (h_u : Keeps b0 u) :
    Keeps b0 (nextOr u (execBhs c i s)) := by
  unfold execBhs
  repeat' first
    | (with_reducible first
        | assumption | apply State.branch_keeps | apply State.runInstr_keeps | apply nextOr_next_keeps | apply KeepsE.ok
        | apply KeepsE.error | apply KeepsP.ok | apply KeepsP.error)
    | intro _ | (refine keeps_of_ok (by assumption) ?_) | (refine keeps_of_okP (by assumption) ?_)

theorem execBhi_keeps {b0 : State} (c : CoreNo) (i : AwlIn) (s : State) (u : State) (h_s : Keeps b0 s) (h_u : Keeps b0 u) :
    Keeps b0 (nextOr u (execBhi c i s)) := by
  unfold execBhi
  repeat' first
    | (with_reducible first
        | assumption | apply State.branch_keeps | apply State.runInstr_keeps | apply nextOr_next_keeps | apply KeepsE.ok
        | apply KeepsE.error | apply KeepsP.ok | apply KeepsP.error)
    | intro _ | (refine keeps_of_ok (by assumption) ?_) | (refine keeps_of_okP (by assumption) ?_)

theorem execBls_keeps {b0 : State} (c : CoreNo) (i : AwlIn) (s : State) (u : State) (h_s : Keeps b0 s) (h_u : Keeps b0 u) :
    Keeps b0 (nextOr u (execBls c i s)) := by
  unfold execBls
  repeat' first
    | (with_reducible first
        | assumption | apply State.branch_keeps | apply State.runInstr_keeps | apply nextOr_next_keeps | apply KeepsE.ok
        | apply KeepsE.error | apply KeepsP.ok | apply KeepsP.error)
    | intro _ | (refine keeps_of_ok (by assumption) ?_) | (refine keeps_of_okP (by assumption) ?_)

theorem execBmi_keeps {b0 : State} (c : CoreNo) (i : AwlIn) (s : State) (u : State) (h_s : Keeps b0 s) (h_u : Keeps b0 u) :
    Keeps b0 (nextOr u (execBmi c i s)) := by
  unfold execBmi
  repeat' first
    | (with_reducible first
        | assumption | apply State.branch_keeps | apply State.runInstr_keeps | apply nextOr_next_keeps | apply KeepsE.ok
        | apply KeepsE.error | apply KeepsP.ok | apply KeepsP.error)
    | intro _ | (refine keeps_of_ok (by assumption) ?_) | (refine keeps_of_okP (by assumption) ?_)

theorem execBpl_keeps {b0 : State} (c : CoreNo) (i : AwlIn) (s : State) (u : State) (h_s : Keeps b0 s) (h_u : Keeps b0 u) :
    Keeps b0 (nextOr u (execBpl c i s)) := by
  unfold execBpl
  repeat' first
    | (with_reducible first
        | assumption | apply State.branch_keeps | apply State.runInstr_keeps | apply nextOr_next_keeps | apply KeepsE.ok
        | apply KeepsE.error | apply KeepsP.ok | apply KeepsP.error)
    | intro _ | (refine keeps_of_ok (by assumption) ?_) | (refine keeps_of_okP (by assumption) ?_)

theorem execBvs_keeps {b0 : State} (c : CoreNo) (i : AwlIn) (s : State) (u : State) (h_s : Keeps b0 s) (h_u : Keeps b0 u) :
    Keeps b0 (nextOr u (execBvs c i s)) := by
  unfold execBvs
  repeat' first
    | (with_reducible first
        | assumption | apply State.branch_keeps | apply State.runInstr_keeps | apply nextOr_next_keeps | apply KeepsE.ok
        | apply KeepsE.error | apply KeepsP.ok | apply KeepsP.error)
    | intro _ | (refine keeps_of_ok (by assumption) ?_) | (refine keeps_of_okP (by assumption) ?_)

theorem execBvc_keeps {b0 : State} (c : CoreNo) (i : AwlIn) (s : State) (u : State) (h_s : Keeps b0 s) (h_u : Keeps b0 u) :
    Keeps b0 (nextOr u (execBvc c i s)) := by
  unfold execBvc
  repeat' first
    | (with_reducible first
        | assumption | apply State.branch_keeps | apply State.runInstr_keeps | apply nextOr_next_keeps | apply KeepsE.ok
        | apply KeepsE.error | apply KeepsP.ok | apply KeepsP.error)
    | intro _ | (refine keeps_of_ok (by assumption) ?_) | (refine keeps_of_okP (by assumption) ?_)

theorem execBsv_keeps {b0 : State} (c : CoreNo) (i : AwlIn) (s : State) (u : State) (h_s : Keeps b0 s) (h_u : Keeps b0 u) :
    Keeps b0 (nextOr u (execBsv c i s)) := by
  unfold execBsv
  repeat' first
    | (with_reducible first
        | assumption | apply State.branch_keeps | apply State.runInstr_keeps | apply nextOr_next_keeps | apply KeepsE.ok
        | apply KeepsE.error | apply KeepsP.ok | apply KeepsP.error)
    | intro _ | (refine keeps_of_ok (by assumption) ?_) | (refine keeps_of_okP (by assumption) ?_)

theorem execCall_keeps {b0 : State} (c : CoreNo) (i : AwlIn) (s : State) (u : State) (h_s : Keeps b0 s) (h_u : Keeps b0 u) :
    Keeps b0 (nextOr u (execCall c i s)) := by
  unfold execCall
  repeat' first
    | (with_reducible first
        | assumption | apply State.pushWord_keeps | apply State.runInstr_keeps | apply nextOr_next_keeps | apply KeepsE.ok
        | apply KeepsE.error | apply KeepsP.ok | apply KeepsP.error)
    | intro _ | split | (refine keeps_of_ok (by assumption) ?_) | (refine keeps_of_okP (by assumption) ?_)
    | (extract_lets x; refine (fun (hx : Keeps b0 x) => ?_) ?_; clear_value x) | extract_lets

theorem execRet_keeps {b0 : State} (c : CoreNo) (i : AwlIn) (s : State) (u : State) (h_s : Keeps b0 s) (h_u : Keeps b0 u) :
    Keeps b0 (nextOr u (execRet c i s)) := by
  unfold execRet
  repeat' first
    | (with_reducible first
        | assumption | apply State.jump_keeps | apply State.popWord_keeps | apply State.runInstr_keeps | apply Call.ok_keeps
        | apply nextOr_next_keeps | apply KeepsE.ok | apply KeepsE.error | apply KeepsP.ok | apply KeepsP.error)
    | intro _ | split | (refine keeps_of_ok (by assumption) ?_) | (refine keeps_of_okP (by assumption) ?_)

theorem State.readFrame_keeps {b0 : State} (c : Nat) (lv : Level) (a : Nat) (i : AwlIn) (s : State) (h_s : Keeps b0 s) :
    Keeps b0 (s.readFrame c lv a i).2 := by
  unfold State.readFrame
  refine foldl_snd_keeps _ _ (fun p j h => ?_) _ h_s
  exact State.readArea_keeps c lv (a + 4 * j) 4 i p.2 h

theorem State.rte_keeps {b0 : State} (c : Nat) (i : AwlIn) (s : State) (h_s : Keeps b0 s) :
    KeepsE b0 (State.rte c i s) := by
  unfold State.rte
  repeat' first
    | (with_reducible first
        | assumption | apply State.readFrame_keeps | apply Call.ok_keeps | apply State.updCore_keeps | apply ite_keeps
        | apply KeepsE.ok | apply KeepsE.error | apply KeepsP.ok | apply KeepsP.error)
    | intro _ | split | (refine keeps_of_pair (by assumption) ?_) | (refine keeps_of_ok (by assumption) ?_)
    | (refine keeps_of_okP (by assumption) ?_) | (extract_lets x; refine (fun (hx : Keeps b0 x) => ?_) ?_; clear_value x)
    | extract_lets

theorem execRte_keeps {b0 : State} (c : CoreNo) (i : AwlIn) (s : State) (u : State) (h_s : Keeps b0 s) (h_u : Keeps b0 u) :
    Keeps b0 (nextOr u (execRte c i s)) := by
  unfold execRte
  repeat' first
    | (with_reducible first
        | assumption | apply State.rte_keeps | apply State.runInstr_keeps | apply nextOr_next_keeps | apply ite_keeps
        | apply KeepsE.ok | apply KeepsE.error | apply KeepsP.ok | apply KeepsP.error)
    | intro _ | split | (refine keeps_of_ok (by assumption) ?_) | (refine keeps_of_okP (by assumption) ?_)

theorem execTrap_keeps {b0 : State} (c : CoreNo) (i : AwlIn) (s : State) (u : State) (h_s : Keeps b0 s) (h_u : Keeps b0 u) :
    Keeps b0 (nextOr u (execTrap c i s)) := by
  unfold execTrap
  repeat' first
    | (with_reducible first
        | assumption | apply State.runInstr_keeps | apply nextOr_next_keeps | apply KeepsE.ok | apply KeepsE.error
        | apply KeepsP.ok | apply KeepsP.error)
    | intro _ | (refine keeps_of_ok (by assumption) ?_) | (refine keeps_of_okP (by assumption) ?_)

theorem State.atomicStore_keeps {b0 : State} (c : Nat) (a : Nat) (v : Word) (s : State) (h_s : Keeps b0 s) :
    Keeps b0 (State.atomicStore c a v s) := by
  unfold State.atomicStore
  repeat' first
    | (with_reducible first
        | assumption | apply State.drainAll_keeps | apply State.sramStore_keeps | apply State.withMem_keeps | apply KeepsE.ok
        | apply KeepsE.error | apply KeepsP.ok | apply KeepsP.error)
    | with_reducible exact fun (m : Mem) h => Mem.reload_wf _ _ m h | exact fun (m : Mem) h => Mem.sram_wf _ _ m h
    | exact fun (m : Mem) h => Mem.tcmWrite_wf _ _ _ m h | exact fun (m : Mem) _ => Mem.empty_wf
    | exact fun (m : Mem) h => Mem.foldl_wf _ _ (fun m g h => Mem.place_wf g m h) m h
    | exact fun (m : Mem) h => Mem.tcmWrite_wf _ _ _ _ (Mem.tcmWrite_wf _ _ _ m h) | intro _ | split
    | (refine keeps_of_ok (by assumption) ?_) | (refine keeps_of_okP (by assumption) ?_)
    | (extract_lets x; refine (fun (hx : Keeps b0 x) => ?_) ?_; clear_value x) | extract_lets

theorem State.tas_keeps {b0 : State} (c : Nat) (i : AwlIn) (s : State) (h_s : Keeps b0 s) :
    KeepsE b0 (State.tas c i s) := by
  unfold State.tas
  repeat' first
    | (with_reducible first
        | assumption | apply State.atomicStore_keeps | apply State.loadEa_keeps | apply State.retire_keeps | apply Call.ok_keeps
        | apply KeepsE.ok | apply KeepsE.error | apply KeepsP.ok | apply KeepsP.error)
    | intro _ | split | (refine keeps_of_ok (by assumption) ?_) | (refine keeps_of_okP (by assumption) ?_)
    | (extract_lets x; refine (fun (hx : Keeps b0 x) => ?_) ?_; clear_value x) | extract_lets

theorem execTas_keeps {b0 : State} (c : CoreNo) (i : AwlIn) (s : State) (u : State) (h_s : Keeps b0 s) (h_u : Keeps b0 u) :
    Keeps b0 (nextOr u (execTas c i s)) := by
  unfold execTas
  repeat' first
    | (with_reducible first
        | assumption | apply State.tas_keeps | apply State.runInstr_keeps | apply nextOr_next_keeps | apply KeepsE.ok
        | apply KeepsE.error | apply KeepsP.ok | apply KeepsP.error)
    | intro _ | (refine keeps_of_ok (by assumption) ?_) | (refine keeps_of_okP (by assumption) ?_)

theorem State.ldrs_keeps {b0 : State} (c : Nat) (i : AwlIn) (s : State) (h_s : Keeps b0 s) :
    KeepsE b0 (State.ldrs c i s) := by
  unfold State.ldrs
  repeat' first
    | (with_reducible first
        | assumption | apply State.loadEa_keeps | apply State.retire_keeps | apply Call.ok_keeps | apply KeepsE.ok
        | apply KeepsE.error | apply KeepsP.ok | apply KeepsP.error)
    | intro _ | split | (refine keeps_of_ok (by assumption) ?_) | (refine keeps_of_okP (by assumption) ?_)
    | (extract_lets x; refine (fun (hx : Keeps b0 x) => ?_) ?_; clear_value x) | extract_lets

theorem execLdrs_keeps {b0 : State} (c : CoreNo) (i : AwlIn) (s : State) (u : State) (h_s : Keeps b0 s) (h_u : Keeps b0 u) :
    Keeps b0 (nextOr u (execLdrs c i s)) := by
  unfold execLdrs
  repeat' first
    | (with_reducible first
        | assumption | apply State.ldrs_keeps | apply State.runInstr_keeps | apply nextOr_next_keeps | apply KeepsE.ok
        | apply KeepsE.error | apply KeepsP.ok | apply KeepsP.error)
    | intro _ | (refine keeps_of_ok (by assumption) ?_) | (refine keeps_of_okP (by assumption) ?_)

theorem State.stcd_keeps {b0 : State} (c : Nat) (i : AwlIn) (s : State) (h_s : Keeps b0 s) :
    KeepsE b0 (State.stcd c i s) := by
  unfold State.stcd
  repeat' first
    | (with_reducible first
        | assumption | apply State.atomicStore_keeps | apply State.retire_keeps | apply Call.ok_keeps | apply ite_keeps
        | apply KeepsE.ok | apply KeepsE.error | apply KeepsP.ok | apply KeepsP.error)
    | intro _ | split | (refine keeps_of_ok (by assumption) ?_) | (refine keeps_of_okP (by assumption) ?_)
    | (extract_lets x; refine (fun (hx : Keeps b0 x) => ?_) ?_; clear_value x) | extract_lets

theorem execStcd_keeps {b0 : State} (c : CoreNo) (i : AwlIn) (s : State) (u : State) (h_s : Keeps b0 s) (h_u : Keeps b0 u) :
    Keeps b0 (nextOr u (execStcd c i s)) := by
  unfold execStcd
  repeat' first
    | (with_reducible first
        | assumption | apply State.stcd_keeps | apply State.runInstr_keeps | apply nextOr_next_keeps | apply KeepsE.ok
        | apply KeepsE.error | apply KeepsP.ok | apply KeepsP.error)
    | intro _ | (refine keeps_of_ok (by assumption) ?_) | (refine keeps_of_okP (by assumption) ?_)

theorem execMbar_keeps {b0 : State} (c : CoreNo) (i : AwlIn) (s : State) (u : State) (h_s : Keeps b0 s) (h_u : Keeps b0 u) :
    Keeps b0 (nextOr u (execMbar c i s)) := by
  unfold execMbar
  repeat' first
    | (with_reducible first
        | assumption | apply State.retire_keeps | apply State.runInstr_keeps | apply State.drainAll_keeps | apply Call.ok_keeps
        | apply nextOr_next_keeps | apply KeepsE.ok | apply KeepsE.error | apply KeepsP.ok | apply KeepsP.error)
    | intro _ | (refine keeps_of_ok (by assumption) ?_) | (refine keeps_of_okP (by assumption) ?_)

theorem execIbar_keeps {b0 : State} (c : CoreNo) (i : AwlIn) (s : State) (u : State) (h_s : Keeps b0 s) (h_u : Keeps b0 u) :
    Keeps b0 (nextOr u (execIbar c i s)) := by
  unfold execIbar
  repeat' first
    | (with_reducible first
        | assumption | apply State.retire_keeps | apply State.runInstr_keeps | apply Call.ok_keeps | apply nextOr_next_keeps
        | apply KeepsE.ok | apply KeepsE.error | apply KeepsP.ok | apply KeepsP.error)
    | intro _ | (refine keeps_of_ok (by assumption) ?_) | (refine keeps_of_okP (by assumption) ?_)

theorem execWait_keeps {b0 : State} (c : CoreNo) (i : AwlIn) (s : State) (u : State) (h_s : Keeps b0 s) (h_u : Keeps b0 u) :
    Keeps b0 (nextOr u (execWait c i s)) := by
  unfold execWait
  repeat' first
    | (with_reducible first
        | assumption | apply State.retire_keeps | apply State.runInstr_keeps | apply Call.ok_keeps | apply nextOr_next_keeps
        | apply ite_keeps | apply KeepsE.ok | apply KeepsE.error | apply KeepsP.ok | apply KeepsP.error)
    | intro _ | split | (refine keeps_of_ok (by assumption) ?_) | (refine keeps_of_okP (by assumption) ?_)

theorem execMfs_keeps {b0 : State} (c : CoreNo) (i : AwlIn) (s : State) (u : State) (h_s : Keeps b0 s) (h_u : Keeps b0 u) :
    Keeps b0 (nextOr u (execMfs c i s)) := by
  unfold execMfs
  repeat' first
    | (with_reducible first
        | assumption | apply State.retire_keeps | apply State.runInstr_keeps | apply Call.ok_keeps | apply nextOr_next_keeps
        | apply ite_keeps | apply KeepsE.ok | apply KeepsE.error | apply KeepsP.ok | apply KeepsP.error)
    | intro _ | split | (refine keeps_of_ok (by assumption) ?_) | (refine keeps_of_okP (by assumption) ?_)
    | (extract_lets x; refine (fun (hx : Keeps b0 x) => ?_) ?_; clear_value x) | extract_lets

theorem execMts_keeps {b0 : State} (c : CoreNo) (i : AwlIn) (s : State) (u : State) (h_s : Keeps b0 s) (h_u : Keeps b0 u) :
    Keeps b0 (nextOr u (execMts c i s)) := by
  unfold execMts
  repeat' first
    | (with_reducible first
        | assumption | apply State.retire_keeps | apply State.runInstr_keeps | apply Call.ok_keeps | apply nextOr_next_keeps
        | apply ite_keeps | apply KeepsE.ok | apply KeepsE.error | apply KeepsP.ok | apply KeepsP.error)
    | intro _ | split | (refine keeps_of_ok (by assumption) ?_) | (refine keeps_of_okP (by assumption) ?_)
    | (extract_lets x; refine (fun (hx : Keeps b0 x) => ?_) ?_; clear_value x) | extract_lets

theorem execNmi_keeps {b0 : State} (c : CoreNo) (e : EntryEnv) (s : State) (u : State) (h_s : Keeps b0 s) (h_u : Keeps b0 u) :
    Keeps b0 (nextOr u (execNmi c e s)) := by
  unfold execNmi
  repeat' first
    | (with_reducible first
        | assumption | apply State.takeExc_keeps | apply State.updCore_keeps | apply nextOr_next_keeps | apply ite_keeps
        | apply KeepsE.ok | apply KeepsE.error | apply KeepsP.ok | apply KeepsP.error)
    | intro _ | split | (refine keeps_of_ok (by assumption) ?_) | (refine keeps_of_okP (by assumption) ?_)
    | (extract_lets x; refine (fun (hx : Keeps b0 x) => ?_) ?_; clear_value x) | extract_lets

theorem execInterrupt_keeps {b0 : State} (c : CoreNo) (line : Fin 16) (e : EntryEnv) (s : State) (u : State)
    (h_s : Keeps b0 s) (h_u : Keeps b0 u) :
    Keeps b0 (nextOr u (execInterrupt c line e s)) := by
  unfold execInterrupt
  repeat' first
    | (with_reducible first
        | assumption | apply State.takeExc_keeps | apply nextOr_next_keeps | apply ite_keeps | apply KeepsE.ok
        | apply KeepsE.error | apply KeepsP.ok | apply KeepsP.error)
    | intro _ | split | (refine keeps_of_ok (by assumption) ?_) | (refine keeps_of_okP (by assumption) ?_)
    | (extract_lets x; refine (fun (hx : Keeps b0 x) => ?_) ?_; clear_value x) | extract_lets

theorem execReservationExpiry_keeps {b0 : State} (c : CoreNo) (s : State) (u : State) (h_s : Keeps b0 s) (h_u : Keeps b0 u) :
    Keeps b0 (nextOr u (execReservationExpiry c s)) := by
  unfold execReservationExpiry
  repeat' first
    | (with_reducible first
        | assumption | apply State.updCore_keeps | apply nextOr_next_keeps | apply KeepsE.ok | apply KeepsE.error
        | apply KeepsP.ok | apply KeepsP.error)
    | intro _ | (refine keeps_of_ok (by assumption) ?_) | (refine keeps_of_okP (by assumption) ?_)

theorem execWriteBufferDrain_keeps {b0 : State} (c : CoreNo) (err : Option Bool) (s : State) (u : State) (h_s : Keeps b0 s)
    (h_u : Keeps b0 u) :
    Keeps b0 (nextOr u (execWriteBufferDrain c err s)) := by
  unfold execWriteBufferDrain
  repeat' first
    | (with_reducible first
        | assumption | apply State.errAlarm_keeps | apply State.drainOne_keeps | apply State.updCore_keeps
        | apply nextOr_next_keeps | apply ite_keeps | apply KeepsE.ok | apply KeepsE.error | apply KeepsP.ok
        | apply KeepsP.error)
    | intro _ | split | (refine keeps_of_ok (by assumption) ?_) | (refine keeps_of_okP (by assumption) ?_)

theorem execReservedOpcode_keeps {b0 : State} (c : CoreNo) (op : Byte) (i : AwlIn) (s : State) (u : State) (h_s : Keeps b0 s)
    (h_u : Keeps b0 u) :
    Keeps b0 (nextOr u (execReservedOpcode c op i s)) := by
  unfold execReservedOpcode
  repeat' first
    | (with_reducible first
        | assumption | apply State.runInstr_keeps | apply Call.ok_keeps | apply nextOr_next_keeps | apply ite_keeps
        | apply KeepsE.ok | apply KeepsE.error | apply KeepsP.ok | apply KeepsP.error)
    | intro _ | split | (refine keeps_of_ok (by assumption) ?_) | (refine keeps_of_okP (by assumption) ?_)

theorem State.commit_keeps {b0 : State} (e : UserEnv) (g : Stage) (s : State) (h_s : Keeps b0 s) :
    Keeps b0 (State.commit e g s) := by
  unfold State.commit
  repeat' first
    | (with_reducible first
        | assumption | apply State.retire_keeps | apply State.writeArea_keeps | apply foldl_keeps | apply KeepsE.ok
        | apply KeepsE.error | apply KeepsP.ok | apply KeepsP.error)
    | intro _ | split | (refine keeps_of_ok (by assumption) ?_) | (refine keeps_of_okP (by assumption) ?_)
    | (extract_lets x; refine (fun (hx : Keeps b0 x) => ?_) ?_; clear_value x) | extract_lets

theorem State.userOp_keeps {b0 : State} (c n : Nat) (i : AwlIn) (s : State) (h_s : Keeps b0 s) :
    KeepsE b0 (State.userOp c n i s) := by
  unfold State.userOp
  repeat' first
    | (with_reducible first
        | assumption | apply State.commit_keeps | apply Call.ok_keeps | apply ite_keeps | apply KeepsE.ok | apply KeepsE.error
        | apply KeepsP.ok | apply KeepsP.error)
    | intro _ | split | (refine keeps_of_ok (by assumption) ?_) | (refine keeps_of_okP (by assumption) ?_)
    | (extract_lets x; refine (fun (hx : Keeps b0 x) => ?_) ?_; clear_value x) | extract_lets

theorem execUserDecode_keeps {b0 : State} (c : CoreNo) (n : Fin 16) (i : AwlIn) (s : State) (u : State) (h_s : Keeps b0 s)
    (h_u : Keeps b0 u) :
    Keeps b0 (nextOr u (execUserDecode c n i s)) := by
  unfold execUserDecode
  repeat' first
    | (with_reducible first
        | assumption | apply State.userOp_keeps | apply State.runInstr_keeps | apply nextOr_next_keeps | apply KeepsE.ok
        | apply KeepsE.error | apply KeepsP.ok | apply KeepsP.error)
    | intro _ | (refine keeps_of_ok (by assumption) ?_) | (refine keeps_of_okP (by assumption) ?_)

end Sys2Proof.Machine
end

