-- ==== Sys2Proof/Laws/KeepsRun.lean ====
section
/-! SUPPORT. `Keeps` of the commands that let waiting work go on, and those of the link. -/

set_option linter.unusedVariables false
set_option linter.unusedTactic false
set_option linter.unreachableTactic false

namespace Sys2Proof.Machine

theorem runCommand_keeps {b0 : State} (mode : Mode) (i : Instr) (s : State) (h_s : Keeps b0 s) : Keeps b0 (runCommand mode i s) := by
  cases i
  case sessionOpen => exact cmdSessionOpen_keeps (h_s := h_s) ..
  case sessionClose => exact cmdSessionClose_keeps (h_s := h_s) ..
  case quorumBegin => exact cmdQuorumBegin_keeps (h_s := h_s) ..
  case quorumPresent => exact cmdQuorumPresent_keeps (h_s := h_s) ..
  case quorumEnd => exact cmdQuorumEnd_keeps (h_s := h_s) ..
  case keyGenerate => exact cmdKeyGenerate_keeps (h_s := h_s) ..
  case keyImport => exact cmdKeyImport_keeps (h_s := h_s) ..
  case keyExport => exact cmdKeyExport_keeps (h_s := h_s) ..
  case keyUnload => exact cmdKeyUnload_keeps (h_s := h_s) ..
  case keyDerive => exact cmdKeyDerive_keeps (h_s := h_s) ..
  case keyDestroy => exact cmdKeyDestroy_keeps (h_s := h_s) ..
  case keyAttest => exact cmdKeyAttest_keeps (h_s := h_s) ..
  case keyInfo => exact cmdKeyInfo_keeps (h_s := h_s) ..
  case payBlockImport => exact cmdPayBlockImport_keeps (h_s := h_s) ..
  case payBlockExport => exact cmdPayBlockExport_keeps (h_s := h_s) ..
  case payPinTranslate => exact cmdPayPinTranslate_keeps (h_s := h_s) ..
  case sign => exact cmdSign_keeps (h_s := h_s) ..
  case verify => exact cmdVerify_keeps (h_s := h_s) ..
  case agree => exact cmdAgree_keeps (h_s := h_s) ..
  case encaps => exact cmdEncaps_keeps (h_s := h_s) ..
  case decaps => exact cmdDecaps_keeps (h_s := h_s) ..
  case ringCreate => exact cmdRingCreate_keeps (h_s := h_s) ..
  case ringDestroy => exact cmdRingDestroy_keeps (h_s := h_s) ..
  case ringWindow => exact cmdRingWindow_keeps (h_s := h_s) ..
  case ringStatus => exact cmdRingStatus_keeps (h_s := h_s) ..
  case portConfig => exact cmdPortConfig_keeps (h_s := h_s) ..
  case portStatus => exact cmdPortStatus_keeps (h_s := h_s) ..
  case volumeBind => exact cmdVolumeBind_keeps (h_s := h_s) ..
  case portHold => exact cmdPortHold_keeps (h_s := h_s) ..
  case portRelease => exact cmdPortRelease_keeps (h_s := h_s) ..
  case alarmTableSet => exact cmdAlarmTableSet_keeps (h_s := h_s) ..
  case alarmTableGet => exact cmdAlarmTableGet_keeps (h_s := h_s) ..
  case logExport => exact cmdLogExport_keeps (h_s := h_s) ..
  case logRelease => exact cmdLogRelease_keeps (h_s := h_s) ..
  case logStatus => exact cmdLogStatus_keeps (h_s := h_s) ..
  case randomGet => exact cmdRandomGet_keeps (h_s := h_s) ..
  case rngStatus => exact cmdRngStatus_keeps (h_s := h_s) ..
  case rngAuditEnter => exact cmdRngAuditEnter_keeps (h_s := h_s) ..
  case rngAuditExit => exact cmdRngAuditExit_keeps (h_s := h_s) ..
  case cardStatus => exact cmdCardStatus_keeps (h_s := h_s) ..
  case cardRead => exact cmdCardRead_keeps (h_s := h_s) ..
  case cardWrite => exact cmdCardWrite_keeps (h_s := h_s) ..
  case iccApdu => exact cmdIccApdu_keeps (h_s := h_s) ..
  case badgePoll => exact cmdBadgePoll_keeps (h_s := h_s) ..
  case tagPost => exact cmdTagPost_keeps (h_s := h_s) ..
  case tagReadNotes => exact cmdTagReadNotes_keeps (h_s := h_s) ..
  case tagSetAuditKey => exact cmdTagSetAuditKey_keeps (h_s := h_s) ..
  case keyLoad => exact cmdKeyLoad_keeps (h_s := h_s) ..
  case domainJoin => exact cmdDomainJoin_keeps (h_s := h_s) ..
  case epochFloor => exact cmdEpochFloor_keeps (h_s := h_s) ..
  case pairBind => exact cmdPairBind_keeps (h_s := h_s) ..
  case pairStatus => exact cmdPairStatus_keeps (h_s := h_s) ..
  case pairHandover => exact cmdPairHandover_keeps (h_s := h_s) ..
  case deviceInfo => exact cmdDeviceInfo_keeps (h_s := h_s) ..
  case attestGet => exact cmdAttestGet_keeps (h_s := h_s) ..
  case measRead => exact cmdMeasRead_keeps (h_s := h_s) ..
  case extLoad => exact cmdExtLoad_keeps (h_s := h_s) ..
  case extUnload => exact cmdExtUnload_keeps (h_s := h_s) ..
  case fwStage => exact cmdFwStage_keeps (h_s := h_s) ..
  case floorRaise => exact cmdFloorRaise_keeps (h_s := h_s) ..
  case phaseAdvance => exact cmdPhaseAdvance_keeps (h_s := h_s) ..
  case shelfDown => exact cmdShelfDown_keeps (h_s := h_s) ..
  case sensorRead => exact cmdSensorRead_keeps (h_s := h_s) ..
  case eventRead => exact cmdEventRead_keeps (h_s := h_s) ..
  case mgtConfig => exact cmdMgtConfig_keeps (h_s := h_s) ..
  all_goals first | exact h_s | (exact cmdSeal_keeps (h_s := h_s) ..) | (exact cmdUnseal_keeps (h_s := h_s) ..)

theorem State.endHandover_keeps {b0 : State} (w : Waiting) (s : State) (h_s : Keeps b0 s) :
    Keeps b0 (State.endHandover w s) := by
  unfold State.endHandover
  repeat' first
    | (with_reducible first
        | assumption | apply State.takenBack_keeps | apply Call.ok_keeps | apply State.respondAs_keeps
        | apply State.withWelt_keeps | apply ite_keeps)
    | intro _ | split | (extract_lets x; refine (fun (hx : Keeps b0 x) => ?_) ?_; clear_value x) | extract_lets

theorem State.endAnswer_keeps {b0 : State} (w : Waiting) (s : State) (h_s : Keeps b0 s) :
    Keeps b0 (State.endAnswer w s) := by
  unfold State.endAnswer
  repeat' first
    | (with_reducible first
        | assumption | apply State.endHandover_keeps | apply State.endWindow_keeps | apply Call.ok_keeps
        | apply State.respondAs_keeps)
    | intro _ | split

theorem Waiting.goOn_keeps {b0 : State} (w : Waiting) (s : State) (h_s : Keeps b0 s) : Keeps b0 (w.goOn s) := by
  have h1 := fun m => runCommand_keeps m w.cmd s h_s
  have h2 := State.endAnswer_keeps w s h_s
  unfold Waiting.goOn
  cases w.why <;> dsimp only <;> first | (with_reducible exact h1 _) | (with_reducible exact h2) | (with_reducible exact h_s)

theorem State.resume_keeps {b0 : State} (i : Nat) (w : Waiting) (s : State) (h_s : Keeps b0 s) : Keeps b0 (s.resume i w) := by
  refine State.withFw_keeps _ (Waiting.goOn_keeps w _ (State.withRng_keeps _ (fun r h => ?_) (State.withFw_keeps _ h_s)))
  split <;> exact h

theorem State.settleN_keeps {b0 : State} (k : Nat) : ∀ s, Keeps b0 s → Keeps b0 (s.settleN k) := by
  induction k with
  | zero => exact fun _ h => h
  | succ k ih =>
    intro s h
    unfold State.settleN
    split
    · exact h
    · exact ih _ (State.resume_keeps _ _ _ h)

theorem State.settle_keeps {b0 : State} (s : State) (h_s : Keeps b0 s) : Keeps b0 s.settle := State.settleN_keeps _ _ h_s

theorem State.endWait_keeps {b0 : State} (i : Nat) (w : Waiting) (st : Half) (detail elapsed : Word) (s : State)
    (h_s : Keeps b0 s) :
    Keeps b0 (State.endWait i w st detail elapsed s) := by
  unfold State.endWait
  repeat' first
    | (with_reducible first
        | assumption | apply State.respondAs_keeps | apply State.withRng_keeps | apply State.withFw_keeps)
    | exact fun (_ : Rng) h => h | exact fun (_ : Rng) h => Rng.tests_ok _ _ h | exact fun (_ : Rng) h => Rng.takeBlock_ok h
    | (intro (r : Rng) h; (repeat' split) <;> first | exact h | exact Rng.takeBlock_ok h | simp_all [Rng.Ok]) | intro _ | split
    | (extract_lets x; refine (fun (hx : Keeps b0 x) => ?_) ?_; clear_value x) | extract_lets

theorem execCommandTimeout_keeps {b0 : State} (f : Fin 64) (tag elapsed : Word) (s : State) (u : State) (h_s : Keeps b0 s)
    (h_u : Keeps b0 u) :
    Keeps b0 (nextOr u (execCommandTimeout f tag elapsed s)) := by
  unfold execCommandTimeout
  repeat' first
    | (with_reducible first
        | assumption | apply State.endWait_keeps | apply State.settle_keeps | apply State.withCob_keeps
        | apply State.withWelt_keeps | apply nextOr_next_keeps | apply ite_keeps)
    | intro _ | split | (extract_lets x; refine (fun (hx : Keeps b0 x) => ?_) ?_; clear_value x) | extract_lets

theorem execUndefinedOpcode_keeps {b0 : State} (h : CmdHdr) (opcode : Half) (s : State) (u : State) (h_s : Keeps b0 s)
    (h_u : Keeps b0 u) :
    Keeps b0 (nextOr u (execUndefinedOpcode h opcode s)) := by
  unfold execUndefinedOpcode
  repeat' first
    | (with_reducible first
        | assumption | apply State.earlyRead_keeps | apply State.refusal_keeps | apply State.respondAs_keeps
        | apply nextOr_next_keeps | apply ite_keeps)
    | intro _ | split

theorem execRunZeroise_keeps {b0 : State} (slot : Fin 32768) (s : State) (u : State) (h_s : Keeps b0 s) (h_u : Keeps b0 u) :
    Keeps b0 (nextOr u (execRunZeroise slot s)) := by
  unfold execRunZeroise
  repeat' first
    | (with_reducible first
        | assumption | apply State.settle_keeps | apply State.withKeys_keeps | apply nextOr_next_keeps | apply ite_keeps)
    | intro _ | split

theorem execAck_keeps {b0 : State} (fr : WeltRx) (s : State) (u : State) (h_s : Keeps b0 s) (h_u : Keeps b0 u) :
    Keeps b0 (nextOr u (execAck fr s)) := by
  unfold execAck
  repeat' first
    | (refine fun _ _ (h : Keeps _ _) => ?_)
    | (with_reducible first
        | assumption | apply State.settle_keeps | apply State.ackRecord_keeps | apply State.weltTake_keeps
        | apply nextOr_next_keeps)
    | intro _

theorem State.keepRings_keeps {b0 : State} (s : State) (h_s : Keeps b0 s) :
    Keeps b0 (State.keepRings s) := by
  unfold State.keepRings
  repeat' first
    | (refine fun _ (h : Keeps _ _) => ?_)
    | (with_reducible first
        | assumption | apply State.pairChange_keeps | apply State.withWelt_keeps | apply State.withSole_keeps
        | apply State.withRings_keeps)
    | intro _

theorem execWeltHeartbeatTimeout_keeps {b0 : State} (tie : Bool) (scan : List (Fin 16384 × List Bool)) (s : State) (u : State)
    (h_s : Keeps b0 s) (h_u : Keeps b0 u) :
    Keeps b0 (nextOr u (execWeltHeartbeatTimeout tie scan s)) := by
  unfold execWeltHeartbeatTimeout
  repeat' first
    | (with_reducible first
        | assumption | apply State.keepRings_keeps | apply State.endWait_keeps | apply State.settle_keeps
        | apply State.heartbeatLost_keeps | apply State.withWelt_keeps | apply nextOr_next_keeps | apply ite_keeps)
    | intro _ | split | (extract_lets x; refine (fun (hx : Keeps b0 x) => ?_) ?_; clear_value x) | extract_lets

theorem State.holdEnd_keeps {b0 : State} (s : State) (h_s : Keeps b0 s) :
    Keeps b0 (State.holdEnd s) := by
  unfold State.holdEnd
  repeat' first
    | (with_reducible first
        | assumption | apply State.settle_keeps | apply State.tagProceed_keeps | apply State.withListen_keeps)
    | intro _

theorem execFieldHoldEnd_keeps {b0 : State} (s : State) (u : State) (h_s : Keeps b0 s) (h_u : Keeps b0 u) :
    Keeps b0 (nextOr u (execFieldHoldEnd s)) := by
  unfold execFieldHoldEnd
  repeat' first
    | (with_reducible first
        | assumption | apply State.holdEnd_keeps | apply nextOr_next_keeps)
    | intro _

theorem execFieldLost_keeps {b0 : State} (s : State) (u : State) (h_s : Keeps b0 s) (h_u : Keeps b0 u) :
    Keeps b0 (nextOr u (execFieldLost s)) := by
  unfold execFieldLost
  repeat' first
    | (with_reducible first
        | assumption | apply State.holdEnd_keeps | apply State.withListen_keeps | apply nextOr_next_keeps | apply ite_keeps)
    | intro _ | split

theorem execTagHostWaitExpiry_keeps {b0 : State} (tie : Bool) (s : State) (u : State) (h_s : Keeps b0 s) (h_u : Keeps b0 u) :
    Keeps b0 (nextOr u (execTagHostWaitExpiry tie s)) := by
  unfold execTagHostWaitExpiry
  repeat' first
    | (with_reducible first
        | assumption | apply State.endWait_keeps | apply State.settle_keeps | apply State.tagBusy_keeps
        | apply nextOr_next_keeps | apply ite_keeps)
    | intro _ | split

theorem State.serveChans_keeps {b0 : State} (k : Nat) : ∀ s, Keeps b0 s → Keeps b0 (s.serveChans k) := by
  induction k with
  | zero => exact fun _ h => h
  | succ k ih =>
    intro s h
    unfold State.serveChans
    split
    · split
      · exact ite_keeps h (ih _ (State.withRng_keeps _ (fun _ h => h) (State.rngServe_keeps _ _ _ h)))
      · exact h
    · exact h

theorem State.serveAll_keeps {b0 : State} (s : State) (h_s : Keeps b0 s) : Keeps b0 s.serveAll := by
  unfold State.serveAll
  refine State.settle_keeps _ (State.reseedDue_keeps _ _ (State.rngServeWaiting_keeps _ ?_))
  exact State.serveChans_keeps _ _ (State.settle_keeps _ (State.serveChans_keeps _ _ h_s))

/-- A class K block keeps the invariant where one can come. -/
theorem State.blockK_keeps {b0 : State} (block : List Byte) (s : State) (h_s : Keeps b0 s) (ht : s.rng.tested = true)
    (ha : s.rng.audit = false) (hk : s.rng.kAvail = true) : Keeps b0 (s.blockK block) := by
  unfold State.blockK
  extract_lets s1
  have h1 : Keeps b0 s1 := State.withRng_keeps _ (fun _ h => h) h_s
  split
  · exact State.withRng_keeps _ (fun _ h => h) h1
  · refine State.serveAll_keeps _ ⟨h1.1, fun _ => ⟨(List.length_take ..).trans_le (Nat.min_le_left _ _), ?_⟩, h1.2.2⟩
    rintro (h | h | h)
    · exact nomatch ht.symm.trans h
    · exact nomatch ha.symm.trans h
    · exact nomatch hk.symm.trans h

theorem execConditionedBlock_keeps {b0 : State} (classM tie : Bool) (s u : State) (h_s : Keeps b0 s) (_ : Keeps b0 u) :
    Keeps b0 (nextOr u (execConditionedBlock classM tie s)) := by
  unfold execConditionedBlock
  refine nextOr_next_keeps ?_
  split
  · exact h_s
  · rename_i hn
    simp only [Bool.or_eq_true, Bool.not_eq_true', not_or, Bool.not_eq_true, Bool.not_eq_false] at hn
    split
    · exact State.withRng_keeps _ (fun _ h => Rng.dropInput_ok classM h) h_s
    · split
      · split
        · split
          · exact State.condition_keeps _ _ _ h_s fun _ _ h => State.withRng_keeps _ (fun _ h => h) h
          · exact h_s
        · exact h_s
      · split
        · exact State.blockK_keeps _ _ (State.withRng_keeps _ (fun _ h => Rng.dropInput_ok false h) h_s) hn.1 hn.2 ‹_›
        · exact h_s

theorem execCompletionWrite_keeps {b0 : State} (ring : Fin 16384) (s : State) (u : State) (h_s : Keeps b0 s) (h_u : Keeps b0 u) :
    Keeps b0 (nextOr u (execCompletionWrite ring s)) := by
  unfold execCompletionWrite
  repeat' first
    | (with_reducible first
        | assumption | apply State.settle_keeps | apply State.mirrorCounts_keeps | apply State.completeAll_keeps
        | apply nextOr_next_keeps | apply ite_keeps)
    | intro _ | split | (extract_lets x; refine (fun (hx : Keeps b0 x) => ?_) ?_; clear_value x) | extract_lets

theorem execRingAbortAll_keeps {b0 : State} (level : Level) (s : State) (u : State) (h_s : Keeps b0 s) (h_u : Keeps b0 u) :
    Keeps b0 (nextOr u (execRingAbortAll level s)) := by
  unfold execRingAbortAll
  repeat' first
    | (with_reducible first
        | assumption | apply State.settle_keeps | apply State.abortAllRings_keeps | apply nextOr_next_keeps | apply ite_keeps)
    | intro _ | split

theorem execShelfDownTimeout_keeps {b0 : State} (s : State) (u : State) (h_s : Keeps b0 s) (h_u : Keeps b0 u) :
    Keeps b0 (nextOr u (execShelfDownTimeout s)) := by
  unfold execShelfDownTimeout
  repeat' first
    | (with_reducible first
        | assumption | apply State.settle_keeps | apply State.abortAllRings_keeps | apply State.withFw_keeps
        | apply nextOr_next_keeps)
    | intro _ | split

theorem State.shelfZero_keeps {b0 : State} (s : State) (h_s : Keeps b0 s) :
    Keeps b0 (State.shelfZero s) := by
  unfold State.shelfZero
  repeat' first
    | (with_reducible first
        | assumption | apply State.withPke_keeps | apply State.withRings_keeps | apply State.withKeys_keeps
        | apply State.withBoot_keeps | apply State.withMem_keeps | apply foldl_keeps)
    | with_reducible exact fun (m : Mem) h => Mem.reload_wf _ _ m h | exact fun (m : Mem) h => Mem.sram_wf _ _ m h
    | exact fun (m : Mem) h => Mem.tcmWrite_wf _ _ _ m h | exact fun (m : Mem) _ => Mem.empty_wf
    | exact fun (m : Mem) h => Mem.foldl_wf _ _ (fun m g h => Mem.place_wf g m h) m h
    | exact fun (m : Mem) h => Mem.tcmWrite_wf _ _ _ _ (Mem.tcmWrite_wf _ _ _ m h) | intro _ | split
    | (extract_lets x; refine (fun (hx : Keeps b0 x) => ?_) ?_; clear_value x) | extract_lets

theorem State.shelfSign_keeps {b0 : State} (n c : Nat) (signed : List Byte) (s : State) (h_s : Keeps b0 s) :
    Keeps b0 (s.shelfSign n c signed).1 := State.fwEngine_keeps _ _ _ _ h_s

theorem execShelfDownComplete_keeps {b0 : State} (elapsed : Word) (s u : State) (h_s : Keeps b0 s) (_ : Keeps b0 u) :
    Keeps b0 (nextOr u (execShelfDownComplete elapsed s)) := by
  unfold execShelfDownComplete
  refine nextOr_next_keeps ?_
  split
  · exact h_s
  · refine ite_keeps h_s ?_
    dsimp only
    refine State.shelfZero_keeps _ (State.withFw_keeps _ (State.respondAs_keeps (h_s := State.withFw_keeps _
      (State.withBoot_keeps _ (State.withLog_keeps _ ?_))) ..))
    split
    · exact State.shelfSign_keeps _ _ _ _ h_s
    · exact h_s

theorem execFwStageVerifyDone_keeps {b0 : State} (img : Image) (elapsed : Word) (s : State) (u : State) (h_s : Keeps b0 s)
    (h_u : Keeps b0 u) :
    Keeps b0 (nextOr u (execFwStageVerifyDone img elapsed s)) := by
  unfold execFwStageVerifyDone
  repeat' first
    | (with_reducible first
        | assumption | apply State.endWait_keeps | apply State.settle_keeps | apply State.earlyImage_keeps
        | apply State.withCob_keeps | apply nextOr_next_keeps | apply ite_keeps)
    | intro _ | split | (extract_lets x; refine (fun (hx : Keeps b0 x) => ?_) ?_; clear_value x) | extract_lets

theorem State.updateCores_keeps {b0 : State} (img : Image) (s : State) (h_s : Keeps b0 s) : Keeps b0 (s.updateCores img) := by
  refine State.releaseCore_keeps _ _ _ (State.withCob_keeps _ (foldl_keeps _ _ (fun a t h => ?_) _ (State.withMem_keeps _
    (Mem.foldl_wf _ _ fun m g h => Mem.place_wf g m h) h_s)))
  exact ite_keeps (State.releaseCore_keeps _ _ _ (State.withMbx_keeps _ h)) h

theorem execQuietPoint_keeps {b0 : State} (elapsed : Word) (s : State) (u : State) (h_s : Keeps b0 s) (h_u : Keeps b0 u) :
    Keeps b0 (nextOr u (execQuietPoint elapsed s)) := by
  unfold execQuietPoint
  repeat' first
    | (with_reducible first
        | assumption | apply State.updateCores_keeps | apply State.endWait_keeps | apply Call.ok_keeps
        | apply State.withCob_keeps | apply State.withDig_keeps | apply State.withBoot_keeps | apply foldl_keeps
        | apply nextOr_next_keeps | apply ite_keeps)
    | intro _ | split | (extract_lets x; refine (fun (hx : Keeps b0 x) => ?_) ?_; clear_value x) | extract_lets

theorem execEvtNoticePost_keeps {b0 : State} (f : Fin 64) (s : State) (u : State) (h_s : Keeps b0 s) (h_u : Keeps b0 u) :
    Keeps b0 (nextOr u (execEvtNoticePost f s)) := by
  unfold execEvtNoticePost
  repeat' first
    | (with_reducible first
        | assumption | apply State.updBox_keeps | apply State.withFw_keeps | apply State.withMbx_keeps | apply nextOr_next_keeps
        | apply ite_keeps)
    | intro _ | split | (extract_lets x; refine (fun (hx : Keeps b0 x) => ?_) ?_; clear_value x) | extract_lets

theorem State.timePasses_keeps {b0 : State} (s : State) (h_s : Keeps b0 s) : Keeps b0 s.timePasses := by
  unfold State.timePasses
  extract_lets us ticks s1 s2 retries s3
  exact ite_keeps h_s h_s

theorem State.idle_keeps {b0 : State} (s : State) (h_s : Keeps b0 s) :
    Keeps b0 (State.idle s) := by
  unfold State.idle
  repeat' first
    | (with_reducible first
        | assumption | apply State.timePasses_keeps | apply State.serveAll_keeps | apply State.dealAll_keeps
        | apply State.digDeal_keeps | apply State.absorb_keeps | apply State.rawFill_keeps | apply ite_keeps)
    | intro _ | split | (extract_lets x; refine (fun (hx : Keeps b0 x) => ?_) ?_; clear_value x) | extract_lets

theorem State.updFn_keeps {b0 : State} (f : Nat) (g : PcieFn → PcieFn) (s : State) (h_s : Keeps b0 s) :
    Keeps b0 (State.updFn f g s) := by
  unfold State.updFn
  repeat' first | (with_reducible first | assumption | apply State.withPcie_keeps) | intro _

theorem State.flrRings_keeps {b0 : State} (f : Nat) (s : State) (h_s : Keeps b0 s) :
    Keeps b0 (State.flrRings f s) := by
  unfold State.flrRings
  repeat' first
    | (with_reducible first
        | assumption | apply State.abandonJob_keeps | apply State.withRings_keeps | apply foldl_keeps | apply ite_keeps)
    | intro _ | split | (extract_lets x; refine (fun (hx : Keeps b0 x) => ?_) ?_; clear_value x) | extract_lets

theorem State.flr_keeps {b0 : State} (s : State) (f : Nat) (h_s : Keeps b0 s) :
    Keeps b0 (State.flr s f) := by
  unfold State.flr
  repeat' first
    | (with_reducible first
        | assumption | apply State.flrRings_keeps | apply State.updFn_keeps | apply State.withFw_keeps
        | apply State.withMbx_keeps)
    | intro _ | split | (extract_lets x; refine (fun (hx : Keeps b0 x) => ?_) ?_; clear_value x) | extract_lets

theorem State.flrAll_keeps {b0 : State} (s : State) (h_s : Keeps b0 s) :
    Keeps b0 (State.flrAll s) := by
  unfold State.flrAll
  repeat' first | (with_reducible first | assumption | apply State.flr_keeps | apply foldl_keeps) | intro _

theorem execFunctionLevelReset_keeps {b0 : State} (f : Fin 64) (s : State) (u : State) (h_s : Keeps b0 s) (h_u : Keeps b0 u) :
    Keeps b0 (nextOr u (execFunctionLevelReset f s)) := by
  unfold execFunctionLevelReset
  repeat' first
    | (with_reducible first
        | assumption | apply State.flrAll_keeps | apply State.flr_keeps | apply State.settle_keeps | apply State.dealAll_keeps
        | apply State.withPcie_keeps | apply nextOr_next_keeps | apply ite_keeps)
    | intro _ | split

theorem execHotReset_keeps {b0 : State} (s : State) (u : State) (h_s : Keeps b0 s) (h_u : Keeps b0 u) :
    Keeps b0 (nextOr u (execHotReset s)) := by
  unfold execHotReset
  repeat' first
    | (with_reducible first
        | assumption | apply State.flrAll_keeps | apply State.settle_keeps | apply State.dealAll_keeps
        | apply State.withPcie_keeps | apply State.withPins_keeps | apply nextOr_next_keeps)
    | exact fun (_ : Pins) => ⟨Nat.le_refl _, Nat.le_refl _, Nat.le_refl _, rfl⟩
    | (intro (p : Pins); refine ⟨?_, ?_, ?_, ?_⟩ <;> (repeat' split) <;> first | rfl | exact Nat.le_refl _ | exact Nat.le_max_left _ _)
    | intro _

theorem execFlrComplete_keeps {b0 : State} (f : Fin 64) (s : State) (u : State) (h_s : Keeps b0 s) (h_u : Keeps b0 u) :
    Keeps b0 (nextOr u (execFlrComplete f s)) := by
  unfold execFlrComplete
  repeat' first
    | (with_reducible first
        | assumption | apply State.flr_keeps | apply State.updFn_keeps | apply State.settle_keeps
        | apply State.mirrorCounts_keeps | apply State.withRings_keeps | apply foldl_keeps | apply nextOr_next_keeps
        | apply ite_keeps)
    | intro _ | split | (extract_lets x; refine (fun (hx : Keeps b0 x) => ?_) ?_; clear_value x) | extract_lets

theorem execD0ToD3hot_keeps {b0 : State} (f : Fin 64) (s : State) (u : State) (h_s : Keeps b0 s) (h_u : Keeps b0 u) :
    Keeps b0 (nextOr u (execD0ToD3hot f s)) := by
  unfold execD0ToD3hot
  repeat' first
    | (with_reducible first
        | assumption | apply State.updFn_keeps | apply nextOr_next_keeps)
    | intro _

theorem execD3hotToD0_keeps {b0 : State} (f : Fin 64) (s : State) (u : State) (h_s : Keeps b0 s) (h_u : Keeps b0 u) :
    Keeps b0 (nextOr u (execD3hotToD0 f s)) := by
  unfold execD3hotToD0
  repeat' first
    | (with_reducible first
        | assumption | apply State.updFn_keeps | apply nextOr_next_keeps)
    | intro _

theorem execMemorySpaceEnableWrite_keeps {b0 : State} (f : Fin 64) (v : Bool) (s : State) (u : State) (h_s : Keeps b0 s)
    (h_u : Keeps b0 u) :
    Keeps b0 (nextOr u (execMemorySpaceEnableWrite f v s)) := by
  unfold execMemorySpaceEnableWrite
  repeat' first
    | (with_reducible first
        | assumption | apply State.updFn_keeps | apply nextOr_next_keeps)
    | intro _

theorem execNumVfsWrite_keeps {b0 : State} (v : Half) (s : State) (u : State) (h_s : Keeps b0 s) (h_u : Keeps b0 u) :
    Keeps b0 (nextOr u (execNumVfsWrite v s)) := by
  unfold execNumVfsWrite
  repeat' first
    | (with_reducible first
        | assumption | apply State.withPcie_keeps | apply nextOr_next_keeps)
    | intro _

theorem execPoisonedWrite_keeps {b0 : State} (_f : Fin 64) (s : State) (u : State) (h_s : Keeps b0 s) (h_u : Keeps b0 u) :
    Keeps b0 (nextOr u (execPoisonedWrite _f s)) := by
  unfold execPoisonedWrite
  repeat' first
    | (with_reducible first
        | assumption | apply State.withPcie_keeps | apply nextOr_next_keeps)
    | intro _

theorem State.bar0Read_keeps {b0 : State} (f : Fin 64) (a : Nat) (s : State) (h_s : Keeps b0 s) :
    Keeps b0 (State.bar0Read f a s).2 := by
  unfold State.bar0Read
  repeat' first
    | (with_reducible first
        | assumption | apply readBy_keeps | apply execMbxLockRead_keeps | apply execMbxMsgHiRead_keeps | apply ite_keeps
        | apply ite_pair_keeps)
    | intro _ | split | (refine keeps_of_pair (by assumption) ?_)
    | (extract_lets x; refine (fun (hx : Keeps b0 x) => ?_) ?_; clear_value x) | extract_lets

theorem State.msixUnmask_keeps {b0 : State} (f v : Nat) (s : State) (h_s : Keeps b0 s) :
    Keeps b0 (State.msixUnmask f v s) := by
  unfold State.msixUnmask
  repeat' first
    | (with_reducible first
        | assumption | apply State.updFn_keeps | apply State.msiSend_keeps | apply ite_keeps)
    | intro _ | split | (extract_lets x; refine (fun (hx : Keeps b0 x) => ?_) ?_; clear_value x) | extract_lets

theorem State.msixWrite_keeps {b0 : State} (f a : Nat) (v : Word) (s : State) (h_s : Keeps b0 s) :
    Keeps b0 (State.msixWrite f a v s) := by
  unfold State.msixWrite
  repeat' first
    | (with_reducible first
        | assumption | apply State.msixUnmask_keeps | apply State.updFn_keeps | apply ite_keeps)
    | intro _ | split | (extract_lets x; refine (fun (hx : Keeps b0 x) => ?_) ?_; clear_value x) | extract_lets

theorem State.writeVfEnable_keeps {b0 : State} (v : Bool) (s : State) (h_s : Keeps b0 s) :
    Keeps b0 (State.writeVfEnable v s) := by
  unfold State.writeVfEnable
  repeat' first
    | (with_reducible first
        | assumption | apply State.withPcie_keeps | apply State.settle_keeps | apply State.dealAll_keeps | apply State.flr_keeps
        | apply foldl_keeps | apply ite_keeps)
    | intro _ | (extract_lets x; refine (fun (hx : Keeps b0 x) => ?_) ?_; clear_value x)

theorem State.configWrite_keeps {b0 : State} (f a : Nat) (v : Word) (s : State) (h_s : Keeps b0 s) :
    Keeps b0 (State.configWrite f a v s) := by
  unfold State.configWrite
  repeat' first
    | (with_reducible first
        | assumption | apply State.updFn_keeps | apply State.withPcie_keeps | apply State.writeVfEnable_keeps | apply ite_keeps)
    | intro _ | split

theorem State.hostStore_keeps {b0 : State} (f : Fin 64) (x : HostAccess) (v : Long) (s : State) (h_s : Keeps b0 s) :
    Keeps b0 (State.hostStore f x v s) := by
  unfold State.hostStore
  repeat' first
    | (with_reducible first
        | assumption | apply State.configWrite_keeps | apply State.msixWrite_keeps | apply State.hostRegWrite_keeps
        | apply execDoorbellWrite_keeps | apply nextOr_next_keeps | apply ite_keeps)
    | intro _ | split | (extract_lets x; refine (fun (hx : Keeps b0 x) => ?_) ?_; clear_value x) | extract_lets

theorem State.hostLoad_keeps {b0 : State} (f : Fin 64) (x : HostAccess) (s : State) (h_s : Keeps b0 s) :
    Keeps b0 (State.hostLoad f x s) := by
  unfold State.hostLoad
  repeat' first
    | (with_reducible first
        | assumption | apply State.bar0Read_keeps | apply State.setRead_keeps | apply State.withOut_keeps | apply ite_keeps)
    | intro _ | split | (refine keeps_of_pair (by assumption) ?_)
    | (extract_lets x; refine (fun (hx : Keeps b0 x) => ?_) ?_; clear_value x) | extract_lets

theorem State.badAccess_keeps {b0 : State} (f : Fin 64) (write : Bool) (s : State) (h_s : Keeps b0 s) :
    Keeps b0 (State.badAccess f write s) := by
  unfold State.badAccess
  repeat' first
    | (with_reducible first
        | assumption | apply State.setRead_keeps | apply State.withMbx_keeps | apply State.withOut_keeps | apply ite_keeps)
    | intro _ | split | (extract_lets x; refine (fun (hx : Keeps b0 x) => ?_) ?_; clear_value x) | extract_lets

theorem execBarBadAccess_keeps {b0 : State} (f : Fin 64) (x : HostAccess) (s : State) (u : State) (h_s : Keeps b0 s)
    (h_u : Keeps b0 u) :
    Keeps b0 (nextOr u (execBarBadAccess f x s)) := by
  unfold execBarBadAccess
  repeat' first
    | (with_reducible first
        | assumption | apply State.badAccess_keeps | apply State.hostLoad_keeps | apply State.hostStore_keeps
        | apply nextOr_next_keeps | apply ite_keeps)
    | intro _ | split

theorem execMsixVectorUnmask_keeps {b0 : State} (f : Fin 64) (vector : Fin 32) (s : State) (u : State) (h_s : Keeps b0 s)
    (h_u : Keeps b0 u) :
    Keeps b0 (nextOr u (execMsixVectorUnmask f vector s)) := by
  unfold execMsixVectorUnmask
  repeat' first
    | (with_reducible first
        | assumption | apply State.msixUnmask_keeps | apply nextOr_next_keeps)
    | intro _

theorem execIdeKmKeyProg_keeps {b0 : State} (stream : Fin 9) (sub : Fin 3) (dir : Fin 2) (key : List Byte) (s : State) (u :
    State) (h_s : Keeps b0 s) (h_u : Keeps b0 u) :
    Keeps b0 (nextOr u (execIdeKmKeyProg stream sub dir key s)) := by
  unfold execIdeKmKeyProg
  repeat' first
    | (with_reducible first
        | assumption | apply State.withKeys_keeps | apply nextOr_next_keeps | apply ite_keeps)
    | intro _ | split

end Sys2Proof.Machine
end

