-- ==== Sys2Proof/Laws/Update.lean ====
section
/-! SUPPORT. An update of one unit is an update with the value that its function gives. -/

namespace Sys2Proof.Machine

theorem Bank.upd_const {α : Type} [DecidableEq α] (d : α) (k : Nat) (f : α → α) (b : Bank α) :
    Bank.upd d k f b = Bank.upd d k (fun _ => f (Bank.get d b k)) b := rfl

theorem State.updSd_const (p : Nat) (g : SdPort → SdPort) (s : State) :
    s.updSd p g = s.updSd p fun _ => g (s.sdPort p) := rfl

theorem State.updIcc_const (n : Nat) (g : IccSlot → IccSlot) (s : State) :
    s.updIcc n g = s.updIcc n fun _ => g (s.iccSlot n) := rfl

theorem State.updCore_const (c : Nat) (g : Core → Core) (s : State) :
    s.updCore c g = s.updCore c fun _ => g (s.core c) := rfl

theorem State.updEngine_const (n : Nat) (g : PkeEngine → PkeEngine) (s : State) :
    s.updEngine n g = s.updEngine n fun _ => g (s.engine n) := rfl

/-- An event-log record with a free detail changes the Cobbler's logs and the counter of free values. -/
theorem State.eventFree_eq (unit cls : Nat) (s : State) :
    ∃ c, s.eventFree unit cls = (s.withFreeCount (· + 1)).withCob fun _ => c := by
  have h : ∀ (d : Word) (t : State), ∃ c, t.event unit cls d = t.withCob fun _ => c := by
    intro d t
    unfold State.event
    split
    · exact ⟨_, rfl⟩
    · exact ⟨t.cob, rfl⟩
  exact h _ _

/-- A whole frame whose header and CRC are right goes on to what its type does (08 R264). -/
theorem State.frameIn_ok (n : Nat) (type : Byte) (fh : FrameHdr) (body : List Byte) (k : State → State) (s : State)
    (hl : (s.sole.get n).live = true) (hf : fh.flags.toNat / 4 = 0) (hb : fh.bodyLen.toNat = body.length)
    (hm : body.length ≤ 65584) (hc : FrameHdrOk type fh body = true) : s.frameIn n type fh body k = k s := by
  have h : ¬ 65584 < body.length := Nat.not_lt.mpr hm
  simp [State.frameIn, hl, hf, hb, hc, h]

end Sys2Proof.Machine
end

