-- ==== Sys2Proof/Tests/Fixtures.lean ====
section
/-! SUPPORT. Small states and operands for the tests and witnesses. -/

namespace Sys2Proof.Tests

open Sys2Proof.Machine

/-- Out of reset, with the loader in a state and one firmware image of 8,192 bytes announced. -/
def bootReady (st : LdrState) : State :=
  State.reset.withBoot fun b => { b with inReset := false, state := st, imgLen := 8192 }

/-- An image of which no byte was received. -/
def shortImage : Image := { data := [], early := some .timeout }

/-- Firmware runs, and function 0's commands go to custody core 0. -/
def commandReady : State :=
  (bootReady .running).withMbx fun m => { m with hroute := Bank.set {} 0 { core := 0, en := true } m.hroute }

/-- A message stands in function 0's CMD mailbox. -/
def commandPosted : State :=
  commandReady.withMbx fun m => { m with box := Bank.set {} 0 { lo := 0x1000, hi := 0x2, full := true } m.box }

/-- The attributes of a key type, of an owner and with usage bits. -/
def attrFor (type : Byte) (owner : Half) (usage : Word) : Attr :=
  { type := type, count := 1, owner := owner, usage := usage, check := 0, exportability := 0, mode := 0, keyUsage := 0,
    keyVersion := 0, state := 0, salt := 0, generation := 1, matLen := 32, rsv := 0 }

/-- An AES-256 key of an owner and with usage bits. -/
def runFor (owner : Half) (usage : Word) : KeyRun :=
  { attr := attrFor 0x03 owner usage, material := List.replicate 32 7, keyId := 1, counter := 9, marked := false, refs := 0 }

/-- A ready key store with one key in slot 64. -/
def keysWith (r : KeyRun) : Keys :=
  { ready := true, runs := [(64, some r)], gens := [(64, 1)] }

/-- The handle of the key in slot 64 of such a store. -/
def handle64 : Word := (keysWith (runFor 0xFFFF 0)).handleOf 64

/-- Engine 0 is idle with operands in custody SRAM, and slot 64 holds a key of a type with every usage. -/
def pkeReady (type : Byte) (named : Bool) (len : BitVec 21) : State :=
  (State.reset.withKeys fun _ => keysWith { runFor 0xFFFF 0xFFFFFFFF with attr := attrFor type 0xFFFF 0xFFFFFFFF }).withPke fun _ =>
    [(0, { key := if named then handle64 else 0, tenant := 0xFFFF, src := 0x10000000, srcLen := len, dst := 0x10100000,
           dstCap := 8192 })]

/-- A PKE_CMD of core 0 at machine level. -/
def pkeCmdFor (kout : Bool) : PkeCmd :=
  { master := 0, level := .machine, set := 0, inline := false, prehash := false, kout := kout, ch := 0, rsv := 0 }

/-- Engine 0 has latched ED_VERIFY, or the operation given, in a state. -/
def pkeRunning (op : Byte) (st : BitVec 3) : State :=
  State.reset.withPke fun _ =>
    [(0, { job := some { op := op, set := 0, inline := false, prehash := false, kout := false, ch := 0 }, state := st, owner := 65,
           src := 0x10000000, srcLen := 64, dst := 0x10100000 })]

/-- How a computation went. -/
def pkeAnswer (checkOk : Bool) : PkeDone := { checkOk := checkOk, iter := 1, pclk := 100 }

/-- A DIG_CMD of core 0 at machine level, SHA-256. -/
def digCmdFor : DigCmd :=
  { writer := 0, level := .machine, alg := 2, verify := false, kout := false, ch := 0, meas := false, midx := 0, ksrc := 0,
    rsv := 0 }

/-- An open SHA-256 context. -/
def openCtx : DigCtx :=
  { alg := 2, owner := 0, ksrc := 0, keyed := false, key := [], custom := [], base := none, data := [], count := 0 }

/-- Channel 0 with a context, operands in custody SRAM and perhaps an operation in progress on unit 1. -/
def digReady (ctx : Option DigCtx) (len : BitVec 24) (op : Option Byte) : State :=
  (State.reset.withRng fun r => { r with ready := true }).withDig fun d =>
    { d with chans := [(0, { ctx := ctx, src := 0x10000000, len := len, dst := 0x10100000, op := op.map fun o => (o, digCmdFor) })],
             units := if op.isSome then [(1, { work := some (.chan 0) })] else [] }

/-- Port 3 is enabled with block lock. -/
def portLive : State := State.reset.withSole fun x => { x with port := [(3, { en := true, lock := true })] }

/-- The header of a whole frame from a drive, with its CRC (08 R262). -/
def frameOf (type : Byte) (body : List Byte) : FrameHdr :=
  { bodyLen := BitVec.ofNat 32 body.length, flags := 1, seq := 0, crc := crc32c (frameHead type 1 0 body.length ++ body) }

/-- Port 3 trains, at a step. -/
def portTraining (st : TrainAt) : State :=
  portLive.updPort 3 fun p => { p with trained := .training, step := st, attempt := 1, mask := 7 }

/-- Port 3 is trained and tracks a drive of 100,000 ticks a turn and 10 sectors. -/
def portSending : State :=
  portLive.updPort 3 fun p =>
    { p with trained := .yes, tpp := 100000, pitch := 1000, spp := 10, credit := 8, raised := 8, trk := { state := 2, v := 0x10000 } }

/-- A read job of a port for sector address 5. -/
def readJob (port : Byte) : Job :=
  { desc := { opcode := 0x20, format := 1, port := port, code := 0, handle := 0, len := 4096, aadLen := 0, rsv := 0, src := 0, dst := 0,
              cap := 4096, tag := 0, paramA := 5, paramB := List.replicate 16 0 },
    pos := .parked }

/-- Port 3 sends, and a read waits on it. -/
def portReading : State := portSending.withRings fun rs => { rs with jobs := [(0, some (readJob 3))] }

/-- Ring 5 of function 3 is active, with 16 descriptors and a window over all of host memory. -/
def ringReady : State :=
  State.reset.withRings fun rs =>
    { rs with ring := [(5, { fn := 3, size := 4, state := 1 })], page := [(0, 0x43)], wlim := [(3, 0xFFFFFFFFFFFFFFFF)], windowed := 8 }

/-- A job of an opcode at a place in the pipeline. -/
def jobFor (op : Byte) (pos : JobAt) : Job :=
  { desc := { opcode := op, format := 1, port := 0, code := 0, handle := 0, len := 64, aadLen := 0, rsv := 0, src := 0x1000,
              dst := 0x2000, cap := 4096, tag := 0, paramA := 0, paramB := List.replicate 16 0 },
    pos := pos }

/-- Ring 5 with one job, of descriptor count 0. -/
def pipeState (j : Job) : State := ringReady.withRings fun rs => { rs with jobs := [(jobKey 5 0, some j)] }

/-- `s` with the instruction of opcode `op` and fields `i` where core 0 fetches. -/
def holding (op : Nat) (i : AwlIn) (s : State) : State :=
  s.updCore 0 fun k => { k with code := Bank.writeBytes [] k.pc.toNat (leBytes 4 (awlWord op i).toNat) }

/-- Every core is out of reset. -/
def coresRunning : State :=
  (bootReady .running).withCores fun _ => (List.range 5).map fun i => (i, { inReset := false })

/-- The Cobbler runs with the management port enabled. -/
def cobReady : State := coresRunning.withCob fun c => { c with mgtEn := true }

/-- SPDM has been negotiated, with a certificate chain in slot 0. -/
def cobNegotiated : State :=
  cobReady.withCob fun c => { c with chain := [1, 2, 3, 4], spdm := { version := true, caps := true, algs := true } }

/-- An SPDM session is open. -/
def cobSession : State := cobNegotiated.updSpdm fun x => { x with session := some { doe := true } }

/-- An instruction of an addressing mode, size, MOD and D16, with nothing met on its accesses. -/
def awlIn (am : BitVec 3) (sz : BitVec 2) (m : BitVec 3) (d : Half) : AwlIn :=
  { am := am, sz := sz, mod := m, d16 := d, hostData := 0, hostEarly := false, fetchErr := none, accessErr := none,
    entry := { frameErr := false, escalationErr := false } }

/-- Core 0 runs at machine level with X, Y, SP and A at values of use to the tests: X names the data TCM. -/
def awlReady : State :=
  coresRunning.updCore 0 fun k => { k with x := 0x80000, y := 3, a := 5, spM := 0x90000 }

/-- Core 0 runs at user level in the instruction TCM, which region 0 of its MPU permits user level to execute. -/
def awlUser : State :=
  awlReady.updCore 0 fun k =>
    { k with st := 0, rules := { base := [(0, 0x40000)], last := [(0, 0x7FF00)], perm := [(0, 0x7F)] } }

/-- Core 0 with line 9 asserted and enabled, and IPL 0. -/
def awlLine : State :=
  (awlReady.updCore 0 fun k => { k with st := 0x3000, ien := 0x200 }).withCls fun x => { x with irqEn := true, irqPend := true }

/-- Core 0 with the user opcode 0xF2 defined: END alone, for AM 000 and SZ 00. -/
def awlDecode : State :=
  awlReady.updCore 0 fun k => { k with decode := [(0x810, 1), (0x811, 1), (0x812, 0x11)] }

/-- Core 0 at machine level with a sealed frame of user level on its stack. -/
def awlFrame : State :=
  awlReady.withMem fun m => m.tcmWrite 0 0x90000 (frameBytes { (awlReady.core 0) with st := 0 } 4 0x40010 0x90000)

/-- A domain membership of a device, with a quorum of 2 of 3. -/
def membershipOf (device : Half) : Membership :=
  { device := device, m := 2, n := 3, recM := 2, recN := 3, issue := 1, operatorRoot := [], rootEc := [], rootDsa := [] }

/-- The link is up on a member with the domain key and the pair key, in UNPAIRED. -/
def weltUp : State :=
  ((coresRunning.withFw fun f => { f with membership := some (membershipOf 7) }).withKeys fun _ =>
    { ready := true, runs := [(2, some (runFor 0 0)), (3, some (runFor 0 0))], gens := [] }).withWelt fun w =>
      { w with en := true, lanes := 3 }

/-- A HELLO of device 9 with the keys of `weltUp`. -/
def helloFrom (carrying : Bool) : Hello :=
  { version := 1, device := 9, epoch := 4, dkId := 1, pairId := 1, random := 0, carrying := carrying }

/-- `s` with a random number block that serves every instance, and cipher core 0 that takes cuts. -/
def clustered (s : State) : State :=
  s.withRng fun r => { r with ready := true, tested := true, buffer := List.replicate 8 [], gens := [(0, { seeded := true })],
                              insts := (List.range 32).map fun i => (i, { seeded := true }) }

/-- A frame from the partner on lane 0 with its CRC. -/
def rxOf (type : Byte) (counter : Long) (body : List Byte) : WeltRx :=
  { lane := 0, flags := 0, seq := 0, counter := counter, body := body, crc := crc32c (frameHead type 0 0 body.length ++ body) }

/-- A HELLO frame of device 9 that names the domain key `dk`. -/
def helloRx (dk : Nat) : WeltRx :=
  rxOf 0x21 0 ([1, 0] ++ leBytes 2 9 ++ leBytes 4 4 ++ leBytes 8 dk ++ leBytes 8 1 ++ List.replicate 32 0)

/-- The record that waits for an ACK with sequence 7. -/
def waitingItem : MirrorWait := { seq := 7, item := .depart 0, lane := 0 }

/-- A HELLO has been taken. -/
def weltHello : State := weltUp.withWelt fun w => { w with hello := some (helloFrom false) }

/-- The session key is derived. -/
def weltKeyed : State := weltHello.withWelt fun w => { w with sessionKey := some [] }

/-- The pair is PAIRED. -/
def weltPaired : State :=
  weltKeyed.withWelt fun w => { w with confirmed := true, state := .paired, ownWord := true, partnerWord := true }

/-- A command of function 0 with a body of `n` bytes and a session, and room for any answer. -/
def hdrFor (n : Nat) (session : Word) : CmdHdr :=
  { fn := 0, addr := 0x1000, headerRead := true, magic := 0x5843, major := 1, minor := 4, flags := 0, tag := 7,
    reqLen := BitVec.ofNat 32 (64 + n), respAddr := 0x8000, respCap := 0x10000, session := session, timeout := 0,
    reservedZero := true, bodyRead := n, elapsed := 0 }

/-- In SERVICE, with ADMIN session 0x1005 and the session 0x1006 of tenant 1, both of function 0. -/
def cmdReady : State :=
  ((coresRunning.withBoot fun b => { b with phase := .service }).withFw fun f =>
    { f with sessions := [(5, some { fn := 0, admin := true, tenant := 0, check := 1 }),
                          (6, some { fn := 0, admin := false, tenant := 1, check := 1 })],
             membership := some (membershipOf 7) }).withInsole fun i => { i with trusted := true }

/-- A command that waits for an earlier one. -/
def waitOrder : Waiting :=
  { cmd := .logStatus (hdrFor 0 0x1005), opc := 0x0705, hdr := hdrFor 0 0x1005, slots := [], why := .order }

/-- A FW_STAGE of an image of 8,192 bytes that waits. -/
def waitStage : Waiting :=
  { cmd := .fwStage (hdrFor 16 0x1005) 0 8192 0, opc := 0x0B06, hdr := hdrFor 16 0x1005, slots := [], why := .stage }

/-- One command waits. -/
def cmdWaiting (w : Waiting) : State := cmdReady.withFw fun f => { f with waiting := [w] }

/-- `cmdReady` with a key of a type in slot 64, every usage bit set, and a random number block that serves. -/
def cmdKeyed (type : Byte) : State :=
  clustered (cmdReady.withKeys fun _ => keysWith { runFor 1 0xFFFFFFFF with attr := { attrFor type 1 0xFFFFFFFF with exportability := 2 } })

/-- The session key of tenant 1: a loaded ECDSA P-384 public key with SESSION usage. -/
def sessionRun : KeyRun :=
  { runFor 1 0 with attr := { attrFor 0x19 1 (1 <<< uSESSION) with matLen := 96 }, material := List.replicate 96 0, loaded := true }

/-- `cmdKeyed` with the session key of tenant 1 in slot 65. -/
def sessionReady : State := (cmdKeyed 3).withKeys fun k => { k with runs := k.runs ++ [(65, some sessionRun)] }

/-- The template of a new AES-256 key of tenant 1 that encrypts and decrypts. -/
def aesTemplate : Attr := { attrFor 0x03 1 3 with count := 0, generation := 0, matLen := 0 }

/-- A quorum of 2 of 3 with identifier 9, begun in session 0x1005. -/
def quorumOf (opc : Half) (d : BitVec 384) (ops : List Long) (ticket : Bool) : Quorum :=
  { qid := 9, session := 0x1005, purpose := opc, digest := d, m := 2, n := 3, challenge := [], operators := ops, failures := 0,
    ticket := ticket }

/-- `s` with a quorum ticket for a command and a digest. -/
def ticketFor (opc : Half) (d : BitVec 384) (s : State) : State :=
  s.withFw fun f => { f with quorum := some (quorumOf opc d [1, 2] true) }

/-- Such a ticket admits a command of that opcode and digest. -/
theorem ticketFor_ok {c : Call} {opc : Half} {d : BitVec 384} {s : State} (hq : c.quorum = some (9, d)) (ho : c.opc = opc) :
    (c.quorum.all fun q => (ticketFor opc d s).fw.ticketOk c.opc q.1 q.2) = true := by
  rw [hq, ho]
  simp [ticketFor, quorumOf, Fw.ticketOk, State.withFw]

/-- An open quorum with its operators so far. -/
def quorumOpen (ops : List Long) : State :=
  cmdReady.withFw fun f => { f with quorum := some (quorumOf 0x0A01 0 ops false) }

/-- `cmdKeyed` with key usage and mode on the key. -/
def payReady : State :=
  (cmdKeyed 3).withKeys fun _ => keysWith
    { runFor 1 0xFFFFFFFF with attr := { attrFor 3 1 0xFFFFFFFF with
        exportability := 2, keyUsage := two 'D' '0', mode := one 'B', keyVersion := two '0' '0' } }

/-- A PORT_CONFIG record that enables the port and leaves every default. -/
def portRec : PortRecord :=
  { flags := 1, code := 0, rsv2Zero := true, alpha := 0, beta := 0, vlo := 0, vhi := 0, lead := 0, gate := 0, agate := 0, acqN := 0,
    rsv25 := 0, tmoUs := 0, holdMs := 0, rsv30Zero := true }

/-- `cmdKeyed` with the domain key in slot 2. -/
def cmdDk : State := (cmdKeyed 3).withKeys fun k => { k with runs := (2, some (runFor 0xFFFF 0)) :: k.runs }

/-- A PAIR_BIND that waits for device 8. -/
def waitBind : Waiting :=
  { cmd := .pairBind (hdrFor 8 0x1005) 9 8 0, opc := 0x0A03, hdr := hdrFor 8 0x1005, slots := [], why := .bind }

/-- Device 7 with DWK and DK, and its PAIR_BIND waiting. -/
def bindReady : State :=
  (cmdWaiting waitBind).withKeys fun _ => { ready := true, runs := [(1, some (runFor 0 0)), (2, some (runFor 0 0))], gens := [] }

/-- A ticket for FLOOR_RAISE of the extension floor to `v`. -/
def floorState (v : Byte) : State := ticketFor 0x0B07 (purposeDigest ([2, v] ++ leBytes 2 0)) cmdReady

end Sys2Proof.Tests
end

