-- ==== Sys2Proof/Tests/Slice0.lean ====
section
/-! SUPPORT. Tests: the ill-formed commands that each check of `Instr.wf` refuses, and the spec's own worked examples. -/

namespace Sys2Proof.Tests

open Sys2Proof.Machine

/-! ### Ill-formed commands -/

set_option maxRecDepth 2000

/-- An image of one byte more than the longest image. -/
def longImage : Image := { data := List.replicate 0x400001 0, early := none }

theorem longImage_wf : longImage.wf = false := by
  rw [longImage, Image.wf, List.length_replicate]; decide
theorem test_wf_image : (Instr.imageVerifyDone shortImage).wf = true ∧ (Instr.imageVerifyDone longImage).wf = false :=
  ⟨by decide, longImage_wf⟩
theorem test_wf_stage : (Instr.fwStageVerifyDone shortImage 0).wf = true ∧ (Instr.fwStageVerifyDone longImage 0).wf = false :=
  ⟨by decide, longImage_wf⟩
theorem test_wf_ide_key : (Instr.ideKmKeyProg 0 0 0 [1, 2]).wf = false := by decide
theorem test_wf_header : ({ hdrFor 8 0 with bodyRead := 1048513 } : CmdHdr).wf = false := by decide
theorem test_wf_shelf : (Instr.shelfDown (hdrFor 0 0) [(1, 0), (1, 4)]).wf = false := by decide
theorem test_wf_derive_unread : (Instr.keyDerive { hdrFor 48 0 with bodyRead := 40 } 0 0 0 5 aesTemplate [1]).wf = true := by decide

/-- One command for each check of a string against the length field of its own body, with one byte too few. -/
theorem test_wf_bodies : (([.sessionOpen (hdrFor 16 0) 0 0 0 0 2 [1], .keyImport (hdrFor 56 0) 0 0 0 aesTemplate 2 0 [1], .keyLoad (hdrFor 8 0) 0 0 2 [1],
   .payBlockImport (hdrFor 8 0) 0 2 [1], .tagSetAuditKey (hdrFor 8 0) 2 0 [1], .domainJoin (hdrFor 16 0) 0 1 2 0 [1] [1],
   .domainJoin (hdrFor 16 0) 0 2 1 0 [1] [1], .epochFloor (hdrFor 16 0) 0 0 0 2 0 [1], .verify (hdrFor 16 0) 0 0 0 1 2 [1] [1],
   .verify (hdrFor 16 0) 0 0 0 2 1 [1] [1], .extLoad (hdrFor 8 0) 0 2 [1], .keyDerive (hdrFor 48 0) 0 0 0 5 aesTemplate [1],
   .sign (hdrFor 24 0) 0 0 0 2 0 [1], .seal (hdrFor 24 0) 0 1 0 1 0 [1] [], .seal (hdrFor 24 0) 0 1 0 1 0 [] [1],
   .unseal (hdrFor 24 0) 0 1 0 1 0 [] [1], .unseal (hdrFor 24 0) 0 1 0 1 0 [1] [], .agree (hdrFor 48 0) 0 2 aesTemplate [1],
   .decaps (hdrFor 48 0) 0 2 aesTemplate [1], .payBlockExport (hdrFor 16 0) 0 0 1 0 [], .alarmTableSet (hdrFor 72 0) 0 0 [1],
   .cardWrite (hdrFor 16 0) 0 0 0 1 0 [1] .removed, .iccApdu (hdrFor 8 0) 0 0 4 [] .removed, .tagPost (hdrFor 8 0) 0 0 0 [1],
   .mgtConfig (hdrFor 16 0) 0 0 0 1 []] : List Instr).all fun c => !c.wf) = true := by decide

/-- One term for each check of what another interface carries. -/
theorem test_wf_frames : (([.descriptorArrival 5 [], .descriptorArrival 5 (List.replicate 65 0), .descriptorReadEarlyEnd 5 (List.replicate 512 0) .timeout,
   .alarmAssert [(4, 1), (4, 2)], .alarmAssert [], .select (List.replicate 17 0), .readPage 0 0 (List.replicate 256 0) true,
   .auth1 (List.replicate 256 0) true, .auth2 (List.replicate 256 0) true, .writeNotes 0 (List.replicate 256 0) true none,
   .readLog (List.replicate 256 0) true, .getStatus (List.replicate 256 0) true, .hello (rxOf 0x21 0 [1]) false,
   .confirm (rxOf 0x22 0 [1]), .heartbeat (rxOf 0x23 0 [1]), .ack (rxOf 0x25 0 [1]), .depart (rxOf 0x26 0 [1]),
   .mirror (rxOf 0x24 0 (List.replicate 40 0)) 0 (.context 0 0 [1]), .mirror (rxOf 0x24 0 (List.replicate 40 0)) 0 (.staged 0 0 [] [] 0),
   .mirror (rxOf 0x24 0 [1]) 0 (.keyUnload 0), .bind (rxOf 0x27 0 [1]) 0, .quorumPresent (hdrFor 16 0) 0 0 0 0 0 (.file [1]),
   .sensorRefresh [0]] : List Instr).all fun c => !c.wf) = true := by decide
theorem test_wf_bar : (Instr.barBadAccess 0 { space := .bar0, offset := 0, size := 4097, data := none }).wf = false := by decide

/-! ### Worked examples of the spec -/

/-- The handle of the example under "Numbers" (00): slot 9,029 at generation 2 with check byte 0x4E. -/
theorem test_handle : handleSlot 0x4E012345 = 9029 ∧ handleGen 0x4E012345 = 2 ∧ handleCheck 0x4E012345 = 0x4E := by decide

/-- A after RND with n = 16, and the flags V and SV, in a rounding mode and with or without SAT (18 R512). -/
def rndOf (mode : Nat) (sat : Bool) (a : BitVec 40) : BitVec 40 × Bool × Bool :=
  match execRnd 0 (awlIn 0 2 0 16) (holding 0x25 (awlIn 0 2 0 16) (awlReady.updCore 0 fun k =>
    { k with a := a, st := BitVec.ofNat 32 (0x3000 + 128 * mode + (if sat then 32 else 0)) })) with
  | .next t => ((t.core 0).a, (t.core 0).flag stV, (t.core 0).flag stSV)
  | _ => (0, true, true)

/-- Row 1 of the example of R512. -/
theorem test_rnd_row1 : (List.range 4).map (fun m => (rndOf m false 0x0012348000).1) =
    [0x0012340000, 0x0012350000, 0x0012340000, 0x0012340000] := by decide
/-- Row 2. -/
theorem test_rnd_row2 : (List.range 4).map (fun m => (rndOf m false 0x0012358000).1) =
    [0x0012350000, 0x0012360000, 0x0012360000, 0x0012350000] := by decide
/-- Row 3. -/
theorem test_rnd_row3 : (List.range 4).map (fun m => (rndOf m false 0xFFEDCA8000).1) =
    [0xFFEDCA0000, 0xFFEDCB0000, 0xFFEDCA0000, 0xFFEDCB0000] := by decide
/-- Row 4, with SAT set. -/
theorem test_rnd_row4 : (List.range 4).map (fun m => rndOf m true 0x7FFFFF8000) =
    [(0x7FFFFF0000, false, false), (0x7FFFFFFFFF, true, true), (0x7FFFFFFFFF, true, true), (0x7FFFFF0000, false, false)] := by decide

/-- SATA of an accumulator: A and SV (18 R511). -/
def sataOf (a : BitVec 40) : BitVec 40 × Bool :=
  match execSata 0 (awlIn 0 0 0 0) (holding 0x26 (awlIn 0 0 0 0) (awlReady.updCore 0 fun k => { k with a := a, st := 0x3020 })) with
  | .next t => ((t.core 0).a, (t.core 0).flag stSV)
  | _ => (0, true)

/-- The SATA column of the example after R513. -/
theorem test_sata : [0x0080000000, 0xFF7FFFFFFF, 0xFF80000000].map sataOf =
    [(0x007FFFFFFF, true), (0xFF80000000, true), (0xFF80000000, false)] := by decide

/-- The first MAC of the dot product at the end of chapter 18: FRAC, SAT and half to even, coefficient 0x2000_0001 in memory. -/
theorem test_mac : (match exec (.mac 0 (awlIn 6 2 0 4)) (holding 0x21 (awlIn 6 2 0 4) ((awlReady.withMem fun m => m.tcmWrite 0 0x80400 [1, 0, 0, 0x20]).updCore 0
      fun k => { k with a := 0, x := 0x7FFFFFFF, y := 0x80400, st := 0x3160 })) with
    | .next t => ((t.core 0).a, (t.core 0).y)
    | _ => (0, 0)) = (0x0020000001, 0x80404) := by decide
/-- Its second MAC: a negative sample. -/
theorem test_mac_negative : (match exec (.mac 0 (awlIn 6 2 0 4)) (holding 0x21 (awlIn 6 2 0 4) ((awlReady.withMem fun m => m.tcmWrite 0 0x80404 [7, 0, 0, 0]).updCore 0
      fun k => { k with a := 0x0020000001, x := 0xC0000000, y := 0x80404, st := 0x3160 })) with
    | .next t => ((t.core 0).a, (t.core 0).y)
    | _ => (0, 0)) = (0x001FFFFFFD, 0x80408) := by decide

/-- The decode table of the example of chapter 20: entry 0xF0, "MAC2". -/
def mac2Table : Bank Byte :=
  Bank.writeBytes [] 0 (leBytes 8 0x3237000000000000 ++ leBytes 8 0x3247000000000004 ++ leBytes 8 0x2101380000000000
    ++ leBytes 8 0x2102480000000000 ++ leBytes 8 0 ) |> fun b => Bank.writeBytes b 0x800 (leBytes 4 0x00540E01)

/-- MAC2 of the example: A ends at 0.1875. -/
theorem test_mac2 : (match execUserDecode 0 0 (awlIn 1 2 0 0x0700) (holding 0xF0 (awlIn 1 2 0 0x0700) ((awlReady.withMem fun m =>
      m.tcmWrite 0 0x80700 [0, 0, 0, 0x60, 0, 0, 0, 0xA0]).updCore 0
      fun k => { k with a := 0, x := 0x40000000, y := 0x20000000, dp := 0x80000, st := 0x3160, decode := mac2Table })) with
    | .next t => (t.core 0).a
    | _ => 0) = 0x0018000000 := by decide

/-- Port 5 of the example at the end of chapter 09, in TRACK. -/
def examplePort : Port :=
  { tpp := 240010000, pitch := 4000, spp := 60000, offs := 1000, delay := 38, lead := 600, alpha := 0x2000, beta := 0x222,
    trk := { state := 2, p0 := 226400000 * 65536, pass0 := 0x21, v := 0x18000, t0 := 1000000000 } }

/-- Its stamp is accepted: p0, v and t0 (09 R297). -/
theorem test_stamp : (fun k : Tracker => (k.p0, k.v, k.t0, k.rej)) (examplePort.stamp 0x21 226406049 1000004044) =
    (226406014 * 65536, 98309, 1000004006, 0) := by decide
/-- 41 ticks later it would have been rejected. -/
theorem test_stamp_rejected : (examplePort.stamp 0x21 226406090 1000004044).rej = 1 := by decide
/-- The window of sector 236,608 opens 17,543 SLCLK after the stamp. -/
theorem test_window : ({ examplePort with trk := { examplePort.trk with p0 := 226406014 * 65536, v := 98309, t0 := 1000004006 } } : Port).windowIn
    1000004006 236608 = some 17543 := by decide

end Sys2Proof.Tests
end

