-- ==== Sys2Proof/Tests/Witnesses.lean ====
section
/-! SUPPORT. For every statement with hypotheses, a state and operands that meet them: one theorem for each clause. -/

set_option linter.unusedVariables false

open Sys2Proof.Machine

namespace Sys2Proof.Tests

theorem witness_StepIdles_1 : ∃ (s : State), s.pending = [] :=
⟨State.reset, by decide⟩

theorem witness_StepIdles_2 : ∃ (s : State), s.boot.inReset = true :=
⟨State.reset, by decide⟩

theorem witness_ResetRegisters_1 : ∃ (p : Nat × Word), p ∈ ([(0x21000010, 0xFFFFFFFF), (0x2100001C, 10000), (0x21000018,
      0), (0x22000000, 65535), (0x22000004, 65536), (0x22000008, 256), (0x23001010, 15), (0x2500010C, 100000),
      (0x25000000, 0), (0x26001000, 0), (0x26001008, 65536), (0x28000080, 0), (0x28000090, 0xFFFFFFFF), (0x28000094,
      0x1FFFFFF), (0x2800009C, 0), (0x29000000, 68), (0x29000004, 0), (0x29011000, 0x2222000), (0x29011004, 16384),
      (0x29011008, 0x40000), (0x2A000000, 2), (0x2A002000, 34), (0x2B000000, 12), (0x2B000008, 1000), (0x2C000000, 0),
      (0x2D000000, 0xFFFFFFFF), (0x2D000004, 7), (0x2E001018, 0), (0x2E00101C, 0), (0x2F000000, 32)] : List (Nat ×
      Word)) :=
⟨(0x21000010, 0xFFFFFFFF), by decide⟩

theorem witness_AlarmDefaults_1 : ∃ (s : State) (k : Nat), k < 64 :=
⟨State.reset, 39, by decide⟩

theorem witness_AlarmDefaults_2 : ∃ (k : Nat), k < 64 :=
⟨39, by decide⟩

theorem witness_LinkWriteRules_1 : ∃ (v : Half) (s : State), 63 < v.toNat :=
⟨64, State.reset, by decide⟩

theorem witness_QueueFifo_1 : ∃ (s t : State), step s = .next t :=
⟨{ State.reset with pending := [.pwrgdRise] }, State.reset.withPins fun p => { p with pwrgd := true }, rfl⟩

theorem witness_FusesHold_1 : ∃ (s t : State), step s = .next t :=
⟨{ State.reset with pending := [.pwrgdRise] }, State.reset.withPins fun p => { p with pwrgd := true }, rfl⟩

theorem witness_StepKeepsInvariant_1 : ∃ (s t : State), s.Inv ∧ step s = .next t :=
⟨{ State.reset with pending := [.pwrgdRise] }, State.reset.withPins fun p => { p with pwrgd := true }, ⟨⟨by decide, by
      decide⟩, by decide, by decide⟩, rfl⟩

set_option maxRecDepth 20000 in
theorem witness_AwlIllegalForms_1 : ∃ (c : CoreNo) (op : Byte) (i : AwlIn) (s : State), s.Fetches c.val op.toNat i ∧
      ((0x1D ≤ op.toNat ∧ op.toNat ≤ 0x1F) ∨ (0x30 ≤ op.toNat ∧ op.toNat ≤ 0x3F) ∨ (0x54 ≤ op.toNat ∧ op.toNat ≤ 0x5F) ∨
      (0x65 ≤ op.toNat ∧ op.toNat ≤ 0x6F) ∨ (0x73 ≤ op.toNat ∧ op.toNat ≤ 0x7F) ∨ (0x80 ≤ op.toNat ∧ op.toNat ≤ 0xEF))
      :=
⟨0, 0x1D, awlIn 0 2 0 5, holding 0x1D (awlIn 0 2 0 5) awlReady, ⟨by decide, by decide, by decide⟩, by decide⟩

set_option maxRecDepth 20000 in
theorem witness_AwlIllegalForms_2_nop : ∃ (c : CoreNo) (i : AwlIn) (s : State), s.Fetches c.val 0x00 i ∧ (amOf i ≠ 0 ∨ szOf i ≠ 0 ∨ modOf i ≠ 0 ∨ i.d16 ≠ 0) :=
  ⟨0, awlIn 0 0 1 0, holding 0x00 (awlIn 0 0 1 0) awlReady, ⟨by decide, by decide, by decide⟩, by decide⟩

set_option maxRecDepth 20000 in
theorem witness_AwlIllegalForms_2_sata : ∃ (c : CoreNo) (i : AwlIn) (s : State), s.Fetches c.val 0x26 i ∧ (amOf i ≠ 0 ∨ szOf i ≠ 0 ∨ modOf i ≠ 0 ∨ i.d16 ≠ 0) :=
  ⟨0, awlIn 0 0 1 0, holding 0x26 (awlIn 0 0 1 0) awlReady, ⟨by decide, by decide, by decide⟩, by decide⟩

set_option maxRecDepth 20000 in
theorem witness_AwlIllegalForms_2_abs : ∃ (c : CoreNo) (i : AwlIn) (s : State), s.Fetches c.val 0x28 i ∧ (amOf i ≠ 0 ∨ szOf i ≠ 0 ∨ modOf i ≠ 0 ∨ i.d16 ≠ 0) :=
  ⟨0, awlIn 0 0 1 0, holding 0x28 (awlIn 0 0 1 0) awlReady, ⟨by decide, by decide, by decide⟩, by decide⟩

set_option maxRecDepth 20000 in
theorem witness_AwlIllegalForms_2_neg : ∃ (c : CoreNo) (i : AwlIn) (s : State), s.Fetches c.val 0x29 i ∧ (amOf i ≠ 0 ∨ szOf i ≠ 0 ∨ modOf i ≠ 0 ∨ i.d16 ≠ 0) :=
  ⟨0, awlIn 0 0 1 0, holding 0x29 (awlIn 0 0 1 0) awlReady, ⟨by decide, by decide, by decide⟩, by decide⟩

set_option maxRecDepth 20000 in
theorem witness_AwlIllegalForms_2_clra : ∃ (c : CoreNo) (i : AwlIn) (s : State), s.Fetches c.val 0x2A i ∧ (amOf i ≠ 0 ∨ szOf i ≠ 0 ∨ modOf i ≠ 0 ∨ i.d16 ≠ 0) :=
  ⟨0, awlIn 0 0 1 0, holding 0x2A (awlIn 0 0 1 0) awlReady, ⟨by decide, by decide, by decide⟩, by decide⟩

set_option maxRecDepth 20000 in
theorem witness_AwlIllegalForms_2_ret : ∃ (c : CoreNo) (i : AwlIn) (s : State), s.Fetches c.val 0x51 i ∧ (amOf i ≠ 0 ∨ szOf i ≠ 0 ∨ modOf i ≠ 0 ∨ i.d16 ≠ 0) :=
  ⟨0, awlIn 0 0 1 0, holding 0x51 (awlIn 0 0 1 0) awlReady, ⟨by decide, by decide, by decide⟩, by decide⟩

set_option maxRecDepth 20000 in
theorem witness_AwlIllegalForms_2_rte : ∃ (c : CoreNo) (i : AwlIn) (s : State), s.Fetches c.val 0x52 i ∧ (amOf i ≠ 0 ∨ szOf i ≠ 0 ∨ modOf i ≠ 0 ∨ i.d16 ≠ 0) :=
  ⟨0, awlIn 0 0 1 0, holding 0x52 (awlIn 0 0 1 0) awlReady, ⟨by decide, by decide, by decide⟩, by decide⟩

set_option maxRecDepth 20000 in
theorem witness_AwlIllegalForms_2_mbar : ∃ (c : CoreNo) (i : AwlIn) (s : State), s.Fetches c.val 0x63 i ∧ (amOf i ≠ 0 ∨ szOf i ≠ 0 ∨ modOf i ≠ 0 ∨ i.d16 ≠ 0) :=
  ⟨0, awlIn 0 0 1 0, holding 0x63 (awlIn 0 0 1 0) awlReady, ⟨by decide, by decide, by decide⟩, by decide⟩

set_option maxRecDepth 20000 in
theorem witness_AwlIllegalForms_2_ibar : ∃ (c : CoreNo) (i : AwlIn) (s : State), s.Fetches c.val 0x64 i ∧ (amOf i ≠ 0 ∨ szOf i ≠ 0 ∨ modOf i ≠ 0 ∨ i.d16 ≠ 0) :=
  ⟨0, awlIn 0 0 1 0, holding 0x64 (awlIn 0 0 1 0) awlReady, ⟨by decide, by decide, by decide⟩, by decide⟩

set_option maxRecDepth 20000 in
theorem witness_AwlIllegalForms_2_wait : ∃ (c : CoreNo) (i : AwlIn) (s : State), s.Fetches c.val 0x72 i ∧ (amOf i ≠ 0 ∨ szOf i ≠ 0 ∨ modOf i ≠ 0 ∨ i.d16 ≠ 0) :=
  ⟨0, awlIn 0 0 1 0, holding 0x72 (awlIn 0 0 1 0) awlReady, ⟨by decide, by decide, by decide⟩, by decide⟩


set_option maxRecDepth 20000 in
theorem witness_AwlIllegalForms_3_ld : ∃ (c : CoreNo) (i : AwlIn) (s : State), s.Fetches c.val 0x01 i ∧ (szOf i = 3 ∨ 4 < modOf i) :=
  ⟨0, awlIn 0 2 5 0, holding 0x01 (awlIn 0 2 5 0) awlReady, ⟨by decide, by decide, by decide⟩, by decide⟩

set_option maxRecDepth 20000 in
theorem witness_AwlIllegalForms_3_ldu : ∃ (c : CoreNo) (i : AwlIn) (s : State), s.Fetches c.val 0x02 i ∧ (szOf i = 3 ∨ 4 < modOf i) :=
  ⟨0, awlIn 0 2 5 0, holding 0x02 (awlIn 0 2 5 0) awlReady, ⟨by decide, by decide, by decide⟩, by decide⟩

set_option maxRecDepth 20000 in
theorem witness_AwlIllegalForms_3_add : ∃ (c : CoreNo) (i : AwlIn) (s : State), s.Fetches c.val 0x08 i ∧ (szOf i = 3 ∨ 4 < modOf i) :=
  ⟨0, awlIn 0 2 5 0, holding 0x08 (awlIn 0 2 5 0) awlReady, ⟨by decide, by decide, by decide⟩, by decide⟩

set_option maxRecDepth 20000 in
theorem witness_AwlIllegalForms_3_adc : ∃ (c : CoreNo) (i : AwlIn) (s : State), s.Fetches c.val 0x09 i ∧ (szOf i = 3 ∨ 4 < modOf i) :=
  ⟨0, awlIn 0 2 5 0, holding 0x09 (awlIn 0 2 5 0) awlReady, ⟨by decide, by decide, by decide⟩, by decide⟩

set_option maxRecDepth 20000 in
theorem witness_AwlIllegalForms_3_sub : ∃ (c : CoreNo) (i : AwlIn) (s : State), s.Fetches c.val 0x0A i ∧ (szOf i = 3 ∨ 4 < modOf i) :=
  ⟨0, awlIn 0 2 5 0, holding 0x0A (awlIn 0 2 5 0) awlReady, ⟨by decide, by decide, by decide⟩, by decide⟩

set_option maxRecDepth 20000 in
theorem witness_AwlIllegalForms_3_sbc : ∃ (c : CoreNo) (i : AwlIn) (s : State), s.Fetches c.val 0x0B i ∧ (szOf i = 3 ∨ 4 < modOf i) :=
  ⟨0, awlIn 0 2 5 0, holding 0x0B (awlIn 0 2 5 0) awlReady, ⟨by decide, by decide, by decide⟩, by decide⟩

set_option maxRecDepth 20000 in
theorem witness_AwlIllegalForms_3_cmp : ∃ (c : CoreNo) (i : AwlIn) (s : State), s.Fetches c.val 0x0C i ∧ (szOf i = 3 ∨ 4 < modOf i) :=
  ⟨0, awlIn 0 2 5 0, holding 0x0C (awlIn 0 2 5 0) awlReady, ⟨by decide, by decide, by decide⟩, by decide⟩

set_option maxRecDepth 20000 in
theorem witness_AwlIllegalForms_3_and : ∃ (c : CoreNo) (i : AwlIn) (s : State), s.Fetches c.val 0x0D i ∧ (szOf i = 3 ∨ 4 < modOf i) :=
  ⟨0, awlIn 0 2 5 0, holding 0x0D (awlIn 0 2 5 0) awlReady, ⟨by decide, by decide, by decide⟩, by decide⟩

set_option maxRecDepth 20000 in
theorem witness_AwlIllegalForms_3_or : ∃ (c : CoreNo) (i : AwlIn) (s : State), s.Fetches c.val 0x0E i ∧ (szOf i = 3 ∨ 4 < modOf i) :=
  ⟨0, awlIn 0 2 5 0, holding 0x0E (awlIn 0 2 5 0) awlReady, ⟨by decide, by decide, by decide⟩, by decide⟩

set_option maxRecDepth 20000 in
theorem witness_AwlIllegalForms_3_xor : ∃ (c : CoreNo) (i : AwlIn) (s : State), s.Fetches c.val 0x0F i ∧ (szOf i = 3 ∨ 4 < modOf i) :=
  ⟨0, awlIn 0 2 5 0, holding 0x0F (awlIn 0 2 5 0) awlReady, ⟨by decide, by decide, by decide⟩, by decide⟩

set_option maxRecDepth 20000 in
theorem witness_AwlIllegalForms_3_shl : ∃ (c : CoreNo) (i : AwlIn) (s : State), s.Fetches c.val 0x10 i ∧ (szOf i = 3 ∨ 4 < modOf i) :=
  ⟨0, awlIn 0 2 5 0, holding 0x10 (awlIn 0 2 5 0) awlReady, ⟨by decide, by decide, by decide⟩, by decide⟩

set_option maxRecDepth 20000 in
theorem witness_AwlIllegalForms_3_shr : ∃ (c : CoreNo) (i : AwlIn) (s : State), s.Fetches c.val 0x11 i ∧ (szOf i = 3 ∨ 4 < modOf i) :=
  ⟨0, awlIn 0 2 5 0, holding 0x11 (awlIn 0 2 5 0) awlReady, ⟨by decide, by decide, by decide⟩, by decide⟩

set_option maxRecDepth 20000 in
theorem witness_AwlIllegalForms_3_asr : ∃ (c : CoreNo) (i : AwlIn) (s : State), s.Fetches c.val 0x12 i ∧ (szOf i = 3 ∨ 4 < modOf i) :=
  ⟨0, awlIn 0 2 5 0, holding 0x12 (awlIn 0 2 5 0) awlReady, ⟨by decide, by decide, by decide⟩, by decide⟩

set_option maxRecDepth 20000 in
theorem witness_AwlIllegalForms_3_rol : ∃ (c : CoreNo) (i : AwlIn) (s : State), s.Fetches c.val 0x13 i ∧ (szOf i = 3 ∨ 4 < modOf i) :=
  ⟨0, awlIn 0 2 5 0, holding 0x13 (awlIn 0 2 5 0) awlReady, ⟨by decide, by decide, by decide⟩, by decide⟩

set_option maxRecDepth 20000 in
theorem witness_AwlIllegalForms_3_tst : ∃ (c : CoreNo) (i : AwlIn) (s : State), s.Fetches c.val 0x14 i ∧ (szOf i = 3 ∨ 4 < modOf i) :=
  ⟨0, awlIn 0 2 5 0, holding 0x14 (awlIn 0 2 5 0) awlReady, ⟨by decide, by decide, by decide⟩, by decide⟩

set_option maxRecDepth 20000 in
theorem witness_AwlIllegalForms_3_mul : ∃ (c : CoreNo) (i : AwlIn) (s : State), s.Fetches c.val 0x16 i ∧ (szOf i = 3 ∨ 4 < modOf i) :=
  ⟨0, awlIn 0 2 5 0, holding 0x16 (awlIn 0 2 5 0) awlReady, ⟨by decide, by decide, by decide⟩, by decide⟩

set_option maxRecDepth 20000 in
theorem witness_AwlIllegalForms_3_mulh : ∃ (c : CoreNo) (i : AwlIn) (s : State), s.Fetches c.val 0x17 i ∧ (szOf i = 3 ∨ 4 < modOf i) :=
  ⟨0, awlIn 0 2 5 0, holding 0x17 (awlIn 0 2 5 0) awlReady, ⟨by decide, by decide, by decide⟩, by decide⟩

set_option maxRecDepth 20000 in
theorem witness_AwlIllegalForms_3_divu : ∃ (c : CoreNo) (i : AwlIn) (s : State), s.Fetches c.val 0x1B i ∧ (szOf i = 3 ∨ 4 < modOf i) :=
  ⟨0, awlIn 0 2 5 0, holding 0x1B (awlIn 0 2 5 0) awlReady, ⟨by decide, by decide, by decide⟩, by decide⟩

set_option maxRecDepth 20000 in
theorem witness_AwlIllegalForms_3_divs : ∃ (c : CoreNo) (i : AwlIn) (s : State), s.Fetches c.val 0x1C i ∧ (szOf i = 3 ∨ 4 < modOf i) :=
  ⟨0, awlIn 0 2 5 0, holding 0x1C (awlIn 0 2 5 0) awlReady, ⟨by decide, by decide, by decide⟩, by decide⟩


set_option maxRecDepth 20000 in
theorem witness_AwlIllegalForms_4 : ∃ (c : CoreNo) (i : AwlIn) (s : State), s.Fetches c.val 0x03 i ∧ (amOf i = 0 ∨ szOf
      i = 3 ∨ 4 < modOf i) :=
⟨0, awlIn 0 2 0 0, holding 0x03 (awlIn 0 2 0 0) awlReady, ⟨by decide, by decide, by decide⟩, by decide⟩

set_option maxRecDepth 20000 in
theorem witness_AwlIllegalForms_5 : ∃ (c : CoreNo) (i : AwlIn) (s : State), s.Fetches c.val 0x04 i ∧ (szOf i < 2 ∨ (szOf
      i = 3 ∧ amOf i = 0) ∨ modOf i ≠ 0) :=
⟨0, awlIn 0 3 0 0, holding 0x04 (awlIn 0 3 0 0) awlReady, ⟨by decide, by decide, by decide⟩, by decide⟩

set_option maxRecDepth 20000 in
theorem witness_AwlIllegalForms_6 : ∃ (c : CoreNo) (i : AwlIn) (s : State), s.Fetches c.val 0x05 i ∧ (amOf i = 0 ∨ szOf
      i < 2 ∨ modOf i ≠ 0) :=
⟨0, awlIn 0 2 0 0, holding 0x05 (awlIn 0 2 0 0) awlReady, ⟨by decide, by decide, by decide⟩, by decide⟩

set_option maxRecDepth 20000 in
theorem witness_AwlIllegalForms_7 : ∃ (c : CoreNo) (i : AwlIn) (s : State), s.Fetches c.val 0x06 i ∧ (amOf i ≠ 0 ∨ szOf
      i ≠ 2 ∨ 4 < modOf i ∨ 4 < d16Of i) :=
⟨0, awlIn 0 2 0 5, holding 0x06 (awlIn 0 2 0 5) awlReady, ⟨by decide, by decide, by decide⟩, by decide⟩

set_option maxRecDepth 20000 in
theorem witness_AwlIllegalForms_8 : ∃ (c : CoreNo) (i : AwlIn) (s : State), s.Fetches c.val 0x07 i ∧ (amOf i ≠ 0 ∨ szOf
      i ≠ 2 ∨ 4 < modOf i) :=
⟨0, awlIn 0 1 0 5, holding 0x07 (awlIn 0 1 0 5) awlReady, ⟨by decide, by decide, by decide⟩, by decide⟩

set_option maxRecDepth 20000 in
theorem witness_AwlIllegalForms_9 : ∃ (c : CoreNo) (i : AwlIn) (s : State), s.Fetches c.val 0x15 i ∧ (amOf i = 0 ∨ szOf
      i ≠ 2 ∨ 4 < modOf i) :=
⟨0, awlIn 0 2 0 5, holding 0x15 (awlIn 0 2 0 5) awlReady, ⟨by decide, by decide, by decide⟩, by decide⟩

set_option maxRecDepth 20000 in
theorem witness_AwlIllegalForms_10 : ∃ (c : CoreNo) (i : AwlIn) (s : State), s.Fetches c.val 0x18 i ∧ (amOf i ≠ 0 ∨ 1 <
      szOf i ∨ 4 < modOf i ∨ i.d16 ≠ 0) :=
⟨0, awlIn 0 2 0 0, holding 0x18 (awlIn 0 2 0 0) awlReady, ⟨by decide, by decide, by decide⟩, by decide⟩

set_option maxRecDepth 20000 in
theorem witness_AwlIllegalForms_11_push : ∃ (c : CoreNo) (i : AwlIn) (s : State), s.Fetches c.val 0x19 i ∧ (amOf i ≠ 0 ∨ szOf i ≠ 2 ∨ 4 < modOf i ∨ i.d16 ≠ 0) :=
  ⟨0, awlIn 0 2 0 5, holding 0x19 (awlIn 0 2 0 5) awlReady, ⟨by decide, by decide, by decide⟩, by decide⟩

set_option maxRecDepth 20000 in
theorem witness_AwlIllegalForms_11_pop : ∃ (c : CoreNo) (i : AwlIn) (s : State), s.Fetches c.val 0x1A i ∧ (amOf i ≠ 0 ∨ szOf i ≠ 2 ∨ 4 < modOf i ∨ i.d16 ≠ 0) :=
  ⟨0, awlIn 0 2 0 5, holding 0x1A (awlIn 0 2 0 5) awlReady, ⟨by decide, by decide, by decide⟩, by decide⟩


set_option maxRecDepth 20000 in
theorem witness_AwlIllegalForms_12_mpy : ∃ (c : CoreNo) (i : AwlIn) (s : State), s.Fetches c.val 0x20 i ∧ (szOf i ≠ 2 ∨ 1 < modOf i) :=
  ⟨0, awlIn 0 2 2 5, holding 0x20 (awlIn 0 2 2 5) awlReady, ⟨by decide, by decide, by decide⟩, by decide⟩

set_option maxRecDepth 20000 in
theorem witness_AwlIllegalForms_12_mac : ∃ (c : CoreNo) (i : AwlIn) (s : State), s.Fetches c.val 0x21 i ∧ (szOf i ≠ 2 ∨ 1 < modOf i) :=
  ⟨0, awlIn 0 2 2 5, holding 0x21 (awlIn 0 2 2 5) awlReady, ⟨by decide, by decide, by decide⟩, by decide⟩

set_option maxRecDepth 20000 in
theorem witness_AwlIllegalForms_12_msu : ∃ (c : CoreNo) (i : AwlIn) (s : State), s.Fetches c.val 0x22 i ∧ (szOf i ≠ 2 ∨ 1 < modOf i) :=
  ⟨0, awlIn 0 2 2 5, holding 0x22 (awlIn 0 2 2 5) awlReady, ⟨by decide, by decide, by decide⟩, by decide⟩


set_option maxRecDepth 20000 in
theorem witness_AwlIllegalForms_13_adda : ∃ (c : CoreNo) (i : AwlIn) (s : State), s.Fetches c.val 0x23 i ∧ (szOf i ≠ 2 ∨ modOf i ≠ 0) :=
  ⟨0, awlIn 0 2 1 5, holding 0x23 (awlIn 0 2 1 5) awlReady, ⟨by decide, by decide, by decide⟩, by decide⟩

set_option maxRecDepth 20000 in
theorem witness_AwlIllegalForms_13_suba : ∃ (c : CoreNo) (i : AwlIn) (s : State), s.Fetches c.val 0x24 i ∧ (szOf i ≠ 2 ∨ modOf i ≠ 0) :=
  ⟨0, awlIn 0 2 1 5, holding 0x24 (awlIn 0 2 1 5) awlReady, ⟨by decide, by decide, by decide⟩, by decide⟩

set_option maxRecDepth 20000 in
theorem witness_AwlIllegalForms_13_asla : ∃ (c : CoreNo) (i : AwlIn) (s : State), s.Fetches c.val 0x2C i ∧ (szOf i ≠ 2 ∨ modOf i ≠ 0) :=
  ⟨0, awlIn 0 2 1 5, holding 0x2C (awlIn 0 2 1 5) awlReady, ⟨by decide, by decide, by decide⟩, by decide⟩

set_option maxRecDepth 20000 in
theorem witness_AwlIllegalForms_13_asra : ∃ (c : CoreNo) (i : AwlIn) (s : State), s.Fetches c.val 0x2D i ∧ (szOf i ≠ 2 ∨ modOf i ≠ 0) :=
  ⟨0, awlIn 0 2 1 5, holding 0x2D (awlIn 0 2 1 5) awlReady, ⟨by decide, by decide, by decide⟩, by decide⟩

set_option maxRecDepth 20000 in
theorem witness_AwlIllegalForms_13_cmpa : ∃ (c : CoreNo) (i : AwlIn) (s : State), s.Fetches c.val 0x2F i ∧ (szOf i ≠ 2 ∨ modOf i ≠ 0) :=
  ⟨0, awlIn 0 2 1 5, holding 0x2F (awlIn 0 2 1 5) awlReady, ⟨by decide, by decide, by decide⟩, by decide⟩


set_option maxRecDepth 20000 in
theorem witness_AwlIllegalForms_14 : ∃ (c : CoreNo) (i : AwlIn) (s : State), s.Fetches c.val 0x25 i ∧ (amOf i ≠ 0 ∨ szOf
      i ≠ 2 ∨ modOf i ≠ 0 ∨ 31 < d16Of i) :=
⟨0, awlIn 0 2 0 32, holding 0x25 (awlIn 0 2 0 32) awlReady, ⟨by decide, by decide, by decide⟩, by decide⟩

set_option maxRecDepth 20000 in
theorem witness_AwlIllegalForms_15 : ∃ (c : CoreNo) (i : AwlIn) (s : State), s.Fetches c.val 0x27 i ∧ (amOf i ≠ 0 ∨ szOf
      i ≠ 0 ∨ 1 < modOf i ∨ i.d16 ≠ 0) :=
⟨0, awlIn 0 0 2 0, holding 0x27 (awlIn 0 0 2 0) awlReady, ⟨by decide, by decide, by decide⟩, by decide⟩

set_option maxRecDepth 20000 in
theorem witness_AwlIllegalForms_16 : ∃ (c : CoreNo) (i : AwlIn) (s : State), s.Fetches c.val 0x2B i ∧ (szOf i = 3 ∨
      modOf i ≠ 0) :=
⟨0, awlIn 0 3 0 0, holding 0x2B (awlIn 0 3 0 0) awlReady, ⟨by decide, by decide, by decide⟩, by decide⟩

set_option maxRecDepth 20000 in
theorem witness_AwlIllegalForms_17 : ∃ (c : CoreNo) (i : AwlIn) (s : State), s.Fetches c.val 0x2E i ∧ (amOf i ≠ 0 ∨ szOf
      i ≠ 0 ∨ 4 < modOf i ∨ i.d16 ≠ 0) :=
⟨0, awlIn 0 0 7 0, holding 0x2E (awlIn 0 0 7 0) awlReady, ⟨by decide, by decide, by decide⟩, by decide⟩

set_option maxRecDepth 20000 in
theorem witness_AwlIllegalForms_18_bra : ∃ (c : CoreNo) (i : AwlIn) (s : State), s.Fetches c.val 0x40 i ∧ (amOf i ∉ [1, 2, 3, 7] ∨ szOf i ≠ 2 ∨ modOf i ≠ 0) :=
  ⟨0, awlIn 0 2 0 0, holding 0x40 (awlIn 0 2 0 0) awlReady, ⟨by decide, by decide, by decide⟩, by decide⟩

set_option maxRecDepth 20000 in
theorem witness_AwlIllegalForms_18_beq : ∃ (c : CoreNo) (i : AwlIn) (s : State), s.Fetches c.val 0x41 i ∧ (amOf i ∉ [1, 2, 3, 7] ∨ szOf i ≠ 2 ∨ modOf i ≠ 0) :=
  ⟨0, awlIn 0 2 0 0, holding 0x41 (awlIn 0 2 0 0) awlReady, ⟨by decide, by decide, by decide⟩, by decide⟩

set_option maxRecDepth 20000 in
theorem witness_AwlIllegalForms_18_bne : ∃ (c : CoreNo) (i : AwlIn) (s : State), s.Fetches c.val 0x42 i ∧ (amOf i ∉ [1, 2, 3, 7] ∨ szOf i ≠ 2 ∨ modOf i ≠ 0) :=
  ⟨0, awlIn 0 2 0 0, holding 0x42 (awlIn 0 2 0 0) awlReady, ⟨by decide, by decide, by decide⟩, by decide⟩

set_option maxRecDepth 20000 in
theorem witness_AwlIllegalForms_18_blt : ∃ (c : CoreNo) (i : AwlIn) (s : State), s.Fetches c.val 0x43 i ∧ (amOf i ∉ [1, 2, 3, 7] ∨ szOf i ≠ 2 ∨ modOf i ≠ 0) :=
  ⟨0, awlIn 0 2 0 0, holding 0x43 (awlIn 0 2 0 0) awlReady, ⟨by decide, by decide, by decide⟩, by decide⟩

set_option maxRecDepth 20000 in
theorem witness_AwlIllegalForms_18_bge : ∃ (c : CoreNo) (i : AwlIn) (s : State), s.Fetches c.val 0x44 i ∧ (amOf i ∉ [1, 2, 3, 7] ∨ szOf i ≠ 2 ∨ modOf i ≠ 0) :=
  ⟨0, awlIn 0 2 0 0, holding 0x44 (awlIn 0 2 0 0) awlReady, ⟨by decide, by decide, by decide⟩, by decide⟩

set_option maxRecDepth 20000 in
theorem witness_AwlIllegalForms_18_bgt : ∃ (c : CoreNo) (i : AwlIn) (s : State), s.Fetches c.val 0x45 i ∧ (amOf i ∉ [1, 2, 3, 7] ∨ szOf i ≠ 2 ∨ modOf i ≠ 0) :=
  ⟨0, awlIn 0 2 0 0, holding 0x45 (awlIn 0 2 0 0) awlReady, ⟨by decide, by decide, by decide⟩, by decide⟩

set_option maxRecDepth 20000 in
theorem witness_AwlIllegalForms_18_ble : ∃ (c : CoreNo) (i : AwlIn) (s : State), s.Fetches c.val 0x46 i ∧ (amOf i ∉ [1, 2, 3, 7] ∨ szOf i ≠ 2 ∨ modOf i ≠ 0) :=
  ⟨0, awlIn 0 2 0 0, holding 0x46 (awlIn 0 2 0 0) awlReady, ⟨by decide, by decide, by decide⟩, by decide⟩

set_option maxRecDepth 20000 in
theorem witness_AwlIllegalForms_18_blo : ∃ (c : CoreNo) (i : AwlIn) (s : State), s.Fetches c.val 0x47 i ∧ (amOf i ∉ [1, 2, 3, 7] ∨ szOf i ≠ 2 ∨ modOf i ≠ 0) :=
  ⟨0, awlIn 0 2 0 0, holding 0x47 (awlIn 0 2 0 0) awlReady, ⟨by decide, by decide, by decide⟩, by decide⟩

set_option maxRecDepth 20000 in
theorem witness_AwlIllegalForms_18_bhs : ∃ (c : CoreNo) (i : AwlIn) (s : State), s.Fetches c.val 0x48 i ∧ (amOf i ∉ [1, 2, 3, 7] ∨ szOf i ≠ 2 ∨ modOf i ≠ 0) :=
  ⟨0, awlIn 0 2 0 0, holding 0x48 (awlIn 0 2 0 0) awlReady, ⟨by decide, by decide, by decide⟩, by decide⟩

set_option maxRecDepth 20000 in
theorem witness_AwlIllegalForms_18_bhi : ∃ (c : CoreNo) (i : AwlIn) (s : State), s.Fetches c.val 0x49 i ∧ (amOf i ∉ [1, 2, 3, 7] ∨ szOf i ≠ 2 ∨ modOf i ≠ 0) :=
  ⟨0, awlIn 0 2 0 0, holding 0x49 (awlIn 0 2 0 0) awlReady, ⟨by decide, by decide, by decide⟩, by decide⟩

set_option maxRecDepth 20000 in
theorem witness_AwlIllegalForms_18_bls : ∃ (c : CoreNo) (i : AwlIn) (s : State), s.Fetches c.val 0x4A i ∧ (amOf i ∉ [1, 2, 3, 7] ∨ szOf i ≠ 2 ∨ modOf i ≠ 0) :=
  ⟨0, awlIn 0 2 0 0, holding 0x4A (awlIn 0 2 0 0) awlReady, ⟨by decide, by decide, by decide⟩, by decide⟩

set_option maxRecDepth 20000 in
theorem witness_AwlIllegalForms_18_bmi : ∃ (c : CoreNo) (i : AwlIn) (s : State), s.Fetches c.val 0x4B i ∧ (amOf i ∉ [1, 2, 3, 7] ∨ szOf i ≠ 2 ∨ modOf i ≠ 0) :=
  ⟨0, awlIn 0 2 0 0, holding 0x4B (awlIn 0 2 0 0) awlReady, ⟨by decide, by decide, by decide⟩, by decide⟩

set_option maxRecDepth 20000 in
theorem witness_AwlIllegalForms_18_bpl : ∃ (c : CoreNo) (i : AwlIn) (s : State), s.Fetches c.val 0x4C i ∧ (amOf i ∉ [1, 2, 3, 7] ∨ szOf i ≠ 2 ∨ modOf i ≠ 0) :=
  ⟨0, awlIn 0 2 0 0, holding 0x4C (awlIn 0 2 0 0) awlReady, ⟨by decide, by decide, by decide⟩, by decide⟩

set_option maxRecDepth 20000 in
theorem witness_AwlIllegalForms_18_bvs : ∃ (c : CoreNo) (i : AwlIn) (s : State), s.Fetches c.val 0x4D i ∧ (amOf i ∉ [1, 2, 3, 7] ∨ szOf i ≠ 2 ∨ modOf i ≠ 0) :=
  ⟨0, awlIn 0 2 0 0, holding 0x4D (awlIn 0 2 0 0) awlReady, ⟨by decide, by decide, by decide⟩, by decide⟩

set_option maxRecDepth 20000 in
theorem witness_AwlIllegalForms_18_bvc : ∃ (c : CoreNo) (i : AwlIn) (s : State), s.Fetches c.val 0x4E i ∧ (amOf i ∉ [1, 2, 3, 7] ∨ szOf i ≠ 2 ∨ modOf i ≠ 0) :=
  ⟨0, awlIn 0 2 0 0, holding 0x4E (awlIn 0 2 0 0) awlReady, ⟨by decide, by decide, by decide⟩, by decide⟩

set_option maxRecDepth 20000 in
theorem witness_AwlIllegalForms_18_bsv : ∃ (c : CoreNo) (i : AwlIn) (s : State), s.Fetches c.val 0x4F i ∧ (amOf i ∉ [1, 2, 3, 7] ∨ szOf i ≠ 2 ∨ modOf i ≠ 0) :=
  ⟨0, awlIn 0 2 0 0, holding 0x4F (awlIn 0 2 0 0) awlReady, ⟨by decide, by decide, by decide⟩, by decide⟩

set_option maxRecDepth 20000 in
theorem witness_AwlIllegalForms_18_call : ∃ (c : CoreNo) (i : AwlIn) (s : State), s.Fetches c.val 0x50 i ∧ (amOf i ∉ [1, 2, 3, 7] ∨ szOf i ≠ 2 ∨ modOf i ≠ 0) :=
  ⟨0, awlIn 0 2 0 0, holding 0x50 (awlIn 0 2 0 0) awlReady, ⟨by decide, by decide, by decide⟩, by decide⟩


set_option maxRecDepth 20000 in
theorem witness_AwlIllegalForms_19 : ∃ (c : CoreNo) (i : AwlIn) (s : State), s.Fetches c.val 0x53 i ∧ (amOf i ≠ 0 ∨ szOf
      i ≠ 2 ∨ modOf i ≠ 0 ∨ 255 < d16Of i) :=
⟨0, awlIn 0 2 0 256, holding 0x53 (awlIn 0 2 0 256) awlReady, ⟨by decide, by decide, by decide⟩, by decide⟩

set_option maxRecDepth 20000 in
theorem witness_AwlIllegalForms_20_tas : ∃ (c : CoreNo) (i : AwlIn) (s : State), s.Fetches c.val 0x60 i ∧ (amOf i = 0 ∨ szOf i ≠ 2 ∨ 4 < modOf i) :=
  ⟨0, awlIn 0 2 0 0, holding 0x60 (awlIn 0 2 0 0) awlReady, ⟨by decide, by decide, by decide⟩, by decide⟩

set_option maxRecDepth 20000 in
theorem witness_AwlIllegalForms_20_ldrs : ∃ (c : CoreNo) (i : AwlIn) (s : State), s.Fetches c.val 0x61 i ∧ (amOf i = 0 ∨ szOf i ≠ 2 ∨ 4 < modOf i) :=
  ⟨0, awlIn 0 2 0 0, holding 0x61 (awlIn 0 2 0 0) awlReady, ⟨by decide, by decide, by decide⟩, by decide⟩

set_option maxRecDepth 20000 in
theorem witness_AwlIllegalForms_20_stcd : ∃ (c : CoreNo) (i : AwlIn) (s : State), s.Fetches c.val 0x62 i ∧ (amOf i = 0 ∨ szOf i ≠ 2 ∨ 4 < modOf i) :=
  ⟨0, awlIn 0 2 0 0, holding 0x62 (awlIn 0 2 0 0) awlReady, ⟨by decide, by decide, by decide⟩, by decide⟩


set_option maxRecDepth 20000 in
theorem witness_AwlIllegalForms_21_mfs : ∃ (c : CoreNo) (i : AwlIn) (s : State), s.Fetches c.val 0x70 i ∧ (amOf i ≠ 0 ∨ szOf i ≠ 2 ∨ 4 < modOf i ∨ 255 < d16Of i ∨ sysRights (d16Of i) = none) :=
  ⟨0, awlIn 0 2 0 256, holding 0x70 (awlIn 0 2 0 256) awlReady, ⟨by decide, by decide, by decide⟩, by decide⟩

set_option maxRecDepth 20000 in
theorem witness_AwlIllegalForms_21_mts : ∃ (c : CoreNo) (i : AwlIn) (s : State), s.Fetches c.val 0x71 i ∧ (amOf i ≠ 0 ∨ szOf i ≠ 2 ∨ 4 < modOf i ∨ 255 < d16Of i ∨ sysRights (d16Of i) = none) :=
  ⟨0, awlIn 0 2 0 256, holding 0x71 (awlIn 0 2 0 256) awlReady, ⟨by decide, by decide, by decide⟩, by decide⟩


set_option maxRecDepth 20000 in
theorem witness_RegisterNames_3 : ∃ (c : CoreNo) (i : AwlIn) (s : State), s.Fetches c.val 0x06 i ∧ amOf i = 0 ∧ szOf i =
      2 ∧ modOf i ≤ 4 ∧ d16Of i ≤ 4 :=
⟨0, awlIn 0 2 0 1, holding 0x06 (awlIn 0 2 0 1) awlReady, ⟨by decide, by decide, by decide⟩, by decide, by decide, by
      decide, by decide⟩

set_option maxRecDepth 20000 in
theorem witness_RegisterNames_4 : ∃ (c : CoreNo) (i : AwlIn) (s : State), s.Fetches c.val 0x06 i ∧ (4 < modOf i ∨ 4 <
      d16Of i) :=
⟨0, awlIn 0 2 5 1, holding 0x06 (awlIn 0 2 5 1) awlReady, ⟨by decide, by decide, by decide⟩, by decide⟩

theorem witness_AwlOperands_2 : ∃ (c : CoreNo) (i : AwlIn) (zi zm : Bool) (s : State), amOf i = 0 :=
⟨0, awlIn 0 2 0 5, true, true, awlReady, by decide⟩

theorem witness_AwlOperands_3 : ∃ (c : CoreNo) (i : AwlIn) (zi zm : Bool) (s : State), amOf i ≠ 0 ∧ szOf i ≤ 2 ∧ 0x80000
      ≤ ((s.core c.val).ea i).toNat ∧ ((s.core c.val).ea i).toNat + 2 ^ szOf i ≤ 0xA0000 ∧ s.dataCheck c.val (s.core
      c.val).level ((s.core c.val).ea i).toNat (2 ^ szOf i) 0 (decide (amOf i = 4)) false = none ∧ i.accessErr = none :=
⟨0, awlIn 4 2 0 0, true, true, awlReady, by decide, by decide, by decide, by decide, by decide, rfl⟩

theorem witness_ExceptionEntry_1 : ∃ (c : CoreNo) (e : Exc) (pc : Word) (env : EntryEnv) (l : Level) (s : State), e.mpu
      = none ∧ e.ecc = none ∧ e.slot ≠ 10 ∧ takingLevel e.slot (s.core c.val).level = l ∧ (s.core c.val).inReset = false
      ∧ s.frameCheck c.val l = none ∧ env.frameErr = false ∧ (s.core c.val).wb = [] ∧ 0x80020 ≤ ((s.core c.val).sp
      l).toNat ∧ ((s.core c.val).sp l).toNat ≤ 0xA0000 ∧ s.Inv :=
⟨0, { slot := 4 }, 0x40100, { frameErr := false, escalationErr := false }, .machine, awlReady, rfl, rfl, by decide, by
      decide, by decide, by decide, rfl, by decide, by decide, by decide, ⟨⟨by decide, by decide⟩, by decide, by
      decide⟩⟩

set_option maxRecDepth 20000 in
theorem witness_HandleChecks_1 : ∃ (k : Keys) (h : Word) (o : Option Half) (u : Option Nat), handleCheck h ≠ checkByte
      (h.toNat % 16777216) k.salt :=
⟨{}, 1, none, none, by decide⟩

theorem witness_HandleChecks_2 : ∃ (k : Keys) (h : Word) (o : Option Half) (u : Option Nat), k.present (h.toNat % 32768)
      = none :=
⟨{}, 1, none, none, by decide⟩

set_option maxRecDepth 20000 in
theorem witness_HandleChecks_3 : ∃ (k : Keys) (h : Word) (o : Option Half) (u : Option Nat) (r : KeyRun), handleCheck h
      = checkByte (h.toNat % 16777216) k.salt ∧ k.present (h.toNat % 32768) = some r :=
⟨keysWith (runFor 0xFFFF 0), handle64, none, none, runFor 0xFFFF 0, by decide, by decide⟩

theorem witness_DoorbellRule_2 : ∃ (f : Fin 64) (ring : Fin 16384) (v : Long) (s : State), (Bank.get {} s.pcie.fns
      f.val).flr = false ∧ s.boot.shelfDown = false ∧ s.rings.pageFn (ring.val / 512) = some (BitVec.ofNat 6 f.val) ∧
      (s.rings.get ring.val).fn.toNat = f.val ∧ (s.rings.get ring.val).state = 1 ∧ (s.rings.get ring.val).fetchErr =
      false :=
⟨3, 5, 4, ringReady, by decide, by decide, by decide, by decide, by decide, by decide⟩

theorem witness_DoorbellRule_3 : ∃ (g : Ring) (v : Long), g.accepts v = false :=
⟨{}, 5, by decide⟩

theorem witness_RefusedCommands_1 : ∃ (c : Call) (run : Call → State → State) (s : State), s.takes c.hdr.fn.val = false
      :=
⟨callSessionClose (hdrFor 0 0), fun _ u => u, State.reset, by decide⟩

theorem witness_RefusedCommands_2 : ∃ (c : Call) (run : Call → State → State) (n : Nat) (s : State), s.takes
      c.hdr.fn.val = true ∧ refusalCode s c.hdr = some n ∧ n ≠ 3 :=
⟨callSessionClose { hdrFor 0 0 with magic := 0 }, fun _ u => u, 4, cmdReady, by decide⟩

theorem witness_RefusedCommands_3 : ∃ (c : Call) (run : Call → State → State) (e : Half × Word) (s : State), s.takes
      c.hdr.fn.val = true ∧ refusalCode s c.hdr = none ∧ headErr s c.hdr = some e :=
⟨callSessionClose { hdrFor 8 0 with minor := 9 }, fun _ u => u, formatAt 3, cmdReady, by decide⟩

theorem witness_RefusedCommands_4 : ∃ (c : Call) (run : Call → State → State) (s : State), s.takes c.hdr.fn.val = true ∧
      refusalCode s c.hdr = none ∧ headErr s c.hdr = none ∧ c.phaseOk s = false :=
⟨{ callSessionClose (hdrFor 0 0) with inStart := false, inService := false, inRecovery := false }, fun _ u => u,
      cmdReady, by decide⟩

theorem witness_RefusedCommands_5 : ∃ (c : Call) (run : Call → State → State) (e : Half × Word) (s : State), s.takes
      c.hdr.fn.val = true ∧ refusalCode s c.hdr = none ∧ headErr s c.hdr = none ∧ c.phaseOk s = true ∧ c.roleErr s =
      some e :=
⟨callSessionClose (hdrFor 0 0), fun _ u => u, (Status.badOpcode, 2), cmdReady, by decide⟩

set_option maxRecDepth 20000 in
theorem witness_RefusedCommands_6 : ∃ (c : Call) (run : Call → State → State) (s : State), s.takes c.hdr.fn.val = true ∧
      refusalCode s c.hdr = none ∧ headErr s c.hdr = none ∧ c.phaseOk s = true ∧ c.roleErr s = none ∧ 1024 ≤
      s.fw.waiting.length :=
⟨callSessionClose (hdrFor 0 0x1005), fun _ u => u, cmdReady.withFw fun f =>
      { f with waiting := List.replicate 1024 { waitOrder with hdr := { hdrFor 0 0x1005 with fn := 1 } } }, by decide⟩

theorem witness_RefusedCommands_7 : ∃ (c : Call) (run : Call → State → State) (s : State), s.takes c.hdr.fn.val = true ∧
      refusalCode s c.hdr = none ∧ headErr s c.hdr = none ∧ c.phaseOk s = true ∧ c.roleErr s = none ∧
      s.fw.waiting.length < 1024 ∧ c.blocked s = true :=
⟨callSessionClose (hdrFor 0 0x1005), fun _ u => u, cmdWaiting waitOrder, by decide⟩

theorem witness_RefusedCommands_8 : ∃ (c : Call) (run : Call → State → State) (e : Half × Word) (s : State), s.takes
      c.hdr.fn.val = true ∧ refusalCode s c.hdr = none ∧ headErr s c.hdr = none ∧ c.phaseOk s = true ∧ c.roleErr s =
      none ∧ s.fw.waiting.length < 1024 ∧ c.blocked s = false ∧ c.bodyErr = some e ∧ c.hdr.reqLen.toNat ≤ 64 +
      c.hdr.bodyRead :=
⟨callSessionClose (hdrFor 8 0x1005), fun _ u => u, formatAt 12, cmdReady, by decide⟩

theorem witness_RefusedCommands_9 : ∃ (c : Call) (run : Call → State → State) (s : State), s.takes c.hdr.fn.val = true ∧
      refusalCode s c.hdr = none ∧ headErr s c.hdr = none ∧ c.phaseOk s = true ∧ c.roleErr s = none ∧
      s.fw.waiting.length < 1024 ∧ c.blocked s = false ∧ 64 + c.hdr.bodyRead < c.hdr.reqLen.toNat :=
⟨callSessionClose { hdrFor 8 0x1005 with bodyRead := 3 }, fun _ u => u, cmdReady, by decide⟩

theorem witness_RefusedCommands_10 : ∃ (c : Call) (run : Call → State → State) (q : Word × BitVec 384) (s : State),
      s.takes c.hdr.fn.val = true ∧ refusalCode s c.hdr = none ∧ headErr s c.hdr = none ∧ c.phaseOk s = true ∧ c.roleErr
      s = none ∧ s.fw.waiting.length < 1024 ∧ c.blocked s = false ∧ c.bodyErr = none ∧ c.quorum = some q ∧ s.fw.ticketOk
      c.opc q.1 q.2 = false :=
⟨{ callSessionClose (hdrFor 0 0x1005) with quorum := some (9, 0) }, fun _ u => u, (9, 0), cmdReady, by decide⟩

set_option maxRecDepth 20000 in
theorem witness_FloorRaiseRefused_1 : ∃ (h : CmdHdr) (qid : Word) (which value : Byte) (rsv : Half) (c : Call) (s :
      State), callFloorRaise h qid which value rsv = c ∧ c.Accepted s ∧ (64 < value.toNat ∨ (which = 0 ∧
      s.boot.fwVer.toNat < value.toNat) ∨ (which = 1 ∧ s.boot.cobVer.toNat < value.toNat)) :=
⟨hdrFor 8 0x1005, 9, 2, 65, 0, callFloorRaise (hdrFor 8 0x1005) 9 2 65 0, floorState 65, rfl, ⟨by decide, by decide, by
      decide, by decide, by decide, by decide, by decide, by decide, ticketFor_ok rfl rfl⟩, by decide⟩

set_option maxRecDepth 20000 in
theorem witness_SessionNeedsEpoch_1 : ∃ (h : CmdHdr) (rsv : Byte) (tenant : Half) (seq sigLen : Word) (sig : List Byte)
      (c : Call) (s : State), callSessionOpen h 2 rsv tenant seq sigLen sig s = c ∧ c.Accepted s ∧ s.insole.trusted =
      false :=
⟨hdrFor 16 0, 0, 1, 0, 0, [], callSessionOpen (hdrFor 16 0) 2 0 1 0 0 [] (cmdReady.withInsole fun i =>
      { i with trusted := false }), cmdReady.withInsole fun i => { i with trusted := false }, rfl, by decide, rfl⟩

set_option maxRecDepth 20000 in
theorem witness_QuorumSingle_1 : ∃ (h : CmdHdr) (purpose window : Half) (rsv : Word) (digest : BitVec 384) (b :
      Membership) (q : Quorum) (c : Call) (s : State), callQuorumBegin h purpose window rsv digest = c ∧ c.Accepted s ∧
      s.fw.membership = some b ∧ s.fw.quorum = some q :=
⟨hdrFor 56 0x1005, 0x0A01, 60, 0, 0, membershipOf 7, quorumOf 0x0A01 0 [1] false, callQuorumBegin (hdrFor 56 0x1005)
      0x0A01 60 0 0, quorumOpen [1], rfl, by decide, rfl, rfl⟩

theorem witness_CompletePins_1 : ∃ (s : State), s.pins.pwrgd = true :=
⟨State.reset.withPins fun p => { p with pwrgd := true }, by decide⟩

theorem witness_CompletePins_3 : ∃ (s : State), s.pins.perst = false :=
⟨State.reset.withPins fun p => { p with perst := false }, by decide⟩

theorem witness_CompletePins_5 : ∃ (s : State), s.pins.pwrgd = true ∧ s.pins.perst = false ∧ s.boot.perstLate = false :=
⟨State.reset.withPins fun p => { p with pwrgd := true, perst := false }, by decide⟩

theorem witness_CompletePins_6 : ∃ (s : State), s.pins.pwrgd = true ∧ s.boot.perstLate = true ∧ s.bootReady = true :=
⟨(State.reset.withBoot fun b =>
      { b with inReset := false, rngReady := true, pufOk := true, perstLate := true }).withPins fun p =>
      { p with pwrgd := true, perst := false }, by decide⟩

theorem witness_CompleteBoot_1 : ∃ (s : State), s.boot.inReset = true ∧ s.pins.pwrgd = true ∧ s.pins.perst = false ∧
      s.log.owed = 0 :=
⟨(State.reset.withLog fun l => { l with owed := 0 }).withPins fun p => { p with pwrgd := true, perst := false }, by
      decide⟩

theorem witness_CompleteBoot_2 : ∃ (katM katK : Bool) (s : State), s.boot.inReset = false ∧ s.rng.ready = false ∧
      (s.rng.tests katM katK).kAvail = true ∧ s.rng.audit = false :=
⟨true, true, State.reset.withBoot fun b => { b with inReset := false }, by decide⟩

theorem witness_CompleteBoot_3 : ∃ (s : State), s.boot.inReset = false ∧ s.boot.pufOk = false ∧ s.boot.pufAttempts < 4
      :=
⟨State.reset.withBoot fun b => { b with inReset := false }, by decide⟩

theorem witness_CompleteBoot_4 : ∃ (s : State), s.bootReady = true ∧ (s.boot.perstLate = false ∨ s.pins.linkL0 = true)
      :=
⟨(State.reset.withBoot fun b => { b with inReset := false, rngReady := true, pufOk := true }).withPins fun p =>
      { p with perst := false, lifecycle := .field }, by decide⟩

theorem witness_CompleteBoot_5 : ∃ (s : State), s.boot.inReset = false ∧ s.boot.rngReady = false ∧ s.boot.state = .init
      :=
⟨State.reset.withBoot fun b => { b with inReset := false }, by decide⟩

theorem witness_CompleteLoader_1 : ∃ (v : Word) (s : State), v.getLsbD 0 = true ∧ s.boot.state = .ready :=
⟨1, State.reset.withBoot fun b => { b with state := .ready, imgLen := 8192 }, by decide⟩

theorem witness_CompleteLoader_2 : ∃ (s : State), s.boot.state = .loading :=
⟨State.reset.withBoot fun b => { b with state := .loading }, by decide⟩

theorem witness_CompleteLoader_3 : ∃ (img : Image) (s : State), s.boot.state = .loading :=
⟨shortImage, bootReady .loading, by decide⟩

theorem witness_CompleteLoader_4 : ∃ (s : State), s.boot.state = .running ∧ s.insole.ik.isSome = true :=
⟨(bootReady .running).withInsole fun i => { i with ik := some (List.replicate 32 0) }, by decide⟩

theorem witness_CompleteMailboxes_1 : ∃ (m : MbxId) (v : Word) (s : State), (s.mbx.get (mbxKey m)).full = false :=
⟨.cmd 0, 5, State.reset, by decide⟩

theorem witness_CompleteMailboxes_2 : ∃ (m : MbxId) (v : Word) (s : State), (s.mbx.get (mbxKey m)).full = false ∧
      receiverUp s m = true :=
⟨.cmd 0, 5, commandReady, by decide⟩

theorem witness_CompleteMailboxes_3 : ∃ (m : MbxId) (s : State), (s.mbx.get (mbxKey m)).full = true :=
⟨.cmd 0, commandPosted, by decide⟩

theorem witness_CompleteMailboxes_4 : ∃ (f : Fin 64) (s : State), (s.mbx.get (64 + f.val)).full = true :=
⟨0, State.reset.withMbx fun m => { m with box := Bank.set {} 64 { full := true } m.box }, by decide⟩

theorem witness_CompleteMailboxes_7 : ∃ (m : MbxId) (r : Fin 70) (s : State), (s.mbx.get (mbxKey m)).lock = 0 :=
⟨.internal 3, 65, State.reset, by decide⟩

theorem witness_CompleteMailboxes_8 : ∃ (m : MbxId) (r : Fin 70) (s : State), (s.mbx.get (mbxKey m)).lock = requesterNo
      r ∧ requesterNo r ≠ 0 :=
⟨.internal 3, 65, State.reset.withMbx fun m => { m with box := Bank.set {} 131 { lock := 65 } m.box }, by decide⟩

theorem witness_CompleteMailboxes_9 : ∃ (f : Fin 64) (v : Word) (s : State), v.getLsbD 8 = true :=
⟨7, 0x101, State.reset, by decide⟩

theorem witness_CompleteRandom_1 : ∃ (core : Fin 16) (s : State), s.rng.audit = false ∧ s.rng.tested = true ∧
      s.rng.mAvail = true :=
⟨3, State.reset.withRng fun r => { r with tested := true }, by decide⟩

theorem witness_CompleteRandom_2 : ∃ (core : Fin 16) (s : State), s.rng.audit = false ∧ s.rng.tested = true ∧
      s.rng.mAvail = false ∧ s.rng.kAvail = true :=
⟨3, State.reset.withRng fun r => { r with tested := true, failed := 0xF }, by decide⟩

theorem witness_CompleteRandom_3 : ∃ (core : Fin 16) (s : State), s.rng.mAvail = false ∧ s.rng.kAvail = false ∧
      (s.rng.gen core.val).seeded = true :=
⟨3, State.reset.withRng fun r => { r with failed := 0xFFFFFFF, gens := [(3, { seeded := true })] }, by decide⟩

theorem witness_CompleteRandom_4 : ∃ (src : Fin 28) (run same : Nat) (s : State), healthFails src.val run same = true ∧
      ({ s.rng with failed := setBit s.rng.failed src.val true } : Rng).kAvail = s.rng.kAvail :=
⟨9, 81, 0, State.reset, by decide⟩

theorem witness_CompleteRandom_5 : ∃ (src : Fin 28) (run same : Nat) (s : State), healthFails src.val run same = true ∧
      s.rng.tested = true ∧ s.rng.kAvail = true ∧ ({ s.rng with failed := setBit s.rng.failed src.val true } :
      Rng).kAvail = false :=
⟨9, 81, 0, State.reset.withRng fun r => { r with tested := true, failed := 0xF03FC00 }, by decide⟩

theorem witness_CompleteRandom_6 : ∃ (src : Fin 28) (s : State), s.rng.failed.getLsbD src.val = true ∧ s.rng.beyond
      src.val = false :=
⟨9, State.reset.withRng fun r => { r with failed := 0x200 }, by decide⟩

theorem witness_CompleteRandom_7 : ∃ (src : Fin 28) (run same : Nat) (s : State), s.rng.retesting.getLsbD src.val = true
      ∧ healthFails src.val run same = true :=
⟨9, 81, 0, State.reset.withRng fun r => { r with failed := 0x200, retesting := 0x200 }, by decide⟩

theorem witness_CompleteRandom_8 : ∃ (src : Fin 28) (run same : Nat) (s : State), s.rng.retesting.getLsbD src.val = true
      ∧ healthFails src.val run same = false :=
⟨9, 80, 920, State.reset.withRng fun r => { r with failed := 0x200, retesting := 0x200 }, by decide⟩

theorem witness_CompleteRandom_9 : ∃ (i : Fin 32) (s : State), s.rng.ready = true ∧ s.rng.audit = false ∧ s.rng.kAvail =
      true ∧ s.rng.buffer ≠ [] ∧ (s.rng.inst i.val).seeded = false ∧ (∀ j, j < i.val → (s.rng.inst j).seeded = true) :=
⟨0, State.reset.withRng fun r => { r with ready := true, tested := true, buffer := [[]] }, by decide⟩

theorem witness_CompleteRandom_10 : ∃ (i : Fin 32) (s : State), (s.rng.inst i.val).seeded = true :=
⟨0, State.reset.withRng fun r => { r with insts := [(0, { seeded := true, count := 9 })] }, by decide⟩

theorem witness_CompleteRandom_11 : ∃ (i n : Nat) (s : State), s.rng.dueInst = some i :=
⟨0, 1, State.reset.withRng fun r =>
      { r with ready := true, tested := true, buffer := [[]], insts := (List.range 32).map fun j => (j, { seeded := true, due := true }) },
      by decide⟩

theorem witness_CompleteRandom_12 : ∃ (c : CoreNo) (level : Level) (v : Word) (s : State), level ≠ .user ∧ (s.rng.chan
      c.val).waiting = none ∧ (s.rng.chan c.val).data = [] ∧ instAllowed c.val (v.toNat % 32) = true ∧ v.getLsbD 5 =
      false ∧ 0 < v.toNat / 2 ^ 16 % 2 ^ 13 ∧ v.toNat / 2 ^ 16 % 2 ^ 13 ≤ 4096 ∧ s.rng.serves (v.toNat % 32) = true :=
⟨0, .machine, 0x20000, State.reset.withRng fun r =>
      { r with ready := true, tested := true, insts := [(0, { seeded := true })] }, by decide⟩

theorem witness_CompleteRandom_14 : ∃ (c : CoreNo) (level : Level) (v : Word) (s : State), level ≠ .user ∧ (s.rng.chan
      c.val).waiting = none ∧ (s.rng.chan c.val).data = [] ∧ instAllowed c.val (v.toNat % 32) = false :=
⟨0, .machine, 0x20001, State.reset, by decide⟩

theorem witness_CompleteRandom_15 : ∃ (c : CoreNo) (q : RngRequest) (s : State), (s.rng.chan c.val).waiting = some q ∧
      q.fresh = false ∧ (s.rng.inst q.inst).count < 2 ^ 20 :=
⟨1, { inst := 1, fresh := false, words := 4 }, State.reset.withRng fun r =>
      { r with chans := [(1, { waiting := some { inst := 1, fresh := false, words := 4 } })] }, by decide⟩

theorem witness_CompleteRandom_16 : ∃ (c : CoreNo) (q : RngRequest) (s : State), (s.rng.chan c.val).waiting = some q ∧
      (q.fresh = true ∨ 2 ^ 20 ≤ (s.rng.inst q.inst).count) ∧ s.rng.kAvail = false :=
⟨1, { inst := 1, fresh := true, words := 4 }, State.reset.withRng fun r =>
      { r with failed := 0xFFFFFFF, chans := [(1, { waiting := some { inst := 1, fresh := true, words := 4 } })] }, by
      decide⟩

theorem witness_CompleteRandom_18 : ∃ (s : State), s.rng.audit = false :=
⟨State.reset, by decide⟩

theorem witness_CompleteRandom_19 : ∃ (s : State), s.rng.audit = true :=
⟨State.reset.withRng fun r => { r with audit := true }, by decide⟩

theorem witness_CompleteRandom_20 : ∃ (level : Level) (s : State), level ≠ .machine :=
⟨.supervisor, State.reset, by decide⟩

theorem witness_CompleteRandom_21 : ∃ (level : Level) (v : Word) (s : State), v.toNat % 32 ≤ 27 :=
⟨.user, 5, State.reset, by decide⟩

theorem witness_CompleteRandom_22 : ∃ (c : CoreNo) (s : State), s.rng.audit = true :=
⟨2, State.reset.withRng fun r => { r with audit := true, raw := [7] }, by decide⟩

theorem witness_CompleteRandom_23 : ∃ (c : CoreNo) (level : Level) (s : State), s.rng.audit = false :=
⟨2, .user, State.reset, by decide⟩

theorem witness_CompleteAlarm_1 : ∃ (src : Fin 57) (d : Word) (s : State), s.boot.dark = false ∧ pulseSource src.val =
      false ∧ s.boot.pufFailed = false ∧ sourceMet src.val d = true :=
⟨49, 7, State.reset.withBoot fun b => { b with dark := false }, by decide⟩

theorem witness_CompleteAlarm_2 : ∃ (src : Fin 57) (d : Word) (s : State), s.boot.dark = true ∧ liveSource src.val =
      true ∧ sourceMet src.val d = true ∧ effCode (Bank.get 0 s.log.kept src.val) = 6 :=
⟨39, 0x101, State.reset, by decide⟩

theorem witness_CompleteAlarm_3 : ∃ (src : Fin 57) (d : Word) (s : State), s.boot.dark = true ∧ liveSource src.val =
      false :=
⟨41, 7, State.reset, by decide⟩

theorem witness_CompleteAlarm_4 : ∃ (s : State), s.alarm.resetDecided = true ∧ s.boot.inReset = false ∧
      (s.alarm.resetNow = true ∨ s.alarm.zero = false) ∧ s.paired = true :=
⟨((State.reset.withBoot fun b => { b with inReset := false }).withAlarm fun a =>
      { a with resetDecided := true }).withWelt fun w => { w with state := .paired }, by decide⟩

theorem witness_CompleteAlarm_5 : ∃ (s : State), haltCleared s = true ∧ code3Asserted s = false ∧ s.alarm.resetDecided =
      false :=
⟨State.reset.withAlarm fun a => { a with halt := true }, by decide⟩

theorem witness_CompleteAlarm_6 : ∃ (it : LogItem) (rest : List LogItem) (s : State), s.log.queue = it :: rest :=
⟨{ stamp := 0, src := 5, resp := 0, flags := 0, count := 1, detail := 0 }, [], State.reset.withLog fun l =>
      { l with queue := [{ stamp := 0, src := 5, resp := 0, flags := 0, count := 1, detail := 0 }] }, by decide⟩

theorem witness_CompleteAlarm_7 : ∃ (src : Fin 57) (s : State), (Bank.get {} s.log.windows src.val).isOpen = true ∧
      (Bank.get {} s.log.windows src.val).count = 0 :=
⟨5, State.reset.withLog fun l => { l with windows := [(5, { isOpen := true })] }, by decide⟩

theorem witness_CompleteAlarm_8 : ∃ (src : Fin 57) (w : CoalWin) (s : State), Bank.get {} s.log.windows src.val = w ∧
      w.isOpen = true ∧ w.count ≠ 0 ∧ s.log.full = false ∧ s.log.sumPending = false :=
⟨5, { isOpen := true, count := 3 }, State.reset.withLog fun l =>
      { l with windows := [(5, { isOpen := true, count := 3 })] }, by decide⟩

theorem witness_CompleteAlarm_9 : ∃ (writer : CoreNo) (v : Word) (s : State), v.getLsbD 0 = true ∧ s.boot.dark = false
      :=
⟨4, 1, State.reset.withBoot fun b => { b with dark := false }, by decide⟩

theorem witness_CompleteAlarm_10 : ∃ (writer : CoreNo) (level : Level) (v : Word) (s : State), level ≠ .machine :=
⟨4, .supervisor, 1, State.reset, by decide⟩

theorem witness_CompleteAlarm_12 : ∃ (v : Word) (s : State), s.log.readValid = true ∧ v.toNat ≤ s.log.readMax.toNat ∧
      (s.log.expValid = true → s.log.exp.toNat ≤ v.toNat) :=
⟨5, State.reset.withLog fun l => { l with readValid := true, readMax := 9 }, by decide⟩

theorem witness_CompleteAlarm_13 : ∃ (v : Word) (s : State), s.log.expValid = true ∧ s.log.ovf = [] :=
⟨5, State.reset.withLog fun l => { l with expValid := true, exp := 9 }, by decide⟩

theorem witness_CompleteAlarm_14 : ∃ (w : Fin 8) (e : LogEntry) (s : State), s.log.find s.alarm.logSel = some e :=
⟨2, { item := { stamp := 0, src := 5, resp := 0, flags := 0, count := 1, detail := 0 }, seq := 0, chain := 0 },
      State.reset.withLog fun l =>
      { l with entries := [{ item := { stamp := 0, src := 5, resp := 0, flags := 0, count := 1, detail := 0 }, seq := 0, chain := 0 }] },
      by decide⟩

theorem witness_CompleteAlarm_15 : ∃ (w : Fin 8) (s : State), s.log.find s.alarm.logSel = none :=
⟨2, State.reset, by decide⟩

theorem witness_CompleteAlarm_16 : ∃ (loop : Fin 4) (level : Bool) (d : Word) (u s : State), (s.withFreeCount (· +
      1)).withInsole (fun i =>
      { i with tampOut := setBit i.tampOut loop.val ((Config.freeByte s.freeCount 0).getLsbD 0) }) = u :=
⟨1, true, 1, (State.reset.withFreeCount (· + 1)).withInsole (fun i =>
      { i with tampOut := setBit i.tampOut 1 ((Config.freeByte 0 0).getLsbD 0) }), State.reset, rfl⟩

theorem witness_CompleteKeyChannels_1 : ∃ (c : Fin 4) (w : RegWriter) (any : Bool) (slot : Fin 32768) (s : State),
      keyWriter c w = true ∧ (s.keys.chan c.val).busy = false :=
⟨1, .core 1 .machine, true, 0, State.reset, by decide⟩

theorem witness_CompleteKeyChannels_2 : ∃ (c : Fin 4) (w : RegWriter) (any kw : Bool) (slot : Fin 32768) (s : State),
      keyWriter c w = true ∧ (s.keys.chan c.val).busy = false :=
⟨1, .core 1 .machine, true, false, 0, State.reset, by decide⟩

theorem witness_CompleteKeyChannels_3 : ∃ (c : Fin 4) (w : RegWriter) (kw : Bool) (s : State), keyWriter c w = true ∧
      (s.keys.chan c.val).busy = false :=
⟨1, .core 1 .machine, true, State.reset, by decide⟩

theorem witness_CompleteKeyChannels_4 : ∃ (c : Fin 4) (w : RegWriter) (s : State), keyWriter c w = true ∧ (s.keys.chan
      c.val).busy = false :=
⟨1, .core 1 .machine, State.reset, by decide⟩

theorem witness_CompleteKeyChannels_5 : ∃ (c : Fin 4) (w : RegWriter) (any : Bool) (slot : Fin 32768) (s : State),
      keyWriter c w = true ∧ (s.keys.chan c.val).busy = false :=
⟨1, .core 1 .machine, true, 0, State.reset, by decide⟩

theorem witness_CompleteKeyChannels_6 : ∃ (c : Fin 4) (w : RegWriter) (s : State), keyWriter c w = true ∧ (s.keys.chan
      c.val).busy = false :=
⟨1, .core 1 .machine, State.reset, by decide⟩

theorem witness_CompleteKeyChannels_7 : ∃ (c : Fin 4) (w : RegWriter) (s : State), keyWriter c w = true ∧ (s.keys.chan
      c.val).busy = false :=
⟨1, .core 1 .machine, State.reset, by decide⟩

theorem witness_CompleteKeyChannels_8 : ∃ (c : Fin 4) (w : RegWriter) (any kw : Bool) (slot : Fin 32768) (s : State),
      keyWriter c w = false :=
⟨1, .core 2 .machine, true, true, 0, State.reset, by decide⟩

theorem witness_CompleteKeyStore_1 : ∃ (c : Fin 4) (w : RegWriter) (v : Word) (s : State), keyWriter c w = true ∧ 4 *
      (s.keys.chan c.val).blobIn.length < (s.keys.chan c.val).len.toNat :=
⟨1, .core 1 .machine, 7, State.reset.withKeys fun k => { k with chans := [(1, { len := 8 })] }, by decide⟩

set_option maxRecDepth 20000 in
theorem witness_CompleteKeyStore_3 : ∃ (c : Fin 4) (r : KeyRun) (s : State), (s.keys.chan c.val).op = some .query ∧
      s.keys.lookup (s.keys.chan c.val).arg none none = .ok r :=
⟨1, runFor 0xFFFF 0, State.reset.withKeys fun _ =>
      { keysWith (runFor 0xFFFF 0) with chans := [(1, { op := some .query, arg := handle64 })] }, ⟨rfl, rfl⟩⟩

set_option maxRecDepth 20000 in
theorem witness_CompleteKeyStore_4 : ∃ (c : Fin 4) (e : KeyErr) (s : State), (s.keys.chan c.val).op = some .query ∧
      s.keys.lookup (s.keys.chan c.val).arg none none = .error e :=
⟨1, { status := Status.keyHandle, detail := 65 }, State.reset.withKeys fun k =>
      { k with ready := true, chans := [(1, { op := some .query, arg := 65 })] }, ⟨rfl, rfl⟩⟩

set_option maxRecDepth 20000 in
theorem witness_CompleteKeyStore_5 : ∃ (c : Fin 4) (r : KeyRun) (s : State), (s.keys.chan c.val).op = some (.unload
      none) ∧ s.keys.lookup (s.keys.chan c.val).arg none none = .ok r :=
⟨1, runFor 0xFFFF 0, State.reset.withKeys fun _ =>
      { keysWith (runFor 0xFFFF 0) with chans := [(1, { op := some (.unload none), arg := handle64 })] }, ⟨rfl, rfl⟩⟩

theorem witness_CompleteKeyStore_6 : ∃ (c n : Nat) (gen : Half) (r : KeyRun) (s : State), Bank.get none s.keys.runs n =
      some r ∧ r.attr.generation = gen :=
⟨1, 64, 1, runFor 0xFFFF 0, State.reset.withKeys fun _ => keysWith (runFor 0xFFFF 0), by decide⟩

theorem witness_CompleteKeyStore_8 : ∃ (level : Level) (s : State), level ≠ .machine :=
⟨.user, State.reset, by decide⟩

theorem witness_CompleteKeyStore_9 : ∃ (s : State), s.alarm.zeroInsole = true :=
⟨State.reset.withAlarm fun a => { a with zero := true, zeroInsole := true }, by decide⟩

theorem witness_CompleteKeyStore_10 : ∃ (s : State), s.alarm.zeroInsole = false :=
⟨State.reset, by decide⟩

theorem witness_CompleteInsole_1 : ∃ (v : Word) (s : State), s.insole.trusted = false ∧ s.insole.epoch ≠ 0xFFFFFFFF ∧ v
      ≠ 0xFFFFFFFF :=
⟨9, State.reset, by decide⟩

theorem witness_CompleteInsole_2 : ∃ (v : Word) (s : State), s.insole.trusted = true :=
⟨9, State.reset.withInsole fun i => { i with trusted := true }, by decide⟩

theorem witness_CompleteInsole_3 : ∃ (s : State), (s.boot.phase = .start ∨ s.boot.phase = .recovery) :=
⟨State.reset, by decide⟩

theorem witness_CompleteInsole_4 : ∃ (s : State), s.ins.ikBusy = true ∧ s.rng.freshServes 10 = true ∧ s.rng.buffer ≠ []
      :=
⟨(State.reset.withIns fun r => { r with ikBusy := true }).withRng fun r =>
      { r with ready := true, tested := true, buffer := [[]], insts := [(10, { seeded := true })] }, by decide⟩

theorem witness_CompleteInsole_5 : ∃ (s : State), s.rng.serves 10 = true ∧ s.ins.seedDelivered = false :=
⟨State.reset.withRng fun r => { r with ready := true, tested := true, insts := [(10, { seeded := true })] }, by decide⟩

set_option maxRecDepth 20000 in
theorem witness_CompleteInsole_6 : ∃ (k : KeyRun) (s : State), s.keys.lookup s.ins.audHdl none none = .ok k :=
⟨runFor 0xFFFF 0, (State.reset.withKeys fun _ => keysWith (runFor 0xFFFF 0)).withIns fun r =>
      { r with audHdl := handle64 }, rfl⟩

theorem witness_CompleteInsole_8 : ∃ (v : Word) (s : State), s.listen.held = none :=
⟨5, State.reset, by decide⟩

theorem witness_CompleteInsole_9 : ∃ (s : State), s.listen.held = none ∧ s.ins.tagSel.toNat < 96 :=
⟨State.reset, by decide⟩

theorem witness_CompleteInsole_10 : ∃ (s : State), s.listen.held = none ∧ 96 ≤ s.ins.tagSel.toNat :=
⟨State.reset.withIns fun r => { r with tagSel := 96 }, by decide⟩

theorem witness_CompleteInsole_12 : ∃ (level : Level) (v : Word) (s : State), level ≠ .machine :=
⟨.supervisor, 3, State.reset, by decide⟩

theorem witness_CompleteInsole_14 : ∃ (core : Fin 16) (s : State), 2 ≤ cphState s core.val :=
⟨2, State.reset.withCipher fun c => { c with coreEn := 0 }, by decide⟩

theorem witness_CompleteInsole_15 : ∃ (core : Fin 16) (pass : Bool) (s : State), (Bank.get {} s.cipher.cores
      core.val).katRun = true ∧ s.rng.genRuns core.val = true :=
⟨2, true, (State.reset.withCipher fun c => { c with cores := [(2, { katRun := true })] }).withRng fun r =>
      { r with gens := [(2, { seeded := true })] }, by decide⟩

theorem witness_CompleteInsole_16 : ∃ (m : Fin 13) (s : State), 5 ≤ m.val :=
⟨6, State.reset, by decide⟩

theorem witness_CompleteInsole_17 : ∃ (m : Fin 13) (s : State), m.val < 5 :=
⟨4, State.reset, by decide⟩

theorem witness_CompleteInsole_19 : ∃ (m : Fin 13) (addr : Word) (size : Nat) (write : Bool) (r : Refused) (s : State),
      5 ≤ m.val ∧ (s.mpu m.val).stopped = none ∧ dmaCheck m.val (s.mpu m.val).rules (regUsed false addr.toNat)
      { addr := addr.toNat, size := size, kind := if write then 1 else 0 } = some r :=
⟨6, 0, 4, true, { region := none, outside := false }, State.reset, by decide⟩

theorem witness_CompleteInsole_20 : ∃ (m : Fin 13) (s : State), (s.mpu m.val).stopped = none :=
⟨6, State.reset, by decide⟩

theorem witness_CompleteListen_1 : ∃ (s : State), s.cls.mode ≠ .polling :=
⟨State.reset, by decide⟩

theorem witness_CompleteListen_2 : ∃ (s : State), s.listen.session = true :=
⟨State.reset.withListen fun l => { l with field := true, session := true, selected := true, iso := .active }, by decide⟩

theorem witness_CompleteListen_3 : ∃ (s : State), s.listening = true ∧ s.listen.iso = .idle :=
⟨State.reset.withListen fun l => { l with field := true }, by decide⟩

theorem witness_CompleteListen_4 : ∃ (s : State), s.listening = true ∧ (s.listen.iso = .idle ∨ s.listen.iso = .halted)
      :=
⟨State.reset.withListen fun l => { l with field := true }, by decide⟩

theorem witness_CompleteListen_5 : ∃ (s : State), s.listening = true ∧ s.listen.iso = .ready :=
⟨(State.reset.withListen fun l => { l with field := true }).withListen fun l => { l with iso := .ready }, by decide⟩

theorem witness_CompleteListen_6 : ∃ (s : State), s.listening = true ∧ s.listen.iso = .ready :=
⟨(State.reset.withListen fun l => { l with field := true }).withListen fun l => { l with iso := .ready }, by decide⟩

theorem witness_CompleteListen_7 : ∃ (s : State), s.listening = true ∧ s.listen.iso = .active ∧ s.listen.session = false
      :=
⟨(State.reset.withListen fun l => { l with field := true }).withListen fun l => { l with iso := .active }, by decide⟩

theorem witness_CompleteListen_8 : ∃ (s : State), s.listening = true ∧ s.listen.iso = .active ∧ s.listen.session = false
      :=
⟨(State.reset.withListen fun l => { l with field := true }).withListen fun l => { l with iso := .active }, by decide⟩

theorem witness_CompleteListen_9 : ∃ (dsi dri : BitVec 2) (s : State), s.listening = true ∧ s.listen.session = true :=
⟨1, 2, State.reset.withListen fun l => { l with field := true, session := true, selected := true, iso := .active }, by
      decide⟩

theorem witness_CompleteListen_10 : ∃ (nak : Bool) (s : State), s.listening = true ∧ s.listen.session = true :=
⟨true, State.reset.withListen fun l => { l with field := true, session := true, selected := true, iso := .active }, by
      decide⟩

theorem witness_CompleteListen_11 : ∃ (blockNo : Bool) (s : State), s.listening = true ∧ s.listen.session = true ∧
      blockNo ≠ s.listen.blockNo :=
⟨true, State.reset.withListen fun l => { l with field := true, session := true, selected := true, iso := .active }, by
      decide⟩

theorem witness_CompleteListen_12 : ∃ (s : State), s.listening = true ∧ s.listen.session = true :=
⟨State.reset.withListen fun l => { l with field := true, session := true, selected := true, iso := .active }, by decide⟩

theorem witness_CompleteListen_13 : ∃ (s : State), s.listening = true ∧ s.listen.session = true :=
⟨State.reset.withListen fun l => { l with field := true, session := true, selected := true, iso := .active }, by decide⟩

theorem witness_CompleteListen_14 : ∃ (aid : List Byte) (s : State), s.listening = true ∧ s.listen.session = true ∧ aid
      ≠ auditAid :=
⟨[], State.reset.withListen fun l => { l with field := true, session := true, selected := true, iso := .active }, by
      decide⟩

theorem witness_CompleteListen_15 : ∃ (page : Byte) (s : State), s.listening = true ∧ s.listen.session = true ∧
      s.listen.selected = true ∧ page.toNat ≤ 31 :=
⟨5, State.reset.withListen fun l => { l with field := true, session := true, selected := true, iso := .active }, by
      decide⟩

theorem witness_CompleteListen_16 : ∃ (page : Byte) (s : State), s.listening = true ∧ s.listen.session = true ∧
      s.listen.selected = true ∧ 31 < page.toNat ∧ page.toNat ≤ 127 :=
⟨32, State.reset.withListen fun l => { l with field := true, session := true, selected := true, iso := .active }, by
      decide⟩

theorem witness_CompleteListen_17 : ∃ (data : List Byte) (page : Byte) (s : State), s.listening = true ∧
      s.listen.session = true ∧ s.listen.selected = true ∧ s.listen.secured = true ∧ data.length = 8 ∧ s.listen.ctrIn <
      0xFFFFFFFF ∧ s.listen.ctrOut < 0xFFFFFFFF ∧ page.toNat ≤ 127 :=
⟨(List.replicate 8 0), 100, State.reset.withListen fun l =>
      { l with field := true, session := true, selected := true, secured := true, iso := .active, ks := [1] }, by
      decide⟩

theorem witness_CompleteListen_18 : ∃ (s : State), s.listening = true ∧ s.listen.session = true ∧ s.listen.selected =
      true ∧ s.listen.secured = false ∧ s.insole.blocked = false ∧ s.insole.auditKey ≠ none ∧ s.insole.seeded = true :=
⟨(State.reset.withListen fun l =>
      { l with field := true, session := true, selected := true, iso := .active }).withInsole fun i =>
      { i with auditKey := some [], seeded := true }, by decide⟩

theorem witness_CompleteListen_19 : ∃ (data rb k : List Byte) (s : State), s.listening = true ∧ s.listen.session = true
      ∧ s.listen.selected = true ∧ data.length = 32 ∧ s.listen.pendingRndB = some rb ∧ s.insole.auditKey = some k :=
⟨(List.replicate 32 0), [4], [5], (State.reset.withListen fun l =>
      { l with field := true, session := true, selected := true, pendingRndB := some [4] }).withInsole fun i =>
      { i with auditKey := some [5] }, by decide⟩

theorem witness_CompleteListen_20 : ∃ (data : List Byte) (page : Byte) (s : State), s.listening = true ∧
      s.listen.session = true ∧ s.listen.selected = true ∧ s.listen.secured = true ∧ data.length = 74 ∧ s.listen.ctrIn <
      0xFFFFFFFF ∧ s.listen.ctrOut < 0xFFFFFFFF ∧ 96 ≤ page.toNat ∧ page.toNat ≤ 127 :=
⟨(List.replicate 74 0), 100, State.reset.withListen fun l =>
      { l with field := true, session := true, selected := true, secured := true, iso := .active, ks := [1] }, by
      decide⟩

theorem witness_CompleteListen_21 : ∃ (data : List Byte) (s : State), s.listening = true ∧ s.listen.session = true ∧
      s.listen.selected = true ∧ s.listen.secured = true ∧ data.length = 12 ∧ s.listen.ctrIn < 0xFFFFFFFF ∧
      s.listen.ctrOut < 0xFFFFFFFF :=
⟨(List.replicate 12 0), State.reset.withListen fun l =>
      { l with field := true, session := true, selected := true, secured := true, iso := .active, ks := [1] }, by
      decide⟩

theorem witness_CompleteListen_22 : ∃ (data : List Byte) (s : State), s.listening = true ∧ s.listen.session = true ∧
      s.listen.selected = true ∧ s.listen.secured = true ∧ data.length = 8 ∧ s.listen.ctrIn < 0xFFFFFFFF ∧
      s.listen.ctrOut < 0xFFFFFFFF :=
⟨(List.replicate 8 0), State.reset.withListen fun l =>
      { l with field := true, session := true, selected := true, secured := true, iso := .active, ks := [1] }, by
      decide⟩

theorem witness_CompleteListen_23 : ∃ (cla ins : Byte) (s : State), s.listening = true ∧ s.listen.session = true ∧ ((cla
      = 0x00 ∧ ins ≠ 0xA4) ∨ cla = 0x80 ∨ cla = 0x84) :=
⟨0, 1, State.reset.withListen fun l => { l with field := true, session := true, selected := true, iso := .active }, by
      decide⟩

theorem witness_CompleteListen_24 : ∃ (s : State), s.insole.blocked = true :=
⟨State.reset.withInsole fun i => { i with blocked := true }, by decide⟩

theorem witness_CompletePoll_1 : ∃ (s : State), s.unitOn 33 = true ∧ s.pins.pwrgd = true ∧ s.insole.onVbat = false ∧
      s.cls.mode = .off ∧ s.listen.field = false ∧ s.listen.session = false :=
⟨State.reset.withPins fun p => { p with pwrgd := true }, by decide⟩

theorem witness_CompletePoll_2 : ∃ (s : State), s.unitOn 33 = true ∧ s.pins.pwrgd = true ∧ s.insole.onVbat = false ∧
      s.cls.mode = .off ∧ s.listen.field = true :=
⟨(State.reset.withListen fun l => { l with field := true }).withPins fun p => { p with pwrgd := true }, by decide⟩

theorem witness_CompletePoll_3 : ∃ (s : State), s.unitOn 33 = true ∧ s.cls.mode = .polling :=
⟨State.reset.withCls fun c => { c with mode := .polling }, by decide⟩

theorem witness_CompletePoll_4 : ∃ (s : State), s.unitOn 33 = true ∧ s.cls.mode = .badge ∧ s.cls.exchanging = false :=
⟨State.reset.withCls fun c => { c with mode := .badge }, by decide⟩

theorem witness_CompletePoll_5 : ∃ (u : List Byte) (other : Option (List Byte)) (s : State), s.unitOn 33 = true ∧
      s.cls.mode = .polling ∧ s.cls.typeA = true :=
⟨[1], none, State.reset.withCls fun c => { c with mode := .polling }, by decide⟩

theorem witness_CompletePoll_6 : ∃ (u : List Byte) (s : State), s.unitOn 33 = true ∧ s.cls.mode = .polling ∧ s.cls.typeB
      = true :=
⟨[1], State.reset.withCls fun c => { c with mode := .polling }, by decide⟩

theorem witness_CompletePoll_7 : ∃ (s : State), s.unitOn 33 = true ∧ s.cls.mode = .polling :=
⟨State.reset.withCls fun c => { c with mode := .polling }, by decide⟩

theorem witness_CompletePoll_8 : ∃ (a : List Byte) (s : State), s.unitOn 33 = true ∧ s.cls.exchanging = true :=
⟨[1], State.reset.withCls fun c => { c with mode := .badge, exchanging := true }, by decide⟩

theorem witness_CompletePoll_9 : ∃ (s : State), s.unitOn 33 = true ∧ s.cls.exchanging = true :=
⟨State.reset.withCls fun c => { c with mode := .badge, exchanging := true }, by decide⟩

set_option maxRecDepth 20000 in
theorem witness_CompletePublicKey_1 : ∃ (n : Fin 4) (k : PkeCmd) (s : State), (s.engine n.val).state = 0 ∧ k.level ≠
      .user ∧ pkeCheck s (s.engine n.val) (pkeJobOf 0x01 k) k.rsv = none :=
⟨0, pkeCmdFor false, pkeReady 0x20 true 256, by decide⟩

set_option maxRecDepth 20000 in
theorem witness_CompletePublicKey_2 : ∃ (n : Fin 4) (k : PkeCmd) (s : State), (s.engine n.val).state = 0 ∧ k.level ≠
      .user ∧ pkeCheck s (s.engine n.val) (pkeJobOf 0x02 k) k.rsv = none :=
⟨0, pkeCmdFor false, pkeReady 0x28 true 256, by decide⟩

set_option maxRecDepth 20000 in
theorem witness_CompletePublicKey_3 : ∃ (n : Fin 4) (k : PkeCmd) (s : State), (s.engine n.val).state = 0 ∧ k.level ≠
      .user ∧ pkeCheck s (s.engine n.val) (pkeJobOf 0x10 k) k.rsv = none :=
⟨0, pkeCmdFor true, pkeReady 0x20 false 0, by decide⟩

set_option maxRecDepth 20000 in
theorem witness_CompletePublicKey_4 : ∃ (n : Fin 4) (k : PkeCmd) (s : State), (s.engine n.val).state = 0 ∧ k.level ≠
      .user ∧ pkeCheck s (s.engine n.val) (pkeJobOf 0x11 k) k.rsv = none :=
⟨0, pkeCmdFor false, pkeReady 0x10 true 32, by decide⟩

set_option maxRecDepth 20000 in
theorem witness_CompletePublicKey_5 : ∃ (n : Fin 4) (k : PkeCmd) (s : State), (s.engine n.val).state = 0 ∧ k.level ≠
      .user ∧ pkeCheck s (s.engine n.val) (pkeJobOf 0x12 k) k.rsv = none :=
⟨0, pkeCmdFor false, pkeReady 0x18 true 96, by decide⟩

set_option maxRecDepth 20000 in
theorem witness_CompletePublicKey_6 : ∃ (n : Fin 4) (k : PkeCmd) (s : State), (s.engine n.val).state = 0 ∧ k.level ≠
      .user ∧ pkeCheck s (s.engine n.val) (pkeJobOf 0x13 k) k.rsv = none :=
⟨0, pkeCmdFor true, pkeReady 0x10 true 64, by decide⟩

set_option maxRecDepth 20000 in
theorem witness_CompletePublicKey_7 : ∃ (n : Fin 4) (k : PkeCmd) (s : State), (s.engine n.val).state = 0 ∧ k.level ≠
      .user ∧ pkeCheck s (s.engine n.val) (pkeJobOf 0x20 k) k.rsv = none :=
⟨0, pkeCmdFor true, pkeReady 0x20 false 0, by decide⟩

set_option maxRecDepth 20000 in
theorem witness_CompletePublicKey_8 : ∃ (n : Fin 4) (k : PkeCmd) (s : State), (s.engine n.val).state = 0 ∧ k.level ≠
      .user ∧ pkeCheck s (s.engine n.val) (pkeJobOf 0x21 k) k.rsv = none :=
⟨0, pkeCmdFor false, pkeReady 0x14 true 0, by decide⟩

set_option maxRecDepth 20000 in
theorem witness_CompletePublicKey_9 : ∃ (n : Fin 4) (k : PkeCmd) (s : State), (s.engine n.val).state = 0 ∧ k.level ≠
      .user ∧ pkeCheck s (s.engine n.val) (pkeJobOf 0x22 k) k.rsv = none :=
⟨0, pkeCmdFor false, pkeReady 0x1C true 64, by decide⟩

set_option maxRecDepth 20000 in
theorem witness_CompletePublicKey_10 : ∃ (n : Fin 4) (k : PkeCmd) (s : State), (s.engine n.val).state = 0 ∧ k.level ≠
      .user ∧ pkeCheck s (s.engine n.val) (pkeJobOf 0x23 k) k.rsv = none :=
⟨0, pkeCmdFor true, pkeReady 0x15 true 32, by decide⟩

set_option maxRecDepth 20000 in
theorem witness_CompletePublicKey_11 : ∃ (n : Fin 4) (k : PkeCmd) (s : State), (s.engine n.val).state = 0 ∧ k.level ≠
      .user ∧ pkeCheck s (s.engine n.val) (pkeJobOf 0x30 k) k.rsv = none :=
⟨0, pkeCmdFor true, pkeReady 0x20 false 0, by decide⟩

set_option maxRecDepth 20000 in
theorem witness_CompletePublicKey_12 : ∃ (n : Fin 4) (k : PkeCmd) (s : State), (s.engine n.val).state = 0 ∧ k.level ≠
      .user ∧ pkeCheck s (s.engine n.val) (pkeJobOf 0x31 k) k.rsv = none :=
⟨0, pkeCmdFor true, pkeReady 0x38 true 0, by decide⟩

set_option maxRecDepth 20000 in
theorem witness_CompletePublicKey_13 : ∃ (n : Fin 4) (k : PkeCmd) (s : State), (s.engine n.val).state = 0 ∧ k.level ≠
      .user ∧ pkeCheck s (s.engine n.val) (pkeJobOf 0x32 k) k.rsv = none :=
⟨0, pkeCmdFor true, pkeReady 0x30 true 768, by decide⟩

set_option maxRecDepth 20000 in
theorem witness_CompletePublicKey_14 : ∃ (n : Fin 4) (k : PkeCmd) (s : State), (s.engine n.val).state = 0 ∧ k.level ≠
      .user ∧ pkeCheck s (s.engine n.val) (pkeJobOf 0x38 k) k.rsv = none :=
⟨0, pkeCmdFor true, pkeReady 0x20 false 0, by decide⟩

set_option maxRecDepth 20000 in
theorem witness_CompletePublicKey_15 : ∃ (n : Fin 4) (k : PkeCmd) (s : State), (s.engine n.val).state = 0 ∧ k.level ≠
      .user ∧ pkeCheck s (s.engine n.val) (pkeJobOf 0x39 k) k.rsv = none :=
⟨0, pkeCmdFor false, pkeReady 0x40 true 0, by decide⟩

set_option maxRecDepth 20000 in
theorem witness_CompletePublicKey_16 : ∃ (n : Fin 4) (k : PkeCmd) (s : State), (s.engine n.val).state = 0 ∧ k.level ≠
      .user ∧ pkeCheck s (s.engine n.val) (pkeJobOf 0x3A k) k.rsv = none :=
⟨0, pkeCmdFor false, pkeReady 0x48 true 2420, by decide⟩

set_option maxRecDepth 20000 in
theorem witness_CompletePublicKey_17 : ∃ (n : Fin 4) (k : PkeCmd) (s : State), (s.engine n.val).state = 0 ∧ k.level ≠
      .user ∧ pkeCheck s (s.engine n.val) (pkeJobOf 0x40 k) k.rsv = none :=
⟨0, pkeCmdFor false, pkeReady 0x20 true 0, by decide⟩

theorem witness_CompletePublicKey_18 : ∃ (n : Nat) (op : Byte) (k : PkeCmd) (s : State), Bank.wf {} s.pke :=
⟨0, 1, pkeCmdFor false, State.reset, by decide⟩

theorem witness_CompletePublicKey_19 : ∃ (n : Fin 4) (op : Byte) (k : PkeCmd) (s : State), (s.engine n.val).state = 0 ∧
      k.level ≠ .user ∧ pkeOps.contains op.toNat = false :=
⟨0, 0x55, pkeCmdFor false, State.reset, by decide⟩

theorem witness_CompletePublicKey_20 : ∃ (n : Fin 4) (k : PkeCmd) (s : State), ((s.engine n.val).state ≠ 0 ∨ k.level =
      .user) :=
⟨0, pkeCmdFor false, pkeRunning 0x22 4, by decide⟩

theorem witness_CompletePkeStages_1 : ∃ (n : Fin 4) (j : PkeJob) (s : State), (s.engine n.val).job = some j ∧ (s.engine
      n.val).state = 1 ∧ pkeWaits s n.val j.op.toNat false = false :=
⟨0, { op := 0x22, set := 0, inline := false, prehash := false, kout := false, ch := 0 }, (pkeRunning 0x22 1).withRng fun
      r => { r with ready := true }, by decide⟩

theorem witness_CompletePkeStages_2 : ∃ (n : Fin 4) (j : PkeJob) (s : State), pkeDrawLen j.op.toNat j.set.toNat
      (s.pkeType n.val) = 0 :=
⟨0, { op := 0x22, set := 0, inline := false, prehash := false, kout := false, ch := 0 }, pkeRunning 0x22 1, by decide⟩

theorem witness_CompletePkeStages_3 : ∃ (n : Fin 4) (j : PkeJob) (s : State), pkeDrawLen j.op.toNat j.set.toNat
      (s.pkeType n.val) ≠ 0 :=
⟨0, { op := 0x20, set := 0, inline := false, prehash := false, kout := true, ch := 0 }, pkeRunning 0x20 1, by decide⟩

theorem witness_CompletePkeStages_4 : ∃ (n : Fin 4) (j : PkeJob) (s : State), (s.engine n.val).job = some j ∧ (s.engine
      n.val).state = 2 ∧ s.rng.audit = false ∧ (s.mpu (6 + n.val)).stopped = none ∧ s.dmaRefused (6 + n.val) false
      (s.engine n.val).src.toNat (s.engine n.val).srcLen.toNat = none :=
⟨0, { op := 0x20, set := 0, inline := false, prehash := false, kout := true, ch := 0 }, State.reset.withPke fun _ =>
      [(0,
      { job := some { op := 0x20, set := 0, inline := false, prehash := false, kout := true, ch := 0 }, state := 2 })],
      by decide⟩

theorem witness_CompletePkeStages_5 : ∃ (n : Nat) (j : PkeJob) (s : State), Bank.wf {} s.pke :=
⟨0, { op := 0x22, set := 0, inline := false, prehash := false, kout := false, ch := 0 }, State.reset, by decide⟩

theorem witness_CompletePkeStages_6 : ∃ (n : Fin 4) (j : PkeJob) (s : State), (s.engine n.val).job = some j ∧ (s.engine
      n.val).state = 3 ∧ s.rng.audit = false ∧ s.fw.pkeAgain = [] :=
⟨0, { op := 0x22, set := 0, inline := false, prehash := false, kout := false, ch := 0 }, pkeRunning 0x22 3, by decide⟩

theorem witness_CompletePkeStages_7 : ∃ (n : Fin 4) (j : PkeJob) (d : PkeDone) (s : State), (s.engine n.val).job = some
      j ∧ (s.engine n.val).state = 4 ∧ s.rng.audit = false ∧ (s.mpu (6 + n.val)).stopped = none ∧ (s.engine
      n.val).copied = none ∧ d.checkOk = true ∧ (d.iter < 1000 ∨ j.op ≠ 0x39) :=
⟨0, { op := 0x22, set := 0, inline := false, prehash := false, kout := false, ch := 0 }, pkeAnswer true, pkeRunning 0x22
      4, by decide⟩

theorem witness_CompletePkeStages_8 : ∃ (j : PkeJob) (t : Byte) (key body drawn : List Byte), (j.op = 0x01 ∨ j.op =
      0x02) :=
⟨{ op := 0x01, set := 0, inline := false, prehash := false, kout := false, ch := 0 }, 0, [], [], [], by decide⟩

theorem witness_CompletePkeStages_9 : ∃ (s : State), s.fw.pkeAgain = [] :=
⟨State.reset, by decide⟩

theorem witness_CompletePkeStages_10 : ∃ (n : Fin 4) (j : PkeJob) (d : PkeDone) (s : State), (s.engine n.val).job = some
      j ∧ (s.engine n.val).state = 4 ∧ s.rng.audit = false ∧ (s.mpu (6 + n.val)).stopped = none ∧ (s.engine
      n.val).copied = none ∧ (d.checkOk = false ∨ j.op = 0x39 ∧ 1000 ≤ d.iter) ∧ (s.engine n.val).reruns.toNat < 2 :=
⟨0, { op := 0x22, set := 0, inline := false, prehash := false, kout := false, ch := 0 }, pkeAnswer false, pkeRunning
      0x22 4, by decide⟩

theorem witness_CompletePkeStages_11 : ∃ (n : Fin 4) (m : CoreNo) (level : Level) (v : Word) (s : State), v.getLsbD 0 =
      true ∧ level ≠ .user ∧ ((s.engine n.val).owner.toNat = 65 + m.val ∨ m.val = 4) ∧ (s.engine n.val).state ≠ 0 ∧
      (s.engine n.val).state ≠ 6 ∧ (s.engine n.val).state ≠ 7 :=
⟨0, 0, .machine, 1, pkeRunning 0x22 4, by decide⟩

theorem witness_CompletePkeStages_12 : ∃ (n : Fin 4) (m : CoreNo) (level : Level) (v : Word) (s : State), v.getLsbD 0 =
      true ∧ level ≠ .user ∧ m.val ≤ 4 ∧ (s.engine n.val).state = 0 :=
⟨0, 0, .machine, 1, State.reset, by decide⟩

theorem witness_CompletePkeStages_13 : ∃ (n : Fin 4) (s : State), (s.engine n.val).state = 5 ∧ (s.engine n.val).clearing
      = .clear :=
⟨0, State.reset.withPke fun _ => [(0, { state := 5, clearing := .clear })], by decide⟩

theorem witness_CompletePkeStages_14 : ∃ (n : Fin 4) (level : Level) (s : State), level ≠ .user ∧ (s.engine n.val).state
      = 6 ∧ (s.engine n.val).qcount.toNat < 3 :=
⟨0, .machine, State.reset.withPke fun _ => [(0, { state := 6 })], by decide⟩

theorem witness_CompletePkeStages_15 : ∃ (n : Fin 4) (s : State), (s.engine n.val).katRun = true :=
⟨0, State.reset.withPke fun _ => [(0, { state := 6, katRun := true })], by decide⟩

set_option maxRecDepth 20000 in
theorem witness_CompleteDigest_1 : ∃ (m : CoreNo) (k : DigCmd) (s : State), k.writer = m ∧ k.level ≠ .user ∧ (s.dig.chan
      m.val).op = none ∧ digCheck s (s.dig.chan m.val) dINIT k = none :=
⟨0, digCmdFor, digReady none 0 none, by decide⟩

set_option maxRecDepth 20000 in
theorem witness_CompleteDigest_2 : ∃ (m : CoreNo) (k : DigCmd) (s : State), k.writer = m ∧ k.level ≠ .user ∧ (s.dig.chan
      m.val).op = none ∧ digCheck s (s.dig.chan m.val) dUPDATE k = none :=
⟨0, digCmdFor, digReady (some openCtx) 64 none, by decide⟩

set_option maxRecDepth 20000 in
theorem witness_CompleteDigest_3 : ∃ (m : CoreNo) (k : DigCmd) (s : State), k.writer = m ∧ k.level ≠ .user ∧ (s.dig.chan
      m.val).op = none ∧ digCheck s (s.dig.chan m.val) dFINAL k = none :=
⟨0, digCmdFor, digReady (some openCtx) 10 none, by decide⟩

set_option maxRecDepth 20000 in
theorem witness_CompleteDigest_4 : ∃ (m : CoreNo) (k : DigCmd) (s : State), k.writer = m ∧ k.level ≠ .user ∧ (s.dig.chan
      m.val).op = none ∧ digCheck s (s.dig.chan m.val) dSAVE k = none :=
⟨0, digCmdFor, digReady (some openCtx) 0 none, by decide⟩

set_option maxRecDepth 20000 in
theorem witness_CompleteDigest_5 : ∃ (m : CoreNo) (k : DigCmd) (s : State), k.writer = m ∧ k.level ≠ .user ∧ (s.dig.chan
      m.val).op = none ∧ digCheck s (s.dig.chan m.val) dRESTORE k = none :=
⟨0, digCmdFor, digReady none 0 none, by decide⟩

set_option maxRecDepth 20000 in
theorem witness_CompleteDigest_6 : ∃ (m : CoreNo) (k : DigCmd) (s : State), k.writer = m ∧ k.level ≠ .user ∧ (s.dig.chan
      m.val).op = none ∧ digCheck s (s.dig.chan m.val) dEXTEND k = none :=
⟨0, digCmdFor, digReady none 32 none, by decide⟩

set_option maxRecDepth 20000 in
theorem witness_CompleteDigest_7 : ∃ (m : CoreNo) (k : DigCmd) (s : State), k.writer = m ∧ k.level ≠ .user ∧ (s.dig.chan
      m.val).op = none ∧ digCheck s (s.dig.chan m.val) dABORT k = none :=
⟨0, digCmdFor, digReady (some openCtx) 0 none, by decide⟩

theorem witness_CompleteDigest_8 : ∃ (m : CoreNo) (k : DigCmd) (s : State), (k.writer ≠ m ∨ k.level = .user) :=
⟨1, digCmdFor, State.reset, by decide⟩

theorem witness_CompleteDigest_10 : ∃ (m : CoreNo) (u : Fin 4) (op : Byte) (k : DigCmd) (s : State), (s.dig.chan
      m.val).op = some (op, k) ∧ digWaits s (s.dig.chan m.val) op k = false ∧ (s.dig.unitAt u.val).work = some (.chan
      m.val) ∧ (s.mpu 10).stopped = none :=
⟨0, 1, dUPDATE, digCmdFor, digReady (some openCtx) 64 (some dUPDATE), by decide⟩

theorem witness_CompleteDigest_11 : ∃ (m u : Nat) (x : DigChan) (op : Byte) (k : DigCmd) (s : State), s.dmaRefused 10
      false x.src.toNat (digReads x op k) = none ∧ digIsKeyed x op k = false :=
⟨0, 1, {}, dUPDATE, digCmdFor, State.reset, by decide⟩

theorem witness_CompleteDigest_15 : ∃ (u : Fin 4) (level : Level) (s : State), level ≠ .user ∧ (s.dig.unitAt u.val).quar
      = true ∧ (s.dig.unitAt u.val).qcount < 3 :=
⟨1, .machine, State.reset.withDig fun d => { d with units := [(1, { quar := true, qcount := 1 })] }, by decide⟩

theorem witness_CompleteDigest_16 : ∃ (s : State), s.dig.katRun = true :=
⟨State.reset.withDig fun d => { d with katRun := true }, by decide⟩

theorem witness_CompleteSoleTraining_2 : ∃ (n : Nat) (s : State), (s.sole.get n).live = true :=
⟨3, portLive, by decide⟩

theorem witness_CompleteSoleTraining_3 : ∃ (port : Fin 16) (s : State), (s.sole.get port.val).lock = true ∧ (s.sole.get
      port.val).frame = none :=
⟨3, portLive, by decide⟩

set_option maxRecDepth 20000 in
theorem witness_CompleteSoleTraining_4 : ∃ (port : Fin 16) (fh : FrameHdr) (version flags mask : Byte) (rsv : BitVec 32)
      (identity : BitVec 128) (s : State), (s.sole.get port.val).live = true ∧ fh.flags.toNat / 4 = 0 ∧ fh.bodyLen.toNat
      = ([1] ++ leBytes 3 rsv.toNat ++ [version, flags, mask, BitVec.ofNat 8 (rsv.toNat / 2 ^ 24)] ++ leBytes 16
      identity.toNat).length ∧ FrameHdrOk 0x06 fh ([1] ++ leBytes 3 rsv.toNat ++ [version, flags, mask, BitVec.ofNat 8
      (rsv.toNat / 2 ^ 24)] ++ leBytes 16 identity.toNat) = true ∧ ((s.rxFrame port.val fh).sole.get
      port.val).trainingAt .caps = true :=
⟨3, frameOf 6 ([1, 0, 0, 0, 1, 0, 7, 0] ++ List.replicate 16 0), 1, 0, 7, 0, 0, portTraining .caps, by decide⟩

set_option maxRecDepth 20000 in
theorem witness_CompleteSoleTraining_5 : ∃ (port : Fin 16) (fh : FrameHdr) (tpp : Long) (pitch spp offs : Word) (code :
      Byte) (rsv : BitVec 48) (s : State), (s.sole.get port.val).live = true ∧ fh.flags.toNat / 4 = 0 ∧ fh.bodyLen.toNat
      = ([2] ++ leBytes 3 rsv.toNat ++ leBytes 8 tpp.toNat ++ leBytes 4 pitch.toNat ++ leBytes 4 spp.toNat ++ leBytes 4
      offs.toNat ++ [code] ++ leBytes 3 (rsv.toNat / 2 ^ 24)).length ∧ FrameHdrOk 0x06 fh ([2] ++ leBytes 3 rsv.toNat ++
      leBytes 8 tpp.toNat ++ leBytes 4 pitch.toNat ++ leBytes 4 spp.toNat ++ leBytes 4 offs.toNat ++ [code] ++ leBytes 3
      (rsv.toNat / 2 ^ 24)) = true ∧ ((s.rxFrame port.val fh).sole.get port.val).trainingAt .geometry = true :=
⟨3, frameOf 6 ([2, 0, 0, 0] ++ leBytes 8 100000 ++ leBytes 4 1000 ++ leBytes 4 10 ++ [0, 0, 0, 0, 0, 0, 0, 0]), 100000,
      1000, 10, 0, 0, 0, portTraining .geometry, by decide⟩

set_option maxRecDepth 20000 in
theorem witness_CompleteSoleTraining_6 : ∃ (port : Fin 16) (fh : FrameHdr) (token : Word) (ns : Half) (rsv : BitVec 40)
      (count k : Nat) (s : State), (s.sole.get port.val).live = true ∧ fh.flags.toNat / 4 = 0 ∧ fh.bodyLen.toNat = ([4]
      ++ leBytes 3 rsv.toNat ++ leBytes 4 token.toNat ++ leBytes 2 ns.toNat ++ leBytes 2 (rsv.toNat / 2 ^ 24)).length ∧
      FrameHdrOk 0x06 fh ([4] ++ leBytes 3 rsv.toNat ++ leBytes 4 token.toNat ++ leBytes 2 ns.toNat ++ leBytes 2
      (rsv.toNat / 2 ^ 24)) = true ∧ ((s.rxFrame port.val fh).sole.get port.val).step = .loop k ∧ ((s.rxFrame port.val
      fh).sole.get port.val).trained = .training ∧ ns.toNat ≤ 500 ∧ ((s.rxFrame port.val fh).sole.get
      port.val).tokens.contains token = true ∧ token = ((s.rxFrame port.val fh).sole.get port.val).token :=
⟨3, frameOf 6 ([4, 0, 0, 0, 0, 0, 0, 0, 100, 0, 0, 0]), 0, 100, 0, 90, 2, (portTraining (.loop 2)).updPort 3 fun p =>
      { p with tokens := [0] }, by decide⟩

set_option maxRecDepth 20000 in
theorem witness_CompleteSoleTraining_7 : ∃ (port : Fin 16) (fh : FrameHdr) (token : Word) (ns : Half) (rsv : BitVec 40)
      (count : Nat) (s : State), (s.sole.get port.val).live = true ∧ fh.flags.toNat / 4 = 0 ∧ fh.bodyLen.toNat = ([4] ++
      leBytes 3 rsv.toNat ++ leBytes 4 token.toNat ++ leBytes 2 ns.toNat ++ leBytes 2 (rsv.toNat / 2 ^ 24)).length ∧
      FrameHdrOk 0x06 fh ([4] ++ leBytes 3 rsv.toNat ++ leBytes 4 token.toNat ++ leBytes 2 ns.toNat ++ leBytes 2
      (rsv.toNat / 2 ^ 24)) = true ∧ ((s.rxFrame port.val fh).sole.get port.val).trained = .training ∧ (500 < ns.toNat ∨
      ((s.rxFrame port.val fh).sole.get port.val).tokens.contains token = false) :=
⟨3, frameOf 6 ([4, 0, 0, 0, 0, 0, 0, 0, 0xF5, 1, 0, 0]), 0, 501, 0, 90, portTraining (.loop 2), by decide⟩

theorem witness_CompleteSoleTraining_8 : ∃ (port : Fin 16) (s : State), (s.sole.get port.val).live = true ∧ (s.sole.get
      port.val).trained = .training ∧ (s.sole.get port.val).attempt < 3 :=
⟨3, portTraining .caps, by decide⟩

theorem witness_CompleteSoleTraining_9 : ∃ (port : Fin 16) (s : State), (s.sole.get port.val).live = true ∧ (s.sole.get
      port.val).trained = .training ∧ 3 ≤ (s.sole.get port.val).attempt :=
⟨3, (portTraining .caps).updPort 3 fun p => { p with attempt := 3 }, by decide⟩

theorem witness_CompleteSoleTraining_10 : ∃ (port : Fin 16) (s : State), (s.sole.get port.val).trained = .failed :=
⟨3, portLive.updPort 3 fun p => { p with trained := .failed }, by decide⟩

set_option maxRecDepth 20000 in
theorem witness_CompleteSoleFrames_1 : ∃ (port : Fin 16) (fh : FrameHdr) (fine : BitVec 48) (pass ackSeq : Half) (flags
      rsv : Byte) (skipMask : Word) (tRx tUpd : BitVec 48) (s : State), (s.sole.get port.val).live = true ∧
      fh.flags.toNat / 4 = 0 ∧ fh.bodyLen.toNat = (leBytes 6 fine.toNat ++ leBytes 2 pass.toNat ++ leBytes 2
      ackSeq.toNat ++ [flags, rsv] ++ leBytes 4 skipMask.toNat).length ∧ FrameHdrOk 0x01 fh (leBytes 6 fine.toNat ++
      leBytes 2 pass.toNat ++ leBytes 2 ackSeq.toNat ++ [flags, rsv] ++ leBytes 4 skipMask.toNat) = true ∧ ((s.sole.get
      port.val).trained ≠ .yes ∨ fine.toNat < (s.sole.get port.val).tpp.toNat) ∧ flags.getLsbD 0 = false :=
⟨3, frameOf 1 ([5] ++ List.replicate 15 0), 5, 0, 0, 0, 0, 0, 9, 14, portLive, by decide⟩

set_option maxRecDepth 20000 in
theorem witness_CompleteSoleFrames_2 : ∃ (port : Fin 16) (fh : FrameHdr) (rsv : Half) (s : State), (s.sole.get
      port.val).live = true ∧ fh.flags.toNat / 4 = 0 ∧ fh.bodyLen.toNat = ([0, 2] ++ leBytes 2 rsv.toNat).length ∧
      FrameHdrOk 0x04 fh ([0, 2] ++ leBytes 2 rsv.toNat) = true :=
⟨3, frameOf 4 ([0, 2, 0, 0]), 0, portLive, by decide⟩

set_option maxRecDepth 20000 in
theorem witness_CompleteSoleFrames_3 : ∃ (port : Fin 16) (fh : FrameHdr) (reason : Byte) (rsv : Half) (s : State),
      (s.sole.get port.val).live = true ∧ fh.flags.toNat / 4 = 0 ∧ fh.bodyLen.toNat = ([1, reason] ++ leBytes 2
      rsv.toNat).length ∧ FrameHdrOk 0x04 fh ([1, reason] ++ leBytes 2 rsv.toNat) = true ∧ ((s.rxFrame port.val
      fh).sole.get port.val).drvHold = true :=
⟨3, frameOf 4 ([1, 0, 0, 0]), 0, 0, portLive.updPort 3 fun p => { p with drvHold := true }, by decide⟩

set_option maxRecDepth 20000 in
theorem witness_CompleteSoleFrames_4 : ∃ (port : Fin 16) (fh : FrameHdr) (s : State), (s.sole.get port.val).live = true
      ∧ fh.flags.toNat / 4 = 0 ∧ fh.bodyLen.toNat = 0 ∧ FrameHdrOk 0x0F fh [] = true :=
⟨3, frameOf 15 ([]), portLive, by decide⟩

theorem witness_CompleteSoleFrames_5 : ∃ (port : Fin 16) (fh : FrameHdr) (s : State), (s.sole.get port.val).live = true
      ∧ 65584 < fh.bodyLen.toNat :=
⟨3, { bodyLen := 70000, flags := 1, seq := 0 }, portLive, by decide⟩

theorem witness_CompleteSoleFrames_6 : ∃ (port : Fin 16) (type : Byte) (fh : FrameHdr) (data : List Byte) (excess : Nat)
      (s : State), (s.sole.get port.val).live = true ∧ fh.bodyLen.toNat ≤ 65584 ∧ driveType type = false :=
⟨3, 0x33, { bodyLen := 0, flags := 1, seq := 0 }, [], 0, portLive, by decide⟩

set_option maxRecDepth 20000 in
theorem witness_CompleteSoleFrames_7 : ∃ (port : Fin 16) (fh : FrameHdr) (data : List Byte) (s : State), (s.sole.get
      port.val).live = true ∧ fh.bodyLen.toNat = 16 ∧ fh.flags.toNat / 4 = 0 ∧ data.length = 20 ∧ FrameHdrOk 1
      { fh with crc := wordOf (data.drop 16) 0 } (data.take 16) = false :=
⟨3, { bodyLen := 16, flags := 1, seq := 0 }, (List.replicate 20 0), portLive, by decide⟩

theorem witness_CompleteSoleFrames_8 : ∃ (port : Fin 16) (s : State), (s.sole.get port.val).live = true :=
⟨3, portLive, by decide⟩

theorem witness_CompleteSoleFrames_9 : ∃ (port : Fin 16) (s : State), (s.sole.get port.val).live = true ∧ (s.sole.get
      port.val).trained = .yes :=
⟨3, portLive.updPort 3 fun p => { p with trained := .yes }, by decide⟩

theorem witness_CompleteSoleFrames_10 : ∃ (port : Fin 16) (fh : FrameHdr) (codeWord : Half) (keyId : Long) (iv : BitVec
      96) (addr : Long) (k : Nat) (s : State), (s.sole.get port.val).live = true ∧ fh.flags.toNat / 4 = 0 ∧
      codeWord.toNat < 3 ∧ fh.bodyLen.toNat = sectorLen codeWord.toNat ∧ ((s.sole.get port.val).credit - (s.sole.get
      port.val).received).toNat < 2 ^ 31 ∧ (s.sole.get port.val).credit ≠ (s.sole.get port.val).received ∧ portActive s
      (s.sole.get port.val) = true ∧ s.rings.waitingRead port.val addr = some k :=
⟨3, { bodyLen := 4144, flags := 1, seq := 0 }, 0, 0, 0, 5, 0, portReading, by decide⟩

theorem witness_CompleteSoleFrames_11 : ∃ (port : Fin 16) (fh : FrameHdr) (codeWord : Half) (keyId : Long) (iv : BitVec
      96) (addr : Long) (s : State), (s.sole.get port.val).live = true ∧ fh.flags.toNat / 4 = 0 ∧ codeWord.toNat < 3 ∧
      fh.bodyLen.toNat = sectorLen codeWord.toNat ∧ (s.sole.get port.val).credit = (s.sole.get port.val).received :=
⟨3, { bodyLen := 4144, flags := 1, seq := 0 }, 0, 0, 0, 5, portLive, by decide⟩

theorem witness_CompleteSoleFrames_12 : ∃ (port : Fin 16) (data : List Byte) (excess : Nat) (s : State), (s.sole.get
      port.val).frame = none :=
⟨3, [], 0, portLive, by decide⟩

set_option maxRecDepth 20000 in
theorem witness_CompleteSoleFrames_13 : ∃ (port : Fin 16) (data : List Byte) (x : RxFrame) (k : Nat) (j : Job) (s :
      State), (s.sole.get port.val).frame = some x ∧ x.discard = false ∧ x.job = some k ∧ s.rings.job k = some j ∧
      j.desc.code.toNat = x.code.toNat ∧ data.length = sectorLen x.code.toNat - 28 :=
⟨3, (List.replicate 4116 0),
      { fh := { bodyLen := 4144, flags := 1, seq := 0 }, hdr := [], code := 0, job := some 0, discard := false, raises := true },
      0, readJob 3, portReading.updPort 3 fun p =>
      { p with frame := some { fh := { bodyLen := 4144, flags := 1, seq := 0 }, hdr := [], code := 0, job := some 0, discard := false, raises := true } },
      by decide⟩

theorem witness_CompleteSoleFrames_14 : ∃ (port : Fin 16) (t : BitVec 48) (s : State), (s.sole.get port.val).trk.state ≠
      2 :=
⟨3, 7, portLive, by decide⟩

theorem witness_CompleteSoleFrames_15 : ∃ (port : Fin 16) (t : BitVec 48) (s : State), (s.sole.get port.val).trk.state =
      2 ∧ 0 < (s.sole.get port.val).spp.toNat ∧ 0 < (s.sole.get port.val).tpp.toNat :=
⟨3, 7, portSending, by decide⟩

theorem witness_CompleteSoleFrames_16 : ∃ (port : Fin 16) (s : State), (s.sole.get port.val).trk.state ≠ 0 :=
⟨3, portSending, by decide⟩

theorem witness_CompleteSoleFrames_17 : ∃ (port : Fin 16) (tie : Bool) (s : State), ((s.sole.get port.val).trk.state = 0
      ∨ tie = true) :=
⟨3, false, portLive, by decide⟩

theorem witness_CompleteSoleFrames_18 : ∃ (port : Fin 16) (s : State), portState s (s.sole.get port.val) = 6 :=
⟨3, portSending.updPort 3 fun p => { p with drvHold := true }, by decide⟩

theorem witness_CompletePipeline_1 : ∃ (f : Fin 64) (ring : Fin 16384) (v : Long) (s : State), (Bank.get {} s.pcie.fns
      f.val).flr = false ∧ s.boot.shelfDown = false ∧ s.rings.pageFn (ring.val / 512) = some (BitVec.ofNat 6 f.val) ∧
      (s.rings.get ring.val).fn.toNat = f.val ∧ (((s.rings.get ring.val).state = 1 ∧ v.setWidth 32 ≠ (s.rings.get
      ring.val).p) ∨ (s.rings.get ring.val).state = 2) ∧ (s.rings.get ring.val).accepts v = true :=
⟨3, 5, 4, ringReady, by decide⟩

theorem witness_CompletePipeline_2 : ∃ (f : Fin 64) (ring : Fin 16384) (v : Long) (s : State), (Bank.get {} s.pcie.fns
      f.val).flr = false ∧ s.boot.shelfDown = false ∧ s.rings.pageFn (ring.val / 512) = some (BitVec.ofNat 6 f.val) ∧
      (s.rings.get ring.val).fn.toNat = f.val ∧ (s.rings.get ring.val).state = 1 ∧ (s.rings.get ring.val).accepts v =
      true ∧ v.setWidth 32 = (s.rings.get ring.val).p ∧ (s.rings.get ring.val).fetchErr = false :=
⟨3, 5, ringReady.rings.get 5 |>.p.setWidth 64, ringReady, by decide⟩

theorem witness_CompletePipeline_3 : ∃ (f : Fin 64) (ring : Fin 16384) (v : Long) (s : State), (Bank.get {} s.pcie.fns
      f.val).flr = false ∧ s.boot.shelfDown = false ∧ s.rings.pageFn (ring.val / 512) = some (BitVec.ofNat 6 f.val) ∧
      (s.rings.get ring.val).fn.toNat = f.val ∧ (((s.rings.get ring.val).state = 1 ∨ (s.rings.get ring.val).state = 2) ∧
      (s.rings.get ring.val).accepts v = false ∨ (s.rings.get ring.val).state = 3) :=
⟨3, 5, 100, ringReady, by decide⟩

theorem witness_CompletePipeline_4 : ∃ (f : Fin 64) (ring : Fin 16384) (v : Long) (s : State), (Bank.get {} s.pcie.fns
      f.val).flr = false ∧ s.boot.shelfDown = false ∧ ((s.rings.get ring.val).fn.toNat ≠ f.val ∨ (s.rings.get
      ring.val).state = 0 ∨ (s.rings.get ring.val).state = 4) :=
⟨2, 5, 4, ringReady, by decide⟩

theorem witness_CompletePipeline_5 : ∃ (ring : Fin 16384) (v : Long) (s : State), (s.rings.get ring.val).state = 4 ∧
      s.boot.shelfDown = false :=
⟨5, 4, ringReady.withRings fun rs => rs.updRing 5 fun x => { x with state := 4 }, by decide⟩

theorem witness_CompletePipeline_6 : ∃ (ring : Fin 16384) (s : State), (s.rings.get ring.val).wanted ≠ 0 ∧ (s.rings.get
      ring.val).issued = 0 ∧ fetchStall s.rings = false ∧ s.welt.ringsStopped = false :=
⟨5, ringReady.withRings fun rs => rs.updRing 5 fun x => { x with p := 3 }, by decide⟩

theorem witness_CompletePipeline_7 : ∃ (g : Ring), (g.state = 1 ∨ g.state = 4) ∧ g.reread = 0 :=
⟨{ state := 1 }, by decide⟩

theorem witness_CompletePipeline_8 : ∃ (ring : Fin 16384) (data : List Byte) (s : State), (s.rings.get ring.val).issued
      ≠ 0 :=
⟨5, (List.replicate 64 0), ringReady.withRings fun rs => rs.updRing 5 fun x => { x with issued := 1 }, by decide⟩

theorem witness_CompletePipeline_9 : ∃ (r : Nat) (d : Desc) (s : State), s.rings.abortReads.contains r = false ∧
      fetchCheck d = none ∧ (s.rings.get r).reread = 0 :=
⟨5, (jobFor 0x03 .admission).desc, ringReady, by decide⟩

theorem witness_CompletePipeline_10 : ∃ (r : Nat) (d : Desc) (st : Half) (dt : Word) (s : State),
      s.rings.abortReads.contains r = false ∧ fetchCheck d = some (st, dt) :=
⟨5, (jobFor 0x55 .admission).desc, Status.badOpcode, 0, ringReady, by decide⟩

theorem witness_CompletePipeline_11 : ∃ (ring : Fin 16384) (data : List Byte) (e : EarlyEnd) (s : State), (s.rings.get
      ring.val).issued ≠ 0 ∧ data.length < 64 * (s.rings.get ring.val).issued :=
⟨5, [], .timeout, ringReady.withRings fun rs => rs.updRing 5 fun x => { x with issued := 1 }, by decide⟩

theorem witness_CompletePipeline_12 : ∃ (ring : Fin 16384) (n : Word) (j : Job) (s : State), s.rings.job (jobKey
      ring.val n) = some j ∧ j.pos = .admission ∧ j.desc.opcode ≠ 0x21 ∧ admitCheck (s.jobWindow j (s.rings.get
      ring.val).fn.toNat) j.desc = none :=
⟨5, 0, jobFor 0x03 (.admission), (pipeState (jobFor 0x03 (.admission))), by decide⟩

theorem witness_CompletePipeline_13 : ∃ (ring : Fin 16384) (n : Word) (j : Job) (st : Half) (dt : Word) (s : State),
      s.rings.job (jobKey ring.val n) = some j ∧ j.pos = .admission ∧ admitCheck (s.jobWindow j (s.rings.get
      ring.val).fn.toNat) j.desc = some (st, dt) :=
⟨5, 0, jobFor 0x03 .admission, Status.window, 0x80000010, (pipeState (jobFor 0x03 .admission)).withRings fun rs =>
      { rs with wlim := [] }, by decide⟩

theorem witness_CompletePipeline_14 : ∃ (ring : Fin 16384) (n : Word) (j : Job) (s : State), s.rings.job (jobKey
      ring.val n) = some j ∧ j.pos = .key ∧ j.desc.opcode = 0x10 :=
⟨5, 0, jobFor 0x10 (.key), (pipeState (jobFor 0x10 (.key))), by decide⟩

set_option maxRecDepth 20000 in
theorem witness_CompletePipeline_15 : ∃ (ring : Fin 16384) (n : Word) (j : Job) (e : KeyErr) (s : State), s.rings.job
      (jobKey ring.val n) = some j ∧ j.pos = .key ∧ j.desc.opcode = 0x03 ∧ s.jobKeyCheck j j.desc.handle (s.rings.get
      ring.val).tenant = .error e :=
⟨5, 0, jobFor 0x03 .key, { status := Status.keyHandle, detail := 0 }, (pipeState (jobFor 0x03 (.key))), ⟨by decide, by
      decide, by decide, rfl⟩⟩

set_option maxRecDepth 20000 in
theorem witness_CompletePipeline_16 : ∃ (ring : Fin 16384) (n : Word) (j : Job) (slot : Nat) (r : KeyRun) (s : State),
      s.rings.job (jobKey ring.val n) = some j ∧ j.pos = .key ∧ j.desc.opcode = 0x03 ∧ s.jobKeyCheck j j.desc.handle
      (s.rings.get ring.val).tenant = .ok (slot, r) :=
⟨5, 0, { jobFor 0x03 .key with desc := { (jobFor 0x03 .key).desc with handle := handle64 } }, 64, runFor 0 0xFFFFFFFF,
      (pipeState ({ jobFor 0x03 .key with desc := { (jobFor 0x03 .key).desc with handle := handle64 } })).withKeys fun _
      => keysWith (runFor 0 0xFFFFFFFF), ⟨by decide, by decide, by decide, rfl⟩⟩

theorem witness_CompletePipeline_17 : ∃ (ring : Fin 16384) (n : Word) (j : Job) (s : State), s.rings.job (jobKey
      ring.val n) = some j ∧ j.pos = .cut ∧ opDigest j.desc.opcode = true ∧ s.digOn ≠ 0 ∧ (s.rings.list.filter fun p =>
      decide (p.2.pos = .digest)).length < 64 :=
⟨5, 0, jobFor 0x10 (.cut), (pipeState (jobFor 0x10 (.cut))), by decide⟩

theorem witness_CompletePipeline_18 : ∃ (ring : Fin 16384) (n : Word) (j : Job) (s : State), s.rings.job (jobKey
      ring.val n) = some j ∧ j.pos = .cut ∧ j.desc.opcode = 0x03 ∧ s.cipherOn = 0 :=
⟨5, 0, jobFor 0x03 (.cut), (pipeState (jobFor 0x03 .cut)).withCipher fun c => { c with coreEn := 0 }, by decide⟩

theorem witness_CompletePipeline_19 : ∃ (core : Fin 16) (k : Nat) (j : Job) (ghash : Bool) (s : State), (Bank.get {}
      s.cipher.cores core.val).work = some k ∧ s.rings.job k = some j :=
⟨2, jobKey 5 0, jobFor 0x03 (.onCore 2), true, (pipeState (jobFor 0x03 (.onCore 2))).withCipher fun c =>
      { c with cores := [(2, { work := some (jobKey 5 0) })] }, by decide⟩

theorem witness_CompletePipeline_20 : ∃ (core : Fin 16) (k : Nat) (j : Job) (x : Context) (read : List Byte) (s :
      State), (Bank.get {} s.cipher.cores core.val).work = some k ∧ s.rings.job k = some j ∧ j.ctx = some x ∧
      j.desc.opcode ≠ 0x21 :=
⟨2, jobKey 5 0,
      { jobFor 0x03 (.onCore 2) with cuts := 2, ctx := some { ref := 5, opcode := 3, inverse := false, key := 0 } },
      { ref := 5, opcode := 3, inverse := false, key := 0 }, [], (pipeState
      ({ jobFor 0x03 (.onCore 2) with cuts := 2, ctx := some { ref := 5, opcode := 3, inverse := false, key := 0 } })).withCipher
      fun c => { c with cores := [(2, { work := some (jobKey 5 0) })] }, by decide⟩

theorem witness_CompletePipeline_21 : ∃ (c k : Nat) (j : Job) (x : Context) (v : CutVal) (s : State), j.cutsDone + 1 <
      j.cuts :=
⟨2, jobKey 5 0, { jobFor 0x03 (.onCore 2) with cuts := 2 }, { ref := 5, opcode := 3, inverse := false, key := 0 },
      { chain := [], acc := [], h := [], iv := [], aad := 0, done := 0, out := [] }, State.reset, by decide⟩

theorem witness_CompletePipeline_22 : ∃ (ring : Fin 16384) (n received : Word) (e : EarlyEnd) (j : Job) (s : State),
      s.rings.job (jobKey ring.val n) = some j ∧ j.pos = .digest ∧ j.desc.opcode ≠ 0x21 :=
⟨5, 0, 100, .poisoned, jobFor 0x10 (.digest), (pipeState (jobFor 0x10 (.digest))), by decide⟩

theorem witness_CompletePipeline_23 : ∃ (ring : Fin 16384) (n : Word) (g : Bool) (read : List Byte) (j : Job) (x :
      Context) (s : State), s.rings.job (jobKey ring.val n) = some j ∧ j.pos = .tag ∧ j.ctx = some x ∧ j.desc.opcode =
      0x03 :=
⟨5, 0, true, [], { jobFor 0x03 .tag with ctx := some { ref := 5, opcode := 3, inverse := false, key := 0 } },
      { ref := 5, opcode := 3, inverse := false, key := 0 }, pipeState
      ({ jobFor 0x03 .tag with ctx := some { ref := 5, opcode := 3, inverse := false, key := 0 } }), by decide⟩

theorem witness_CompletePipeline_24 : ∃ (ring : Fin 16384) (n : Word) (g : Bool) (read : List Byte) (j : Job) (x :
      Context) (s : State), s.rings.job (jobKey ring.val n) = some j ∧ j.pos = .tag ∧ j.ctx = some x ∧ j.desc.opcode =
      0x0B :=
⟨5, 0, true, [], { jobFor 0x0B .tag with ctx := some { ref := 5, opcode := 3, inverse := false, key := 0 } },
      { ref := 5, opcode := 3, inverse := false, key := 0 }, pipeState
      ({ jobFor 0x0B .tag with ctx := some { ref := 5, opcode := 3, inverse := false, key := 0 } }), by decide⟩

theorem witness_CompletePipeline_25 : ∃ (ring : Fin 16384) (n : Word) (read : List Byte) (j : Job) (x : Context) (s :
      State), s.rings.job (jobKey ring.val n) = some j ∧ j.pos = .tag ∧ j.ctx = some x ∧ j.desc.opcode = 0x02 :=
⟨5, 0, [], { jobFor 0x02 .tag with ctx := some { ref := 5, opcode := 3, inverse := false, key := 0 } },
      { ref := 5, opcode := 3, inverse := false, key := 0 }, pipeState
      ({ jobFor 0x02 .tag with ctx := some { ref := 5, opcode := 3, inverse := false, key := 0 } }), by decide⟩

theorem witness_CompletePipeline_26 : ∃ (ring : Fin 16384) (n : Word) (read : List Byte) (j : Job) (x : Context) (s :
      State), s.rings.job (jobKey ring.val n) = some j ∧ j.pos = .tag ∧ j.ctx = some x ∧ opGcm j.desc.opcode = true :=
⟨5, 0, [], { jobFor 0x02 .tag with ctx := some { ref := 5, opcode := 3, inverse := false, key := 0 } },
      { ref := 5, opcode := 3, inverse := false, key := 0 }, pipeState
      ({ jobFor 0x02 .tag with ctx := some { ref := 5, opcode := 3, inverse := false, key := 0 } }), by decide⟩

theorem witness_CompletePipeline_27 : ∃ (ring : Fin 16384) (n : Word) (j : Job) (s : State), s.rings.job (jobKey
      ring.val n) = some j ∧ j.pos = .release ∧ j.desc.opcode ≠ 0x20 :=
⟨5, 0, jobFor 0x03 (.release), (pipeState (jobFor 0x03 (.release))), by decide⟩

theorem witness_CompletePipeline_29 : ∃ (f : Fin 64) (v : Fin 32) (s : State), s.rings.irqDue.contains (f.val * 32 +
      v.val) = true :=
⟨1, 2, State.reset.withRings fun rs => { rs with irqDue := [34] }, by decide⟩

theorem witness_CompletePipeline_30 : ∃ (level : Level) (s : State), level ≠ .user ∧ (s.rings.get
      s.rings.sel.toNat).state = 0 :=
⟨.machine, State.reset, by decide⟩

theorem witness_CompletePipeline_31 : ∃ (level : Level) (s : State), level ≠ .user :=
⟨.machine, State.reset, by decide⟩

theorem witness_CompleteSdPorts_1 : ∃ (p : Fin 4) (x : SdPort) (s : State), s.sdPort p.val = x ∧ x.det = false ∧ x.en =
      true :=
⟨1, { en := true, state := .empty }, State.reset.withCards fun c =>
      { c with sd := [(1, { en := true, state := .empty })] }, by decide⟩

theorem witness_CompleteSdPorts_2 : ∃ (p : Fin 4) (x : SdPort) (s : State), s.sdPort p.val = x ∧ x.state = .settle ∧
      x.det = true :=
⟨1, { en := true, det := true, state := .settle }, State.reset.withCards fun c =>
      { c with sd := [(1, { en := true, det := true, state := .settle })] }, by decide⟩

theorem witness_CompleteSdPorts_3 : ∃ (p : Fin 4) (why : BitVec 4) (cSize : Nat) (modes : BitVec 7) (v18 cmd23 : Bool)
      (passes : List (BitVec 40)) (wp : Bool) (scan : CardScan) (x : SdPort) (s : State), s.sdPort p.val = x ∧ x.state =
      .init ∧ why ≠ 0 ∧ x.run = none :=
⟨1, 3, 1000, 2, true, true, [], false, { headers := [], journal := [], runs := [] },
      { en := true, det := true, state := .init }, State.reset.withCards fun c =>
      { c with sd := [(1, { en := true, det := true, state := .init })] }, by decide⟩

set_option maxRecDepth 20000 in
theorem witness_CompleteSdPorts_4 : ∃ (p : Fin 4) (cSize : Nat) (modes : BitVec 7) (v18 cmd23 : Bool) (passes : List
      (BitVec 40)) (wp : Bool) (scan : CardScan) (x : SdPort) (s : State), s.sdPort p.val = x ∧ x.state = .init ∧ x.run
      = none ∧ x.maxMode = 1 ∧ modes.getLsbD 1 = true ∧ headerGood (sliceBytes scan.headers 0 512) = false ∧ headerGood
      (sliceBytes scan.headers 512 512) = false :=
⟨1, 1000, 2, true, true, [], false, { headers := [], journal := [], runs := [] },
      { en := true, det := true, state := .init, maxMode := 1 }, State.reset.withCards fun c =>
      { c with sd := [(1, { en := true, det := true, state := .init, maxMode := 1 })] }, by decide⟩

theorem witness_CompleteSdPorts_5 : ∃ (p : Fin 4) (x : SdPort) (s : State), s.sdPort p.val = x ∧ x.det = true :=
⟨1, { en := true, det := true, state := .ready }, State.reset.withCards fun c =>
      { c with sd := [(1, { en := true, det := true, state := .ready })] }, by decide⟩

theorem witness_CompleteSdPorts_6 : ∃ (x : SdPort), x.run = none :=
⟨{}, by decide⟩

theorem witness_CompleteSdPorts_7 : ∃ (x : SdPort) (r : SdRun), x.run = some r :=
⟨{ run := some { write := false, lba := 0, count := 1, addr := 0x10000000 } },
      { write := false, lba := 0, count := 1, addr := 0x10000000 }, by decide⟩

theorem witness_CompleteSdPorts_8 : ∃ (p : Fin 4) (x : SdPort) (s : State), s.sdPort p.val = x ∧ x.run = none ∧ x.count
      ≠ 0 ∧ x.state = .ready ∧ s.cob.clockUs ≤ x.tunedUs + 1000000 :=
⟨1, { en := true, state := .ready, count := 2 }, State.reset.withCards fun c =>
      { c with sd := [(1, { en := true, state := .ready, count := 2 })] }, by decide⟩

theorem witness_CompleteSdPorts_9 : ∃ (p : Fin 4) (x : SdPort) (s : State), s.sdPort p.val = x ∧ x.run = none ∧ x.count
      ≠ 0 ∧ x.state = .ready ∧ x.tunedUs + 1000000 < s.cob.clockUs :=
⟨1, { en := true, state := .ready, count := 2 }, (State.reset.withCards fun c =>
      { c with sd := [(1, { en := true, state := .ready, count := 2 })] }).withCob fun c =>
      { c with clockUs := 1000001 }, by decide⟩

theorem witness_CompleteSdPorts_10 : ∃ (p : Fin 4) (x : SdPort) (s : State), s.sdPort p.val = x ∧ x.run = none ∧ x.count
      ≠ 0 ∧ x.state = .ready ∧ s.cob.clockUs ≤ x.tunedUs + 1000000 :=
⟨1, { en := true, state := .ready, count := 2 }, State.reset.withCards fun c =>
      { c with sd := [(1, { en := true, state := .ready, count := 2 })] }, by decide⟩

theorem witness_CompleteSdPorts_11 : ∃ (p : Fin 4) (x : SdPort) (s : State), s.sdPort p.val = x ∧ x.run = none ∧ x.count
      ≠ 0 ∧ x.state = .ready ∧ x.tunedUs + 1000000 < s.cob.clockUs :=
⟨1, { en := true, state := .ready, count := 2 }, (State.reset.withCards fun c =>
      { c with sd := [(1, { en := true, state := .ready, count := 2 })] }).withCob fun c =>
      { c with clockUs := 1000001 }, by decide⟩

theorem witness_CompleteSdPorts_12 : ∃ (p : Fin 4) (x : SdPort) (s : State), s.sdPort p.val = x ∧ x.run = none ∧ x.count
      = 0 :=
⟨1, { en := true, state := .ready, count := 0 }, State.reset.withCards fun c =>
      { c with sd := [(1, { en := true, state := .ready, count := 0 })] }, by decide⟩

theorem witness_CompleteSdPorts_13 : ∃ (p : Fin 4) (x : SdPort) (s : State), s.sdPort p.val = x ∧ x.run = none ∧ x.count
      ≠ 0 ∧ x.state ≠ .ready :=
⟨1, { en := true, state := .empty, count := 1 }, State.reset.withCards fun c =>
      { c with sd := [(1, { en := true, state := .empty, count := 1 })] }, by decide⟩

theorem witness_CompleteSdPorts_14 : ∃ (p : Fin 4) (x : SdPort) (s : State), s.sdPort p.val = x ∧ x.run.isSome = true :=
⟨1, { en := true, state := .xfer, run := some { write := false, lba := 0, count := 1, addr := 0x10000000 } },
      State.reset.withCards fun c =>
      { c with sd := [(1, { en := true, state := .xfer, run := some { write := false, lba := 0, count := 1, addr := 0x10000000 } })] },
      by decide⟩

theorem witness_CompleteSdPorts_15 : ∃ (p : Fin 4) (passes : List (BitVec 40)) (x : SdPort) (s : State), s.sdPort p.val
      = x ∧ x.run = none ∧ x.state = .ready :=
⟨1, [0xFF], { en := true, state := .ready, mode := 5 }, State.reset.withCards fun c =>
      { c with sd := [(1, { en := true, state := .ready, mode := 5 })] }, by decide⟩

set_option maxRecDepth 20000 in
theorem witness_CompleteSdPorts_16 : ∃ (now : Nat) (m : BitVec 40) (ms : List (BitVec 40)) (x : SdPort), x.mode = 5 ∧
      x.modes.getLsbD 5 = true ∧ 4 ≤ (longestRun m).2 :=
⟨0, 0xFF0, [], { mode := 5, modes := 0x7F }, by decide⟩

theorem witness_CompleteSdPorts_17 : ∃ (now : Nat) (ms : List (BitVec 40)) (x : SdPort), x.mode.toNat < 5 :=
⟨0, [], {}, by decide⟩

theorem witness_CompleteSdPorts_18 : ∃ (p : Fin 4) (x : SdPort) (s : State), s.sdPort p.val = x ∧ x.run = none :=
⟨1, { en := true, state := .ready }, State.reset.withCards fun c =>
      { c with sd := [(1, { en := true, state := .ready })] }, by decide⟩

theorem witness_CompleteSdPorts_19 : ∃ (p : Fin 4) (x : SdPort) (s : State), s.sdPort p.val = x ∧ x.run = none ∧ x.en =
      true ∧ x.det = true ∧ (x.state = .empty ∨ x.state = .failed) :=
⟨1, { en := true, det := true, state := .empty }, State.reset.withCards fun c =>
      { c with sd := [(1, { en := true, det := true, state := .empty })] }, by decide⟩

theorem witness_CompleteSdPorts_20 : ∃ (p : Fin 4) (r : SdRun) (x : SdPort) (s : State), s.sdPort p.val = x ∧ x.state =
      .busy ∧ x.run = some r ∧ r.stopping = false ∧ 512 * r.count.toNat ≤ r.confirmed + 512 ∧ x.cmd23 = true :=
⟨1, { write := true, lba := 0, count := 1, addr := 0x10000000 },
      { en := true, state := .busy, cmd23 := true, run := some { write := true, lba := 0, count := 1, addr := 0x10000000 } },
      State.reset.withCards fun c =>
      { c with sd := [(1, { en := true, state := .busy, cmd23 := true, run := some { write := true, lba := 0, count := 1, addr := 0x10000000 } })] },
      by decide⟩

theorem witness_CompleteSdPorts_21 : ∃ (p : Fin 4) (r : SdRun) (x : SdPort) (s : State), s.sdPort p.val = x ∧ x.state =
      .busy ∧ x.run = some r ∧ r.stopping = false ∧ 512 * r.count.toNat ≤ r.confirmed + 512 ∧ x.cmd23 = false :=
⟨1, { write := true, lba := 0, count := 1, addr := 0x10000000 },
      { en := true, state := .busy, run := some { write := true, lba := 0, count := 1, addr := 0x10000000 } },
      State.reset.withCards fun c =>
      { c with sd := [(1, { en := true, state := .busy, run := some { write := true, lba := 0, count := 1, addr := 0x10000000 } })] },
      by decide⟩

theorem witness_CompleteSdPorts_22 : ∃ (p : Fin 4) (r : SdRun) (x : SdPort) (s : State), s.sdPort p.val = x ∧ x.state =
      .busy ∧ x.run = some r ∧ r.stopping = false ∧ r.confirmed + 512 < 512 * r.count.toNat :=
⟨1, { write := true, lba := 0, count := 2, addr := 0x10000000 },
      { en := true, state := .busy, run := some { write := true, lba := 0, count := 2, addr := 0x10000000 } },
      State.reset.withCards fun c =>
      { c with sd := [(1, { en := true, state := .busy, run := some { write := true, lba := 0, count := 2, addr := 0x10000000 } })] },
      by decide⟩

theorem witness_CompleteSdPorts_23 : ∃ (p : Fin 4) (r : SdRun) (s : State), (s.sdPort p.val).run = some r ∧ (s.sdPort
      p.val).state = .busy ∧ r.cycled = false :=
⟨1, { write := true, lba := 0, count := 1, addr := 0x10000000 }, State.reset.withCards fun c =>
      { c with sd := [(1, { state := .busy, run := some { write := true, lba := 0, count := 1, addr := 0x10000000 } })] },
      by decide⟩

theorem witness_CompleteSdPorts_24 : ∃ (p : Fin 4) (r : SdRun) (s : State), (s.sdPort p.val).run = some r ∧ (s.sdPort
      p.val).state = .xfer ∧ r.cycled = false :=
⟨1, { write := false, lba := 0, count := 1, addr := 0x10000000 }, State.reset.withCards fun c =>
      { c with sd := [(1, { state := .xfer, run := some { write := false, lba := 0, count := 1, addr := 0x10000000 } })] },
      by decide⟩

theorem witness_CompleteSdPorts_25 : ∃ (p : Fin 4) (r : SdRun) (data : List Byte) (crcOk : Bool) (s : State), (s.sdPort
      p.val).run = some r ∧ (s.sdPort p.val).state = .xfer ∧ r.write = true :=
⟨1, { write := true, lba := 0, count := 1, addr := 0x10000000 }, [], true, State.reset.withCards fun c =>
      { c with sd := [(1, { state := .xfer, run := some { write := true, lba := 0, count := 1, addr := 0x10000000 } })] },
      by decide⟩

theorem witness_CompleteSdPorts_26 : ∃ (a n : Nat) (k : State → State) (s : State), (s.mpu 11).stopped = none ∧
      s.dmaRefused 11 false a n = none :=
⟨0, 0, id, State.reset, by decide⟩

theorem witness_CompleteSdPorts_27 : ∃ (a : Nat) (bs : List Byte) (k : State → State) (s : State), (s.mpu 11).stopped =
      none ∧ s.dmaRefused 11 true a bs.length = none :=
⟨0, [], id, State.reset, by decide⟩

theorem witness_CompleteSdPorts_28 : ∃ (p : Fin 4) (r : SdRun) (data : List Byte) (s : State), (s.sdPort p.val).run =
      some r ∧ (s.sdPort p.val).state = .xfer ∧ r.write = false :=
⟨1, { write := false, lba := 0, count := 1, addr := 0x10000000 }, [], State.reset.withCards fun c =>
      { c with sd := [(1, { state := .xfer, run := some { write := false, lba := 0, count := 1, addr := 0x10000000 } })] },
      by decide⟩

theorem witness_CompleteSdPorts_29 : ∃ (p : Fin 4) (v : Word) (x : SdPort) (s : State), s.sdPort p.val = x ∧ x.en =
      v.getLsbD 0 ∧ (v >>> 1).setWidth 3 ≠ (7 : BitVec 3) :=
⟨1, 5, { en := true }, State.reset.withCards fun c => { c with sd := [(1, { en := true })] }, by decide⟩

theorem witness_CompleteContactSlots_1 : ∃ (n : Fin 2) (x : IccSlot) (s : State), s.iccSlot n.val = x ∧ x.pres = false ∧
      x.en = true :=
⟨1, { en := true, state := .empty }, State.reset.withCards fun c =>
      { c with icc := [(1, { en := true, state := .empty })] }, by decide⟩

theorem witness_CompleteContactSlots_2 : ∃ (n : Fin 2) (tie : Bool) (x : IccSlot) (s : State), s.iccSlot n.val = x ∧
      x.pres = true :=
⟨1, true, { en := true, pres := true, state := .active }, State.reset.withCards fun c =>
      { c with icc := [(1, { en := true, pres := true, state := .active })] }, by decide⟩

theorem witness_CompleteContactSlots_3 : ∃ (n : Fin 2) (x : IccSlot) (s : State), s.iccSlot n.val = x ∧ x.run = none ∧
      x.state = .present :=
⟨1, { en := true, pres := true, state := .present }, State.reset.withCards fun c =>
      { c with icc := [(1, { en := true, pres := true, state := .present })] }, by decide⟩

theorem witness_CompleteContactSlots_4 : ∃ (n : Fin 2) (x : IccSlot) (s : State), s.iccSlot n.val = x ∧ x.run = none ∧
      x.state = .empty :=
⟨1, { en := true, state := .empty }, State.reset.withCards fun c =>
      { c with icc := [(1, { en := true, state := .empty })] }, by decide⟩

theorem witness_CompleteContactSlots_5 : ∃ (n : Fin 2) (x : IccSlot) (s : State), s.iccSlot n.val = x ∧ x.run = none ∧
      x.state = .active :=
⟨1, { en := true, pres := true, state := .active }, State.reset.withCards fun c =>
      { c with icc := [(1, { en := true, pres := true, state := .active })] }, by decide⟩

theorem witness_CompleteContactSlots_6 : ∃ (n : Fin 2) (x : IccSlot) (s : State), s.iccSlot n.val = x ∧ x.run = none ∧
      (x.state = .active ∨ x.state = .clockStopped) ∧ apduLenOk x.t1 x.txLen.toNat = true :=
⟨1, { en := true, pres := true, state := .active, txLen := 5 }, State.reset.withCards fun c =>
      { c with icc := [(1, { en := true, pres := true, state := .active, txLen := 5 })] }, by decide⟩

theorem witness_CompleteContactSlots_7 : ∃ (n : Fin 2) (x : IccSlot) (s : State), s.iccSlot n.val = x ∧ x.run = none ∧
      x.state = .active ∧ apduLenOk x.t1 x.txLen.toNat = false :=
⟨1, { en := true, pres := true, state := .active, txLen := 3 }, State.reset.withCards fun c =>
      { c with icc := [(1, { en := true, pres := true, state := .active, txLen := 3 })] }, by decide⟩

theorem witness_CompleteContactSlots_8 : ∃ (n : Fin 2) (atr : List Byte) (ppsOk : Bool) (b g : Byte) (x : IccSlot) (s :
      State), s.iccSlot n.val = x ∧ x.state = .activating ∧ (atrOf atr).specific = none ∧ (atrOf atr).ta1 = some b ∧
      (atrOf atr).global = some g ∧ (atrOf atr).proto ≤ 1 ∧ (x.classB = true ∨ g.getLsbD 2 = true) :=
⟨1, [0x3B, 0x90, 0x11, 0x81, 0x1F, 0xC4, 0], true, 0x11, 0xC4, { en := true, pres := true, state := .activating },
      State.reset.withCards fun c => { c with icc := [(1, { en := true, pres := true, state := .activating })] }, by
      decide⟩

theorem witness_CompleteContactSlots_9 : ∃ (n : Fin 2) (x : IccSlot) (s : State), s.iccSlot n.val = x ∧ x.state =
      .activating ∧ x.classB = false :=
⟨1, { en := true, pres := true, state := .activating }, State.reset.withCards fun c =>
      { c with icc := [(1, { en := true, pres := true, state := .activating })] }, by decide⟩

theorem witness_CompleteContactSlots_10 : ∃ (n : Fin 2) (x : IccSlot) (s : State), s.iccSlot n.val = x ∧ x.state =
      .activating ∧ x.classB = true :=
⟨1, { en := true, pres := true, state := .activating, classB := true }, State.reset.withCards fun c =>
      { c with icc := [(1, { en := true, pres := true, state := .activating, classB := true })] }, by decide⟩

theorem witness_CompleteContactSlots_11 : ∃ (n : Fin 2) (s : State), (s.iccSlot n.val).run = some true :=
⟨1, State.reset.withCards fun c => { c with icc := [(1, { run := some true })] }, by decide⟩

theorem witness_CompleteContactSlots_12 : ∃ (n : Fin 2) (r : List Byte) (s : State), (s.iccSlot n.val).run = some true
      :=
⟨1, [0x90, 0], State.reset.withCards fun c => { c with icc := [(1, { run := some true, rxCap := 256 })] }, by decide⟩

theorem witness_CompleteContactSlots_13 : ∃ (n : Fin 2) (x : IccSlot) (s : State), s.iccSlot n.val = x ∧ x.state =
      .active ∧ x.run = none ∧ x.cstopEn = true ∧ x.stop ≠ 0 :=
⟨1, { en := true, pres := true, state := .active, cstopEn := true, stop := 3 }, State.reset.withCards fun c =>
      { c with icc := [(1, { en := true, pres := true, state := .active, cstopEn := true, stop := 3 })] }, by decide⟩

theorem witness_CompleteContactSlots_14 : ∃ (n : Fin 2) (v : Word) (x : IccSlot) (s : State), s.iccSlot n.val = x ∧ x.en
      = false ∧ v.getLsbD 0 = true ∧ x.pres = true :=
⟨1, 5, { pres := true }, State.reset.withCards fun c => { c with icc := [(1, { pres := true })] }, by decide⟩

theorem witness_CompleteCobbler_1 : ∃ (l : List Word) (s : State), s.boot.inReset = false ∧ (hottest l).1 < 105000 ∧
      (100000 < (hottest l).1 ∨ s.cipher.half = false) :=
⟨List.replicate 19 25000, bootReady .running, by decide⟩

theorem witness_CompleteCobbler_2 : ∃ (l : List Word) (s : State), s.boot.inReset = false ∧ s.cobRuns = true ∧ 105000 ≤
      (hottest l).1 ∧ s.cipher.half = false :=
⟨List.replicate 19 106000, cobReady, by decide⟩

theorem witness_CompleteCobbler_3 : ∃ (c : Fin 4) (w : CoreNo) (v : Word) (s : State), w.val = c.val ∧ v.getLsbD 0 =
      true :=
⟨1, 1, 1, State.reset, by decide⟩

theorem witness_CompleteCobbler_4 : ∃ (c : Fin 4) (s : State), (s.core c.val).inReset = false :=
⟨1, coresRunning, by decide⟩

theorem witness_CompleteCobbler_5 : ∃ (c : CoreNo) (s : State), (s.core c.val).inReset = false ∧ (s.core c.val).halted =
      false :=
⟨1, coresRunning, by decide⟩

set_option maxRecDepth 20000 in
theorem witness_CompleteCobbler_6 : ∃ (c : Nat) (wedged : Bool) (t s : State), (s.updCore c fun k =>
      { k with halted := true }).raise 43 (BitVec.ofNat 32 (c + 8 * bit wedged)) = t ∧ c < 4 ∧ t.boot.inReset = false :=
⟨1, true, (coresRunning.updCore 1 fun k => { k with halted := true }).raise 43 9, coresRunning, ⟨rfl, by decide, by
      decide⟩⟩

theorem witness_CompleteCobbler_7 : ∃ (c : Fin 4) (s : State), (s.core c.val).inReset = true ∧ (s.core c.val).hold =
      false ∧ s.coreUsable c.val = true ∧ s.boot.state = .running ∧ s.cob.image = none :=
⟨1, bootReady .running, by decide⟩

theorem witness_CompleteCobbler_8 : ∃ (s : State), (s.core 4).halted = true :=
⟨State.reset.updCore 4 fun k => { k with halted := true }, by decide⟩

theorem witness_CompleteCobbler_10 : ∃ (w : CoreNo) (m : Long) (s : State), w.val ≠ 4 :=
⟨0, 1, State.reset, by decide⟩

theorem witness_CompleteCobbler_11 : ∃ (u : Fin 24) (s : State), s.cobRuns = true ∧ u.val < 16 ∧ (Bank.get {}
      s.cipher.cores u.val).quar = true ∧ (Bank.get {} s.cipher.cores u.val).qcount.toNat < 3 :=
⟨2, cobReady.withCipher fun c => { c with cores := [(2, { quar := true, qcount := 1 })] }, by decide⟩

theorem witness_CompleteCobbler_12 : ∃ (u : Fin 24) (s : State), s.cobRuns = true ∧ 16 ≤ u.val ∧ u.val < 20 ∧ (s.engine
      (u.val - 16)).state = 6 ∧ (s.engine (u.val - 16)).qcount.toNat < 3 :=
⟨17, cobReady.withPke fun _ => [(1, { state := 6 })], by decide⟩

theorem witness_CompleteCobbler_13 : ∃ (u : Fin 24) (s : State), s.cobRuns = true ∧ 20 ≤ u.val ∧ (s.dig.unitAt (u.val -
      20)).quar = true ∧ (s.dig.unitAt (u.val - 20)).qcount < 3 :=
⟨21, cobReady.withDig fun d => { d with units := [(1, { quar := true })] }, by decide⟩

theorem witness_CompleteManagement_1 : ∃ (e : Byte) (s : State), s.cobRuns = true ∧ s.cob.mgtEn = true ∧ e ≠ 0 ∧ e ≠
      0xFF :=
⟨9, cobReady, by decide⟩

theorem witness_CompleteManagement_2 : ∃ (s : State), s.cobRuns = true ∧ s.cob.mgtEn = true :=
⟨cobReady, by decide⟩

theorem witness_CompleteManagement_3 : ∃ (t : Byte) (s : State), s.cobRuns = true ∧ s.cob.mgtEn = true ∧
      mctpTypes.contains t = true :=
⟨5, cobReady, by decide⟩

theorem witness_CompleteManagement_4 : ∃ (t : Byte) (s : State), s.cobRuns = true ∧ s.cob.mgtEn = true ∧ t ≠ 0xFF ∧
      mctpTypes.contains t = false :=
⟨7, cobReady, by decide⟩

theorem witness_CompleteManagement_5 : ∃ (s : State), s.cobRuns = true ∧ s.cob.mgtEn = true :=
⟨cobReady, by decide⟩

theorem witness_CompleteManagement_6 : ∃ (r : Word) (s : State), s.cobRuns = true ∧ s.cob.mgtEn = true ∧ r.toNat ≤ 20 :=
⟨7, cobReady, by decide⟩

theorem witness_CompleteManagement_7 : ∃ (n : Half) (s : State), s.cobRuns = true ∧ s.cob.mgtEn = true ∧ n.toNat ≤ 18 ∧
      (Bank.get (0, 0) s.cob.pldm n.toNat).1 = 0 :=
⟨7, cobReady, by decide⟩

theorem witness_CompleteManagement_8 : ∃ (n : Half) (op ev : Byte) (s : State), s.cobRuns = true ∧ s.cob.mgtEn = true ∧
      n.toNat ≤ 18 ∧ op.toNat ≤ 2 :=
⟨7, 1, 0, cobReady, by decide⟩

theorem witness_CompleteManagement_9 : ∃ (s : State), s.cobRuns = true ∧ s.cob.mgtEn = true :=
⟨cobReady, by decide⟩

theorem witness_CompleteManagement_10 : ∃ (s : State), s.cobRuns = true ∧ s.cob.mgtEn = true :=
⟨cobReady, by decide⟩

theorem witness_CompleteManagement_11 : ∃ (s : State), s.cobRuns = true :=
⟨cobReady, by decide⟩

theorem witness_CompleteManagement_12 : ∃ (s : State), s.cobRuns = true ∧ s.cob.spdm.version = true :=
⟨cobNegotiated, by decide⟩

theorem witness_CompleteManagement_13 : ∃ (s : State), s.cobRuns = true ∧ s.cob.spdm.caps = true :=
⟨cobNegotiated, by decide⟩

theorem witness_CompleteManagement_14 : ∃ (s : State), s.cobRuns = true ∧ s.cob.spdm.algs = true ∧ s.cob.chain ≠ [] :=
⟨cobNegotiated, by decide⟩

theorem witness_CompleteManagement_15 : ∃ (s : State), s.cobRuns = true ∧ s.cob.spdm.algs = false :=
⟨cobReady, by decide⟩

theorem witness_CompleteManagement_16 : ∃ (offset len : Half) (s : State), s.cobRuns = true ∧ s.cob.spdm.algs = true ∧
      offset.toNat < s.cob.chain.length :=
⟨0, 4, cobNegotiated, by decide⟩

theorem witness_CompleteManagement_17 : ∃ (nonce : BitVec 256) (s : State), s.cobRuns = true ∧ s.cob.spdm.algs = true ∧
      s.cob.chain ≠ [] :=
⟨5, cobNegotiated, by decide⟩

theorem witness_CompleteManagement_18 : ∃ (kind : Nat) (parts : List (List Byte)) (k : List Byte → List Byte → State →
      State) (s : State), ((List.range 4).find? fun n => s.engineIdle n && !pkeWaits s n 0x11 true) = none :=
⟨0, [], fun _ _ u => u, State.reset, by decide⟩

theorem witness_CompleteManagement_19 : ∃ (kind n : Nat) (parts : List (List Byte)) (k : List Byte → List Byte → State →
      State) (s : State), ((List.range 4).find? fun n => s.engineIdle n && !pkeWaits s n 0x11 true) = some n :=
⟨0, 0, [], fun _ _ u => u, (bootReady .running).withRng fun r =>
      { r with ready := true, insts := (List.range 16).map fun i => (i, { seeded := true }) }, by decide⟩

theorem witness_CompleteManagement_20 : ∃ (nonce : BitVec 256) (s : State), s.cobRuns = true ∧ s.cob.spdm.algs = true :=
⟨5, cobNegotiated, by decide⟩

theorem witness_CompleteManagement_21 : ∃ (index : Byte) (nonce : BitVec 256) (s : State), s.cobRuns = true ∧
      s.cob.spdm.algs = true ∧ 1 ≤ index.toNat ∧ index.toNat ≤ 32 :=
⟨3, 5, cobNegotiated, by decide⟩

theorem witness_CompleteManagement_22 : ∃ (random : BitVec 256) (doe : Bool) (s : State), s.cobRuns = true ∧
      s.cob.spdm.algs = true ∧ s.cob.chain ≠ [] ∧ s.cob.spdm.session = none :=
⟨5, true, cobNegotiated, by decide⟩

theorem witness_CompleteManagement_23 : ∃ (x : SpdmSession) (s : State), s.cobRuns = true ∧ s.cob.spdm.session = some x
      ∧ x.finished = false :=
⟨{ doe := true }, cobSession, by decide⟩

theorem witness_CompleteManagement_24 : ∃ (x : SpdmSession) (s : State), s.cobRuns = true ∧ s.cob.spdm.session = some x
      :=
⟨{ doe := true }, cobSession, by decide⟩

theorem witness_CompleteManagement_25 : ∃ (n : Nat) (s : State), s.cobRuns = true ∧ s.rng.audit = true ∧ s.spdmOpen =
      true :=
⟨1, (cobSession.withRng fun r => { r with audit := true, raw := [5, 6] }).updSpdm fun x =>
      { x with session := some { doe := true, finished := true } }, by decide⟩

theorem witness_CompleteRegisterWrites_3 : ∃ (v : Word) (s : State), 16 ≤ v.toNat % 65536 :=
⟨100, State.reset, by decide⟩

theorem witness_CompleteRegisterWrites_4 : ∃ (v : Word) (s : State), v.toNat % 65536 < 16 :=
⟨15, State.reset, by decide⟩

theorem witness_CompleteRegisterWrites_6 : ∃ (v : Word) (s : State), (s.engine 0).state = 0 :=
⟨1, State.reset, by decide⟩

theorem witness_CompleteRegisterWrites_11 : ∃ (v : Word) (s : State), (s.sole.get 2).en = false :=
⟨5, State.reset, by decide⟩

theorem witness_CompleteRegisterWrites_13 : ∃ (f : Fin 64) (addr v : Word) (s : State), addr.toNat % 4 ≠ 0 :=
⟨3, 0x1001, 5, State.reset, by decide⟩

theorem witness_CompleteRegisterWrites_14 : ∃ (v : Word) (s : State), s.boot.state = .ready :=
⟨5, bootReady .ready, by decide⟩

theorem witness_CompleteRegisterWrites_15 : ∃ (f : Fin 64) (v : Word) (s : State), 1 ≤ v.toNat % 2 ^ 20 ∧ v.toNat % 2 ^
      20 ≤ 1000000 :=
⟨3, 5000, State.reset, by decide⟩

set_option maxRecDepth 20000 in
theorem witness_CompleteAwlInteger_1_ld : ∃ (c : CoreNo) (i : AwlIn) (v : Word) (t s : State), s.Fetches c.val 0x01 i ∧ formReg i = true ∧ (s.tick c.val).operand c.val i false false = .ok (v, t) :=
  ⟨0, awlIn 0 2 0 5, 5, (holding 0x01 (awlIn 0 2 0 5) awlReady).tick 0, holding 0x01 (awlIn 0 2 0 5) awlReady, ⟨by decide, by decide, by decide⟩, by decide, rfl⟩

set_option maxRecDepth 20000 in
theorem witness_CompleteAwlInteger_1_add : ∃ (c : CoreNo) (i : AwlIn) (v : Word) (t s : State), s.Fetches c.val 0x08 i ∧ formReg i = true ∧ (s.tick c.val).operand c.val i false false = .ok (v, t) :=
  ⟨0, awlIn 0 2 0 5, 5, (holding 0x08 (awlIn 0 2 0 5) awlReady).tick 0, holding 0x08 (awlIn 0 2 0 5) awlReady, ⟨by decide, by decide, by decide⟩, by decide, rfl⟩

set_option maxRecDepth 20000 in
theorem witness_CompleteAwlInteger_1_adc : ∃ (c : CoreNo) (i : AwlIn) (v : Word) (t s : State), s.Fetches c.val 0x09 i ∧ formReg i = true ∧ (s.tick c.val).operand c.val i false false = .ok (v, t) :=
  ⟨0, awlIn 0 2 0 5, 5, (holding 0x09 (awlIn 0 2 0 5) awlReady).tick 0, holding 0x09 (awlIn 0 2 0 5) awlReady, ⟨by decide, by decide, by decide⟩, by decide, rfl⟩

set_option maxRecDepth 20000 in
theorem witness_CompleteAwlInteger_1_sub : ∃ (c : CoreNo) (i : AwlIn) (v : Word) (t s : State), s.Fetches c.val 0x0A i ∧ formReg i = true ∧ (s.tick c.val).operand c.val i false false = .ok (v, t) :=
  ⟨0, awlIn 0 2 0 5, 5, (holding 0x0A (awlIn 0 2 0 5) awlReady).tick 0, holding 0x0A (awlIn 0 2 0 5) awlReady, ⟨by decide, by decide, by decide⟩, by decide, rfl⟩

set_option maxRecDepth 20000 in
theorem witness_CompleteAwlInteger_1_sbc : ∃ (c : CoreNo) (i : AwlIn) (v : Word) (t s : State), s.Fetches c.val 0x0B i ∧ formReg i = true ∧ (s.tick c.val).operand c.val i false false = .ok (v, t) :=
  ⟨0, awlIn 0 2 0 5, 5, (holding 0x0B (awlIn 0 2 0 5) awlReady).tick 0, holding 0x0B (awlIn 0 2 0 5) awlReady, ⟨by decide, by decide, by decide⟩, by decide, rfl⟩

set_option maxRecDepth 20000 in
theorem witness_CompleteAwlInteger_1_cmp : ∃ (c : CoreNo) (i : AwlIn) (v : Word) (t s : State), s.Fetches c.val 0x0C i ∧ formReg i = true ∧ (s.tick c.val).operand c.val i false false = .ok (v, t) :=
  ⟨0, awlIn 0 2 0 5, 5, (holding 0x0C (awlIn 0 2 0 5) awlReady).tick 0, holding 0x0C (awlIn 0 2 0 5) awlReady, ⟨by decide, by decide, by decide⟩, by decide, rfl⟩

set_option maxRecDepth 20000 in
theorem witness_CompleteAwlInteger_1_shl : ∃ (c : CoreNo) (i : AwlIn) (v : Word) (t s : State), s.Fetches c.val 0x10 i ∧ formReg i = true ∧ (s.tick c.val).operand c.val i false false = .ok (v, t) :=
  ⟨0, awlIn 0 2 0 5, 5, (holding 0x10 (awlIn 0 2 0 5) awlReady).tick 0, holding 0x10 (awlIn 0 2 0 5) awlReady, ⟨by decide, by decide, by decide⟩, by decide, rfl⟩

set_option maxRecDepth 20000 in
theorem witness_CompleteAwlInteger_1_shr : ∃ (c : CoreNo) (i : AwlIn) (v : Word) (t s : State), s.Fetches c.val 0x11 i ∧ formReg i = true ∧ (s.tick c.val).operand c.val i false false = .ok (v, t) :=
  ⟨0, awlIn 0 2 0 5, 5, (holding 0x11 (awlIn 0 2 0 5) awlReady).tick 0, holding 0x11 (awlIn 0 2 0 5) awlReady, ⟨by decide, by decide, by decide⟩, by decide, rfl⟩

set_option maxRecDepth 20000 in
theorem witness_CompleteAwlInteger_1_asr : ∃ (c : CoreNo) (i : AwlIn) (v : Word) (t s : State), s.Fetches c.val 0x12 i ∧ formReg i = true ∧ (s.tick c.val).operand c.val i false false = .ok (v, t) :=
  ⟨0, awlIn 0 2 0 5, 5, (holding 0x12 (awlIn 0 2 0 5) awlReady).tick 0, holding 0x12 (awlIn 0 2 0 5) awlReady, ⟨by decide, by decide, by decide⟩, by decide, rfl⟩

set_option maxRecDepth 20000 in
theorem witness_CompleteAwlInteger_1_rol : ∃ (c : CoreNo) (i : AwlIn) (v : Word) (t s : State), s.Fetches c.val 0x13 i ∧ formReg i = true ∧ (s.tick c.val).operand c.val i false false = .ok (v, t) :=
  ⟨0, awlIn 0 2 0 5, 5, (holding 0x13 (awlIn 0 2 0 5) awlReady).tick 0, holding 0x13 (awlIn 0 2 0 5) awlReady, ⟨by decide, by decide, by decide⟩, by decide, rfl⟩

set_option maxRecDepth 20000 in
theorem witness_CompleteAwlInteger_1_mul : ∃ (c : CoreNo) (i : AwlIn) (v : Word) (t s : State), s.Fetches c.val 0x16 i ∧ formReg i = true ∧ (s.tick c.val).operand c.val i false false = .ok (v, t) :=
  ⟨0, awlIn 0 2 0 5, 5, (holding 0x16 (awlIn 0 2 0 5) awlReady).tick 0, holding 0x16 (awlIn 0 2 0 5) awlReady, ⟨by decide, by decide, by decide⟩, by decide, rfl⟩

set_option maxRecDepth 20000 in
theorem witness_CompleteAwlInteger_1_mulh : ∃ (c : CoreNo) (i : AwlIn) (v : Word) (t s : State), s.Fetches c.val 0x17 i ∧ formReg i = true ∧ (s.tick c.val).operand c.val i false false = .ok (v, t) :=
  ⟨0, awlIn 0 2 0 5, 5, (holding 0x17 (awlIn 0 2 0 5) awlReady).tick 0, holding 0x17 (awlIn 0 2 0 5) awlReady, ⟨by decide, by decide, by decide⟩, by decide, rfl⟩


set_option maxRecDepth 20000 in
theorem witness_CompleteAwlInteger_2_ldu : ∃ (c : CoreNo) (i : AwlIn) (v : Word) (t s : State), s.Fetches c.val 0x02 i ∧ formReg i = true ∧ (s.tick c.val).operand c.val i true true = .ok (v, t) :=
  ⟨0, awlIn 0 2 0 5, 5, (holding 0x02 (awlIn 0 2 0 5) awlReady).tick 0, holding 0x02 (awlIn 0 2 0 5) awlReady, ⟨by decide, by decide, by decide⟩, by decide, rfl⟩

set_option maxRecDepth 20000 in
theorem witness_CompleteAwlInteger_2_and : ∃ (c : CoreNo) (i : AwlIn) (v : Word) (t s : State), s.Fetches c.val 0x0D i ∧ formReg i = true ∧ (s.tick c.val).operand c.val i true true = .ok (v, t) :=
  ⟨0, awlIn 0 2 0 5, 5, (holding 0x0D (awlIn 0 2 0 5) awlReady).tick 0, holding 0x0D (awlIn 0 2 0 5) awlReady, ⟨by decide, by decide, by decide⟩, by decide, rfl⟩

set_option maxRecDepth 20000 in
theorem witness_CompleteAwlInteger_2_or : ∃ (c : CoreNo) (i : AwlIn) (v : Word) (t s : State), s.Fetches c.val 0x0E i ∧ formReg i = true ∧ (s.tick c.val).operand c.val i true true = .ok (v, t) :=
  ⟨0, awlIn 0 2 0 5, 5, (holding 0x0E (awlIn 0 2 0 5) awlReady).tick 0, holding 0x0E (awlIn 0 2 0 5) awlReady, ⟨by decide, by decide, by decide⟩, by decide, rfl⟩

set_option maxRecDepth 20000 in
theorem witness_CompleteAwlInteger_2_xor : ∃ (c : CoreNo) (i : AwlIn) (v : Word) (t s : State), s.Fetches c.val 0x0F i ∧ formReg i = true ∧ (s.tick c.val).operand c.val i true true = .ok (v, t) :=
  ⟨0, awlIn 0 2 0 5, 5, (holding 0x0F (awlIn 0 2 0 5) awlReady).tick 0, holding 0x0F (awlIn 0 2 0 5) awlReady, ⟨by decide, by decide, by decide⟩, by decide, rfl⟩

set_option maxRecDepth 20000 in
theorem witness_CompleteAwlInteger_2_tst : ∃ (c : CoreNo) (i : AwlIn) (v : Word) (t s : State), s.Fetches c.val 0x14 i ∧ formReg i = true ∧ (s.tick c.val).operand c.val i true true = .ok (v, t) :=
  ⟨0, awlIn 0 2 0 5, 5, (holding 0x14 (awlIn 0 2 0 5) awlReady).tick 0, holding 0x14 (awlIn 0 2 0 5) awlReady, ⟨by decide, by decide, by decide⟩, by decide, rfl⟩


set_option maxRecDepth 20000 in
theorem witness_CompleteAwlInteger_3_divu : ∃ (c : CoreNo) (i : AwlIn) (v : Word) (t s : State), s.Fetches c.val 0x1B i ∧ formReg i = true ∧ (s.tick c.val).operand c.val i false false = .ok (v, t) ∧ v ≠ 0 :=
  ⟨0, awlIn 0 2 0 5, 5, (holding 0x1B (awlIn 0 2 0 5) awlReady).tick 0, holding 0x1B (awlIn 0 2 0 5) awlReady, ⟨by decide, by decide, by decide⟩, by decide, rfl, by decide⟩

set_option maxRecDepth 20000 in
theorem witness_CompleteAwlInteger_3_divs : ∃ (c : CoreNo) (i : AwlIn) (v : Word) (t s : State), s.Fetches c.val 0x1C i ∧ formReg i = true ∧ (s.tick c.val).operand c.val i false false = .ok (v, t) ∧ v ≠ 0 :=
  ⟨0, awlIn 0 2 0 5, 5, (holding 0x1C (awlIn 0 2 0 5) awlReady).tick 0, holding 0x1C (awlIn 0 2 0 5) awlReady, ⟨by decide, by decide, by decide⟩, by decide, rfl, by decide⟩


set_option maxRecDepth 20000 in
theorem witness_CompleteAwlInteger_4_divu : ∃ (c : CoreNo) (i : AwlIn) (t s : State), s.Fetches c.val 0x1B i ∧ formReg i = true ∧ (s.tick c.val).operand c.val i false false = .ok (0, t) :=
  ⟨0, awlIn 0 2 0 0, (holding 0x1B (awlIn 0 2 0 0) awlReady).tick 0, holding 0x1B (awlIn 0 2 0 0) awlReady, ⟨by decide, by decide, by decide⟩, by decide, rfl⟩

set_option maxRecDepth 20000 in
theorem witness_CompleteAwlInteger_4_divs : ∃ (c : CoreNo) (i : AwlIn) (t s : State), s.Fetches c.val 0x1C i ∧ formReg i = true ∧ (s.tick c.val).operand c.val i false false = .ok (0, t) :=
  ⟨0, awlIn 0 2 0 0, (holding 0x1C (awlIn 0 2 0 0) awlReady).tick 0, holding 0x1C (awlIn 0 2 0 0) awlReady, ⟨by decide, by decide, by decide⟩, by decide, rfl⟩


set_option maxRecDepth 20000 in
theorem witness_CompleteAwlInteger_5 : ∃ (c : CoreNo) (i : AwlIn) (t s : State), s.Fetches c.val 0x03 i ∧ formStore i =
      true ∧ (s.tick c.val).storeEa c.val i (leBytes (Machine.sizeOf i) (((s.tick c.val).core c.val).reg (modOf
      i)).toNat) false = .ok t :=
⟨0, awlIn 5 2 1 4, ((holding 0x03 (awlIn 5 2 1 4) awlReady).tick 0).writeArea 0 .machine 0x80000 [3, 0, 0, 0], holding
      0x03 (awlIn 5 2 1 4) awlReady, ⟨by decide, by decide, by decide⟩, by decide, rfl⟩

set_option maxRecDepth 20000 in
theorem witness_CompleteAwlInteger_6 : ∃ (c : CoreNo) (i : AwlIn) (v : Word) (t s : State), s.Fetches c.val 0x04 i ∧
      formLong i = true ∧ szOf i = 2 ∧ (s.tick c.val).operand c.val i false false = .ok (v, t) :=
⟨0, awlIn 0 2 0 5, 5, (holding 0x04 (awlIn 0 2 0 5) awlReady).tick 0, holding 0x04 (awlIn 0 2 0 5) awlReady, ⟨by decide,
      by decide, by decide⟩, by decide, by decide, rfl⟩

set_option maxRecDepth 20000 in
theorem witness_CompleteAwlInteger_7 : ∃ (c : CoreNo) (i : AwlIn) (bs : List Byte) (t s : State), s.Fetches c.val 0x04 i
      ∧ formLong i = true ∧ szOf i = 3 ∧ (s.tick c.val).loadEa c.val i 8 false = .ok (bs, t) :=
⟨0, awlIn 5 3 0 8, List.replicate 8 0, (holding 0x04 (awlIn 5 3 0 8) awlReady).tick 0, holding 0x04 (awlIn 5 3 0 8)
      awlReady, ⟨by decide, by decide, by decide⟩, by decide, by decide, rfl⟩

set_option maxRecDepth 20000 in
theorem witness_CompleteAwlInteger_8 : ∃ (c : CoreNo) (i : AwlIn) (t s : State), s.Fetches c.val 0x05 i ∧ amMem i = true
      ∧ formLong i = true ∧ szOf i = 2 ∧ (s.tick c.val).storeEa c.val i (leBytes 4 ((s.tick c.val).core
      c.val).aWord.1.toNat) false = .ok t :=
⟨0, awlIn 5 2 0 4, ((holding 0x05 (awlIn 5 2 0 4) awlReady).tick 0).writeArea 0 .machine 0x80000 [5, 0, 0, 0], holding
      0x05 (awlIn 5 2 0 4) awlReady, ⟨by decide, by decide, by decide⟩, by decide, by decide, by decide, rfl⟩

set_option maxRecDepth 20000 in
theorem witness_CompleteAwlInteger_9 : ∃ (c : CoreNo) (i : AwlIn) (t s : State), s.Fetches c.val 0x05 i ∧ amMem i = true
      ∧ formLong i = true ∧ szOf i = 3 ∧ (s.tick c.val).storeEa c.val i (leBytes 4 (((s.tick c.val).core c.val).a.toNat
      % 2 ^ 32) ++ leBytes 4 (((s.tick c.val).core c.val).a.toNat / 2 ^ 32)) false = .ok t :=
⟨0, awlIn 5 3 0 8, ((holding 0x05 (awlIn 5 3 0 8) awlReady).tick 0).writeArea 0 .machine 0x80000 [5, 0, 0, 0, 0, 0, 0,
      0], holding 0x05 (awlIn 5 3 0 8) awlReady, ⟨by decide, by decide, by decide⟩, by decide, by decide, by decide,
      rfl⟩

set_option maxRecDepth 20000 in
theorem witness_CompleteAwlInteger_10 : ∃ (c : CoreNo) (i : AwlIn) (s : State), s.Fetches c.val 0x00 i ∧ formNone i =
      true :=
⟨0, awlIn 0 0 0 0, holding 0x00 (awlIn 0 0 0 0) awlReady, ⟨by decide, by decide, by decide⟩, by decide⟩

set_option maxRecDepth 20000 in
theorem witness_CompleteAwlInteger_11 : ∃ (c : CoreNo) (i : AwlIn) (s : State), s.Fetches c.val 0x06 i ∧ (formRegImm i
      && decide (d16Of i ≤ 4)) = true :=
⟨0, awlIn 0 2 0 4, holding 0x06 (awlIn 0 2 0 4) awlReady, ⟨by decide, by decide, by decide⟩, by decide⟩

set_option maxRecDepth 20000 in
theorem witness_CompleteAwlInteger_12 : ∃ (c : CoreNo) (i : AwlIn) (s : State), s.Fetches c.val 0x07 i ∧ formRegImm i =
      true :=
⟨0, awlIn 0 2 0 4, holding 0x07 (awlIn 0 2 0 4) awlReady, ⟨by decide, by decide, by decide⟩, by decide⟩

set_option maxRecDepth 20000 in
theorem witness_CompleteAwlInteger_13 : ∃ (c : CoreNo) (i : AwlIn) (s : State), s.Fetches c.val 0x15 i ∧ (amMem i && szW
      i && regOk i) = true :=
⟨0, awlIn 4 2 0 4, holding 0x15 (awlIn 4 2 0 4) awlReady, ⟨by decide, by decide, by decide⟩, by decide⟩

set_option maxRecDepth 20000 in
theorem witness_CompleteAwlInteger_14 : ∃ (c : CoreNo) (i : AwlIn) (s : State), s.Fetches c.val 0x18 i ∧ (amImm i &&
      decide (szOf i ≤ 1) && regOk i && d16Zero i) = true :=
⟨0, awlIn 0 1 0 0, holding 0x18 (awlIn 0 1 0 0) awlReady, ⟨by decide, by decide, by decide⟩, by decide⟩

set_option maxRecDepth 20000 in
theorem witness_CompleteAwlInteger_15 : ∃ (c : CoreNo) (i : AwlIn) (t s : State), s.Fetches c.val 0x19 i ∧ formStack i =
      true ∧ (s.tick c.val).storeMem c.val ((s.tick c.val).core c.val).level (((s.tick c.val).core c.val).sp ((s.tick
      c.val).core c.val).level - 4).toNat (leBytes 4 (((s.tick c.val).core c.val).reg (modOf i)).toNat) true false i =
      .ok t :=
⟨0, awlIn 0 2 1 0, ((holding 0x19 (awlIn 0 2 1 0) awlReady).tick 0).writeArea 0 .machine 0x8FFFC [3, 0, 0, 0], holding
      0x19 (awlIn 0 2 1 0) awlReady, ⟨by decide, by decide, by decide⟩, by decide, rfl⟩

set_option maxRecDepth 20000 in
theorem witness_CompleteAwlInteger_16 : ∃ (c : CoreNo) (i : AwlIn) (bs : List Byte) (t s : State), s.Fetches c.val 0x1A
      i ∧ formStack i = true ∧ (s.tick c.val).loadMem c.val ((s.tick c.val).core c.val).level (((s.tick c.val).core
      c.val).sp ((s.tick c.val).core c.val).level).toNat 4 true false i = .ok (bs, t) :=
⟨0, awlIn 0 2 1 0, [0, 0, 0, 0], (holding 0x1A (awlIn 0 2 1 0) awlReady).tick 0, holding 0x1A (awlIn 0 2 1 0) awlReady,
      ⟨by decide, by decide, by decide⟩, by decide, rfl⟩

set_option maxRecDepth 20000 in
theorem witness_CompleteAwlFixedPoint_1_mpy : ∃ (c : CoreNo) (i : AwlIn) (v : Word) (t s : State), s.Fetches c.val 0x20 i ∧ formMac i = true ∧ (s.tick c.val).operand c.val i false false = .ok (v, t) :=
  ⟨0, awlIn 0 2 0 5, 5, (holding 0x20 (awlIn 0 2 0 5) awlReady).tick 0, holding 0x20 (awlIn 0 2 0 5) awlReady, ⟨by decide, by decide, by decide⟩, by decide, rfl⟩

set_option maxRecDepth 20000 in
theorem witness_CompleteAwlFixedPoint_1_mac : ∃ (c : CoreNo) (i : AwlIn) (v : Word) (t s : State), s.Fetches c.val 0x21 i ∧ formMac i = true ∧ (s.tick c.val).operand c.val i false false = .ok (v, t) :=
  ⟨0, awlIn 0 2 0 5, 5, (holding 0x21 (awlIn 0 2 0 5) awlReady).tick 0, holding 0x21 (awlIn 0 2 0 5) awlReady, ⟨by decide, by decide, by decide⟩, by decide, rfl⟩

set_option maxRecDepth 20000 in
theorem witness_CompleteAwlFixedPoint_1_msu : ∃ (c : CoreNo) (i : AwlIn) (v : Word) (t s : State), s.Fetches c.val 0x22 i ∧ formMac i = true ∧ (s.tick c.val).operand c.val i false false = .ok (v, t) :=
  ⟨0, awlIn 0 2 0 5, 5, (holding 0x22 (awlIn 0 2 0 5) awlReady).tick 0, holding 0x22 (awlIn 0 2 0 5) awlReady, ⟨by decide, by decide, by decide⟩, by decide, rfl⟩


set_option maxRecDepth 20000 in
theorem witness_CompleteAwlFixedPoint_2_adda : ∃ (c : CoreNo) (i : AwlIn) (v : Word) (t s : State), s.Fetches c.val 0x23 i ∧ formAcc i = true ∧ (s.tick c.val).operand c.val i false false = .ok (v, t) :=
  ⟨0, awlIn 0 2 0 5, 5, (holding 0x23 (awlIn 0 2 0 5) awlReady).tick 0, holding 0x23 (awlIn 0 2 0 5) awlReady, ⟨by decide, by decide, by decide⟩, by decide, rfl⟩

set_option maxRecDepth 20000 in
theorem witness_CompleteAwlFixedPoint_2_suba : ∃ (c : CoreNo) (i : AwlIn) (v : Word) (t s : State), s.Fetches c.val 0x24 i ∧ formAcc i = true ∧ (s.tick c.val).operand c.val i false false = .ok (v, t) :=
  ⟨0, awlIn 0 2 0 5, 5, (holding 0x24 (awlIn 0 2 0 5) awlReady).tick 0, holding 0x24 (awlIn 0 2 0 5) awlReady, ⟨by decide, by decide, by decide⟩, by decide, rfl⟩

set_option maxRecDepth 20000 in
theorem witness_CompleteAwlFixedPoint_2_asla : ∃ (c : CoreNo) (i : AwlIn) (v : Word) (t s : State), s.Fetches c.val 0x2C i ∧ formAcc i = true ∧ (s.tick c.val).operand c.val i false false = .ok (v, t) :=
  ⟨0, awlIn 0 2 0 5, 5, (holding 0x2C (awlIn 0 2 0 5) awlReady).tick 0, holding 0x2C (awlIn 0 2 0 5) awlReady, ⟨by decide, by decide, by decide⟩, by decide, rfl⟩

set_option maxRecDepth 20000 in
theorem witness_CompleteAwlFixedPoint_2_asra : ∃ (c : CoreNo) (i : AwlIn) (v : Word) (t s : State), s.Fetches c.val 0x2D i ∧ formAcc i = true ∧ (s.tick c.val).operand c.val i false false = .ok (v, t) :=
  ⟨0, awlIn 0 2 0 5, 5, (holding 0x2D (awlIn 0 2 0 5) awlReady).tick 0, holding 0x2D (awlIn 0 2 0 5) awlReady, ⟨by decide, by decide, by decide⟩, by decide, rfl⟩

set_option maxRecDepth 20000 in
theorem witness_CompleteAwlFixedPoint_2_cmpa : ∃ (c : CoreNo) (i : AwlIn) (v : Word) (t s : State), s.Fetches c.val 0x2F i ∧ formAcc i = true ∧ (s.tick c.val).operand c.val i false false = .ok (v, t) :=
  ⟨0, awlIn 0 2 0 5, 5, (holding 0x2F (awlIn 0 2 0 5) awlReady).tick 0, holding 0x2F (awlIn 0 2 0 5) awlReady, ⟨by decide, by decide, by decide⟩, by decide, rfl⟩


set_option maxRecDepth 20000 in
theorem witness_CompleteAwlFixedPoint_3 : ∃ (c : CoreNo) (i : AwlIn) (v : Word) (t s : State), s.Fetches c.val 0x2B i ∧
      (szBHW i && modZero i) = true ∧ (s.tick c.val).operand c.val i false false = .ok (v, t) :=
⟨0, awlIn 0 2 0 5, 5, (holding 0x2B (awlIn 0 2 0 5) awlReady).tick 0, holding 0x2B (awlIn 0 2 0 5) awlReady, ⟨by decide,
      by decide, by decide⟩, by decide, rfl⟩

set_option maxRecDepth 20000 in
theorem witness_CompleteAwlFixedPoint_4_sata : ∃ (c : CoreNo) (i : AwlIn) (s : State), s.Fetches c.val 0x26 i ∧ formNone i = true :=
  ⟨0, awlIn 0 0 0 0, holding 0x26 (awlIn 0 0 0 0) awlReady, ⟨by decide, by decide, by decide⟩, by decide⟩

set_option maxRecDepth 20000 in
theorem witness_CompleteAwlFixedPoint_4_abs : ∃ (c : CoreNo) (i : AwlIn) (s : State), s.Fetches c.val 0x28 i ∧ formNone i = true :=
  ⟨0, awlIn 0 0 0 0, holding 0x28 (awlIn 0 0 0 0) awlReady, ⟨by decide, by decide, by decide⟩, by decide⟩

set_option maxRecDepth 20000 in
theorem witness_CompleteAwlFixedPoint_4_neg : ∃ (c : CoreNo) (i : AwlIn) (s : State), s.Fetches c.val 0x29 i ∧ formNone i = true :=
  ⟨0, awlIn 0 0 0 0, holding 0x29 (awlIn 0 0 0 0) awlReady, ⟨by decide, by decide, by decide⟩, by decide⟩

set_option maxRecDepth 20000 in
theorem witness_CompleteAwlFixedPoint_4_clra : ∃ (c : CoreNo) (i : AwlIn) (s : State), s.Fetches c.val 0x2A i ∧ formNone i = true :=
  ⟨0, awlIn 0 0 0 0, holding 0x2A (awlIn 0 0 0 0) awlReady, ⟨by decide, by decide, by decide⟩, by decide⟩


set_option maxRecDepth 20000 in
theorem witness_CompleteAwlFixedPoint_5 : ∃ (c : CoreNo) (i : AwlIn) (s : State), s.Fetches c.val 0x25 i ∧ (amImm i &&
      formAcc i && decide (d16Of i < 32)) = true :=
⟨0, awlIn 0 2 0 4, holding 0x25 (awlIn 0 2 0 4) awlReady, ⟨by decide, by decide, by decide⟩, by decide⟩

set_option maxRecDepth 20000 in
theorem witness_CompleteAwlFixedPoint_6 : ∃ (c : CoreNo) (i : AwlIn) (s : State), s.Fetches c.val 0x27 i ∧ (amImm i &&
      szNone i && decide (modOf i ≤ 1) && d16Zero i) = true :=
⟨0, awlIn 0 0 1 0, holding 0x27 (awlIn 0 0 1 0) awlReady, ⟨by decide, by decide, by decide⟩, by decide⟩

set_option maxRecDepth 20000 in
theorem witness_CompleteAwlFixedPoint_7 : ∃ (c : CoreNo) (i : AwlIn) (s : State), s.Fetches c.val 0x2E i ∧ (amImm i &&
      szNone i && regOk i && d16Zero i) = true :=
⟨0, awlIn 0 0 0 0, holding 0x2E (awlIn 0 0 0 0) awlReady, ⟨by decide, by decide, by decide⟩, by decide⟩

set_option maxRecDepth 20000 in
theorem witness_CompleteAwlFlow_1_bra : ∃ (c : CoreNo) (i : AwlIn) (s : State), s.Fetches c.val 0x40 i ∧ formBranch i = true ∧ (((s.tick c.val).core c.val).ea i).toNat % 4 = 0 :=
  ⟨0, awlIn 7 2 0 2, holding 0x40 (awlIn 7 2 0 2) awlReady, ⟨by decide, by decide, by decide⟩, by decide, by decide⟩

set_option maxRecDepth 20000 in
theorem witness_CompleteAwlFlow_1_beq : ∃ (c : CoreNo) (i : AwlIn) (s : State), s.Fetches c.val 0x41 i ∧ formBranch i = true ∧ (((s.tick c.val).core c.val).ea i).toNat % 4 = 0 :=
  ⟨0, awlIn 7 2 0 2, holding 0x41 (awlIn 7 2 0 2) awlReady, ⟨by decide, by decide, by decide⟩, by decide, by decide⟩

set_option maxRecDepth 20000 in
theorem witness_CompleteAwlFlow_1_bne : ∃ (c : CoreNo) (i : AwlIn) (s : State), s.Fetches c.val 0x42 i ∧ formBranch i = true ∧ (((s.tick c.val).core c.val).ea i).toNat % 4 = 0 :=
  ⟨0, awlIn 7 2 0 2, holding 0x42 (awlIn 7 2 0 2) awlReady, ⟨by decide, by decide, by decide⟩, by decide, by decide⟩

set_option maxRecDepth 20000 in
theorem witness_CompleteAwlFlow_1_blt : ∃ (c : CoreNo) (i : AwlIn) (s : State), s.Fetches c.val 0x43 i ∧ formBranch i = true ∧ (((s.tick c.val).core c.val).ea i).toNat % 4 = 0 :=
  ⟨0, awlIn 7 2 0 2, holding 0x43 (awlIn 7 2 0 2) awlReady, ⟨by decide, by decide, by decide⟩, by decide, by decide⟩

set_option maxRecDepth 20000 in
theorem witness_CompleteAwlFlow_1_bge : ∃ (c : CoreNo) (i : AwlIn) (s : State), s.Fetches c.val 0x44 i ∧ formBranch i = true ∧ (((s.tick c.val).core c.val).ea i).toNat % 4 = 0 :=
  ⟨0, awlIn 7 2 0 2, holding 0x44 (awlIn 7 2 0 2) awlReady, ⟨by decide, by decide, by decide⟩, by decide, by decide⟩

set_option maxRecDepth 20000 in
theorem witness_CompleteAwlFlow_1_bgt : ∃ (c : CoreNo) (i : AwlIn) (s : State), s.Fetches c.val 0x45 i ∧ formBranch i = true ∧ (((s.tick c.val).core c.val).ea i).toNat % 4 = 0 :=
  ⟨0, awlIn 7 2 0 2, holding 0x45 (awlIn 7 2 0 2) awlReady, ⟨by decide, by decide, by decide⟩, by decide, by decide⟩

set_option maxRecDepth 20000 in
theorem witness_CompleteAwlFlow_1_ble : ∃ (c : CoreNo) (i : AwlIn) (s : State), s.Fetches c.val 0x46 i ∧ formBranch i = true ∧ (((s.tick c.val).core c.val).ea i).toNat % 4 = 0 :=
  ⟨0, awlIn 7 2 0 2, holding 0x46 (awlIn 7 2 0 2) awlReady, ⟨by decide, by decide, by decide⟩, by decide, by decide⟩

set_option maxRecDepth 20000 in
theorem witness_CompleteAwlFlow_1_blo : ∃ (c : CoreNo) (i : AwlIn) (s : State), s.Fetches c.val 0x47 i ∧ formBranch i = true ∧ (((s.tick c.val).core c.val).ea i).toNat % 4 = 0 :=
  ⟨0, awlIn 7 2 0 2, holding 0x47 (awlIn 7 2 0 2) awlReady, ⟨by decide, by decide, by decide⟩, by decide, by decide⟩

set_option maxRecDepth 20000 in
theorem witness_CompleteAwlFlow_1_bhs : ∃ (c : CoreNo) (i : AwlIn) (s : State), s.Fetches c.val 0x48 i ∧ formBranch i = true ∧ (((s.tick c.val).core c.val).ea i).toNat % 4 = 0 :=
  ⟨0, awlIn 7 2 0 2, holding 0x48 (awlIn 7 2 0 2) awlReady, ⟨by decide, by decide, by decide⟩, by decide, by decide⟩

set_option maxRecDepth 20000 in
theorem witness_CompleteAwlFlow_1_bhi : ∃ (c : CoreNo) (i : AwlIn) (s : State), s.Fetches c.val 0x49 i ∧ formBranch i = true ∧ (((s.tick c.val).core c.val).ea i).toNat % 4 = 0 :=
  ⟨0, awlIn 7 2 0 2, holding 0x49 (awlIn 7 2 0 2) awlReady, ⟨by decide, by decide, by decide⟩, by decide, by decide⟩

set_option maxRecDepth 20000 in
theorem witness_CompleteAwlFlow_1_bls : ∃ (c : CoreNo) (i : AwlIn) (s : State), s.Fetches c.val 0x4A i ∧ formBranch i = true ∧ (((s.tick c.val).core c.val).ea i).toNat % 4 = 0 :=
  ⟨0, awlIn 7 2 0 2, holding 0x4A (awlIn 7 2 0 2) awlReady, ⟨by decide, by decide, by decide⟩, by decide, by decide⟩

set_option maxRecDepth 20000 in
theorem witness_CompleteAwlFlow_1_bmi : ∃ (c : CoreNo) (i : AwlIn) (s : State), s.Fetches c.val 0x4B i ∧ formBranch i = true ∧ (((s.tick c.val).core c.val).ea i).toNat % 4 = 0 :=
  ⟨0, awlIn 7 2 0 2, holding 0x4B (awlIn 7 2 0 2) awlReady, ⟨by decide, by decide, by decide⟩, by decide, by decide⟩

set_option maxRecDepth 20000 in
theorem witness_CompleteAwlFlow_1_bpl : ∃ (c : CoreNo) (i : AwlIn) (s : State), s.Fetches c.val 0x4C i ∧ formBranch i = true ∧ (((s.tick c.val).core c.val).ea i).toNat % 4 = 0 :=
  ⟨0, awlIn 7 2 0 2, holding 0x4C (awlIn 7 2 0 2) awlReady, ⟨by decide, by decide, by decide⟩, by decide, by decide⟩

set_option maxRecDepth 20000 in
theorem witness_CompleteAwlFlow_1_bvs : ∃ (c : CoreNo) (i : AwlIn) (s : State), s.Fetches c.val 0x4D i ∧ formBranch i = true ∧ (((s.tick c.val).core c.val).ea i).toNat % 4 = 0 :=
  ⟨0, awlIn 7 2 0 2, holding 0x4D (awlIn 7 2 0 2) awlReady, ⟨by decide, by decide, by decide⟩, by decide, by decide⟩

set_option maxRecDepth 20000 in
theorem witness_CompleteAwlFlow_1_bvc : ∃ (c : CoreNo) (i : AwlIn) (s : State), s.Fetches c.val 0x4E i ∧ formBranch i = true ∧ (((s.tick c.val).core c.val).ea i).toNat % 4 = 0 :=
  ⟨0, awlIn 7 2 0 2, holding 0x4E (awlIn 7 2 0 2) awlReady, ⟨by decide, by decide, by decide⟩, by decide, by decide⟩

set_option maxRecDepth 20000 in
theorem witness_CompleteAwlFlow_1_bsv : ∃ (c : CoreNo) (i : AwlIn) (s : State), s.Fetches c.val 0x4F i ∧ formBranch i = true ∧ (((s.tick c.val).core c.val).ea i).toNat % 4 = 0 :=
  ⟨0, awlIn 7 2 0 2, holding 0x4F (awlIn 7 2 0 2) awlReady, ⟨by decide, by decide, by decide⟩, by decide, by decide⟩


set_option maxRecDepth 20000 in
theorem witness_CompleteAwlFlow_2 : ∃ (c : CoreNo) (i : AwlIn) (t s : State), s.Fetches c.val 0x50 i ∧ formBranch i =
      true ∧ (((s.tick c.val).core c.val).ea i).toNat % 4 = 0 ∧ (s.tick c.val).storeMem c.val ((s.tick c.val).core
      c.val).level (((s.tick c.val).core c.val).sp ((s.tick c.val).core c.val).level - 4).toNat (leBytes 4 (((s.tick
      c.val).core c.val).pc + 4).toNat) true false i = .ok t :=
⟨0, awlIn 7 2 0 2, ((holding 0x50 (awlIn 7 2 0 2) awlReady).tick 0).writeArea 0 .machine 0x8FFFC [4, 0, 4, 0], holding
      0x50 (awlIn 7 2 0 2) awlReady, ⟨by decide, by decide, by decide⟩, by decide, by decide, rfl⟩

set_option maxRecDepth 20000 in
theorem witness_CompleteAwlFlow_3 : ∃ (c : CoreNo) (i : AwlIn) (bs : List Byte) (t s : State), s.Fetches c.val 0x51 i ∧
      formNone i = true ∧ (s.tick c.val).loadMem c.val ((s.tick c.val).core c.val).level (((s.tick c.val).core c.val).sp
      ((s.tick c.val).core c.val).level).toNat 4 true false i = .ok (bs, t) ∧ (BitVec.ofNat 32 (ofLe bs)).toNat % 4 = 0
      :=
⟨0, awlIn 0 0 0 0, [0, 0, 0, 0], (holding 0x51 (awlIn 0 0 0 0) awlReady).tick 0, holding 0x51 (awlIn 0 0 0 0) awlReady,
      ⟨by decide, by decide, by decide⟩, by decide, rfl, by decide⟩

set_option maxRecDepth 20000 in
theorem witness_CompleteAwlFlow_4 : ∃ (c : CoreNo) (i : AwlIn) (s : State), s.Fetches c.val 0x52 i ∧ formNone i = true ∧
      ((s.tick c.val).core c.val).level ≠ .user ∧ (((s.tick c.val).core c.val).inWindow ((s.tick c.val).core
      c.val).level (((s.tick c.val).core c.val).sp ((s.tick c.val).core c.val).level).toNat 32 && decide ((((s.tick
      c.val).core c.val).sp ((s.tick c.val).core c.val).level).toNat % 4 = 0) && (s.tick c.val).frameReadable c.val
      ((s.tick c.val).core c.val).level (((s.tick c.val).core c.val).sp ((s.tick c.val).core c.val).level).toNat) = true
      ∧ i.accessErr = none ∧ rteCheck ((s.tick c.val).core c.val) ((s.tick c.val).core c.val).level ((s.tick
      c.val).readFrame c.val ((s.tick c.val).core c.val).level (((s.tick c.val).core c.val).sp ((s.tick c.val).core
      c.val).level).toNat i).1 = none :=
⟨0, awlIn 0 0 0 0, holding 0x52 (awlIn 0 0 0 0) awlFrame, ⟨by decide, by decide, by decide⟩, by decide, by decide, by
      decide, by decide, by decide⟩

set_option maxRecDepth 20000 in
theorem witness_CompleteAwlFlow_5 : ∃ (c : CoreNo) (i : AwlIn) (s : State), s.Fetches c.val 0x52 i ∧ formNone i = true ∧
      ((s.tick c.val).core c.val).level = .user :=
⟨0, awlIn 0 0 0 0, holding 0x52 (awlIn 0 0 0 0) awlUser, ⟨by decide, by decide, by decide⟩, by decide, by decide⟩

set_option maxRecDepth 20000 in
theorem witness_CompleteAwlFlow_6 : ∃ (c : CoreNo) (i : AwlIn) (s : State), s.Fetches c.val 0x53 i ∧ (amImm i && szW i
      && modZero i && decide (d16Of i < 256)) = true :=
⟨0, awlIn 0 2 0 7, holding 0x53 (awlIn 0 2 0 7) awlReady, ⟨by decide, by decide, by decide⟩, by decide⟩

set_option maxRecDepth 20000 in
theorem witness_CompleteAwlSystem_1 : ∃ (c : CoreNo) (i : AwlIn) (bs : List Byte) (t s : State), s.Fetches c.val 0x60 i
      ∧ formAtomic i = true ∧ (s.tick c.val).loadEa c.val i 4 true = .ok (bs, t) ∧ t.dataCheck c.val ((s.tick
      c.val).core c.val).level (((s.tick c.val).core c.val).ea i).toNat 4 1 (decide (amOf i = 4)) true = none :=
⟨0, awlIn 5 2 1 4, [0, 0, 0, 0], (holding 0x60 (awlIn 5 2 1 4) awlReady).tick 0, holding 0x60 (awlIn 5 2 1 4) awlReady,
      ⟨by decide, by decide, by decide⟩, by decide, rfl, by decide⟩

set_option maxRecDepth 20000 in
theorem witness_CompleteAwlSystem_2 : ∃ (c : CoreNo) (i : AwlIn) (bs : List Byte) (t s : State), s.Fetches c.val 0x61 i
      ∧ formAtomic i = true ∧ (s.tick c.val).loadEa c.val i 4 true = .ok (bs, t) :=
⟨0, awlIn 5 2 1 4, [0, 0, 0, 0], (holding 0x61 (awlIn 5 2 1 4) awlReady).tick 0, holding 0x61 (awlIn 5 2 1 4) awlReady,
      ⟨by decide, by decide, by decide⟩, by decide, rfl⟩

set_option maxRecDepth 20000 in
theorem witness_CompleteAwlSystem_3 : ∃ (c : CoreNo) (i : AwlIn) (s : State), s.Fetches c.val 0x62 i ∧ formAtomic i =
      true ∧ (s.tick c.val).dataCheck c.val ((s.tick c.val).core c.val).level (((s.tick c.val).core c.val).ea i).toNat 4
      1 (decide (amOf i = 4)) true = none ∧ ((s.tick c.val).core c.val).resv = some ((((s.tick c.val).core c.val).ea
      i).toNat / 64) ∧ i.accessErr = none :=
⟨0, awlIn 5 2 1 4, holding 0x62 (awlIn 5 2 1 4) (awlReady.updCore 0 fun k => { k with resv := some 0x2000 }), ⟨by
      decide, by decide, by decide⟩, by decide, by decide, by decide, rfl⟩

set_option maxRecDepth 20000 in
theorem witness_CompleteAwlSystem_4 : ∃ (c : CoreNo) (i : AwlIn) (s : State), s.Fetches c.val 0x62 i ∧ formAtomic i =
      true ∧ (s.tick c.val).dataCheck c.val ((s.tick c.val).core c.val).level (((s.tick c.val).core c.val).ea i).toNat 4
      1 (decide (amOf i = 4)) true = none ∧ ((s.tick c.val).core c.val).resv ≠ some ((((s.tick c.val).core c.val).ea
      i).toNat / 64) :=
⟨0, awlIn 5 2 1 4, holding 0x62 (awlIn 5 2 1 4) awlReady, ⟨by decide, by decide, by decide⟩, by decide, by decide, by
      decide⟩

set_option maxRecDepth 20000 in
theorem witness_CompleteAwlSystem_5_mbar : ∃ (c : CoreNo) (i : AwlIn) (s : State), s.Fetches c.val 0x63 i ∧ formNone i = true :=
  ⟨0, awlIn 0 0 0 0, holding 0x63 (awlIn 0 0 0 0) awlReady, ⟨by decide, by decide, by decide⟩, by decide⟩

set_option maxRecDepth 20000 in
theorem witness_CompleteAwlSystem_5_ibar : ∃ (c : CoreNo) (i : AwlIn) (s : State), s.Fetches c.val 0x64 i ∧ formNone i = true :=
  ⟨0, awlIn 0 0 0 0, holding 0x64 (awlIn 0 0 0 0) awlReady, ⟨by decide, by decide, by decide⟩, by decide⟩


set_option maxRecDepth 20000 in
theorem witness_CompleteAwlSystem_6 : ∃ (c : CoreNo) (i : AwlIn) (s : State), s.Fetches c.val 0x72 i ∧ formNone i = true
      ∧ ((s.tick c.val).core c.val).level ≠ .user :=
⟨0, awlIn 0 0 0 0, holding 0x72 (awlIn 0 0 0 0) awlReady, ⟨by decide, by decide, by decide⟩, by decide, by decide⟩

set_option maxRecDepth 20000 in
theorem witness_CompleteAwlSystem_7 : ∃ (c : CoreNo) (i : AwlIn) (s : State), s.Fetches c.val 0x72 i ∧ formNone i = true
      ∧ ((s.tick c.val).core c.val).level = .user :=
⟨0, awlIn 0 0 0 0, holding 0x72 (awlIn 0 0 0 0) awlUser, ⟨by decide, by decide, by decide⟩, by decide, by decide⟩

set_option maxRecDepth 20000 in
theorem witness_CompleteAwlSystem_8 : ∃ (c : CoreNo) (i : AwlIn) (u v m : SysAcc) (s : State), s.Fetches c.val 0x70 i ∧
      formRegImm i = true ∧ sysRights (d16Of i) = some (u, v, m) ∧ rightOf (u, v, m) ((s.tick c.val).core c.val).level ≠
      .none :=
⟨0, awlIn 0 2 0 5, .read, .read, .read, holding 0x70 (awlIn 0 2 0 5) awlReady, ⟨by decide, by decide, by decide⟩, by
      decide, by decide, by decide⟩

set_option maxRecDepth 20000 in
theorem witness_CompleteAwlSystem_9 : ∃ (c : CoreNo) (i : AwlIn) (u v m : SysAcc) (s : State), s.Fetches c.val 0x71 i ∧
      formRegImm i = true ∧ sysRights (d16Of i) = some (u, v, m) ∧ rightOf (u, v, m) ((s.tick c.val).core c.val).level =
      .write ∧ iplChange ((s.tick c.val).core c.val) (d16Of i) (((s.tick c.val).core c.val).reg (modOf i)) = false :=
⟨0, awlIn 0 2 0 3, .none, .none, .write, holding 0x71 (awlIn 0 2 0 3) awlReady, ⟨by decide, by decide, by decide⟩, by
      decide, by decide, by decide, by decide⟩

theorem witness_CompleteAwlSystem_10 : ∃ (c : CoreNo) (e : EntryEnv) (s : State), (s.core c.val).takes = true ∧ (s.core
      c.val).nmiDue = true ∧ ((((s.updCore c.val fun k => { k with nmi := false }).takeExc c.val { slot := 2 } (s.core
      c.val).pc none e).core c.val).dfault || (((s.updCore c.val fun k => { k with nmi := false }).takeExc c.val
      { slot := 2 } (s.core c.val).pc none e).core c.val).inReset) = false :=
⟨0, { frameErr := false, escalationErr := false }, awlReady.updCore 0 fun k => { k with nmi := true }, by decide⟩

theorem witness_CompleteAwlSystem_11 : ∃ (c : CoreNo) (line : Fin 16) (e : EntryEnv) (s : State), (s.core c.val).takes =
      true ∧ (s.core c.val).nmiDue = false ∧ bestLine s c.val = some line.val :=
⟨0, 9, { frameErr := false, escalationErr := false }, awlLine, by decide⟩

theorem witness_CompleteAwlSystem_13 : ∃ (c : CoreNo) (e : WbEntry) (r : List WbEntry) (s : State), (s.core c.val).wb =
      e :: r :=
⟨0, { addr := 0x10000000, data := [1] }, [], awlReady.updCore 0 fun k =>
      { k with wb := [{ addr := 0x10000000, data := [1] }] }, by decide⟩

set_option maxRecDepth 20000 in
theorem witness_CompleteAwlSystem_14 : ∃ (c : CoreNo) (op : Byte) (i : AwlIn) (s : State), s.Fetches c.val op.toNat i ∧
      reservedOp op.toNat = true :=
⟨0, 0x1D, awlIn 0 0 0 0, holding 0x1D (awlIn 0 0 0 0) awlReady, ⟨by decide, by decide, by decide⟩, by decide⟩

set_option maxRecDepth 20000 in
theorem witness_CompleteAwlSystem_15 : ∃ (c : CoreNo) (n : Fin 16) (i : AwlIn) (g : Stage) (s : State), s.Fetches c.val
      (0xF0 + n.val) i ∧ c.val ≠ 4 ∧ (entryDesc ((s.tick c.val).core c.val).decode n.val).getLsbD 0 = true ∧ (entryDesc
      ((s.tick c.val).core c.val).decode n.val).getLsbD (8 + amOf i) = true ∧ (entryDesc ((s.tick c.val).core
      c.val).decode n.val).getLsbD (16 + szOf i) = true ∧ (s.tick c.val).microRun ((s.tick c.val).userEnv c.val n.val i)
      64 0 { a := ((s.tick c.val).core c.val).a, st := ((s.tick c.val).core c.val).st } = .ok g :=
⟨0, 2, awlIn 0 0 0 0, { a := 5, st := 0x3E00 }, holding 0xF2 (awlIn 0 0 0 0) awlDecode, ⟨by decide, by decide, by
      decide⟩, by decide, by decide, by decide, by decide, rfl⟩

theorem witness_CompleteWelt_2 : ∃ (l : Fin 2) (s : State), s.welt.en = true ∧ s.welt.lanes.getLsbD l.val = false ∧
      s.welt.lanes ≠ 0 :=
⟨0, State.reset.withWelt fun w => { w with en := true, lanes := 2 }, by decide⟩

theorem witness_CompleteWelt_3 : ∃ (l : Fin 2) (s : State), s.welt.en = true ∧ s.welt.lanes = 0 :=
⟨0, State.reset.withWelt fun w => { w with en := true }, by decide⟩

theorem witness_CompleteWelt_4 : ∃ (l : Fin 2) (s : State), s.welt.lanes.getLsbD l.val = true :=
⟨0, weltUp, by decide⟩

set_option maxRecDepth 20000 in
theorem witness_CompleteWelt_5 : ∃ (fr : WeltRx) (c : Bool) (s : State), s.weltHears fr = true ∧ weltCrcOk 0x21 fr =
      true ∧ fr.body.length = 56 ∧ (Hello.ofBytes fr.body c).version = 1 ∧ helloBad s (Hello.ofBytes fr.body c) = false
      ∧ c = false :=
⟨helloRx 1, false, weltUp, by decide⟩

set_option maxRecDepth 20000 in
theorem witness_CompleteWelt_6 : ∃ (fr : WeltRx) (c : Bool) (s : State), s.weltHears fr = true ∧ weltCrcOk 0x21 fr =
      true ∧ fr.body.length = 56 ∧ (Hello.ofBytes fr.body c).version = 1 ∧ helloBad s (Hello.ofBytes fr.body c) = false
      ∧ c = true ∧ s.welt.state ≠ .given ∧ s.welt.state ≠ .fenced :=
⟨helloRx 1, true, weltUp, by decide⟩

set_option maxRecDepth 20000 in
theorem witness_CompleteWelt_7 : ∃ (fr : WeltRx) (c : Bool) (s : State), s.weltHears fr = true ∧ weltCrcOk 0x21 fr =
      true ∧ fr.body.length = 56 ∧ (Hello.ofBytes fr.body c).version = 1 ∧ helloBad s (Hello.ofBytes fr.body c) = true ∧
      s.welt.state ≠ .linking :=
⟨helloRx 5, false, weltUp, by decide⟩

theorem witness_CompleteWelt_8 : ∃ (b : Hello) (r : KeyRun) (c : Nat) (s : State), s.welt.hello = some b ∧
      s.keys.present 3 = some r ∧ s.welt.up = true ∧ s.welt.sessionKey = none ∧ s.fwCore = some c :=
⟨helloFrom false, runFor 0 0, 0, clustered weltHello, by decide⟩

theorem witness_CompleteWelt_9 : ∃ (fr : WeltRx) (s : State), s.weltHears fr = true :=
⟨rxOf 0x22 5 [], weltKeyed, by decide⟩

theorem witness_CompleteWelt_10 : ∃ (p : List Byte) (n : Nat) (b : Hello) (s : State), s.welt.hello = some b ∧ p =
      s.confirmBody b :=
⟨weltKeyed.confirmBody (helloFrom false), 5, helloFrom false, weltKeyed, by decide⟩

theorem witness_CompleteWelt_11 : ∃ (p : List Byte) (n : Nat) (b : Hello) (s : State), s.welt.hello = some b ∧ p ≠
      s.confirmBody b :=
⟨[], 5, helloFrom false, weltKeyed, by decide⟩

theorem witness_CompleteWelt_12 : ∃ (fr : WeltRx) (s : State), s.weltHears fr = true :=
⟨rxOf 0x23 5 [], weltPaired, by decide⟩

theorem witness_CompleteWelt_13 : ∃ (fr : WeltRx) (seq : Word) (r : MirrorRec) (s : State), s.weltHears fr = true :=
⟨rxOf 0x24 5 [], 3, .keyUnload 9, weltPaired, by decide⟩

theorem witness_CompleteWelt_14 : ∃ (fr : WeltRx) (s : State), s.weltHears fr = true :=
⟨rxOf 0x25 5 [], weltPaired, by decide⟩

theorem witness_CompleteWelt_15 : ∃ (fr : WeltRx) (s : State), s.weltHears fr = true :=
⟨rxOf 0x26 5 [], weltPaired, by decide⟩

theorem witness_CompleteWelt_17 : ∃ (type : Byte) (fr : WeltRx) (s : State), s.weltHears fr = true ∧ weltIsClear type =
      false :=
⟨0x24, rxOf 0x24 5 [], weltPaired, by decide⟩

set_option maxRecDepth 20000 in
theorem witness_CompleteWelt_18 : ∃ (type : Byte) (fr : WeltRx) (s : State), s.weltHears fr = true ∧ weltIsClear type =
      true ∧ weltCrcOk type fr = false :=
⟨0x21, rxOf 0x24 5 [], weltUp, by decide⟩

set_option maxRecDepth 20000 in
theorem witness_CompleteWelt_19 : ∃ (type : Byte) (fr : WeltRx) (s : State), weltCrcOk type fr = false :=
⟨0x25, rxOf 0x24 5 [], weltUp, by decide⟩

theorem witness_CompleteWelt_21 : ∃ (s : State), s.welt.up = true ∧ s.welt.confirmed = true :=
⟨weltPaired, by decide⟩

theorem witness_CompleteWelt_22 : ∃ (word : Long) (s : State), s.welt.en = true ∧ s.welt.state ≠ .fenced ∧
      s.welt.ownWord = true ∧ wordState word = 3 ∧ wordDevice word = s.welt.partner :=
⟨0x3000900000000, weltPaired.withWelt fun w => { w with partner := 9 }, by decide⟩

theorem witness_CompleteWelt_23 : ∃ (word a : Long) (s : State), s.welt.en = true ∧ s.welt.state ≠ .fenced ∧
      (s.welt.ownWord = false ∨ wordState word ≠ 3 ∨ wordDevice word ≠ s.welt.partner) ∧ ownWordAddr s = some a :=
⟨1, 8, weltPaired.withRings fun rs => { rs with ring := [(0, { size := 4, state := 1 })] }, by decide⟩

theorem witness_CompleteWelt_24 : ∃ (word : Long) (s : State), (s.welt.en = false ∨ s.welt.state = .fenced) :=
⟨3, State.reset, by decide⟩

theorem witness_CompleteWelt_25 : ∃ (word : Long) (scan : List (Fin 16384 × List Bool)) (s : State), s.welt.en = true ∧
      s.welt.state ≠ .fenced ∧ s.welt.state ≠ .degraded :=
⟨0x1000000000001, [], weltPaired, by decide⟩

theorem witness_CompleteWelt_26 : ∃ (word : Long) (scan : List (Fin 16384 × List Bool)) (s : State), s.welt.en = true ∧
      s.welt.state = .degraded ∧ s.welt.departSeen = false ∧ wordState word = 2 :=
⟨0x2000000000001, [], weltPaired.withWelt fun w => { w with state := .degraded }, by decide⟩

theorem witness_CompleteWelt_27 : ∃ (scan : List (Fin 16384 × List Bool)) (us : Word) (s : State), s.welt.state =
      .degraded ∧ s.welt.departSeen = false :=
⟨[], 100, weltPaired.withWelt fun w => { w with state := .degraded }, by decide⟩

theorem witness_CompleteWelt_28 : ∃ (scan : List (Fin 16384 × List Bool)) (us : Word) (tie : Bool) (s : State),
      (s.welt.state ≠ .degraded ∨ s.welt.departSeen = true ∨ tie = true) :=
⟨[], 100, true, weltPaired, by decide⟩

theorem witness_CompleteWelt_29 : ∃ (seq : Word) (m : MirrorWait) (s : State), (s.welt.waiting.find? fun m => decide
      (m.seq = seq)) = some m :=
⟨7, waitingItem, weltPaired.withWelt fun w => { w with waiting := [waitingItem] }, by decide⟩

theorem witness_CompleteWelt_30 : ∃ (seq : Word) (s : State), (s.welt.waiting.find? fun m => decide (m.seq = seq)) =
      none :=
⟨7, weltPaired, by decide⟩

theorem witness_WeltTakeover_1 : ∃ (f : State → State) (s : State), s.welt.state = .fenced :=
⟨id, State.reset.withWelt fun w => { w with state := .fenced }, by decide⟩

theorem witness_WeltTakeover_2 : ∃ (scan : List (Fin 16384 × List Bool)) (us : Word) (s : State), s.welt.state ≠ .fenced
      :=
⟨[], 5, weltPaired, by decide⟩

theorem witness_WeltTakeover_3 : ∃ (s : State), s.welt.state ≠ .fenced :=
⟨weltPaired, by decide⟩

theorem witness_WeltTakeover_4 : ∃ (s : State), s.welt.state ≠ .fenced :=
⟨weltPaired, by decide⟩

theorem witness_CompleteEndpoint_1 : ∃ (f : Fin 64) (s : State), f.val ≠ 0 :=
⟨3, State.reset, by decide⟩

theorem witness_CompleteEndpoint_4 : ∃ (f : Fin 64) (s : State), (s.pcieFn f.val).flr = false :=
⟨3, State.reset, by decide⟩

theorem witness_CompleteEndpoint_5 : ∃ (f : Fin 64) (s : State), (s.pcieFn f.val).flr = true :=
⟨3, ringReady.updFn 3 fun p => { p with flr := true }, by decide⟩

theorem witness_CompleteEndpoint_8 : ∃ (v : Half) (s : State), v.toNat ≤ 63 :=
⟨63, State.reset, by decide⟩

theorem witness_CompleteEndpoint_9 : ∃ (v : Half) (s : State), 63 < v.toNat :=
⟨64, State.reset, by decide⟩

theorem witness_CompleteEndpoint_11 : ∃ (f : Fin 64) (x : HostAccess) (s : State), x.offset < barSize x.space ∧
      hostAccepted x = false ∧ x.data.isSome = true :=
⟨3, { space := .bar0, size := 2, offset := 0x1000, data := some 5 }, State.reset, by decide⟩

theorem witness_CompleteEndpoint_12 : ∃ (f : Fin 64) (x : HostAccess) (s : State), x.offset < barSize x.space ∧
      hostAccepted x = false ∧ x.data = none :=
⟨3, { space := .bar2, size := 8, offset := 0x28, data := none }, State.reset, by decide⟩

theorem witness_CompleteEndpoint_13 : ∃ (f : Fin 64) (x : HostAccess) (s : State), x.offset < barSize x.space ∧
      hostAccepted x = true :=
⟨0, { space := .bar4, size := 8, offset := 0x10, data := some 0xFEE00000 }, State.reset, by decide⟩

theorem witness_CompleteEndpoint_14 : ∃ (f : Fin 64) (vector : Fin 32) (s : State), (s.pcieFn f.val).pend.getLsbD
      vector.val = true :=
⟨3, 4, State.reset.updFn 3 fun p => { p with pend := 16 }, by decide⟩

theorem witness_CompleteEndpoint_15 : ∃ (f : Fin 64) (vector : Fin 32) (s : State), (s.pcieFn f.val).pend.getLsbD
      vector.val = false :=
⟨3, 4, State.reset, by decide⟩

theorem witness_CompleteEndpoint_16 : ∃ (stream : Fin 9) (sub : Fin 3) (dir : Fin 2) (key : List Byte) (s : State),
      (s.cob.spdm.session.any fun x => x.doe && x.finished) = true :=
⟨8, 2, 1, [1], cobSession.updSpdm fun x => { x with session := some { doe := true, finished := true } }, by decide⟩

theorem witness_CompleteEndpoint_17 : ∃ (stream : Fin 9) (sub : Fin 3) (dir : Fin 2) (key : List Byte) (s : State),
      (s.cob.spdm.session.any fun x => x.doe && x.finished) = false :=
⟨8, 2, 1, [1], State.reset, by decide⟩

theorem witness_CompleteWaits_1 : ∃ (f : Fin 64) (tag elapsed : Word) (i : Nat) (w : Waiting) (s : State),
      ((s.fw.findWait fun w => decide (w.hdr.fn = f ∧ w.hdr.tag = tag)) = some (i, w)) ∧ w.why ≠ .shelf ∧ w.why ≠ .stage
      ∧ (∀ a b c, w.cmd ≠ .pairHandover a b c) :=
⟨0, 7, 100, 0, waitOrder, cmdWaiting waitOrder, by decide, by decide, by decide, by intro a b c h; cases h⟩

theorem witness_CompleteWaits_2 : ∃ (f : Fin 64) (tag elapsed : Word) (s : State), ((s.fw.findWait fun w => decide
      (w.hdr.fn = f ∧ w.hdr.tag = tag)) = none) :=
⟨0, 7, 100, State.reset, by decide⟩

theorem witness_CompleteWaits_3 : ∃ (h : CmdHdr) (opcode : Half) (s : State), s.takes h.fn.val = true ∧
      definedOpcodes.contains opcode = false ∧ refusalCode s h = none ∧ headErr s h = none :=
⟨hdrFor 64 0, 0x0206 + 0x1000, cmdReady, by decide⟩

theorem witness_CompleteWaits_4 : ∃ (slot : Fin 32768) (r : KeyRun) (s : State), Bank.get none s.keys.runs slot.val =
      some r ∧ r.marked = true ∧ r.refs = 0 :=
⟨64, { runFor 0 0 with marked := true }, State.reset.withKeys fun _ => keysWith { runFor 0 0 with marked := true }, by
      decide⟩

theorem witness_CompleteWaits_5 : ∃ (slot : Fin 32768) (s : State), Bank.get none s.keys.runs slot.val = none :=
⟨64, State.reset, by decide⟩

theorem witness_CompleteWaits_6 : ∃ (scan : List (Fin 16384 × List Bool)) (s : State), s.welt.handover = none :=
⟨[], State.reset, by decide⟩

theorem witness_CompleteWaits_8 : ∃ (s : State), s.listen.field = true :=
⟨State.reset.withListen fun l => { l with field := true }, by decide⟩

theorem witness_CompleteWaits_9 : ∃ (s : State), s.ins.hostWait.isSome = true :=
⟨State.reset.withIns fun x => { x with hostWait := some true }, by decide⟩

theorem witness_CompleteWaits_10 : ∃ (tie : Bool) (s : State), s.ins.hostWait.isSome = false ∧ (s.fw.findWait fun w =>
      decide (w.why = .tag)) = none :=
⟨false, State.reset, by decide⟩

theorem witness_CompleteWaits_11 : ∃ (i : Nat) (w : Waiting) (s : State), s.ins.hostWait.isSome = false ∧ (s.fw.findWait
      fun w => decide (w.why = .tag)) = some (i, w) :=
⟨0, { waitOrder with why := .tag }, cmdWaiting { waitOrder with why := .tag }, by decide⟩

theorem witness_CompleteWaits_12 : ∃ (m tie : Bool) (s : State), (s.rng.tested = false ∨ s.rng.audit = true) :=
⟨true, false, State.reset, by decide⟩

theorem witness_CompleteWaits_13 : ∃ (m : Bool) (s : State), s.rng.tested = true ∧ s.rng.audit = false :=
⟨true, State.reset.withRng fun r => { r with tested := true }, by decide⟩

theorem witness_CompleteWaits_14 : ∃ (c : Nat) (s : State), s.rng.tested = true ∧ s.rng.audit = false ∧ s.rng.mAvail =
      true ∧ s.rng.dueGen = some c :=
⟨0, State.reset.withRng fun r => { r with tested := true, gens := [(0, { due := true })] }, by decide⟩

theorem witness_CompleteWaits_15 : ∃ (s : State), s.rng.tested = true ∧ s.rng.audit = false ∧ s.rng.kAvail = true :=
⟨State.reset.withRng fun r => { r with tested := true }, by decide⟩

theorem witness_CompleteWaits_16 : ∃ (block : List Byte) (s : State), s.rng.mAvail = true :=
⟨[], State.reset, by decide⟩

theorem witness_CompleteWaits_17 : ∃ (block : List Byte) (c : Nat) (s : State), s.rng.mAvail = false ∧ s.rng.dueGen =
      some c :=
⟨[], 0, State.reset.withRng fun r => { r with tested := true, gens := [(0, { due := true })], failed := 0xF }, by
      decide⟩

theorem witness_CompleteWaits_18 : ∃ (ring : Fin 16384) (s : State), ((s.completeAll ring.val).rings.get ring.val).c =
      (s.rings.get ring.val).c :=
⟨5, ringReady, by decide⟩

theorem witness_CompleteWaits_19 : ∃ (ring : Fin 16384) (s : State), ((s.completeAll ring.val).rings.get ring.val).c ≠
      (s.rings.get ring.val).c :=
⟨5, (pipeState (jobFor 0x01 .token)).withRings fun rs => rs.updRing 5 fun g => { g with f := 1 }, by decide⟩

theorem witness_CompleteWaits_21 : ∃ (i : Nat) (w : Waiting) (s : State), s.fw.shelf = some (i, w) :=
⟨0, { waitOrder with why := .shelf }, cmdWaiting { waitOrder with why := .shelf }, by decide⟩

theorem witness_CompleteWaits_22 : ∃ (s : State), s.fw.shelf = none :=
⟨State.reset, by decide⟩

theorem witness_CompleteWaits_23 : ∃ (elapsed : Word) (i : Nat) (w : Waiting) (s : State), s.fw.shelf = some (i, w) ∧
      s.rings.drained (decide (w.data ≠ [])) = true ∧ (s.engineOn && s.signer.isNone) = false :=
⟨9, 0, { waitOrder with why := .shelf }, clustered (cmdWaiting { waitOrder with why := .shelf }), by decide⟩

theorem witness_CompleteWaits_24 : ∃ (elapsed : Word) (i : Nat) (w : Waiting) (s : State), s.fw.shelf = some (i, w) ∧
      (s.rings.drained (decide (w.data ≠ [])) = false ∨ s.engineOn = true ∧ s.signer = none) :=
⟨9, 0, { waitOrder with why := .shelf }, (cmdWaiting { waitOrder with why := .shelf }).withRings fun rs =>
      { rs with ring := [(5, { state := 1, f := 1 })] }, by decide⟩

theorem witness_CompleteWaits_25 : ∃ (img : Image) (elapsed : Word) (i len : Nat) (w : Waiting) (s : State),
      s.fw.staging = some (i, w, len) ∧ s.cob.staged = none :=
⟨shortImage, 9, 0, 8192, waitStage, cmdWaiting waitStage, by decide⟩

theorem witness_CompleteWaits_26 : ∃ (img : Image) (elapsed : Word) (s : State), s.fw.staging = none :=
⟨shortImage, 9, State.reset, by decide⟩

set_option maxRecDepth 20000 in
theorem witness_CompleteWaits_27 : ∃ (elapsed : Word) (img : Image) (i len : Nat) (w : Waiting) (s : State),
      s.cob.staged = some img ∧ s.fw.staging = some (i, w, len) ∧ s.fw.waiting.length = 1 ∧ ((List.range 4).any (fun c
      => s.coreUsable c && (s.core c).inReset)) = false :=
⟨9, shortImage, 0, 8192, waitStage, ((coresRunning.withFw fun f => { f with waiting := [waitStage] }).withCob fun c =>
      { c with staged := some shortImage }), by decide⟩

theorem witness_CompleteWaits_28 : ∃ (elapsed : Word) (s : State), s.cob.staged = none :=
⟨9, State.reset, by decide⟩

theorem witness_CompleteWaits_29 : ∃ (f : Fin 64) (s : State), Bank.get [] s.fw.notices f.val = [] :=
⟨0, State.reset, by decide⟩

theorem witness_CompleteWaits_30 : ∃ (f : Fin 64) (n : Long) (rest : List Long) (s : State), Bank.get [] s.fw.notices
      f.val = n :: rest ∧ (s.mbx.get (64 + f.val)).full = false ∧ s.boot.state = .running ∧ receiverUp s (.evt f) = true
      :=
⟨0, 0x1000, [], (commandReady.withPcie fun p => { p with fns := [(0, { memEnable := true })] }).withFw fun x =>
      { x with notices := [(0, [0x1000])] }, by decide⟩

set_option maxRecDepth 20000 in
theorem witness_CompleteSessionCommands_1 : ∃ (h : CmdHdr) (rsv : Byte) (tenant : Half) (seq : Word) (sigLen : Word)
      (sig : List Byte) (c : Call) (s : State), callSessionOpen h 1 rsv tenant seq sigLen sig s = c ∧ c.Accepted s ∧
      s.fw.open.length < 4096 ∧ (s.fw.open.filter fun p => decide (p.2.fn.toNat = h.fn.val)).length < 64 ∧ s.rng.serves
      (c.core s) = true :=
⟨hdrFor 16 0, 0, 0, 0, 0, [], callSessionOpen (hdrFor 16 0) 1 0 0 0 0 [] (cmdKeyed 3), cmdKeyed 3, rfl, by decide, by
      decide, by decide, by decide⟩

set_option maxRecDepth 20000 in
theorem witness_CompleteSessionCommands_2 : ∃ (h : CmdHdr) (rsv : Byte) (tenant : Half) (seq : Word) (sigLen : Word)
      (sig : List Byte) (r : KeyRun) (c : Call) (s : State), callSessionOpen h 2 rsv tenant seq sigLen sig s = c ∧
      c.Accepted s ∧ s.insole.trusted = true ∧ s.keys.sessionKey tenant = some r ∧ s.fw.open.length < 4096 ∧
      (s.fw.open.filter fun p => decide (p.2.fn.toNat = h.fn.val)).length < 64 :=
⟨hdrFor 112 0, 0, 1, 0, 96, [], sessionRun, callSessionOpen (hdrFor 112 0) 2 0 1 0 96 [] sessionReady, sessionReady,
      rfl, by decide, by decide, rfl, by decide, by decide⟩

set_option maxRecDepth 20000 in
theorem witness_CompleteSessionCommands_3 : ∃ (h : CmdHdr) (c : Call) (s : State), callSessionClose h = c ∧ c.Accepted s
      :=
⟨hdrFor 0 0x1005, callSessionClose (hdrFor 0 0x1005), cmdReady, rfl, by decide⟩

set_option maxRecDepth 20000 in
theorem witness_CompleteSessionCommands_4 : ∃ (h : CmdHdr) (purpose : Half) (window : Half) (rsv : Word) (digest :
      BitVec 384) (b : Membership) (c : Call) (s : State), callQuorumBegin h purpose window rsv digest = c ∧ c.Accepted
      s ∧ s.fw.membership = some b ∧ s.fw.quorum = none :=
⟨hdrFor 56 0x1005, 0x0A01, 60, 0, 0, membershipOf 7, callQuorumBegin (hdrFor 56 0x1005) 0x0A01 60 0 0, cmdReady, rfl, by
      decide, by decide, by decide⟩

set_option maxRecDepth 20000 in
theorem witness_CompleteSessionCommands_5 : ∃ (h : CmdHdr) (qid : Word) (source : Byte) (index : Byte) (rsv : Half)
      (file : Word) (cert : List Byte) (sig : List Byte) (q : Quorum) (c : Call) (s : State), callQuorumPresent h qid
      source index rsv file (.card cert sig) = c ∧ c.Accepted s ∧ s.fw.quorum = some q ∧ q.qid = qid ∧ q.ticket = false
      ∧ source ≠ 2 ∧ s.sourceReady source.toNat index.toNat = true :=
⟨hdrFor 16 0x1005, 9, 0, 1, 0, 0, [1], [2], quorumOf 0x0A01 0 [1] false, callQuorumPresent (hdrFor 16 0x1005) 9 0 1 0 0
      (.card [1] [2]), (quorumOpen [1]).updIcc 1 fun x => { x with state := .active, pres := true }, rfl, by decide,
      rfl, by decide, by decide, by decide, by decide⟩

set_option maxRecDepth 20000 in
theorem witness_CompleteSessionCommands_6 : ∃ (h : CmdHdr) (qid : Word) (source : Byte) (index : Byte) (rsv : Half)
      (file : Word) (q : Quorum) (c : Call) (s : State), callQuorumPresent h qid source index rsv file .absent = c ∧
      c.Accepted s ∧ s.fw.quorum = some q ∧ q.qid = qid ∧ q.ticket = false ∧ source ≠ 2 ∧ s.sourceReady source.toNat
      index.toNat = true :=
⟨hdrFor 16 0x1005, 9, 1, 0, 0, 0, quorumOf 0x0A01 0 [1] false, callQuorumPresent (hdrFor 16 0x1005) 9 1 0 0 0 .absent,
      quorumOpen [1], rfl, by decide, rfl, by decide, by decide, by decide, by decide⟩

set_option maxRecDepth 20000 in
theorem witness_CompleteSessionCommands_7 : ∃ (h : CmdHdr) (qid : Word) (rsv : Word) (q : Quorum) (c : Call) (s :
      State), callQuorumEnd h qid rsv = c ∧ c.Accepted s ∧ s.fw.quorum = some q ∧ q.qid = qid ∧ q.ticket = false ∧ q.m ≤
      q.operators.length :=
⟨hdrFor 8 0x1005, 9, 0, quorumOf 0x0A01 0 [1, 2] false, callQuorumEnd (hdrFor 8 0x1005) 9 0, quorumOpen [1, 2], rfl, by
      decide, rfl, by decide, by decide, by decide⟩

set_option maxRecDepth 20000 in
theorem witness_CompleteKeyCommands_1 : ∃ (h : CmdHdr) (t : Attr) (c : Call) (s : State), callKeyGenerate h t s = c ∧
      c.Accepted s ∧ createErr s 64 t = none ∧ (isAes t.type = true ∨ isHmac t.type = true) ∧ s.rng.freshServes (c.core
      s) = true ∧ s.rng.buffer ≠ [] ∧ s.rng.freshQueue = [] :=
⟨hdrFor 32 0x1005, aesTemplate, callKeyGenerate (hdrFor 32 0x1005) aesTemplate (cmdKeyed 3), cmdKeyed 3, rfl, by decide,
      by decide, by decide, by decide, by decide, by decide⟩

set_option maxRecDepth 20000 in
theorem witness_CompleteKeyCommands_2 : ∃ (h : CmdHdr) (t : Attr) (c : Call) (s : State), callKeyGenerate h t s = c ∧
      c.Accepted s ∧ createErr s 64 t = none ∧ isAes t.type = false ∧ isHmac t.type = false :=
⟨hdrFor 32 0x1005, { attrFor 0x15 1 (1 <<< uAGREE) with count := 0, generation := 0, matLen := 0 }, callKeyGenerate
      (hdrFor 32 0x1005) ({ attrFor 0x15 1 (1 <<< uAGREE) with count := 0, generation := 0, matLen := 0 }) (cmdKeyed 3),
      cmdKeyed 3, rfl, by decide, by decide, by decide, by decide⟩

set_option maxRecDepth 20000 in
theorem witness_CompleteKeyCommands_3 : ∃ (h : CmdHdr) (wrap : Word) (format : Byte) (rsv : BitVec 24) (t : Attr)
      (wrappedLen : Word) (rsv2 : Word) (wrapped : List Byte) (r : KeyRun) (c : Call) (s : State), callKeyImport h wrap
      format rsv t wrappedLen rsv2 wrapped s = c ∧ c.Accepted s ∧ s.keys.wrapKey wrap (c.owner s) uUNWRAP = .ok r ∧
      createErr s 72 t = none :=
⟨hdrFor 80 0x1005, handle64, 0, 0, aesTemplate, 32, 0, [], ((cmdKeyed 3).keys.present 64).getD (runFor 0 0),
      callKeyImport (hdrFor 80 0x1005) handle64 0 0 aesTemplate 32 0 [] (cmdKeyed 3), cmdKeyed 3, rfl, by decide, rfl,
      by decide⟩

set_option maxRecDepth 20000 in
theorem witness_CompleteKeyCommands_4 : ∃ (h : CmdHdr) (handle : Word) (wrap : Word) (format : Byte) (rsv : BitVec 56)
      (r : KeyRun) (w : KeyRun) (c : Call) (s : State), callKeyExport h handle wrap format rsv = c ∧ c.Accepted s ∧ wrap
      ≠ 0 ∧ s.keys.lookup handle (c.owner s) none = .ok r ∧ s.keys.wrapKey wrap (c.owner s) uWRAP = .ok w ∧
      exportAllowed r.attr.exportability (w.attr.usage.getLsbD uTRUSTED) = true ∧ (format = 1 → 16 ≤ r.material.length ∧
      r.material.length % 8 = 0) :=
⟨hdrFor 16 0x1005, handle64, handle64, 1, 0, ((cmdKeyed 3).keys.present 64).getD (runFor 0 0), ((cmdKeyed
      3).keys.present 64).getD (runFor 0 0), callKeyExport (hdrFor 16 0x1005) handle64 handle64 1 0, cmdKeyed 3, rfl, by
      decide, by decide, rfl, rfl, by decide, by decide⟩

set_option maxRecDepth 20000 in
theorem witness_CompleteKeyCommands_5 : ∃ (h : CmdHdr) (format : Byte) (rsv : BitVec 56) (dk : KeyRun) (dwk : KeyRun) (c
      : Call) (s : State), callKeyExport h 2 0 format rsv = c ∧ c.Accepted s ∧ c.owner s = none ∧ s.keys.present 2 =
      some dk ∧ s.keys.present 1 = some dwk :=
⟨hdrFor 16 0x1005, 0, 0, runFor 0 0, runFor 0 0, callKeyExport (hdrFor 16 0x1005) 2 0 0 0, bindReady.withFw fun f =>
      { f with waiting := [] }, rfl, by decide, by decide, rfl, rfl⟩

set_option maxRecDepth 20000 in
theorem witness_CompleteKeyCommands_6 : ∃ (h : CmdHdr) (handle : Word) (rsv : Word) (r : KeyRun) (c : Call) (s : State),
      callKeyUnload h handle rsv = c ∧ c.Accepted s ∧ s.keys.lookup handle (c.owner s) none = .ok r :=
⟨hdrFor 8 0x1005, handle64, 0, ((cmdKeyed 3).keys.present 64).getD (runFor 0 0), callKeyUnload (hdrFor 8 0x1005)
      handle64 0, cmdKeyed 3, rfl, by decide, rfl⟩

theorem witness_CompleteKeyCommands_7 : ∃ (c : Call) (n : Nat) (body : List Byte) (s : State), s.welt.mirroring = false
      :=
⟨callKeyInfo (hdrFor 8 0x1005) 0 0, 64, [], cmdReady, by decide⟩

set_option maxRecDepth 20000 in
theorem witness_CompleteKeyCommands_8 : ∃ (h : CmdHdr) (base : Word) (func : Byte) (rsv : Byte) (ctxLen : Half) (t :
      Attr) (ctx : List Byte) (r : KeyRun) (c : Call) (s : State), callKeyDerive h base func rsv ctxLen t ctx s = c ∧
      c.Accepted s ∧ func ≠ 1 ∧ deriveBase s.keys base func (c.owner s) = .ok r ∧ createErr s 72 t = none ∧
      s.rng.freshServes (c.core s) = true ∧ s.rng.buffer ≠ [] ∧ s.rng.freshQueue = [] :=
⟨hdrFor 40 0x1005, handle64, 0, 0, 0, aesTemplate, [], ((cmdKeyed 3).keys.present 64).getD (runFor 0 0), callKeyDerive
      (hdrFor 40 0x1005) handle64 0 0 0 aesTemplate [] (cmdKeyed 3), cmdKeyed 3, rfl, by decide, by decide, rfl, by
      decide, by decide, by decide, by decide⟩

set_option maxRecDepth 20000 in
theorem witness_CompleteKeyCommands_9 : ∃ (h : CmdHdr) (base : Word) (rsv : Byte) (ctxLen : Half) (t : Attr) (ctx : List
      Byte) (r : KeyRun) (c : Call) (s : State), callKeyDerive h base 1 rsv ctxLen t ctx s = c ∧ c.Accepted s ∧
      s.boot.phase ≠ .service ∧ deriveBase s.keys base 1 (c.owner s) = .ok r ∧ createErr s 72 t = none ∧
      s.rng.freshServes (c.core s) = true ∧ s.rng.buffer ≠ [] ∧ s.rng.freshQueue = [] :=
⟨hdrFor 40 0x1005, handle64, 0, 0, aesTemplate, [], ((cmdKeyed 8).keys.present 64).getD (runFor 0 0), callKeyDerive
      (hdrFor 40 0x1005) handle64 1 0 0 aesTemplate [] ((cmdKeyed 8).withBoot fun b => { b with phase := .test }),
      (cmdKeyed 8).withBoot fun b => { b with phase := .test }, rfl, by decide, by decide, rfl, by decide, by decide, by
      decide, by decide⟩

set_option maxRecDepth 20000 in
theorem witness_CompleteKeyCommands_11 : ∃ (h : CmdHdr) (handle : Word) (rsv : Word) (keyId : Long) (r : KeyRun) (c :
      Call) (s : State), callKeyDestroy h handle rsv keyId = c ∧ c.Accepted s ∧ s.keys.lookup handle (c.owner s) none =
      .ok r ∧ r.keyId = keyId ∧ s.log.used + 2 ≤ 2048 :=
⟨hdrFor 16 0x1005, handle64, 0, 1, ((cmdKeyed 3).keys.present 64).getD (runFor 0 0), callKeyDestroy (hdrFor 16 0x1005)
      handle64 0 1, cmdKeyed 3, rfl, by decide, rfl, by decide, by decide⟩

set_option maxRecDepth 20000 in
theorem witness_CompleteKeyCommands_12 : ∃ (h : CmdHdr) (handle : Word) (alg : Byte) (rsv : BitVec 24) (nonce : BitVec
      256) (r : KeyRun) (c : Call) (s : State), callKeyAttest h handle alg rsv nonce = c ∧ c.Accepted s ∧ s.keys.lookup
      handle (c.owner s) none = .ok r :=
⟨hdrFor 40 0x1005, handle64, 0, 0, 0, ((cmdKeyed 3).keys.present 64).getD (runFor 0 0), callKeyAttest (hdrFor 40 0x1005)
      handle64 0 0 0, cmdKeyed 3, rfl, by decide, rfl⟩

set_option maxRecDepth 20000 in
theorem witness_CompleteKeyCommands_13 : ∃ (h : CmdHdr) (handle : Word) (rsv : Word) (r : KeyRun) (c : Call) (s :
      State), callKeyInfo h handle rsv = c ∧ c.Accepted s ∧ s.keys.lookup handle (c.owner s) none = .ok r :=
⟨hdrFor 8 0x1005, handle64, 0, ((cmdKeyed 3).keys.present 64).getD (runFor 0 0), callKeyInfo (hdrFor 8 0x1005) handle64
      0, cmdKeyed 3, rfl, by decide, rfl⟩

set_option maxRecDepth 20000 in
theorem witness_CompleteKeyCommands_14 : ∃ (c : Call) (off : Nat) (t : Attr) (m pre : List Byte) (n : Nat) (k : Keys) (s
      : State), s.keys.create s.createEnv t m none = .ok (n, k) ∧ s.welt.mirroring = false :=
⟨callKeyInfo (hdrFor 8 0x1005) 0 0, 64, aesTemplate, List.replicate 32 9, [], 65, ((cmdKeyed 3).keys.create (cmdKeyed
      3).createEnv aesTemplate (List.replicate 32 9) none).toOption.elim {} Prod.snd, cmdKeyed 3, rfl, by decide⟩

set_option maxRecDepth 20000 in
theorem witness_CompletePaymentCommands_1 : ∃ (h : CmdHdr) (kbpk : Word) (len : Word) (block : List Byte) (r : KeyRun)
      (c : Call) (s : State), callPayBlockImport h kbpk len block = c ∧ c.Accepted s ∧ s.keys.wrapKey kbpk (c.owner s)
      uKBPK = .ok r :=
⟨hdrFor 72 0x1005, handle64, 64, padTo 64 (ascii "D0064D0AB00E0000"), ((cmdKeyed 3).keys.present 64).getD (runFor 0 0),
      callPayBlockImport (hdrFor 72 0x1005) handle64 64 (padTo 64 (ascii "D0064D0AB00E0000")), cmdKeyed 3, rfl, by
      decide, rfl⟩

set_option maxRecDepth 20000 in
theorem witness_CompletePaymentCommands_2 : ∃ (h : CmdHdr) (handle : Word) (kbpk : Word) (optLen : Half) (rsv : BitVec
      48) (opt : List Byte) (r : KeyRun) (w : KeyRun) (blocks : Nat) (c : Call) (s : State), callPayBlockExport h handle
      kbpk optLen rsv opt = c ∧ c.Accepted s ∧ s.keys.lookup handle (c.owner s) none = .ok r ∧ s.keys.wrapKey kbpk
      (c.owner s) uKBPK = .ok w ∧ exportAllowed r.attr.exportability (w.attr.usage.getLsbD uTRUSTED) = true ∧ isAes
      r.attr.type = true ∧ (payUsageMode r.attr.keyUsage r.attr.mode).isSome = true ∧ r.attr.keyVersion ≠ 0 ∧ optCount
      (padTo optLen.toNat opt) = some blocks ∧ c.tooBig (8 + payBlockLen r.material.length optLen.toNat) = none :=
⟨hdrFor 16 0x1005, handle64, handle64, 0, 0, [], (payReady.keys.present 64).getD (runFor 0 0), (payReady.keys.present
      64).getD (runFor 0 0), 0, callPayBlockExport (hdrFor 16 0x1005) handle64 handle64 0 0 [], payReady, rfl, by
      decide, rfl, rfl, by decide, by decide, by decide, by decide, by decide, by decide⟩

set_option maxRecDepth 20000 in
theorem witness_CompletePaymentCommands_3 : ∃ (h : CmdHdr) (inH : Word) (outH : Word) (inMode : Byte) (outMode : Byte)
      (rsv : BitVec 48) (inKsn : BitVec 96) (outKsn : BitVec 96) (pan : BitVec 128) (pin : BitVec 128) (a : KeyRun) (b :
      KeyRun) (c : Call) (s : State), callPayPinTranslate h inH outH inMode outMode rsv inKsn outKsn pan pin = c ∧
      c.Accepted s ∧ pinKey s.keys inMode inH (c.owner s) = .ok a ∧ pinKey s.keys outMode outH (c.owner s) = .ok b :=
⟨hdrFor 72 0x1005, handle64, handle64, 0, 0, 0, 0, 0, 0, 0, ((cmdKeyed 3).keys.present 64).getD (runFor 0 0), ((cmdKeyed
      3).keys.present 64).getD (runFor 0 0), callPayPinTranslate (hdrFor 72 0x1005) handle64 handle64 0 0 0 0 0 0 0,
      cmdKeyed 3, rfl, by decide, rfl, rfl⟩

theorem witness_CompletePaymentCommands_4 : ∃ (c : Call) (k : Nat → State → State) (n : Nat) (s : State), s.cipherOn ≠ 0
      ∧ s.fwCore = some n :=
⟨callKeyInfo (hdrFor 8 0x1005) 0 0, fun _ t => t, 0, cmdKeyed 3, by decide⟩

theorem witness_CompletePaymentCommands_5 : ∃ (c : Call) (k : Nat → State → State) (s : State), s.cipherOn = 0 :=
⟨callKeyInfo (hdrFor 8 0x1005) 0 0, fun _ t => t, cmdReady.withCipher fun x => { x with coreEn := 0 }, by decide⟩

set_option maxRecDepth 20000 in
theorem witness_CompletePublicKeyCommands_1 : ∃ (h : CmdHdr) (handle : Word) (input : Byte) (rsv : BitVec 24) (len :
      Word) (rsv2 : Word) (data : List Byte) (r : KeyRun) (c : Call) (s : State), callSign h handle input rsv len rsv2
      data = c ∧ c.Accepted s ∧ s.keys.lookup handle (c.owner s) (some uSIGN) = .ok r ∧ (input = 0 ∨ messageOnly
      r.attr.type = false) ∧ c.tooBig (8 + sigLenOf r.attr.type) = none :=
⟨hdrFor 16 0x1005, handle64, 0, 0, 0, 0, [], ((cmdKeyed 0x10).keys.present 64).getD (runFor 0 0), callSign (hdrFor 16
      0x1005) handle64 0 0 0 0 [], cmdKeyed 0x10, rfl, by decide, rfl, by decide, by decide⟩

set_option maxRecDepth 20000 in
theorem witness_CompletePublicKeyCommands_2 : ∃ (h : CmdHdr) (handle : Word) (input : Byte) (rsv : BitVec 24) (len :
      Word) (sigLen : Word) (data : List Byte) (sig : List Byte) (r : KeyRun) (c : Call) (s : State), callVerify h
      handle input rsv len sigLen data sig = c ∧ c.Accepted s ∧ s.keys.lookup handle (c.owner s) (some uVERIFY) = .ok r
      ∧ (input = 0 ∨ messageOnly r.attr.type = false) ∧ sigLen.toNat = sigLenOf r.attr.type :=
⟨hdrFor 80 0x1005, handle64, 0, 0, 0, 64, [], [], ((cmdKeyed 0x18).keys.present 64).getD (runFor 0 0), callVerify
      (hdrFor 80 0x1005) handle64 0 0 0 64 [] [], cmdKeyed 0x18, rfl, by decide, rfl, by decide, by decide⟩

set_option maxRecDepth 20000 in
theorem witness_CompletePublicKeyCommands_3 : ∃ (h : CmdHdr) (handle : Word) (aadLen : Half) (rsv : Half) (dataLen :
      Word) (rsv2 : Word) (aad : List Byte) (data : List Byte) (dev : Half) (core : Nat) (r : KeyRun) (c : Call) (s :
      State), callSeal h handle aadLen rsv dataLen rsv2 aad data = c ∧ c.Accepted s ∧ s.keys.wrapKey handle (c.owner s)
      uENCRYPT = .ok r ∧ nonceCheck s.insole.trusted handle r = none ∧ (s.welt.state ≠ .paired ∧ s.welt.state ≠ .resync)
      ∧ s.fw.device = some dev ∧ s.cipherOn ≠ 0 ∧ s.fwCore = some core :=
⟨hdrFor 24 0x1005, handle64, 0, 0, 8, 0, [], [1], 7, 0, ((cmdKeyed 3).keys.present 64).getD (runFor 0 0), callSeal
      (hdrFor 24 0x1005) handle64 0 0 8 0 [] [1], cmdKeyed 3, rfl, by decide, rfl, by decide, by decide, by decide, by
      decide, by decide⟩

set_option maxRecDepth 20000 in
theorem witness_CompletePublicKeyCommands_4 : ∃ (h : CmdHdr) (handle : Word) (aadLen : Half) (rsv : Half) (sealedLen :
      Word) (rsv2 : Word) (aad : List Byte) (sealed : List Byte) (r : KeyRun) (c : Call) (s : State), callUnseal h
      handle aadLen rsv sealedLen rsv2 aad sealed = c ∧ c.Accepted s ∧ s.keys.wrapKey handle (c.owner s) uDECRYPT = .ok
      r :=
⟨hdrFor 48 0x1005, handle64, 0, 0, 32, 0, [], [], ((cmdKeyed 3).keys.present 64).getD (runFor 0 0), callUnseal (hdrFor
      48 0x1005) handle64 0 0 32 0 [] [], cmdKeyed 3, rfl, by decide, rfl⟩

set_option maxRecDepth 20000 in
theorem witness_CompletePublicKeyCommands_5 : ∃ (h : CmdHdr) (handle : Word) (peerLen : Word) (t : Attr) (peer : List
      Byte) (r : KeyRun) (c : Call) (s : State), callAgree h handle peerLen t peer s = c ∧ c.Accepted s ∧ s.keys.lookup
      handle (c.owner s) (some uAGREE) = .ok r ∧ peerLen.toNat = peerLenOf r.attr.type ∧ createErr s 72 t = none :=
⟨hdrFor 104 0x1005, handle64, 64, aesTemplate, [], ((cmdKeyed 0x10).keys.present 64).getD (runFor 0 0), callAgree
      (hdrFor 104 0x1005) handle64 64 aesTemplate [] (cmdKeyed 0x10), cmdKeyed 0x10, rfl, by decide, rfl, by decide, by
      decide⟩

set_option maxRecDepth 20000 in
theorem witness_CompletePublicKeyCommands_6 : ∃ (h : CmdHdr) (handle : Word) (rsv : Word) (t : Attr) (r : KeyRun) (c :
      Call) (s : State), callEncaps h handle rsv t s = c ∧ c.Accepted s ∧ s.keys.lookup handle (c.owner s) (some
      uENCAPS) = .ok r ∧ c.tooBig (8 + kemCt (engineSet r.attr.type) + newKeyLen t) = none ∧ createErr s 72 t = none :=
⟨hdrFor 40 0x1005, handle64, 0, aesTemplate, ((cmdKeyed 0x38).keys.present 64).getD (runFor 0 0), callEncaps (hdrFor 40
      0x1005) handle64 0 aesTemplate (cmdKeyed 0x38), cmdKeyed 0x38, rfl, by decide, rfl, by decide, by decide⟩

set_option maxRecDepth 20000 in
theorem witness_CompletePublicKeyCommands_7 : ∃ (h : CmdHdr) (handle : Word) (ctLen : Word) (t : Attr) (ct : List Byte)
      (r : KeyRun) (c : Call) (s : State), callDecaps h handle ctLen t ct s = c ∧ c.Accepted s ∧ s.keys.lookup handle
      (c.owner s) (some uDECAPS) = .ok r ∧ ctLen.toNat = kemCt (engineSet r.attr.type) ∧ createErr s 72 t = none :=
⟨hdrFor 1128 0x1005, handle64, 1088, aesTemplate, [], ((cmdKeyed 0x31).keys.present 64).getD (runFor 0 0), callDecaps
      (hdrFor 1128 0x1005) handle64 1088 aesTemplate [] (cmdKeyed 0x31), cmdKeyed 0x31, rfl, by decide, rfl, by decide,
      by decide⟩

theorem witness_CompletePublicKeyCommands_8 : ∃ (c : Call) (q : FwOp) (k : Nat → State → State) (n : Nat) (s : State),
      s.engineFree = some n ∧ (pkeVerify q.op.toNat = true ∨ pkeKeygen q.op.toNat = false ∧ s.rng.serves (5 + n) = true)
      :=
⟨callKeyInfo (hdrFor 8 0x1005) 0 0, { op := 0x11, set := 1 }, fun _ t => t, 0, cmdKeyed 3, by decide⟩

theorem witness_CompletePublicKeyCommands_9 : ∃ (c : Call) (dsa : Bool) (d : List Byte) (k : List Byte → State → State)
      (n : Nat) (s : State), s.engineFree = some n ∧ s.rng.serves (5 + n) = true :=
⟨callKeyInfo (hdrFor 8 0x1005) 0 0, false, [], fun _ t => t, 0, cmdKeyed 3, by decide⟩

set_option maxRecDepth 20000 in
theorem witness_CompleteRingCommands_1 : ∃ (h : CmdHdr) (ring : Half) (fn : Byte) (vector : Byte) (tenant : Half) (size
      : Byte) (flags : Byte) (desc : Long) (cmpl : Long) (shd : Long) (g : Ring) (c : Call) (s : State), callRingCreate
      h ring fn vector tenant size flags desc cmpl shd = c ∧ c.Accepted s ∧ g =
      { fn := fn.setWidth 6, vector := vector.setWidth 5, size := size.setWidth 5, tenant := tenant.setWidth 10, irqEn := flags.getLsbD 0, desc := desc, cmpl := cmpl, shd := shd }
      ∧ s.rings.areaOutside g 72 80 88 = none ∧ (s.rings.get ring.toNat).state = 0 ∧ (g.irqEn = true → 1 ≤ vector.toNat
      ∧ vector.toNat ≤ 31) ∧ (∀ f, s.rings.pageFn (ring.toNat / 512) = some f → f = g.fn) :=
⟨hdrFor 32 0x1005, 5, 0, 0, 1, 4, 0, 0x10000, 0x20000, 0x30000,
      { fn := 0, vector := 0, size := 4, tenant := 1, irqEn := false, desc := 0x10000, cmpl := 0x20000, shd := 0x30000 },
      callRingCreate (hdrFor 32 0x1005) 5 0 0 1 4 0 0x10000 0x20000 0x30000, cmdReady, rfl, by decide, rfl, by decide,
      by decide, by decide, by decide⟩

set_option maxRecDepth 20000 in
theorem witness_CompleteRingCommands_2 : ∃ (h : CmdHdr) (ring : Half) (rsv : BitVec 48) (c : Call) (s : State),
      callRingDestroy h ring rsv = c ∧ c.Accepted s ∧ (s.rings.get ring.toNat).state ≠ 0 ∧ (s.rings.get
      ring.toNat).state ≠ 3 ∧ s.welt.mirroring = false :=
⟨hdrFor 8 0x1005, 5, 0, callRingDestroy (hdrFor 8 0x1005) 5 0, cmdReady.withRings fun rs =>
      { rs with ring := [(5, { size := 4, state := 1 })] }, rfl, by decide, by decide, by decide, by decide⟩

set_option maxRecDepth 20000 in
theorem witness_CompleteRingCommands_3 : ∃ (h : CmdHdr) (fn : Byte) (win : Byte) (rsv : BitVec 48) (base : Long) (limit
      : Long) (c : Call) (s : State), callRingWindow h fn win rsv base limit = c ∧ c.Accepted s ∧ (((s.rings.setWindow
      fn.toNat win.toNat base limit).ring.any fun p => decide (p.2.state ≠ 0 ∧ p.2.fn.toNat = fn.toNat) &&
      ((s.rings.setWindow fn.toNat win.toNat base limit).areaOutside p.2 0 0 0).isSome) = false) ∧ s.welt.mirroring =
      false :=
⟨hdrFor 24 0x1005, 0, 2, 0, 0, 0x1000000, callRingWindow (hdrFor 24 0x1005) 0 2 0 0 0x1000000, cmdReady, rfl, by decide,
      by decide, by decide⟩

set_option maxRecDepth 20000 in
theorem witness_CompleteRingCommands_4 : ∃ (h : CmdHdr) (fn : Byte) (win : Byte) (rsv : BitVec 48) (base : Long) (limit
      : Long) (c : Call) (s : State), callRingWindow h fn win rsv base limit = c ∧ c.Accepted s ∧ (((s.rings.setWindow
      fn.toNat win.toNat base limit).ring.any fun p => decide (p.2.state ≠ 0 ∧ p.2.fn.toNat = fn.toNat) &&
      ((s.rings.setWindow fn.toNat win.toNat base limit).areaOutside p.2 0 0 0).isSome) = false) ∧ s.welt.mirroring =
      true :=
⟨hdrFor 24 0x1005, 0, 2, 0, 0, 0x1000000, callRingWindow (hdrFor 24 0x1005) 0 2 0 0 0x1000000, cmdReady.withWelt fun w
      => { w with state := .paired }, rfl, by decide, by decide, by decide⟩

set_option maxRecDepth 20000 in
theorem witness_CompleteRingCommands_5 : ∃ (h : CmdHdr) (ring : Half) (rsv : BitVec 48) (c : Call) (s : State),
      callRingStatus h ring rsv = c ∧ c.Accepted s ∧ (c.owner s = none ∨ (c.owner s = some ((s.rings.get
      ring.toNat).tenant.setWidth 16) ∧ (s.rings.get ring.toNat).state ≠ 0)) :=
⟨hdrFor 8 0x1005, 5, 0, callRingStatus (hdrFor 8 0x1005) 5 0, cmdReady, rfl, by decide, by decide⟩

set_option maxRecDepth 20000 in
theorem witness_CompleteRingCommands_6 : ∃ (h : CmdHdr) (port : Byte) (rsv : BitVec 24) (recLen : Word) (r : PortRecord)
      (c : Call) (s : State), callPortConfig h port rsv recLen r = c ∧ c.Accepted s :=
⟨hdrFor 72 0x1005, 3, 0, 64, portRec, callPortConfig (hdrFor 72 0x1005) 3 0 64 portRec, cmdReady, rfl, by decide⟩

set_option maxRecDepth 20000 in
theorem witness_CompleteRingCommands_7 : ∃ (h : CmdHdr) (port : Byte) (rsv : BitVec 56) (c : Call) (s : State),
      callPortStatus h port rsv = c ∧ c.Accepted s :=
⟨hdrFor 8 0x1005, 3, 0, callPortStatus (hdrFor 8 0x1005) 3 0, cmdReady, rfl, by decide⟩

set_option maxRecDepth 20000 in
theorem witness_CompleteRingCommands_8 : ∃ (h : CmdHdr) (port : Byte) (rsv : BitVec 24) (volume : Word) (keyId : Long)
      (handle : Word) (rsv2 : Word) (i : Nat) (r : KeyRun) (c : Call) (s : State), callVolumeBind h port rsv volume
      keyId handle rsv2 = c ∧ c.Accepted s ∧ handle ≠ 0 ∧ s.keys.lookup handle none (some uDECRYPT) = .ok r ∧ r.keyId =
      keyId ∧ ((s.sole.get port.toNat).volIndex (volume.setWidth 24) keyId = some i ∨ (s.sole.get port.toNat).volIndex
      (volume.setWidth 24) keyId = none ∧ (s.sole.get port.toNat).volFree = some i) :=
⟨hdrFor 24 0x1005, 3, 0, 7, 1, handle64, 0, 0, ((cmdKeyed 3).keys.present 64).getD (runFor 0 0), callVolumeBind (hdrFor
      24 0x1005) 3 0 7 1 handle64 0, cmdKeyed 3, rfl, by decide, by decide, rfl, by decide, by decide⟩

set_option maxRecDepth 20000 in
theorem witness_CompleteRingCommands_9 : ∃ (h : CmdHdr) (port : Byte) (rsv : BitVec 24) (volume : Word) (keyId : Long)
      (rsv2 : Word) (i : Nat) (c : Call) (s : State), callVolumeBind h port rsv volume keyId 0 rsv2 = c ∧ c.Accepted s ∧
      (s.sole.get port.toNat).volIndex (volume.setWidth 24) keyId = some i :=
⟨hdrFor 24 0x1005, 3, 0, 0, 1, 0, 0, callVolumeBind (hdrFor 24 0x1005) 3 0 0 1 0 0, cmdReady.updPort 3 fun p =>
      { p with vols := [(0, { keyId := 1, vol := 0, valid := true, handle := 5 })] }, rfl, by decide, by decide⟩

set_option maxRecDepth 20000 in
theorem witness_CompleteRingCommands_10 : ∃ (h : CmdHdr) (port : Byte) (rsv : BitVec 56) (c : Call) (s : State),
      callPortHold h port rsv = c ∧ c.Accepted s :=
⟨hdrFor 8 0x1005, 3, 0, callPortHold (hdrFor 8 0x1005) 3 0, cmdReady, rfl, by decide⟩

set_option maxRecDepth 20000 in
theorem witness_CompleteRingCommands_11 : ∃ (h : CmdHdr) (port : Byte) (rsv : BitVec 56) (c : Call) (s : State),
      callPortRelease h port rsv = c ∧ c.Accepted s :=
⟨hdrFor 8 0x1005, 3, 0, callPortRelease (hdrFor 8 0x1005) 3 0, cmdReady, rfl, by decide⟩

theorem witness_CompleteRingCommands_12 : ∃ (c : Call) (r : MirrorRec) (body : List Byte) (s : State), s.welt.mirroring
      = false :=
⟨callKeyInfo (hdrFor 8 0x1005) 0 0, .keyUnload 0, [], cmdReady, by decide⟩

theorem witness_CompleteRingCommands_13 : ∃ (c : Call) (r : MirrorRec) (body : List Byte) (s : State), s.welt.mirroring
      = true :=
⟨callKeyInfo (hdrFor 8 0x1005) 0 0, .keyUnload 0, [], cmdReady.withWelt fun w => { w with state := .paired }, by decide⟩

set_option maxRecDepth 20000 in
theorem witness_CompleteLogCommands_1 : ∃ (h : CmdHdr) (qid : Word) (rsv : Word) (table : List Byte) (c : Call) (s :
      State), callAlarmTableSet h qid rsv table s = c ∧ c.Accepted s :=
⟨hdrFor 72 0x1005, 0, 0, List.replicate 47 1 ++ [4] ++ List.replicate 9 1 ++ List.replicate 7 0, callAlarmTableSet
      (hdrFor 72 0x1005) 0 0 (List.replicate 47 1 ++ [4] ++ List.replicate 9 1 ++ List.replicate 7 0) (cmdReady.withLog
      fun l => { l with kept := tableBank (List.replicate 47 1 ++ [4] ++ List.replicate 9 1 ++ List.replicate 7 0) }),
      cmdReady.withLog fun l =>
      { l with kept := tableBank (List.replicate 47 1 ++ [4] ++ List.replicate 9 1 ++ List.replicate 7 0) }, rfl, by
      decide⟩

set_option maxRecDepth 20000 in
theorem witness_CompleteLogCommands_2 : ∃ (h : CmdHdr) (c : Call) (s : State), callAlarmTableGet h = c ∧ c.Accepted s :=
⟨hdrFor 0 0x1005, callAlarmTableGet (hdrFor 0 0x1005), cmdReady, rfl, by decide⟩

set_option maxRecDepth 20000 in
theorem witness_CompleteLogCommands_3 : ∃ (h : CmdHdr) (first : Word) (max : Word) (c : Call) (s : State), callLogExport
      h first max = c ∧ c.Accepted s :=
⟨hdrFor 8 0x1005, 1, 16, callLogExport (hdrFor 8 0x1005) 1 16, cmdKeyed 3, rfl, by decide⟩

set_option maxRecDepth 20000 in
theorem witness_CompleteLogCommands_4 : ∃ (h : CmdHdr) (seq : Word) (rsv : Word) (c : Call) (s : State), callLogRelease
      h seq rsv = c ∧ c.Accepted s :=
⟨hdrFor 8 0x1005, 1, 0, callLogRelease (hdrFor 8 0x1005) 1 0, cmdReady, rfl, by decide⟩

set_option maxRecDepth 20000 in
theorem witness_CompleteLogCommands_5 : ∃ (h : CmdHdr) (c : Call) (s : State), callLogStatus h = c ∧ c.Accepted s :=
⟨hdrFor 0 0x1005, callLogStatus (hdrFor 0 0x1005), cmdReady, rfl, by decide⟩

set_option maxRecDepth 20000 in
theorem witness_CompleteLogCommands_6 : ∃ (h : CmdHdr) (len : Word) (rsv : Word) (c : Call) (s : State), callRandomGet h
      len rsv = c ∧ c.Accepted s ∧ s.rng.serves (c.poolInst s) = true :=
⟨hdrFor 8 0x1005, 16, 0, callRandomGet (hdrFor 8 0x1005) 16 0, cmdKeyed 3, rfl, by decide, by decide⟩

set_option maxRecDepth 20000 in
theorem witness_CompleteLogCommands_7 : ∃ (h : CmdHdr) (c : Call) (s : State), callRngStatus h = c ∧ c.Accepted s :=
⟨hdrFor 0 0x1005, callRngStatus (hdrFor 0 0x1005), cmdReady, rfl, by decide⟩

set_option maxRecDepth 20000 in
theorem witness_CompleteLogCommands_8 : ∃ (h : CmdHdr) (qid : Word) (rsv : Word) (c : Call) (s : State),
      callRngAuditEnter h qid rsv s = c ∧ c.Accepted s :=
⟨hdrFor 8 0x1005, 0, 0, callRngAuditEnter (hdrFor 8 0x1005) 0 0 (cmdReady.withBoot fun b =>
      { b with phase := .recovery }), cmdReady.withBoot fun b => { b with phase := .recovery }, rfl, by decide⟩

set_option maxRecDepth 20000 in
theorem witness_CompleteLogCommands_9 : ∃ (h : CmdHdr) (c : Call) (s : State), callRngAuditExit h = c ∧ c.Accepted s :=
⟨hdrFor 0 0x1005, callRngAuditExit (hdrFor 0 0x1005), cmdReady, rfl, by decide⟩

set_option maxRecDepth 20000 in
theorem witness_CompleteCardCommands_1 : ∃ (h : CmdHdr) (kind : Byte) (index : Byte) (rsv : BitVec 48) (c : Call) (s :
      State), callCardStatus h kind index rsv = c ∧ c.Accepted s :=
⟨hdrFor 8 0x1005, 0, 3, 0, callCardStatus (hdrFor 8 0x1005) 0 3 0, cmdReady, rfl, by decide⟩

set_option maxRecDepth 20000 in
theorem witness_CompleteCardCommands_2 : ∃ (h : CmdHdr) (port : Byte) (rsv : BitVec 24) (first : Word) (count : Word)
      (rsv2 : Word) (data : List Byte) (c : Call) (s : State), callCardRead h port rsv first count rsv2 (.done data) = c
      ∧ c.Accepted s ∧ sdErr s port.toNat = none ∧ s.cardBusy 0 port.toNat = false ∧ (s.sdPort port.toNat).foreign =
      false ∧ (s.sdPort port.toNat).outside first count = false ∧ (s.sdPort port.toNat).inVoid first count = false :=
⟨hdrFor 16 0x1005, 3, 0, 4, 1, 0, [1], callCardRead (hdrFor 16 0x1005) 3 0 4 1 0 (.done [1]), ((cmdReady.updSd 3 fun x
      => { x with state := .ready, det := true, blocks := 1000 })), rfl, by decide, by decide, by decide, by decide, by
      decide, by decide⟩

set_option maxRecDepth 20000 in
theorem witness_CompleteCardCommands_3 : ∃ (h : CmdHdr) (port : Byte) (rsv : BitVec 24) (first : Word) (count : Word)
      (rsv2 : Word) (data : List Byte) (back : List Byte) (c : Call) (s : State), callCardWrite h port rsv first count
      rsv2 data (.done back) = c ∧ c.Accepted s ∧ (¬ (first = 0xFFFFFFFF ∧ count = 1)) ∧ sdErr s port.toNat = none ∧
      s.cardBusy 0 port.toNat = false ∧ (s.sdPort port.toNat).wp = false ∧ (s.sdPort port.toNat).foreign = false ∧
      (s.sdPort port.toNat).voids.length < 512 ∧ (s.sdPort port.toNat).outside first count = false :=
⟨hdrFor 528 0x1005, 3, 0, 4, 1, 0, [], [], callCardWrite (hdrFor 528 0x1005) 3 0 4 1 0 [] (.done []), ((cmdReady.updSd 3
      fun x => { x with state := .ready, det := true, blocks := 1000 })), rfl, by decide, by decide, by decide, by
      decide, by decide, by decide, by decide, by decide⟩

set_option maxRecDepth 20000 in
theorem witness_CompleteCardCommands_4 : ∃ (h : CmdHdr) (slot : Byte) (rsv : BitVec 24) (len : Word) (apdu : List Byte)
      (r : List Byte) (c : Call) (s : State), callIccApdu h slot rsv len apdu (.done r) = c ∧ c.Accepted s ∧ s.unitOn
      (31 + slot.toNat) = true ∧ s.cardBusy 1 slot.toNat = false ∧ ((s.iccSlot slot.toNat).state = .active ∨ (s.iccSlot
      slot.toNat).state = .clockStopped) ∧ apduLenOk (s.iccSlot slot.toNat).t1 len.toNat = true :=
⟨hdrFor 16 0x1005, 1, 0, 5, [], [0x90, 0], callIccApdu (hdrFor 16 0x1005) 1 0 5 [] (.done [0x90, 0]), (cmdReady.updIcc 1
      fun x => { x with state := .active, pres := true }), rfl, by decide, by decide, by decide, by decide, by decide⟩

set_option maxRecDepth 20000 in
theorem witness_CompleteCardCommands_5 : ∃ (h : CmdHdr) (typeB : Bool) (uid : List Byte) (c : Call) (s : State),
      callBadgePoll h (.found typeB uid) = c ∧ c.Accepted s ∧ s.unitOn 33 = true ∧ s.listen.field = false ∧
      s.listen.session = false ∧ s.cls.mode = .off :=
⟨hdrFor 0 0x1005, false, [1, 2, 3, 4], callBadgePoll (hdrFor 0 0x1005) (.found false [1, 2, 3, 4]), cmdReady, rfl, by
      decide, by decide, by decide, by decide, by decide⟩

set_option maxRecDepth 20000 in
theorem witness_CompleteCardCommands_6 : ∃ (h : CmdHdr) (page : Byte) (count : Byte) (rsv : BitVec 48) (data : List
      Byte) (c : Call) (s : State), callTagPost h page count rsv data = c ∧ c.Accepted s ∧ s.pageHeld page.toNat = false
      :=
⟨hdrFor 72 0x1005, 9, 1, 0, [1], callTagPost (hdrFor 72 0x1005) 9 1 0 [1], cmdReady, rfl, by decide, by decide⟩

set_option maxRecDepth 20000 in
theorem witness_CompleteCardCommands_7 : ∃ (h : CmdHdr) (first : Byte) (count : Byte) (rsv : BitVec 48) (c : Call) (s :
      State), callTagReadNotes h first count rsv = c ∧ c.Accepted s ∧ (((List.range count.toNat).map fun i =>
      first.toNat + i).any s.pageHeld) = false :=
⟨hdrFor 8 0x1005, 96, 2, 0, callTagReadNotes (hdrFor 8 0x1005) 96 2 0, cmdReady, rfl, by decide, by decide⟩

set_option maxRecDepth 20000 in
theorem witness_CompleteCardCommands_8 : ∃ (h : CmdHdr) (len : Word) (rsv : Word) (blob : List Byte) (c : Call) (s :
      State), callTagSetAuditKey h len rsv blob = c ∧ c.Accepted s :=
⟨hdrFor 104 0x1005, 96, 0, [], callTagSetAuditKey (hdrFor 104 0x1005) 96 0 [], cmdDk, rfl, by decide⟩

set_option maxRecDepth 20000 in
theorem witness_CompleteDomainCommands_1 : ∃ (h : CmdHdr) (slot : Half) (rsv : Half) (blobLen : Word) (blob : List Byte)
      (c : Call) (s : State), callKeyLoad h slot rsv blobLen blob = c ∧ c.Accepted s ∧ sliceBytes (padTo blobLen.toNat
      blob) 0 4 ≠ ascii "CXMB" ∧ blobCls (padTo blobLen.toNat blob) = 0 :=
⟨hdrFor 104 0x1005, 0xFFFF, 0, 96, [], callKeyLoad (hdrFor 104 0x1005) 0xFFFF 0 96 [], cmdDk, rfl, by decide, by decide,
      by decide⟩

set_option maxRecDepth 20000 in
theorem witness_CompleteDomainCommands_2 : ∃ (h : CmdHdr) (slot : Half) (rsv : Half) (blobLen : Word) (blob : List Byte)
      (c : Call) (s : State), callKeyLoad h slot rsv blobLen blob = c ∧ c.Accepted s ∧ sliceBytes (padTo blobLen.toNat
      blob) 0 4 ≠ ascii "CXMB" ∧ blobCls (padTo blobLen.toNat blob) = 2 :=
⟨hdrFor 104 0x1005, 0xFFFF, 0, 96, [0, 0, 0, 0, 0, 2], callKeyLoad (hdrFor 104 0x1005) 0xFFFF 0 96 ([0, 0, 0, 0, 0, 2]),
      cmdDk, rfl, by decide, by decide, by decide⟩

set_option maxRecDepth 20000 in
theorem witness_CompleteDomainCommands_3 : ∃ (h : CmdHdr) (slot : Half) (rsv : Half) (blobLen : Word) (blob : List Byte)
      (c : Call) (s : State), callKeyLoad h slot rsv blobLen blob = c ∧ c.Accepted s ∧ sliceBytes (padTo blobLen.toNat
      blob) 0 4 ≠ ascii "CXMB" ∧ blobCls (padTo blobLen.toNat blob) = 1 :=
⟨hdrFor 104 0x1005, 2, 0, 96, [0, 0, 0, 0, 0, 1], callKeyLoad (hdrFor 104 0x1005) 2 0 96 ([0, 0, 0, 0, 0, 1]), cmdDk,
      rfl, by decide, by decide, by decide⟩

set_option maxRecDepth 20000 in
theorem witness_CompleteDomainCommands_4 : ∃ (h : CmdHdr) (rsv : Half) (blobLen : Word) (blob : List Byte) (c : Call) (s
      : State), callKeyLoad h 0xFFFF rsv blobLen blob = c ∧ c.Accepted s ∧ sliceBytes (padTo blobLen.toNat blob) 0 4 =
      ascii "CXMB" ∧ firstFail (memberForm (padTo blobLen.toNat blob) 68 72) = none :=
⟨hdrFor 5576 0x1005, 0, 5568, padTo 5568 (ascii "CXMB" ++ [1, 0, 7, 0]), callKeyLoad (hdrFor 5576 0x1005) 0xFFFF 0 5568
      (padTo 5568 (ascii "CXMB" ++ [1, 0, 7, 0])), cmdReady, rfl, by decide +kernel, by decide +kernel, by
      decide +kernel⟩

set_option maxRecDepth 20000 in
theorem witness_CompleteDomainCommands_5 : ∃ (h : CmdHdr) (qid : Word) (mLen : Word) (dLen : Word) (rsv : Word) (m :
      List Byte) (d : List Byte) (c : Call) (s : State), callDomainJoin h qid mLen dLen rsv m d = c ∧ c.Accepted s :=
⟨hdrFor 7224 0x1005, 9, 5568, 1640, 0, padTo 5568 (ascii "CXMB" ++ [1, 0, 7, 0]), padTo 1640 (ascii "CXDJ" ++ [1, 0, 0,
      0, 7, 0] ++ List.replicate 1574 0 ++ [48]), callDomainJoin (hdrFor 7224 0x1005) 9 5568 1640 0 (padTo 5568 (ascii
      "CXMB" ++ [1, 0, 7, 0])) (padTo 1640 (ascii "CXDJ" ++ [1, 0, 0, 0, 7, 0] ++ List.replicate 1574 0 ++ [48])),
      (cmdKeyed 3).withBoot fun b => { b with phase := .recovery }, rfl, by decide +kernel⟩

set_option maxRecDepth 20000 in
theorem witness_CompleteDomainCommands_6 : ∃ (h : CmdHdr) (device : Half) (rsv : Half) (floor : Word) (sigLen : Word)
      (rsv2 : Word) (sig : List Byte) (m : Membership) (c : Call) (s : State), callEpochFloor h device rsv floor sigLen
      rsv2 sig = c ∧ c.Accepted s ∧ s.insole.trusted = false ∧ s.insole.epoch ≠ 0xFFFFFFFF ∧ floor ≠ 0xFFFFFFFF ∧
      s.fw.membership = some m :=
⟨hdrFor 3424 0x1005, 7, 0, 5, 3405, 0, [], membershipOf 7, callEpochFloor (hdrFor 3424 0x1005) 7 0 5 3405 0 [],
      cmdReady.withInsole fun i => { i with trusted := false }, rfl, by decide, by decide, by decide, by decide, by
      decide⟩

set_option maxRecDepth 20000 in
theorem witness_CompleteDomainCommands_8 : ∃ (h : CmdHdr) (qid : Word) (partner : Half) (rsv : Half) (c : Call) (s :
      State), callPairBind h qid partner rsv = c ∧ c.Accepted s ∧ s.fw.device ≠ some partner ∧ s.keys.present 3 = none ∧
      (s.keys.present 2).isSome = true ∧ s.fw.membership.isSome = true :=
⟨hdrFor 8 0x1005, 9, 8, 0, callPairBind (hdrFor 8 0x1005) 9 8 0, ticketFor 0x0A03 (purposeDigest (leBytes 2 8 ++ leBytes
      2 0)) (cmdReady.withKeys fun _ => { ready := true, runs := [(2, some (runFor 0 0))], gens := [] }), rfl, ⟨by
      decide, by decide, by decide, by decide, by decide, by decide, by decide, by decide, ticketFor_ok rfl rfl⟩, by
      decide, by decide, by decide, by decide⟩

set_option maxRecDepth 20000 in
theorem witness_CompleteDomainCommands_9 : ∃ (h : CmdHdr) (c : Call) (s : State), callPairStatus h = c ∧ c.Accepted s :=
⟨hdrFor 0 0x1005, callPairStatus (hdrFor 0 0x1005), cmdReady, rfl, by decide⟩

set_option maxRecDepth 20000 in
theorem witness_CompleteDomainCommands_10 : ∃ (h : CmdHdr) (rsv : BitVec 56) (c : Call) (s : State), callPairHandover h
      0 rsv = c ∧ c.Accepted s ∧ s.welt.state = .paired :=
⟨hdrFor 8 0x1005, 0, callPairHandover (hdrFor 8 0x1005) 0 0, cmdReady.withWelt fun w => { w with state := .paired },
      rfl, by decide, by decide⟩

set_option maxRecDepth 20000 in
theorem witness_CompleteDomainCommands_11 : ∃ (h : CmdHdr) (rsv : BitVec 56) (c : Call) (s : State), callPairHandover h
      1 rsv = c ∧ c.Accepted s ∧ s.welt.state = .given :=
⟨hdrFor 8 0x1005, 0, callPairHandover (hdrFor 8 0x1005) 1 0, cmdReady.withWelt fun w => { w with state := .given }, rfl,
      by decide, by decide⟩

set_option maxRecDepth 20000 in
theorem witness_CompleteDomainCommands_12 : ∃ (fr : WeltRx) (elapsed : Word) (w : Waiting) (partner : Half) (s : State),
      s.fw.binding = some (w, partner) ∧ s.devNo.toNat < partner.toNat ∧ s.keys.present 3 = none ∧ (s.keys.present
      1).isSome = true ∧ s.rng.freshServes (s.mbx.route w.hdr.fn.val).core.toNat = true ∧ s.rng.buffer ≠ [] ∧
      s.rng.freshQueue = [] :=
⟨rxOf 0x27 0 [], 4, waitBind, 8, clustered bindReady, by decide⟩

set_option maxRecDepth 20000 in
theorem witness_CompleteDomainCommands_13 : ∃ (fr : WeltRx) (elapsed : Word) (w : Waiting) (partner : Half) (s : State),
      s.fw.binding = some (w, partner) ∧ partner.toNat < s.devNo.toNat ∧ s.keys.present 3 = none ∧ (s.keys.present
      1).isSome = true ∧ s.weltHears fr = true ∧ weltCrcOk 0x27 fr = true :=
⟨rxOf 0x27 0 [], 4, { waitBind with cmd := .pairBind (hdrFor 8 0x1005) 9 5 0 }, 5, (cmdWaiting
      { waitBind with cmd := .pairBind (hdrFor 8 0x1005) 9 5 0 } |>.withKeys fun _ =>
      { ready := true, runs := [(1, some (runFor 0 0)), (2, some (runFor 0 0))], gens := [] }).withWelt fun w =>
      { w with en := true, lanes := 3 }, by decide⟩

set_option maxRecDepth 20000 in
theorem witness_CompleteDeviceCommands_1 : ∃ (h : CmdHdr) (c : Call) (s : State), callDeviceInfo h = c ∧ c.Accepted s ∧
      s.fw.membership.isSome = true :=
⟨hdrFor 0 0, callDeviceInfo (hdrFor 0 0), cmdReady, rfl, by decide, by decide⟩

set_option maxRecDepth 20000 in
theorem witness_CompleteDeviceCommands_2 : ∃ (h : CmdHdr) (c : Call) (s : State), callDeviceInfo h = c ∧ c.Accepted s ∧
      s.fw.membership = none :=
⟨hdrFor 0 0, callDeviceInfo (hdrFor 0 0), cmdReady.withFw fun f => { f with membership := none }, rfl, by decide, by
      decide⟩

set_option maxRecDepth 20000 in
theorem witness_CompleteDeviceCommands_3 : ∃ (h : CmdHdr) (alg : Byte) (rsv : BitVec 24) (mask : Word) (nonce : BitVec
      256) (c : Call) (s : State), callAttestGet h alg rsv mask nonce = c ∧ c.Accepted s :=
⟨hdrFor 40 0, 0, 0, 1, 0, callAttestGet (hdrFor 40 0) 0 0 1 0, cmdKeyed 3, rfl, by decide⟩

set_option maxRecDepth 20000 in
theorem witness_CompleteDeviceCommands_4 : ∃ (h : CmdHdr) (index : Byte) (rsv : BitVec 56) (c : Call) (s : State),
      callMeasRead h index rsv = c ∧ c.Accepted s :=
⟨hdrFor 8 0, 31, 0, callMeasRead (hdrFor 8 0) 31 0, cmdReady, rfl, by decide⟩

set_option maxRecDepth 20000 in
theorem witness_CompleteDeviceCommands_5 : ∃ (h : CmdHdr) (qid : Word) (len : Word) (p : List Byte) (c : Call) (s :
      State), callExtLoad h qid len p s = c ∧ c.Accepted s ∧ isDecodePackage qid p = false :=
⟨hdrFor 16 0x1005, 0, 4, [1, 2, 3, 4], callExtLoad (hdrFor 16 0x1005) 0 4 ([1, 2, 3, 4]) (cmdReady.withBoot fun b =>
      { b with phase := .start }), cmdReady.withBoot fun b => { b with phase := .start }, rfl, by decide, by decide⟩

set_option maxRecDepth 20000 in
theorem witness_CompleteDeviceCommands_6 : ∃ (h : CmdHdr) (qid : Word) (len : Word) (p : List Byte) (m : Membership) (c
      : Call) (s : State), callExtLoad h qid len p s = c ∧ c.Accepted s ∧ isDecodePackage qid p = true ∧ s.fw.membership
      = some m :=
⟨hdrFor 3568 0x1005, 9, 3557, padTo 3557 (ascii "CXDP" ++ [1, 0, 1, 0]), membershipOf 7, callExtLoad (hdrFor 3568
      0x1005) 9 3557 (padTo 3557 (ascii "CXDP" ++ [1, 0, 1, 0])) (cmdReady.withBoot fun b =>
      { b with phase := .start }), cmdReady.withBoot fun b => { b with phase := .start }, rfl, by decide +kernel, by
      decide +kernel, by decide +kernel⟩

theorem witness_CompleteDeviceCommands_7 : ∃ (c : Call) (k : State → State) (s : State), c.tooBig 8 = none :=
⟨callKeyInfo (hdrFor 8 0x1005) 0 0, id, cmdReady, by decide⟩

set_option maxRecDepth 20000 in
theorem witness_CompleteDeviceCommands_8 : ∃ (h : CmdHdr) (moduleId : Word) (rsv : Word) (m : Module) (c : Call) (s :
      State), callExtUnload h moduleId rsv = c ∧ c.Accepted s ∧ (s.fw.modules.find? fun m => decide (m.id = moduleId)) =
      some m :=
⟨hdrFor 8 0x1005, 1, 0, { id := 1, decode := true, version := 1 }, callExtUnload (hdrFor 8 0x1005) 1 0, cmdReady.withFw
      fun f => { f with modules := [{ id := 1, decode := true, version := 1 }] }, rfl, by decide, by decide⟩

set_option maxRecDepth 20000 in
theorem witness_CompleteDeviceCommands_9 : ∃ (h : CmdHdr) (addr : Long) (len : Word) (rsv : Word) (c : Call) (s :
      State), callFwStage h addr len rsv = c ∧ c.Accepted s ∧ len ≠ 0 ∧ len.toNat ≤ 0x400000 ∧ addr.toNat + len.toNat ≤
      2 ^ 64 :=
⟨hdrFor 16 0x1005, 0, 8192, 0, callFwStage (hdrFor 16 0x1005) 0 8192 0, cmdReady, rfl, by decide, by decide, by decide,
      by decide⟩

set_option maxRecDepth 20000 in
theorem witness_CompleteDeviceCommands_10 : ∃ (h : CmdHdr) (qid : Word) (which : Byte) (value : Byte) (rsv : Half) (c :
      Call) (s : State), callFloorRaise h qid which value rsv = c ∧ c.Accepted s ∧ value.toNat ≤ 64 ∧ (which = 0 →
      value.toNat ≤ s.boot.fwVer.toNat) ∧ (which = 1 → value.toNat ≤ s.boot.cobVer.toNat) :=
⟨hdrFor 8 0x1005, 9, 2, 3, 0, callFloorRaise (hdrFor 8 0x1005) 9 2 3 0, floorState 3, rfl, ⟨by decide, by decide, by
      decide, by decide, by decide, by decide, by decide, by decide, ticketFor_ok rfl rfl⟩, by decide, by decide, by
      decide⟩

set_option maxRecDepth 20000 in
theorem witness_CompleteDeviceCommands_11 : ∃ (h : CmdHdr) (rsv : BitVec 56) (c : Call) (s : State), callPhaseAdvance h
      2 rsv = c ∧ c.Accepted s ∧ s.boot.phase = .start ∧ s.insole.ik.isSome = true ∧ s.fw.membership.isSome = true :=
⟨hdrFor 8 0x1005, 0, callPhaseAdvance (hdrFor 8 0x1005) 2 0, (cmdReady.withBoot fun b =>
      { b with phase := .start }).withInsole fun i => { i with ik := some [] }, rfl, by decide, by decide, by decide, by
      decide⟩

set_option maxRecDepth 20000 in
theorem witness_CompleteDeviceCommands_12 : ∃ (h : CmdHdr) (rsv : BitVec 56) (c : Call) (s : State), callPhaseAdvance h
      3 rsv = c ∧ c.Accepted s ∧ s.boot.phase = .start ∧ s.pins.lifecycle = .test :=
⟨hdrFor 8 0x1005, 0, callPhaseAdvance (hdrFor 8 0x1005) 3 0, (cmdReady.withBoot fun b =>
      { b with phase := .start }).withPins fun p => { p with lifecycle := .test }, rfl, by decide, by decide, by decide⟩

set_option maxRecDepth 20000 in
theorem witness_CompleteDeviceCommands_13 : ∃ (h : CmdHdr) (rsv : BitVec 56) (c : Call) (s : State), callPhaseAdvance h
      2 rsv = c ∧ c.Accepted s ∧ s.boot.phase = .recovery ∧ s.fw.joined = true :=
⟨hdrFor 8 0x1005, 0, callPhaseAdvance (hdrFor 8 0x1005) 2 0, (cmdReady.withBoot fun b =>
      { b with phase := .recovery }).withFw fun f => { f with joined := true }, rfl, by decide, by decide, by decide⟩

set_option maxRecDepth 20000 in
theorem witness_CompleteDeviceCommands_14 : ∃ (h : CmdHdr) (target : Byte) (rsv : BitVec 56) (c : Call) (s : State),
      callPhaseAdvance h target rsv = c ∧ c.Accepted s ∧ s.boot.phase = .recovery ∧ target ≠ 2 :=
⟨hdrFor 8 0x1005, 3, 0, callPhaseAdvance (hdrFor 8 0x1005) 3 0, cmdReady.withBoot fun b =>
      { b with phase := .recovery }, rfl, by decide, by decide, by decide⟩

set_option maxRecDepth 20000 in
theorem witness_CompleteDeviceCommands_15 : ∃ (h : CmdHdr) (shadows : List (Fin 16384 × Long)) (c : Call) (s : State),
      callShelfDown h shadows = c ∧ c.Accepted s ∧ s.welt.confirmed = false :=
⟨hdrFor 0 0x1005, [], callShelfDown (hdrFor 0 0x1005) [], cmdReady, rfl, by decide, by decide⟩

set_option maxRecDepth 20000 in
theorem witness_CompleteDeviceCommands_16 : ∃ (h : CmdHdr) (shadows : List (Fin 16384 × Long)) (c : Call) (s : State),
      callShelfDown h shadows = c ∧ c.Accepted s ∧ s.welt.confirmed = true :=
⟨hdrFor 0 0x1005, [], callShelfDown (hdrFor 0 0x1005) [], cmdReady.withWelt fun w => { w with confirmed := true }, rfl,
      by decide, by decide⟩

set_option maxRecDepth 20000 in
theorem witness_CompleteDeviceCommands_17 : ∃ (h : CmdHdr) (index : Half) (rsv : BitVec 48) (c : Call) (s : State),
      callSensorRead h index rsv = c ∧ c.Accepted s :=
⟨hdrFor 8 0x1005, 18, 0, callSensorRead (hdrFor 8 0x1005) 18 0, cmdReady, rfl, by decide⟩

set_option maxRecDepth 20000 in
theorem witness_CompleteDeviceCommands_18 : ∃ (h : CmdHdr) (first : Word) (max : Word) (c : Call) (s : State),
      callEventRead h first max = c ∧ c.Accepted s :=
⟨hdrFor 8 0x1005, 1, 16, callEventRead (hdrFor 8 0x1005) 1 16, cmdReady, rfl, by decide⟩

set_option maxRecDepth 20000 in
theorem witness_CompleteDeviceCommands_19 : ∃ (h : CmdHdr) (map : Long) (addr : Byte) (rsv : BitVec 24) (chainLen :
      Word) (chain : List Byte) (c : Call) (s : State), callMgtConfig h map addr rsv chainLen chain = c ∧ c.Accepted s ∧
      (s.boot.phase = .service → (map >>> 24).toNat % 8 = (s.cob.unitEn >>> 24).toNat % 8) :=
⟨hdrFor 16 0x1005, 0x7FFFFFFFF, 0x20, 0, 0, [], callMgtConfig (hdrFor 16 0x1005) 0x7FFFFFFFF 0x20 0 0 [], cmdReady, rfl,
      by decide, by decide⟩

end Sys2Proof.Tests
end

/-! SUPPORT. What a register write does, block by block, and the statement about register writes (01 R31-R37). -/

namespace Sys2Proof.Machine

variable {c : Nat} {lv : Level} {v : Word} {s : State}

/-! ### From REGISTER_WRITE to the block of the address -/

/-- A core's write of an address that the map uses goes to the block of the address (01 R31, R33). -/
theorem exec_registerWrite_core {c : CoreNo} {addr : Word} {t : State}
    (hused : regUsed (decide (c.val = 4)) addr.toNat = true)
    (hblock : s.coreRegWrite c.val lv addr.toNat v = t) : exec (.registerWrite (.core c lv) addr v) s = .next t := by
  simp [execRegisterWrite, State.regWrite, hused, hblock]

/-- A host write goes to BAR0 of its function (01 R35). -/
theorem exec_registerWrite_host {f : Fin 64} {addr : Word} {t : State} (hbar : s.hostRegWrite f addr.toNat v = t) :
    exec (.registerWrite (.host f) addr v) s = .next t := by
  simp [execRegisterWrite, State.regWrite, hbar]

/-! ### Plain registers of one unit -/

/-- DIG_KEY of a channel (11 R360). -/
theorem DigChan.write_key : DigChan.write 0x04 v = fun x => { x with key := v } := rfl

/-- PKE_KEY of an engine (10 R339). -/
theorem PkeEngine.write_key : PkeEngine.write 0x04 v = fun e => { e with key := v } := rfl

/-- KEY_ARG of a channel (05 R182). -/
theorem KeyChan.write_arg : KeyChan.write 0x04 v = fun x => { x with arg := v } := rfl

/-- LST_GATE of a port (09 R314). -/
theorem Port.lstWrite_gate : Port.lstWrite 0x10 v = fun p => { p with gate := v } := rfl

/-! ### Blocks that the cores write -/

/-- Ring registers take no write at user level (06 R217). -/
theorem State.ringWrite_user (o : Nat) : s.ringWrite .user o v = s := by simp [State.ringWrite]

/-- RING_SEL (06 R217). -/
theorem State.ringWrite_sel (hlv : lv ≠ .user) :
    s.ringWrite lv 0 v = s.withRings fun rs => { rs with sel := v.setWidth 14 } := by
  simp [State.ringWrite, hlv]

/-- CLK_AGE takes a limit of at least 16 (07 R259). -/
theorem State.clkWrite_age (hage : 16 ≤ v.toNat % 65536) :
    s.clkWrite c .machine 8 v = s.withCipher fun x => { x with age := v.setWidth 16 } := by
  simp [State.clkWrite, Nat.not_lt.mpr hage]

/-- CLK_AGE ignores a limit under 16 (07 R259). -/
theorem State.clkWrite_age_low (hage : v.toNat % 65536 < 16) : s.clkWrite c .machine 8 v = s := by
  simp [State.clkWrite, hage]

/-- DIG_KEY of the core's own channel (11 R360). -/
theorem State.digWrite_key (hc : c < 5) (hlv : lv ≠ .user) :
    s.digWrite c lv (c * 0x100 + 4) v = s.withDig fun d => d.updChan c fun x => { x with key := v } := by
  have hin : c * 0x100 + 4 < 0x500 := by omega
  have hchan : (c * 0x100 + 4) / 0x100 = c := by omega
  have hreg : (c * 0x100 + 4) % 0x100 = 4 := by omega
  simp [State.digWrite, hin, hchan, hreg, hlv, DigChan.write_key]

/-- PKE_KEY of an idle engine (10 R339). -/
theorem State.pkeWrite_key {n : Nat} (hlv : lv ≠ .user) (hidle : (s.engine n).state = 0) :
    s.pkeWrite c lv n 4 v = s.updEngine n fun e => { e with key := v } := by
  simp [State.pkeWrite, hlv, hidle, PkeEngine.write_key]

/-- RNG_SRC_FAIL clears the sources that the write names (12 R382; log entry 27). -/
theorem State.rngWrite_srcFail (hlv : lv ≠ .user) :
    s.rngWrite c lv 8 v = s.withRng fun r => { r with srcFail := r.srcFail &&& ~~~(v.setWidth 28) } := by
  simp [State.rngWrite, hlv, w1c]

/-- KEY_ARG of the core's own channel (05 R181, R182). -/
theorem State.keyWrite_arg (hc : c < 4) (hlv : lv ≠ .user) :
    s.keyWrite c lv (c * 0x100 + 4) v = s.withKeys fun k => k.updChan c fun x => { x with arg := v } := by
  have hin : c * 0x100 + 4 < 0x400 := by omega
  have hchan : (c * 0x100 + 4) / 0x100 = c := by omega
  have hreg : (c * 0x100 + 4) % 0x100 = 4 := by omega
  have hown : keyWriter (Fin.ofNat 4 c) (.core (Fin.ofNat 5 c) lv) = true := by
    simp [keyWriter, hlv, Nat.mod_eq_of_lt hc, Nat.mod_eq_of_lt (Nat.lt_succ_of_lt hc)]
  simp [State.keyWrite, hin, hchan, hreg, hown, Nat.mod_eq_of_lt hc, KeyChan.write_arg, -Fin.ofNat_eq_cast]

/-- MPU_BASE of region `r`, aligned to 256 bytes (19 R548, R554). -/
theorem State.mpuWrite_base {m r : Nat} (hr : r < 16) :
    s.mpuWrite .machine m (r * 0x10) v = s.updMpu m fun u =>
      { u with written := { u.written with base := Bank.set 0 r (alignW 8 v) u.written.base } } := by
  have hin : r * 0x10 < 0x100 := by omega
  simp [State.mpuWrite, hin, MpuSet.write]

/-- ALM_RAISE_DET (13 R410). -/
theorem State.almWrite_raiseDet :
    s.almWrite c .machine 0xA0 v = s.withAlarm fun a => { a with raiseDet := v } := by
  simp [State.almWrite]

/-- ALM_LOG_SEL (13 R410). -/
theorem State.almWrite_logSel :
    s.almWrite c .machine 0x118 v = s.withAlarm fun a => { a with logSel := v } := by
  simp [State.almWrite]

/-- LST_GATE of a port whose EN is 0 (09 R314). -/
theorem State.solWrite_gate {n o : Nat} (ho : o = 0x11000 + n * 0x100 + 0x10) (hn : n < 16)
    (hen : (s.sole.get n).en = false) :
    s.solWrite .machine o v = s.updPort n fun p => { p with gate := v } := by
  have hin : 0x11000 ≤ o ∧ o < 0x12000 := by omega
  have hout : ¬ o < 0x10000 := by omega
  have hport : (o - 0x11000) / 0x100 = n := by omega
  have hreg : o % 0x100 = 0x10 := by omega
  simp [State.solWrite, hin, hout, hport, hreg, hen, Port.lstWrite_gate]

/-! ### BAR0 -/

/-- A misaligned host write is dropped and counted (03 R83; log entry 30). -/
theorem State.hostRegWrite_misaligned {f : Fin 64} {a : Nat} (ha : a % 4 ≠ 0) :
    s.hostRegWrite f a v = s.withMbx fun m => m.updPage f.val fun p => { p with badAcc := satAdd p.badAcc 1 } := by
  simp [State.hostRegWrite, ha]

/-- LDR_IMG_LO takes a 4 KiB aligned value through the PF while the loader is READY (02 R51). -/
theorem State.hostRegWrite_imgLo (hready : s.boot.state = .ready) :
    s.hostRegWrite 0 8 v = s.withBoot fun b => { b with imgLo := alignW 12 v } := by
  simp [State.hostRegWrite, State.ldrWrite, hready]

/-- MBX_TMO_CFG of a function's CMD mailbox takes 1 to 1,000,000 from the host, its sender (03 R91). -/
theorem State.hostRegWrite_tmoCfg {f : Fin 64} (hlo : 1 ≤ v.toNat % 2 ^ 20) (hhi : v.toNat % 2 ^ 20 ≤ 1000000) :
    s.hostRegWrite f 0x101C v = s.updBox f.val fun b => { b with tmoCfg := v.setWidth 20 } := by
  have htake : Side.sender = .sender ∧ 1 ≤ v.toNat % 2 ^ 20 ∧ v.toNat % 2 ^ 20 ≤ 1000000 := ⟨rfl, hlo, hhi⟩
  simp [State.hostRegWrite, State.mbxWrite, htake, mbxKey, -Nat.reducePow]

/-! ### The statement -/

/-- Settles O42: each address lies in its block, and the block's own lemma says what the write puts there. -/
theorem completeRegisterWrites : Obligations.CompleteRegisterWrites := by
  unfold Obligations.CompleteRegisterWrites
  refine ⟨?ringSel, ?ringUser, ?clkAge, ?clkAgeLow, ?digKey, ?pkeKey, ?rngSrcFail, ?keyArg, ?almRaiseDet, ?almLogSel,
    ?lstGate, ?mpuBase, ?misaligned, ?imgLo, ?tmoCfg⟩
  case ringSel => exact fun v s => exec_registerWrite_core (by decide) (State.ringWrite_sel (by decide))
  case ringUser => exact fun v s => exec_registerWrite_core (by decide) (State.ringWrite_user 0)
  case clkAge => exact fun v s hage => exec_registerWrite_core (by decide) (State.clkWrite_age hage)
  case clkAgeLow => exact fun v s hage => exec_registerWrite_core (by decide) (State.clkWrite_age_low hage)
  case digKey => exact fun v s => exec_registerWrite_core (by decide) (State.digWrite_key (c := 0) (by decide) (by decide))
  case pkeKey =>
    exact fun v s hidle => exec_registerWrite_core (by decide)
      (State.pkeWrite_key (c := 0) (lv := .machine) (by decide) hidle)
  case rngSrcFail =>
    exact fun v s => exec_registerWrite_core (by decide)
      (State.rngWrite_srcFail (c := 0) (lv := .machine) (by decide))
  case keyArg =>
    exact fun v s => exec_registerWrite_core (by decide)
      (State.keyWrite_arg (c := 0) (lv := .machine) (by decide) (by decide))
  case almRaiseDet => exact fun v s => exec_registerWrite_core (by decide) (State.almWrite_raiseDet (c := 0))
  case almLogSel => exact fun v s => exec_registerWrite_core (by decide) (State.almWrite_logSel (c := 2))
  case lstGate => exact fun v s hen => exec_registerWrite_core (by decide) (State.solWrite_gate (n := 2) rfl (by decide) hen)
  case mpuBase => exact fun v s => exec_registerWrite_core (by decide) (State.mpuWrite_base (m := 3) (r := 1) (by decide))
  case misaligned => exact fun f addr v s ha => exec_registerWrite_host (State.hostRegWrite_misaligned ha)
  case imgLo => exact fun v s hready => exec_registerWrite_host (State.hostRegWrite_imgLo hready)
  case tmoCfg => exact fun f v s hlo hhi => exec_registerWrite_host (State.hostRegWrite_tmoCfg hlo hhi)

end Sys2Proof.Machine

/-! SUPPORT. What a step keeps, whatever its command: `Keeps` of every command and of idling, and the statements that follow
(02 R52, R61, R62; log entries 1 and 2). -/

namespace Sys2Proof.Machine

/-- Every command keeps what `Keeps` names: the case of a command is the lemma of its row. -/
theorem exec_keeps {b0 s u : State} (h : Keeps b0 s) (hu : Keeps b0 u) : ∀ i : Instr, Keeps b0 (nextOr u (exec i s))
  | .pwrgdFall => execPwrgdFall_keeps s u h hu
  | .pwrgdRise => execPwrgdRise_keeps s u h hu
  | .perstAssert => execPerstAssert_keeps s u h hu
  | .perstRelease .. => execPerstRelease_keeps _ s u h hu
  | .insoleSupplySwitch .. => execInsoleSupplySwitch_keeps _ s u h hu
  | .insoleEmptyRestart => execInsoleEmptyRestart_keeps s u h hu
  | .mainResetEnd => execMainResetEnd_keeps s u h hu
  | .rngReady .. => execRngReady_keeps _ _ s u h hu
  | .pufReconstructionDone .. => execPufReconstructionDone_keeps _ s u h hu
  | .loaderLive => execLoaderLive_keeps s u h hu
  | .rngBootTimeout => execRngBootTimeout_keeps s u h hu
  | .ldrGo .. => execLdrGo_keeps _ _ s u h hu
  | .imageReadTimeout => execImageReadTimeout_keeps s u h hu
  | .imageVerifyDone .. => execImageVerifyDone_keeps _ s u h hu
  | .mbxMsgLoWrite .. => execMbxMsgLoWrite_keeps _ _ _ s u h hu
  | .mbxMsgHiWrite .. => execMbxMsgHiWrite_keeps _ _ _ s u h hu
  | .mbxMsgHiRead .. => execMbxMsgHiRead_keeps _ _ s u h hu
  | .mbxTimeout .. => execMbxTimeout_keeps _ s u h hu
  | .mbxDbellWrite .. => execMbxDbellWrite_keeps _ _ _ s u h hu
  | .mbxDbclrWrite .. => execMbxDbclrWrite_keeps _ _ _ s u h hu
  | .mbxLockRead .. => execMbxLockRead_keeps _ _ s u h hu
  | .mbxLockWrite .. => execMbxLockWrite_keeps _ _ _ s u h hu
  | .mbxHrouteWrite .. => execMbxHrouteWrite_keeps _ _ _ s u h hu
  | .evtNoticePost .. => execEvtNoticePost_keeps _ s u h hu
  | .functionLevelReset .. => execFunctionLevelReset_keeps _ s u h hu
  | .flrComplete .. => execFlrComplete_keeps _ s u h hu
  | .hotReset => execHotReset_keeps s u h hu
  | .d3hotToD0 .. => execD3hotToD0_keeps _ s u h hu
  | .numVfsWrite .. => execNumVfsWrite_keeps _ s u h hu
  | .poisonedWrite f => execPoisonedWrite_keeps f s u h hu
  | .barBadAccess .. => execBarBadAccess_keeps _ _ s u h hu
  | .ideKmKeyProg .. => execIdeKmKeyProg_keeps _ _ _ _ s u h hu
  | .undefinedOpcode .. => execUndefinedOpcode_keeps _ _ s u h hu
  | .commandTimeout .. => execCommandTimeout_keeps _ _ _ s u h hu
  | .sessionOpen .. => execSessionOpen_keeps _ _ _ _ _ _ _ s u h hu
  | .sessionClose .. => execSessionClose_keeps _ s u h hu
  | .quorumBegin .. => execQuorumBegin_keeps _ _ _ _ _ s u h hu
  | .quorumPresent .. => execQuorumPresent_keeps _ _ _ _ _ _ _ s u h hu
  | .quorumEnd .. => execQuorumEnd_keeps _ _ _ s u h hu
  | .quorumWindowEnd => execQuorumWindowEnd_keeps s u h hu
  | .ticketExpiry => execTicketExpiry_keeps s u h hu
  | .keyGenerate .. => execKeyGenerate_keeps _ _ s u h hu
  | .keyImport .. => execKeyImport_keeps _ _ _ _ _ _ _ _ s u h hu
  | .keyExport .. => execKeyExport_keeps _ _ _ _ _ s u h hu
  | .keyLoad .. => execKeyLoad_keeps _ _ _ _ _ s u h hu
  | .keyUnload .. => execKeyUnload_keeps _ _ _ s u h hu
  | .keyDerive .. => execKeyDerive_keeps _ _ _ _ _ _ _ s u h hu
  | .keyDestroy .. => execKeyDestroy_keeps _ _ _ _ s u h hu
  | .keyAttest .. => execKeyAttest_keeps _ _ _ _ _ s u h hu
  | .keyInfo .. => execKeyInfo_keeps _ _ _ s u h hu
  | .payBlockImport .. => execPayBlockImport_keeps _ _ _ _ s u h hu
  | .payBlockExport .. => execPayBlockExport_keeps _ _ _ _ _ _ s u h hu
  | .payPinTranslate .. => execPayPinTranslate_keeps _ _ _ _ _ _ _ _ _ _ s u h hu
  | .sign .. => execSign_keeps _ _ _ _ _ _ _ s u h hu
  | .verify .. => execVerify_keeps _ _ _ _ _ _ _ _ s u h hu
  | .seal .. => execSeal_keeps _ _ _ _ _ _ _ _ s u h hu
  | .unseal .. => execUnseal_keeps _ _ _ _ _ _ _ _ s u h hu
  | .agree .. => execAgree_keeps _ _ _ _ _ s u h hu
  | .encaps .. => execEncaps_keeps _ _ _ _ s u h hu
  | .decaps .. => execDecaps_keeps _ _ _ _ _ s u h hu
  | .ringCreate .. => execRingCreate_keeps _ _ _ _ _ _ _ _ _ _ s u h hu
  | .ringDestroy .. => execRingDestroy_keeps _ _ _ s u h hu
  | .ringWindow .. => execRingWindow_keeps _ _ _ _ _ _ s u h hu
  | .ringStatus .. => execRingStatus_keeps _ _ _ s u h hu
  | .portConfig .. => execPortConfig_keeps _ _ _ _ _ s u h hu
  | .portStatus .. => execPortStatus_keeps _ _ _ s u h hu
  | .volumeBind .. => execVolumeBind_keeps _ _ _ _ _ _ _ s u h hu
  | .portHold .. => execPortHold_keeps _ _ _ s u h hu
  | .portRelease .. => execPortRelease_keeps _ _ _ s u h hu
  | .alarmTableSet .. => execAlarmTableSet_keeps _ _ _ _ s u h hu
  | .alarmTableGet .. => execAlarmTableGet_keeps _ s u h hu
  | .logExport .. => execLogExport_keeps _ _ _ s u h hu
  | .logRelease .. => execLogRelease_keeps _ _ _ s u h hu
  | .logStatus .. => execLogStatus_keeps _ s u h hu
  | .randomGet .. => execRandomGet_keeps _ _ _ s u h hu
  | .rngStatus .. => execRngStatus_keeps _ s u h hu
  | .rngAuditEnter .. => execRngAuditEnter_keeps _ _ _ s u h hu
  | .rngAuditExit .. => execRngAuditExit_keeps _ s u h hu
  | .cardStatus .. => execCardStatus_keeps _ _ _ _ s u h hu
  | .cardRead .. => execCardRead_keeps _ _ _ _ _ _ _ s u h hu
  | .cardWrite .. => execCardWrite_keeps _ _ _ _ _ _ _ _ s u h hu
  | .iccApdu .. => execIccApdu_keeps _ _ _ _ _ _ s u h hu
  | .badgePoll .. => execBadgePoll_keeps _ _ s u h hu
  | .tagPost .. => execTagPost_keeps _ _ _ _ _ s u h hu
  | .tagReadNotes .. => execTagReadNotes_keeps _ _ _ _ s u h hu
  | .tagSetAuditKey .. => execTagSetAuditKey_keeps _ _ _ _ s u h hu
  | .domainJoin .. => execDomainJoin_keeps _ _ _ _ _ _ _ s u h hu
  | .epochFloor .. => execEpochFloor_keeps _ _ _ _ _ _ _ s u h hu
  | .pairBind .. => execPairBind_keeps _ _ _ _ s u h hu
  | .pairStatus .. => execPairStatus_keeps _ s u h hu
  | .pairHandover .. => execPairHandover_keeps _ _ _ s u h hu
  | .deviceInfo .. => execDeviceInfo_keeps _ s u h hu
  | .attestGet .. => execAttestGet_keeps _ _ _ _ _ s u h hu
  | .measRead .. => execMeasRead_keeps _ _ _ s u h hu
  | .extLoad .. => execExtLoad_keeps _ _ _ _ s u h hu
  | .extUnload .. => execExtUnload_keeps _ _ _ s u h hu
  | .fwStage .. => execFwStage_keeps _ _ _ _ s u h hu
  | .fwStageVerifyDone .. => execFwStageVerifyDone_keeps _ _ s u h hu
  | .floorRaise .. => execFloorRaise_keeps _ _ _ _ _ s u h hu
  | .phaseAdvance .. => execPhaseAdvance_keeps _ _ _ s u h hu
  | .shelfDown .. => execShelfDown_keeps _ _ s u h hu
  | .shelfDownComplete .. => execShelfDownComplete_keeps _ s u h hu
  | .sensorRead .. => execSensorRead_keeps _ _ _ s u h hu
  | .eventRead .. => execEventRead_keeps _ _ _ s u h hu
  | .mgtConfig .. => execMgtConfig_keeps _ _ _ _ _ _ s u h hu
  | .doorbellWrite .. => execDoorbellWrite_keeps _ _ _ s u h hu
  | .tailShadowRead .. => execTailShadowRead_keeps _ _ s u h hu
  | .descriptorFetch .. => execDescriptorFetch_keeps _ s u h hu
  | .descriptorArrival .. => execDescriptorArrival_keeps _ _ s u h hu
  | .descriptorReadEarlyEnd .. => execDescriptorReadEarlyEnd_keeps _ _ _ s u h hu
  | .admission .. => execAdmission_keeps _ _ s u h hu
  | .keyStage .. => execKeyStage_keeps _ _ s u h hu
  | .cutStage .. => execCutStage_keeps _ _ s u h hu
  | .cutWriteBack .. => execCutWriteBack_keeps _ _ s u h hu
  | .dmaReadEarlyEnd .. => execDmaReadEarlyEnd_keeps _ _ _ _ s u h hu
  | .tagStage .. => execTagStage_keeps _ _ _ _ s u h hu
  | .releaseStage .. => execReleaseStage_keeps _ _ s u h hu
  | .sectorStaged .. => execSectorStaged_keeps _ _ _ s u h hu
  | .completionWrite .. => execCompletionWrite_keeps _ s u h hu
  | .ringMsixSend .. => execRingMsixSend_keeps _ _ s u h hu
  | .ringCtlCreate .. => execRingCtlCreate_keeps _ s u h hu
  | .ringCtlDestroy .. => execRingCtlDestroy_keeps _ s u h hu
  | .ringAbortAll .. => execRingAbortAll_keeps _ s u h hu
  | .shelfDownTimeout => execShelfDownTimeout_keeps s u h hu
  | .clkCtrlWrite writer .. => execClkCtrlWrite_keeps writer _ _ s u h hu
  | .cphKatRun .. => execCphKatRun_keeps _ _ s u h hu
  | .cphKatDone .. => execCphKatDone_keeps _ _ s u h hu
  | .maskingReseed .. => execMaskingReseed_keeps _ s u h hu
  | .maskingStop .. => execMaskingStop_keeps _ s u h hu
  | .blockLockAcquired .. => execBlockLockAcquired_keeps _ s u h hu
  | .blockLockLost .. => execBlockLockLost_keeps _ s u h hu
  | .caps .. => execCaps_keeps _ _ _ _ _ _ _ s u h hu
  | .geometry .. => execGeometry_keeps _ _ _ _ _ _ _ _ s u h hu
  | .loopEcho .. => execLoopEcho_keeps _ _ _ _ _ _ s u h hu
  | .trainingAnswerTimeout .. => execTrainingAnswerTimeout_keeps _ s u h hu
  | .retrainTimer .. => execRetrainTimer_keeps _ s u h hu
  | .solRetrain .. => execSolRetrain_keeps _ _ s u h hu
  | .pos .. => execPos_keeps _ _ _ _ _ _ _ _ _ _ s u h hu
  | .sector .. => execSector_keeps _ _ _ _ _ _ _ s u h hu
  | .sectorFrameEnd .. => execSectorFrameEnd_keeps _ _ _ s u h hu
  | .holdResume .. => execHoldResume_keeps _ _ _ _ _ s u h hu
  | .idle .. => execIdle_keeps _ _ s u h hu
  | .badFrame .. => execBadFrame_keeps _ _ _ _ _ s u h hu
  | .idleSendTimer .. => execIdleSendTimer_keeps _ s u h hu
  | .creditSend .. => execCreditSend_keeps _ s u h hu
  | .windowOpen .. => execWindowOpen_keeps _ _ s u h hu
  | .stampTimeout .. => execStampTimeout_keeps _ _ s u h hu
  | .holdLimit .. => execHoldLimit_keeps _ s u h hu
  | .pkeCmdBadOp .. => execPkeCmdBadOp_keeps _ _ _ s u h hu
  | .rsaPriv .. => execRsaPriv_keeps _ _ s u h hu
  | .rsaPub .. => execRsaPub_keeps _ _ s u h hu
  | .ecKeygen .. => execEcKeygen_keeps _ _ s u h hu
  | .ecdsaSign .. => execEcdsaSign_keeps _ _ s u h hu
  | .ecdsaVerify .. => execEcdsaVerify_keeps _ _ s u h hu
  | .ecdh .. => execEcdh_keeps _ _ s u h hu
  | .cvKeygen .. => execCvKeygen_keeps _ _ s u h hu
  | .edSign .. => execEdSign_keeps _ _ s u h hu
  | .edVerify .. => execEdVerify_keeps _ _ s u h hu
  | .x25519 .. => execX25519_keeps _ _ s u h hu
  | .mlkemKeygen .. => execMlkemKeygen_keeps _ _ s u h hu
  | .mlkemEncaps .. => execMlkemEncaps_keeps _ _ s u h hu
  | .mlkemDecaps .. => execMlkemDecaps_keeps _ _ s u h hu
  | .mldsaKeygen .. => execMldsaKeygen_keeps _ _ s u h hu
  | .mldsaSign .. => execMldsaSign_keeps _ _ s u h hu
  | .mldsaVerify .. => execMldsaVerify_keeps _ _ s u h hu
  | .checkKey .. => execCheckKey_keeps _ _ s u h hu
  | .pkeWaitEnd .. => execPkeWaitEnd_keeps _ s u h hu
  | .pkeValidationEnd .. => execPkeValidationEnd_keeps _ s u h hu
  | .pkeOpDone .. => execPkeOpDone_keeps _ _ s u h hu
  | .pkeAbort .. => execPkeAbort_keeps _ _ _ _ s u h hu
  | .pkeClear .. => execPkeClear_keeps _ _ _ _ s u h hu
  | .pkeClearDone .. => execPkeClearDone_keeps _ s u h hu
  | .pkeKatRun .. => execPkeKatRun_keeps _ _ s u h hu
  | .pkeKatDone .. => execPkeKatDone_keeps _ _ s u h hu
  | .digInit .. => execDigInit_keeps _ _ s u h hu
  | .digUpdate .. => execDigUpdate_keeps _ _ s u h hu
  | .digFinal .. => execDigFinal_keeps _ _ s u h hu
  | .digSave .. => execDigSave_keeps _ _ s u h hu
  | .digRestore .. => execDigRestore_keeps _ _ s u h hu
  | .digExtend .. => execDigExtend_keeps _ _ s u h hu
  | .digAbort .. => execDigAbort_keeps _ _ s u h hu
  | .digestSegmentEnd .. => execDigestSegmentEnd_keeps _ _ _ s u h hu
  | .digestOpDone .. => execDigestOpDone_keeps _ _ s u h hu
  | .digKatRun .. => execDigKatRun_keeps _ _ s u h hu
  | .digKatDone .. => execDigKatDone_keeps _ s u h hu
  | .measWord0Read .. => execMeasWord0Read_keeps _ s u h hu
  | .sourceHealthFail .. => execSourceHealthFail_keeps _ _ _ s u h hu
  | .sourceRetestStart .. => execSourceRetestStart_keeps _ s u h hu
  | .sourceRetestEnd .. => execSourceRetestEnd_keeps _ _ _ s u h hu
  | .conditionedBlock .. => execConditionedBlock_keeps _ _ s u h hu
  | .drbgInstantiate .. => execDrbgInstantiate_keeps _ s u h hu
  | .drbgBackgroundReseed .. => execDrbgBackgroundReseed_keeps _ s u h hu
  | .rngReq .. => execRngReq_keeps _ _ _ _ s u h hu
  | .rngWaitLimit .. => execRngWaitLimit_keeps _ s u h hu
  | .rngDataRead .. => execRngDataRead_keeps _ s u h hu
  | .auditSet .. => execAuditSet_keeps _ s u h hu
  | .auditClear .. => execAuditClear_keeps _ s u h hu
  | .rngRawselWrite .. => execRngRawselWrite_keeps _ _ _ s u h hu
  | .rngRawRead .. => execRngRawRead_keeps _ _ s u h hu
  | .alarmAssert .. => execAlarmAssert_keeps _ s u h hu
  | .alarmAssertDark .. => execAlarmAssertDark_keeps _ _ s u h hu
  | .mainResetAssert => execMainResetAssert_keeps s u h hu
  | .haltLift => execHaltLift_keeps s u h hu
  | .logCommit => execLogCommit_keeps s u h hu
  | .coalesceWindowEnd .. => execCoalesceWindowEnd_keeps _ s u h hu
  | .almRaise .. => execAlmRaise_keeps _ _ _ s u h hu
  | .almRespWrite .. => execAlmRespWrite_keeps _ _ _ s u h hu
  | .almLogExpWrite .. => execAlmLogExpWrite_keeps _ _ s u h hu
  | .almLogRelWrite .. => execAlmLogRelWrite_keeps _ _ s u h hu
  | .almLogDataRead .. => execAlmLogDataRead_keeps _ s u h hu
  | .tampStep .. => execTampStep_keeps _ _ _ s u h hu
  | .insFloorWrite .. => execInsFloorWrite_keeps _ _ s u h hu
  | .insIkctlGen .. => execInsIkctlGen_keeps _ s u h hu
  | .ikStored => execIkStored_keeps s u h hu
  | .insoleSeedDelivery => execInsoleSeedDelivery_keeps s u h hu
  | .insAudctlLoad .. => execInsAudctlLoad_keeps _ s u h hu
  | .insAudctlClear .. => execInsAudctlClear_keeps _ s u h hu
  | .insTagSelWrite .. => execInsTagSelWrite_keeps _ _ s u h hu
  | .insTagCommit .. => execInsTagCommit_keeps _ s u h hu
  | .tagHostWaitExpiry .. => execTagHostWaitExpiry_keeps _ s u h hu
  | .budgetRefill => execBudgetRefill_keeps s u h hu
  | .fieldDetected => execFieldDetected_keeps s u h hu
  | .fieldLost => execFieldLost_keeps s u h hu
  | .sessionInactivity .. => execSessionInactivity_keeps _ s u h hu
  | .reqa => execReqa_keeps s u h hu
  | .wupa => execWupa_keeps s u h hu
  | .anticollision => execAnticollision_keeps s u h hu
  | .isoSelect .. => execIsoSelect_keeps _ s u h hu
  | .hlta => execHlta_keeps s u h hu
  | .rats => execRats_keeps s u h hu
  | .pps .. => execPps_keeps _ _ s u h hu
  | .rBlock .. => execRBlock_keeps _ _ s u h hu
  | .sDeselect => execSDeselect_keeps s u h hu
  | .select .. => execSelect_keeps _ s u h hu
  | .readPage .. => execReadPage_keeps _ _ _ _ s u h hu
  | .auth1 .. => execAuth1_keeps _ _ s u h hu
  | .auth2 .. => execAuth2_keeps _ _ s u h hu
  | .writeNotes .. => execWriteNotes_keeps _ _ _ _ s u h hu
  | .readLog .. => execReadLog_keeps _ _ s u h hu
  | .getStatus .. => execGetStatus_keeps _ _ s u h hu
  | .unsupportedApdu .. => execUnsupportedApdu_keeps _ _ s u h hu
  | .authBlockEnd => execAuthBlockEnd_keeps s u h hu
  | .clsPoll .. => execClsPoll_keeps _ s u h hu
  | .clsAbort .. => execClsAbort_keeps _ s u h hu
  | .clsXchg .. => execClsXchg_keeps _ s u h hu
  | .pollRound .. => execPollRound_keeps _ _ _ s u h hu
  | .pollTimeout => execPollTimeout_keeps s u h hu
  | .badgeExchangeEnd .. => execBadgeExchangeEnd_keeps _ s u h hu
  | .sdCardInserted .. => execSdCardInserted_keeps _ s u h hu
  | .sdSettleEnd .. => execSdSettleEnd_keeps _ s u h hu
  | .sdInitDone .. => execSdInitDone_keeps _ _ _ _ _ _ _ _ _ s u h hu
  | .sdCardRemoved .. => execSdCardRemoved_keeps _ s u h hu
  | .sdRead .. => execSdRead_keeps _ _ s u h hu
  | .sdWrite .. => execSdWrite_keeps _ _ s u h hu
  | .sdAbort .. => execSdAbort_keeps _ _ s u h hu
  | .sdRetune .. => execSdRetune_keeps _ _ _ s u h hu
  | .sdPowerOff .. => execSdPowerOff_keeps _ _ s u h hu
  | .sdPowerOn .. => execSdPowerOn_keeps _ _ s u h hu
  | .sdBusyEnd .. => execSdBusyEnd_keeps _ s u h hu
  | .sdBusyTimeout .. => execSdBusyTimeout_keeps _ s u h hu
  | .sdResponseTimeout .. => execSdResponseTimeout_keeps _ s u h hu
  | .sdTransferEnd .. => execSdTransferEnd_keeps _ _ _ s u h hu
  | .iccCardRemoved .. => execIccCardRemoved_keeps _ _ s u h hu
  | .iccActivate .. => execIccActivate_keeps _ _ s u h hu
  | .iccDeactivate .. => execIccDeactivate_keeps _ _ s u h hu
  | .iccXchg .. => execIccXchg_keeps _ _ s u h hu
  | .atrReceived .. => execAtrReceived_keeps _ _ _ s u h hu
  | .atrTimeout .. => execAtrTimeout_keeps _ s u h hu
  | .iccWwtExceeded .. => execIccWwtExceeded_keeps _ s u h hu
  | .iccClockStop .. => execIccClockStop_keeps _ s u h hu
  | .weltLaneLock .. => execWeltLaneLock_keeps _ s u h hu
  | .weltLaneLoss .. => execWeltLaneLoss_keeps _ s u h hu
  | .hello .. => execHello_keeps _ _ s u h hu
  | .weltSessionKeyReady => execWeltSessionKeyReady_keeps s u h hu
  | .confirm .. => execConfirm_keeps _ s u h hu
  | .heartbeat .. => execHeartbeat_keeps _ s u h hu
  | .mirror .. => execMirror_keeps _ _ _ s u h hu
  | .ack .. => execAck_keeps _ s u h hu
  | .depart .. => execDepart_keeps _ s u h hu
  | .bind .. => execBind_keeps _ _ s u h hu
  | .weltIdle => execWeltIdle_keeps s u h hu
  | .weltBadFrame .. => execWeltBadFrame_keeps _ _ s u h hu
  | .weltHeartbeatSend => execWeltHeartbeatSend_keeps s u h hu
  | .hostWordWrite .. => execHostWordWrite_keeps _ s u h hu
  | .partnerWordRead .. => execPartnerWordRead_keeps _ _ s u h hu
  | .weltHeartbeatTimeout .. => execWeltHeartbeatTimeout_keeps _ _ s u h hu
  | .partnerWordStale .. => execPartnerWordStale_keeps _ _ _ s u h hu
  | .mirrorResend .. => execMirrorResend_keeps _ s u h hu
  | .sensorRefresh .. => execSensorRefresh_keeps _ s u h hu
  | .pwrWdogWrite .. => execPwrWdogWrite_keeps _ _ _ s u h hu
  | .watchdogExpiry .. => execWatchdogExpiry_keeps _ _ s u h hu
  | .coreRestartRelease .. => execCoreRestartRelease_keeps _ s u h hu
  | .cobblerRestart => execCobblerRestart_keeps s u h hu
  | .katSchedule .. => execKatSchedule_keeps _ s u h hu
  | .quietPoint .. => execQuietPoint_keeps _ s u h hu
  | .smbusSclTimeout => execSmbusSclTimeout_keeps s u h hu
  | .setEndpointId .. => execSetEndpointId_keeps _ s u h hu
  | .getEndpointId => execGetEndpointId_keeps s u h hu
  | .getMctpVersion .. => execGetMctpVersion_keeps _ s u h hu
  | .getMessageTypeSupport => execGetMessageTypeSupport_keeps s u h hu
  | .getPdr .. => execGetPdr_keeps _ s u h hu
  | .getSensorReading .. => execGetSensorReading_keeps _ s u h hu
  | .setNumericSensorEnable .. => execSetNumericSensorEnable_keeps _ _ _ s u h hu
  | .getStateSensorReadings .. => execGetStateSensorReadings_keeps _ s u h hu
  | .getVersion => execGetVersion_keeps s u h hu
  | .getCapabilities .. => execGetCapabilities_keeps _ s u h hu
  | .negotiateAlgorithms .. => execNegotiateAlgorithms_keeps _ _ s u h hu
  | .getDigests => execGetDigests_keeps s u h hu
  | .getCertificate .. => execGetCertificate_keeps _ _ _ s u h hu
  | .challenge .. => execChallenge_keeps _ _ s u h hu
  | .getMeasurements .. => execGetMeasurements_keeps _ _ _ s u h hu
  | .keyExchange .. => execKeyExchange_keeps _ _ _ s u h hu
  | .finish .. => execFinish_keeps _ s u h hu
  | .endSession => execEndSession_keeps s u h hu
  | .vendorRawSamples .. => execVendorRawSamples_keeps _ s u h hu
  | .keyCmdLoad .. => execKeyCmdLoad_keeps _ _ _ _ s u h hu
  | .keyCmdImport .. => execKeyCmdImport_keeps _ _ _ _ _ s u h hu
  | .keyCmdExport .. => execKeyCmdExport_keeps _ _ _ s u h hu
  | .keyCmdBlob .. => execKeyCmdBlob_keeps _ _ s u h hu
  | .keyCmdGenerate .. => execKeyCmdGenerate_keeps _ _ _ _ s u h hu
  | .keyCmdUnload .. => execKeyCmdUnload_keeps _ _ s u h hu
  | .keyCmdQuery .. => execKeyCmdQuery_keeps _ _ s u h hu
  | .keyBlobInWrite .. => execKeyBlobInWrite_keeps _ _ _ s u h hu
  | .keyBlobOutRead .. => execKeyBlobOutRead_keeps _ _ s u h hu
  | .keyChannelDone .. => execKeyChannelDone_keeps _ s u h hu
  | .keyZeroAll .. => execKeyZeroAll_keeps _ s u h hu
  | .zeroisationDone => execZeroisationDone_keeps s u h hu
  | .runZeroise .. => execRunZeroise_keeps _ s u h hu
  | .mpuFenceGo .. => execMpuFenceGo_keeps _ _ s u h hu
  | .mpuFenceDone .. => execMpuFenceDone_keeps _ s u h hu
  | .mpuFaultClear .. => execMpuFaultClear_keeps _ _ s u h hu
  | .dmaMpuFault .. => execDmaMpuFault_keeps _ _ _ _ s u h hu
  | .interrupt .. => execInterrupt_keeps _ _ _ s u h hu
  | .nmi .. => execNmi_keeps _ _ s u h hu
  | .lockstepMismatch .. => execLockstepMismatch_keeps _ s u h hu
  | .reservationExpiry .. => execReservationExpiry_keeps _ s u h hu
  | .writeBufferDrain .. => execWriteBufferDrain_keeps _ _ s u h hu
  | .nop .. => execNop_keeps _ _ s u h hu
  | .ld .. => execLd_keeps _ _ s u h hu
  | .ldu .. => execLdu_keeps _ _ s u h hu
  | .st .. => execSt_keeps _ _ s u h hu
  | .lda .. => execLda_keeps _ _ s u h hu
  | .sta .. => execSta_keeps _ _ s u h hu
  | .mov .. => execMov_keeps _ _ s u h hu
  | .ldh .. => execLdh_keeps _ _ s u h hu
  | .add .. => execAdd_keeps _ _ s u h hu
  | .adc .. => execAdc_keeps _ _ s u h hu
  | .sub .. => execSub_keeps _ _ s u h hu
  | .sbc .. => execSbc_keeps _ _ s u h hu
  | .cmp .. => execCmp_keeps _ _ s u h hu
  | .and .. => execAnd_keeps _ _ s u h hu
  | .or .. => execOr_keeps _ _ s u h hu
  | .xor .. => execXor_keeps _ _ s u h hu
  | .shl .. => execShl_keeps _ _ s u h hu
  | .shr .. => execShr_keeps _ _ s u h hu
  | .asr .. => execAsr_keeps _ _ s u h hu
  | .rol .. => execRol_keeps _ _ s u h hu
  | .tst .. => execTst_keeps _ _ s u h hu
  | .lea .. => execLea_keeps _ _ s u h hu
  | .mul .. => execMul_keeps _ _ s u h hu
  | .mulh .. => execMulh_keeps _ _ s u h hu
  | .ext .. => execExt_keeps _ _ s u h hu
  | .push .. => execPush_keeps _ _ s u h hu
  | .pop .. => execPop_keeps _ _ s u h hu
  | .divu .. => execDivu_keeps _ _ s u h hu
  | .divs .. => execDivs_keeps _ _ s u h hu
  | .mpy .. => execMpy_keeps _ _ s u h hu
  | .mac .. => execMac_keeps _ _ s u h hu
  | .msu .. => execMsu_keeps _ _ s u h hu
  | .adda .. => execAdda_keeps _ _ s u h hu
  | .suba .. => execSuba_keeps _ _ s u h hu
  | .rnd .. => execRnd_keeps _ _ s u h hu
  | .sata .. => execSata_keeps _ _ s u h hu
  | .nrm .. => execNrm_keeps _ _ s u h hu
  | .abs .. => execAbs_keeps _ _ s u h hu
  | .neg .. => execNeg_keeps _ _ s u h hu
  | .clra .. => execClra_keeps _ _ s u h hu
  | .ldf .. => execLdf_keeps _ _ s u h hu
  | .asla .. => execAsla_keeps _ _ s u h hu
  | .asra .. => execAsra_keeps _ _ s u h hu
  | .mova .. => execMova_keeps _ _ s u h hu
  | .cmpa .. => execCmpa_keeps _ _ s u h hu
  | .bra .. => execBra_keeps _ _ s u h hu
  | .beq .. => execBeq_keeps _ _ s u h hu
  | .bne .. => execBne_keeps _ _ s u h hu
  | .blt .. => execBlt_keeps _ _ s u h hu
  | .bge .. => execBge_keeps _ _ s u h hu
  | .bgt .. => execBgt_keeps _ _ s u h hu
  | .ble .. => execBle_keeps _ _ s u h hu
  | .blo .. => execBlo_keeps _ _ s u h hu
  | .bhs .. => execBhs_keeps _ _ s u h hu
  | .bhi .. => execBhi_keeps _ _ s u h hu
  | .bls .. => execBls_keeps _ _ s u h hu
  | .bmi .. => execBmi_keeps _ _ s u h hu
  | .bpl .. => execBpl_keeps _ _ s u h hu
  | .bvs .. => execBvs_keeps _ _ s u h hu
  | .bvc .. => execBvc_keeps _ _ s u h hu
  | .bsv .. => execBsv_keeps _ _ s u h hu
  | .call .. => execCall_keeps _ _ s u h hu
  | .ret .. => execRet_keeps _ _ s u h hu
  | .rte .. => execRte_keeps _ _ s u h hu
  | .trap .. => execTrap_keeps _ _ s u h hu
  | .tas .. => execTas_keeps _ _ s u h hu
  | .ldrs .. => execLdrs_keeps _ _ s u h hu
  | .stcd .. => execStcd_keeps _ _ s u h hu
  | .mbar .. => execMbar_keeps _ _ s u h hu
  | .ibar .. => execIbar_keeps _ _ s u h hu
  | .mfs .. => execMfs_keeps _ _ s u h hu
  | .mts .. => execMts_keeps _ _ s u h hu
  | .wait .. => execWait_keeps _ _ s u h hu
  | .userDecode .. => execUserDecode_keeps _ _ _ s u h hu
  | .reservedOpcode .. => execReservedOpcode_keeps _ _ _ s u h hu
  | .registerWrite .. => execRegisterWrite_keeps _ _ _ s u h hu
  | .linkL0 => execLinkL0_keeps s u h hu
  | .fwReady => execFwReady_keeps s u h hu
  | .d0ToD3hot .. => execD0ToD3hot_keeps _ s u h hu
  | .memorySpaceEnableWrite .. => execMemorySpaceEnableWrite_keeps _ _ s u h hu
  | .msixVectorUnmask .. => execMsixVectorUnmask_keeps _ _ s u h hu
  | .alarmSourceDeassert .. => execAlarmSourceDeassert_keeps _ s u h hu
  | .pkeLoadDone .. => execPkeLoadDone_keeps _ s u h hu
  | .fieldHoldEnd => execFieldHoldEnd_keeps s u h hu
  | .sectorFrameSent .. => execSectorFrameSent_keeps _ s u h hu
  | .iccCardInserted .. => execIccCardInserted_keeps _ s u h hu
  | .iccExchangeEnd .. => execIccExchangeEnd_keeps _ _ s u h hu
  | .sdCfgWrite .. => execSdCfgWrite_keeps _ _ _ s u h hu
  | .iccCfgWrite .. => execIccCfgWrite_keeps _ _ _ s u h hu
  | .digEnWrite .. => execDigEnWrite_keeps _ _ s u h hu
  | .pwrUnitEnWrite .. => execPwrUnitEnWrite_keeps _ _ s u h hu
  | .wltCfgWrite .. => execWltCfgWrite_keeps _ _ s u h hu

/-- A step takes the front away from the queue and keeps the rest of what `Keeps` names. -/
theorem step_keeps {s t : State} (h : step s = .next t) : Keeps (s.withPending List.tail) t := by
  cases hs : s.pending with
  | nil =>
    have hid : s.withPending List.tail = s := by cases s; cases hs; rfl
    have ht : s.idle = t := by simpa [step, hs] using h
    rw [hid, ← ht]
    exact State.idle_keeps s (.refl s)
  | cons c rest =>
    have hpop : s.withPending List.tail = { s with pending := rest } := by simp [State.withPending, hs]
    have ht : exec c { s with pending := rest } = .next t := by simpa [step, hs] using h
    have hk := exec_keeps (.refl { s with pending := rest }) (.refl _) c
    rw [ht] at hk
    rwa [hpop]

/-- Settles O8: the third part of `Keeps` is that no floor falls and the lifecycle stays. -/
theorem fusesHold : Obligations.FusesHold := by
  unfold Obligations.FusesHold
  intro s t h
  obtain ⟨-, -, hfloors, -⟩ := step_keeps h
  exact hfloors

/-- In a main-domain reset only the real-time clock runs (02 R41; 14 R413). -/
theorem State.timePasses_inReset {s : State} (h : s.boot.inReset = true) :
    s.timePasses =
      { s with
        freeCount := s.freeCount + 2
        insole := { s.insole with rtc := satAdd s.insole.rtc (Config.freeNat (s.freeCount + 1)) } } := by
  simp [State.timePasses, h, State.withInsole]

/-- Settles O2: idling keeps the empty queue, and in a main-domain reset it is the passing of time alone. -/
theorem stepIdles : Obligations.StepIdles := by
  unfold Obligations.StepIdles
  refine ⟨fun s hq => ⟨by simp [step, hq], ?_⟩, fun s h => by simp [State.idle, State.timePasses_inReset h, h]⟩
  obtain ⟨hpend, -⟩ := State.idle_keeps s (.refl s)
  rw [hpend, hq]

/-! ### FLOOR_RAISE (02 R62; 04 R155) -/

/-- An answer changes no pin and no fuse. -/
@[simp] theorem State.respondAs_pins (h : CmdHdr) (opc st : Half) (detail session : Word) (body : List Byte) (s : State) :
    (s.respondAs h opc st detail session body).pins = s.pins := by
  obtain ⟨o, n, hr⟩ := State.respondAs_eq h opc st detail session body s
  rw [hr]; rfl

/-- A spent ticket leaves the boot state and the fuses. -/
@[simp] theorem Call.begun_boot (c : Call) (s : State) : (c.begun s).boot = s.boot := by
  obtain ⟨q, hq⟩ := c.begun_eq s
  rw [hq]; rfl
@[simp] theorem Call.begun_pins (c : Call) (s : State) : (c.begun s).pins = s.pins := by
  obtain ⟨q, hq⟩ := c.begun_eq s
  rw [hq]; rfl

/-- The refused branch of FLOOR_RAISE: the value stands at offset 69 of the block. -/
theorem bodyFloorRaise_refused {which value : Byte} {c : Call} {t : State}
    (hv : 64 < value.toNat ∨ (which = 0 ∧ t.boot.fwVer.toNat < value.toNat)
      ∨ (which = 1 ∧ t.boot.cobVer.toNat < value.toNat)) :
    bodyFloorRaise which value c t = c.respond Status.inputInvalid 0x00010045 [] t := by
  unfold bodyFloorRaise
  rw [if_pos hv]
  rfl

/-- Settles O18: the accepted command runs its body, whose first branch answers INPUT_INVALID. -/
theorem floorRaiseRefused : Obligations.FloorRaiseRefused := by
  unfold Obligations.FloorRaiseRefused
  rintro h qid which value rsv c s rfl hacc hv
  refine ⟨?_, by simp [Call.respond]⟩
  rw [exec_floorRaise, execFloorRaise, cmdFloorRaise, Call.run_accepted hacc, bodyFloorRaise_refused (by simpa using hv)]

end Sys2Proof.Machine

/-! SUPPORT. What a main-domain reset, the going live of the loader page, the release of the cores and the status pages change,
and the statements about the pins, the boot sequence and the loader (02 R38-R58). -/

namespace Sys2Proof.Machine

/-! ### A main-domain reset (02 R41, R65) -/

/-- Before the main domain takes its reset values, the pins and the queue are as they were (02 R70; 13 R391). -/
theorem State.assertReset_eq (s : State) :
    ∃ u : State, s.assertReset = u.mainReset ∧ u.pins = s.pins ∧ u.pending = s.pending := by
  unfold State.assertReset
  extract_lets lost s1 s2 s3
  have hpins : s2.pins = s.pins := by simp only [s2]; split <;> simp [s1]
  have hpend : s2.pending = s.pending := by simp only [s2]; split <;> simp [s1]
  exact ⟨s3, rfl, hpins, hpend⟩

/-- The main domain at its reset values; the pins and the queue as they were. -/
theorem State.assertReset_effect (s : State) : s.assertReset.boot = {} ∧ s.assertReset.rings = {} ∧ s.assertReset.cores = []
    ∧ s.assertReset.pins = s.pins ∧ s.assertReset.pending = s.pending := by
  obtain ⟨u, hu, hpins, hpend⟩ := s.assertReset_eq
  rw [hu]
  exact ⟨rfl, rfl, rfl, hpins, hpend⟩

/-! ### The loader page goes live (02 R43 steps 7 and 8, R57, R60) -/

/-- The salt sequence is odd, MEAS_00 is extended with the record of the pins, and the loader page is READY or RETIRED. -/
theorem State.goLive_effect (s : State) :
    s.goLive.boot.state = (if s.pins.lifecycle = .retired then .retired else .ready) ∧ s.goLive.boot.step7 = true
    ∧ s.goLive.boot.sramKey = true ∧ s.goLive.keys.q.getLsbD 0 = true
    ∧ s.goLive.dig = s.dig.extend 0 3 (sha384 (meas0Record s.pins)) ∧ s.goLive.keys.runs = s.keys.runs
    ∧ s.goLive.rings = s.rings :=
  ⟨rfl, rfl, rfl, by simp [State.goLive], rfl, rfl, rfl⟩

/-! ### The statement about the pins -/

/-- Settles O21: a fall of PWRGD and an assertion of PERST_N are the reset above, a late L0 is the going live above, and the other pins
are updates of one part. -/
theorem completePins : Obligations.CompletePins := by
  unfold Obligations.CompletePins
  refine ⟨?fall, ?rise, ?assert, ?release, ?linkL0, ?linkLive, ?supply, ?restart⟩
  case fall => exact fun s hpwr => ⟨by simp [execPwrgdFall, hpwr], s.assertReset_effect⟩
  case rise => exact fun s => rfl
  case assert => exact fun s hperst => ⟨by simp [execPerstAssert, hperst], s.assertReset_effect⟩
  case release => exact fun late s => rfl
  case linkL0 => exact fun s hpwr hperst hlate => by simp [execLinkL0, hpwr, hperst, hlate]
  case linkLive =>
    intro s hpwr hlate hready
    have hperst : s.pins.perst = false := by
      simp only [State.bootReady, Bool.and_eq_true, Bool.not_eq_true'] at hready
      exact hready.2
    have hready' : (s.withPins fun p => { p with linkL0 := true }).bootReady = true := hready
    have hlive := State.goLive_effect (s.withPins fun p => { p with linkL0 := true })
    exact ⟨_, by simp [execLinkL0, hpwr, hperst, hlate, hready'], rfl, hlive⟩
  case supply => exact fun toVbat s => rfl
  case restart => exact fun s => ⟨_, rfl, rfl, rfl, rfl, rfl, rfl, rfl, rfl⟩

end Sys2Proof.Machine

/-! SUPPORT. The statement about the boot sequence (02 R43-R47; 12 R367, R368). -/

namespace Sys2Proof.Machine

/-! ### The start-up of the random number block (12 R367, R368) -/

/-- The known-answer tests leave audit mode alone. -/
@[simp] theorem Rng.tests_audit (katM katK : Bool) (r : Rng) : (r.tests katM katK).audit = r.audit := by
  unfold Rng.tests; split <;> rfl

/-- With class K available and outside audit mode the block becomes READY, with two blocks in the seed buffer. -/
theorem State.rngStart_effect {s : State} (havail : s.rng.kAvail = true) (haudit : s.rng.audit = false) :
    s.rngStart.rng.ready = true ∧ s.rngStart.rng.tested = true ∧ s.rngStart.boot.rngReady = true
    ∧ s.rngStart.rng.mDegraded = !s.rng.mAvail ∧ s.rngStart.rng.buffer.length = 2 ∧ s.rngStart.keys = s.keys
    ∧ s.rngStart.mem = s.mem := by
  unfold State.rngStart
  extract_lets s1
  have havail1 : s1.rng.kAvail = true := havail
  have haudit1 : ¬ s1.rng.audit = true := by simpa [s1] using haudit
  rw [if_pos havail1, if_neg haudit1]
  exact ⟨rfl, rfl, rfl, rfl, rfl, rfl, rfl⟩

/-- Settles O22: each step's guard holds, and its branch of the definition is read off; the going live and the start-up have their own
lemmas. -/
theorem completeBoot : Obligations.CompleteBoot := by
  unfold Obligations.CompleteBoot
  refine ⟨?resetEnd, ?rngReady, ?puf, ?live, ?timeout⟩
  case resetEnd =>
    intro s hreset hpwr hperst howed
    have hgo : (s.boot.inReset && s.pins.pwrgd && !(s.boot.perstReset && s.pins.perst) && decide (s.log.owed = 0)) = true := by
      simp [hreset, hpwr, hperst, howed]
    rw [exec_mainResetEnd, execMainResetEnd, if_pos hgo]
    exact ⟨_, rfl, rfl, rfl, rfl, rfl, rfl, rfl, rfl, rfl, rfl, rfl, rfl, rfl, rfl⟩
  case rngReady =>
    intro katM katK s hreset hready havail haudit
    have hstart := State.rngStart_effect (s := s.withRng (Rng.tests katM katK)) havail (by simpa using haudit)
    exact ⟨_, by simp [execRngReady, hreset, hready], hstart⟩
  case puf =>
    intro s hreset hpuf htries
    have hgo : ¬ (s.boot.inReset || s.boot.pufOk || decide (4 ≤ s.boot.pufAttempts)) = true := by
      simp [hreset, hpuf, Nat.not_le.mpr htries]
    rw [exec_pufReconstructionDone, execPufReconstructionDone, if_neg hgo, if_pos rfl]
    exact ⟨_, rfl, rfl, by simp only [State.withKeys_boot, State.withBoot_boot], rfl, rfl, rfl⟩
  case live =>
    intro s hready hlink
    have hgo : (s.bootReady && (!s.boot.perstLate || s.pins.linkL0)) = true := by
      rcases hlink with h | h <;> simp [hready, h]
    exact ⟨_, by simp only [exec_loaderLive, execLoaderLive, hgo, if_true], State.goLive_effect s⟩
  case timeout => exact fun s hreset hrng hinit => by simp [execRngBootTimeout, hreset, hrng, hinit]

end Sys2Proof.Machine

/-! SUPPORT. What releasing the cores, recording an early end and writing the status pages change, and the statement about the
loader and the report of readiness (02 R43 step 11, R51-R58). -/

namespace Sys2Proof.Machine

/-! ### Frames of the shared operations -/

/-- A read of the image that ends early changes AER's counters alone (03 R75). -/
theorem State.earlyImage_eq (g : Image) (s : State) : ∃ p, s.earlyImage g = s.withPcie fun _ => p := by
  unfold State.earlyImage
  split
  · exact ⟨_, rfl⟩
  · exact ⟨s.pcie, rfl⟩

/-- The cores released one after another change cores and MPUs alone (18 R499; 19 R548). -/
theorem State.releaseCores_eq (s : State) : ∃ c m, s.releaseCores = (s.withCores fun _ => c).withMpus fun _ => m := by
  unfold State.releaseCores
  refine List.foldlRecOn (motive := fun t : State => ∃ c m, t = (s.withCores fun _ => c).withMpus fun _ => m)
    _ _ ⟨s.cores, s.mpus, rfl⟩ ?_
  rintro t ⟨c, m, rfl⟩ k -
  exact ⟨_, _, rfl⟩

/-- A mailbox update with the message it may send changes the mailbox, the vectors and the output (03 R95). -/
theorem State.updBox_eq (k : Nat) (g : Mailbox → Mailbox) (s : State) :
    ∃ b p o, s.updBox k g = ((s.withMbx fun m => { m with box := b }).withPcie fun _ => p).withOut fun _ => o := by
  unfold State.updBox State.msix
  dsimp only
  split
  · split
    · exact ⟨Bank.upd {} k g s.mbx.box,
        { s.pcie with fns := Bank.upd {} (k - 64) (fun x => { x with pend := setBit x.pend 0 true }) s.pcie.fns },
        s.out, rfl⟩
    · exact ⟨Bank.upd {} k g s.mbx.box, s.pcie, _, rfl⟩
  · exact ⟨Bank.upd {} k g s.mbx.box, s.pcie, s.out, rfl⟩

/-- The status page of function `f` written, and EVT doorbell bit 1 rung: one step of `State.statusPages` (03 R86, R96). -/
def State.writePage (g : StatusPage → StatusPage) (s : State) (f : Nat) : State :=
  (s.withMbx fun m => m.updPage f g).updBox (64 + f) fun b => { b with dbell := b.dbell ||| 2 }

theorem State.statusPages_eq_foldl (g : StatusPage → StatusPage) (s : State) :
    s.statusPages g = (List.range 64).foldl (State.writePage g) s := rfl

/-- A status page's write changes that page, a mailbox, the vectors and the output. -/
theorem State.writePage_eq (g : StatusPage → StatusPage) (s : State) (f : Nat) :
    ∃ b p o, s.writePage g f = ((s.withMbx fun m => { m.updPage f g with box := b }).withPcie fun _ => p).withOut fun _ => o :=
  State.updBox_eq _ _ _

/-- The status pages change the mailbox block, the vectors and the output (03 R86, R96). -/
theorem State.statusPages_eq (g : StatusPage → StatusPage) (s : State) :
    ∃ m p o, s.statusPages g = ((s.withMbx fun _ => m).withPcie fun _ => p).withOut fun _ => o := by
  rw [State.statusPages_eq_foldl]
  refine List.foldlRecOn (motive := fun t : State => ∃ m p o, t = ((s.withMbx fun _ => m).withPcie fun _ => p).withOut fun _ => o)
    _ _ ⟨s.mbx, s.pcie, s.out, rfl⟩ ?_
  rintro t ⟨m, p, o, rfl⟩ f -
  obtain ⟨b, p', o', ht⟩ := State.writePage_eq g (((s.withMbx fun _ => m).withPcie fun _ => p).withOut fun _ => o) f
  exact ⟨_, p', o', ht⟩

/-- Firmware reports readiness on a status page (02 R43 step 11). -/
def StatusPage.setReady (p : StatusPage) : StatusPage := { p with fwReady := true }

/-- Readiness written on page `f` stands on page 0 where `f` is 0, or where it stood before. -/
theorem State.writePage_setReady {f : Nat} {s : State} (h : f = 0 ∨ (Bank.get {} s.mbx.page 0).fwReady = true) :
    (Bank.get {} (s.writePage StatusPage.setReady f).mbx.page 0).fwReady = true := by
  obtain ⟨b, p, o, ht⟩ := s.writePage_eq StatusPage.setReady f
  rw [ht]
  show (Bank.get {} (Bank.upd {} f StatusPage.setReady s.mbx.page) 0).fwReady = true
  by_cases hf : f = 0
  · subst hf
    rw [Bank.upd, Bank.get_set_ne]
    · rfl
    · exact fun hdef => Bool.noConfusion (congrArg StatusPage.fwReady hdef)
  · rw [Bank.get_upd_other _ _ _ _ (Ne.symm hf)]
    exact h.resolve_left hf

/-- Readiness on every page stands on page 0: the first write sets it, and no later one clears it. -/
theorem State.statusPages_setReady (s : State) : (Bank.get {} (s.statusPages StatusPage.setReady).mbx.page 0).fwReady = true := by
  rw [State.statusPages_eq_foldl, List.range_succ_eq_map, List.foldl_cons]
  exact List.foldlRecOn (motive := fun t : State => (Bank.get {} t.mbx.page 0).fwReady = true) _ _
    (State.writePage_setReady (.inl rfl)) fun t ht f _ => State.writePage_setReady (.inr ht)

/-! ### Reserved slots (05 R156-R158) -/

/-- A slot that is installed holds a key. -/
theorem Keys.present_install_same (k : Keys) (n : Nat) (a : Attr) (m : List Byte) (id : Long) :
    ((k.install n a m id).present n).isSome = true := by
  unfold Keys.present Keys.install
  dsimp only
  rw [Bank.get_set_ne none n _ (Option.some_ne_none _)]
  rfl

/-- Installing a key leaves every other slot. -/
theorem Keys.present_install_other (k : Keys) {n j : Nat} (a : Attr) (m : List Byte) (id : Long) (h : j ≠ n) :
    (k.install n a m id).present j = k.present j := by
  unfold Keys.present Keys.install
  dsimp only
  rw [Bank.get_set_other none n j _ h]

/-- A draw of firmware gives its bytes to a state that differs in the random number block and the counter of free values. -/
theorem State.fwDraw_eq (fresh : Bool) (n : Nat) (k : List Byte → State → State) (s : State) :
    ∃ bs r c, s.fwDraw fresh n k = k bs ((s.withRng fun _ => r).withFreeCount fun _ => c) := by
  unfold State.fwDraw
  generalize (if fresh = true then _ else _ : Bool) = ok
  cases ok with
  | true => exact ⟨(s.rng.drawFrom 0 fresh n).1, (s.rng.drawFrom 0 fresh n).2, s.freeCount, rfl⟩
  | false => exact ⟨_, s.rng, s.freeCount + 1, rfl⟩

/-- With an insole key firmware fills slots 1, 4, 7, 8 and 9, and changes no field of the boot state. -/
theorem State.fillReserved_effect {s : State} (hik : s.insole.ik.isSome = true) :
    s.fillReserved.boot = s.boot ∧ ∀ n ∈ [1, 4, 7, 8, 9], (s.fillReserved.keys.present n).isSome = true := by
  obtain ⟨ik, hik⟩ := Option.isSome_iff_exists.mp hik
  unfold State.fillReserved
  extract_lets mat drk km
  obtain ⟨sk, r, c, hdraw⟩ := State.fwDraw_eq true 32 _ s
  rw [hdraw]
  refine ⟨rfl, fun n hn => ?_⟩
  simp only [hik, State.withKeys_keys]
  simp only [List.mem_cons, List.not_mem_nil, or_false] at hn
  rcases hn with rfl | rfl | rfl | rfl | rfl <;> simp [Keys.present_install_same, Keys.present_install_other]

/-! ### The statement -/

/-- Settles O23: the verdict on the image decides which branch runs, and what runs after it leaves the fields in question alone. -/
theorem completeLoader : Obligations.CompleteLoader := by
  unfold Obligations.CompleteLoader
  refine ⟨?go, ?timeout, ?verify, ?ready⟩
  case go => exact fun v s hv hready => by simp [execLdrGo, hv, hready]
  case timeout => 
    intro s hload
    rw [exec_imageReadTimeout, execImageReadTimeout, if_pos hload]
    rfl
  case verify =>
    intro img s hload
    obtain ⟨p, hearly⟩ := State.earlyImage_eq img s
    rw [exec_imageVerifyDone, execImageVerifyDone, if_neg (not_not.mpr hload)]
    refine ⟨_, rfl, ?_⟩
    rw [hearly]
    cases imageCheck s.pins s.boot.imgLen.toNat s.pins.fwFloor s.pins.cobFloor img with
    | some e =>
      obtain ⟨code, seg⟩ := e
      exact ⟨rfl, rfl, rfl⟩
    | none =>
      dsimp only
      generalize hcob : State.withCob _ _ = u
      obtain ⟨c, m, hrel⟩ := u.releaseCores_eq
      rw [hrel, ← hcob]
      simp
  case ready =>
    intro s hrun hik
    obtain ⟨hboot, hslots⟩ := State.fillReserved_effect hik
    have hnone : s.insole.ik.isNone = false := by rw [← Option.not_isSome, hik]; rfl
    have hexec : exec .fwReady s = .next (s.fillReserved.statusPages StatusPage.setReady) := by
      simp only [exec_fwReady, execFwReady, hrun, if_true, hnone, Bool.false_and, Bool.false_eq_true, if_false]
      rfl
    obtain ⟨m, p, o, hpages⟩ := State.statusPages_eq StatusPage.setReady s.fillReserved
    have hkeys : (s.fillReserved.statusPages StatusPage.setReady).keys = s.fillReserved.keys := by rw [hpages]; rfl
    refine ⟨_, hexec, by rw [hpages]; exact hboot, State.statusPages_setReady _, ?_⟩
    rw [hkeys]
    exact ⟨hslots 1 (by simp), hslots 4 (by simp), hslots 7 (by simp), hslots 8 (by simp), hslots 9 (by simp)⟩

end Sys2Proof.Machine

/-! SUPPORT. The statement about the Insole domain, the Clicker controls and the MPU commands (14 R412-R418, R429, R430; 02 R49;
07 R249, R250, R255; 19 R549-R552). -/

namespace Sys2Proof.Machine

/-! ### Dealing changes no key (07 R234-R241) -/

/-- Loading a core's datapaths changes the masking generator and the cipher cluster. -/
@[simp] theorem State.loadKeys_keys (c : Nat) (inverse : Bool) (key tweak : List Byte) (s : State) :
    (s.loadKeys c inverse key tweak).keys = s.keys := rfl

@[simp] theorem State.dealCore_keys (c : Nat) (s : State) : (s.dealCore c).keys = s.keys := by
  unfold State.dealCore
  split
  · split <;> simp
  · rfl

@[simp] theorem State.dealAll_keys (s : State) : s.dealAll.keys = s.keys := by
  unfold State.dealAll
  exact List.foldlRecOn (motive := fun t : State => t.keys = s.keys) _ _ (by simp) fun t ht c _ => by rw [State.dealCore_keys, ht]

/-! ### Pages that no field frame holds (14 R430) -/

/-- Without a hold, no page is held. -/
theorem State.pageHeld_none {s : State} (hheld : s.listen.held = none) (n : Nat) : s.pageHeld n = false := by
  simp [State.pageHeld, hheld]

/-! ### The statement -/

/-- Settles O29: under its guards each command is the branch of its definition that the statement writes out. -/
theorem completeInsole : Obligations.CompleteInsole := by
  unfold Obligations.CompleteInsole
  refine ⟨?floor, ?floorTrusted, ?ikGen, ?ikStored, ?seed, ?audLoad, ?audClear, ?tagSel, ?commit, ?commitHigh, ?budget, ?levels,
    ?clkCtrl, ?katRun, ?katDone, ?fenceGo, ?fenceCore, ?fenceDone, ?dmaFault, ?faultClear⟩
  case floor =>
    intro v s htrust hend hv
    have hgo : ¬ (s.insole.trusted = true ∨ s.insole.epoch = 0xFFFFFFFF ∨ v = 0xFFFFFFFF) :=
      not_or.mpr ⟨by simp [htrust], not_or.mpr ⟨hend, hv⟩⟩
    rw [exec_insFloorWrite, execInsFloorWrite, if_pos rfl, State.applyFloor, if_neg hgo]
  case floorTrusted => exact fun v s htrust => by simp [execInsFloorWrite, State.applyFloor, htrust]
  case ikGen => exact fun s hphase => by simp [execInsIkctlGen, State.ikGen, hphase]
  case ikStored =>
    exact fun s hbusy hserves hbuf => by simp [execIkStored, ikDrawReady, State.ikStore, hbusy, hserves, hbuf]
  case seed => exact fun s hserves hdone => by simp [execInsoleSeedDelivery, hserves, hdone]
  case audLoad =>
    intro k s hkey
    simp only [exec_insAudctlLoad, execInsAudctlLoad, if_true, State.audLoad, hkey]
    rfl
  case audClear => exact fun s => rfl
  case tagSel =>
    intro v s hheld
    have hfree : ∀ n, (s.withIns fun r => { r with tagSel := v.setWidth 7, latched := false }).pageHeld n = false :=
      State.pageHeld_none hheld
    simp only [exec_insTagSelWrite, execInsTagSelWrite, if_true, hfree, Bool.false_eq_true, if_false]
    simp [State.tagLatch, State.withIns]
  case commit =>
    intro s hheld hpage
    simp only [exec_insTagCommit, execInsTagCommit, if_true, State.pageHeld_none hheld, Bool.false_eq_true, if_false, State.tagCommit,
      Nat.not_le.mpr hpage]
    exact ⟨_, rfl, rfl, rfl, rfl, rfl⟩
  case commitHigh =>
    exact fun s hheld hpage => by simp [execInsTagCommit, State.pageHeld_none hheld, State.tagCommit, hpage]
  case budget => exact fun s => rfl
  case levels =>
    intro level v s hlevel
    simp [execInsFloorWrite, execInsIkctlGen, execInsAudctlLoad, execInsAudctlClear, execInsTagSelWrite, execInsTagCommit, hlevel]
  case clkCtrl => exact fun writer v s => ⟨_, rfl, rfl, by simp⟩
  case katRun => exact fun core s hstate => by simp [execCphKatRun, hstate]
  case katDone =>
    intro core pass s hrun hgen
    exact ⟨_, by simp only [exec_cphKatDone, execCphKatDone, hrun, hgen, Bool.and_self, if_true], rfl, by simp⟩
  case fenceGo => exact fun m s hm => by simp [execMpuFenceGo, hm, State.updMpu]
  case fenceCore => exact fun m s hm level => by simp [execMpuFenceGo, Nat.not_le.mpr hm]
  case fenceDone => exact fun m s => rfl
  case dmaFault =>
    intro m addr size write r s hm hgo hrefused
    have hnot : ¬ (m.val < 5 ∨ (s.mpu m.val).stopped.isSome = true) := by simp [hgo, hm]
    simp only [exec_dmaMpuFault, execDmaMpuFault, if_neg hnot, hrefused]
    exact ⟨_, rfl, rfl, rfl, rfl⟩
  case faultClear => exact fun m s hgo => by simp [execMpuFaultClear, hgo, State.updMpu]

end Sys2Proof.Machine

/-! SUPPORT. What the end of a wait, a live update and a shutdown change, and the statement about the commands that end a wait
(02 R67; 04 R112, R117; 05 R177; 06 R209-R214; 12 R362-R378; 14 R421, R430; 16 R468; 17 R494, R495). -/

namespace Sys2Proof.Machine

/-- A command that ends with a status changes firmware's state, the queue of FRESH requests and the output. -/
theorem State.endWait_eq (i : Nat) (w : Waiting) (st : Half) (detail elapsed : Word) (s : State) :
    ∃ r o f, s.endWait i w st detail elapsed = ((s.withRng fun _ => r).withOut fun _ => o).withFw fun _ => f := by
  unfold State.endWait
  extract_lets s1
  obtain ⟨o, n, hresp⟩ := State.respondAs_eq { w.hdr with elapsed := elapsed } w.opc st detail w.hdr.session [] s1
  rw [hresp]
  exact ⟨s1.rng, _, _, rfl⟩

/-! ### A live update (17 R494, R495) -/

@[simp] theorem State.releaseCore_keys (c : Nat) (nmi : Bool) (s : State) : (s.releaseCore c nmi).keys = s.keys := rfl
@[simp] theorem State.releaseCore_rings (c : Nat) (nmi : Bool) (s : State) : (s.releaseCore c nmi).rings = s.rings := rfl

/-- Starting the cores again with a new image changes no key and no ring. -/
theorem State.updateCores_frame (img : Image) (s : State) :
    (s.updateCores img).keys = s.keys ∧ (s.updateCores img).rings = s.rings := by
  unfold State.updateCores
  extract_lets segs s1 s2
  have hcores : s2.keys = s.keys ∧ s2.rings = s.rings := by
    refine List.foldlRecOn (motive := fun t : State => t.keys = s.keys ∧ t.rings = s.rings) _ _ (by simp [s1]) ?_
    rintro t ⟨hkeys, hrings⟩ c -
    split <;> simp [hkeys, hrings]
  simpa using hcores

/-! ### Shutdown (02 R67 step 7) -/

/-- What the zeroisation at the end of a shutdown leaves. -/
theorem State.shelfZero_effect (s : State) :
    s.shelfZero.boot.state = .down ∧ s.shelfZero.keys.runs = [] ∧ s.shelfZero.mem.sram = [] ∧ s.shelfZero.mem.itcm = []
    ∧ s.shelfZero.mem.dtcm = [] ∧ ∀ p ∈ s.shelfZero.rings.jobs, ∀ j, p.2 = some j → j.ctx = none ∧ j.out = [] := by
  refine ⟨rfl, rfl, rfl, rfl, rfl, fun p hp j hj => ?_⟩
  obtain ⟨q, -, rfl⟩ : ∃ q ∈ s.rings.jobs, (q.1, q.2.map Job.wiped) = p := List.mem_map.mp hp
  obtain ⟨x, -, rfl⟩ := Option.map_eq_some_iff.mp hj
  exact ⟨rfl, rfl⟩

/-! ### The statement -/

/-- Settles O50: under its guards each command takes the branch that the statement writes out; a shutdown ends in the zeroisation, and
a live update keeps keys and rings. -/
theorem completeWaits : Obligations.CompleteWaits := by
  unfold Obligations.CompleteWaits
  refine ⟨?timeout, ?timeoutNone, ?opcode, ?zeroise, ?zeroiseFree, ?heartbeat, ?holdEnd, ?fieldLost, ?hostWait, ?hostWaitNone,
    ?hostWaitCmd, ?blockRefused, ?blockTie, ?blockM, ?blockK, ?toBuffer, ?toMask, ?complete, ?completeMirror, ?abortAll,
    ?shelfTimeout, ?shelfNone, ?shelfDone, ?shelfWait, ?stageDone, ?stageNone, ?quiet, ?quietNone, ?noticeNone, ?notice⟩
  case timeout =>
    intro f tag elapsed i w s hfind hshelf hstage hpair
    simp only [exec_commandTimeout, execCommandTimeout, hfind, if_neg hshelf, if_neg hstage]
  case timeoutNone => exact fun f tag elapsed s hfind => by simp only [exec_commandTimeout, execCommandTimeout, hfind]
  case opcode =>
    exact fun h opcode s htakes hopc hcode hhead => by
      simp [execUndefinedOpcode, htakes, hopc, hcode, hhead, -List.contains_eq_mem]
  case zeroise => exact fun slot r s hrun hmarked hrefs => by simp [execRunZeroise, hrun, hmarked, hrefs]
  case zeroiseFree => exact fun slot s hrun => by simp [execRunZeroise, hrun]
  case heartbeat => exact fun scan s hover => ⟨by simp [execWeltHeartbeatTimeout, hover], rfl⟩
  case holdEnd => exact fun s => rfl
  case fieldLost => exact fun s hfield => by simp [execFieldLost, hfield]
  case hostWait => exact fun s hwait => ⟨by simp [execTagHostWaitExpiry, hwait], rfl⟩
  case hostWaitNone =>
    exact fun tie s hwait hfind => by cases tie <;> simp [execTagHostWaitExpiry, hwait, hfind]
  case hostWaitCmd => exact fun i w s hwait hfind => by simp [execTagHostWaitExpiry, hwait, hfind]
  case blockRefused =>
    exact fun m tie s hoff => by rcases hoff with h | h <;> simp [execConditionedBlock, h]
  case blockTie => exact fun m s htested haudit => by simp [execConditionedBlock, htested, haudit]
  case blockM => exact fun c s htested haudit havail hdue => by simp [execConditionedBlock, htested, haudit, havail, hdue]
  case blockK => exact fun s htested haudit havail => by simp [execConditionedBlock, htested, haudit, havail]
  case toBuffer => exact fun block s havail => by simp [State.blockK, havail]
  case toMask => exact fun block c s havail hdue => by simp [State.blockK, havail, hdue]
  case complete => exact fun ring s hc => by simp [execCompletionWrite, hc]
  case completeMirror => exact fun ring s hc => by simp [execCompletionWrite, hc]
  case abortAll => exact fun s => ⟨rfl, rfl, rfl⟩
  case shelfTimeout => exact fun i w s hshelf => by simp [execShelfDownTimeout, hshelf]
  case shelfNone =>
    exact fun s hshelf => ⟨by simp [execShelfDownTimeout, hshelf], fun e => by simp [execShelfDownComplete, hshelf]⟩
  case shelfDone =>
    intro elapsed i w s hshelf hdrained hsigner
    have hgo : ¬ (!s.rings.drained (decide (w.data ≠ [])) || (s.engineOn && s.signer.isNone)) = true := by
      rw [hdrained, hsigner]; decide
    simp only [exec_shelfDownComplete, execShelfDownComplete, hshelf, if_neg hgo]
    exact ⟨_, rfl, State.shelfZero_effect _⟩
  case shelfWait =>
    intro elapsed i w s hshelf hwait
    have hstop : (!s.rings.drained (decide (w.data ≠ [])) || (s.engineOn && s.signer.isNone)) = true := by
      rcases hwait with h | ⟨hon, hsigner⟩
      · rw [h]; rfl
      · simp [hon, hsigner]
    simp only [exec_shelfDownComplete, execShelfDownComplete, hshelf, if_pos hstop]
  case stageDone =>
    intro img elapsed i len w s hstaging hstaged
    simp only [exec_fwStageVerifyDone, execFwStageVerifyDone, hstaging, hstaged, Option.isSome_none, Bool.false_eq_true, if_false]
    cases imageCheck s.pins len s.pins.fwFloor s.pins.cobFloor img with
    | none => rfl
    | some e => rfl
  case stageNone => exact fun img elapsed s hstaging => by simp [execFwStageVerifyDone, hstaging]
  case quiet =>
    intro elapsed img i len w s hstaged hstaging hone hcores
    have hgo : ¬ (decide (s.fw.waiting.length ≠ 1) || (List.range 4).any fun c => s.coreUsable c && (s.core c).inReset) = true := by
      rw [hcores, hone]; decide
    simp only [exec_quietPoint, execQuietPoint, hstaged, hstaging, if_neg hgo]
    refine ⟨_, rfl, ?_⟩
    generalize hu : State.withCob _ _ = u
    obtain ⟨r, o, f, hend⟩ := u.endWait_eq i w Status.ok 0 elapsed
    obtain ⟨hkeys, hrings⟩ := s.updateCores_frame img
    rw [hend, ← hu]
    simp [hkeys, hrings]
  case quietNone => exact fun elapsed s hstaged => by simp [execQuietPoint, hstaged]
  case noticeNone => exact fun f s hempty => by simp [execEvtNoticePost, hempty]
  case notice =>
    intro f n rest s hqueue hfull hrun hup
    simp [execEvtNoticePost, hqueue, hfull, hrun, hup]

end Sys2Proof.Machine

/-! SUPPORT. The statements about the host link: the values at reset, the mailboxes and the PCI Express endpoint (03 R71-R101; 05 R158;
06 R212). -/

namespace Sys2Proof.Machine

/-! ### The reset column of the register tables -/

/-- Settles O3: every entry of the list is an address and a word, and the register map, read at reset, gives that word. -/
theorem resetRegisters : Obligations.ResetRegisters := by
  unfold Obligations.ResetRegisters
  intro p hp
  fin_cases hp <;> rfl

/-! ### Mailboxes (03 R86-R101) -/

/-- While the receiver is up, a write of MSG_HI posts the message into an empty mailbox (03 R90). -/
theorem Mailbox.writeHi_up (v : Word) : Mailbox.writeHi true v = fun b =>
    if b.full then { b with overrun := true } else { b with hi := v, full := true, tmo := false, rxdown := false } := rfl

/-- Whatever the mailbox, its message is gone once taken (03 R90, R96). -/
theorem Mailbox.take_effect (m : MbxId) (b : Mailbox) : (b.take m).full = false ∧ (b.take m).lo = 0 ∧ (b.take m).hi = 0 := by
  cases m with
  | cmd f => exact ⟨rfl, rfl, rfl⟩
  | evt f => exact ⟨rfl, rfl, rfl⟩
  | internal i => exact ⟨rfl, rfl, rfl⟩

/-- A lock holds 7 bits, so the owner's number in a word passes the test of MBX_LOCK (03 R98). -/
theorem requesterNo_inWord (r : Fin 70) : ((requesterNo r).setWidth 32).toNat % 128 = (requesterNo r).toNat := by
  rw [BitVec.toNat_setWidth]
  omega

/-- Settles O24: under its guards each command takes the branch that changes its own mailbox. -/
theorem completeMailboxes : Obligations.CompleteMailboxes := by
  unfold Obligations.CompleteMailboxes
  refine ⟨?msgLo, ?msgHi, ?take, ?withdraw, ?dbell, ?dbclr, ?lockTake, ?lockFree, ?hroute⟩
  case msgLo => exact fun m v s hempty => rfl
  case msgHi =>
    intro m v s hempty hup
    rw [exec_mbxMsgHiWrite, execMbxMsgHiWrite, if_pos rfl, hup, Mailbox.writeHi_up]
  case take =>
    intro m s hfull
    exact ⟨by simp [execMbxMsgHiRead, hfull], fun b => Mailbox.take_effect m b⟩
  case withdraw =>
    intro f s hfull
    rw [exec_mbxTimeout, execMbxTimeout, mbxKey, if_pos hfull]
    rfl
  case dbell => exact fun m v s => rfl
  case dbclr => exact fun m v s => rfl
  case lockTake => exact fun m r s hfree => by simp [execMbxLockRead, hfree]
  case lockFree =>
    intro m r s howner hnonzero
    rw [exec_mbxLockWrite, execMbxLockWrite, howner, if_pos ⟨rfl, hnonzero, requesterNo_inWord r⟩]
  case hroute =>
    intro f v s hen
    rw [exec_mbxHrouteWrite, execMbxHrouteWrite, if_pos rfl, hen]
    rfl

/-! ### The PCI Express endpoint (03 R71-R95; 05 R158; 06 R212) -/

/-- A write of NumVFs up to 63 sets it (03 R73). -/
theorem exec_numVfsWrite_low {v : Half} {s : State} (hv : v.toNat ≤ 63) :
    exec (.numVfsWrite v) s = .next (s.withPcie fun p => { p with numVfs := BitVec.ofNat 6 v.toNat }) := by
  have hset : Pcie.setNumVfs v.toNat = fun p => { p with numVfs := BitVec.ofNat 6 v.toNat } :=
    funext fun p => if_pos hv
  rw [exec_numVfsWrite, execNumVfsWrite, hset]

/-- A write of NumVFs above 63 leaves the whole state as it was (03 R73). -/
theorem exec_numVfsWrite_high {v : Half} {s : State} (hv : 63 < v.toNat) : exec (.numVfsWrite v) s = .next s := by
  have hset : Pcie.setNumVfs v.toNat = id := funext fun p => if_neg (Nat.not_le.mpr hv)
  rw [exec_numVfsWrite, execNumVfsWrite, hset]
  rfl

/-- A poisoned write changes AER's count alone (03 R76). -/
theorem exec_poisonedWrite_aer (f : Fin 64) (s : State) :
    exec (.poisonedWrite f) s = .next (s.withPcie fun p => { p with aerPoisoned := p.aerPoisoned + 1 }) := rfl

/-- Settles O6: a value above 63 updates NumVFs by the identity, and a poisoned write updates AER's count alone. -/
theorem linkWriteRules : Obligations.LinkWriteRules := by
  unfold Obligations.LinkWriteRules
  exact ⟨fun v s hv => exec_numVfsWrite_high hv, exec_poisonedWrite_aer⟩

/-- Inside a BAR, an access that R83 does not accept is dropped and counted. -/
theorem exec_barBadAccess_refused {f : Fin 64} {x : HostAccess} {s : State} (hin : x.offset < barSize x.space)
    (hrefused : hostAccepted x = false) : exec (.barBadAccess f x) s = .next (s.badAccess f x.data.isSome) := by
  rw [exec_barBadAccess, execBarBadAccess, if_neg (Nat.not_le.mpr hin), hrefused]
  rfl

/-- Settles O49: under its guards each command is the branch of its rule; a host access that R83 refuses ends in `State.badAccess`,
which tells a write from a read. -/
theorem completeEndpoint : Obligations.CompleteEndpoint := by
  unfold Obligations.CompleteEndpoint
  refine ⟨?flrVf, ?flrPf, ?hotReset, ?flrIdle, ?flrDone, ?power, ?memEnable, ?numVfs, ?numVfsHigh, ?poisoned, ?badWrite, ?badRead,
    ?accepted, ?unmaskSend, ?unmask, ?ideKey, ?ideNone⟩
  case flrVf =>
    intro f s hf
    rw [exec_functionLevelReset, execFunctionLevelReset, if_neg hf]
  case flrPf => exact fun s => rfl
  case hotReset => exact fun s => rfl
  case flrIdle => exact fun f s hflr => by simp [execFlrComplete, hflr]
  case flrDone =>
    intro f s hflr
    rw [exec_flrComplete, execFlrComplete, if_pos hflr]
  case power => exact fun f s => ⟨rfl, rfl⟩
  case memEnable => exact fun f v s => rfl
  case numVfs => exact fun v s hv => exec_numVfsWrite_low hv
  case numVfsHigh => exact fun v s hv => exec_numVfsWrite_high hv
  case poisoned => exact exec_poisonedWrite_aer
  case badWrite =>
    intro f x s hin hrefused hwrite
    rw [exec_barBadAccess_refused hin hrefused, hwrite]
    rfl
  case badRead =>
    intro f x s hin hrefused hread
    rw [exec_barBadAccess_refused hin hrefused, hread]
    rfl
  case accepted =>
    intro f x s hin haccepted
    rw [exec_barBadAccess, execBarBadAccess, if_neg (Nat.not_le.mpr hin), haccepted]
    rfl
  case unmaskSend =>
    intro f vector s hpend
    rw [exec_msixVectorUnmask, execMsixVectorUnmask, State.msixUnmask, if_pos hpend]
  case unmask =>
    intro f vector s hpend
    rw [exec_msixVectorUnmask, execMsixVectorUnmask, State.msixUnmask, hpend, if_neg Bool.false_ne_true]
  case ideKey =>
    intro stream sub dir key s hsession
    rw [exec_ideKmKeyProg, execIdeKmKeyProg, if_pos hsession]
  case ideNone =>
    intro stream sub dir key s hsession
    rw [exec_ideKmKeyProg, execIdeKmKeyProg, hsession, if_neg Bool.false_ne_true]

end Sys2Proof.Machine

/-! SUPPORT. What an accepted Cetrix command answers, and what the operations that commands share do where nothing holds them up
(04 R103, R107-R119, R152, R155; 05 R177; 07 R257; 10 R322-R325; 12 R373-R376; 15 R450-R452; 16 R465). -/

namespace Sys2Proof.Machine

section
variable {c : Call} {s : State}

/-! ### From the notice of a command to its body -/

/-- A command that names no quorum spends no ticket. -/
theorem Call.begun_of_none (hq : c.quorum = none) : c.begun s = s := by
  unfold Call.begun
  rw [hq]
  rfl

/-- An accepted command has the effect of its body, after its ticket is spent. -/
theorem exec_begun {i : Instr} {call : Call} {run : Call → State → State} {t : State}
    (hexec : exec i s = .next (call.run .new run s)) (hcall : call = c) (hacc : c.Accepted s) (hbody : run c (c.begun s) = t) :
    exec i s = .next t := by
  rw [hexec, hcall, Call.run_accepted hacc, hbody]

/-- An accepted command that names no quorum has the effect of its body. -/
theorem exec_accepted {i : Instr} {call : Call} {run : Call → State → State} {t : State}
    (hexec : exec i s = .next (call.run .new run s)) (hcall : call = c) (hacc : c.Accepted s) (hq : call.quorum = none)
    (hbody : run c s = t) : exec i s = .next t :=
  exec_begun hexec hcall hacc (by rw [Call.begun_of_none (hcall ▸ hq), hbody])

/-- A spent ticket leaves the key store. -/
@[simp] theorem Call.begun_keys (c : Call) (s : State) : (c.begun s).keys = s.keys := by
  obtain ⟨q, hq⟩ := c.begun_eq s
  rw [hq]; rfl

/-- A spent ticket leaves the membership. -/
@[simp] theorem Call.begun_membership (c : Call) (s : State) : (c.begun s).fw.membership = s.fw.membership := by
  obtain ⟨q, hq⟩ := c.begun_eq s
  rw [hq]; rfl

/-- A spent ticket leaves the device number. -/
@[simp] theorem Call.begun_device (c : Call) (s : State) : (c.begun s).fw.device = s.fw.device := by
  simp only [Fw.device, Call.begun_membership]

/-! ### Answers (04 R107-R112; 16 R465) -/

/-- An answer changes no session. -/
@[simp] theorem State.respondAs_sessions (h : CmdHdr) (opc st : Half) (detail session : Word) (body : List Byte) (s : State) :
    (s.respondAs h opc st detail session body).fw.sessions = s.fw.sessions := by
  obtain ⟨o, n, hr⟩ := State.respondAs_eq h opc st detail session body s
  rw [hr]; rfl

/-- An answer changes no quorum. -/
@[simp] theorem State.respondAs_quorum (h : CmdHdr) (opc st : Half) (detail session : Word) (body : List Byte) (s : State) :
    (s.respondAs h opc st detail session body).fw.quorum = s.fw.quorum := by
  obtain ⟨o, n, hr⟩ := State.respondAs_eq h opc st detail session body s
  rw [hr]; rfl

/-- Outside a mirroring pair the answer waits for no partner. -/
theorem Call.okMirrored_alone {r : MirrorRec} {body : List Byte} (halone : s.welt.mirroring = false) :
    c.okMirrored r body s = c.ok body s := by
  simp only [Call.okMirrored, halone, Bool.false_eq_true, if_false]

/-- In a mirroring pair the answer waits for the acknowledgement of its record. -/
theorem Call.okMirrored_paired {r : MirrorRec} {body : List Byte} (hpaired : s.welt.mirroring = true) :
    c.okMirrored r body s = c.wait (.ack s.welt.mirrorSeq) body (s.sendRecord r) := by
  simp only [Call.okMirrored, hpaired, if_true]

/-- Outside a mirroring pair a key that has been made is answered at once, whatever its slot holds. -/
theorem Call.keyMade_alone {n : Nat} {body : List Byte} (halone : s.welt.mirroring = false) :
    c.keyMade n body s = c.ok body s := by
  unfold Call.keyMade
  split
  · exact Call.okMirrored_alone halone
  · rfl

/-! ### Random draws (12 R373-R376) -/

/-- A draw without a reseed goes on at once while the generator serves. -/
theorem Call.withRandom_serves {inst n : Nat} {k : List Byte → State → State} (hserves : s.rng.serves inst = true) :
    c.withRandom inst false n k s = s.instDraw inst false n k := by
  simp only [Call.withRandom, Call.withGrant, hserves, Bool.not_false, Bool.and_self, if_true]

/-- A draw with a fresh seed goes on at once while a class K block is there and no other request waits; the claim of the command is
served. -/
theorem Call.withRandom_fresh {inst n : Nat} {k : List Byte → State → State} (hserves : s.rng.freshServes inst = true)
    (hbuffer : s.rng.buffer ≠ []) (hqueue : s.rng.freshQueue = []) :
    c.withRandom inst true n k s = (s.withRng fun r =>
      { r with freshQueue := r.freshQueue.filter fun q => decide (q ≠ .cmd c.hdr.fn.val c.hdr.tag) }).instDraw inst true n k := by
  simp [Call.withRandom, Call.withGrant, hserves, hbuffer, hqueue]

/-! ### Cards (15 R438, R450-R452; 04 R152) -/

/-- A command on a contact slot goes on at once while the slot is idle and its card active. -/
theorem Call.withIcc_ready {n : Nat} {k : State → State} (hon : s.unitOn (31 + n) = true) (hidle : s.cardBusy 1 n = false)
    (hcard : (s.iccSlot n).state = .active ∨ (s.iccSlot n).state = .clockStopped) : c.withIcc n k s = k s := by
  rcases hcard with h | h <;> simp [Call.withIcc, hon, hidle, h]

/-- A command on an SD port goes on at once while the port is idle and its card there. -/
theorem Call.withSd_ready {p : Nat} {k : State → State} (hcard : sdErr s p = none) (hidle : s.cardBusy 0 p = false) :
    c.withSd p k s = k s := by
  simp only [Call.withSd, hcard, hidle, Bool.false_eq_true, if_false]

/-- A credential is read at once where its source is ready: a contact slot, an SD port, or the contactless port. -/
theorem Call.withSource_ready {source index : Nat} {k : State → State} (hready : s.sourceReady source index = true) :
    c.withSource source index k s = k s := by
  unfold State.sourceReady at hready
  unfold Call.withSource
  by_cases hslot : source = 0
  · simp only [if_pos hslot, Bool.and_eq_true, Bool.not_eq_true', decide_eq_true_eq] at hready ⊢
    obtain ⟨⟨hon, hidle⟩, hcard⟩ := hready
    exact Call.withIcc_ready hon hidle hcard
  · by_cases hport : source = 2
    · simp only [if_neg hslot, if_pos hport, Bool.and_eq_true, Bool.not_eq_true', Option.isNone_iff_eq_none] at hready ⊢
      obtain ⟨hcard, hidle⟩ := hready
      exact Call.withSd_ready hcard hidle
    · simp only [if_neg hslot, if_neg hport, Bool.and_eq_true, Bool.not_eq_true', decide_eq_true_eq] at hready ⊢
      obtain ⟨⟨⟨hon, hfield⟩, hsession⟩, hoff⟩ := hready
      simp only [hon, hfield, hsession, hoff, ne_eq, not_true, decide_false, Bool.or_self, Bool.false_eq_true, Bool.true_eq_false, if_false]

/-! ### The cipher cluster and the public-key engines (07 R257; 10 R322-R325) -/

/-- AES work runs on the core that takes a cut, which is then dealt its next one. -/
theorem Call.withCluster_on {k : Nat → State → State} {n : Nat} (hon : s.cipherOn ≠ 0) (hcore : s.fwCore = some n) :
    c.withCluster k s = (k n s).dealAll := by
  simp only [Call.withCluster, if_neg hon, hcore]

/-- AES work with no core enabled is refused (06 R205). -/
theorem Call.withCluster_off {k : Nat → State → State} (hoff : s.cipherOn = 0) :
    c.withCluster k s = c.fail (Status.notReady, 4) s := by
  simp only [Call.withCluster, if_pos hoff]

/-- An operation runs at once on an idle engine whose generator serves it; a verification draws nothing. -/
theorem Call.engineOp_free {q : FwOp} {k : Nat → State → State} {n : Nat} (hfree : s.engineFree = some n)
    (hserves : pkeVerify q.op.toNat = true ∨ pkeKeygen q.op.toNat = false ∧ s.rng.serves (5 + n) = true) :
    c.engineOp q k s = k n (s.fwEngine n (c.core s) q) := by
  rcases hserves with hverify | ⟨hkeygen, hserves⟩
  · simp [Call.engineOp, Call.engineGrant, Call.withEngine, hfree, hverify]
  · simp [Call.engineOp, Call.engineGrant, Call.withEngine, hfree, Call.withGrant, hkeygen, hserves]

/-- An attestation signature is made at once on an idle engine whose generator serves: signing is no key generation (05 R156). -/
theorem Call.attested_free {dsa : Bool} {d : List Byte} {k : List Byte → State → State} {n : Nat} (hfree : s.engineFree = some n)
    (hserves : s.rng.serves (5 + n) = true) :
    c.attested dsa d k s =
      (let t := s.fwEngine n (c.core s) (if dsa = true then { op := 0x39, set := 1, key := s.keys.handleOf 7, input := d }
        else { op := 0x11, set := 1, key := s.keys.handleOf 4, input := p384.eBytes (sha384 d) })
      if (t.engine n).result = Status.ok then k (t.fwOutput n) t else c.engineFail n t) := by
  unfold Call.attested
  refine Call.engineOp_free hfree (.inr ⟨?_, hserves⟩)
  cases dsa <;> rfl

end

end Sys2Proof.Machine

/-! SUPPORT. The statements about sessions and the quorum (04 R120-R126, R149-R155). -/

namespace Sys2Proof.Machine

/-- The role TENANT is not ADMIN (04 R120). -/
theorem tenantRole_not_admin : decide ((2 : Byte) = 1) = false := rfl

/-- Settles O19: the first test of SESSION_OPEN in the role TENANT is the trust in the boot epoch. -/
theorem sessionNeedsEpoch : Obligations.SessionNeedsEpoch := by
  unfold Obligations.SessionNeedsEpoch
  intro h rsv tenant seq sigLen sig c s hc hacc huntrusted
  refine ⟨exec_accepted rfl hc hacc rfl ?_, by simp only [Call.respond, State.respondAs_sessions]⟩
  simp only [bodySessionOpen, tenantRole_not_admin, huntrusted, Bool.not_false, Bool.and_self, if_true, Call.fail]

/-- Settles O20: firmware holds one quorum at most, and QUORUM_BEGIN looks for it before it draws a challenge. -/
theorem quorumSingle : Obligations.QuorumSingle := by
  unfold Obligations.QuorumSingle
  intro h purpose window rsv digest b q c s hc hacc hmember hopen
  refine ⟨exec_accepted rfl hc hacc rfl ?_, by simp only [Call.respond, State.respondAs_quorum, hopen]⟩
  simp only [bodyQuorumBegin, hmember, hopen, Option.isSome_some, if_true, Call.fail]

/-- Settles O51: with room and a generator that serves a session opens under the number drawn, after its statement is verified for a TENANT;
with the quorum open and its source ready a credential is judged at once. -/
theorem completeSessionCommands : Obligations.CompleteSessionCommands := by
  unfold Obligations.CompleteSessionCommands
  refine ⟨?openAdmin, ?openTenant, ?close, ?begin, ?present, ?absent, ?finish, fun s => ⟨rfl, rfl⟩⟩
  case openAdmin =>
    intro h rsv tenant seq sigLen sig c s hc hacc hroom hown hserves
    refine exec_accepted rfl hc hacc rfl ?_
    simp only [bodySessionOpen, decide_true, Bool.not_true, Bool.false_and, Bool.false_eq_true, if_true, if_false,
      Nat.not_le.mpr hroom, Nat.not_le.mpr hown, or_self, Call.withRandom_serves hserves]
  case openTenant =>
    intro h rsv tenant seq sigLen sig r c s hc hacc htrusted hkey hroom hown
    refine exec_accepted rfl hc hacc rfl ?_
    simp only [bodySessionOpen, tenantRole_not_admin, htrusted, hkey, Option.isNone_some, Bool.not_true, Bool.not_false, Bool.and_false,
      Bool.true_and, Bool.or_eq_true, Bool.not_eq_true', decide_eq_true_eq, Bool.false_eq_true, if_false, Nat.not_le.mpr hroom,
      Nat.not_le.mpr hown, or_self]
  case close => exact fun h c s hc hacc => exec_accepted rfl hc hacc rfl rfl
  case begin =>
    intro h purpose window rsv digest b c s hc hacc hmember hfree
    refine exec_accepted rfl hc hacc rfl ?_
    simp only [bodyQuorumBegin, hmember, hfree, Option.isSome_none, Bool.false_eq_true, if_false]
  case present =>
    rintro h qid source index rsv file cert sig q c s hc hacc hopen rfl hticket hsource hready
    refine exec_accepted rfl hc hacc rfl ?_
    simp only [bodyQuorumPresent, hopen, hticket, Call.withSource_ready hready, hsource, ne_eq, not_true, decide_false,
      Bool.false_and, Bool.false_eq_true, if_false, List.contains_eq_mem, decide_eq_true_eq, Quorum.counted, List.length_append,
      List.length_singleton]
  case absent =>
    rintro h qid source index rsv file q c s hc hacc hopen rfl hticket hsource hready
    refine exec_accepted rfl hc hacc rfl ?_
    simp only [bodyQuorumPresent, hopen, hticket, Call.withSource_ready hready, hsource, ne_eq, not_true, decide_false,
      Bool.false_and, Bool.false_eq_true, if_false]
  case finish =>
    rintro h qid rsv q c s hc hacc hopen rfl hticket henough
    refine exec_accepted rfl hc hacc rfl ?_
    simp only [bodyQuorumEnd, hopen, hticket, henough, ne_eq, not_true, Bool.false_eq_true, if_false, if_true]

end Sys2Proof.Machine

/-! SUPPORT. The statements about the key, payment and public-key commands (04 R131-R137; 05 R161-R178; 07 R226-R228; 10 R318-R328). -/

namespace Sys2Proof.Machine

section
variable {c : Call} {s : State}

/-! ### Key commands (05 R161-R178; 07 R257) -/

/-- A key whose length suits key wrapping without padding passes KEY_EXPORT's check of format 1. -/
theorem not_unwrappable {format : Byte} {n : Nat} (hlen : format = 1 → 16 ≤ n ∧ n % 8 = 0) :
    ¬ (format = 1 ∧ (n < 16 ∨ n % 8 ≠ 0)) := by
  rintro ⟨hformat, hbad⟩
  obtain ⟨hlong, haligned⟩ := hlen hformat
  omega

/-- Outside a mirroring pair a key's run is marked, and the command waits for its zeroisation alone (05 R177). -/
theorem Call.unload_alone {n : Nat} {body : List Byte} (halone : s.welt.mirroring = false) :
    c.unload n body s = c.wait (.run n none) body (s.withKeys (Keys.mark · n)) := by
  simp only [Call.unload, halone, Bool.false_and, Bool.false_eq_true, if_false]

/-- A derivation delivers what the work on its core gives; where the core's check fails the command waits for another. -/
theorem Call.deriveOn_eq (c : Call) (func : Byte) (r : KeyRun) (ctx : List Byte) (t : Attr) (n : Nat) (s : State) :
    c.deriveOn func r ctx t n s = match s.derived n func r ctx t with
      | (some d, u) => c.deliverKey 72 t (madeMaterial t d) u
      | (none, u) => c.wait .cipher [] u := by
  unfold Call.deriveOn
  rcases s.derived n func r ctx t with ⟨_ | d, u⟩ <;> rfl

/-- A derivation with HMAC delivers its key without the cluster (11 R348). -/
theorem Call.deriveOn_hmac (r : KeyRun) (ctx : List Byte) (t : Attr) (n : Nat) :
    c.deriveOn 1 r ctx t n s = c.deliverKey 72 t (madeMaterial t (hmacKdf r.material ctx (makeLen t))) s := rfl

/-! ### Public-key commands (10 R318; 16 R465) -/

/-- A type that signs messages only is given a message (log entry 39). -/
theorem not_digest_of_messageOnly {input : Byte} {only : Bool} (h : input = 0 ∨ only = false) : ¬ (input = 1 ∧ only = true) := by
  rintro ⟨rfl, rfl⟩
  simp at h

/-- Outside a pair no lease is sent. -/
theorem State.leaseSend_alone (n : Nat) (halone : s.welt.state ≠ .paired ∧ s.welt.state ≠ .resync) : s.leaseSend n = s := by
  obtain ⟨hpaired, hresync⟩ := halone
  unfold State.leaseSend
  cases Bank.get none s.keys.runs n <;> simp [Welt.leaseDue, hpaired, hresync]

/-- Outside a pair no lease limits the counter (05 R172). -/
theorem Welt.leaseOk_alone {w : Welt} {n : Nat} {r : KeyRun} (halone : w.state ≠ .paired) : w.leaseOk n r = true := by
  simp only [Welt.leaseOk, Welt.mirroring, halone, decide_false, Bool.not_false, Bool.true_or]

end

/-! ### The statements -/

/-- Settles O52: under its guards each command takes the branch of its rule; the commands that draw have their class K block at once. -/
theorem completeKeyCommands : Obligations.CompleteKeyCommands := by
  unfold Obligations.CompleteKeyCommands
  refine ⟨?generate, ?generatePair, ?keyImport, ?keyExport, ?exportDk, ?unload, fun c n body s => Call.unload_alone, ?derive,
    ?deriveHmac, Call.deriveOn_eq, ?destroy, ?attest, ?info, ?create⟩
  case generate =>
    intro h t c s hc hacc hcreate htype hserves hbuffer hqueue
    refine exec_accepted rfl hc hacc rfl ?_
    have hsecret : (isAes t.type || isHmac t.type) = true := by simpa using htype
    simp only [bodyKeyGenerate, hcreate, if_pos hsecret, Call.withRandom_fresh hserves hbuffer hqueue]
  case generatePair =>
    intro h t c s hc hacc hcreate haes hhmac
    exact exec_accepted rfl hc hacc rfl
      (by simp only [bodyKeyGenerate, hcreate, haes, hhmac, Bool.or_self, Bool.false_eq_true, if_false])
  case keyImport =>
    intro h wrap format rsv t wrappedLen rsv2 wrapped r c s hc hacc hwrap hcreate
    refine exec_accepted rfl hc hacc rfl ?_
    simp only [bodyKeyImport, hwrap, hcreate]
    generalize (if format = 1 then kwUnwrap _ _ else kwpUnwrap _ _) = unwrapped
    cases unwrapped with
    | none => rfl
    | some m =>
      cases hmat : matErr 0 t m with
      | some e => simp only [hmat]
      | none => simp only [hmat, Bool.or_eq_true, decide_eq_true_eq, or_assoc]
  case keyExport =>
    intro h handle wrap format rsv r w c s hc hacc hwrap0 hkey hwrap hallowed hlen
    refine exec_accepted rfl hc hacc rfl ?_
    simp only [bodyKeyExport, if_neg hwrap0, hkey, hwrap, hallowed, if_neg (not_unwrappable hlen), Bool.not_true, Bool.false_eq_true,
      if_false]
  case exportDk =>
    intro h format rsv dk dwk c s hc hacc hadmin hdk hdwk
    refine exec_accepted rfl hc hacc rfl ?_
    simp only [bodyKeyExport, if_true, hadmin, Option.isNone_none, and_self, Call.exportDk, hdk, hdwk]
  case unload =>
    intro h handle rsv r c s hc hacc hkey
    exact exec_accepted rfl hc hacc rfl (by simp only [bodyKeyUnload, hkey])
  case derive =>
    intro h base func rsv ctxLen t ctx r c s hc hacc hfunc hbase hcreate hserves hbuffer hqueue
    refine exec_accepted rfl hc hacc rfl ?_
    simp only [bodyKeyDerive, hfunc, false_and, if_false, hbase, hcreate, Call.withRandom_fresh hserves hbuffer hqueue]
  case deriveHmac =>
    intro h base rsv ctxLen t ctx r c s hc hacc hphase hbase hcreate hserves hbuffer hqueue
    refine exec_accepted rfl hc hacc rfl ?_
    simp only [bodyKeyDerive, hphase, and_false, if_false, hbase, hcreate, if_true, Call.deriveOn_hmac,
      Call.withRandom_fresh hserves hbuffer hqueue]
  case destroy =>
    rintro h handle rsv keyId r c s hc hacc hkey rfl hroom
    refine exec_accepted rfl hc hacc rfl ?_
    simp only [bodyKeyDestroy, hkey, ne_eq, not_true, if_false, Nat.not_lt.mpr hroom] <;> rfl
  case attest =>
    intro h handle alg rsv nonce r c s hc hacc hkey
    refine exec_accepted rfl hc hacc rfl ?_
    simp only [bodyKeyAttest, hkey] <;> rfl
  case info =>
    intro h handle rsv r c s hc hacc hkey
    exact exec_accepted rfl hc hacc rfl (by simp only [bodyKeyInfo, hkey])
  case create =>
    intro c off t m pre n k s hcreate halone
    simp only [Call.createKey, hcreate]
    exact Call.keyMade_alone halone

/-- Settles O53: with its keys found a block is opened or sealed, and a PIN block goes through the cluster twice, with a draw between. -/
theorem completePaymentCommands : Obligations.CompletePaymentCommands := by
  unfold Obligations.CompletePaymentCommands
  refine ⟨?blockImport, ?blockExport, ?pin, fun c k n s => Call.withCluster_on, fun c k s => Call.withCluster_off⟩
  case blockImport =>
    intro h kbpk len block r c s hc hacc hkbpk
    refine exec_accepted rfl hc hacc rfl ?_
    simp only [bodyPayBlockImport, hkbpk] <;> rfl
  case blockExport =>
    intro h handle kbpk optLen rsv opt r w blocks c s hc hacc hkey hkbpk hallowed haes hmode hversion hopt hroom
    refine exec_accepted rfl hc hacc rfl ?_
    have hmapped : (!isAes r.attr.type || (payUsageMode r.attr.keyUsage r.attr.mode).isNone
        || decide (r.attr.keyVersion = 0)) = false := by
      rw [haes, Option.isNone_eq_false_iff.mpr hmode, decide_eq_false hversion]
      rfl
    simp only [bodyPayBlockExport, hkey, hkbpk, hallowed, hmapped, hopt, hroom, Bool.not_true, Bool.false_eq_true, if_false]
  case pin =>
    intro h inH outH inMode outMode rsv inKsn outKsn pan pin a b c s hc hacc hin hout
    refine exec_accepted rfl hc hacc rfl ?_
    simp only [bodyPayPinTranslate, hin, hout]
    congr 1
    funext n w
    rcases w.pinIn n inMode a inKsn pan pin with ⟨_ | field, u⟩
    · rfl
    · refine if_congr Iff.rfl rfl ?_
      congr 1
      funext rnd v
      rcases v.pinOut n outMode b outKsn pan ((pinRefill field rnd).getD []) with ⟨_ | out, x⟩ <;> rfl

/-- Settles O54: with its key found and its operands of the right form each command is its engine operation or its cluster job, and
outside a pair SEAL takes its counter value without a lease. -/
theorem completePublicKeyCommands : Obligations.CompletePublicKeyCommands := by
  unfold Obligations.CompletePublicKeyCommands
  refine ⟨?sign, ?verify, ?sealData, ?unsealData, ?agree, ?encaps, ?decaps, fun c q k n s => Call.engineOp_free,
    fun c dsa d k n s => Call.attested_free⟩
  case sign =>
    intro h handle input rsv len rsv2 data r c s hc hacc hkey hinput hroom
    refine exec_accepted rfl hc hacc rfl ?_
    simp only [bodySign, hkey, if_neg (not_digest_of_messageOnly hinput), hroom]
  case verify =>
    intro h handle input rsv len sigLen data sig r c s hc hacc hkey hinput hlen
    refine exec_accepted rfl hc hacc rfl ?_
    simp only [bodyVerify, hkey, if_neg (not_digest_of_messageOnly hinput), hlen, ne_eq, not_true, if_false, Bool.and_eq_true,
      Bool.not_eq_true']
  case sealData =>
    intro h handle aadLen rsv dataLen rsv2 aad data dev core r c s hc hacc hkey hnonce halone hdev hon hcore
    refine exec_accepted rfl hc hacc rfl ?_
    simp only [bodySeal, hkey, hnonce, State.leaseSend_alone _ halone, hcore, Welt.leaseOk_alone halone.1, hdev, if_neg hon,
      reduceCtorEq, and_false, if_false, Bool.not_true, Bool.false_eq_true]
    congr 1
    funext n x
    generalize x.fwGcm n true r _ _ _ = job
    rcases job with ⟨_ | ⟨ct, tag⟩, y⟩ <;> rfl
  case unsealData =>
    intro h handle aadLen rsv sealedLen rsv2 aad sealed r c s hc hacc hkey
    refine exec_accepted rfl hc hacc rfl ?_
    simp only [bodyUnseal, hkey]
    congr 1
    funext n v
    generalize v.fwGcm n false r _ _ _ = job
    rcases job with ⟨_ | ⟨ct, tag⟩, y⟩ <;> rfl
  case agree =>
    intro h handle peerLen t peer r c s hc hacc hkey hlen hcreate
    exact exec_accepted rfl hc hacc rfl (by simp only [bodyAgree, hkey, hlen, ne_eq, not_true, if_false, hcreate])
  case encaps =>
    intro h handle rsv t r c s hc hacc hkey hroom hcreate
    exact exec_accepted rfl hc hacc rfl (by simp only [bodyEncaps, hkey, hroom, hcreate])
  case decaps =>
    intro h handle ctLen t ct r c s hc hacc hkey hlen hcreate
    exact exec_accepted rfl hc hacc rfl (by simp only [bodyDecaps, hkey, hlen, ne_eq, not_true, if_false, hcreate])

end Sys2Proof.Machine

/-! SUPPORT. The statements about the ring, port, alarm, log, random-number, card and tag-memory commands (04 R138-R144; 06 R184-R187,
R213, R587; 08 R282-R289; 12 R371-R381; 13 R395, R405-R409; 14 R418, R429-R432; 15 R443-R456). -/

namespace Sys2Proof.Machine

/-! ### RING_CREATE (06 R184, R185) -/

/-- A free ring, with a vector where it interrupts, in a page that is free or its function's, passes RING_CREATE's checks. -/
theorem ringCreate_checks_pass {g : Ring} {state : BitVec 3} {vector : Byte} {owner : Option (BitVec 6)} (hfree : state = 0)
    (hvector : g.irqEn = true → 1 ≤ vector.toNat ∧ vector.toNat ≤ 31) (hpage : ∀ f, owner = some f → f = g.fn) :
    firstFail [(!decide (state = 0), invalidAt 64), (g.irqEn && !decide (1 ≤ vector.toNat ∧ vector.toNat ≤ 31), invalidAt 67),
      (owner.any fun f => decide (f ≠ g.fn), invalidAt 64)] = none := by
  have hvec : (g.irqEn && !decide (1 ≤ vector.toNat ∧ vector.toNat ≤ 31)) = false := by
    cases hirq : g.irqEn with
    | false => rfl
    | true => rw [decide_eq_true (hvector hirq)]; rfl
  have hown : (owner.any fun f => decide (f ≠ g.fn)) = false := by
    cases howner : owner with
    | none => rfl
    | some f => simp [hpage f howner]
  simp only [firstFail, hfree, decide_true, Bool.not_true, hvec, hown, Bool.false_eq_true, if_false]

/-! ### The statements -/

/-- Settles O55: the checks of a creation pass, and the other commands take the branch of their rule under their guards. -/
theorem completeRingCommands : Obligations.CompleteRingCommands := by
  unfold Obligations.CompleteRingCommands
  refine ⟨?create, ?destroy, ?window, ?windowPaired, ?status, ?config, ?portStatus, ?bind, ?unbind, ?hold, ?release,
    fun c r body s => Call.okMirrored_alone, fun c r body s => Call.okMirrored_paired⟩
  case create =>
    rintro h ring fn vector tenant size flags desc cmpl shd g c s hc hacc rfl hinside hfree hvector hpage
    refine exec_accepted rfl hc hacc rfl ?_
    simp only [bodyRingCreate, hinside, ringCreate_checks_pass hfree hvector hpage] <;> rfl
  case destroy =>
    intro h ring rsv c s hc hacc hused hbusy halone
    refine exec_accepted rfl hc hacc rfl ?_
    simp only [bodyRingDestroy, hused, hbusy, or_self, State.mirror, halone, Bool.false_eq_true, if_false]
  case window =>
    intro h fn win rsv base limit c s hc hacc hinside halone
    refine exec_accepted rfl hc hacc rfl ?_
    simp only [bodyRingWindow, hinside, halone, Bool.false_eq_true, if_false, State.endWindow]
  case windowPaired =>
    intro h fn win rsv base limit c s hc hacc hinside hpaired
    refine exec_accepted rfl hc hacc rfl ?_
    simp only [bodyRingWindow, hinside, hpaired, Bool.false_eq_true, if_false, if_true]
  case status =>
    intro h ring rsv c s hc hacc howner
    refine exec_accepted rfl hc hacc rfl ?_
    rcases howner with hadmin | ⟨htenant, hused⟩
    · simp only [bodyRingStatus, hadmin, Option.any_none, Bool.false_eq_true, if_false]
    · simp only [bodyRingStatus, htenant, Option.any_some, hused, ne_eq, not_true, or_self, decide_false, Bool.false_eq_true,
        if_false]
  case config => exact fun h port rsv recLen r c s hc hacc => exec_accepted rfl hc hacc rfl rfl
  case portStatus => exact fun h port rsv c s hc hacc => exec_accepted rfl hc hacc rfl rfl
  case bind =>
    rintro h port rsv volume keyId handle rsv2 i r c s hc hacc hhandle hkey rfl hindex
    refine exec_accepted rfl hc hacc rfl ?_
    rcases hindex with hold | ⟨hnew, hfree⟩
    · simp only [bodyVolumeBind, if_neg hhandle, hkey, ne_eq, not_true, if_false, hold]
    · simp only [bodyVolumeBind, if_neg hhandle, hkey, ne_eq, not_true, if_false, hnew, hfree]
  case unbind =>
    intro h port rsv volume keyId rsv2 i c s hc hacc hindex
    exact exec_accepted rfl hc hacc rfl (by simp only [bodyVolumeBind, if_true, hindex])
  case hold => exact fun h port rsv c s hc hacc => exec_accepted rfl hc hacc rfl rfl
  case release => exact fun h port rsv c s hc hacc => exec_accepted rfl hc hacc rfl rfl

/-- Settles O56: these commands answer without a condition once they are accepted; the generator of RANDOM_GET serves at once. -/
theorem completeLogCommands : Obligations.CompleteLogCommands := by
  unfold Obligations.CompleteLogCommands
  refine ⟨?set, ?get, ?logExport, ?release, ?status, ?random, ?rngStatus, ?auditEnter, ?auditExit⟩
  case set => exact fun h qid rsv table c s hc hacc => exec_begun rfl hc hacc rfl
  case get => exact fun h c s hc hacc => exec_accepted rfl hc hacc rfl rfl
  case logExport => exact fun h first max c s hc hacc => exec_accepted rfl hc hacc rfl rfl
  case release => exact fun h seq rsv c s hc hacc => exec_accepted rfl hc hacc rfl rfl
  case status => exact fun h c s hc hacc => exec_accepted rfl hc hacc rfl rfl
  case random => exact fun h len rsv c s hc hacc hserves => exec_accepted rfl hc hacc rfl (Call.withRandom_serves hserves)
  case rngStatus => exact fun h c s hc hacc => exec_accepted rfl hc hacc rfl rfl
  case auditEnter => exact fun h qid rsv c s hc hacc => exec_begun rfl hc hacc rfl
  case auditExit => exact fun h c s hc hacc => exec_accepted rfl hc hacc rfl rfl

/-- Settles O57: with its port, slot or pages ready each command runs at once; the audit key's slot is free again whether the key
passes or not. -/
theorem completeCardCommands : Obligations.CompleteCardCommands := by
  unfold Obligations.CompleteCardCommands
  refine ⟨?status, ?read, ?write, ?apdu, ?badge, ?post, ?notes, ?auditKey⟩
  case status => exact fun h kind index rsv c s hc hacc => exec_accepted rfl hc hacc rfl rfl
  case read =>
    intro h port rsv first count rsv2 data c s hc hacc hcard hidle hown hinside hvalid
    refine exec_accepted rfl hc hacc rfl ?_
    simp only [bodyCardRead, hcard, hidle, hown, hinside, hvalid, Bool.false_eq_true, if_false]
  case write =>
    intro h port rsv first count rsv2 data back c s hc hacc hdata hcard hidle hwp hown hvoids hinside
    refine exec_accepted rfl hc hacc rfl ?_
    simp only [bodyCardWrite, hcard, hidle, hwp, hdata, hown, Nat.not_le.mpr hvoids, hinside, decide_false, Bool.false_and,
      Bool.not_false, Bool.true_and, Bool.or_self, Bool.false_eq_true, if_false]
  case apdu =>
    rintro h slot rsv len apdu r c s rfl hacc hon hidle hcard hlen
    refine exec_accepted rfl rfl hacc rfl ?_
    simp only [bodyIccApdu, Call.withIcc_ready hon hidle hcard, hlen, Bool.not_true, Bool.false_eq_true, if_false] <;> rfl
  case badge =>
    intro h typeB uid c s hc hacc hon hfield hsession hoff
    refine exec_accepted rfl hc hacc rfl ?_
    simp only [bodyBadgePoll, hon, hfield, hsession, hoff, ne_eq, not_true, decide_false, Bool.not_true, Bool.or_self,
      Bool.false_eq_true, if_false]
  case post =>
    intro h page count rsv data c s hc hacc hfree
    exact exec_accepted rfl hc hacc rfl (by simp only [bodyTagPost, hfree, Bool.false_eq_true, if_false])
  case notes =>
    intro h first count rsv c s hc hacc hfree
    exact exec_accepted rfl hc hacc rfl (by simp only [bodyTagReadNotes, hfree, Bool.false_eq_true, if_false])
  case auditKey =>
    intro h len rsv blob c s hc hacc
    refine exec_accepted rfl hc hacc rfl ?_
    unfold bodyTagSetAuditKey
    cases s.keys.loadBlob (padTo len.toNat blob) none with
    | error e => rfl
    | ok p =>
      dsimp only
      cases (p.2.present p.1).any fun r => decide (r.attr.type = 1 ∧ r.attr.usage = 0xC ∧ r.attr.exportability = 0) with
      | true => simp only [if_true]
      | false => simp only [Bool.false_eq_true, if_false]

end Sys2Proof.Machine

/-! SUPPORT. The statements about key loading and the domain, pair, device and management commands (02 R49, R59-R62, R67; 04 R145-R148;
05 R160, R174; 16 R463, R474-R482; 17 R485-R495; 20 R564). -/

namespace Sys2Proof.Machine

section
variable {s : State}

/-! ### BIND (16 R463) -/

/-- On the lower-numbered member the waiting PAIR_BIND draws the pair key and sends it, its class K block there. -/
theorem execBind_lower {fr : WeltRx} {elapsed : Word} {w : Waiting} {partner : Half} (hbinding : s.fw.binding = some (w, partner))
    (hlower : s.devNo.toNat < partner.toNat) (hfree : s.keys.present 3 = none) (hdwk : (s.keys.present 1).isSome = true)
    (hserves : s.rng.freshServes (s.mbx.route w.hdr.fn.val).core.toNat = true) (hbuffer : s.rng.buffer ≠ [])
    (hqueue : s.rng.freshQueue = []) :
    execBind fr elapsed s = .next (s.instDraw (s.mbx.route w.hdr.fn.val).core.toNat true 32 fun key t =>
      (t.weltBoth 0x27 (kwpWrap (t.slotMat 2) (bindPlain s.devNo partner key))).bound w key elapsed) := by
  have hready : ((s.keys.present 3).isSome || (s.keys.present 1).isNone) = false := by
    rw [hfree, Option.isNone_eq_false_iff.mpr hdwk]
    rfl
  simp only [execBind, hbinding, hready, Bool.false_eq_true, if_false, if_pos hlower, hserves, hbuffer, hqueue, ne_eq, not_false_eq_true,
    decide_true, List.isEmpty_nil, Bool.and_self, if_true]

/-- On the higher-numbered member a clear frame that arrives whole brings the pair key, where it unwraps. -/
theorem execBind_higher {fr : WeltRx} {elapsed : Word} {w : Waiting} {partner : Half} (hbinding : s.fw.binding = some (w, partner))
    (hhigher : partner.toNat < s.devNo.toNat) (hfree : s.keys.present 3 = none) (hdwk : (s.keys.present 1).isSome = true)
    (hhears : s.weltHears fr = true) (hcrc : weltCrcOk 0x27 fr = true) :
    execBind fr elapsed s = .next (match s.bindKey s.devNo partner fr.body with
      | none => s
      | some key => s.bound w key elapsed) := by
  have hready : ((s.keys.present 3).isSome || (s.keys.present 1).isNone) = false := by
    rw [hfree, Option.isNone_eq_false_iff.mpr hdwk]
    rfl
  simp only [execBind, hbinding, hready, Bool.false_eq_true, if_false, if_neg (Nat.not_lt.mpr hhigher.le), State.weltClear, hhears, hcrc,
    Bool.not_true, if_true] <;> rfl

/-! ### FLOOR_RAISE (02 R62) -/

/-- A value up to 64, and up to the version that runs, raises its floor. -/
theorem bodyFloorRaise_taken {which value : Byte} {c : Call} (hmax : value.toNat ≤ 64)
    (hcustody : which = 0 → value.toNat ≤ s.boot.fwVer.toNat) (hcobbler : which = 1 → value.toNat ≤ s.boot.cobVer.toNat) :
    bodyFloorRaise which value c s = c.ok [] (s.withPins fun p =>
      if which = 0 then { p with fwFloor := max p.fwFloor value.toNat }
      else if which = 1 then { p with cobFloor := max p.cobFloor value.toNat }
      else { p with extFloor := max p.extFloor value.toNat }) := by
  unfold bodyFloorRaise
  refine if_neg ?_
  rintro (hover | ⟨hwhich, hover⟩ | ⟨hwhich, hover⟩)
  · exact Nat.not_lt.mpr hmax hover
  · exact Nat.not_lt.mpr (hcustody hwhich) hover
  · exact Nat.not_lt.mpr (hcobbler hwhich) hover

end

/-! ### The statements -/

/-- Settles O58: KEY_LOAD takes the branch of its blob's class, the signatures of a membership and of a floor are verified first, and a
pair is bound and handed over from the states that R463 and R474 name. -/
theorem completeDomainCommands : Obligations.CompleteDomainCommands := by
  unfold Obligations.CompleteDomainCommands
  refine ⟨?loadTenant, ?loadPair, ?loadDomain, ?loadMember, ?join, ?floor, fun c m text ec dsa k s => rfl, ?bindWait, ?pairStatus,
    ?give, ?takeBack, ?bindLower, ?bindHigher⟩
  case loadTenant =>
    intro h slot rsv blobLen blob c s hc hacc hmagic hcls
    refine exec_accepted rfl hc hacc rfl ?_
    simp only [bodyKeyLoad, if_neg hmagic, Call.loadKey, hcls]
    cases s.keys.loadBlob (padTo blobLen.toNat blob) (loadSlot slot) <;> rfl
  case loadPair =>
    intro h slot rsv blobLen blob c s hc hacc hmagic hcls
    refine exec_accepted rfl hc hacc rfl ?_
    simp only [bodyKeyLoad, if_neg hmagic, Call.loadKey, hcls]
    cases s.keys.loadBlob (padTo blobLen.toNat blob) (loadSlot slot) <;> rfl
  case loadDomain =>
    intro h slot rsv blobLen blob c s hc hacc hmagic hcls
    refine exec_accepted rfl hc hacc rfl ?_
    simp only [bodyKeyLoad, if_neg hmagic, Call.loadKey, hcls]
    cases s.keys.loadBlob (padTo blobLen.toNat blob) (loadSlot slot) with
    | error e => simp
    | ok p => simp
  case loadMember =>
    intro h rsv blobLen blob c s hc hacc hmagic hform
    refine exec_accepted rfl hc hacc rfl ?_
    simp only [bodyKeyLoad, if_pos hmagic, Call.loadMember, loadSlot, if_true, hform] <;> rfl
  case join => exact fun h qid mLen dLen rsv m d c s hc hacc => exec_accepted rfl hc hacc rfl rfl
  case floor =>
    intro h device rsv floor sigLen rsv2 sig m c s hc hacc huntrusted hepoch hfloor hmember
    refine exec_accepted rfl hc hacc rfl ?_
    simp only [bodyEpochFloor, huntrusted, hepoch, hfloor, hmember, or_self, Bool.false_eq_true, if_false, Bool.or_eq_true,
      Bool.not_eq_true', decide_eq_false_iff_not, ne_eq]
  case bindWait =>
    intro h qid partner rsv c s hc hacc hself hfree hdk hmember
    refine exec_begun rfl hc hacc ?_
    simp only [bodyPairBind, Call.begun_device, Call.begun_keys, Call.begun_membership, hself, hfree, Option.isSome_none,
      Option.isNone_eq_false_iff.mpr hdk, Option.isNone_eq_false_iff.mpr hmember, Bool.false_eq_true, Bool.or_self, or_self, if_false]
  case pairStatus => exact fun h c s hc hacc => exec_accepted rfl hc hacc rfl rfl
  case give =>
    intro h rsv c s hc hacc hpaired
    exact exec_accepted rfl hc hacc rfl (by simp only [bodyPairHandover, if_true, hpaired])
  case takeBack =>
    intro h rsv c s hc hacc hgiven
    have hback : ¬ ((1 : Byte) = 0) := by decide
    exact exec_accepted rfl hc hacc rfl (by simp only [bodyPairHandover, if_neg hback, hgiven, if_true])
  case bindLower => exact fun fr elapsed w partner s => execBind_lower
  case bindHigher => exact fun fr elapsed w partner s => execBind_higher

/-- Settles O59: the records need no condition; a package, a floor, a phase and a unit map pass the checks of their rules; a staging and
a shutdown wait. -/
theorem completeDeviceCommands : Obligations.CompleteDeviceCommands := by
  unfold Obligations.CompleteDeviceCommands
  refine ⟨?info, ?infoFree, ?attest, ?meas, ?loadCode, ?loadTable, ?moduleId, ?unload, ?stage, ?raise, ?toService, ?toTest,
    ?recovered, ?recovery, ?shelf, ?shelfPair, ?sensor, ?events, ?config⟩
  case info =>
    intro h c s hc hacc hmember
    exact exec_accepted rfl hc hacc rfl (by simp only [bodyDeviceInfo, hmember, if_true])
  case infoFree =>
    intro h c s hc hacc hnone
    exact exec_accepted rfl hc hacc rfl (by simp only [bodyDeviceInfo, hnone, Option.isSome_none, Bool.false_eq_true, if_false])
  case attest => exact fun h alg rsv mask nonce c s hc hacc => exec_accepted rfl hc hacc rfl rfl
  case meas => exact fun h index rsv c s hc hacc => exec_accepted rfl hc hacc rfl rfl
  case loadCode =>
    intro h qid len p c s hc hacc hcode
    refine exec_accepted rfl hc hacc rfl ?_
    simp only [bodyExtLoad, hcode, Bool.false_eq_true, if_false] <;> rfl
  case loadTable =>
    intro h qid len p m c s hc hacc htable hmember
    refine exec_accepted rfl hc hacc rfl ?_
    simp only [bodyExtLoad, htable, if_true, hmember] <;> rfl
  case moduleId => exact fun c k s hroom => by simp only [Call.moduleId, hroom]
  case unload =>
    intro h moduleId rsv m c s hc hacc hfound
    exact exec_accepted rfl hc hacc rfl (by simp only [bodyExtUnload, hfound])
  case stage =>
    intro h addr len rsv c s hc hacc hlen hmax hspace
    refine exec_accepted rfl hc hacc rfl ?_
    simp only [bodyFwStage, hlen, Nat.not_lt.mpr hmax, or_self, if_false, Nat.not_lt.mpr hspace]
  case raise =>
    intro h qid which value rsv c s hc hacc hmax hcustody hcobbler
    rw [← c.begun_boot s] at hcustody hcobbler
    exact exec_begun rfl hc hacc (bodyFloorRaise_taken hmax hcustody hcobbler)
  case toService =>
    intro h rsv c s hc hacc hstart hik hmember
    refine exec_accepted rfl hc hacc rfl ?_
    simp only [bodyPhaseAdvance, hstart, if_true, Option.isNone_eq_false_iff.mpr hik, Option.isNone_eq_false_iff.mpr hmember,
      Bool.or_self, Bool.false_eq_true, if_false]
  case toTest =>
    intro h rsv c s hc hacc hstart htest
    have htarget : ¬ ((3 : Byte) = 2) := by decide
    exact exec_accepted rfl hc hacc rfl (by simp only [bodyPhaseAdvance, hstart, if_neg htarget, htest, and_self, if_true])
  case recovered =>
    intro h rsv c s hc hacc hrecovery hjoined
    exact exec_accepted rfl hc hacc rfl (by simp only [bodyPhaseAdvance, hrecovery, hjoined, and_self, if_true])
  case recovery =>
    intro h target rsv c s hc hacc hrecovery htarget
    exact exec_accepted rfl hc hacc rfl (by simp only [bodyPhaseAdvance, hrecovery, htarget, false_and, if_false])
  case shelf =>
    intro h shadows c s hc hacc halone
    exact exec_accepted rfl hc hacc rfl (by simp [bodyShelfDown, halone])
  case shelfPair =>
    intro h shadows c s hc hacc hpair
    exact exec_accepted rfl hc hacc rfl (by simp [bodyShelfDown, hpair])
  case sensor => exact fun h index rsv c s hc hacc => exec_accepted rfl hc hacc rfl rfl
  case events => exact fun h first max c s hc hacc => exec_accepted rfl hc hacc rfl rfl
  case config =>
    intro h map addr rsv chainLen chain c s hc hacc hunits
    refine exec_accepted rfl hc hacc rfl ?_
    have hsame : ¬ (s.boot.phase = .service ∧ (map >>> 24).toNat % 8 ≠ (s.cob.unitEn >>> 24).toNat % 8) :=
      fun ⟨hservice, hdiffer⟩ => hdiffer (hunits hservice)
    simp only [bodyMgtConfig, if_neg hsame]

end Sys2Proof.Machine

/-! SUPPORT. The statements about the key store: the checks of a handle, the operations of its channels and zeroisation (05 R166, R168,
R177, R178, R181, R182). -/

namespace Sys2Proof.Machine

/-! ### The checks of a handle, in their order (05 R168) -/

section
variable {k : Keys} {h : Word} {o : Option Half} {u : Option Nat} {r : KeyRun}

/-- The check byte is tested before the slot is read. -/
theorem Keys.lookup_checkByte (hcheck : handleCheck h ≠ checkByte (h.toNat % 16777216) k.salt) :
    k.lookup h o u = .error { status := Status.keyHandle, detail := h } := if_pos hcheck

/-- A slot that heads no key answers what a wrong check byte answers. -/
theorem Keys.lookup_absent (hslot : k.present (handleSlot h) = none) :
    k.lookup h o u = .error { status := Status.keyHandle, detail := h } := by
  by_cases hcheck : handleCheck h = checkByte (h.toNat % 16777216) k.salt
  · simp only [Keys.lookup, hcheck, ne_eq, not_true, if_false, hslot]
  · exact Keys.lookup_checkByte hcheck

/-- Once the check byte is right and the slot heads a key, the generation, the owner and the usage are compared with the key's, in this
order. -/
theorem Keys.lookup_present (hcheck : handleCheck h = checkByte (h.toNat % 16777216) k.salt)
    (hslot : k.present (handleSlot h) = some r) :
    k.lookup h o u =
      if r.attr.generation.toNat ≠ handleGen h then .error { status := Status.keyStale, detail := h }
      else if o.any (fun x => x ≠ r.attr.owner) then .error { status := Status.keyOwner, detail := h }
      else if u.any (fun n => !r.attr.usage.getLsbD n) then .error { status := Status.keyUsage, detail := h }
      else .ok r := by
  simp only [Keys.lookup, hcheck, ne_eq, not_true, if_false, hslot]

end

/-! ### The channels (05 R181, R182) -/

section
variable {c : Fin 4} {w : RegWriter} {s : State}

/-- The channel's own core latches an operation in a channel that is not BUSY. -/
theorem State.keyCmd_latches {op : KeyOp} {any : Bool} {slot : Nat} (hw : keyWriter c w = true)
    (hidle : (s.keys.chan c.val).busy = false) :
    s.keyCmd c w op any slot = s.withKeys fun k => k.updChan c.val fun x =>
      { x with op := some op, any := any, slot := BitVec.ofNat 15 slot, busy := true, done := false, field := 0, blobIn := [],
               blobOut := [] } := by
  simp only [State.keyCmd, hw, hidle, Bool.not_false, Bool.and_self, if_true]

/-- Another master's write of KEY_CMD changes nothing. -/
theorem State.keyCmd_ignored {op : KeyOp} {any : Bool} {slot : Nat} (hw : keyWriter c w = false) :
    s.keyCmd c w op any slot = s := by
  simp only [State.keyCmd, hw, Bool.false_and, Bool.false_eq_true, if_false]

/-- An operation that takes no input is ready from the start. -/
theorem KeyChan.ready_of_no_input {x : KeyChan} {op : KeyOp} (hop : x.op = some op) (hload : op ≠ .load)
    (himport : ∀ kw, op ≠ .import kw) : x.ready = true := by
  unfold KeyChan.ready
  split
  next hl => exact absurd (Option.some.inj (hop.symm.trans hl)) hload
  next kw hi => exact absurd (Option.some.inj (hop.symm.trans hi)) (himport kw)
  next => rfl

/-- The end of a channel's operation gives a latched operation that takes no input its effect. -/
theorem exec_keyChannelDone_runs {op : KeyOp} (hop : (s.keys.chan c.val).op = some op) (hload : op ≠ .load)
    (himport : ∀ kw, op ≠ .import kw) : exec (.keyChannelDone c) s = .next (s.keyChanRun c.val op) := by
  have hready := KeyChan.ready_of_no_input hop hload himport
  simp only [exec_keyChannelDone, execKeyChannelDone, hop, hready, if_true]

/-- QUERY reads the key that its handle names, or ends with the handle's error. -/
theorem exec_keyChannelDone_query (hop : (s.keys.chan c.val).op = some .query) :
    exec (.keyChannelDone c) s = .next (s.keyChanQuery c.val) :=
  exec_keyChannelDone_runs hop (by simp) (by simp)

/-- UNLOAD checks its handle and marks the run. -/
theorem exec_keyChannelDone_unload (hop : (s.keys.chan c.val).op = some (.unload none)) :
    exec (.keyChannelDone c) s = .next (s.keyChanUnload c.val) :=
  exec_keyChannelDone_runs hop (by simp) (by simp)

end

/-! ### The statements -/

/-- Settles O15: the first check that fails decides, so each clause picks its branch of the comparison with the key. -/
theorem handleChecks : Obligations.HandleChecks := by
  unfold Obligations.HandleChecks
  refine ⟨fun k h o u => Keys.lookup_checkByte, fun k h o u => Keys.lookup_absent, ?found, ?nonce⟩
  case found =>
    intro k h o u r hcheck hslot
    rw [Keys.lookup_present hcheck hslot]
    refine ⟨fun hgen => if_pos hgen, ?owner, ?usage, ?passes⟩
    case owner =>
      rintro (hgen : _ = handleGen h) ⟨x, rfl, hother⟩
      rw [if_neg (not_not.mpr hgen), if_pos (by simpa using hother)]
    case usage =>
      rintro (hgen : _ = handleGen h) hown ⟨n, rfl, hclear⟩
      rw [if_neg (not_not.mpr hgen), if_neg (by simpa [Option.any_eq_false] using hown), if_pos (by simpa using hclear)]
    case passes =>
      rintro (hgen : _ = handleGen h) hown huse
      rw [if_neg (not_not.mpr hgen), if_neg (by simpa [Option.any_eq_false] using hown),
        if_neg (by simpa [Option.any_eq_false] using huse)]
  case nonce =>
    exact fun h r => ⟨rfl, fun hfull => by simp [nonceCheck, hfull], fun hroom => by simp [nonceCheck, hroom]⟩

/-- Settles O27: the seven commands are one write of KEY_CMD with different operations, latched for the channel's core and ignored for
another master. -/
theorem completeKeyChannels : Obligations.CompleteKeyChannels := by
  unfold Obligations.CompleteKeyChannels
  refine ⟨?load, ?importKey, ?exportKey, ?blob, ?generate, ?unload, ?query, ?ignored⟩
  case load => exact fun c w any slot s hw hidle => congrArg _ (State.keyCmd_latches hw hidle)
  case importKey => exact fun c w any kw slot s hw hidle => congrArg _ (State.keyCmd_latches hw hidle)
  case exportKey => exact fun c w kw s hw hidle => congrArg _ (State.keyCmd_latches hw hidle)
  case blob => exact fun c w s hw hidle => congrArg _ (State.keyCmd_latches hw hidle)
  case generate => exact fun c w any slot s hw hidle => congrArg _ (State.keyCmd_latches hw hidle)
  case unload => exact fun c w s hw hidle => congrArg _ (State.keyCmd_latches hw hidle)
  case query => exact fun c w s hw hidle => congrArg _ (State.keyCmd_latches hw hidle)
  case ignored =>
    intro c w any kw slot s hw
    refine ⟨?_, ?_, ?_, ?_, ?_, ?_, ?_⟩ <;> exact congrArg _ (State.keyCmd_ignored hw)

/-- Settles O28: QUERY and UNLOAD take the branch of their handle's lookup, an unloaded run is freed once no reference is left, and the
level decides over KEY_ZERO as the alarm's code 6 does over the insole key. That any core may read KEY_BLOB_OUT is log entry 27. -/
theorem completeKeyStore : Obligations.CompleteKeyStore := by
  unfold Obligations.CompleteKeyStore
  refine ⟨?write, fun c m level s => rfl, ?query, ?queryErr, ?unload, ?unloaded, fun s => rfl, ?zeroIgnored, ?insoleKey, ?zeroed⟩
  case write =>
    intro c w v s hw hroom
    simp only [exec_keyBlobInWrite, execKeyBlobInWrite, hw, hroom, decide_true, Bool.and_self, if_true]
  case query =>
    intro c r s hop hkey
    rw [exec_keyChannelDone_query hop, State.keyChanQuery, hkey]
  case queryErr =>
    intro c e s hop hbad
    rw [exec_keyChannelDone_query hop, State.keyChanQuery, hbad]
  case unload =>
    intro c r s hop hkey
    rw [exec_keyChannelDone_unload hop, State.keyChanUnload, hkey]
  case unloaded =>
    intro c n gen r s hrun hgen
    rw [State.keyChanUnloaded, hrun]
    exact if_pos hgen
  case zeroIgnored =>
    intro level s hlevel
    rw [exec_keyZeroAll, execKeyZeroAll, if_neg hlevel]
  case insoleKey =>
    intro s hcode
    rw [exec_zeroisationDone, execZeroisationDone, hcode, if_pos rfl]
  case zeroed =>
    intro s hcode
    rw [exec_zeroisationDone, execZeroisationDone, hcode, if_neg Bool.false_ne_true]

end Sys2Proof.Machine

/-! SUPPORT. The statements about the job rings: doorbells and fetching, the stages of the pipeline and ring control (06 R190-R217; 07
R222-R248; 09 R308). -/

namespace Sys2Proof.Machine

section
variable {f : Fin 64} {ring : Fin 16384} {v : Long} {n : Word} {j : Job} {x : Context} {s : State}

/-! ### Doorbell and shadow values (06 R190, R192) -/

/-- R190 in natural numbers: the counts are compared by their distances from C. -/
theorem Ring.accepts_iff (g : Ring) (v : Long) :
    g.accepts v = true ↔ v.toNat / 2 ^ 32 = 0 ∧ (v.toNat + 2 ^ 32 - g.c.toNat) % 2 ^ 32 ≤ 2 ^ g.size.toNat ∧
      (g.f.toNat + 2 ^ 32 - g.c.toNat) % 2 ^ 32 ≤ (v.toNat + 2 ^ 32 - g.c.toNat) % 2 ^ 32 := by
  have hdist : ∀ a : Word, (a - g.c).toNat = (a.toNat + 2 ^ 32 - g.c.toNat) % 2 ^ 32 := by
    intro a
    have := g.c.isLt
    rw [BitVec.toNat_sub]
    congr 1
    omega
  rw [Ring.accepts, decide_eq_true_iff, hdist, hdist, BitVec.toNat_setWidth, Nat.div_eq_zero_iff]
  have hword : v.toNat < 2 ^ 32 → v.toNat % 2 ^ 32 = v.toNat := Nat.mod_eq_of_lt
  constructor
  · rintro ⟨hlow, hrest⟩
    rw [hword hlow] at hrest
    exact ⟨.inr hlow, hrest⟩
  · rintro ⟨hlow, hrest⟩
    have hlow : v.toNat < 2 ^ 32 := hlow.resolve_left (by decide)
    rw [hword hlow]
    exact ⟨hlow, hrest⟩

/-- A refused shadow value leaves the ring alone. -/
theorem Ring.shadow_refused {g : Ring} (hbad : g.accepts v = false) : g.shadow v = g := by
  rw [Ring.shadow, hbad, Bool.false_and, if_neg Bool.false_ne_true]

/-! ### Doorbells (06 R190, R212, R213) -/

/-- A doorbell that comes to a ring of its function which is neither NONE nor CARRIED is judged by the ring's state and by R190. -/
theorem exec_doorbellWrite_judged (hflr : (Bank.get {} s.pcie.fns f.val).flr = false) (hshelf : s.boot.shelfDown = false)
    (hpage : s.rings.pageFn (ring.val / 512) = some (BitVec.ofNat 6 f.val)) (hfn : (s.rings.get ring.val).fn.toNat = f.val)
    (hused : (s.rings.get ring.val).state ≠ 0) (hown : (s.rings.get ring.val).state ≠ 4) :
    exec (.doorbellWrite f ring v) s = .next (
      if (s.rings.get ring.val).state = 3 ∨ (s.rings.get ring.val).accepts v = false then
        s.withRings fun rs => rs.updRing ring.val fun x => { x with dbBad := satAdd x.dbBad 1 }
      else if v.setWidth 32 = (s.rings.get ring.val).p ∧ (s.rings.get ring.val).state = 1 ∧ (s.rings.get ring.val).fetchErr = false then s
      else (s.withRings fun rs => rs.updRing ring.val fun x =>
        { x with p := v.setWidth 32, state := 1, fetchErr := false }).mirrorCounts ring.val) := by
  simp only [exec_doorbellWrite, execDoorbellWrite, hflr, hshelf, hpage, hfn, hused, hown, Bool.or_self, Bool.false_eq_true, ne_eq,
    not_true_eq_false, or_self, if_false]

/-- A doorbell for a ring of another function, or one in NONE or CARRIED, is dropped and counted on the function's status page. -/
theorem exec_doorbellWrite_dropped (hflr : (Bank.get {} s.pcie.fns f.val).flr = false) (hshelf : s.boot.shelfDown = false)
    (hbad : (s.rings.get ring.val).fn.toNat ≠ f.val ∨ (s.rings.get ring.val).state = 0 ∨ (s.rings.get ring.val).state = 4) :
    exec (.doorbellWrite f ring v) s = .next (s.dbDrop f.val) := by
  simp only [exec_doorbellWrite, execDoorbellWrite, hflr, hshelf, Bool.or_self, Bool.false_eq_true, if_false, if_pos (Or.inr hbad)]

/-! ### Fetching (06 R193, R202) -/

/-- Without descriptors to read once more, the next count to read is F. -/
theorem Ring.nextFetch_of_reread {g : Ring} (hre : g.reread = 0) : g.nextFetch = g.f := by
  rw [Ring.nextFetch, hre]
  exact BitVec.sub_zero _

/-- Without descriptors to read once more, a ring that fetches goes on from F up to P. -/
theorem Ring.wanted_of_active {g : Ring} (hfetches : g.state = 1 ∨ g.state = 4) (hre : g.reread = 0) :
    g.wanted = (g.p - g.f).toNat := by
  rw [Ring.wanted, if_pos hfetches, Ring.nextFetch_of_reread hre]

/-- An update of a ring is fixed by its value at that ring. -/
theorem Rings.updRing_congr {rs : Rings} {r : Nat} {g h : Ring → Ring} (heq : g (rs.get r) = h (rs.get r)) :
    rs.updRing r g = rs.updRing r h :=
  congrArg (fun x => { rs with ring := Bank.set {} r x rs.ring }) heq

/-- A change of the rings is fixed by its value at the rings. -/
theorem State.withRings_congr {g h : Rings → Rings} (heq : g s.rings = h s.rings) : s.withRings g = s.withRings h :=
  congrArg (fun rs => { s with rings := rs }) heq

/-- A descriptor that passes the checks of FETCH becomes a job under count F, and F advances. -/
theorem State.fetchOne_job {r : Nat} {d : Desc} (hgoes : s.rings.abortReads.contains r = false) (hgood : fetchCheck d = none)
    (hre : (s.rings.get r).reread = 0) :
    s.fetchOne r d = s.withRings fun rs =>
      (rs.setJob (jobKey r (s.rings.get r).f) (some { desc := d, pos := .admission, carried := decide ((s.rings.get r).state = 4) })).updRing
        r fun x => { x with f := x.f + 1 } := by
  simp only [State.fetchOne, hgoes, hgood, Ring.nextFetch_of_reread hre, Bool.false_eq_true, if_false]
  refine State.withRings_congr (Rings.updRing_congr ?_)
  exact if_pos hre

/-! ### KEY (06 R204) -/

/-- KEY looks up the key of a job that is neither a DIGEST nor a sector read by the handle in its descriptor; the first check that fails
ends the job. -/
theorem exec_keyStage_refused {e : KeyErr} (hjob : s.rings.job (jobKey ring.val n) = some j) (hpos : j.pos = .key)
    (hdigest : j.desc.opcode ≠ 0x10) (hread : j.desc.opcode ≠ 0x21)
    (hkey : s.jobKeyCheck j j.desc.handle (s.rings.get ring.val).tenant = .error e) :
    exec (.keyStage ring n) s = .next (s.failJob (jobKey ring.val n) e.status e.detail 3) := by
  simp only [exec_keyStage, execKeyStage, hjob, hpos, hdigest, hread, hkey, ne_eq, not_true_eq_false, false_and, if_false]

/-- A job with one key and no nonce passes KEY with a reference to the key's slot. -/
theorem exec_keyStage_passes {slot : Nat} {r : KeyRun} (hjob : s.rings.job (jobKey ring.val n) = some j) (hpos : j.pos = .key)
    (hdigest : j.desc.opcode ≠ 0x10) (hread : j.desc.opcode ≠ 0x21) (hxts : opXts j.desc.opcode = false)
    (hnonce : opNonce j.desc.opcode = false)
    (hkey : s.jobKeyCheck j j.desc.handle (s.rings.get ring.val).tenant = .ok (slot, r)) :
    exec (.keyStage ring n) s = .next (s.keyPass (jobKey ring.val n) [slot] (decide (r.attr.check = 1)) 0) := by
  simp only [exec_keyStage, execKeyStage, hjob, hpos, hdigest, hread, hkey, hxts, hnonce, ne_eq, not_true_eq_false, false_and,
    Bool.false_eq_true, if_false]

/-! ### CUT (06 R205; 11 R344) -/

/-- No digest job bears a nonce. -/
theorem opNonce_of_opDigest {o : Byte} (hdigest : opDigest o = true) : opNonce o = false := by
  rcases of_decide_eq_true hdigest with rfl | rfl | rfl <;> rfl

/-- While a digest unit is enabled and fewer than 64 jobs are in the digest units, a digest job goes on to them. -/
theorem exec_cutStage_digest (hjob : s.rings.job (jobKey ring.val n) = some j) (hpos : j.pos = .cut)
    (hdigest : opDigest j.desc.opcode = true) (hon : s.digOn ≠ 0)
    (hroom : (s.rings.list.filter fun p => decide (p.2.pos = .digest)).length < 64) :
    exec (.cutStage ring n) s = .next (((s.withRings fun rs => rs.updJob (jobKey ring.val n) fun x =>
      { x with pos := .digest }).withDig fun g => { g with ready := g.ready ++ [.ring ring.val n] }).digDeal) := by
  simp only [exec_cutStage, execCutStage, hjob, hpos, hdigest, opNonce_of_opDigest hdigest, hon, Nat.not_le.mpr hroom, ne_eq,
    not_true_eq_false, decide_false, Bool.false_and, Bool.or_self, Bool.false_eq_true, if_true, if_false]

/-- Without a cipher core that is enabled, a cipher job without a nonce fails at CUT. -/
theorem exec_cutStage_noCore (hjob : s.rings.job (jobKey ring.val n) = some j) (hpos : j.pos = .cut)
    (hcipher : opDigest j.desc.opcode = false) (hnonce : opNonce j.desc.opcode = false) (hoff : s.cipherOn = 0) :
    exec (.cutStage ring n) s = .next (s.failJob (jobKey ring.val n) Status.notReady 4 4) := by
  simp only [exec_cutStage, execCutStage, hjob, hpos, hcipher, hnonce, hoff, ne_eq, not_true_eq_false, decide_true, Bool.false_and,
    Bool.true_or, Bool.false_eq_true, if_true, if_false]
  rfl

/-! ### CIPHER (07 R232, R242-R248) -/

/-- The host's bytes are the input of every cut but a sector read's. -/
theorem Job.cutInput_host {read : List Byte} (hhost : j.desc.opcode ≠ 0x21) :
    j.cutInput read = some (hostInput j.desc j.cutsDone j.cuts read) := by
  rw [Job.cutInput, if_neg hhost]

/-! ### TAG (07 R222, R244) -/

/-- A finished GCM tag goes on where the two multipliers agree on it; else the last cut runs again. -/
theorem exec_tagStage_gcm {agree : Bool} {read : List Byte} (hjob : s.rings.job (jobKey ring.val n) = some j) (hpos : j.pos = .tag)
    (hctx : j.ctx = some x) (hgcm : opGcm j.desc.opcode = true) :
    exec (.tagStage ring n agree read) s = .next (if agree then s.gcmTag (jobKey ring.val n) j x
      else (((s.coreMismatch j.lastCore true).withRings fun rs => rs.updJob (jobKey ring.val n)
        (Job.undoCut (s.newContext (jobKey ring.val n) j))).makeReady (jobKey ring.val n) true).dealAll) := by
  simp only [exec_tagStage, execTagStage, hjob, hpos, hctx, hgcm, if_true]

/-- TAG ends every other cipher job by its opcode. -/
theorem exec_tagStage_plain {agree : Bool} {read : List Byte} (hjob : s.rings.job (jobKey ring.val n) = some j) (hpos : j.pos = .tag)
    (hctx : j.ctx = some x) (hplain : opGcm j.desc.opcode = false) :
    exec (.tagStage ring n agree read) s = .next (s.plainTag (jobKey ring.val n) j x) := by
  simp only [exec_tagStage, execTagStage, hjob, hpos, hctx, hplain, Bool.false_eq_true, if_false]

end

/-! ### The statements -/

/-- Settles O16: the counts are compared by their distances from C, and a doorbell that comes to an ACTIVE ring is judged by R190 and then
by P. -/
theorem doorbellRule : Obligations.DoorbellRule := by
  unfold Obligations.DoorbellRule
  refine ⟨Ring.accepts_iff, ?doorbell, fun g v => Ring.shadow_refused⟩
  case doorbell =>
    intro f ring v s hflr hshelf hpage hfn hactive hfine
    rw [exec_doorbellWrite_judged hflr hshelf hpage hfn (by rw [hactive]; decide) (by rw [hactive]; decide)]
    have hopen : (s.rings.get ring.val).state ≠ 3 := by rw [hactive]; decide
    simp only [or_iff_right hopen, and_iff_left (And.intro hactive hfine)]

/-- Settles O37: a doorbell is judged or dropped, a descriptor that arrives becomes a job or a failed token, each stage takes the branch
of the job's opcode and of its check, and ring control acts on the selected ring. A carried job is tested against the mirrored windows
(log entry 97); a streaming mode writes at each write-back, and RELEASE goes on after it at `dst + outLen` (log entry 67). -/
theorem completePipeline : Obligations.CompletePipeline := by
  unfold Obligations.CompletePipeline
  refine ⟨?doorbell, ?doorbellSame, ?doorbellBad, ?doorbellDrop, ?shadow, ?fetch, fun g hf hre => ⟨Ring.wanted_of_active hf hre, Ring.nextFetch_of_reread hre⟩,
    ?arrival, ?becomesJob,
    ?becomesToken, ?earlyEnd, ?admitted, ?refused, ?digestKey, ?keyRefused, ?keyPasses, ?cutDigest, ?cutNoCore, ?mismatch, ?pass,
    ?nextCut, ?readEnds, ?tagPlain, ?tagCmac, ?tagGcm, ?tagDisagrees, ?release, fun port ring n s => rfl, ?msix, ?create, ?destroy⟩
  case doorbell =>
    intro f ring v s hflr hshelf hpage hfn hstate hgood
    obtain ⟨hused, hown, hopen⟩ : (s.rings.get ring.val).state ≠ 0 ∧ (s.rings.get ring.val).state ≠ 4 ∧
        (s.rings.get ring.val).state ≠ 3 := by
      rcases hstate with ⟨hactive, _⟩ | hstopped
      · rw [hactive]; decide
      · rw [hstopped]; decide
    have hnew : ¬ (v.setWidth 32 = (s.rings.get ring.val).p ∧ (s.rings.get ring.val).state = 1 ∧
        (s.rings.get ring.val).fetchErr = false) := by
      rintro ⟨hsame, hactive, _⟩
      rcases hstate with ⟨_, hother⟩ | hstopped
      · exact hother hsame
      · rw [hstopped] at hactive
        exact absurd hactive (by decide)
    rw [exec_doorbellWrite_judged hflr hshelf hpage hfn hused hown, if_neg (not_or.mpr ⟨hopen, ne_false_of_eq_true hgood⟩), if_neg hnew]
  case doorbellSame =>
    intro f ring v s hflr hshelf hpage hfn hactive hgood hsame hfine
    rw [exec_doorbellWrite_judged hflr hshelf hpage hfn (by rw [hactive]; decide) (by rw [hactive]; decide),
      if_neg (not_or.mpr ⟨by rw [hactive]; decide, ne_false_of_eq_true hgood⟩), if_pos ⟨hsame, hactive, hfine⟩]
  case doorbellBad =>
    intro f ring v s hflr hshelf hpage hfn hbad
    obtain ⟨hused, hown⟩ : (s.rings.get ring.val).state ≠ 0 ∧ (s.rings.get ring.val).state ≠ 4 := by
      rcases hbad with ⟨hactive | hstopped, _⟩ | hdraining
      · rw [hactive]; decide
      · rw [hstopped]; decide
      · rw [hdraining]; decide
    have hrefused : (s.rings.get ring.val).state = 3 ∨ (s.rings.get ring.val).accepts v = false :=
      hbad.elim (fun h => .inr h.2) .inl
    rw [exec_doorbellWrite_judged hflr hshelf hpage hfn hused hown, if_pos hrefused]
  case doorbellDrop => exact fun f ring v s hflr hshelf hbad => exec_doorbellWrite_dropped hflr hshelf hbad
  case shadow =>
    intro ring v s hcarried hshelf
    rw [exec_tailShadowRead, execTailShadowRead, if_pos ⟨hcarried, hshelf⟩]
  case fetch =>
    intro ring s hwant hidle hroom hgoes
    exact congrArg _ (if_pos ⟨hwant, hidle, hroom, hgoes⟩)
  case arrival =>
    intro ring data s hissued
    exact congrArg _ (if_pos hissued)
  case becomesJob =>
    intro r d s hgoes hgood hre
    rw [State.fetchOne_job hgoes hgood hre]
    exact ⟨rfl, rfl, rfl, rfl⟩
  case becomesToken =>
    intro r d st dt s hgoes hbad
    simp only [State.fetchOne, hgoes, hbad, Bool.false_eq_true, if_false]
  case earlyEnd =>
    intro ring data e s hissued hshort
    exact congrArg _ (if_pos ⟨hissued, hshort⟩)
  case admitted =>
    intro ring n j s hjob hpos hhost hgood
    simp only [exec_admission, execAdmission, hjob, hpos, hgood, hhost, ne_eq, not_true_eq_false, if_false]
  case refused =>
    intro ring n j st dt s hjob hpos hbad
    simp only [exec_admission, execAdmission, hjob, hpos, hbad, ne_eq, not_true_eq_false, if_false]
  case digestKey =>
    intro ring n j s hjob hpos hop
    simp only [exec_keyStage, execKeyStage, hjob, hpos, hop, ne_eq, not_true_eq_false, if_false, if_true]
    rfl
  case keyRefused =>
    intro ring n j e s hjob hpos hop hkey
    exact exec_keyStage_refused hjob hpos (by rw [hop]; decide) (by rw [hop]; decide) hkey
  case keyPasses =>
    intro ring n j slot r s hjob hpos hop hkey
    exact exec_keyStage_passes hjob hpos (by rw [hop]; decide) (by rw [hop]; decide) (by rw [hop]; rfl) (by rw [hop]; rfl) hkey
  case cutDigest => exact fun ring n j s => exec_cutStage_digest
  case cutNoCore =>
    intro ring n j s hjob hpos hop hoff
    exact exec_cutStage_noCore hjob hpos (by rw [hop]; rfl) (by rw [hop]; rfl) hoff
  case mismatch =>
    intro core k j ghash s hwork hjob
    simp only [exec_cutWriteBack, execCutWriteBack, hwork, hjob]
  case pass =>
    intro core k j x read s hwork hjob hctx hhost
    have hinput := Job.cutInput_host (read := read) hhost
    cases hcut : (Bank.get {} s.cipher.cores core.val).cut j.desc j.cutsDone j.cuts x j.out
        (hostInput j.desc j.cutsDone j.cuts read) with
    | none => simp only [exec_cutWriteBack, execCutWriteBack, hwork, hjob, hctx, hinput, hcut]
    | some val => simp only [exec_cutWriteBack, execCutWriteBack, hwork, hjob, hctx, hinput, hcut]
  case nextCut =>
    intro c k j x v s hmore
    simp only [State.writeBack, Nat.not_le.mpr hmore, if_true, if_false]
  case readEnds =>
    intro ring n received e j s hjob hpos hhost
    simp only [exec_dmaReadEarlyEnd, execDmaReadEarlyEnd, hjob, hpos, hhost, decide_false, Bool.not_false, Bool.and_self, if_true]
  case tagPlain =>
    intro ring n g read j x s hjob hpos hctx hop
    rw [exec_tagStage_plain hjob hpos hctx (by rw [hop]; rfl), State.plainTag, hop]
    rfl
  case tagCmac =>
    intro ring n g read j x s hjob hpos hctx hop
    rw [exec_tagStage_plain hjob hpos hctx (by rw [hop]; rfl), State.plainTag, hop]
    simp [State.tagCheck]
  case tagGcm =>
    intro ring n read j x s hjob hpos hctx hop
    rw [exec_tagStage_gcm hjob hpos hctx (by rw [hop]; rfl), if_pos rfl, State.gcmTag, hop]
    simp [State.tagCheck]
  case tagDisagrees =>
    intro ring n read j x s hjob hpos hctx hgcm
    rw [exec_tagStage_gcm hjob hpos hctx hgcm, if_neg Bool.false_ne_true]
  case release =>
    intro ring n j s hjob hpos hhost
    simp only [exec_releaseStage, execReleaseStage, hjob, hpos, hhost, ne_eq, not_true_eq_false, if_false]
  case msix =>
    intro f v s hdue
    exact congrArg _ (if_pos hdue)
  case create =>
    intro level s hlevel hnone
    exact congrArg _ (if_pos ⟨hlevel, hnone⟩)
  case destroy =>
    intro level s hlevel
    exact congrArg _ (if_pos hlevel)

end Sys2Proof.Machine

/-! SUPPORT. The statements about the Sole ports and the Last: training, the frames of a drive, sector frames, windows and timers (08
R261-R290; 09 R292-R312). -/

namespace Sys2Proof.Machine

section
variable {port : Fin 16} {fh : FrameHdr} {s : State}

/-! ### Little-endian bytes -/

@[simp] theorem leBytes_length (n x : Nat) : (leBytes n x).length = n := by
  rw [leBytes, List.length_map, List.length_range]

/-- The lowest byte comes first. -/
theorem leBytes_succ (n x : Nat) : leBytes (n + 1) x = BitVec.ofNat 8 x :: leBytes n (x / 256) := by
  simp [leBytes, List.range_succ_eq_map, Nat.pow_succ', Nat.div_div_eq_div_mul]

/-- The bytes of a number give it back, but for what lies above them. -/
theorem ofLe_leBytes (n x : Nat) : ofLe (leBytes n x) = x % 256 ^ n := by
  induction n generalizing x with
  | zero => rw [Nat.pow_zero, Nat.mod_one]; rfl
  | succ n ih => rw [leBytes_succ, ofLe, ih, BitVec.toNat_ofNat, Nat.pow_succ' (m := 256), Nat.mod_mul (a := 256)]

/-! ### Frames that pass the checks of R264, as far as what their type does -/

/-- CAPS at its step: version 1 leads on to GEOMETRY, any other fails training (R274). -/
theorem exec_caps_checked {version flags mask : Byte} {rsv : BitVec 32} {identity : BitVec 128}
    (hlive : (s.sole.get port.val).live = true) (hflags : fh.flags.toNat / 4 = 0)
    (hlen : fh.bodyLen.toNat = ([1] ++ leBytes 3 rsv.toNat ++
      [version, flags, mask, BitVec.ofNat 8 (rsv.toNat / 2 ^ 24)] ++ leBytes 16 identity.toNat).length)
    (hcrc : FrameHdrOk 0x06 fh ([1] ++ leBytes 3 rsv.toNat ++
      [version, flags, mask, BitVec.ofNat 8 (rsv.toNat / 2 ^ 24)] ++ leBytes 16 identity.toNat) = true)
    (hstep : ((s.rxFrame port.val fh).sole.get port.val).trainingAt .caps = true) :
    exec (.caps port fh version flags mask rsv identity) s = .next (
      if version ≠ 1 then (s.rxFrame port.val fh).failTraining port.val
      else ((s.rxFrame port.val fh).updPort port.val fun p =>
        { p with mask := mask.setWidth 3, step := .geometry, attempt := 0 }).sendRequest port.val) := by
  rw [exec_caps, execCaps, State.frameIn_ok _ _ _ _ _ _ hlive hflags hlen (by simp) hcrc]
  simp only [hstep, Bool.not_true, Bool.false_eq_true, if_false]

/-- GEOMETRY at its step: the drive's geometry is kept, and it fails training or leads on to LOOP (R274, R303). -/
theorem exec_geometry_checked {tpp : Long} {pitch spp offs : Word} {code : Byte} {rsv : BitVec 48}
    (hlive : (s.sole.get port.val).live = true) (hflags : fh.flags.toNat / 4 = 0)
    (hlen : fh.bodyLen.toNat = ([2] ++ leBytes 3 rsv.toNat ++ leBytes 8 tpp.toNat ++ leBytes 4 pitch.toNat ++
      leBytes 4 spp.toNat ++ leBytes 4 offs.toNat ++ [code] ++ leBytes 3 (rsv.toNat / 2 ^ 24)).length)
    (hcrc : FrameHdrOk 0x06 fh ([2] ++ leBytes 3 rsv.toNat ++ leBytes 8 tpp.toNat ++ leBytes 4 pitch.toNat ++
      leBytes 4 spp.toNat ++ leBytes 4 offs.toNat ++ [code] ++ leBytes 3 (rsv.toNat / 2 ^ 24)) = true)
    (hstep : ((s.rxFrame port.val fh).sole.get port.val).trainingAt .geometry = true) {t : State}
    (ht : t = (s.rxFrame port.val fh).updPort port.val fun p =>
      { p with tpp := tpp &&& 0xFFFFFFFFFFFF, pitch := pitch, spp := spp, offs := offs, code := code.setWidth 2 }) :
    exec (.geometry port fh tpp pitch spp offs code rsv) s = .next (
      if 2 < code.toNat ∨ geometryBad (t.sole.get port.val) = true then t.failTraining port.val
      else (t.updPort port.val fun p => { p with step := .loop 0, attempt := 0 }).sendRequest port.val) := by
  rw [exec_geometry, execGeometry, State.frameIn_ok _ _ _ _ _ _ hlive hflags hlen (by simp) hcrc, ht]
  simp only [hstep, Bool.not_true, Bool.false_eq_true, if_false, Bool.or_eq_true, decide_eq_true_eq]

/-- LOOP_ECHO while the port trains: a turnaround that is too long, or a token that was never sent, fails training (R274); the echo of the
token in use ends an exchange, and the sixteenth ends training (R273, R275). -/
theorem exec_loopEcho_checked {token : Word} {ns : Half} {rsv : BitVec 40} {count : Nat}
    (hlive : (s.sole.get port.val).live = true) (hflags : fh.flags.toNat / 4 = 0)
    (hlen : fh.bodyLen.toNat =
      ([4] ++ leBytes 3 rsv.toNat ++ leBytes 4 token.toNat ++ leBytes 2 ns.toNat ++ leBytes 2 (rsv.toNat / 2 ^ 24)).length)
    (hcrc : FrameHdrOk 0x06 fh
      ([4] ++ leBytes 3 rsv.toNat ++ leBytes 4 token.toNat ++ leBytes 2 ns.toNat ++ leBytes 2 (rsv.toNat / 2 ^ 24)) = true)
    {t : State} (ht : t = s.rxFrame port.val fh) (htrains : (t.sole.get port.val).trained = .training) :
    (500 < ns.toNat ∨ (t.sole.get port.val).tokens.contains token = false →
      exec (.loopEcho port fh token ns rsv count) s = .next (t.failTraining port.val)) ∧
    ∀ k, ¬ (500 < ns.toNat ∨ (t.sole.get port.val).tokens.contains token = false) → (t.sole.get port.val).step = .loop k →
      token = (t.sole.get port.val).token →
      exec (.loopEcho port fh token ns rsv count) s = .next (
        if 16 ≤ k + 1 then (t.updPort port.val fun p =>
          { p.roundTrip (count - nsToSlclk ns.toNat) with step := .loop (k + 1), attempt := 0 }).trainDone port.val
        else (t.updPort port.val fun p =>
          { p.roundTrip (count - nsToSlclk ns.toNat) with step := .loop (k + 1), attempt := 0 }).sendRequest port.val) := by
  rw [exec_loopEcho, execLoopEcho, State.frameIn_ok _ _ _ _ _ _ hlive hflags hlen (by simp) hcrc, ← ht]
  simp only [htrains, ne_eq, not_true_eq_false, if_false]
  refine ⟨fun hbad => congrArg _ (if_pos hbad), fun k hgood hstep htoken => ?_⟩
  rw [if_neg hgood, hstep]
  exact congrArg _ (if_neg (not_not.mpr htoken))

/-! ### The head of a SECTOR frame (08 R264 checks 1-6, R276) -/

theorem sectorLen_le (code : Nat) : sectorLen code ≤ 65584 := by
  unfold sectorLen payloadLen
  split <;> decide

/-- A sector header with the format and a payload code of R276, on a frame of the code's length, passes the checks of the body length and
of the first body bytes. -/
theorem sectorHead_ok {codeWord : Half} (keyId : Long) (iv : BitVec 96) (addr : Long) (hcode : codeWord.toNat < 3) :
    bodyLenOk 0x02 0 (sectorLen codeWord.toNat) = true ∧
      bodyHeadBad 0x02 (sectorLen codeWord.toNat) (sectorHeadBytes 0x0153 codeWord keyId iv addr) = false := by
  have hformat : ofLe (sliceBytes (sectorHeadBytes 0x0153 codeWord keyId iv addr) 0 2) = 0x0153 := rfl
  have hword : ofLe (sliceBytes (sectorHeadBytes 0x0153 codeWord keyId iv addr) 2 2) = codeWord.toNat :=
    (ofLe_leBytes 2 codeWord.toNat).trans (Nat.mod_eq_of_lt codeWord.isLt)
  constructor
  · generalize codeWord.toNat = code at hcode
    interval_cases code <;> rfl
  · refine decide_eq_false ?_
    rw [hformat, hword]
    exact not_or.mpr ⟨not_not.mpr rfl, not_or.mpr ⟨Nat.not_le.mpr hcode, not_not.mpr rfl⟩⟩

/-- The SECTOR frame `x` begins on port `n`: it is counted for the credits, and its sequence is taken (R263, R271). -/
def State.beginFrame (n : Nat) (x : RxFrame) (s : State) : State :=
  (s.updPort n fun p => { p with received := p.received + 1, frame := some x }).rxFrame n x.fh

/-- A SECTOR frame whose header passes checks 1 to 5 of R264: without credit it is OVERCREDIT, and within the credits, on an ACTIVE port,
it goes to the read that waits for it (R264 check 6, R271, R281). -/
theorem exec_sector_checked {codeWord : Half} {keyId : Long} {iv : BitVec 96} {addr : Long}
    (hlive : (s.sole.get port.val).live = true) (hflags : fh.flags.toNat / 4 = 0) (hcode : codeWord.toNat < 3)
    (hlen : fh.bodyLen.toNat = sectorLen codeWord.toNat) :
    ((s.sole.get port.val).credit = (s.sole.get port.val).received →
      exec (.sector port fh 0x0153 codeWord keyId iv addr) s = .next ((s.beginFrame port.val
        { fh := fh, hdr := sectorHeadBytes 0x0153 codeWord keyId iv addr, code := codeWord.setWidth 2, job := none, discard := true,
          raises := false }).portErr port.val erOVERCREDIT)) ∧
    ∀ k, ((s.sole.get port.val).credit - (s.sole.get port.val).received).toNat < 2 ^ 31 →
      (s.sole.get port.val).credit ≠ (s.sole.get port.val).received → portActive s (s.sole.get port.val) = true →
      s.rings.waitingRead port.val addr = some k →
      exec (.sector port fh 0x0153 codeWord keyId iv addr) s = .next ((s.beginFrame port.val
        { fh := fh, hdr := sectorHeadBytes 0x0153 codeWord keyId iv addr, code := codeWord.setWidth 2, job := some k, discard := false,
          raises := true }).withRings fun rs => rs.updJob k fun j =>
            { j with pos := .key, frameHandle := (s.sole.get port.val).bound (BitVec.ofNat 24 (addr.toNat / 2 ^ 40)) keyId }) := by
  obtain ⟨hlenOk, hheadOk⟩ := sectorHead_ok keyId iv addr hcode
  have hsize : ¬ 65584 < sectorLen codeWord.toNat := Nat.not_lt.mpr (sectorLen_le _)
  simp only [exec_sector, execSector, hlive, hlen, hsize, hflags, hlenOk, hheadOk, Bool.not_true, Bool.false_eq_true, ne_eq,
    not_true_eq_false, if_false]
  constructor
  · intro hspent
    simp only [hspent, decide_true, Bool.or_true, if_true]
    rfl
  · intro k hroom hcredit hactive hread
    simp only [hroom, hcredit, hactive, hread, decide_true, decide_false, Bool.not_true, Bool.or_self, Bool.false_eq_true, if_false]
    rfl

/-! ### The end of a SECTOR frame (08 R264 check 7, R271) -/

/-- The frame `x` in progress on port `n` ends, and its credit is returned but for an OVERCREDIT one (R271). -/
def State.endFrame (n : Nat) (x : RxFrame) (s : State) : State :=
  if x.raises then (s.updPort n fun p => { p with frame := none }).raiseCredit n else s.updPort n fun p => { p with frame := none }

/-- The end of a frame on its port changes nothing else. -/
theorem State.endFrame_others (n : Nat) (x : RxFrame) (s : State) : (s.endFrame n x).rings = s.rings ∧ (s.endFrame n x).keys = s.keys ∧
    (s.endFrame n x).out = s.out ∧ (s.endFrame n x).alarm = s.alarm := by
  unfold State.endFrame
  split
  · exact ⟨rfl, rfl, rfl, rfl⟩
  · exact ⟨rfl, rfl, rfl, rfl⟩

/-- The read that a whole frame with a right CRC is attributed to takes the sector. -/
theorem exec_sectorFrameEnd_whole {data : List Byte} {x : RxFrame} {k : Nat} {j : Job} (hframe : (s.sole.get port.val).frame = some x)
    (hkept : x.discard = false) (hread : x.job = some k) (hjob : s.rings.job k = some j) (hcode : j.desc.code.toNat = x.code.toNat)
    (hdata : data.length = sectorLen x.code.toNat - 28)
    (hcrc : FrameHdrOk 0x02 { x.fh with crc := wordOf (data.drop (sectorLen x.code.toNat - 32)) 0 }
      (x.hdr ++ data.take (sectorLen x.code.toNat - 32)) = true) :
    exec (.sectorFrameEnd port data 0) s = .next (((s.endFrame port.val x).updPort port.val (Port.countEnd false 0 true)).withRings
      fun rs => rs.updJob k fun j =>
        { j with frameEnd := some true, input := x.hdr ++ data.take (sectorLen x.code.toNat - 32) }) := by
  have hwhole : ¬ data.length < sectorLen x.code.toNat - 32 + 4 := by
    have hlong : 48 ≤ sectorLen x.code.toNat := Nat.le_add_left ..
    omega
  have hsame : (s.endFrame port.val x).rings.job k = some j := by
    rw [(State.endFrame_others port.val x s).1, hjob]
  rw [exec_sectorFrameEnd, execSectorFrameEnd, hframe]
  simp only [hkept, hread, hwhole, hcrc, Option.bind_some, decide_false, ne_eq, Nat.lt_irrefl, Bool.not_true, Bool.false_eq_true,
    if_false]
  rw [← State.endFrame, hsame, Option.map_some]
  exact congrArg _ (if_neg (not_not.mpr hcode))

end

/-! ### The statements -/

/-- Settles O35: under its guards each command takes the branch of its training step. The clauses hold for every value of the reserved
bytes of a LINKCTL body (log entry 64); a LOOP token is a free value (log entry 4). -/
theorem completeSoleTraining : Obligations.CompleteSoleTraining := by
  unfold Obligations.CompleteSoleTraining
  refine ⟨fun port s => rfl, ?start, ?lockLost, ?caps, ?geometry, ?echo, ?echoBad, ?again, ?givesUp, ?timer, fun port s => rfl⟩
  case start =>
    intro n s hlive
    rw [State.startTraining, hlive]
    rfl
  case lockLost =>
    intro port s hlock hidle
    rw [exec_blockLockLost, execBlockLockLost, hlock, hidle]
    rfl
  case caps =>
    intro port fh version flags mask rsv identity s hlive hflags hlen hcrc hstep
    rw [exec_caps_checked hlive hflags hlen hcrc hstep, ite_not]
  case geometry =>
    intro port fh tpp pitch spp offs code rsv s hlive hflags hlen hcrc hstep
    exact exec_geometry_checked hlive hflags hlen hcrc hstep rfl
  case echo =>
    intro port fh token ns rsv count k s hlive hflags hlen hcrc hstep htrains hfast hsent htoken
    refine (exec_loopEcho_checked hlive hflags hlen hcrc rfl htrains).2 k ?_ hstep htoken
    exact not_or.mpr ⟨Nat.not_lt.mpr hfast, ne_false_of_eq_true hsent⟩
  case echoBad =>
    intro port fh token ns rsv count s hlive hflags hlen hcrc htrains
    exact (exec_loopEcho_checked hlive hflags hlen hcrc rfl htrains).1
  case again =>
    intro port s hlive htrains hfew
    simp only [exec_trainingAnswerTimeout, execTrainingAnswerTimeout, hlive, htrains, Nat.not_le.mpr hfew, decide_true, Bool.and_self,
      if_true, if_false]
  case givesUp =>
    intro port s hlive htrains hmany
    simp only [exec_trainingAnswerTimeout, execTrainingAnswerTimeout, hlive, htrains, hmany, decide_true, Bool.and_self, if_true]
  case timer =>
    intro port s hfailed
    exact congrArg _ (if_pos hfailed)

/-- Settles O36: a frame that passes the checks takes the branch of its type, one that fails is counted by the first check it fails, and
the timers and windows take the branch of the port's state. POS and WINDOW_OPEN move the device's time on and never back (log entry 2); a
SECTOR frame beyond the credits counts for them (log entry 64); the windows open for the entries of the schedule, the oldest of a slot
first (log entry 65). -/
theorem completeSoleFrames : Obligations.CompleteSoleFrames := by
  unfold Obligations.CompleteSoleFrames
  refine ⟨?pos, ?hold, ?resume, ?idle, ?oversize, ?badType, ?badCrc, ?idleTimer, ?credit, ?sector, ?overcredit, ?noFrame, ?frameEnd,
    ?noTrack, ?windows, ?stampLate, ?stampNone, ?holdLimit, fun port s => rfl⟩
  case pos =>
    intro port fh fine pass ackSeq flags rsv skipMask tRx tUpd s hlive hflags hlen hcrc hfine hack
    have hgood : ¬ ((s.sole.get port.val).trained = .yes ∧ (s.sole.get port.val).tpp.toNat ≤ fine.toNat) :=
      fun ⟨hyes, hle⟩ => hfine.elim (· hyes) fun hlt => Nat.not_lt.mpr hle hlt
    rw [exec_pos, execPos, State.frameIn_ok _ _ _ _ _ _ hlive hflags hlen (by simp) hcrc, if_neg hgood, hack]
    rfl
  case hold =>
    intro port fh rsv s hlive hflags hlen hcrc
    rw [exec_holdResume, execHoldResume, State.frameIn_ok _ _ _ _ _ _ hlive hflags hlen (by simp) hcrc]
    rfl
  case resume =>
    intro port fh reason rsv s hlive hflags hlen hcrc hheld
    rw [exec_holdResume, execHoldResume, State.frameIn_ok _ _ _ _ _ _ hlive hflags hlen (by simp) hcrc]
    exact congrArg _ ((if_neg fun h => absurd h.1 (by decide)).trans (if_pos ⟨rfl, hheld⟩))
  case idle =>
    intro port fh s hlive hflags hlen hcrc
    rw [exec_idle, execIdle, State.frameIn_ok _ _ _ [] _ _ hlive hflags hlen (Nat.zero_le _) hcrc]
  case oversize =>
    intro port fh s hlive hbig
    simp only [exec_idle, execIdle, State.frameIn, hlive, hbig, Bool.not_true, Bool.false_eq_true, if_false, if_true]
    rfl
  case badType =>
    intro port type fh data excess s hlive hsize htype
    have hother : type ≠ 0x02 := by
      rintro rfl
      exact Bool.noConfusion htype
    simp only [exec_badFrame, execBadFrame, hother, hlive, Nat.not_lt.mpr hsize, htype, false_and, Bool.not_true, Bool.not_false,
      Bool.false_eq_true, if_false, if_true]
  case badCrc =>
    intro port fh data s hlive hlen hflags hdata hcrc
    have hother : (1 : Byte) ≠ 0x02 := by decide
    have htype : driveType 1 = true := rfl
    have hlenOk : bodyLenOk 1 (data.getD 0 0) 16 = true := rfl
    have hheadOk : bodyHeadBad 1 16 (data.take 16) = false := rfl
    have hwhole : ¬ 20 < 16 + 4 := by decide
    simp only [exec_badFrame, execBadFrame, hother, hlive, hlen, hflags, hdata, hcrc, htype, hlenOk, hheadOk, hwhole, false_and,
      ne_eq, not_true_eq_false, Nat.reduceLT, Nat.lt_irrefl, Bool.not_true, Bool.not_false, Bool.false_eq_true, if_false, if_true]
    rfl
  case idleTimer =>
    intro port s hlive
    exact congrArg _ (if_pos hlive)
  case credit =>
    intro port s hlive htrained
    simp only [exec_creditSend, execCreditSend, hlive, htrained, decide_true, Bool.and_self, if_true]
  case sector =>
    intro port fh codeWord keyId iv addr k s hlive hflags hcode hlen
    exact (exec_sector_checked hlive hflags hcode hlen).2 k
  case overcredit =>
    intro port fh codeWord keyId iv addr s hlive hflags hcode hlen
    exact (exec_sector_checked hlive hflags hcode hlen).1
  case noFrame =>
    intro port data excess s hidle
    simp only [exec_sectorFrameEnd, execSectorFrameEnd, hidle]
  case frameEnd =>
    intro port data x k j s hframe hkept hread hjob hcode hdata
    by_cases hcrc : FrameHdrOk 0x02 { x.fh with crc := wordOf (data.drop (sectorLen x.code.toNat - 32)) 0 }
        (x.hdr ++ data.take (sectorLen x.code.toNat - 32)) = true
    · refine ⟨_, exec_sectorFrameEnd_whole hframe hkept hread hjob hcode hdata hcrc, fun _ => ?_⟩
      obtain ⟨hrings, hkeys, hout, halarm⟩ := State.endFrame_others port.val x s
      exact ⟨by rw [← hrings]; rfl, hkeys, hout, halarm⟩
    · exact ⟨_, rfl, fun h => absurd h hcrc⟩
  case noTrack =>
    intro port t s hstate
    exact congrArg _ (if_neg fun h => hstate h.1)
  case windows =>
    intro port t s hstate hspp htpp
    exact congrArg _ (if_pos ⟨hstate, hspp, htpp⟩)
  case stampLate =>
    intro port s hstate
    exact congrArg _ (if_neg (not_or.mpr ⟨hstate, Bool.false_ne_true⟩))
  case stampNone =>
    intro port tie s hnone
    exact congrArg _ (if_pos hnone)
  case holdLimit =>
    intro port s hheld
    exact congrArg _ (if_pos (.inr (.inr (.inr hheld))))

end Sys2Proof.Machine

/-! SUPPORT. What a write of PKE_CMD and the stages of a public-key operation do, and the two statements about them (10 R317, R318,
R322-R335). -/

namespace Sys2Proof.Machine

section
variable {n : Nat} {op : Byte} {k : PkeCmd} {j : PkeJob} {s : State}

/-! ### Engines -/

/-- In canonical form an engine reads back as it was changed. -/
theorem State.engine_updEngine_same (f : PkeEngine → PkeEngine) (hwf : Bank.wf {} s.pke) :
    (s.updEngine n f).engine n = f (s.engine n) := Bank.get_upd_same ({} : PkeEngine) n f s.pke hwf

/-- A change of an engine keeps the canonical form. -/
theorem State.wf_updEngine (f : PkeEngine → PkeEngine) (hwf : Bank.wf {} s.pke) : Bank.wf {} (s.updEngine n f).pke :=
  Bank.wf_upd ({} : PkeEngine) n f s.pke hwf

/-- A change of an engine is fixed by its value at that engine. -/
theorem State.updEngine_congr {f g : PkeEngine → PkeEngine} (heq : f (s.engine n) = g (s.engine n)) :
    s.updEngine n f = s.updEngine n g := by
  rw [State.updEngine_const, heq, ← State.updEngine_const]

/-! ### The write of PKE_CMD (R325) -/

/-- A write from user level, or to an engine that is not IDLE, changes nothing. -/
theorem State.pkeCmd_ignored (hoff : (s.engine n).state ≠ 0 ∨ k.level = .user) : s.pkeCmd n op k = s := if_pos hoff

/-- A write that passes the checks starts its operation. -/
theorem State.pkeCmd_starts (hidle : (s.engine n).state = 0) (hlevel : k.level ≠ .user)
    (hpass : pkeCheck s (s.engine n) (pkeJobOf op k) k.rsv = none) : s.pkeCmd n op k = s.pkeStart n op k := by
  simp only [State.pkeCmd, hidle, hlevel, hpass, ne_eq, not_true_eq_false, or_self, if_false]

/-- A write that fails a check ends at once with that check's status and detail. -/
theorem State.pkeCmd_refused {st : Half} {detail : Word} (hidle : (s.engine n).state = 0) (hlevel : k.level ≠ .user)
    (hfail : pkeCheck s (s.engine n) (pkeJobOf op k) k.rsv = some (st, detail)) :
    s.pkeCmd n op k =
      (((s.updEngine n (PkeEngine.latch op k)).pkeChanFail (pkeJobOf op k) st).pkeEnd n st detail 0 0).pkeTimed n := by
  simp only [State.pkeCmd, hidle, hlevel, hfail, ne_eq, not_true_eq_false, or_self, if_false]

/-- An operation outside R318 fails the first check. -/
theorem pkeCheck_unknown {e : PkeEngine} {rsv : Half} (hop : pkeOps.contains j.op.toNat = false) :
    pkeCheck s e j rsv = some (Status.badOpcode, 0) := by
  simp only [pkeCheck, hop, Bool.not_false, firstFail, if_true]

/-! ### A run begins or waits (R322, R324) -/

/-- The verification operations are no key generation. -/
theorem pkeKeygen_of_pkeVerify {o : Nat} (hverify : pkeVerify o = true) : pkeKeygen o = false := by
  simp only [pkeVerify, List.contains_iff_mem, List.mem_cons, List.not_mem_nil, or_false] at hverify
  rcases hverify with rfl | rfl | rfl | rfl <;> rfl

/-- The verification operations draw nothing. -/
theorem pkeDrawLen_of_pkeVerify {o set : Nat} {type : Byte} (hverify : pkeVerify o = true) : pkeDrawLen o set type = 0 := by
  simp only [pkeVerify, List.contains_iff_mem, List.mem_cons, List.not_mem_nil, or_false] at hverify
  rcases hverify with rfl | rfl | rfl | rfl <;> rfl

/-- A run without a draw begins by clearing the scratch. -/
theorem State.pkeBegin_noDraw (hnone : pkeDrawLen j.op.toNat j.set.toNat (s.pkeType n) = 0) :
    s.pkeBegin n j = s.updEngine n fun e => { e with state := 2, scratch := {} } := if_pos hnone

/-- A run with a draw leaves the queue of FRESH requests, and begins with the bytes of its one request in the scratch. -/
theorem State.pkeBegin_draw (hsome : pkeDrawLen j.op.toNat j.set.toNat (s.pkeType n) ≠ 0) :
    s.pkeBegin n j =
      (s.withRng fun r => { r with freshQueue := r.freshQueue.filter fun q => decide (q ≠ .pke n) }).instDraw (5 + n)
        (pkeKeygen j.op.toNat) (pkeDrawLen j.op.toNat j.set.toNat (s.pkeType n)) fun b t =>
          t.updEngine n fun e => { e with state := 2, scratch := { drawn := b } } := if_neg hsome

/-- An operation that waits changes its engine's state alone, and the queue of FRESH requests for a key generation. -/
theorem State.pkeHold_effect (o : Nat) (hwf : Bank.wf {} s.pke) :
    (s.pkeHold n o).engine n = { s.engine n with state := 1 } ∧ (s.pkeHold n o).mem = s.mem
      ∧ (pkeVerify o = true → (s.pkeHold n o).rng = s.rng) := by
  cases hgen : pkeKeygen o with
  | true =>
    simp only [State.pkeHold, hgen, if_true]
    refine ⟨State.engine_updEngine_same _ hwf, rfl, fun hverify => ?_⟩
    rw [pkeKeygen_of_pkeVerify hverify] at hgen
    cases hgen
  | false =>
    simp only [State.pkeHold, hgen, Bool.false_eq_true, if_false]
    exact ⟨State.engine_updEngine_same _ hwf, rfl, fun _ => rfl⟩

/-- A run that begins puts its engine in LOAD with new scratch; only a draw changes the random number block. -/
theorem State.pkeBegin_effect (hwf : Bank.wf {} s.pke) :
    (∃ x, (s.pkeBegin n j).engine n = { s.engine n with state := 2, scratch := x }) ∧ (s.pkeBegin n j).mem = s.mem
      ∧ (pkeVerify j.op.toNat = true → (s.pkeBegin n j).rng = s.rng) := by
  by_cases hnone : pkeDrawLen j.op.toNat j.set.toNat (s.pkeType n) = 0
  · rw [State.pkeBegin_noDraw hnone]
    exact ⟨⟨_, State.engine_updEngine_same _ hwf⟩, rfl, fun _ => rfl⟩
  · rw [State.pkeBegin_draw hnone]
    exact ⟨⟨_, State.engine_updEngine_same _ hwf⟩, rfl, fun hverify => absurd (pkeDrawLen_of_pkeVerify hverify) hnone⟩

/-- A run waits in WAIT or begins in LOAD, with the rest of its engine but the scratch as before. -/
theorem State.pkeRun_effect (machine : Bool) (hwf : Bank.wf {} s.pke) :
    (∃ x, (s.pkeRun n j machine).engine n =
        { s.engine n with state := if pkeWaits s n j.op.toNat machine then 1 else 2, scratch := x })
      ∧ (s.pkeRun n j machine).mem = s.mem ∧ (pkeVerify j.op.toNat = true → (s.pkeRun n j machine).rng = s.rng) := by
  cases hwaits : pkeWaits s n j.op.toNat machine with
  | true =>
    simp only [State.pkeRun, hwaits, if_true]
    obtain ⟨hengine, hmem, hrng⟩ := State.pkeHold_effect (n := n) j.op.toNat hwf
    exact ⟨⟨_, hengine⟩, hmem, hrng⟩
  | false =>
    simp only [State.pkeRun, hwaits, Bool.false_eq_true, if_false]
    exact State.pkeBegin_effect hwf

/-- Whether an operation waits is a matter of the random number block alone. -/
theorem pkeWaits_congr {t : State} (o : Nat) (machine : Bool) (hrng : t.rng = s.rng) : pkeWaits t n o machine = pkeWaits s n o machine := by
  simp only [pkeWaits, hrng]

/-- A started operation runs from a state in which its engine has latched it with the slot of the key that it names; the memory and
the random number block are as before. -/
theorem State.pkeStart_runs (op : Byte) (k : PkeCmd) (hwf : Bank.wf {} s.pke) :
    ∃ t : State, s.pkeStart n op k = t.pkeRun n (pkeJobOf op k) (decide (k.level = .machine)) ∧ Bank.wf {} t.pke
      ∧ t.engine n = { (s.engine n).latch op k with
          slot := if pkeNamesKey (pkeJobOf op k) then some (handleSlot (s.engine n).key) else none }
      ∧ t.mem = s.mem ∧ t.rng = s.rng := by
  cases hnames : pkeNamesKey (pkeJobOf op k) with
  | true =>
    simp only [State.pkeStart, hnames, if_true]
    exact ⟨_, rfl, State.wf_updEngine (s := s.withKeys _) _ hwf, State.engine_updEngine_same (s := s.withKeys _) _ hwf, rfl, rfl⟩
  | false =>
    simp only [State.pkeStart, hnames, Bool.false_eq_true, if_false]
    exact ⟨_, rfl, State.wf_updEngine _ hwf, State.engine_updEngine_same _ hwf, rfl, rfl⟩

end

/-- Settles O32: every operation is one write of PKE_CMD with its own code, started, refused or ignored by R325; a started one is
latched, and its run waits or begins. -/
theorem completePublicKey : Obligations.CompletePublicKey := by
  unfold Obligations.CompletePublicKey
  have hstarts : ∀ (op : Byte) (n : Fin 4) (k : PkeCmd) (s : State), (s.engine n.val).state = 0 → k.level ≠ .user →
      pkeCheck s (s.engine n.val) (pkeJobOf op k) k.rsv = none →
      (.next (s.pkeCmd n.val op k) : Host.Outcome State Fault Refusal) = .next (s.pkeStart n.val op k) :=
    fun _ _ _ _ hidle hlevel hpass => congrArg _ (State.pkeCmd_starts hidle hlevel hpass)
  refine ⟨hstarts 0x01, hstarts 0x02, hstarts 0x10, hstarts 0x11, hstarts 0x12, hstarts 0x13, hstarts 0x20, hstarts 0x21,
    hstarts 0x22, hstarts 0x23, hstarts 0x30, hstarts 0x31, hstarts 0x32, hstarts 0x38, hstarts 0x39, hstarts 0x3A, hstarts 0x40,
    ?started, ?unknown, ?ignored⟩
  case started =>
    intro n op k s hwf
    obtain ⟨t, hstart, hwfLatched, hlatched, hmemLatched, hrngLatched⟩ := State.pkeStart_runs (n := n) op k hwf
    obtain ⟨⟨x, hengine⟩, hmem, hrng⟩ := State.pkeRun_effect (n := n) (j := pkeJobOf op k) (decide (k.level = .machine)) hwfLatched
    rw [hstart, hengine, hlatched, pkeWaits_congr _ _ hrngLatched]
    exact ⟨_, rfl, rfl, rfl, rfl, rfl, rfl, rfl, fun hverify => (hrng hverify).trans hrngLatched, hmem.trans hmemLatched⟩
  case unknown =>
    intro n op k s hidle hlevel hop
    exact congrArg _ (State.pkeCmd_refused hidle hlevel (pkeCheck_unknown hop))
  case ignored =>
    intro n k s hoff
    exact ⟨congrArg _ (State.pkeCmd_ignored hoff), congrArg _ (State.pkeCmd_ignored hoff)⟩

section
variable {n : Fin 4} {j : PkeJob} {s : State}

/-! ### The stages of an operation (R317, R325-R332) -/

/-- Firmware that keeps no operation hands none to the engines (R332, R333, R336). -/
theorem State.pkeReissue_none (hnone : s.fw.pkeAgain = []) : s.pkeReissue = s := by
  have htake : ∀ m, s.pkeTake m = s := by
    intro m
    unfold State.pkeTake
    rw [hnone]
    exact ite_self s
  exact List.foldl_fixed' htake _

/-- Outside audit mode, and while its DMA is not stopped, an engine works (R324; 19 R551). -/
theorem State.pkeMoves_of {m : Nat} (haudit : s.rng.audit = false) (hstopped : (s.mpu (6 + m)).stopped = none) :
    s.pkeMoves m = true := by
  simp only [State.pkeMoves, haudit, hstopped, Option.isNone_none, Bool.not_false, Bool.and_self]

/-- A computation that ends with no output begun passes or fails by its self-check; 1,000 iterations of MLDSA_SIGN fail it (R329,
R331, R332). -/
theorem exec_pkeOpDone_checked {d : PkeDone} (hjob : (s.engine n.val).job = some j) (hstate : (s.engine n.val).state = 4)
    (hmoves : s.pkeMoves n.val = true) (hcopied : (s.engine n.val).copied = none) :
    exec (.pkeOpDone n d) s =
      .next (if d.checkOk && !(decide (j.op = 0x39) && decide (1000 ≤ d.iter)) then (s.pkeFinish n.val j d true).pkeReissue
        else (s.pkeFail n.val j d).pkeReissue) := by
  simp only [exec_pkeOpDone, execPkeOpDone, hjob, hstate, hmoves, hcopied, ne_eq, not_true_eq_false, Bool.true_eq_false, or_self,
    if_false]

/-- RSA_PRIV and RSA_PUB give one value as long as the modulus (R318). -/
theorem pkeCompute_rsa {t : Byte} {key body drawn : List Byte} (hop : j.op = 0x01 ∨ j.op = 0x02) :
    pkeCompute j t key body drawn =
      { out := leBytes (rsaLen j.set.toNat)
          (if j.op = 0x01 then (rsaKey (rsaLen j.set.toNat) key).priv (ofLe (body.take (rsaLen j.set.toNat)))
            else powMod (rsaKey (rsaLen j.set.toNat) key).n (ofLe (body.take (rsaLen j.set.toNat)))
              (rsaKey (rsaLen j.set.toNat) key).e) } := by
  obtain ⟨op, set, inline, prehash, kout, ch⟩ := j
  rcases hop with rfl | rfl <;> rfl

/-! ### Abort and clear (R334, R335) -/

/-- An abort starts the clearing, and sets GO of PKE_ABORT alone. -/
theorem PkeEngine.startClear_abort (e : PkeEngine) : e.startClear .abort =
    { e with state := 5, clearing := .abort, abortGo := true, scratch := {}, input := [], copied := none } := by
  simp [PkeEngine.startClear]

/-- A clear starts the clearing, and sets GO of PKE_CLEAR alone. -/
theorem PkeEngine.startClear_clear (e : PkeEngine) : e.startClear .clear =
    { e with state := 5, clearing := .clear, clearGo := true, scratch := {}, input := [], copied := none } := by
  simp [PkeEngine.startClear]

end

/-- Settles O33: under its guards each stage takes the branch that the statement writes out, and what firmware then does stays
`State.pkeReissue`, which is nothing where it keeps no operation. The known-answer test draws its 32 bytes in one request (log entries
54 and 111). -/
theorem completePkeStages : Obligations.CompletePkeStages := by
  unfold Obligations.CompletePkeStages
  refine ⟨?waitEnd, fun n j s => State.pkeBegin_noDraw, fun n j s => State.pkeBegin_draw, ?loadDone, ?load, ?validation, ?passes,
    fun j t key body drawn => pkeCompute_rsa, fun s => State.pkeReissue_none, ?reruns, ?abort, ?clear, ?cleared, ?katRun, ?katDone⟩
  case waitEnd =>
    intro n j s hjob hstate hwaits
    simp only [exec_pkeWaitEnd, execPkeWaitEnd, hjob, hstate, hwaits, and_self, if_true]
  case loadDone =>
    intro n j s hjob hstate haudit hstopped hdma
    simp only [exec_pkeLoadDone, execPkeLoadDone, hjob, hstate, State.pkeMoves_of haudit hstopped, hdma, and_self, if_true]
  case load =>
    intro n j s hwf
    exact ⟨_, State.engine_updEngine_same _ hwf, rfl, rfl, rfl, rfl, rfl, rfl, rfl⟩
  case validation =>
    intro n j s hjob hstate haudit hnone
    simp only [exec_pkeValidationEnd, execPkeValidationEnd, State.pkeValidate, hjob, hstate, haudit, and_self, if_true]
    cases pkeFailed j ((s.engine n.val).keyBytes j) ((s.engine n.val).body j) with
    | none => exact congrArg _ (State.pkeReissue_none hnone)
    | some code => rfl
  case passes =>
    intro n j d s hjob hstate haudit hstopped hcopied hok hfew
    have hgood : (d.checkOk && !(decide (j.op = 0x39) && decide (1000 ≤ d.iter))) = true := by
      simp only [hok, Bool.true_and, Bool.not_eq_true', Bool.and_eq_false_iff, decide_eq_false_iff_not, Nat.not_le]
      exact hfew.symm
    rw [exec_pkeOpDone_checked hjob hstate (State.pkeMoves_of haudit hstopped) hcopied, if_pos hgood]
    exact congrArg (fun t : State => Host.Outcome.next t.pkeReissue) (ite_not ..)
  case reruns =>
    intro n j d s hjob hstate haudit hstopped hcopied hbad hfew
    have hfails : ¬ (d.checkOk && !(decide (j.op = 0x39) && decide (1000 ≤ d.iter))) = true := by
      rcases hbad with hcheck | ⟨hop, hiter⟩
      · simp only [hcheck, Bool.false_and, Bool.false_eq_true, not_false_eq_true]
      · simp only [hop, hiter, decide_true, Bool.and_self, Bool.not_true, Bool.and_false, Bool.false_eq_true, not_false_eq_true]
    rw [exec_pkeOpDone_checked hjob hstate (State.pkeMoves_of haudit hstopped) hcopied, if_neg hfails]
    exact congrArg (fun t : State => Host.Outcome.next t.pkeReissue) (if_pos hfew)
  case abort =>
    intro n m level v s hgo hlevel howner hidle hquar hoff
    exact congrArg _ ((if_pos ⟨hgo, hlevel, howner, hidle, hquar, hoff⟩).trans (State.updEngine_congr (PkeEngine.startClear_abort _)))
  case clear =>
    intro n m level v s hgo hlevel hmaster hidle
    exact congrArg _ ((if_pos ⟨hgo, hlevel, hmaster, hidle⟩).trans (State.updEngine_congr (PkeEngine.startClear_clear _)))
  case cleared =>
    intro n s hstate hclear
    simp only [exec_pkeClearDone, execPkeClearDone, hstate, hclear, ne_eq, not_true_eq_false, if_false, if_true, reduceCtorEq]
    rfl
  case katRun =>
    intro n level s hlevel hstate hfew
    exact congrArg _ (if_pos ⟨hlevel, hstate, hfew⟩)
  case katDone =>
    intro n s hrun
    refine congrArg _ ((if_pos hrun).trans (congrArg State.pkeReissue (State.updEngine_congr ?_)))
    simp only [true_and]

end Sys2Proof.Machine

/-! SUPPORT. What a write of DIG_CMD, the operation it starts and the end of a segment do, and the statement about the digest channels,
units and measurement registers (11 R347-R360). -/

namespace Sys2Proof.Machine

section
variable {m : Nat} {op : Byte} {k : DigCmd} {s : State}

/-! ### The write of DIG_CMD (R349) -/

/-- A write from another master, from user level, or to a channel with an operation in progress changes nothing. -/
theorem State.digCmd_ignored (hoff : k.writer.val ≠ m ∨ k.level = .user ∨ (s.dig.chan m).op.isSome = true) :
    s.digCmd m op k = s := if_pos hoff

/-- A write that is acted on and passes the checks starts its operation; ABORT ends at once and closes the context. -/
theorem State.digCmd_passes (hwriter : k.writer.val = m) (hlevel : k.level ≠ .user) (hidle : (s.dig.chan m).op = none)
    (hpass : digCheck s (s.dig.chan m) op k = none) :
    s.digCmd m op k =
      if op = dABORT then
        ((s.withDig fun d => d.updChan m (DigChan.accept op)).withDig fun d => d.updChan m fun x =>
          { x with ctx := none, ctxOut := [], ctxIn := [] }).digEnd m Status.aborted 0
      else s.digStart m op k := by
  have hacted : ¬ (k.writer.val ≠ m ∨ k.level = .user ∨ (s.dig.chan m).op.isSome = true) := by
    simp only [hwriter, hlevel, hidle, ne_eq, not_true_eq_false, Option.isSome_none, Bool.false_eq_true, or_self, not_false_eq_true]
  simp only [State.digCmd, if_neg hacted, hpass]

/-- A started operation holds a reference to the key of a keyed INIT alone, and is ready for a unit unless it waits; no measurement
register, unit or seal changes before the units are dealt (R347, R348, R358). -/
theorem State.digStart_deals (m : Nat) (op : Byte) (k : DigCmd) (s : State) :
    ∃ d, s.digStart m op k = State.digDeal
        { s with
          keys := if op = dINIT ∧ digKeyed k.alg = true ∧ k.ksrc = 0 then s.keys.addRef (handleSlot (s.dig.chan m).key) else s.keys
          dig := d }
      ∧ d.ready = (if digWaits s (s.dig.chan m) op k then s.dig.ready else s.dig.ready ++ [.chan m])
      ∧ d.meas = s.dig.meas ∧ d.units = s.dig.units ∧ d.seals = s.dig.seals := by
  by_cases hkey : op = dINIT ∧ digKeyed k.alg = true ∧ k.ksrc = 0
  · simp only [State.digStart, if_pos hkey]
    exact ⟨_, rfl, rfl, rfl, rfl, rfl⟩
  · simp only [State.digStart, if_neg hkey]
    exact ⟨_, rfl, rfl, rfl, rfl, rfl⟩

/-! ### The operation on its unit (R350, R357) -/

/-- EXTEND replaces the measurement register by the digest of its value and the bytes read. -/
theorem State.digRun_extend : s.digRun m dEXTEND k =
    (s.withDig (Dig.extend k.midx.val k.alg (s.sramRead (s.dig.chan m).src.toNat (s.dig.chan m).len.toNat))).digEnd m Status.ok 0 := by
  have hinit : dEXTEND ≠ dINIT := by decide
  simp only [State.digRun, if_neg hinit, if_true]

/-- UPDATE appends the bytes read to the data of the open context, and counts them. -/
theorem State.digRun_update {c : DigCtx} (hctx : (s.dig.chan m).ctx = some c) : s.digRun m dUPDATE k =
    (s.withDig fun d => d.updChan m fun x =>
      { x with ctx := some { c with
                              data := c.data ++ s.sramRead (s.dig.chan m).src.toNat (s.dig.chan m).len.toNat
                              count := c.count + (s.dig.chan m).len.setWidth 64 } }).digEnd m Status.ok 0 := by
  have hinit : dUPDATE ≠ dINIT := by decide
  have hextend : dUPDATE ≠ dEXTEND := by decide
  have hrestore : dUPDATE ≠ dRESTORE := by decide
  simp only [State.digRun, if_neg hinit, if_neg hextend, if_neg hrestore, hctx, if_true]

/-- Without a keyed state and with its reads allowed by the MPU, an operation has its effect at once; the unit is free again where the
effect ended the operation. -/
theorem State.digOp_plain {x : DigChan} {u : Nat} (hdma : s.dmaRefused 10 false x.src.toNat (digReads x op k) = none)
    (hplain : digIsKeyed x op k = false) :
    s.digOp m x op k u =
      if ((s.digRun m op k).dig.chan m).op.isSome then s.digRun m op k
      else ((s.digRun m op k).withDig fun d => (d.updUnit u fun y => { y with work := none }).updChan m fun y =>
        { y with unit := BitVec.ofNat 2 u }).digDeal := by
  simp only [State.digOp, hdma, hplain, Bool.false_eq_true, if_false]

end

/-- Settles O34: a write that passes the checks of R349 starts its operation, or ends it for ABORT, and any other writer's is ignored;
each later step is the branch of its definition that its guards select. The clause for another writer holds for every operation. -/
theorem completeDigest : Obligations.CompleteDigest := by
  unfold Obligations.CompleteDigest
  have hstarts : ∀ op : Byte, op ≠ dABORT → ∀ (m : CoreNo) (k : DigCmd) (s : State), k.writer = m → k.level ≠ .user →
      (s.dig.chan m.val).op = none → digCheck s (s.dig.chan m.val) op k = none →
      (.next (s.digCmd m.val op k) : Host.Outcome State Fault Refusal) = .next (s.digStart m.val op k) :=
    fun op hop m k s hwriter hlevel hidle hpass =>
      congrArg _ ((State.digCmd_passes (congrArg Fin.val hwriter) hlevel hidle hpass).trans (if_neg hop))
  refine ⟨hstarts dINIT (by decide), hstarts dUPDATE (by decide), hstarts dFINAL (by decide), hstarts dSAVE (by decide),
    hstarts dRESTORE (by decide), hstarts dEXTEND (by decide), ?abort, ?ignored, State.digStart_deals, ?opDone,
    fun m u x op k s => State.digOp_plain, fun m k s => ⟨State.digRun_extend, fun c => State.digRun_update⟩, fun u s => rfl, ?mismatch,
    ?katRun, ?katDone, fun n s => rfl, fun v s => rfl⟩
  case abort =>
    intro m k s hwriter hlevel hidle hpass
    exact congrArg _ (State.digCmd_passes (congrArg Fin.val hwriter) hlevel hidle hpass)
  case ignored =>
    intro m k s hoff
    have hignored : ∀ op, (.next (s.digCmd m.val op k) : Host.Outcome State Fault Refusal) = .next s :=
      fun op => congrArg _ (State.digCmd_ignored (hoff.imp (mt Fin.ext) .inl))
    exact ⟨hignored dINIT, hignored dFINAL, hignored dEXTEND⟩
  case opDone =>
    intro m u op k s hop hready hwork hstopped
    simp only [exec_digestOpDone, execDigestOpDone, hop, hready, hwork, hstopped, Option.isSome_none, Bool.false_eq_true, if_false,
      if_true]
  case mismatch =>
    intro u s
    obtain ⟨c, hlogged⟩ := State.eventFree_eq (0x14 + u.val) 1 (s.withDig fun d => { d with mism := satAdd d.mism 1 })
    exact ⟨_, congrArg Host.Outcome.next hlogged, rfl, rfl, rfl⟩
  case katRun =>
    intro u level s hlevel hquar hfew
    exact congrArg _ (if_pos ⟨hlevel, hquar, hfew⟩)
  case katDone =>
    intro s hrun
    exact congrArg _ (if_pos hrun)

end Sys2Proof.Machine

/-! SUPPORT. The invariant of the block at reset and after a step (12 R362, R376, R378). -/

namespace Sys2Proof.Machine

/-- Settles O5: the seed buffer, the memory and the bank of cores are empty. -/
theorem resetInvariant : Obligations.ResetInvariant := by
  unfold Obligations.ResetInvariant
  exact ⟨Rng.empty_ok rfl, Mem.empty_wf, List.Pairwise.nil, List.forall_mem_nil _⟩

/-- Settles O10: the three parts of the invariant are among what every step keeps, whatever its command. -/
theorem stepKeepsInvariant : Obligations.StepKeepsInvariant := by
  unfold Obligations.StepKeepsInvariant
  rintro s t ⟨hrng, hmem, hcores⟩ hstep
  obtain ⟨-, hkeepRng, -, hkeepMem, hkeepCores⟩ := step_keeps hstep
  exact ⟨hkeepRng hrng, hkeepMem hmem, hkeepCores hcores⟩

end Sys2Proof.Machine

/-! SUPPORT. What a change of source health does to the availability of class K and to the random number block, and the statement about
the commands of that block (12 R362-R382). -/

namespace Sys2Proof.Machine

/-! ### Availability of class K (12 R365, R366) -/

/-- Fewer bits set count no more ones. -/
theorem popRange_mono {w : Nat} {x y : BitVec w} (hsub : ∀ i, x.getLsbD i = true → y.getLsbD i = true) (lo n : Nat) :
    popRange x lo n ≤ popRange y lo n :=
  (List.monotone_filter_right (List.range n) fun i => hsub (lo + i)).length_le

/-- A bit that clearing one leaves set was set before. -/
theorem getLsbD_of_setBit_false {w : Nat} {x : BitVec w} {i j : Nat} (h : (setBit x i false).getLsbD j = true) :
    x.getLsbD j = true := by
  simp only [setBit, Bool.false_eq_true, if_false, BitVec.getLsbD_and, Bool.and_eq_true] at h
  exact h.1

/-- A class K type that is healthy on fewer sources is healthy on more. -/
theorem bit_decide_le {m a b : Nat} (h : a ≤ b) : bit (decide (m ≤ a)) ≤ bit (decide (m ≤ b)) := by
  by_cases hm : m ≤ a
  · simp [hm, hm.trans h]
  · simp [hm, bit]

section

variable {r r' : Rng} (hkatM : r'.katFailM = r.katFailM) (hfailed : ∀ i, r'.failed.getLsbD i = true → r.failed.getLsbD i = true)
include hkatM hfailed

/-- With fewer failed sources at least as many are healthy. -/
theorem Rng.okCount_mono (lo n : Nat) : r.okCount lo n ≤ r'.okCount lo n := by
  refine Nat.sub_le_sub_left (popRange_mono (fun i hi => ?_) lo n) n
  unfold Rng.bad at hi ⊢
  rw [hkatM] at hi
  split at hi
  next hkat =>
    rw [BitVec.getLsbD_or, Bool.or_eq_true] at hi
    rw [if_pos hkat, BitVec.getLsbD_or, Bool.or_eq_true]
    exact hi.imp_left (hfailed i)
  next hkat =>
    rw [if_neg hkat]
    exact hfailed i hi

/-- With fewer failed sources class K stays available. -/
theorem Rng.kAvail_mono (hkatK : r'.katFailK = r.katFailK) (havail : r.kAvail = true) : r'.kAvail = true := by
  have hok := Rng.okCount_mono hkatM hfailed
  have htypes : r.kTypes ≤ r'.kTypes :=
    Nat.add_le_add (Nat.add_le_add (bit_decide_le (hok 4 4)) (bit_decide_le (hok 8 16))) (bit_decide_le (hok 24 4))
  simp only [Rng.kAvail, Bool.and_eq_true, decide_eq_true_eq] at havail ⊢
  obtain ⟨htest, htwo⟩ := havail
  exact ⟨hkatK ▸ htest, htwo.trans htypes⟩

end

/-! ### A change of source health (12 R363, R365, R369, R376) -/

/-- Source `src` fails: its conditioner discards its input, and the failure is registered and counted. -/
def Rng.fail (src : Nat) (r : Rng) : Rng :=
  { r.dropInput (decide (src < 4)) with
    failed := setBit r.failed src true, srcFail := setBit r.srcFail src true, failures := satAdd r.failures 1 }

section

variable (src : Nat) (r : Rng)

@[simp] theorem Rng.fail_failed : (r.fail src).failed = setBit r.failed src true := rfl
@[simp] theorem Rng.fail_srcFail : (r.fail src).srcFail = setBit r.srcFail src true := rfl
@[simp] theorem Rng.fail_failures : (r.fail src).failures = satAdd r.failures 1 := rfl
@[simp] theorem Rng.fail_tested : (r.fail src).tested = r.tested := Rng.dropInput_tested r _
@[simp] theorem Rng.fail_audit : (r.fail src).audit = r.audit := Rng.dropInput_audit r _
@[simp] theorem Rng.fail_buffer : (r.fail src).buffer = r.buffer := Rng.dropInput_buffer r _

/-- Discarded input does not count in the availability of class K. -/
@[simp] theorem Rng.fail_kAvail : (r.fail src).kAvail = ({ r with failed := setBit r.failed src true } : Rng).kAvail := by
  unfold Rng.fail Rng.dropInput
  split <;> rfl

/-- The conditioner of the source's class starts its block again. -/
theorem Rng.fail_discards : if src < 4 then (r.fail src).condM = {} else (r.fail src).condK = {} := by
  by_cases hclassM : src < 4
  · simp [Rng.fail, Rng.dropInput, hclassM]
  · simp [Rng.fail, Rng.dropInput, hclassM]

end

/-- A failed test registers the failure, and then the availability of class K is judged. -/
theorem exec_sourceHealthFail_fails {src : Fin 28} {run same : Nat} {s : State} (hfails : healthFails src.val run same = true) :
    exec (.sourceHealthFail src run same) s =
      .next (((s.withRng (Rng.fail src.val)).eventFree (0x20 + src.val) 6).rngHealth s.rng.kAvail) := by
  rw [exec_sourceHealthFail, execSourceHealthFail, if_pos hfails]
  rfl

/-- A source that is no longer asserted leaves the random number block. -/
@[simp] theorem State.deassert_rng (src : Nat) (s : State) : (s.deassert src).rng = s.rng := by
  unfold State.deassert State.c3Set
  split <;> rfl

/-- Where the availability of class K is as it was, only M_DEGRADED follows the change. -/
theorem State.rngHealth_same {kBefore : Bool} {s : State} (hsame : s.rng.kAvail = kBefore) :
    s.rngHealth kBefore = s.withRng fun r => { r with mDegraded := r.ready && !r.mAvail } := by
  unfold State.rngHealth
  extract_lets s1
  have hsame1 : s1.rng.kAvail = kBefore := hsame
  rw [hsame1, Bool.and_not_self, Bool.not_and_self, if_neg Bool.false_ne_true, if_neg Bool.false_ne_true, ite_self]

/-- Where class K is lost the seed buffer is discarded, and source 48 is asserted. -/
theorem State.rngHealth_lost {s : State} (htested : s.rng.tested = true) (hlost : s.rng.kAvail = false) :
    s.rngHealth true =
      (s.withRng fun r => { r with mDegraded := r.ready && !r.mAvail, kLow := true, buffer := [] }).raise 48
        (BitVec.ofNat 32 s.rng.kTypes) := by
  unfold State.rngHealth
  extract_lets s1
  have htested1 : s1.rng.tested = true := htested
  have hlost1 : s1.rng.kAvail = false := hlost
  simp only [htested1, hlost1, Bool.not_true, Bool.not_false, Bool.and_self, Bool.false_eq_true, if_false, if_true]
  rfl

/-- Where class K is not lost, M_DEGRADED and K_LOW alone change in the random number block. -/
theorem State.rngHealth_kept {kBefore : Bool} {s : State} (hkept : kBefore = true → s.rng.kAvail = true) :
    ∃ low, (s.rngHealth kBefore).rng = { s.rng with mDegraded := s.rng.ready && !s.rng.mAvail, kLow := low } := by
  unfold State.rngHealth
  extract_lets s1
  have hkept1 : (kBefore && !s1.rng.kAvail) = false := by
    cases kBefore
    · rfl
    · have havail : s1.rng.kAvail = true := hkept rfl
      rw [havail]; rfl
  rw [hkept1, if_neg Bool.false_ne_true]
  split
  · exact ⟨s.rng.kLow, rfl⟩
  · split
    · exact ⟨false, State.deassert_rng _ _⟩
    · exact ⟨s.rng.kLow, rfl⟩

/-! ### Requests on the channels (12 R373, R374, R382) -/

/-- A well-formed write of a channel's own master above user level is a request while the channel is IDLE. -/
theorem exec_rngReq_accepted {c : CoreNo} {level : Level} {v : Word} {s : State} (hlevel : level ≠ .user)
    (hwaiting : (s.rng.chan c.val).waiting = none) (hdata : (s.rng.chan c.val).data = [])
    (hallowed : instAllowed c.val (rngRequestOf v).inst = true) (hmin : 0 < (rngRequestOf v).words)
    (hmax : (rngRequestOf v).words ≤ 4096) :
    exec (.rngReq c c level v) s = .next (s.rngRequest c.val (rngRequestOf v) (v.getLsbD 6)) := by
  have hidle : ¬ (c ≠ c ∨ level = .user ∨ (s.rng.chan c.val).waiting.isSome = true ∨ (s.rng.chan c.val).data ≠ []) := by
    simp [hlevel, hwaiting, hdata]
  have hwords : ¬ ((rngRequestOf v).words = 0 ∨ 4096 < (rngRequestOf v).words) := by omega
  simp only [exec_rngReq, execRngReq, if_neg hidle, hallowed, if_neg hwords, Bool.not_true, Bool.false_eq_true, if_false]

/-- A request without FRESH is served at once where its DRBG serves. -/
theorem State.rngRequest_serves (c : Nat) (nowait : Bool) {q : RngRequest} {s : State} (hfresh : q.fresh = false)
    (hserves : s.rng.serves q.inst = true) : s.rngRequest c q nowait = s.rngServe c q := by
  simp only [State.rngRequest, hfresh, hserves, Bool.not_false, Bool.and_self, if_true]

/-! ### The statement -/

/-- Settles O25: under its guards each command is the branch of its definition that the statement writes out; after a failure class K is as
available as it was or is lost, and a passed retest cannot lose it. A request whose wait ends under both rows of R377 answers ENTROPY
(log entry 129). -/
theorem completeRandom : Obligations.CompleteRandom := by
  unfold Obligations.CompleteRandom
  refine ⟨?reseedM, ?reseedK, ?maskStop, ?failure, ?failureLost, ?retest, ?retestFails, ?retestPasses, ?instantiate, ?background,
    ?dueReseed, ?request, fun c q s => rfl, ?badInstance, ?timeout, ?entropy, fun c s => rfl, ?audit, ?auditEnds, ?auditLevel,
    ?rawSelect, ?rawRead, ?rawOff⟩
  case reseedM =>
    intro core s haudit htested havail
    simp only [exec_maskingReseed, execMaskingReseed, haudit, htested, havail, Bool.not_true, Bool.or_self, Bool.false_eq_true, if_false,
      if_true]
    exact ⟨_, _, rfl, rfl, rfl, rfl, rfl, rfl⟩
  case reseedK => exact fun core s haudit htested hm hk => by simp [execMaskingReseed, haudit, htested, hm, hk]
  case maskStop => exact fun core s hm hk hseeded => by simp [execMaskingStop, hm, hk, hseeded]
  case failure =>
    intro src run same s hfails hsame
    obtain ⟨c, hevent⟩ := State.eventFree_eq (0x20 + src.val) 6 (s.withRng (Rng.fail src.val))
    have hstep := exec_sourceHealthFail_fails (s := s) hfails
    have havail : ((s.withRng (Rng.fail src.val)).eventFree (0x20 + src.val) 6).rng.kAvail = s.rng.kAvail := by
      rw [State.eventFree_rng_same, State.withRng_rng, Rng.fail_kAvail, hsame]
    rw [State.rngHealth_same havail, hevent] at hstep
    exact ⟨_, hstep, rfl, rfl, rfl, Rng.fail_tested _ _, Rng.fail_audit _ _, Rng.fail_discards _ _, Rng.fail_buffer _ _, rfl⟩
  case failureLost =>
    intro src run same s hfails htested havail hlost
    obtain ⟨c, hevent⟩ := State.eventFree_eq (0x20 + src.val) 6 (s.withRng (Rng.fail src.val))
    have hstep := exec_sourceHealthFail_fails (s := s) hfails
    rw [havail, hevent, State.rngHealth_lost ((Rng.fail_tested _ _).trans htested) ((Rng.fail_kAvail _ _).trans hlost)] at hstep
    exact ⟨_, hstep, rfl, rfl, rfl, rfl, rfl⟩
  case retest => exact fun src s hfailed hbeyond => by simp [execSourceRetestStart, hfailed, hbeyond]
  case retestFails => exact fun src run same s hretest hfails => by simp [execSourceRetestEnd, hretest, hfails]
  case retestPasses =>
    intro src run same s hretest hpasses
    simp only [exec_sourceRetestEnd, execSourceRetestEnd, hretest, hpasses, Bool.not_true, Bool.not_false, Bool.false_eq_true, if_false,
      if_true]
    refine ⟨_, rfl, ?_⟩
    generalize hu : State.eventFree _ _ _ = u
    have hrng : u.rng = { s.rng with retesting := setBit s.rng.retesting src.val false, failed := setBit s.rng.failed src.val false } := by
      rw [← hu, State.eventFree_rng_same]; rfl
    have hkept : s.rng.kAvail = true → u.rng.kAvail = true := by
      rw [hrng]
      exact Rng.kAvail_mono rfl (fun i => getLsbD_of_setBit_false) rfl
    obtain ⟨low, hhealth⟩ := State.rngHealth_kept hkept
    rw [hhealth, hrng]
    exact ⟨rfl, rfl, rfl, rfl⟩
  case instantiate =>
    intro i s hready haudit havail hbuffer hseeded hlower
    have hall : (List.range i.val).all (fun j => (s.rng.inst j).seeded) = true :=
      List.all_eq_true.mpr fun j hj => hlower j (List.mem_range.mp hj)
    exact ⟨_, by simp only [exec_drbgInstantiate, execDrbgInstantiate, hready, haudit, havail, hbuffer, hseeded, hall, ne_eq,
      not_false_eq_true, decide_true, Bool.not_false, Bool.and_self, if_true], rfl⟩
  case background => exact fun i s hseeded => by simp only [exec_drbgBackgroundReseed, execDrbgBackgroundReseed, if_pos hseeded]
  case dueReseed => exact fun i n s hdue => ⟨by simp only [State.reseedDue, hdue], rfl, rfl⟩
  case request =>
    intro c level v s hlevel hwaiting hdata hallowed hfresh hmin hmax hserves
    rw [exec_rngReq_accepted hlevel hwaiting hdata hallowed hmin hmax, State.rngRequest_serves _ _ hfresh hserves, rngRequestOf, hfresh]
  case badInstance =>
    exact fun c level v s hlevel hwaiting hdata hallowed => by simp [execRngReq, rngRequestOf, hlevel, hwaiting, hdata, hallowed]
  case timeout =>
    intro c q s hwaiting hfresh hcount
    simp [execRngWaitLimit, hwaiting, hfresh, Nat.not_le.mpr hcount, -Nat.reducePow]
  case entropy =>
    intro c q s hwaiting hwhy havail
    have hblock : (q.fresh || decide (2 ^ 20 ≤ (s.rng.inst q.inst).count)) = true := by
      simpa only [Bool.or_eq_true, decide_eq_true_eq] using hwhy
    simp only [exec_rngWaitLimit, execRngWaitLimit, hwaiting, hblock, State.withRng, havail, Bool.not_false, Bool.and_self, if_true]
  case audit => exact fun s haudit => by simp [execAuditSet, State.withRng, haudit]
  case auditEnds =>
    intro s haudit
    have hexit : s.rng.auditExit.audit = false ∧ s.rng.auditExit.buffer = [] ∧ s.rng.auditExit.insts = []
        ∧ s.rng.auditExit.chans = s.rng.chans ∧ s.rng.auditExit.failed = s.rng.failed := by
      simp [Rng.auditExit, haudit]
    obtain ⟨hoff, hbuffer, hinsts, hchans, hfailed⟩ := hexit
    exact ⟨s.withRng Rng.auditExit, rfl, hoff, hbuffer, hinsts, hchans, hfailed, rfl⟩
  case auditLevel => exact fun level s hlevel => by simp [execAuditSet, execAuditClear, hlevel]
  case rawSelect => exact fun level v s hsource => by simp [execRngRawselWrite, rawAllowed, hsource]
  case rawRead => exact fun c s haudit => by simp [execRngRawRead, rawAllowed, haudit]
  case rawOff => exact fun c level s haudit => by simp [execRngRawRead, haudit]

end Sys2Proof.Machine

/-! SUPPORT. What a response of the alarm controller and an operation of the tamper log change, and the statements about the response
table and about the commands of that block (13 R383-R408). -/

namespace Sys2Proof.Machine

/-! ### The response table (13 R394, R395) -/

/-- A bank made from a table reads as the table up to its length. -/
theorem Bank.get_tab {α : Type} [DecidableEq α] (d : α) (n : Nat) (f : Nat → α) (k : Nat) :
    Bank.get d (Bank.tab d n f) k = if k < n then f k else d := by
  have hlist : ∀ ks : List Nat, Bank.get d (ks.filterMap fun j => if f j = d then none else some (j, f j)) k
      = if k ∈ ks then f k else d := by
    intro ks
    induction ks with
    | nil => rfl
    | cons j ks ih =>
      by_cases hkey : j = k
      · subst hkey
        by_cases hdefault : f j = d <;> simp [Bank.get, hdefault, ih]
      · by_cases hdefault : f j = d <;> simp [Bank.get, hdefault, hkey, Ne.symm hkey, ih]
  simpa only [List.mem_range, Bank.tab] using hlist (List.range n)

/-- A main-domain reset leaves the default code of each source in force. -/
theorem State.mainReset_code {k : Nat} (hk : k < 64) (s : State) : Bank.get 0 s.mainReset.alarm.resp k = defaultCode k :=
  (Bank.get_tab 0 64 defaultCode k).trans (if_pos hk)

/-- A machine-level write of ALM_RESP_k replaces four codes of the table in force, and of the kept copy. -/
theorem exec_almRespWrite_machine (k : Fin 16) (v : Word) (s : State) : exec (.almRespWrite .machine k v) s =
    .next ((s.withAlarm fun a => { a with resp := setResp k.val v a.resp }).withLog fun l =>
      { l with kept := setResp k.val v l.kept }) :=
  congrArg Host.Outcome.next (if_pos rfl)

/-- Settles O4: the reset value of the table is the table of R394, and a write gives the kept table its copy (R395). -/
theorem alarmDefaults : Obligations.AlarmDefaults := by
  unfold Obligations.AlarmDefaults
  exact ⟨fun s k hk => State.mainReset_code hk s, fun k hk => rfl, exec_almRespWrite_machine⟩

/-! ### What the actions of a response leave alone (13 R389) -/

section

variable (s : State)

/-! The NMI goes to the cores, a halt to the engines and their jobs; a zeroisation destroys the SRAM key. -/

@[simp] theorem State.nmiAll_alarm : s.nmiAll.alarm = s.alarm := rfl
@[simp] theorem State.nmiAll_keys : s.nmiAll.keys = s.keys := rfl
@[simp] theorem State.nmiAll_mbx : s.nmiAll.mbx = s.mbx := rfl
@[simp] theorem State.nmiAll_fw : s.nmiAll.fw = s.fw := rfl
@[simp] theorem State.haltEngines_alarm : s.haltEngines.alarm = s.alarm := rfl
@[simp] theorem State.haltEngines_keys : s.haltEngines.keys = s.keys := rfl
@[simp] theorem State.haltEngines_mbx : s.haltEngines.mbx = s.mbx := rfl
@[simp] theorem State.haltEngines_fw : s.haltEngines.fw = s.fw := rfl
@[simp] theorem State.zeroiseStart_alarm : s.zeroiseStart.alarm = s.alarm := rfl
@[simp] theorem State.zeroiseStart_mbx : s.zeroiseStart.mbx = s.mbx := rfl
@[simp] theorem State.zeroiseStart_fw : s.zeroiseStart.fw = s.fw := rfl
@[simp] theorem State.zeroiseStart_sramKey : s.zeroiseStart.boot.sramKey = false := rfl

/-! The last actions of a tick change the key store's status and the insole key. -/

@[simp] theorem State.tickKeys_alarm (tick : List (Nat × Word × Bool)) (code6 : Bool) : (s.tickKeys tick code6).alarm = s.alarm := by
  unfold State.tickKeys; split <;> split <;> rfl
@[simp] theorem State.tickKeys_boot (tick : List (Nat × Word × Bool)) (code6 : Bool) : (s.tickKeys tick code6).boot = s.boot := by
  unfold State.tickKeys; split <;> split <;> rfl
@[simp] theorem State.tickKeys_mbx (tick : List (Nat × Word × Bool)) (code6 : Bool) : (s.tickKeys tick code6).mbx = s.mbx := by
  unfold State.tickKeys; split <;> split <;> rfl
@[simp] theorem State.tickKeys_fw (tick : List (Nat × Word × Bool)) (code6 : Bool) : (s.tickKeys tick code6).fw = s.fw := by
  unfold State.tickKeys; split <;> split <;> rfl

/-- Without source 47 the key store keeps its status. -/
theorem State.tickKeys_keys {tick : List (Nat × Word × Bool)} (code6 : Bool) (hother : ∀ p ∈ tick, p.1 ≠ 47) :
    (s.tickKeys tick code6).keys = s.keys := by
  have hnone : (tick.any fun p => decide (p.1 = 47)) = false := by simpa using hother
  simp only [State.tickKeys, hnone, Bool.false_eq_true, if_false]
  split <;> rfl

/-! The state of clock C3 is one of the items of the Insole domain. -/

@[simp] theorem State.c3Set_boot (src : Nat) (v : Bool) : (s.c3Set src v).boot = s.boot := by
  unfold State.c3Set; split <;> rfl
@[simp] theorem State.c3Set_mbx (src : Nat) (v : Bool) : (s.c3Set src v).mbx = s.mbx := by
  unfold State.c3Set; split <;> rfl
@[simp] theorem State.c3Set_fw (src : Nat) (v : Bool) : (s.c3Set src v).fw = s.fw := by
  unfold State.c3Set; split <;> rfl
@[simp] theorem State.c3Set_keys (src : Nat) (v : Bool) : (s.c3Set src v).keys = s.keys := by
  unfold State.c3Set; split <;> rfl
@[simp] theorem State.c3Set_alarm (src : Nat) (v : Bool) : (s.c3Set src v).alarm = s.alarm := by
  unfold State.c3Set; split <;> rfl

/-- The state of clock C3 alone is what an assertion or its end notes in the Insole domain (14 R414). -/
theorem State.c3Set_eq (src : Nat) (v : Bool) : ∃ x, s.c3Set src v = s.withInsole fun i => { i with c3Out := x } := by
  unfold State.c3Set
  split
  · exact ⟨_, rfl⟩
  · exact ⟨s.insole.c3Out, rfl⟩

/-- A source that is not live is none of clock C3. -/
theorem State.c3Set_of_not_live {src : Nat} (v : Bool) (hdead : liveSource src = false) : s.c3Set src v = s := by
  have hplace : c3Place src = none := by
    simp only [liveSource, List.contains_eq_mem, List.mem_cons, decide_eq_false_iff_not, not_or] at hdead
    obtain ⟨hhigh, hlow, hshort, -⟩ := hdead
    simp only [c3Place, if_neg hhigh, if_neg hlow, if_neg hshort]
  simp only [State.c3Set, hplace]

end

/-! ### A tick on main power (13 R389, R390, R396) -/

/-- The most severe code of one code acts as that code. -/
theorem effCode_mostSevere_single (c : BitVec 3) : effCode (mostSevere [c]) = effCode c := by
  have hzero : effCode 0 = 0 := rfl
  simp only [mostSevere, List.foldl_cons, List.foldl_nil, hzero]
  split
  · rfl
  · omega

section

variable {s : State} {tick : List (Nat × Word × Bool)} (withhold : Bool)

/-- The registers that the most severe code `m` of a tick decides. -/
theorem State.tickMain_registers {m : Nat} (hm : effCode (mostSevere (tick.map s.alarm.applied)) = m) :
    (s.tickMain tick withhold).alarm.asserted = tick.foldl (fun b p => if pulseSource p.1 then b else setBit b p.1 true) s.alarm.asserted
    ∧ (s.tickMain tick withhold).alarm.halt = (s.alarm.halt || decide (3 ≤ m))
    ∧ (s.tickMain tick withhold).alarm.resetDecided = (s.alarm.resetDecided || (decide (4 ≤ m) && !withhold && !s.boot.pufFailed))
    ∧ (s.tickMain tick withhold).alarm.zero = (s.alarm.zero || decide (5 ≤ m))
    ∧ (s.tickMain tick withhold).alarm.resp = s.alarm.resp
    ∧ (s.tickMain tick withhold).alarm.raiseDet = s.alarm.raiseDet := by
  simp only [State.tickMain, withRng_alarm, withAlarm_alarm, tickKeys_alarm, apply_ite State.alarm, zeroiseStart_alarm,
    haltEngines_alarm, nmiAll_alarm, ite_self, hm]
  exact ⟨rfl, rfl, rfl, rfl, rfl, rfl⟩

/-- Below code 5 and without source 47 the key store stays as it was. -/
theorem State.tickMain_keys (hkeep : effCode (mostSevere (tick.map s.alarm.applied)) < 5) (hother : ∀ p ∈ tick, p.1 ≠ 47) :
    (s.tickMain tick withhold).keys = s.keys := by
  simp only [State.tickMain, withRng_keys, withAlarm_keys, tickKeys_keys _ _ hother, if_neg (Nat.not_le.mpr hkeep),
    apply_ite State.keys, haltEngines_keys, nmiAll_keys, ite_self, withLog_keys]

/-- From code 5 on the SRAM key is destroyed. -/
theorem State.tickMain_sramKey (hzero : 5 ≤ effCode (mostSevere (tick.map s.alarm.applied))) :
    (s.tickMain tick withhold).boot.sramKey = false := by
  simp only [State.tickMain, withRng_boot, withAlarm_boot, tickKeys_boot, if_pos hzero, zeroiseStart_sramKey]

/-- No response touches the mailboxes. -/
theorem State.tickMain_mbx : (s.tickMain tick withhold).mbx = s.mbx := by
  simp only [State.tickMain, withRng_mbx, withAlarm_mbx, tickKeys_mbx, apply_ite State.mbx, zeroiseStart_mbx, haltEngines_mbx,
    nmiAll_mbx, ite_self, withLog_mbx]

/-- No response touches what firmware holds. -/
theorem State.tickMain_fw : (s.tickMain tick withhold).fw = s.fw := by
  simp only [State.tickMain, withRng_fw, withAlarm_fw, tickKeys_fw, apply_ite State.fw, zeroiseStart_fw, haltEngines_fw,
    nmiAll_fw, ite_self, withLog_fw]

end

/-- A tick of one source on main power takes its response. -/
theorem State.alarmTick_single {p : Nat × Word × Bool} {s : State} (hmain : s.boot.dark = false) :
    s.alarmTick [p] = s.tickMain [p] false := by
  simp only [State.alarmTick, hmain, Bool.false_eq_true, if_false, List.cons_ne_nil]

/-- An assertion whose detail word its monitor can give is a tick, after the state of clock C3 (14 R414). -/
theorem exec_alarmAssert_single {src : Fin 57} {d : Word} {s : State} (hmet : sourceMet src.val d = true) :
    exec (.alarmAssert [(src, d)]) s = .next ((s.c3Set src.val true).alarmTick [(src.val, d, false)]) := by
  simp only [exec_alarmAssert, execAlarmAssert, List.filter_cons, hmet, if_true, List.filter_nil, List.map_cons, List.map_nil,
    State.c3Tick, List.foldl_cons, List.foldl_nil]

/-- Without the mark of the Cobbler's firmware-raised alarm the code in force is applied (R383 source 56). -/
theorem Alarm.applied_code (a : Alarm) (src : Nat) (d : Word) : a.applied (src, d, false) = a.code src := by
  simp [Alarm.applied]

/-! ### Assertions while the shelf is dark (13 R395, R399) -/

/-- An entry, or its overflow count, leaves the pending record alone (R405). -/
theorem Log.alarmEntry_pendCount (src n : Nat) (stamp : BitVec 48) (resp flags : Byte) (detail : Word) (l : Log) :
    (l.alarmEntry src n stamp resp flags detail).pendCount = l.pendCount := by
  unfold Log.alarmEntry
  split <;> rfl

/-- An assertion that is logged, coalesced or counted leaves the pending record alone (R404, R405). -/
theorem Log.assert_pendCount (src : Nat) (vbat : Bool) (stamp : BitVec 48) (resp flags : Byte) (detail : Word) (l : Log) :
    (l.assert src vbat stamp resp flags detail).pendCount = l.pendCount := by
  unfold Log.assert
  extract_lets w l'
  split
  · rfl
  · split
    · rfl
    · exact Log.alarmEntry_pendCount ..

/-- With the kept code 6 the insole key is zeroised and the code is pending; the count of pending assertions stays. -/
theorem State.assertDark_code6 {src : Nat} {s : State} (detail : Word) (most : BitVec 3) (hlive : liveSource src = true)
    (hcode : effCode (Bank.get 0 s.log.kept src) = 6) :
    ∃ l : Log, s.assertDark src detail most = (s.withLog fun _ => l).withInsole (fun i => { i with ik := none })
      ∧ l.pendCode6 = true ∧ l.pendCount = s.log.pendCount := by
  simp only [State.assertDark, hlive, hcode, Bool.not_true, Bool.false_eq_true, if_false, if_true]
  exact ⟨_, rfl, rfl, Log.assert_pendCount _ _ _ _ _ _ _⟩

/-! ### The tamper log (13 R402-R408) -/

/-- An update of the log puts there what its function gives. -/
theorem State.withLog_of_eq {g : Log → Log} {l : Log} {s : State} (heq : g s.log = l) : s.withLog g = s.withLog fun _ => l := by
  simp only [State.withLog, heq]

/-- The commit of the first registered entry: it takes the next sequence number and the next chain value. -/
theorem Log.commit_cons {it : LogItem} {rest : List LogItem} {l : Log} (dark : Bool) (hqueue : l.queue = it :: rest) :
    (l.commit dark).queue = rest
    ∧ (l.commit dark).entries = l.entries ++ [{ item := it, seq := l.next, chain := chainValue l.head it l.next }]
    ∧ (l.commit dark).next = l.next + 1 ∧ (l.commit dark).head = chainValue l.head it l.next := by
  simp only [Log.commit, hqueue]
  exact ⟨rfl, rfl, rfl, rfl⟩

/-- A window that counted nothing closes. -/
theorem Log.windowEnd_empty {src : Nat} {l : Log} (reopen : Option Bool) (stamp : BitVec 48)
    (hopen : (Bank.get {} l.windows src).isOpen = true) (hcount : (Bank.get {} l.windows src).count = 0) :
    l.windowEnd src reopen stamp = { l with windows := Bank.set {} src {} l.windows } := by
  simp only [Log.windowEnd, hopen, hcount, Bool.not_true, Bool.false_eq_true, if_false, if_true]

/-- A window that counted assertions registers a COALESCED entry where the log takes one. -/
theorem Log.windowEnd_counted {src : Nat} {w : CoalWin} {l : Log} (reopen : Option Bool) (stamp : BitVec 48)
    (hw : Bank.get {} l.windows src = w) (hopen : w.isOpen = true) (hcount : w.count ≠ 0) (hfull : l.full = false)
    (hsum : l.sumPending = false) :
    ∃ b, l.windowEnd src reopen stamp =
      { l.push { stamp := stamp, src := BitVec.ofNat 8 src, resp := w.resp, flags := w.flags ||| flCOALESCED,
                 count := BitVec.ofNat 8 (min w.count 255), detail := w.detail } with windows := b } := by
  simp only [Log.windowEnd, Log.alarmEntry, hw, hopen, hcount, hfull, hsum, Bool.not_true, Bool.or_self, Bool.false_eq_true, if_false]
  exact ⟨_, rfl⟩

/-- A release without an overflow count frees the exported entries up to the value written, and changes nothing else. -/
theorem Log.release_of_no_overflow {l : Log} (v : Word) (stamp : BitVec 48) (free : List Byte) (hexp : l.expValid = true)
    (hovf : l.ovf = []) : l.release v stamp free =
      { l with entries := l.entries.filter fun e => decide (min v.toNat l.exp.toNat < e.seq.toNat) } := by
  have hvalid : ¬ (!l.expValid) = true := by simp [hexp]
  rw [Log.release, if_neg hvalid]
  extract_lets lim kept l1
  change _ = l1
  by_cases hsame : kept.length = l.entries.length
  · have hall : kept = l.entries := List.filter_sublist.eq_of_length hsame
    rw [if_pos hsame]
    simp only [l1, hall]
  · rw [if_neg hsame, if_pos hovf]

/-- A window read of an entry that is not held notes nothing. -/
theorem Log.readWord_of_none {l : Log} {seq : Word} (w : Nat) (hnone : l.find seq = none) : l.readWord seq w = l := by
  simp only [Log.readWord, hnone]

section

variable (s : State)

/-- A protected frame on the pair link changes the output and the link. -/
theorem State.weltSealed_eq (l : Nat) (type : Byte) (plain : List Byte) :
    ∃ o w, s.weltSealed l type plain = (s.withOut fun _ => o).withWelt fun _ => w := by
  unfold State.weltSealed
  split
  · exact ⟨s.out, s.welt, rfl⟩
  · split
    · next hlane =>
      simp only [State.weltFrame, if_pos hlane]
      exact ⟨_, _, rfl⟩
    · exact ⟨s.out, s.welt, rfl⟩

/-- Mirroring the chain head changes the pair link, the output and the counter of free values (16 R465). -/
theorem State.mirrorHead_eq : ∃ n o w, s.mirrorHead = ((s.withFreeCount fun _ => n).withOut fun _ => o).withWelt fun _ => w := by
  unfold State.mirrorHead State.mirror
  split
  · obtain ⟨o, w, h⟩ := State.weltSealed_eq _ _ _ _
    exact ⟨_, o, w, h⟩
  · exact ⟨s.freeCount, s.out, s.welt, rfl⟩

end

/-! ### The statement -/

/-- Settles O26: an assertion on main power has the effect of its tick, one in the dark that of the kept code, and each other command is
the branch of its definition that its guards select. A detail word at the limit of a monitor counts as past it (log entry 130), a
window that counted registers its COALESCED entry (log entry 83), and the level of a tamper output is a free value (log entry 4). -/
theorem completeAlarm : Obligations.CompleteAlarm := by
  unfold Obligations.CompleteAlarm
  refine ⟨?assert, ?dark, ?darkNotLive, ?reset, ?lift, ?commit, ?windowEmpty, ?windowCounted, ?raise, ?raiseLevel,
    exec_almRespWrite_machine, ?exported, ?release, ?dataHeld, ?dataNone, ?tamp, ?deassert⟩
  case assert =>
    intro src d s hmain hpulse hpuf hmet
    have hstep : exec (.alarmAssert [(src, d)]) s = .next ((s.c3Set src.val true).tickMain [(src.val, d, false)] false) :=
      (exec_alarmAssert_single hmet).trans (congrArg _ (State.alarmTick_single ((congrArg _ (s.c3Set_boot ..)).trans hmain)))
    have hcode : effCode (mostSevere ([(src.val, d, false)].map (s.c3Set src.val true).alarm.applied))
        = effCode (s.alarm.code src.val) := by
      rw [List.map_singleton, effCode_mostSevere_single, Alarm.applied_code, State.c3Set_alarm]
    obtain ⟨hasserted, hhalt, hreset, hzero, hresp, -⟩ := State.tickMain_registers false hcode
    simp only [State.c3Set_alarm, State.c3Set_boot, List.foldl_cons, List.foldl_nil, hpulse, hpuf, Bool.false_eq_true, if_false,
      Bool.not_false, Bool.and_true] at hasserted hhalt hreset hzero hresp
    refine ⟨_, hstep, hasserted, hhalt, hreset, hzero, hresp, ?keys, ?sramKey, ?mbx, ?fw⟩
    case keys =>
      intro hkeep hother
      rw [State.tickMain_keys false (hcode ▸ hkeep) (by simpa using hother), State.c3Set_keys]
    case sramKey => exact fun hzero => State.tickMain_sramKey false (hcode ▸ hzero)
    case mbx => rw [State.tickMain_mbx, State.c3Set_mbx]
    case fw => rw [State.tickMain_fw, State.c3Set_fw]
  case dark =>
    intro src d s hdark hlive hmet hcode
    obtain ⟨x, hc3⟩ := s.c3Set_eq src.val true
    obtain ⟨l, hassert, hpend, hcount⟩ :=
      State.assertDark_code6 (s := s.withInsole fun i => { i with c3Out := x }) d (Bank.get 0 s.log.kept src.val) hlive hcode
    have hstep : exec (.alarmAssertDark src d) s = .next (((s.withInsole fun i => { i with c3Out := x }).withLog fun _ => l).withInsole
        fun i => { i with ik := none }) := by
      simp only [exec_alarmAssertDark, execAlarmAssertDark, hdark, hmet, Bool.and_self, if_true, hc3, hassert]
    exact ⟨_, hstep, rfl, hpend, hcount, rfl, rfl⟩
  case darkNotLive =>
    intro src d s hdark hlive
    simp only [exec_alarmAssertDark, execAlarmAssertDark, State.c3Set_of_not_live s true hlive, State.assertDark, hlive,
      Bool.not_false, if_true, ite_self]
  case reset =>
    intro s hdecided hrunning hnow hpaired
    have hgo : (s.alarm.resetDecided && !s.boot.inReset && (s.alarm.resetNow || !s.alarm.zero)) = true := by
      rcases hnow with h | h <;> simp [hdecided, hrunning, h]
    simp only [exec_mainResetAssert, execMainResetAssert, if_pos hgo, hpaired, Bool.true_or, if_true]
  case lift =>
    intro s hcleared hcode3 hdecided
    simp only [exec_haltLift, execHaltLift, hcleared, hcode3, hdecided, Bool.not_false, Bool.and_self, if_true]
  case commit =>
    intro it rest s hqueue
    obtain ⟨n, o, w, hmirror⟩ := (s.withLog fun l => l.commit s.boot.dark).mirrorHead_eq
    have hstep : exec .logCommit s = .next ((s.withLog fun l => l.commit s.boot.dark).mirrorHead) := by
      simp only [exec_logCommit, execLogCommit, hqueue, List.isEmpty_cons, Bool.false_eq_true, if_false]
    obtain ⟨hrest, hentries, hnext, hhead⟩ := Log.commit_cons s.boot.dark hqueue
    exact ⟨_, hstep.trans (congrArg _ hmirror), hrest, hentries, hnext, hhead, rfl, rfl⟩
  case windowEmpty =>
    exact fun src s hopen hcount => congrArg _ (State.withLog_of_eq (Log.windowEnd_empty _ _ hopen hcount))
  case windowCounted =>
    intro src w s hw hopen hcount hfull hsum
    obtain ⟨b, hend⟩ := Log.windowEnd_counted (some s.boot.dark) s.insole.rtc hw hopen hcount hfull hsum
    exact ⟨_, congrArg Host.Outcome.next (State.withLog_of_eq hend), rfl, rfl, rfl⟩
  case raise =>
    intro writer v s hgo hmain
    obtain ⟨hasserted, hhalt, -, -, -, hdet⟩ := State.tickMain_registers (s := s)
      (tick := [(56, s.alarm.raiseDet, decide (writer.val = 4 ∧ s.alarm.raiseDet = 0x43))]) false (effCode_mostSevere_single _)
    refine ⟨_, ?_, hhalt, hasserted, hdet⟩
    rw [exec_almRaise, execAlmRaise, if_pos ⟨rfl, hgo⟩, State.alarmTick_single hmain]
  case raiseLevel => exact fun writer level v s hlevel => congrArg _ (if_neg fun h => hlevel h.1)
  case exported =>
    intro v s hvalid hread hexp
    have hset : s.log.setExp v = { s.log with exp := v, expValid := true } := if_pos ⟨hvalid, hread, hexp⟩
    exact congrArg _ ((if_pos rfl).trans (State.withLog_of_eq hset))
  case release =>
    intro v s hexp hovf
    have hrelease := State.withLog_of_eq (s := s.withFreeCount (· + 1)) (Log.release_of_no_overflow v s.insole.rtc
      ((List.range 58).map (Config.freeByte s.freeCount)) hexp hovf)
    exact ⟨_, congrArg Host.Outcome.next ((if_pos rfl).trans hrelease), rfl, rfl, rfl, rfl, rfl⟩
  case dataHeld =>
    intro w e s hheld
    simp only [exec_almLogDataRead, execAlmLogDataRead, hheld]
  case dataNone =>
    intro w s hnone
    simp only [exec_almLogDataRead, execAlmLogDataRead, hnone]
    exact congrArg _ (State.withLog_of_eq (Log.readWord_of_none w.val hnone))
  case tamp =>
    rintro loop level d u s rfl
    exact congrArg _ (ite_not ..)
  case deassert =>
    intro src s
    obtain ⟨x, hc3⟩ := (s.withAlarm fun a => { a with asserted := setBit a.asserted src.val false }).c3Set_eq src.val false
    exact ⟨_, congrArg Host.Outcome.next hc3, rfl, rfl, rfl, rfl⟩

end Sys2Proof.Machine

/-! SUPPORT. The queue and the outcome of a step: the front command runs, the rest stays, and every command answers a next state (95; log
entries 1 and 2). -/

namespace Sys2Proof.Machine

/-- KAT_SCHEDULE answers a next state on each kind of unit (17 R491). -/
theorem execKatSchedule_next (u : Fin 24) (s : State) : ∃ t, execKatSchedule u s = .next t := by
  unfold execKatSchedule
  extract_lets n
  split
  · exact ⟨s, rfl⟩
  · split
    · split
      · exact ⟨_, rfl⟩
      · exact ⟨s, rfl⟩
    · split <;> exact ⟨_, rfl⟩

/-- Every command answers a next state: its meaning is a `.next` by definition, and KAT_SCHEDULE chooses among three that are. -/
theorem exec_next (i : Instr) (s : State) : ∃ t, exec i s = .next t := by
  cases i
  case katSchedule u => exact execKatSchedule_next u s
  all_goals exact ⟨_, rfl⟩

/-- Settles O1: a step on a queue with a front command is that command's meaning. -/
theorem stepRunsFront : Obligations.StepRunsFront := by
  unfold Obligations.StepRunsFront
  exact fun _ _ _ => rfl

/-- Settles O7: the first part of `Keeps`, carried across the step, is that the queue has lost its front. -/
theorem queueFifo : Obligations.QueueFifo := by
  unfold Obligations.QueueFifo
  intro s t h
  obtain ⟨hpending, -⟩ := step_keeps h
  exact hpending

/-- Settles O9: a step idles on an empty queue and otherwise runs a command, which answers. -/
theorem everyStepAnswers : Obligations.EveryStepAnswers := by
  unfold Obligations.EveryStepAnswers
  intro s
  cases hq : s.pending with
  | nil => exact ⟨s.idle, by simp only [step, hq]⟩
  | cons c rest =>
    obtain ⟨t, ht⟩ := exec_next c { s with pending := rest }
    exact ⟨t, by simp only [step, hq, ht]⟩

end Sys2Proof.Machine

/-! SUPPORT. What an Awl instruction that is fetched answers, by the shape of its body (18 R503, R505; 19 R532). -/

namespace Sys2Proof.Machine

section
variable {c op : Nat} {i : AwlIn} {legal : Bool} {s t : State} {v : Word}

/-- An instruction that is fetched in an illegal form takes slot 4 at its PC, whatever its body would do. -/
theorem State.runInstr_slot4 {body : State → Except Exc State} (hfetch : s.Fetches c op i) (hform : legal = false) :
    (.next (s.runInstr c op i legal body) : Host.Outcome State Fault Refusal)
      = .next ((s.tick c).takeExc c { slot := 4 } ((s.tick c).core c).pc none i.entry) :=
  congrArg _ (State.runInstr_illegal hfetch hform)

/-- An instruction that is fetched and legal answers what its body completes with. -/
theorem State.runInstr_completes {body : State → Except Exc State} {u : State} (hfetch : s.Fetches c op i) (hform : legal = true)
    (hbody : body (s.tick c) = .ok u) :
    (.next (s.runInstr c op i legal body) : Host.Outcome State Fault Refusal) = .next u :=
  congrArg _ (State.runInstr_ok hfetch hform hbody)

/-- An instruction that is fetched and legal takes the exception that its body raises, at its own PC. -/
theorem State.runInstr_raises {body : State → Except Exc State} {e : Exc} (hfetch : s.Fetches c op i) (hform : legal = true)
    (hbody : body (s.tick c) = .error e) :
    (.next (s.runInstr c op i legal body) : Host.Outcome State Fault Refusal)
      = .next ((s.tick c).takeExc c e ((s.tick c).core c).pc none i.entry) :=
  congrArg _ (State.runInstr_error hfetch hform hbody)

/-- An instruction that cannot fail answers its own change of the state. -/
theorem State.runInstr_total {f : State → State} (hfetch : s.Fetches c op i) (hform : legal = true) :
    (.next (s.runInstr c op i legal fun t => .ok (f t)) : Host.Outcome State Fault Refusal) = .next (f (s.tick c)) :=
  State.runInstr_completes hfetch hform rfl

/-- An instruction whose operand is read changes the registers by its function of the operand. -/
theorem State.runInstr_operand {zi zm : Bool} {f : Word → Core → Core → Core} (hfetch : s.Fetches c op i) (hform : legal = true)
    (hop : (s.tick c).operand c i zi zm = .ok (v, t)) :
    (.next (s.runInstr c op i legal fun t => t.withOperand c i zi zm f) : Host.Outcome State Fault Refusal)
      = .next (t.retire c fun k => f v k (k.postInc i)) :=
  State.runInstr_completes hfetch hform (by simp only [State.withOperand, hop])

end

end Sys2Proof.Machine

/-! SUPPORT. The forms that the opcode table leaves out, and the statement about illegal instructions (18 R505, R507). -/

namespace Sys2Proof.Machine

section
variable {i : AwlIn}

/-! ### A form is illegal where one of its fields is outside its column -/

theorem formNone_false (h : amOf i ≠ 0 ∨ szOf i ≠ 0 ∨ modOf i ≠ 0 ∨ i.d16 ≠ 0) : formNone i = false := by
  simp only [formNone, amImm, szNone, modZero, d16Zero, Bool.and_eq_false_iff, decide_eq_false_iff_not]
  tauto

theorem formReg_false (h : szOf i = 3 ∨ 4 < modOf i) : formReg i = false := by
  simp only [formReg, szBHW, regOk, Bool.and_eq_false_iff, decide_eq_false_iff_not]
  omega

theorem formStore_false (h : amOf i = 0 ∨ szOf i = 3 ∨ 4 < modOf i) : formStore i = false := by
  simp only [formStore, amMem, szBHW, regOk, Bool.and_eq_false_iff, decide_eq_false_iff_not]
  omega

theorem formLong_false (h : szOf i < 2 ∨ (szOf i = 3 ∧ amOf i = 0) ∨ modOf i ≠ 0) : formLong i = false := by
  simp only [formLong, amMem, szW, modZero, Bool.and_eq_false_iff, Bool.or_eq_false_iff, decide_eq_false_iff_not]
  omega

theorem formLongStore_false (h : amOf i = 0 ∨ szOf i < 2 ∨ modOf i ≠ 0) : (amMem i && formLong i) = false := by
  simp only [formLong, amMem, szW, modZero, Bool.and_eq_false_iff, Bool.or_eq_false_iff, decide_eq_false_iff_not]
  omega

theorem formRegImm_false (h : amOf i ≠ 0 ∨ szOf i ≠ 2 ∨ 4 < modOf i) : formRegImm i = false := by
  simp only [formRegImm, amImm, szW, regOk, Bool.and_eq_false_iff, decide_eq_false_iff_not]
  omega

theorem formMove_false (h : amOf i ≠ 0 ∨ szOf i ≠ 2 ∨ 4 < modOf i ∨ 4 < d16Of i) : (formRegImm i && decide (d16Of i ≤ 4)) = false := by
  simp only [formRegImm, amImm, szW, regOk, Bool.and_eq_false_iff, decide_eq_false_iff_not]
  omega

theorem formAtomic_false (h : amOf i = 0 ∨ szOf i ≠ 2 ∨ 4 < modOf i) : formAtomic i = false := by
  simp only [formAtomic, amMem, szW, regOk, Bool.and_eq_false_iff, decide_eq_false_iff_not]
  omega

theorem formExtend_false (h : amOf i ≠ 0 ∨ 1 < szOf i ∨ 4 < modOf i ∨ i.d16 ≠ 0) :
    (amImm i && decide (szOf i ≤ 1) && regOk i && d16Zero i) = false := by
  simp only [amImm, regOk, d16Zero, Bool.and_eq_false_iff, decide_eq_false_iff_not, Nat.not_le]
  tauto

theorem formStack_false (h : amOf i ≠ 0 ∨ szOf i ≠ 2 ∨ 4 < modOf i ∨ i.d16 ≠ 0) : formStack i = false := by
  simp only [formStack, formRegImm, amImm, szW, regOk, d16Zero, Bool.and_eq_false_iff, decide_eq_false_iff_not, Nat.not_le]
  tauto

theorem formMac_false (h : szOf i ≠ 2 ∨ 1 < modOf i) : formMac i = false := by
  simp only [formMac, szW, Bool.and_eq_false_iff, decide_eq_false_iff_not]
  omega

theorem formAcc_false (h : szOf i ≠ 2 ∨ modOf i ≠ 0) : formAcc i = false := by
  simp only [formAcc, szW, modZero, Bool.and_eq_false_iff, decide_eq_false_iff_not]
  exact h

theorem formRound_false (h : amOf i ≠ 0 ∨ szOf i ≠ 2 ∨ modOf i ≠ 0 ∨ 31 < d16Of i) :
    (amImm i && formAcc i && decide (d16Of i < 32)) = false := by
  simp only [amImm, formAcc, szW, modZero, Bool.and_eq_false_iff, decide_eq_false_iff_not]
  omega

theorem formNormalise_false (h : amOf i ≠ 0 ∨ szOf i ≠ 0 ∨ 1 < modOf i ∨ i.d16 ≠ 0) :
    (amImm i && szNone i && decide (modOf i ≤ 1) && d16Zero i) = false := by
  simp only [amImm, szNone, d16Zero, Bool.and_eq_false_iff, decide_eq_false_iff_not, Nat.not_le]
  tauto

theorem formLoadFraction_false (h : szOf i = 3 ∨ modOf i ≠ 0) : (szBHW i && modZero i) = false := by
  simp only [szBHW, modZero, Bool.and_eq_false_iff, decide_eq_false_iff_not]
  omega

theorem formMoveAcc_false (h : amOf i ≠ 0 ∨ szOf i ≠ 0 ∨ 4 < modOf i ∨ i.d16 ≠ 0) :
    (amImm i && szNone i && regOk i && d16Zero i) = false := by
  simp only [amImm, szNone, regOk, d16Zero, Bool.and_eq_false_iff, decide_eq_false_iff_not, Nat.not_le]
  tauto

theorem formBranch_false (h : amOf i ∉ [1, 2, 3, 7] ∨ szOf i ≠ 2 ∨ modOf i ≠ 0) : formBranch i = false := by
  simp only [formBranch, amBranch, szW, modZero, Bool.and_eq_false_iff, decide_eq_false_iff_not, List.contains_eq_mem]
  tauto

theorem formTrap_false (h : amOf i ≠ 0 ∨ szOf i ≠ 2 ∨ modOf i ≠ 0 ∨ 255 < d16Of i) :
    (amImm i && szW i && modZero i && decide (d16Of i < 256)) = false := by
  simp only [amImm, szW, modZero, Bool.and_eq_false_iff, decide_eq_false_iff_not]
  omega

/-- No system register has a number above 255 (R521). -/
theorem sysRights_none_of_gt {n : Nat} (h : 255 < n) : sysRights n = none := by
  obtain ⟨m, rfl⟩ : ∃ m, n = m + 21 := ⟨n - 21, by omega⟩
  rfl

theorem formSys_false (h : amOf i ≠ 0 ∨ szOf i ≠ 2 ∨ 4 < modOf i ∨ 255 < d16Of i ∨ sysRights (d16Of i) = none) :
    formSys i = false := by
  have hnum : 255 < d16Of i ∨ sysRights (d16Of i) = none → (sysRights (d16Of i)).isSome = false := by
    rintro (hbig | hnone)
    · rw [sysRights_none_of_gt hbig]; rfl
    · rw [hnone]; rfl
  rw [formSys, Bool.and_eq_false_iff]
  rcases h with ham | hsz | hmod | hnumber
  · exact .inl (formRegImm_false (.inl ham))
  · exact .inl (formRegImm_false (.inr (.inl hsz)))
  · exact .inl (formRegImm_false (.inr (.inr hmod)))
  · exact .inr (hnum hnumber)

end

/-! ### The statement -/

/-- Settles O11: an opcode of the reserved ranges has no legal form, and each other instruction is checked against the form of its row. -/
theorem awlIllegalForms : Obligations.AwlIllegalForms := by
  unfold Obligations.AwlIllegalForms
  refine ⟨?reserved, ?noOperand, ?register, ?store, ?long, ?longStore, ?move, ?loadHigh, ?address, ?extend, ?stack, ?mac, ?acc, ?round,
    ?normalise, ?fraction, ?moveAcc, ?branch, ?trap, ?atomic, ?system⟩
  case reserved =>
    intro c op i s hfetch hop
    have hreserved : reservedOp op.toNat = true := decide_eq_true hop
    rw [exec_reservedOpcode, execReservedOpcode, if_pos hreserved]
    exact State.runInstr_slot4 hfetch rfl
  case noOperand =>
    intro c i s h
    and_intros <;> exact fun hfetch => State.runInstr_slot4 hfetch (formNone_false h)
  case register =>
    intro c i s h
    and_intros <;> exact fun hfetch => State.runInstr_slot4 hfetch (formReg_false h)
  case store => exact fun c i s hfetch h => State.runInstr_slot4 hfetch (formStore_false h)
  case long => exact fun c i s hfetch h => State.runInstr_slot4 hfetch (formLong_false h)
  case longStore => exact fun c i s hfetch h => State.runInstr_slot4 hfetch (formLongStore_false h)
  case move => exact fun c i s hfetch h => State.runInstr_slot4 hfetch (formMove_false h)
  case loadHigh => exact fun c i s hfetch h => State.runInstr_slot4 hfetch (formRegImm_false h)
  case address => exact fun c i s hfetch h => State.runInstr_slot4 hfetch (formAtomic_false h)
  case extend => exact fun c i s hfetch h => State.runInstr_slot4 hfetch (formExtend_false h)
  case stack =>
    intro c i s h
    and_intros <;> exact fun hfetch => State.runInstr_slot4 hfetch (formStack_false h)
  case mac =>
    intro c i s h
    and_intros <;> exact fun hfetch => State.runInstr_slot4 hfetch (formMac_false h)
  case acc =>
    intro c i s h
    and_intros <;> exact fun hfetch => State.runInstr_slot4 hfetch (formAcc_false h)
  case round => exact fun c i s hfetch h => State.runInstr_slot4 hfetch (formRound_false h)
  case normalise => exact fun c i s hfetch h => State.runInstr_slot4 hfetch (formNormalise_false h)
  case fraction => exact fun c i s hfetch h => State.runInstr_slot4 hfetch (formLoadFraction_false h)
  case moveAcc => exact fun c i s hfetch h => State.runInstr_slot4 hfetch (formMoveAcc_false h)
  case branch =>
    intro c i s h
    and_intros <;> exact fun hfetch => State.runInstr_slot4 hfetch (formBranch_false h)
  case trap => exact fun c i s hfetch h => State.runInstr_slot4 hfetch (formTrap_false h)
  case atomic =>
    intro c i s h
    and_intros <;> exact fun hfetch => State.runInstr_slot4 hfetch (formAtomic_false h)
  case system =>
    intro c i s h
    and_intros <;> exact fun hfetch => State.runInstr_slot4 hfetch (formSys_false h)

end Sys2Proof.Machine

/-! SUPPORT. Registers by name, operands, and the statements about them (18 R501-R504). -/

namespace Sys2Proof.Machine

section
variable {c : Nat} {i : AwlIn} {s : State} {k : Core}

/-! ### Registers by name (R502) -/

/-- A write of a register leaves the PC. -/
@[simp] theorem Core.setReg_pc (n : Nat) (v : Word) (k : Core) : (k.setReg n v).pc = k.pc := by
  unfold Core.setReg
  split
  case h_4 => cases h : k.level <;> simp only [Core.setSp]
  all_goals rfl

/-- The flags of a result leave the PC. -/
@[simp] theorem Core.setZN_pc (v : Word) (k : Core) : (k.setZN v).pc = k.pc := rfl

/-- A stack pointer that is written is read back at its level. -/
theorem Core.sp_setSp (l : Level) (v : Word) (k : Core) : (k.setSp l v).sp l = v := by
  cases l <;> rfl

/-- A write of A leaves its word in the low bits. -/
theorem signExtend_low (v : Word) : (v.signExtend 40).setWidth 32 = v := by
  apply BitVec.eq_of_getLsbD_eq
  intro n hn
  rw [BitVec.getLsbD_setWidth, BitVec.getLsbD_signExtend, if_pos hn]
  simp only [hn, decide_true, Bool.true_and, show n < 40 by omega]

/-- A write of A copies bit 31 to the guard. -/
theorem signExtend_guard (v : Word) {n : Nat} (hlo : 32 ≤ n) (hhi : n < 40) : (v.signExtend 40).getLsbD n = v.getLsbD 31 := by
  rw [BitVec.getLsbD_signExtend, if_neg (Nat.not_lt.mpr hlo), BitVec.msb_eq_getLsbD_last]
  simp only [hhi, decide_true, Bool.true_and]

/-- Settles O12: a read and a write of REG are read off by its number; MOV is that read and write, and its form allows no number above 4. -/
theorem registerNames : Obligations.RegisterNames := by
  unfold Obligations.RegisterNames
  refine ⟨fun k => ⟨rfl, rfl, rfl, rfl, rfl⟩, ?write, ?moves, ?illegal⟩
  case write =>
    intro k v
    exact ⟨rfl, rfl, rfl, rfl, Core.sp_setSp k.level v k, rfl, signExtend_low v, fun n hlo hhi => signExtend_guard v hlo hhi⟩
  case moves =>
    intro c i s hfetch ham hsz hmod hsrc
    have hform : (formRegImm i && decide (d16Of i ≤ 4)) = true := by
      simp [formRegImm, amImm, szW, regOk, ham, hsz, hmod, hsrc]
    refine (State.runInstr_total hfetch hform).trans ?_
    simp only [State.retire, Core.setZN_pc, Core.setReg_pc]
  case illegal =>
    intro c i s hfetch h
    exact State.runInstr_slot4 hfetch (formMove_false (.inr (.inr h)))

/-! ### Effective addresses and operands (R503, R504) -/

/-- EA and the update of X and Y by addressing mode. -/
theorem Core.ea_postInc (k : Core) (i : AwlIn) :
    (amOf i = 1 → k.ea i = k.dp + i.d16.setWidth 32) ∧ (amOf i = 2 → k.ea i = k.x + i.d16.signExtend 32)
      ∧ (amOf i = 3 → k.ea i = k.y + i.d16.signExtend 32) ∧ (amOf i = 4 → k.ea i = k.sp k.level + i.d16.signExtend 32)
      ∧ (amOf i = 5 → k.ea i = k.x ∧ k.postInc i = { k with x := k.x + i.d16.signExtend 32 })
      ∧ (amOf i = 6 → k.ea i = k.y ∧ k.postInc i = { k with y := k.y + i.d16.signExtend 32 })
      ∧ (amOf i = 7 → k.ea i = k.pc + i.d16.signExtend 32 * 4) ∧ (amOf i ≠ 5 → amOf i ≠ 6 → k.postInc i = k) := by
  refine ⟨?_, ?_, ?_, ?_, ?_, ?_, ?_, ?_⟩
  case refine_8 =>
    intro hx hy
    unfold Core.postInc
    split
    · contradiction
    · contradiction
    · rfl
  all_goals intro h; simp only [Core.ea, Core.postInc, h, sext16, and_self]

/-- The operand of a load: its bytes extended from their own width. -/
theorem extend_eq_signExtend {n : Nat} (hn : n ≤ 2) {bs : List Byte} (hlen : bs.length = 2 ^ n) (zero : Bool) :
    extend zero bs = if zero then BitVec.ofNat 32 (ofLe bs) else (BitVec.ofNat (8 * 2 ^ n) (ofLe bs)).signExtend 32 := by
  obtain rfl | rfl | rfl : n = 0 ∨ n = 1 ∨ n = 2 := by omega
  · simp only [extend, hlen]; rfl
  · simp only [extend, hlen]; rfl
  · cases zero
    · simp only [extend, hlen]
      exact (BitVec.signExtend_eq _).symm
    · simp only [extend, hlen]; rfl

/-- A load of data TCM that passes its checks is the bytes there and changes nothing. -/
theorem State.loadEa_dtcm {n : Nat} (hpos : 0 < n) (hlo : 0x80000 ≤ ((s.core c).ea i).toNat)
    (hhi : ((s.core c).ea i).toNat + n ≤ 0xA0000)
    (hcheck : s.dataCheck c (s.core c).level ((s.core c).ea i).toNat n 0 (decide (amOf i = 4)) false = none)
    (herr : i.accessErr = none) :
    s.loadEa c i n false = .ok (Bank.readBytes (Bank.get [] s.mem.dtcm c) ((s.core c).ea i).toNat n, s) := by
  have hnoErr : accessErrs i ((s.core c).ea i).toNat n 0 = none := by simp [accessErrs, herr]
  simp only [State.loadEa, State.loadMem, hcheck, hnoErr, State.readArea, areaOf_dtcm hpos hlo hhi]

/-- Settles O13: EA is read off by mode, an immediate reads no memory, and a load of data TCM is its bytes, extended. -/
theorem awlOperands : Obligations.AwlOperands := by
  unfold Obligations.AwlOperands
  refine ⟨Core.ea_postInc, ?immediate, ?memory⟩
  case immediate =>
    intro c i zi zm s ham
    rw [State.operand, if_pos ham]
    rfl
  case memory =>
    intro c i zi zm s ham hsz hlo hhi hcheck herr
    have hload := State.loadEa_dtcm (Nat.two_pow_pos _) hlo hhi hcheck herr
    have hlen : (Bank.readBytes (Bank.get [] s.mem.dtcm c.val) ((s.core c.val).ea i).toNat (2 ^ szOf i)).length = 2 ^ szOf i := by
      simp [Bank.readBytes]
    rw [State.operand, if_neg ham, sizeOf, hload]
    simp only [extend_eq_signExtend hsz hlen]

end

end Sys2Proof.Machine

/-! SUPPORT. Entering an exception whose frame passes its checks (19 R530, R533-R535). -/

namespace Sys2Proof.Machine

section
variable {c : Nat} {s : State}

/-! ### The core after a change -/

/-- In canonical form a core reads back as it was changed. -/
theorem State.core_updCore_same (f : Core → Core) (hwf : Bank.wf {} s.cores) : (s.updCore c f).core c = f (s.core c) :=
  Bank.get_upd_same ({} : Core) c f s.cores hwf

/-! ### The status word on entry (18 R499) -/

/-- The PL of a status word, as two of its bits. -/
theorem Core.pl_eq_bits (k : Core) : k.pl = (k.st.extractLsb' 12 2).toNat := by
  simp [Core.pl, BitVec.extractLsb'_toNat, Nat.shiftRight_eq_div_pow]

/-- The IPL of a status word, as three of its bits. -/
theorem Core.ipl_eq_bits (k : Core) : k.ipl = (k.st.extractLsb' 9 3).toNat := by
  simp [Core.ipl, BitVec.extractLsb'_toNat, Nat.shiftRight_eq_div_pow]

/-- A level that is written to PL is read back. -/
theorem Core.pl_setPl (l : Level) (k : Core) : (k.setPl (plOf l)).pl = plOf l := by
  have hbits : (setField k.st 12 2 (plOf l)).extractLsb' 12 2 = BitVec.ofNat 2 (plOf l) := by
    apply BitVec.eq_of_getLsbD_eq
    intro j hj
    interval_cases j <;> cases l <;> simp [setField, plOf]
  rw [Core.pl_eq_bits, Core.setPl, hbits]
  cases l <;> rfl

/-- IPL 7 is read back. -/
theorem Core.ipl_setIpl_seven (k : Core) : (k.setIpl 7).ipl = 7 := by
  have hbits : (setField k.st 9 3 7).extractLsb' 9 3 = 7#3 := by
    apply BitVec.eq_of_getLsbD_eq
    intro j hj
    interval_cases j <;> simp [setField]
  rw [Core.ipl_eq_bits, Core.setIpl, hbits]
  rfl

/-- IPL 7 leaves PL. -/
theorem Core.pl_setIpl_seven (k : Core) : (k.setIpl 7).pl = k.pl := by
  have hbits : (setField k.st 9 3 7).extractLsb' 12 2 = k.st.extractLsb' 12 2 := by
    apply BitVec.eq_of_getLsbD_eq
    intro j hj
    interval_cases j <;> simp [setField]
  rw [Core.pl_eq_bits, Core.pl_eq_bits, Core.setIpl, hbits]

/-- The level is fixed by PL. -/
theorem Core.level_of_pl {k : Core} {l : Level} (h : k.pl = plOf l) : k.level = l := by
  rw [Core.level, h]
  cases l <;> rfl

/-- On entry without an IPL of its own a slot goes to its vector, at the taking level and without a reservation; slots 1, 2 and 3 set
IPL 7, and the other registers stay. -/
theorem Core.enter_effect {slot : Nat} (l : Level) (k : Core) :
    (k.enter slot l none).pc = BitVec.ofNat 32 (0x00040000 + 16 * slot) ∧ (k.enter slot l none).level = l
      ∧ (∀ l', (k.enter slot l none).sp l' = k.sp l') ∧ (k.enter slot l none).resv = none
      ∧ ((slot = 1 ∨ slot = 2 ∨ slot = 3) → (k.enter slot l none).ipl = 7)
      ∧ (k.enter slot l none).x = k.x ∧ (k.enter slot l none).y = k.y ∧ (k.enter slot l none).a = k.a
      ∧ (k.enter slot l none).dp = k.dp := by
  simp only [Core.enter]
  split
  · exact ⟨rfl, Core.level_of_pl ((Core.pl_setIpl_seven _).trans (Core.pl_setPl l k)), fun l' => by cases l' <;> rfl, rfl,
      fun _ => Core.ipl_setIpl_seven _, rfl, rfl, rfl, rfl⟩
  · rename_i hother
    exact ⟨rfl, Core.level_of_pl (Core.pl_setPl l k), fun l' => by cases l' <;> rfl, rfl, fun h => absurd h (by omega), rfl, rfl, rfl, rfl⟩

/-- A stack pointer leaves the other registers. -/
theorem Core.setSp_frame (l : Level) (v : Word) (k : Core) :
    (k.setSp l v).x = k.x ∧ (k.setSp l v).y = k.y ∧ (k.setSp l v).a = k.a ∧ (k.setSp l v).dp = k.dp := by
  cases l <;> exact ⟨rfl, rfl, rfl, rfl⟩

/-! ### The frame (19 R533) -/

/-- A frame is eight words. -/
theorem frameBytes_length (k : Core) (cause pc : Word) (addr : Nat) : (frameBytes k cause pc addr).length = 32 := by
  simp [frameBytes, bytesOf, frameWords]

/-- In canonical form the bytes written are the bytes read. -/
theorem Bank.readBytes_writeBytes {bs : List Byte} {m : Bank Byte} {a n : Nat} (hlen : bs.length = n) (hwf : Bank.wf 0 m) :
    Bank.readBytes (Bank.writeBytes m a bs) a n = bs := by
  apply List.ext_getElem
  · simp [Bank.readBytes, hlen]
  · intro j _ hj
    simp only [Bank.readBytes, List.getElem_map, List.getElem_range]
    rw [Bank.get_writeBytes_same bs m a j hwf hj, List.getD_eq_getElem _ _ hj]

/-- An exception whose frame passes its checks writes the frame and enters at the taking level. -/
theorem State.takeExc_enters {e : Exc} {pc : Word} {env : EntryEnv} {l : Level} (hmpu : e.mpu = none) (hecc : e.ecc = none)
    (hslot : e.slot ≠ 10) (hlevel : takingLevel e.slot (s.core c).level = l) (hreset : (s.core c).inReset = false)
    (hcheck : s.frameCheck c l = none) (herr : env.frameErr = false) :
    s.takeExc c e pc none env =
      (s.writeFrame c l (((s.core c).sp l).toNat - 32)
        (frameBytes (s.core c) (causeWord (s.core c) e) pc (((s.core c).sp l).toNat - 32))).updCore c
        fun k => (k.setSp l (k.sp l - 32)).enter e.slot l none := by
  simp only [State.takeExc, State.recordMpu, hmpu, State.errAlarm, hecc, if_neg hslot, hlevel, hreset, hcheck, herr,
    Bool.false_eq_true, if_false]

/-- Settles O14: the exception writes its frame below the stack pointer of the taking level and enters at its vector. -/
theorem exceptionEntry : Obligations.ExceptionEntry := by
  unfold Obligations.ExceptionEntry
  rintro c e pc env l s hmpu hecc hslot hlevel hreset hcheck herr hwb hlo hhi ⟨-, hmem, hcores⟩
  have hlen := frameBytes_length (s.core c.val) (causeWord (s.core c.val) e) pc (((s.core c.val).sp l).toNat - 32)
  obtain ⟨d, hframe, hbytes⟩ := State.writeFrame_dtcm c.val l (((s.core c.val).sp l).toNat - 32) _ s (by omega) hlen (by omega) hmem hwb
  have hcore : ((s.takeExc c.val e pc none env).core c.val)
      = ((s.core c.val).setSp l ((s.core c.val).sp l - 32)).enter e.slot l none := by
    rw [State.takeExc_enters hmpu hecc hslot hlevel hreset hcheck herr, hframe]
    exact State.core_updCore_same _ hcores
  have hwfBytes : Bank.wf 0 (Bank.get [] s.mem.dtcm c.val) :=
    Bank.get_of_forall (P := fun x => Bank.wf 0 x) [] ⟨List.Pairwise.nil, by simp⟩ c.val _ hmem.2.2.2
  obtain ⟨hpc, hlv, hsp, hresv, hipl, hx, hy, ha, hdp⟩ :=
    Core.enter_effect (slot := e.slot) l ((s.core c.val).setSp l ((s.core c.val).sp l - 32))
  obtain ⟨hx', hy', ha', hdp'⟩ := Core.setSp_frame l ((s.core c.val).sp l - 32) (s.core c.val)
  refine ⟨_, rfl, ?_⟩
  rw [hcore, State.takeExc_enters hmpu hecc hslot hlevel hreset hcheck herr, hframe]
  refine ⟨hpc, hlv, (hsp l).trans (Core.sp_setSp l _ _), hresv, hipl, hx.trans hx', hy.trans hy', ha.trans ha', hdp.trans hdp',
    ?frame, ?outside, rfl, rfl, rfl⟩
  case frame => exact (congrArg (Bank.readBytes · _ _) hbytes).trans (Bank.readBytes_writeBytes hlen hwfBytes)
  case outside =>
    intro a hout
    exact (congrArg (Bank.get 0 · a) hbytes).trans (Bank.get_writeBytes_other _ _ _ _ (by omega))

end

end Sys2Proof.Machine

/-! SUPPORT. What the stack, the jumps and the atomics of an Awl core do once their checks pass, and the statements about the integer,
fixed-point, flow and system instructions (18 R499-R523; 19 R532, R540-R544; 20 R556, R559). -/

namespace Sys2Proof.Machine

section
variable {c op : Nat} {i : AwlIn} {legal : Bool} {s t : State} {v : Word}

/-! ### Division, stores and the stack (18 R506, R507, R509) -/

/-- A division by a divisor other than 0. -/
theorem State.runInstr_divide {f : Word → Core → Core → Core} (hfetch : s.Fetches c op i) (hform : legal = true)
    (hop : (s.tick c).operand c i false false = .ok (v, t)) (hv : v ≠ 0) :
    (.next (s.runInstr c op i legal fun t => t.divide c i f) : Host.Outcome State Fault Refusal)
      = .next (t.retire c fun k => f v k (k.postInc i)) :=
  State.runInstr_completes hfetch hform (by simp only [State.divide, hop, if_neg hv])

/-- A division by 0 takes slot 11 with INFO 1. -/
theorem State.runInstr_divide_zero {f : Word → Core → Core → Core} (hfetch : s.Fetches c op i) (hform : legal = true)
    (hop : (s.tick c).operand c i false false = .ok (0, t)) :
    (.next (s.runInstr c op i legal fun t => t.divide c i f) : Host.Outcome State Fault Refusal)
      = .next ((s.tick c).takeExc c { slot := 11, info := 1 } ((s.tick c).core c).pc none i.entry) :=
  State.runInstr_raises hfetch hform (by simp only [State.divide, hop, if_pos, divideByZero])

/-- A store that is made is followed by the post-increment and the change of the core. -/
theorem State.storeThen_ok {bs : List Byte} {f : Core → Core} (hstore : s.storeEa c i bs false = .ok t) :
    s.storeThen c i bs f = .ok (t.retire c fun k => f (k.postInc i)) := by
  simp only [State.storeThen, hstore]

/-- A push whose store is made. -/
theorem State.pushWord_ok {f : Core → Core}
    (hstore : s.storeMem c (s.core c).level ((s.core c).sp (s.core c).level - 4).toNat (leBytes 4 v.toNat) true false i = .ok t) :
    s.pushWord c i v f = .ok (t.updCore c fun k => f (k.setSp k.level ((s.core c).sp (s.core c).level - 4))) := by
  simp only [State.pushWord, hstore]

/-- A pop whose load is made. -/
theorem State.popWord_ok {bs : List Byte}
    (hload : s.loadMem c (s.core c).level ((s.core c).sp (s.core c).level).toNat 4 true false i = .ok (bs, t)) :
    s.popWord c i = .ok (BitVec.ofNat 32 (ofLe bs), t.updCore c fun k => k.setSp k.level (k.sp k.level + 4)) := by
  simp only [State.popWord, hload]

/-! ### Data movement and integers -/

/-- Settles O43: each instruction is its body on the state after the tick, and the body is read off once the operand is read or the store is
made.  PUSH stores the register's value before the push (18 R507), and POP writes the loaded value after it has moved SP (log entry 48). -/
theorem completeAwlInteger : Obligations.CompleteAwlInteger := by
  unfold Obligations.CompleteAwlInteger
  refine ⟨?signed, ?zeroExtended, ?division, ?byZero, ?st, ?ldaWord, ?ldaLong, ?staWord, ?staLong, ?nop, ?mov, ?ldh, ?lea, ?ext, ?push,
    ?pop⟩
  case signed =>
    intro c i v t s hform hop
    and_intros <;> exact fun hfetch => State.runInstr_operand hfetch hform hop
  case zeroExtended =>
    intro c i v t s hform hop
    and_intros <;> exact fun hfetch => State.runInstr_operand hfetch hform hop
  case division =>
    intro c i v t s hform hop hv
    and_intros <;> exact fun hfetch => State.runInstr_divide hfetch hform hop hv
  case byZero =>
    intro c i t s hform hop
    and_intros <;> exact fun hfetch => State.runInstr_divide_zero hfetch hform hop
  case st =>
    intro c i t s hfetch hform hstore
    refine State.runInstr_completes hfetch hform ?_
    exact State.storeThen_ok hstore
  case ldaWord =>
    intro c i v t s hfetch hform hsz hop
    refine State.runInstr_completes hfetch hform ?_
    simp only [hsz, Nat.reduceEqDiff, if_false, State.withOperand, hop]
  case ldaLong =>
    intro c i bs t s hfetch hform hsz hload
    refine State.runInstr_completes hfetch hform ?_
    simp only [hsz, if_true, State.loadLong, hload]
  case staWord =>
    intro c i t s hfetch hmem hform hsz hstore
    refine State.runInstr_completes hfetch (by rw [hmem, hform, Bool.and_self]) ?_
    simp only [hsz, Nat.reduceEqDiff, if_false]
    exact State.storeThen_ok hstore
  case staLong =>
    intro c i t s hfetch hmem hform hsz hstore
    refine State.runInstr_completes hfetch (by rw [hmem, hform, Bool.and_self]) ?_
    simp only [hsz, if_true]
    exact State.storeThen_ok hstore
  case nop => exact fun c i s hfetch hform => State.runInstr_total hfetch hform
  case mov => exact fun c i s hfetch hform => State.runInstr_total hfetch hform
  case ldh => exact fun c i s hfetch hform => State.runInstr_total hfetch hform
  case lea => exact fun c i s hfetch hform => State.runInstr_total hfetch hform
  case ext => exact fun c i s hfetch hform => State.runInstr_total hfetch hform
  case push =>
    intro c i t s hfetch hform hstore
    refine State.runInstr_completes hfetch hform ?_
    exact State.pushWord_ok hstore
  case pop =>
    intro c i bs t s hfetch hform hload
    refine State.runInstr_completes hfetch hform ?_
    simp only [State.popWord_ok hload]

/-! ### Fixed point -/

/-- Settles O44: each instruction is its body on the state after the tick; NRM takes Z and N from A (log entry 48). -/
theorem completeAwlFixedPoint : Obligations.CompleteAwlFixedPoint := by
  unfold Obligations.CompleteAwlFixedPoint
  refine ⟨?mac, ?acc, ?ldf, ?noOperand, ?rnd, ?nrm, ?mova⟩
  case mac =>
    intro c i v t s hform hop
    and_intros <;> exact fun hfetch => State.runInstr_operand hfetch hform hop
  case acc =>
    intro c i v t s hform hop
    and_intros <;> exact fun hfetch => State.runInstr_operand hfetch hform hop
  case ldf => exact fun c i v t s hfetch hform hop => State.runInstr_operand hfetch hform hop
  case noOperand =>
    intro c i s hform
    and_intros <;> exact fun hfetch => State.runInstr_total hfetch hform
  case rnd => exact fun c i s hfetch hform => State.runInstr_total hfetch hform
  case nrm => exact fun c i s hfetch hform => State.runInstr_total hfetch hform
  case mova => exact fun c i s hfetch hform => State.runInstr_total hfetch hform

/-! ### Flow (18 R514; 19 R540, R541) -/

/-- An aligned target is no fault. -/
theorem jumpErr_aligned (h : v.toNat % 4 = 0) : jumpErr v = none := if_neg (not_not_intro h)

/-- A jump to an aligned target. -/
theorem State.jump_aligned (h : v.toNat % 4 = 0) : s.jump c v = .ok (s.updCore c fun k => { k with pc := v }) := by
  simp only [State.jump, jumpErr_aligned h]

/-- A branch with an aligned target goes to EA exactly when its condition holds. -/
theorem State.branch_aligned (cc : Nat) (haligned : ((s.core c).ea i).toNat % 4 = 0) :
    s.branch c i cc = .ok (s.branched c i (condHolds cc (s.core c).st)) := by
  have hconst : (s.updCore c fun k => { k with pc := (s.core c).ea i }) = s.updCore c fun k => { k with pc := k.ea i } := rfl
  cases hcond : condHolds cc (s.core c).st with
  | true => simp only [State.branch, State.branched, hcond, if_true, State.jump_aligned haligned, hconst]
  | false => simp only [State.branch, State.branched, hcond, Bool.false_eq_true, if_false]

/-- A branch that is fetched, of legal form and with an aligned target. -/
theorem State.runInstr_branch (cc : Nat) (hfetch : s.Fetches c op i) (hform : legal = true)
    (haligned : (((s.tick c).core c).ea i).toNat % 4 = 0) :
    (.next (s.runInstr c op i legal fun t => t.branch c i cc) : Host.Outcome State Fault Refusal)
      = .next ((s.tick c).branched c i (condHolds cc ((s.tick c).core c).st)) :=
  State.runInstr_completes hfetch hform (State.branch_aligned cc haligned)

/-- RTE on a frame that can be read and passes its checks restores it. -/
theorem State.rte_passes
    (hreads : ((s.core c).inWindow (s.core c).level ((s.core c).sp (s.core c).level).toNat 32
        && decide (((s.core c).sp (s.core c).level).toNat % 4 = 0)
        && s.frameReadable c (s.core c).level ((s.core c).sp (s.core c).level).toNat) = true)
    (herr : i.accessErr = none)
    (hpass : rteCheck (s.core c) (s.core c).level
      (s.readFrame c (s.core c).level ((s.core c).sp (s.core c).level).toNat i).1 = none) :
    s.rte c i = .ok ((s.readFrame c (s.core c).level ((s.core c).sp (s.core c).level).toNat i).2.updCore c
      (Core.restore (s.readFrame c (s.core c).level ((s.core c).sp (s.core c).level).toNat i).1 (s.core c).level
        (BitVec.ofNat 32 (ofLe (Bank.readBytes (Bank.get []
          (s.readFrame c (s.core c).level ((s.core c).sp (s.core c).level).toNat i).2.mem.dtcm c) 0x9FFF0 4))))) := by
  simp only [Bool.and_eq_true, decide_eq_true_eq] at hreads
  obtain ⟨⟨hwindow, haligned⟩, hreadable⟩ := hreads
  simp only [State.rte, hwindow, haligned, hreadable, herr, hpass, ne_eq, not_true_eq_false, decide_false, Bool.not_true,
    Bool.or_self, Bool.false_eq_true, if_false]

/-- Settles O45: a branch is decided by its condition, CALL and RET go through the stack, RTE restores the frame that passes its checks, and
the other two raise. -/
theorem completeAwlFlow : Obligations.CompleteAwlFlow := by
  unfold Obligations.CompleteAwlFlow
  refine ⟨?branches, ?call, ?ret, ?rte, ?rteUser, ?trap⟩
  case branches =>
    intro c i s hform haligned
    and_intros <;> exact fun hfetch => State.runInstr_branch _ hfetch hform haligned
  case call =>
    intro c i t s hfetch hform haligned hstore
    refine State.runInstr_completes hfetch hform ?_
    simp only [jumpErr_aligned haligned, State.pushWord_ok hstore]
  case ret =>
    intro c i bs t s hfetch hform hload haligned
    refine State.runInstr_completes hfetch hform ?_
    simp only [State.popWord_ok hload, State.jump_aligned haligned]
  case rte =>
    intro c i s hfetch hform hlevel hreads herr hpass
    refine State.runInstr_completes hfetch hform ?_
    rw [if_neg hlevel]
    exact State.rte_passes hreads herr hpass
  case rteUser =>
    intro c i s hfetch hform hlevel
    refine State.runInstr_raises hfetch hform ?_
    simp only [hlevel, if_true, privilege]
  case trap => exact fun c i s hfetch hform => State.runInstr_raises hfetch hform rfl

/-! ### Atomics, system registers and events (18 R515-R523; 19 R532, R543, R544; 20 R556) -/

/-- STCD whose reservation holds makes its store. -/
theorem State.stcd_held
    (hcheck : s.dataCheck c (s.core c).level ((s.core c).ea i).toNat 4 1 (decide (amOf i = 4)) true = none)
    (hresv : (s.core c).resv = some (((s.core c).ea i).toNat / 64)) (herr : i.accessErr = none) :
    s.stcd c i = .ok ((s.atomicStore c ((s.core c).ea i).toNat ((s.core c).reg (modOf i))).retire c fun k =>
      { (k.postInc i).setFlag stZ true with resv := none }) := by
  simp only [State.stcd, hcheck, hresv, decide_true, if_true, herr]

/-- STCD without its reservation makes no store. -/
theorem State.stcd_lost
    (hcheck : s.dataCheck c (s.core c).level ((s.core c).ea i).toNat 4 1 (decide (amOf i = 4)) true = none)
    (hresv : (s.core c).resv ≠ some (((s.core c).ea i).toNat / 64)) :
    s.stcd c i = .ok (s.retire c fun k => { (k.postInc i).setFlag stZ false with resv := none }) := by
  simp only [State.stcd, hcheck, hresv, decide_false, Bool.false_eq_true, if_false]

/-- A register number with rights has a legal form in MFS and MTS. -/
theorem formSys_of_rights {r : SysAcc × SysAcc × SysAcc} (hform : formRegImm i = true) (hrights : sysRights (d16Of i) = some r) :
    formSys i = true := by
  rw [formSys, hform, hrights]
  rfl

/-- A user opcode whose entry is valid and allows its mode and size runs its microprogram, and commits what that has staged. -/
theorem State.userOp_commits {n : Nat} {g : Stage} (hcore : c ≠ 4) (hvalid : (entryDesc (s.core c).decode n).getLsbD 0 = true)
    (ham : (entryDesc (s.core c).decode n).getLsbD (8 + amOf i) = true)
    (hsz : (entryDesc (s.core c).decode n).getLsbD (16 + szOf i) = true)
    (hrun : s.microRun (s.userEnv c n i) 64 0 { a := (s.core c).a, st := (s.core c).st } = .ok g) :
    s.userOp c n i = .ok (s.commit (s.userEnv c n i) g) := by
  unfold State.userEnv at hrun ⊢
  simp only [State.userOp, if_neg hcore, hvalid, ham, hsz, Bool.not_true, Bool.or_self, Bool.false_eq_true, if_false, hrun]

/-- Settles O46: the atomics and the system instructions are their bodies once their checks pass; the events of a core are their branch. -/
theorem completeAwlSystem : Obligations.CompleteAwlSystem := by
  unfold Obligations.CompleteAwlSystem
  refine ⟨?tas, ?ldrs, ?stcdHeld, ?stcdLost, ?barriers, ?wait, ?waitUser, ?mfs, ?mts, ?nmi, ?interrupt, fun c s => rfl, ?drain,
    ?reserved, ?user⟩
  case tas =>
    intro c i bs t s hfetch hform hload hcheck
    refine State.runInstr_completes hfetch hform ?_
    simp only [State.tas, hload, hcheck]
  case ldrs =>
    intro c i bs t s hfetch hform hload
    refine State.runInstr_completes hfetch hform ?_
    simp only [State.ldrs, hload]
  case stcdHeld =>
    intro c i s hfetch hform hcheck hresv herr
    refine State.runInstr_completes hfetch hform ?_
    exact State.stcd_held hcheck hresv herr
  case stcdLost =>
    intro c i s hfetch hform hcheck hresv
    refine State.runInstr_completes hfetch hform ?_
    exact State.stcd_lost hcheck hresv
  case barriers => exact fun c i s hform => ⟨fun hfetch => State.runInstr_total hfetch hform, fun hfetch => State.runInstr_total hfetch hform⟩
  case wait =>
    intro c i s hfetch hform hlevel
    exact State.runInstr_completes hfetch hform (if_neg hlevel)
  case waitUser =>
    intro c i s hfetch hform hlevel
    exact State.runInstr_raises hfetch hform (if_pos hlevel)
  case mfs =>
    intro c i u v m s hfetch hform hrights hright
    refine State.runInstr_completes hfetch (formSys_of_rights hform hrights) ?_
    simp only [hrights, Option.any_some, hright, decide_false, Bool.false_eq_true, if_false]
  case mts =>
    intro c i u v m s hfetch hform hrights hright hipl
    refine State.runInstr_completes hfetch (formSys_of_rights hform hrights) ?_
    simp only [hrights, Option.any_some, hright, hipl, ne_eq, not_true_eq_false, decide_false, Bool.or_self, Bool.false_eq_true, if_false]
  case nmi =>
    intro c e s htakes hdue hin
    have hgo : ((s.core c.val).takes && (s.core c.val).nmiDue) = true := by rw [htakes, hdue, Bool.and_self]
    simp only [exec_nmi, execNmi, hgo, if_true]
    rw [State.updCore_const, hin, if_neg Bool.false_ne_true, ← State.updCore_const c.val fun k => { k with nmiSvc := true }]
  case interrupt =>
    intro c line e s htakes hdue hbest
    simp only [exec_interrupt, execInterrupt, htakes, hdue, hbest, Bool.not_false, decide_true, Bool.and_self, if_true]
  case drain =>
    intro c e r s hwb
    simp only [exec_writeBufferDrain, execWriteBufferDrain, State.drainOne, hwb, List.isEmpty_cons, Bool.false_eq_true, if_false]
  case reserved =>
    intro c op i s hfetch hop
    rw [exec_reservedOpcode, execReservedOpcode, if_pos hop]
    exact State.runInstr_slot4 hfetch rfl
  case user =>
    intro c n i g s hfetch hcore hvalid ham hsz hrun
    refine State.runInstr_completes hfetch rfl ?_
    exact State.userOp_commits hcore hvalid ham hsz hrun

end

end Sys2Proof.Machine

/-! SUPPORT. What an exchange of the contactless port leaves: an answer, an APDU in clear, and one under secure messaging; and the
statements about listen mode and poll mode (14 R412, R419-R433, R436). -/

namespace Sys2Proof.Machine

section
variable {s u : State} {page : Byte} {data hdr d : List Byte} {lc sw : Nat}

/-! ### Answers (R412, R419, R424) -/

/-- An answer stands in the listen state; keys, log and poll registers stay. -/
theorem State.answer_effect (bs : List Byte) (u : State) : (u.answer bs).listen = { u.listen with answer := bs }
    ∧ (u.answer bs).keys = u.keys ∧ (u.answer bs).log = u.log ∧ (u.answer bs).cls = u.cls :=
  ⟨State.answer_listen bs u, State.answer_keys bs u, State.answer_log bs u, State.answer_cls bs u⟩

/-- An APDU in clear toggles the block number and is answered by data and status word. -/
theorem State.apdu_effect (data : List Byte) (sw : Nat) (u : State) :
    (u.apdu data sw).listen = { u.listen with blockNo := !u.listen.blockNo, answer := data ++ beBytes 2 sw }
      ∧ (u.apdu data sw).keys = u.keys ∧ (u.apdu data sw).log = u.log ∧ (u.apdu data sw).cls = u.cls :=
  State.answer_effect (data ++ beBytes 2 sw) (u.withListen fun l => { l with blockNo := !l.blockNo })

/-- A frame sent charges the budget of VBAT and nothing else of the Insole (R412). -/
theorem State.apdu_insole (data : List Byte) (sw : Nat) (u : State) : ∃ b, (u.apdu data sw).insole = { u.insole with budget := b } := by
  simp only [State.apdu, State.answer, State.chargeFrame]
  split
  · exact ⟨_, rfl⟩
  · exact ⟨u.insole.budget, rfl⟩

/-- An APDU under secure messaging is answered by the sealed data, and counts its answer; the session goes on while the counters allow
it (R426). -/
theorem State.apduSecured_effect {l : Listen} (data : List Byte) (sw : Nat) (hl : u.listen = l) (hin : l.ctrIn ≤ 0xFFFFFFFF)
    (hout : l.ctrOut < 0xFFFFFFFF) :
    (u.apduSecured data sw).listen =
        { l with blockNo := !l.blockNo, answer := l.seal data sw ++ beBytes 2 sw, ctrOut := l.ctrOut + 1 }
      ∧ (u.apduSecured data sw).keys = u.keys ∧ (u.apduSecured data sw).log = u.log ∧ (u.apduSecured data sw).cls = u.cls := by
  subst hl
  have hgoes : ¬ (0xFFFFFFFF ≤ u.listen.ctrOut ∨ 0xFFFFFFFF < u.listen.ctrIn) := by omega
  obtain ⟨hlisten, hkeys, hlog, hcls⟩ := State.apdu_effect (u.listen.seal data sw) sw u
  simp only [State.apduSecured, if_neg hgoes, State.withListen_listen, State.withListen_keys, State.withListen_log,
    State.withListen_cls, hlisten]
  exact ⟨trivial, hkeys, hlog, hcls⟩

/-! ### Frames and commands that are received (R419, R424-R426, R430) -/

/-- A frame that the port hears drops the RndB of AUTH_1. -/
theorem State.heard_listening {f : State → State} (hlistening : s.listening = true) : s.heard f = f (s.withListen Listen.dropRndB) :=
  if_pos hlistening

/-- A frame of a session is taken. -/
theorem State.inSession_taken {f : State → State} (hlistening : s.listening = true) (hsession : s.listen.session = true) :
    s.inSession f = f s := if_pos (by rw [hlistening, hsession, Bool.and_self])

/-- A command of the selected application whose data have its length runs on a state that differs in the RndB that it drops. -/
theorem State.application_runs (hlistening : s.listening = true) (hsession : s.listen.session = true)
    (hselected : s.listen.selected = true) (hlen : data.length = lc) :
    ∃ u, (∀ f, s.application lc data true f = f u) ∧ u.listen = { s.listen with pendingRndB := none } ∧ u.keys = s.keys
      ∧ u.log = s.log ∧ u.cls = s.cls ∧ u.insole = s.insole := by
  have hsel : ¬ (!(s.withListen Listen.dropRndB).listen.selected) = true := by simp [Listen.dropRndB, hselected]
  have hok : ¬ (data.length ≠ lc ∨ true = false) := by simp [hlen]
  exact ⟨s.withListen Listen.dropRndB,
    fun f => (State.inSession_taken hlistening hsession).trans ((if_neg hsel).trans (if_neg hok)), rfl, rfl, rfl, rfl, rfl⟩

/-- The same for a command that names a page, which its frame holds. -/
theorem State.application_holds (hlistening : s.listening = true) (hsession : s.listen.session = true)
    (hselected : s.listen.selected = true) (hlen : data.length = lc) (hpage : page.toNat ≤ 127) :
    ∃ u, (∀ f, (s.hold page).application lc data true f = f u)
      ∧ u.listen = { s.listen with held := some (page.setWidth 7), pendingRndB := none } ∧ u.keys = s.keys ∧ u.log = s.log
      ∧ u.cls = s.cls ∧ u.insole = s.insole := by
  rw [State.hold, State.inSession_taken hlistening hsession, if_pos hpage]
  exact State.application_runs (s := s.withListen fun l => { l with held := some (page.setWidth 7) }) hlistening hsession hselected hlen

/-- Sealing depends on the session's key, its RndB and the counter of answers. -/
theorem Listen.seal_congr {l l' : Listen} (hks : l'.ks = l.ks) (hrnd : l'.rndB = l.rndB) (hout : l'.ctrOut = l.ctrOut) :
    l'.seal data sw = l.seal data sw := by
  simp only [Listen.seal, hks, hrnd, hout]

/-- Opening depends on the session's key, its RndB and the counter of commands. -/
theorem Listen.unseal_congr {l l' : Listen} (hks : l'.ks = l.ks) (hrnd : l'.rndB = l.rndB) (hin : l'.ctrIn = l.ctrIn) :
    l'.unseal hdr data = l.unseal hdr data := by
  simp only [Listen.unseal, hks, hrnd, hin]

/-- A message that opens is counted, and the command runs on its data. -/
theorem State.secured_opens {l : Listen} (hl : u.listen = l) (hsecured : l.secured = true) (hopen : l.unseal hdr data = some d) :
    ∃ v, (∀ f, u.secured hdr data f = f d v) ∧ v.listen = { l with ctrIn := l.ctrIn + 1 } ∧ v.keys = u.keys ∧ v.log = u.log
      ∧ v.cls = u.cls ∧ v.insole = u.insole := by
  subst hl
  refine ⟨u.withListen fun l => { l with ctrIn := l.ctrIn + 1 }, fun f => ?_, rfl, rfl, rfl, rfl, rfl⟩
  simp only [State.secured, hsecured, hopen, Bool.not_true, Bool.false_eq_true, if_false]

/-- A message that does not open ends the Secured session with 69 88. -/
theorem State.secured_refuses {x : Host.Outcome State Fault Refusal} {f : List Byte → State → State} {l : Listen}
    (hexec : x = .next (u.secured hdr data f)) (hl : u.listen = l) (hsecured : l.secured = true) (hopen : l.unseal hdr data = none) :
    ∃ t, x = .next t ∧ t.listen = { l.unsecure with blockNo := !l.blockNo, answer := [0x69, 0x88] }
      ∧ t.keys = u.keys ∧ t.log = u.log ∧ t.cls = u.cls := by
  subst hl
  have hended : u.secured hdr data f = (u.withListen Listen.unsecure).apdu [] 0x6988 := by
    simp only [State.secured, hsecured, hopen, Bool.not_true, Bool.false_eq_true, if_false]
  exact ⟨_, hexec.trans (congrArg _ hended), State.apdu_effect [] 0x6988 (u.withListen Listen.unsecure)⟩

/-- A command under secure messaging whose data open is answered with the data `r`; else the Secured session ends. -/
theorem State.secured_answers {x : Host.Outcome State Fault Refusal} {f : List Byte → State → State} {l : Listen} {o : Option (List Byte)}
    {r : List Byte → List Byte} (hexec : x = .next (u.secured hdr data f)) (hl : u.listen = l) (hsecured : l.secured = true)
    (hin : l.ctrIn < 0xFFFFFFFF) (hout : l.ctrOut < 0xFFFFFFFF) (hopen : l.unseal hdr data = o)
    (hf : ∀ d v, v.listen = { l with ctrIn := l.ctrIn + 1 } → v.log = u.log → v.insole = u.insole → f d v = v.apduSecured (r d) sw) :
    ∃ t, x = .next t ∧ t.keys = u.keys ∧ t.log = u.log ∧ t.cls = u.cls ∧ match o with
      | some d => t.listen =
          { l with
            blockNo := !l.blockNo, answer := l.seal (r d) sw ++ beBytes 2 sw, ctrIn := l.ctrIn + 1, ctrOut := l.ctrOut + 1 }
      | none => t.listen = { l.unsecure with blockNo := !l.blockNo, answer := [0x69, 0x88] } := by
  cases o with
  | some d =>
    obtain ⟨v, htaken, hv, hkeys, hlog, hcls, hinsole⟩ := State.secured_opens hl hsecured hopen
    obtain ⟨hanswer, hk, hlg, hc⟩ := State.apduSecured_effect (r d) sw hv (Nat.succ_le_of_lt hin) hout
    exact ⟨_, hexec.trans (congrArg Host.Outcome.next ((htaken f).trans (hf d v hv hlog hinsole))), hk.trans hkeys, hlg.trans hlog, hc.trans hcls,
      hanswer⟩
  | none =>
    obtain ⟨t, ht, hanswer, hframe⟩ := State.secured_refuses hexec hl hsecured hopen
    obtain ⟨hk, hlg, hc⟩ := hframe
    exact ⟨t, ht, hk, hlg, hc, hanswer⟩

/-! ### Listen mode -/

/-- Settles O30: under its conditions each command reaches its answer.  A READ PAGE that is refused for its page holds that page all the
same (log entry 128), and 6D 00 answers an unknown instruction of classes 80 and 84 too (log entry 88). -/
theorem completeListen : Obligations.CompleteListen := by
  unfold Obligations.CompleteListen
  refine ⟨?field, ?inactive, ?reqa, ?wupa, ?anticollision, ?isoSelect, ?hlta, ?rats, ?pps, ?rCurrent, ?rOther, ?deselect, ?select,
    ?selectOther, ?readClear, ?readClearHigh, ?readSecured, ?auth1, ?auth2, ?writeNotes, ?readLog, ?getStatus, ?unsupported, ?blockEnd⟩
  case field =>
    intro s hmode
    rw [exec_fieldDetected, execFieldDetected, if_neg hmode]
    exact ⟨_, rfl, rfl, rfl, rfl, rfl, rfl, rfl, rfl, rfl, rfl, rfl, rfl⟩
  case inactive =>
    intro s hsession
    rw [exec_sessionInactivity, execSessionInactivity, hsession]
    rfl
  case reqa =>
    intro s hlistening hiso
    exact ⟨_, congrArg Host.Outcome.next ((State.heard_listening hlistening).trans (if_pos hiso)), State.answer_effect _ _⟩
  case wupa =>
    intro s hlistening hiso
    exact ⟨_, congrArg Host.Outcome.next ((State.heard_listening hlistening).trans (if_pos hiso)), State.answer_effect _ _⟩
  case anticollision =>
    intro s hlistening hiso
    exact ⟨_, congrArg Host.Outcome.next ((State.heard_listening hlistening).trans (if_pos hiso)), State.answer_effect _ _⟩
  case isoSelect =>
    intro s hlistening hiso
    exact ⟨_, congrArg Host.Outcome.next ((State.heard_listening hlistening).trans (if_pos ⟨hiso, rfl⟩)), State.answer_effect _ _⟩
  case hlta =>
    intro s hlistening hiso hsession
    exact congrArg Host.Outcome.next ((State.heard_listening hlistening).trans (if_pos ⟨hiso, hsession⟩))
  case rats =>
    intro s hlistening hiso hsession
    exact ⟨_, congrArg Host.Outcome.next ((State.heard_listening hlistening).trans (if_pos ⟨hiso, hsession⟩)), State.answer_effect _ _⟩
  case pps =>
    intro dsi dri s hlistening hsession
    exact ⟨_, congrArg Host.Outcome.next ((State.heard_listening hlistening).trans (if_pos hsession)), State.answer_effect _ _⟩
  case rCurrent =>
    intro nak s hlistening hsession
    have hin : ¬ (!s.listen.session) = true := by simp [hsession]
    exact ⟨_, congrArg Host.Outcome.next ((State.heard_listening hlistening).trans ((if_neg hin).trans (if_pos rfl))), State.answer_effect _ _⟩
  case rOther =>
    intro blockNo s hlistening hsession hother
    have hin : ¬ (!s.listen.session) = true := by simp [hsession]
    exact ⟨_, congrArg Host.Outcome.next ((State.heard_listening hlistening).trans ((if_neg hin).trans ((if_neg hother).trans (if_pos rfl)))),
      State.answer_effect _ _⟩
  case deselect =>
    intro s hlistening hsession
    have hin : (s.listening && s.listen.session) = true := by rw [hlistening, hsession, Bool.and_self]
    exact ⟨_, congrArg Host.Outcome.next (if_pos hin), State.answer_effect _ _⟩
  case select =>
    intro s hlistening hsession
    exact ⟨_, congrArg Host.Outcome.next ((State.inSession_taken hlistening hsession).trans (if_pos rfl)), State.apdu_effect _ _ _⟩
  case selectOther =>
    intro aid s hlistening hsession haid
    exact ⟨_, congrArg Host.Outcome.next ((State.inSession_taken hlistening hsession).trans (if_neg haid)), State.apdu_effect _ _ _⟩
  case readClear =>
    intro page s hlistening hsession hselected hpage
    have hlow : page.toNat ≤ 127 := Nat.le_trans hpage (by decide)
    obtain ⟨u, hruns, hlisten, hkeys, hlog, hcls, -⟩ := State.application_holds hlistening hsession hselected List.length_nil hlow
    rw [exec_readPage, execReadPage, if_pos rfl, hruns, if_neg (Nat.not_lt.mpr hpage), ← hkeys, ← hlog, ← hcls]
    refine ⟨_, rfl, ?_, (State.apdu_effect _ _ u).2⟩
    rw [(State.apdu_effect _ _ u).1, hlisten]
    rfl
  case readClearHigh =>
    intro page s hlistening hsession hselected hlo hhi
    obtain ⟨u, hruns, hlisten, hkeys, hlog, hcls, -⟩ := State.application_holds hlistening hsession hselected List.length_nil hhi
    rw [exec_readPage, execReadPage, if_pos rfl, hruns, if_pos hlo, ← hkeys, ← hlog, ← hcls]
    refine ⟨_, rfl, ?_, (State.apdu_effect _ _ u).2⟩
    rw [(State.apdu_effect _ _ u).1, hlisten]
    rfl
  case readSecured =>
    intro data page s hlistening hsession hselected hsecured hlen hin hout hpage
    obtain ⟨u, hruns, hlisten, hkeys, hlog, hcls, -⟩ := State.application_holds hlistening hsession hselected hlen hpage
    have hexec : exec (.readPage 0x84 page data true) s = .next (u.secured [0x84, 0xB0, page, 0] data _) :=
      congrArg Host.Outcome.next ((if_neg (by decide)).trans ((if_pos rfl).trans (hruns _)))
    obtain ⟨t, ht, hk, hlg, hc, hanswer⟩ := State.secured_answers (r := fun _ => (s.listen.page page.toNat).answer) hexec hlisten hsecured
      hin hout (o := s.listen.unseal [0x84, 0xB0, page, 0] data) (Listen.unseal_congr rfl rfl rfl)
      (fun _ v hv _ _ => (if_neg (Nat.not_lt.mpr hpage)).trans (by rw [hv]; rfl))
    refine ⟨t, ht, hk.trans hkeys, hlg.trans hlog, hc.trans hcls, ?_⟩
    generalize s.listen.unseal [0x84, 0xB0, page, 0] data = o at hanswer ⊢
    cases o with
    | some d =>
      rw [hanswer]
      exact ⟨congrArg (· ++ beBytes 2 0x9000) (Listen.seal_congr rfl rfl rfl), rfl, rfl, hsecured, rfl⟩
    | none =>
      rw [hanswer]
      exact ⟨rfl, rfl⟩
  case auth1 =>
    intro s hlistening hsession hselected hsecured hblocked hkey hseeded
    obtain ⟨u, hruns, hlisten, hkeys, hlog, hcls, hinsole⟩ := State.application_runs hlistening hsession hselected List.length_nil
    have hsec : ¬ u.listen.secured = true := by rw [hlisten]; simp [hsecured]
    have hfree : ¬ u.insole.blocked = true := by rw [hinsole]; simp [hblocked]
    have hheld : ¬ u.insole.auditKey.isNone = true := by rw [hinsole]; simp [hkey]
    have hready : ¬ (!u.insole.seeded) = true := by rw [hinsole]; simp [hseeded]
    rw [exec_auth1, execAuth1, hruns, if_neg hsec, if_neg hfree, if_neg hheld, if_neg hready, ← hkeys, ← hlog, ← hcls]
    obtain ⟨hanswer, hframe⟩ := State.apdu_effect u.insole.drbgOut 0x9000
      ((u.withInsole Insole.drbgNext).withListen fun l => { l with pendingRndB := some u.insole.drbgOut })
    refine ⟨_, rfl, ?_, hframe⟩
    rw [hanswer, State.withListen_listen, State.withInsole_listen, hlisten, hinsole]
    rfl
  case auth2 =>
    intro data rb k s hlistening hsession hselected hlen hpending hkey
    have hsel : ¬ (!(s.withListen Listen.dropRndB).listen.selected) = true := by simp [Listen.dropRndB, hselected]
    have hok : ¬ (data.length ≠ 32 ∨ true = false) := by simp [hlen]
    rw [exec_auth2, execAuth2, State.inSession_taken hlistening hsession]
    simp only [if_neg hsel, if_neg hok, hpending, hkey]
    by_cases hmac : data.drop 16 = authMac k 0x41 (data.take 16) rb s.listen.uid
    · rw [if_pos hmac]
      set v := ((s.withListen Listen.dropRndB).withInsole fun i => { i with failCount := 0 }).withListen fun l =>
        { l with secured := true, rndB := rb, ks := authKey k (data.take 16) rb, ctrIn := 0, ctrOut := 0 }
      obtain ⟨hanswer, hframe⟩ := State.apdu_effect (authMac k 0x42 rb (data.take 16) s.listen.uid) 0x9000 v
      obtain ⟨b, hinsole⟩ := State.apdu_insole (authMac k 0x42 rb (data.take 16) s.listen.uid) 0x9000 v
      refine ⟨_, rfl, ?_, hframe⟩
      rw [if_pos (show data.drop 16 = cmac k ([0x41] ++ data.take 16 ++ rb ++ leBytes 4 s.listen.uid.toNat) from hmac), hanswer, hinsole]
      exact ⟨rfl, rfl⟩
    · rw [if_neg hmac]
      obtain ⟨hanswer, hframe⟩ := State.apdu_effect [] 0x6982 ((s.withListen Listen.dropRndB).withInsole Insole.authFail)
      obtain ⟨b, hinsole⟩ := State.apdu_insole [] 0x6982 ((s.withListen Listen.dropRndB).withInsole Insole.authFail)
      refine ⟨_, rfl, ?_, hframe⟩
      rw [if_neg (show ¬ data.drop 16 = cmac k ([0x41] ++ data.take 16 ++ rb ++ leBytes 4 s.listen.uid.toNat) from hmac), hanswer, hinsole]
      exact ⟨rfl, rfl, rfl, rfl⟩
  case writeNotes =>
    intro data page s hlistening hsession hselected hsecured hlen hin hout hlo hhi
    obtain ⟨u, hruns, hlisten, hkeys, hlog, hcls, -⟩ := State.application_holds hlistening hsession hselected hlen hhi
    have hexec : exec (.writeNotes page data true none) s = .next (u.secured [0x84, 0xD0, page, 0] data _) :=
      congrArg Host.Outcome.next (hruns _)
    have hnotes : ¬ (page.toNat < 96 ∨ 127 < page.toNat) := by omega
    rw [← hkeys, ← hlog, ← hcls]
    cases hopen : s.listen.unseal [0x84, 0xD0, page, 0] data with
    | some d =>
      obtain ⟨v, hopens, hv, hvkeys, hvlog, hvcls, -⟩ := State.secured_opens (hdr := [0x84, 0xD0, page, 0]) (data := data) (d := d) hlisten
        hsecured ((Listen.unseal_congr rfl rfl rfl).trans hopen)
      have hpage : v.listen.page page.toNat = s.listen.page page.toNat := by rw [hv]; rfl
      rw [hexec, hopens, if_neg hnotes, ← hvkeys, ← hvlog, ← hvcls]
      simp only [hpage]
      by_cases hversion : (s.listen.page page.toNat).version.toNat = ofBe (d.take 2)
      · have hfresh : ¬ (s.listen.page page.toNat).version.toNat ≠ ofBe (d.take 2) := not_not.mpr hversion
        simp only [if_pos hversion, if_neg hfresh, reduceCtorEq, if_false]
        have hcommit : ((v.withListen fun l => { l with fieldStaging := d.drop 2 }).withListen fun l =>
            l.commitField page.toNat l.fieldStaging).listen = _ :=
          congrArg (fun l => { l with fieldStaging := d.drop 2 }.commitField page.toNat (d.drop 2)) hv
        obtain ⟨hanswer, hk, hlg, hc⟩ := State.apduSecured_effect (beBytes 2 ((s.listen.page page.toNat).version + 1).toNat) 0x9000 hcommit
          (Nat.succ_le_of_lt hin) hout
        refine ⟨_, rfl, hk, hlg, hc, ?_⟩
        rw [hanswer]
        exact ⟨rfl, rfl, congrArg (· ++ beBytes 2 0x9000) (Listen.seal_congr rfl rfl rfl), rfl, rfl, hsecured⟩
      · have hstale : (s.listen.page page.toNat).version.toNat ≠ ofBe (d.take 2) := hversion
        simp only [if_neg hversion, if_pos hstale]
        obtain ⟨hanswer, hk, hlg, hc⟩ := State.apduSecured_effect (u := v) [] 0x6985 hv (Nat.succ_le_of_lt hin) hout
        refine ⟨_, rfl, hk, hlg, hc, ?_⟩
        rw [hanswer]
        exact ⟨congrArg (· ++ beBytes 2 0x6985) (Listen.seal_congr rfl rfl rfl), rfl, rfl, hsecured, rfl⟩
    | none =>
      obtain ⟨t, ht, hanswer, hk, hlg, hc⟩ := State.secured_refuses hexec hlisten hsecured
        ((Listen.unseal_congr rfl rfl rfl).trans hopen)
      refine ⟨t, ht, hk, hlg, hc, ?_⟩
      rw [hanswer]
      exact ⟨rfl, rfl⟩
  case readLog =>
    intro data s hlistening hsession hselected hsecured hlen hin hout
    obtain ⟨u, hruns, hlisten, hkeys, hlog, hcls, -⟩ := State.application_runs hlistening hsession hselected hlen
    have hexec : exec (.readLog data true) s = .next (u.secured [0x84, 0xB2, 0, 0] data _) := congrArg Host.Outcome.next (hruns _)
    obtain ⟨t, ht, hk, hlg, hc, hanswer⟩ := State.secured_answers hexec hlisten hsecured hin hout
      (o := s.listen.unseal [0x84, 0xB2, 0, 0] data) (Listen.unseal_congr rfl rfl rfl) (fun _ v _ hvlog _ => by rw [hvlog.trans hlog])
    refine ⟨t, ht, hk.trans hkeys, hlg.trans hlog, hc.trans hcls, ?_⟩
    generalize s.listen.unseal [0x84, 0xB2, 0, 0] data = o at hanswer ⊢
    cases o with
    | some d =>
      rw [hanswer]
      exact ⟨congrArg (· ++ beBytes 2 0x9000) (Listen.seal_congr rfl rfl rfl), rfl, rfl, hsecured⟩
    | none =>
      rw [hanswer]
      exact ⟨rfl, rfl⟩
  case getStatus =>
    intro data s hlistening hsession hselected hsecured hlen hin hout
    obtain ⟨u, hruns, hlisten, hkeys, hlog, hcls, hinsole⟩ := State.application_runs hlistening hsession hselected hlen
    have hexec : exec (.getStatus data true) s = .next (u.secured [0x84, 0xF0, 0, 0] data _) := congrArg Host.Outcome.next (hruns _)
    have hstatus : ∀ v : State, v.log = u.log → v.insole = u.insole → statusData v = statusData s := fun v hvlog hvinsole => by
      simp only [statusData, hvlog.trans hlog, hvinsole.trans hinsole]
    obtain ⟨t, ht, hk, hlg, hc, hanswer⟩ := State.secured_answers (r := fun _ => statusData s) hexec hlisten hsecured hin hout
      (o := s.listen.unseal [0x84, 0xF0, 0, 0] data) (Listen.unseal_congr rfl rfl rfl)
      (fun _ v _ hvlog hvinsole => by rw [hstatus v hvlog hvinsole])
    refine ⟨t, ht, hk.trans hkeys, hlg.trans hlog, hc.trans hcls, ?_⟩
    generalize s.listen.unseal [0x84, 0xF0, 0, 0] data = o at hanswer ⊢
    cases o with
    | some d =>
      rw [hanswer]
      exact ⟨congrArg (· ++ beBytes 2 0x9000) (Listen.seal_congr rfl rfl rfl), rfl, rfl, hsecured⟩
    | none =>
      rw [hanswer]
      exact ⟨rfl, rfl⟩
  case unsupported =>
    intro cla ins s hlistening hsession hknown
    rw [exec_unsupportedApdu, execUnsupportedApdu, State.inSession_taken hlistening hsession, if_pos hknown]
    exact ⟨_, rfl, State.apdu_effect _ _ _⟩
  case blockEnd =>
    intro s hblocked
    rw [exec_authBlockEnd, execAuthBlockEnd, if_pos hblocked]

/-! ### Poll mode -/

/-- The unit that the unit map enables takes every change (17 R487). -/
theorem State.updCls_on {g : Cls → Cls} (hon : s.unitOn 33 = true) : s.updCls g = s.withCls g := by
  simp only [State.updCls, hon, Bool.true_or, if_true]

/-- Settles O31: with the unit enabled each command makes the change of its branch. -/
theorem completePoll : Obligations.CompletePoll := by
  unfold Obligations.CompletePoll
  refine ⟨?poll, ?pollInField, ?abort, ?badge, ?roundA, ?roundB, ?timeout, ?answered, ?removed⟩
  case poll =>
    intro s hon hpower hmain hoff hfield hsession
    have hstarts : ¬ (Level.machine ≠ .machine ∨ s.cls.mode ≠ .off ∨ s.unitOn 33 = false ∨ s.pins.pwrgd = false
        ∨ s.insole.onVbat = true) := by simp [hoff, hon, hpower, hmain]
    have hquiet : ¬ (s.listen.field || s.listen.session) = true := by simp [hfield, hsession]
    rw [exec_clsPoll, execClsPoll, if_neg hstarts, if_neg hquiet, State.updCls_on hon]
  case pollInField =>
    intro s hon hpower hmain hoff hfield
    have hstarts : ¬ (Level.machine ≠ .machine ∨ s.cls.mode ≠ .off ∨ s.unitOn 33 = false ∨ s.pins.pwrgd = false
        ∨ s.insole.onVbat = true) := by simp [hoff, hon, hpower, hmain]
    rw [exec_clsPoll, execClsPoll, if_neg hstarts, if_pos (by rw [hfield, Bool.true_or]), State.updCls_on hon]
    rfl
  case abort =>
    intro s hon hpolling
    have htaken : ¬ (Level.machine ≠ .machine ∨ s.cls.mode = .off) := by simp [hpolling]
    rw [exec_clsAbort, execClsAbort, if_neg htaken, if_pos (.inl hpolling), State.updCls_on hon]
    rfl
  case badge =>
    intro s hon hbadge hidle
    have htaken : ¬ (Level.machine ≠ .machine ∨ s.cls.mode = .off) := by simp [hbadge]
    have hnothing : ¬ (s.cls.mode = .polling ∨ s.cls.exchanging = true) := by simp [hbadge, hidle]
    rw [exec_clsXchg, execClsXchg, if_pos ⟨rfl, hbadge, hidle⟩, exec_clsAbort, execClsAbort, if_neg htaken, if_neg hnothing,
      State.updCls_on hon, State.updCls_on hon]
    exact ⟨rfl, rfl⟩
  case roundA =>
    intro u other s hon hpolling htype
    simp only [exec_pollRound, execPollRound, hpolling, htype, ne_eq, not_true, if_false, Bool.false_eq_true, if_true, State.updCls_on hon]
    rfl
  case roundB =>
    intro u s hon hpolling htype
    simp only [exec_pollRound, execPollRound, hpolling, htype, ne_eq, not_true, if_false, Bool.false_eq_true, if_true, ite_self,
      State.updCls_on hon]
    rfl
  case timeout =>
    intro s hon hpolling
    rw [exec_pollTimeout, execPollTimeout, if_pos hpolling, State.updCls_on hon]
    rfl
  case answered =>
    intro a s hon hexchange
    simp only [exec_badgeExchangeEnd, execBadgeExchangeEnd, hexchange, Bool.not_true, Bool.false_eq_true, if_false, State.updCls_on hon]
    rfl
  case removed =>
    intro s hon hexchange
    simp only [exec_badgeExchangeEnd, execBadgeExchangeEnd, hexchange, Bool.not_true, Bool.false_eq_true, if_false, State.updCls_on hon]
    rfl

end

end Sys2Proof.Machine

/-! SUPPORT. What a change of one card port leaves, and the statements about the SD ports and the contact slots (15 R438-R446,
R451-R455, R458). -/

namespace Sys2Proof.Machine

section
variable {s : State}

/-! ### SD ports -/

/-- A change of an SD port is a change to the port that it gives. -/
theorem State.updSd_to {p : Nat} {g : SdPort → SdPort} {x y : SdPort} (hx : s.sdPort p = x) (hg : g x = y) :
    s.updSd p g = s.updSd p fun _ => y := by
  rw [State.updSd_const, hx, hg]

/-- An initialised port at maximum mode 1 whose card has high speed runs at high speed, at 3.3 V and with no tap (R440). -/
theorem settleMode_highSpeed {modes : BitVec 7} (passes : List (BitVec 40)) (hmode : modes.getLsbD 1 = true) :
    settleMode (modesFrom 1 false modes) passes = (1, 0) := by
  have hmodes : modesFrom 1 false modes = [1, 0] := by
    simp only [modesFrom, Bool.false_eq_true, if_false, List.filter, hmode, Nat.le_refl, decide_true, Bool.and_true]
    rfl
  rw [hmodes]
  rfl

/-- In SDR 50 with a run of taps that is long enough the port stays in its mode, at the run's centre (R440). -/
theorem settleMode_tuned {modes : BitVec 7} {m : BitVec 40} (ms : List (BitVec 40)) (hmode : modes.getLsbD 5 = true)
    (hlong : 4 ≤ (longestRun m).2) : settleMode (modesFrom 5 true modes) (m :: ms) = (5, tapOf (longestRun m)) := by
  obtain ⟨lower, hmodes⟩ : ∃ lower, modesFrom 5 true modes = 5 :: lower := by
    simp only [modesFrom, if_true, List.filter, hmode, Nat.le_refl, decide_true, Bool.and_true]
    exact ⟨_, rfl⟩
  rw [hmodes]
  exact (if_neg (by decide)).trans (if_pos hlong)

/-- A card neither of whose header copies is good is foreign, with the blocks that its capacity leaves (R447). -/
theorem SdPort.scanned_foreign {c : CardScan} (cardBlocks : Nat) (x : SdPort) (hfirst : headerGood (sliceBytes c.headers 0 512) = false)
    (hsecond : headerGood (sliceBytes c.headers 512 512) = false) :
    x.scanned cardBlocks c = { x with foreign := true, blocks := BitVec.ofNat 32 (cardBlocks - 1026) } := by
  have hnone : [sliceBytes c.headers 0 512, sliceBytes c.headers 512 512].find? headerGood = none := by
    simp only [List.find?, hfirst, hsecond]
  unfold SdPort.scanned
  extract_lets h
  rw [show h = none from hnone]

/-- A port that fails with no command running changes its state and reason only. -/
theorem SdPort.fail_idle {x : SdPort} (why : BitVec 4) (hrun : x.run = none) : x.fail why = { x with state := .failed, why := why } := by
  unfold SdPort.fail
  split
  next r hsome => exact absurd (hrun.symm.trans hsome) nofun
  next => rfl

/-- A command of a port that runs none is refused, or starts. -/
theorem SdPort.start_idle {x : SdPort} (write : Bool) (hrun : x.run = none) : x.start write .machine =
    if x.count = 0 then { x.finish Status.lengthRange with xfer := 0 }
    else if x.state ≠ .ready then { x.finish Status.cardAbsent with xfer := 0 }
    else { x with
      run := some { write := write, lba := x.lba, count := x.count, addr := x.addr }, done := false, xfer := 0, state := .xfer } :=
  if_neg (by simp [hrun])

/-- A transfer starts on a ready port whose last tuning is fresh. -/
theorem State.sdStart_ready {p : Nat} {x : SdPort} (write : Bool) (hx : s.sdPort p = x) (hrun : x.run = none) (hcount : x.count ≠ 0)
    (hready : x.state = .ready) (hfresh : s.cob.clockUs ≤ x.tunedUs + 1000000) :
    s.sdStart p write .machine = s.updSd p fun _ =>
      { x with
        run := some { write := write, lba := x.lba, count := x.count, addr := x.addr }, done := false, xfer := 0, state := .xfer } := by
  have htuned : ¬ x.tunedUs + 1000000 < s.cob.clockUs := Nat.not_lt.mpr hfresh
  simp only [State.sdStart, State.sdFresh, hx, if_neg htuned, ite_self]
  exact State.updSd_to hx ((SdPort.start_idle write hrun).trans ((if_neg hcount).trans (if_neg (not_not.mpr hready))))

/-- Before a transfer on a ready port whose last tuning is old the port tunes. -/
theorem State.sdStart_tunes {p : Nat} {x : SdPort} (write : Bool) (hx : s.sdPort p = x) (hrun : x.run = none) (hcount : x.count ≠ 0)
    (hready : x.state = .ready) (hold : x.tunedUs + 1000000 < s.cob.clockUs) :
    s.sdStart p write .machine = (s.sdTune p).updSd p (SdPort.start write .machine) := by
  subst hx
  rw [State.sdStart, if_pos ⟨rfl, hrun, hcount, hready⟩, State.sdFresh, if_pos hold]

/-- The port is powered again for the transfer that it runs. -/
theorem State.updSd_running {p : Nat} {r : SdRun} {f : SdPort → SdPort} (hf : ∀ x, (f x).run = some r) :
    s.updSd p f = s.withCards fun c => { c with sd := Bank.upd {} p f c.sd } := by
  simp only [State.updSd, hf, Option.isSome_some, Bool.or_true, if_true]

/-- The first fault of a running transfer cycles the power of its card (R443). -/
theorem State.sdFault_first {p : Nat} {why : BitVec 4} {r : SdRun} (hrun : (s.sdPort p).run = some r) (hfirst : r.cycled = false) :
    (s.sdFault p why).cards.sd = Bank.upd {} p (fun x =>
        { x with run := some { r with cycled := true }, state := .init, power := true, discharge := false, v18 := false }) s.cards.sd
      ∧ (s.sdFault p why).mem = s.mem ∧ (s.sdFault p why).keys = s.keys := by
  simp only [State.sdFault, hrun, hfirst, Bool.false_eq_true, if_false]
  rw [State.updSd_running (fun _ => rfl)]
  obtain ⟨c, hlogged⟩ := State.eventFree_eq (0x60 + p) 1 (s.withCards fun c =>
    { c with sd := Bank.upd {} p (fun x : SdPort => { x.powerUp with run := some { r with cycled := true } }) c.sd })
  rw [hlogged]
  exact ⟨rfl, rfl, rfl⟩

/-- Settles O38: each command makes the change of its branch.  The tap of a run of even length is the lower of its two middle taps (log
entry 126), and a READ or WRITE of a port that is not READY gives CARD_ABSENT (log entry 68). -/
theorem completeSdPorts : Obligations.CompleteSdPorts := by
  unfold Obligations.CompleteSdPorts
  refine ⟨?inserted, ?settled, ?refused, ?initialised, ?removed, ?darkIdle, ?darkRunning, ?read, ?readTunes, ?write, ?writeTunes,
    ?lengthRange, ?absent, ?abort, ?retune, ?retuneSdr50, ?retuneLow, ?powerOff, ?powerOn, ?lastBusy, ?stopBusy, ?busy, ?busyTimeout,
    ?responseTimeout, ?blockSent, ?cardOut, ?cardIn, ?readEnd, ?config⟩
  case inserted =>
    intro p x s hx hdet hen
    exact congrArg Host.Outcome.next (State.updSd_to hx (by simp only [hdet, hen, Bool.false_eq_true, if_false, if_true]))
  case settled =>
    intro p x s hx hstate hdet
    exact congrArg Host.Outcome.next (State.updSd_to hx (if_pos ⟨hstate, hdet⟩))
  case refused =>
    intro p why cSize modes v18 cmd23 passes wp scan x s hx hstate hwhy hrun
    refine congrArg Host.Outcome.next (State.updSd_to hx ?_)
    exact (if_neg (not_not.mpr hstate)).trans ((if_pos hwhy).trans (SdPort.fail_idle why hrun))
  case initialised =>
    intro p cSize modes v18 cmd23 passes wp scan x s hx hstate hrun hmax hmode hfirst hsecond
    refine congrArg Host.Outcome.next (State.updSd_to hx ?_)
    have htop : x.maxMode.toNat = 1 := by rw [hmax]; rfl
    have hlow : (v18 && decide (2 ≤ 1)) = false := Bool.and_false v18
    simp only [hstate, hrun, hlow, htop, settleMode_highSpeed passes hmode, SdPort.scanned_foreign _ _ hfirst hsecond, ne_eq, not_true,
      if_false, Option.isSome_none, Bool.false_eq_true]
    rfl
  case removed =>
    intro p x s hx hdet
    exact congrArg Host.Outcome.next (State.updSd_to hx (if_pos hdet))
  case darkIdle =>
    intro x hrun
    simp [SdPort.dark, hrun]
  case darkRunning =>
    intro x r hrun
    simp [SdPort.dark, SdPort.finish, SdPort.removalStatus, hrun]
  case read =>
    intro p x s hx hrun hcount hready hfresh
    exact congrArg Host.Outcome.next (State.sdStart_ready false hx hrun hcount hready hfresh)
  case readTunes =>
    intro p x s hx hrun hcount hready hold
    exact congrArg Host.Outcome.next (State.sdStart_tunes false hx hrun hcount hready hold)
  case write =>
    intro p x s hx hrun hcount hready hfresh
    exact congrArg Host.Outcome.next (State.sdStart_ready true hx hrun hcount hready hfresh)
  case writeTunes =>
    intro p x s hx hrun hcount hready hold
    exact congrArg Host.Outcome.next (State.sdStart_tunes true hx hrun hcount hready hold)
  case lengthRange =>
    intro p x s hx hrun hcount
    rw [exec_sdRead, execSdRead, State.sdStart, hx, if_neg (fun h => h.2.2.1 hcount)]
    exact congrArg Host.Outcome.next (State.updSd_to hx ((SdPort.start_idle false hrun).trans (if_pos hcount)))
  case absent =>
    intro p x s hx hrun hcount hstate
    rw [exec_sdRead, execSdRead, State.sdStart, hx, if_neg (fun h => hstate h.2.2.2)]
    exact congrArg Host.Outcome.next (State.updSd_to hx
      ((SdPort.start_idle false hrun).trans ((if_neg hcount).trans (if_pos hstate))))
  case abort =>
    intro p x s hx hrun
    exact congrArg Host.Outcome.next (State.updSd_to hx (if_pos ⟨rfl, hrun⟩))
  case retune =>
    intro p passes x s hx hrun hready
    exact congrArg Host.Outcome.next (State.updSd_to hx (if_pos ⟨rfl, hrun, hready⟩))
  case retuneSdr50 =>
    intro now m ms x hmode hcard hlong
    have htop : x.mode.toNat = 5 := by rw [hmode]; rfl
    have hsettles : settleMode (modesFrom x.mode.toNat true x.modes) (m :: ms) = (5, tapOf (longestRun m)) := by
      rw [htop]
      exact settleMode_tuned ms hcard hlong
    have htunes : ¬ x.mode.toNat < 5 := by omega
    rw [SdPort.retune, if_neg htunes, hsettles]
    rfl
  case retuneLow =>
    intro now ms x hmode
    exact if_pos hmode
  case powerOff =>
    intro p x s hx hrun
    exact congrArg Host.Outcome.next (State.updSd_to hx (if_pos ⟨rfl, hrun⟩))
  case powerOn =>
    intro p x s hx hrun hen hdet hstate
    exact congrArg Host.Outcome.next (State.updSd_to hx (if_pos ⟨rfl, hrun, hen, hdet, hstate⟩))
  case lastBusy =>
    intro p r x s hx hstate hrun hstopping hlast hcmd
    have hdone : ¬ r.confirmed + 512 < 512 * r.count.toNat := by omega
    refine congrArg Host.Outcome.next (State.updSd_to hx ?_)
    simp [SdPort.busyEnd, SdPort.finish, hrun, hstate, hstopping, hdone, hcmd]
  case stopBusy =>
    intro p r x s hx hstate hrun hstopping hlast hcmd
    have hdone : ¬ r.confirmed + 512 < 512 * r.count.toNat := by omega
    refine congrArg Host.Outcome.next (State.updSd_to hx ?_)
    simp [SdPort.busyEnd, hrun, hstate, hstopping, hdone, hcmd]
  case busy =>
    intro p r x s hx hstate hrun hstopping hmore
    refine congrArg Host.Outcome.next (State.updSd_to hx ?_)
    simp [SdPort.busyEnd, hrun, hstate, hstopping, hmore]
  case busyTimeout =>
    intro p r s hrun hstate hfirst
    exact ⟨_, congrArg Host.Outcome.next (if_pos hstate), State.sdFault_first hrun hfirst⟩
  case responseTimeout =>
    intro p r s hrun hstate hfirst
    exact ⟨_, congrArg Host.Outcome.next (if_pos hstate), State.sdFault_first hrun hfirst⟩
  case blockSent =>
    intro p r data crcOk s hrun hstate hwrite
    simp only [exec_sdTransferEnd, execSdTransferEnd, hrun, hstate, hwrite, ne_eq, not_true, if_false, if_true]
  case cardOut =>
    intro a n k s hmoving hallowed
    simp only [State.cardOut, hmoving, hallowed, Option.isSome_none, Bool.false_eq_true, if_false]
  case cardIn =>
    intro a bs k s hmoving hallowed
    simp only [State.cardIn, hmoving, hallowed, Option.isSome_none, Bool.false_eq_true, if_false]
  case readEnd =>
    intro p r data s hrun hstate hread
    simp only [exec_sdTransferEnd, execSdTransferEnd, hrun, hstate, hread, ne_eq, not_true, if_false, if_true, Bool.false_eq_true]
    rfl
  case config =>
    intro p v x s hx hen hmode
    exact congrArg Host.Outcome.next ((if_neg (not_not.mpr rfl)).trans (State.updSd_to hx
      ((if_pos hen).trans (by simp only [if_neg hmode, ← hen]))))

/-! ### Contact slots -/

/-- A change of a contact slot is a change to the slot that it gives. -/
theorem State.updIcc_to {n : Nat} {g : IccSlot → IccSlot} {x y : IccSlot} (hx : s.iccSlot n = x) (hg : g x = y) :
    s.updIcc n g = s.updIcc n fun _ => y := by
  rw [State.updIcc_const, hx, hg]

/-- A slot that deactivates with no command running reports nothing (R453). -/
theorem IccSlot.deactivate_idle {x : IccSlot} (dest : IccSt) (st : Half) (hrun : x.run = none) : x.deactivate dest st =
    { x with
      state := dest, power := false, classB := false, t1 := false, fi := 0, di := 0, clkKhz := 0, stop := 0, clkHigh := false, atr := [] } := by
  simp only [IccSlot.deactivate, hrun, Option.isSome_none, Bool.false_eq_true, if_false]

/-- A failure of an exchange deactivates the slot and is logged (R454). -/
theorem State.iccFail_running {n : Nat} (hrun : (s.iccSlot n).run = some true) :
    (s.iccFail n).cards = (s.updIcc n (IccSlot.deactivate .present Status.cardRemoved)).cards ∧ (s.iccFail n).mem = s.mem
      ∧ (s.iccFail n).keys = s.keys := by
  obtain ⟨c, hlogged⟩ := State.eventFree_eq (0x64 + n) 1 (s.updIcc n (IccSlot.deactivate .present Status.cardRemoved))
  rw [State.iccFail, if_pos hrun, hlogged]
  exact ⟨rfl, rfl, rfl⟩

/-- Settles O39: each command makes the change of its branch.  A usable ATR names T=0 or T=1 (log entry 127), and enabling a slot that
holds a card makes it present (log entry 69). -/
theorem completeContactSlots : Obligations.CompleteContactSlots := by
  unfold Obligations.CompleteContactSlots
  refine ⟨?inserted, ?removed, ?activate, ?activateEmpty, ?deactivate, ?exchange, ?badLength, ?atr, ?classB, ?noCard, ?waitExceeded,
    ?exchangeEnd, ?clockStop, ?enable⟩
  case inserted =>
    intro n x s hx hpres hen
    exact congrArg Host.Outcome.next (State.updIcc_to hx (by simp only [hpres, hen, Bool.false_eq_true, if_false, if_true]))
  case removed =>
    intro n tie x s hx hpres
    exact congrArg Host.Outcome.next (State.updIcc_to hx (if_pos hpres))
  case activate =>
    intro n x s hx hrun hstate
    exact congrArg Host.Outcome.next (State.updIcc_to hx ((if_neg (by simp [hrun])).trans (if_pos (.inl hstate))))
  case activateEmpty =>
    intro n x s hx hrun hstate
    refine congrArg Host.Outcome.next (State.updIcc_to hx ((if_neg (by simp [hrun])).trans ?_))
    rw [if_neg (by simp [hstate]), if_neg (by simp [hstate])]
    rfl
  case deactivate =>
    intro n x s hx hrun hstate
    refine congrArg Host.Outcome.next (State.updIcc_to hx ((if_pos ⟨rfl, hrun, .inl hstate⟩).trans ?_))
    rw [IccSlot.deactivate_idle _ _ hrun]
    rfl
  case exchange =>
    intro n x s hx hrun hstate hlen
    subst hx
    have hactive : ¬ ((s.iccSlot n.val).state ≠ .active ∧ (s.iccSlot n.val).state ≠ .clockStopped) := by tauto
    rw [exec_iccXchg, execIccXchg, if_neg (by simp [hrun]), if_neg hactive, if_neg (by simp [hlen])]
  case badLength =>
    intro n x s hx hrun hstate hlen
    subst hx
    rw [exec_iccXchg, execIccXchg, if_neg (by simp [hrun]), if_neg (by simp [hstate]), if_pos (by simp [hlen])]
    rfl
  case atr =>
    intro n atr ppsOk b g x s hx hstate hspecific hta hglobal hproto hclass
    have husable : ((!x.classB && !g.getLsbD 2) || decide (1 < (atrOf atr).proto)) = false := by
      rcases hclass with h | h <;> simp [h, hproto]
    refine congrArg Host.Outcome.next (State.updIcc_to hx ?_)
    simp only [hstate, hspecific, hta, hglobal, husable, Option.any_some, ne_eq, not_true, if_false, Bool.false_eq_true]
    rfl
  case classB =>
    intro n x s hx hstate hclass
    refine congrArg Host.Outcome.next (State.updIcc_to hx ((if_pos hstate).trans ?_))
    rw [IccSlot.noAtr, if_neg (by simp [hclass])]
  case noCard =>
    intro n x s hx hstate hclass
    exact congrArg Host.Outcome.next (State.updIcc_to hx ((if_pos hstate).trans (if_pos hclass)))
  case waitExceeded =>
    intro n s hrun
    exact ⟨_, rfl, State.iccFail_running hrun⟩
  case exchangeEnd =>
    intro n r s hrun
    exact congrArg Host.Outcome.next (if_pos hrun)
  case clockStop =>
    intro n x s hx hstate hrun hen hstop
    exact congrArg Host.Outcome.next (State.updIcc_to hx (if_pos ⟨hstate, hrun, hen, hstop⟩))
  case enable =>
    intro n v x s hx hen hset hpres
    have hchanges : ¬ x.en = v.getLsbD 0 := by simp [hen, hset]
    refine ⟨_, congrArg Host.Outcome.next ((if_neg (not_not.mpr rfl)).trans (State.updIcc_to hx
      ((if_neg hchanges).trans (if_pos hset)))), hset, if_pos hpres, rfl⟩

end

end Sys2Proof.Machine

/-! SUPPORT. The statements about the Cobbler: supervision, and the management protocols (17 R485-R493, 21 R577). -/

namespace Sys2Proof.Machine

section
variable {s : State}

/-! ### Supervision -/

/-- An event-log record changes the Cobbler's logs only. -/
theorem State.event_eq (unit cls : Nat) (d : Word) (s : State) : ∃ c, s.event unit cls d = s.withCob fun _ => c := by
  unfold State.event
  split
  · exact ⟨_, rfl⟩
  · exact ⟨s.cob, rfl⟩

/-- Settles O40: each command makes the change of its branch.  Sensor 18 updates INS_VBAT (log entry 85), and a known-answer test of a PKE
engine draws its 32 bytes in one request (log entry 111). -/
theorem completeCobbler : Obligations.CompleteCobbler := by
  unfold Obligations.CompleteCobbler
  refine ⟨?sampled, ?throttled, ?petted, ?expired, ?mismatch, ?restarted, ?released, ?cobbler, ?units, ?unitsOther, ?katCipher, ?katPke,
    ?katDigest, ?smbus⟩
  case sampled =>
    intro l s hreset hcool hwarm
    have hnot : ¬ (105000 ≤ (hottest l).1 ∧ s.cipher.half = false) := by omega
    have hstays : ¬ ((hottest l).1 ≤ 100000 ∧ s.cipher.half = true) := by
      rintro ⟨hcold, hhalf⟩
      rcases hwarm with hwarm | hfull
      · omega
      · exact absurd (hhalf.symm.trans hfull) nofun
    rw [exec_sensorRefresh, execSensorRefresh, if_neg (by simp [hreset]), if_neg hnot, if_neg hstays, ite_self]
  case throttled =>
    intro l s hreset hruns hhot hfull
    obtain ⟨c, hlogged⟩ := State.event_eq 0x1C 4 ((eighths (hottest l).1).setWidth 32) (((s.withCob (Cob.sample l)).withInsole fun i =>
      { i with vbatMv := (l.getD 18 0).setWidth 16 }).withCipher fun c => { c with half := true })
    rw [exec_sensorRefresh, execSensorRefresh, if_neg (by simp [hreset]), if_neg (by simp [hruns]), if_pos ⟨hhot, hfull⟩, hlogged]
    exact ⟨_, rfl, by simp, by simp, by simp, by simp⟩
  case petted =>
    intro c w v s hwriter hpet
    exact congrArg Host.Outcome.next (if_pos ⟨hwriter, hpet⟩)
  case expired =>
    intro c s hreset
    rw [exec_watchdogExpiry, exec_watchdogExpiry, execWatchdogExpiry, execWatchdogExpiry, if_neg (by simp [hreset]),
      if_pos (Bool.or_true _)]
    exact ⟨rfl, rfl⟩
  case mismatch =>
    intro c s hreset hhalted
    exact congrArg Host.Outcome.next (if_neg (by simp [hreset, hhalted]))
  case restarted =>
    intro c wedged t s hraised hcore hreset
    subst hraised
    exact if_pos ⟨hcore, hreset⟩
  case released =>
    intro c s hreset hhold husable hrunning himage
    obtain ⟨x, hlogged⟩ := State.eventFree_eq (0x18 + c.val) 3 (s.releaseCore c.val false)
    simp only [exec_coreRestartRelease, execCoreRestartRelease, hreset, hhold, husable, hrunning, himage, hlogged, Bool.not_false,
      Bool.and_self, decide_true, if_true]
    exact ⟨_, rfl, rfl, rfl, rfl, rfl⟩
  case cobbler =>
    intro s hhalted
    exact congrArg Host.Outcome.next (if_pos hhalted)
  case units =>
    intro m s
    exact congrArg Host.Outcome.next (if_pos rfl)
  case unitsOther =>
    intro w m s hother
    exact congrArg Host.Outcome.next (if_neg hother)
  case katCipher =>
    intro u s hruns hcipher hquar hcount
    have hstate : 2 ≤ cphState s u.val := by simp only [cphState, hquar, if_true, Nat.le_refl]
    rw [exec_katSchedule, execKatSchedule, if_neg (by simp [hruns]), dif_pos hcipher,
      if_pos (by rw [hquar, decide_eq_true hcount]; rfl), execCphKatRun, if_pos ⟨rfl, hstate⟩]
  case katPke =>
    intro u s hruns hlo hhi hstate hcount
    have hengine : (u.val - 16) % 4 = u.val - 16 := Nat.mod_eq_of_lt (by omega)
    rw [exec_katSchedule, execKatSchedule, if_neg (by simp [hruns]), dif_neg (by omega), if_pos hhi, execPkeKatRun]
    simp only [hengine]
    rw [if_pos ⟨nofun, hstate, hcount⟩]
  case katDigest =>
    intro u s hruns hlo hquar hcount
    have hunit : (u.val - 20) % 4 = u.val - 20 := Nat.mod_eq_of_lt (by omega)
    rw [exec_katSchedule, execKatSchedule, if_neg (by simp [hruns]), dif_neg (by omega), if_neg (by omega), execDigKatRun]
    simp only [hunit]
    rw [if_pos ⟨nofun, hquar, hcount⟩]
  case smbus =>
    intro s
    rfl

/-! ### Management protocols (R493) -/

/-- A request on an enabled port is served. -/
theorem State.onPort_served {f : State → State} (hruns : s.cobRuns = true) (hport : s.cob.mgtEn = true) : s.onPort f = f s :=
  if_pos (by rw [hruns, hport, Bool.and_self])

/-- A request is served while the Cobbler runs. -/
theorem State.onCob_served {f : State → State} (hruns : s.cobRuns = true) : s.onCob f = f s := if_pos hruns

/-- A request after the negotiation is served. -/
theorem State.negotiated_served {f : State → State} (hruns : s.cobRuns = true) (halgs : s.cob.spdm.algs = true) : s.negotiated f = f s :=
  (State.onCob_served hruns).trans (if_pos halgs)

/-- A request for the chain of slot 0 is served. -/
theorem State.withChain_served {f : State → State} (hruns : s.cobRuns = true) (halgs : s.cob.spdm.algs = true) (hchain : s.cob.chain ≠ []) :
    s.withChain 0 f = f s :=
  (State.negotiated_served hruns halgs).trans (if_pos ⟨rfl, hchain⟩)

/-- Settles O41: each request that is served makes the change and the reply of its branch.  Sensors 19 and 20 and the error codes are those
of log entry 84, and a signature is made on the lowest idle engine, or answered Busy (log entry 115). -/
theorem completeManagement : Obligations.CompleteManagement := by
  unfold Obligations.CompleteManagement
  refine ⟨?setEndpoint, ?getEndpoint, ?version, ?versionOther, ?types, ?pdr, ?sensor, ?enable, ?throttle, ?pair, ?getVersion, ?capabilities,
    ?algorithms, ?digests, ?digestsEarly, ?certificate, ?challenge, ?attestBusy, ?attest, ?measurementCount, ?measurement, ?keyExchange,
    ?finish, ?endSession, ?rawSamples⟩
  case setEndpoint =>
    intro e s hruns hport hzero hall
    exact congrArg Host.Outcome.next ((State.onPort_served hruns hport).trans (if_neg (not_or.mpr ⟨hzero, hall⟩)))
  case getEndpoint =>
    intro s hruns hport
    exact congrArg Host.Outcome.next (State.onPort_served hruns hport)
  case version =>
    intro t s hruns hport htype
    rw [exec_getMctpVersion, execGetMctpVersion, State.onPort_served hruns hport, if_pos (.inr htype)]
    rfl
  case versionOther =>
    intro t s hruns hport hall htype
    rw [exec_getMctpVersion, execGetMctpVersion, State.onPort_served hruns hport,
      if_neg (by simp only [hall, htype, or_self, Bool.false_eq_true, not_false_eq_true])]
    rfl
  case types =>
    intro s hruns hport
    exact congrArg Host.Outcome.next (State.onPort_served hruns hport)
  case pdr =>
    intro r s hruns hport hrecord
    rw [exec_getPdr, execGetPdr, State.onPort_served hruns hport, if_pos hrecord]
    rfl
  case sensor =>
    intro n s hruns hport hsensor henabled
    rw [exec_getSensorReading, execGetSensorReading, State.onPort_served hruns hport, if_neg (Nat.not_lt.mpr hsensor),
      if_neg (not_not.mpr henabled)]
    rfl
  case enable =>
    intro n op ev s hruns hport hsensor hop
    exact congrArg Host.Outcome.next ((State.onPort_served hruns hport).trans (if_neg (by omega)))
  case throttle =>
    intro s hruns hport
    exact congrArg Host.Outcome.next (State.onPort_served hruns hport)
  case pair =>
    intro s hruns hport
    exact congrArg Host.Outcome.next (State.onPort_served hruns hport)
  case getVersion =>
    intro s hruns
    exact congrArg Host.Outcome.next (State.onCob_served hruns)
  case capabilities =>
    intro s hruns hversion
    rw [exec_getCapabilities, execGetCapabilities, State.onCob_served hruns, if_neg (by simp [hversion]), if_neg (not_not.mpr rfl)]
    rfl
  case algorithms =>
    intro s hruns hcaps
    rw [exec_negotiateAlgorithms, execNegotiateAlgorithms, State.onCob_served hruns, if_neg (by simp [hcaps])]
    rfl
  case digests =>
    intro s hruns halgs hchain
    rw [exec_getDigests, execGetDigests, State.negotiated_served hruns halgs, if_neg hchain]
    rfl
  case digestsEarly =>
    intro s hruns halgs
    exact congrArg Host.Outcome.next ((State.onCob_served hruns).trans (if_neg (by simp [halgs])))
  case certificate =>
    intro offset len s hruns halgs hoffset
    have hchain : s.cob.chain ≠ [] := List.length_pos_iff.mp (Nat.zero_lt_of_lt hoffset)
    exact congrArg Host.Outcome.next ((State.withChain_served hruns halgs hchain).trans (if_pos hoffset))
  case challenge =>
    intro nonce s hruns halgs hchain
    exact congrArg Host.Outcome.next (State.withChain_served hruns halgs hchain)
  case attestBusy =>
    intro kind parts k s hnone
    rw [State.attest, hnone]
    rfl
  case attest =>
    intro kind n parts k s hsome
    rw [State.attest, hsome]
  case measurementCount =>
    intro nonce s hruns halgs
    exact congrArg Host.Outcome.next (State.negotiated_served hruns halgs)
  case measurement =>
    intro index nonce s hruns halgs hlo hhi
    have hzero : index ≠ 0 := by rintro rfl; exact absurd hlo (by decide)
    have hall : index ≠ 0xFF := by rintro rfl; exact absurd hhi (by decide)
    have hindex : index.toNat - 1 + 1 = index.toNat := Nat.sub_add_cancel hlo
    simp only [exec_getMeasurements, execGetMeasurements, State.negotiated_served hruns halgs, if_neg hzero, if_neg hall, if_pos hhi, hindex,
      Bool.false_eq_true, if_false]
    rfl
  case keyExchange =>
    intro random doe s hruns halgs hchain hsession
    exact congrArg Host.Outcome.next ((State.withChain_served hruns halgs hchain).trans (if_neg (by simp [hsession])))
  case finish =>
    intro x s hruns hsession hopen
    simp only [exec_finish, execFinish, State.onCob_served hruns, hsession, hopen, Bool.false_eq_true, if_false, if_true]
    exact ⟨rfl, rfl⟩
  case endSession =>
    intro x s hruns hsession
    exact congrArg Host.Outcome.next ((State.onCob_served hruns).trans (if_pos (by rw [hsession]; rfl)))
  case rawSamples =>
    intro n s hruns haudit hopen
    exact congrArg Host.Outcome.next ((State.onCob_served hruns).trans (if_pos (by rw [haudit, hopen, Bool.and_self])))

end

end Sys2Proof.Machine

/-! SUPPORT. What a frame of the Welt link that arrives leads to, and the statement about the link and the pair (16 R459-R474, R484). -/

namespace Sys2Proof.Machine

section
variable {s : State} {fr : WeltRx}

/-- A protected frame that is heard is taken where it opens, and else discarded (R460, R462). -/
theorem State.weltTake_heard {type : Byte} {k : List Byte → State → State} (hheard : s.weltHears fr = true) :
    s.weltTake type fr k = match s.weltGot type fr with
      | .plain p => k p (s.withWelt fun w => { w with rxNext := fr.counter.toNat + 1 })
      | g => s.weltDiscard g fr.lane.val :=
  if_neg (by simp [hheard])

/-- A clear frame that is heard with a good CRC is taken (R460). -/
theorem State.weltClear_heard {type : Byte} {k : List Byte → State → State} (hheard : s.weltHears fr = true)
    (hcrc : weltCrcOk type fr = true) : s.weltClear type fr k = k fr.body s :=
  (if_neg (by simp [hheard])).trans (if_pos hcrc)

/-- A HELLO of version 1 that is heard leads to what its identifiers and its sender's state say (R461 step 2, R473). -/
theorem execHello_heard {carrying : Bool} (hheard : s.weltHears fr = true) (hcrc : weltCrcOk 0x21 fr = true) (hlen : fr.body.length = 56)
    (hversion : (Hello.ofBytes fr.body carrying).version = 1) :
    execHello fr carrying s = .next (
      let b := Hello.ofBytes fr.body carrying
      let s1 := s.withWelt fun w => { w with partner := b.device, partnerEpoch := b.epoch }
      if helloBad s b then
        let s2 := s1.withWelt fun w => { w with err := setBit w.err 3 true, hello := none }
        if s.welt.state = .linking then s2.enterPair .unpaired else s2
      else
        let s2 := s1.withWelt fun w => { w with hello := some b }
        if b.carrying ∧ s.welt.state ≠ .given ∧ s.welt.state ≠ .fenced then (s2.withRings Rings.stopAll).enterPair .given else s2) :=
  congrArg Host.Outcome.next ((State.weltClear_heard hheard hcrc).trans (if_neg (by simp [hlen, hversion])))

/-- A takeover from a read or a stale word needs DEGRADED and no DEPART seen. -/
theorem execPartnerWordStale_stays {scan : List (Fin 16384 × List Bool)} {us : Word} {tie : Bool}
    (hnot : s.welt.state ≠ .degraded ∨ s.welt.departSeen = true ∨ tie = true) : execPartnerWordStale scan us tie s = .next s := by
  refine congrArg Host.Outcome.next (if_neg ?_)
  rcases hnot with h | h | h <;> simp [h]

/-- Settles O47: each command leads to its branch.  The time of a takeover from a word read is a free value (log entry 4), and a CONFIRM that
opens and does not name the two members sets the key-confirmation error (log entry 73). -/
theorem completeWelt : Obligations.CompleteWelt := by
  unfold Obligations.CompleteWelt
  refine ⟨?config, ?laneLock, ?linkUp, ?laneLoss, ?hello, ?helloGiven, ?helloBad, ?sessionKey, ?confirm, ?confirmed, ?confirmedOther,
    ?heartbeat, ?mirror, ?ack, ?depart, ?idle, ?badFrame, ?badClear, ?crc, ?discard, ?heartbeatSend, ?fenced, ?ownWord, ?ownWordOff,
    ?partnerWord, ?partnerDeparted, ?stale, ?staleNot, ?resend, ?resendNone⟩
  case config =>
    intro v s
    exact ⟨congrArg Host.Outcome.next (if_pos rfl), congrArg Host.Outcome.next (if_neg nofun), congrArg Host.Outcome.next (if_neg nofun)⟩
  case laneLock =>
    intro l s hen hunlocked hlanes
    exact congrArg Host.Outcome.next ((if_pos (by rw [hen, hunlocked]; rfl)).trans (if_neg hlanes))
  case linkUp =>
    intro l s hen hlanes
    have hunlocked : s.welt.lanes.getLsbD l.val = false := by rw [hlanes]; exact BitVec.getLsbD_zero
    exact congrArg Host.Outcome.next ((if_pos (by rw [hen, hunlocked]; rfl)).trans (if_pos hlanes))
  case laneLoss =>
    intro l s hlocked
    exact congrArg Host.Outcome.next (if_pos hlocked)
  case hello =>
    intro fr c s hheard hcrc hlen hversion hgood hcarrying
    rw [exec_hello, execHello_heard hheard hcrc hlen hversion]
    simp only [hgood, Bool.false_eq_true, if_false]
    rw [if_neg (by rintro ⟨hc, -⟩; exact absurd (hcarrying.symm.trans hc) nofun)]
  case helloGiven =>
    intro fr c s hheard hcrc hlen hversion hgood hcarrying hgiven hfenced
    rw [exec_hello, execHello_heard hheard hcrc hlen hversion]
    simp only [hgood, Bool.false_eq_true, if_false]
    rw [if_pos ⟨hcarrying, hgiven, hfenced⟩]
  case helloBad =>
    intro fr c s hheard hcrc hlen hversion hbad hlinking
    rw [exec_hello, execHello_heard hheard hcrc hlen hversion]
    simp only [hbad, if_true, if_neg hlinking]
  case sessionKey =>
    intro b r c s hhello hpair hup hnone hcore
    have hready : (s.welt.up && s.welt.sessionKey.isNone) = true := by rw [hup, hnone]; rfl
    simp only [exec_weltSessionKeyReady, execWeltSessionKeyReady, hhello, hpair, hready, hcore]
    generalize s.fwKdf c r (ascii "CX-WELT") (s.sessionContext b) 32 = derived
    obtain ⟨_ | key, t⟩ := derived
    · rfl
    · rfl
  case confirm =>
    intro fr s hheard
    exact congrArg Host.Outcome.next (if_neg (by simp [hheard]))
  case confirmed =>
    intro p n b s hhello hnames
    simp only [State.confirmed, hhello, if_pos hnames]
  case confirmedOther =>
    intro p n b s hhello hnames
    simp only [State.confirmed, hhello, if_neg hnames]
  case heartbeat =>
    intro fr s hheard
    exact congrArg Host.Outcome.next (State.weltTake_heard hheard)
  case mirror =>
    intro fr seq r s hheard
    exact congrArg Host.Outcome.next (State.weltTake_heard hheard)
  case ack =>
    intro fr s hheard
    exact congrArg Host.Outcome.next (State.weltTake_heard hheard)
  case depart =>
    intro fr s hheard
    exact congrArg Host.Outcome.next (State.weltTake_heard hheard)
  case idle =>
    intro s
    rfl
  case badFrame =>
    intro type fr s hheard htype
    exact congrArg Host.Outcome.next ((if_neg (by simp [htype])).trans (if_pos hheard))
  case badClear =>
    intro type fr s hheard htype hcrc
    exact congrArg Host.Outcome.next ((if_pos htype).trans ((if_neg (by simp [hheard])).trans (if_neg (by simp [hcrc]))))
  case crc =>
    intro type fr s hcrc
    exact if_pos (by rw [hcrc]; rfl)
  case discard =>
    intro l s
    exact ⟨rfl, rfl, rfl, rfl⟩
  case heartbeatSend =>
    intro s hup hconfirmed
    exact congrArg Host.Outcome.next (if_pos (by rw [hup, hconfirmed]; rfl))
  case fenced =>
    intro word s hen hstate hown htaken hdevice
    have hon : ¬ (!s.welt.en || decide (s.welt.state = .fenced)) = true := by simp [hen, hstate]
    exact congrArg Host.Outcome.next ((if_neg hon).trans (if_pos (by simp [hown, htaken, hdevice])))
  case ownWord =>
    intro word a s hen hstate hword haddr
    have hon : ¬ (!s.welt.en || decide (s.welt.state = .fenced)) = true := by simp [hen, hstate]
    have htaken : ¬ (s.welt.ownWord && decide (wordState word = 3 ∧ wordDevice word = s.welt.partner)) = true := by
      rcases hword with h | h | h <;> simp [h]
    rw [exec_hostWordWrite, execHostWordWrite, if_neg hon, if_neg htaken, haddr]
  case ownWordOff =>
    intro word s hoff
    refine congrArg Host.Outcome.next (if_pos ?_)
    rcases hoff with h | h <;> simp [h]
  case partnerWord =>
    intro word scan s hen hfenced hstate
    have hon : ¬ (!s.welt.en || decide (s.welt.state = .fenced)) = true := by simp [hen, hfenced]
    exact congrArg Host.Outcome.next ((if_neg hon).trans (if_neg (by simp [hstate])))
  case partnerDeparted =>
    intro word scan s hen hstate hseen hword
    have hon : ¬ (!s.welt.en || decide (s.welt.state = .fenced)) = true := by simp [hen, hstate]
    refine congrArg Host.Outcome.next ((if_neg hon).trans ((if_pos (by simp [hstate, hword, hseen])).trans ?_))
    rw [hword]
    rfl
  case stale =>
    intro scan us s hstate hseen
    exact congrArg Host.Outcome.next (if_pos (by simp [hstate, hseen]))
  case staleNot =>
    intro scan us tie s hnot
    exact execPartnerWordStale_stays hnot
  case resend =>
    intro seq m s hwaits
    rw [exec_mirrorResend, execMirrorResend, hwaits]
  case resendNone =>
    intro seq s hwaits
    rw [exec_mirrorResend, execMirrorResend, hwaits]

end

end Sys2Proof.Machine
